-- ==== Sys2Proof/Word.lean ====
section
/-! DEFINITION. The words the block's registers, frames and payloads are made of. -/

namespace Sys2Proof

/-- One byte of a mailbox, a frame, an image or a NOR slot. -/
abbrev Byte := BitVec 8

/-- A run of bytes, lowest address first. -/
abbrev Bytes := List Byte

/-- The 32-bit register word of R6 to R10. -/
abbrev U32 := BitVec 32

end Sys2Proof
end

