-- ==== Sys2Proof/Syntax/Operands.lean ====
section
/-! DEFINITION. The data that commands and events bring with them, as the outside world supplies it. -/

namespace Sys2Proof

/-- A mailbox command as the host left it in mailbox `mbox` and rang it (R132, R133). The command code is the
row's own. Fields that R132 wants written as 0 are kept as written, so that step 1 of R139 can refuse them. -/
structure Mail where
  /-- The mailbox, 0 to 7. -/
  mbox : Nat
  /-- FLAGS. -/
  flags : Nat
  /-- SEQ. -/
  seq : Nat
  /-- LEN. -/
  len : Nat
  /-- The reserved bytes 0x0A and 0x0B. -/
  rsv1 : Bytes
  /-- SESSION. -/
  session : Nat
  /-- Bytes 0x10 to 0x1F: STATUS, REASON, PARAM_ID and the reserved bytes. -/
  rsv2 : Bytes
  /-- The payload. -/
  payload : Bytes
  /-- The tag, empty when FLAGS.AUTH is 0. -/
  tag : Bytes
  deriving DecidableEq, Repr

/-- The dataset of an Announce message as IEEE 1588 carries it (R320, R340). -/
structure Announce where
  gmPriority1 : Nat := 0
  gmClass : Nat := 0
  gmAccuracy : Nat := 0
  gmVariance : Nat := 0
  gmPriority2 : Nat := 0
  gmId : Nat := 0
  stepsRemoved : Nat := 0
  /-- Source port identity: clockIdentity and portNumber. -/
  srcId : Nat := 0
  srcPort : Nat := 0
  timeSource : Nat := 0
  utcOffset : Int := 0
  utcValid : Bool := false
  leap61 : Bool := false
  leap59 : Bool := false
  ptpTimescale : Bool := true
  timeTraceable : Bool := false
  frequencyTraceable : Bool := false
  deriving DecidableEq, Repr

/-- The header of a schedule block (R223), with the Ox cycles that the block waited for DRAM beyond them, in ns. -/
structure BlockHead where
  cycles : Nat
  bursts : Nat
  /-- The lane groups that the block uses, one bit each. -/
  groups : Nat
  dramNs : Nat := 0
  deriving DecidableEq, Repr

/-- A CAN frame as it was received, with the ONT of its SOF sample point (R476, R488). -/
structure CanFrame where
  ide : Bool
  ident : Nat
  remote : Bool
  fdf : Bool
  brs : Bool
  esi : Bool
  dlc : Nat
  data : Bytes
  ts : Nat
  deriving DecidableEq, Repr

/-- A register in the configuration space of the PCI Express function (R122, R131). -/
inductive CfgReg where
  /-- The command register. -/
  | command
  /-- BAR0, and the 64 bits of BAR2/3. -/
  | bar0
  | bar2
  /-- Power management control: 3 in its low bits is D3hot. -/
  | power
  /-- AER status, cleared by writing 1. -/
  | aerUncorr
  | aerCorr
  /-- MSI-X message control: enable is bit 15, function mask bit 14. -/
  | msix
  /-- The per-vector mask bits of the MSI-X table. -/
  | vecMask
  deriving DecidableEq, Repr

/-- A Pdelay_Req or Delay_Req as it came in: sequenceId and correctionField (R322, R323). -/
structure DelayReq where
  seq : Nat
  corr : Int
  deriving DecidableEq, Repr

/-- An edge on an input ball: the level after it, and for how many samples of 40 ns the ball then stays there (R62; log 42). -/
structure EdgeIn where
  level : Bool
  samples : Nat
  deriving DecidableEq, Repr

/-- An edge on a coarse step input, as `EdgeIn`, and whether its direction input counts up (R384). -/
structure StepIn where
  level : Bool
  samples : Nat
  up : Bool
  deriving DecidableEq, Repr

/-- An edge on an encoder's ball A or B, as `EdgeIn` (R385). -/
structure EncIn where
  chB : Bool
  level : Bool
  samples : Nat
  deriving DecidableEq, Repr

/-- What a capture holds as its trigger sample comes: the samples gathered before it, and the two samples at the level (R436). -/
structure TrigIn where
  gathered : Nat
  prev : Int
  cur : Int
  deriving DecidableEq, Repr

/-- What a start meets outside the block (R45, R100, R105, R109). -/
structure StartIn where
  /-- NOR_MODE is high: Octal SPI. Sampled at a release of main reset. -/
  octal : Bool := false
  /-- PAIR_UNIT is high: unit B. Sampled at a release of main reset. -/
  unitB : Bool := false
  /-- DRAM training succeeds. -/
  dramOk : Bool := true
  /-- The last stage code that the start reaches before it stalls; 15 for a start that reaches READY. -/
  stall : Nat := 15
  /-- The time from step 1 to READY in ms. -/
  ms : Nat := 0
  /-- The recorder areas whose slot at the write point a supply loss damaged: 0 circulating, 1 permanent, 2 status (R552). -/
  torn : List Nat := []
  /-- The ring positions, by ring and number, whose erase was cut short (R552). -/
  cut : List (Nat × Nat) := []
  /-- The unflushed records in MGMT SRAM whose CRC-32C fails, by place in the buffer (R109). -/
  badRecs : List Nat := []
  /-- Bytes that DRAM lost in the copies of the resource section, of the model image and of the staged model image, by
  offset (R100, R203). -/
  resLost : List (Nat × Byte) := []
  modelLost : List (Nat × Byte) := []
  stagedLost : List (Nat × Byte) := []
  /-- The first readings of the temperature sensors, Q9.7 °C, and of the supply monitors, mV (R113). -/
  temps : List Int := []
  mvs : List Nat := []
  deriving DecidableEq, Repr

/-- What the scrubber found: the word's address, the single-bit errors corrected since it last reported, and what a start that
follows meets (R34). -/
structure ScrubIn where
  addr : Nat
  corr : Nat
  start : StartIn
  deriving DecidableEq, Repr

/-- A failed instruction fetch: its address, whether ECC failed there, and what the start that follows meets (R94). -/
structure FetchIn where
  addr : Nat
  ecc : Bool
  start : StartIn
  deriving DecidableEq, Repr

end Sys2Proof
end

