-- ==== Sys2Proof/Syntax.lean ====
section
/-! DEFINITION. The commands and events the block takes: one constructor per row of spec/opcode_table.json,
named after the row, with the data the row brings with it. -/

namespace Sys2Proof

/-- The commands, events and timer expiries of the block, in the table's order. -/
inductive Instr where
  /-- POR_N_ASSERT (R47): POR_N low resets the whole part, the AON island included, and clears every AON-retained item. -/
  | porNAssert
  /-- POR_N_RELEASE (R51): POR_N goes high, AON starts on its RC oscillator and asserts PWR_EN so that the rail groups rise. -/
  | porNRelease
  /-- PMIC_PG_RISE (R51): PMIC_PG goes high to show all rails in regulation, and the wait for a stable 25 MHz oscillator begins. -/
  | pmicPgRise
  /-- MAIN_RESET_RELEASE (R100): Main reset is released, the straps are sampled and the boot ROM runs the full start. -/
  | mainResetRelease (x : StartIn)
  /-- PG_TIMEOUT (R52): PMIC_PG is not high within 100 ms of PWR_EN, so AON drops PWR_EN and sets PG_TIMEOUT. -/
  | pgTimeout
  /-- PWR_EN_REASSERT (R53): After the 1 s wait, or 60 s after a thermal shut-down, AON reasserts PWR_EN. -/
  | pwrEnReassert
  /-- PMIC_PG_FALL (R53): PMIC_PG falls while PWR_EN is high, so every island except AON is reset and PWR_EN drops. -/
  | pmicPgFall
  /-- PFAIL_N_FALL (R89): A falling edge on PFAIL_N is latched into PFAIL_LATCH with the ONT of the first cause. -/
  | pfailNFall
  /-- PFAIL_QUIET_TIMEOUT (R90): PFAIL_N has stayed high for 100 ms with no other cause, so Malor raises EV_POWER_PFAIL and clears the latch. -/
  | pfailQuietTimeout
  /-- XTAL25_FAIL (R88): The 25 MHz oscillator is absent or off frequency, which is acted on as a fall of PMIC_PG. -/
  | xtal25Fail
  /-- PLL_UNLOCK (R88): A PLL loses lock for more than 1 µs and is relocked; a second loss within 1 s counts as a 25 MHz failure. -/
  | pllUnlock (pll : Nat)
  /-- XTAL32_FAIL (R88): The 32.768 kHz crystal is absent for more than 100 ms, so EV_POWER_XTAL32_FAIL is raised. -/
  | xtal32Fail
  /-- WATCHDOG_EXPIRY (R108): The AON watchdog expires, writes BOOT_FAIL and resets MGMT alone. -/
  | watchdogExpiry (x : StartIn)
  /-- READY_TIMER_EXPIRY (R105): The 120 s ready timer expires before READY, so AON writes BOOT_FAIL and resets MGMT alone. -/
  | readyTimerExpiry (x : StartIn)
  /-- RESTART_DELAY_EXPIRY (R603): 10 ms after the MGMT_RESTART response, Malor restarts in the requested mode. -/
  | restartDelayExpiry (x : StartIn)
  /-- WDT_KICK (R108): A write of 0x0000_5A17 to WDT_KICK restarts the watchdog count. -/
  | wdtKick (value : Nat)
  /-- TEMP_THRESHOLD_CROSS (R114): A temperature sensor crosses WARN, HOT or SHUT, with the action given for that threshold. -/
  | tempThresholdCross (temps : List Int)
  /-- OX_POINT_STEP_TIMER (R114): Every 10 s under thermal protection, Malor lowers or raises the OX operating point by one step. -/
  | oxPointStepTimer
  /-- SUPPLY_MONITOR_FAULT (R113): A rail is out of range for more than 10 µs, so its LOW or HIGH flag is set and EV_MGMT_SUPPLY is raised. -/
  | supplyMonitorFault (n mv : Nat) (low : Bool)
  /-- LOAD_WINDOW_END (R111): At the end of each 1 s load window Malor adjusts the shed level. -/
  | loadWindowEnd (load : Nat)
  /-- TELEMETRY_AGGREGATION (R110): Every second Malor aggregates telemetry as class 7 work. -/
  | telemetryAggregation
  /-- MALOR_IDLE_ENTER (R72): Malor has no work, so the management core stops its clock and the part is in IDLE. -/
  | malorIdleEnter
  /-- MALOR_IDLE_EXIT (R77): A Malor interrupt restarts the core clock, and IDLE ends. -/
  | malorIdleExit
  /-- POWER_STATE_SET (R73): The host requests RUN, SLEEP, DEEP or OFF, with an optional WAKE_EN setting. -/
  | powerStateSet (m : Mail)
  /-- ENTRY_STEP_DONE (R76): A device-state entry step ends and the next entry step begins. -/
  | entryStepDone
  /-- WAKE_PIN_RISE (R74): A filtered rising edge on WAKE is latched and, where enabled, wakes the part. -/
  | wakePinRise
  /-- ETH_LINK_WAKE (R74): A falling edge on ETHn_INT_N is latched as a link wake. -/
  | ethLinkWake (p : Nat)
  /-- CAN_WAKE (R74): A filtered low level on CANn_RX while in standby is latched as a CAN wake. -/
  | canWake (c : Nat)
  /-- WAKE_FRAME (R75): A frame that matches the wake token is received in SLEEP or DEEP and wakes the part. -/
  | wakeFrame (p : Nat) (frame : Bytes)
  /-- EXIT_COMPLETE (R77): The exit sequence to RUN ends with Malor running, and the EV_POWER_STATE events are raised. -/
  | exitComplete (lost : List (Nat × Byte))
  /-- SAVE_TIMER_EXPIRY (R462): An accumulator save falls due, which wakes the part from SLEEP if needed. -/
  | saveTimerExpiry
  /-- POWER_OPP_SET (R84): The host requests new VDD_OX or VDD_SOC operating points. -/
  | powerOppSet (m : Mail)
  /-- PMIC_VACK_RISE (R83): The PMIC acknowledges a voltage change, and the power controller continues the operating-point change. -/
  | pmicVackRise
  /-- PMIC_VACK_TIMEOUT (R85): PMIC_VACK has not risen within 2 ms, so the previous voltage is requested again. -/
  | pmicVackTimeout
  /-- PLL_RELOCK_DONE (R86): A relocked PLL locks at its new frequency, and the clocks switch back. -/
  | pllRelockDone (pll : Nat)
  /-- POWER_CLK_SPREAD_SET (R87): The host sets spreading of the SYS and OX PLLs. -/
  | powerClkSpreadSet (m : Mail)
  /-- POWER_WAKE_TOKEN_SET (R75): The host sets the 16-byte wake token held in AON. -/
  | powerWakeTokenSet (m : Mail)
  /-- ISLAND_WAKE_DONE (R68): An island reaches ON after its wake. -/
  | islandWakeDone (n : Nat)
  /-- ISLAND_POWERDOWN_DONE (R68): An island power-down ends, and any enable pending on it is carried out. -/
  | islandPowerdownDone (n : Nat)
  /-- OX_IDLE_HOLD_EXPIRY (R70): Ox has been idle with nothing armed for OX_IDLE_HOLD, so OX is switched OFF. -/
  | oxIdleHoldExpiry
  /-- OX_WAKE_LEAD (R70): OX_WAKE_LEAD before an estimation boundary, OX is returned to ON. -/
  | oxWakeLead
  /-- MGMT_STATUS_GET (R602): Returns boot state, slots, versions and OTP counters in 128 bytes. -/
  | mgmtStatusGet (m : Mail)
  /-- MGMT_RESTART (R603): Clears IN_START, flushes the recorder, responds and schedules a warm, full or MINIMAL restart. -/
  | mgmtRestart (m : Mail)
  /-- MGMT_CONFIG_SAVE (R99): Writes the current configuration to the next parameter store. -/
  | mgmtConfigSave (m : Mail)
  /-- UPDATE_BEGIN (R120): Opens an update and erases the inactive slot of the type. -/
  | updateBegin (m : Mail)
  /-- UPDATE_DATA (R120): Programs a range of image bytes into the slot being updated. -/
  | updateData (m : Mail)
  /-- UPDATE_FINISH (R120): Checks completeness, header, variant, signature and rollback of the updated slot. -/
  | updateFinish (m : Mail)
  /-- UPDATE_ACTIVATE (R121): Writes a boot record that makes the new slot active on trial and starts it. -/
  | updateActivate (m : Mail)
  /-- UPDATE_COMMIT (R121): Ends a trial, raises the OTP rollback counter and raises EV_MGMT_UPDATE_COMMIT. -/
  | updateCommit (m : Mail)
  /-- UPDATE_ABORT (R119): Closes an open update and leaves the slot unbootable. -/
  | updateAbort (m : Mail)
  /-- PARAM_READ (R145): Returns the values and flags of up to 80 parameters. -/
  | paramRead (m : Mail)
  /-- PARAM_WRITE (R146): Writes up to 80 parameters all-or-nothing; LIVE values commit at their block boundaries. -/
  | paramWrite (m : Mail)
  /-- PARAM_TABLE_READ (R145): Returns a byte range of a table parameter. -/
  | paramTableRead (m : Mail)
  /-- PARAM_TABLE_WRITE (R145): Writes a byte range of a table parameter. -/
  | paramTableWrite (m : Mail)
  /-- PARAM_INFO (R145): Returns the type, unit, range, default and attributes of a parameter. -/
  | paramInfo (m : Mail)
  /-- SUBSYS_ENABLE (R150): Runs the consistency check and enables a unit, or answers PENDING during a shut-down. -/
  | subsysEnable (m : Mail)
  /-- SUBSYS_DISABLE (R151): Starts a unit's shut-down sequence, or cancels a pending enable. -/
  | subsysDisable (m : Mail)
  /-- SUBSYS_STATE_GET (R148): Returns a unit's state: DISABLED, ENABLED, STOPPING or enable pending. -/
  | subsysStateGet (m : Mail)
  /-- SUBSYS_CHECK (R149): Runs a unit's consistency check without enabling it. -/
  | subsysCheck (m : Mail)
  /-- SHUTDOWN_SEQUENCE_END (R151): A shut-down sequence ends; a pending enable is checked again and carried out. -/
  | shutdownSequenceEnd (sub unit : Nat)
  /-- DB_WAKE_WRITE (R74): Any write to DB_WAKE is a doorbell wake and has no other effect. -/
  | dbWakeWrite
  /-- EVT_STATUS_WRITE (R131): A W1C write to EVT_STATUS clears sources, and MSI-X is sent again for every vector still pending. -/
  | evtStatusWrite (n value : Nat)
  /-- EVT_MASK_WRITE (R131): A write to EVT_MASK changes the masks, and MSI-X is sent again for every vector still pending. -/
  | evtMaskWrite (n value : Nat)
  /-- ONT_SNAP_REQ_WRITE (R316): A write to ONT_SNAP_REQ captures ONT, its fraction and the status, and increments ONT_SNAP_SEQ. -/
  | ontSnapReqWrite
  /-- SPI_STATUS_FRAME (R126): An SPI status frame returns SPI_STAT, which includes FRAME_ERR since the last status frame. -/
  | spiStatusFrame
  /-- PCIE_LINK_DOWN (R125): PCIE_PERST_N low or a link loss resets the PCI Express core and raises EV_HOST_LINK_DOWN. -/
  | pcieLinkDown
  /-- REGISTER_WRITE (R9): A write to a register with no row of its own, under its access type and the rules on reserved or discarded
      writes. -/
  | registerWrite (bar2 : Bool) (offset : Nat) (data : Bytes) (enables : List Bool)
  /-- WAKE_LATCH_CLEAR (R79): Malor clears WAKE_LATCH bits; at 0, WAKE_FIRST and WAKE_TICK return to 0. -/
  | wakeLatchClear (mask : Nat)
  /-- PFAIL_LATCH_CLEAR (R92): A write of 0 to FIRST clears CAUSE, OVF and PG_TIMEOUT. -/
  | pfailLatchClear
  /-- PAD_GRP_CFG_WRITE (R63): A write to PAD_GRP_CFGn takes effect within 100 ns with no spurious edge. -/
  | padGrpCfgWrite (n value : Nat)
  /-- SEC_SESSION_OPEN (R162): Runs ECDH with the host's ephemeral key and returns a session ID and a signed transcript. -/
  | secSessionOpen (m : Mail)
  /-- SEC_SESSION_CONFIRM (R163): Verifies the operator signature and derives the session keys. -/
  | secSessionConfirm (m : Mail)
  /-- SEC_SESSION_CLOSE (R164): Ends a session and clears its slots. -/
  | secSessionClose (m : Mail)
  /-- SESSION_OPENING_TIMEOUT (R164): An OPENING session that is not confirmed within 10 s is discarded. -/
  | sessionOpeningTimeout (k : Nat)
  /-- SESSION_IDLE_TIMEOUT (R164): A session with no accepted command for SEC_SESSION_IDLE ends. -/
  | sessionIdleTimeout (k : Nat)
  /-- SEC_KEY_IMPORT (R167): Decrypts a secret, wraps it into the provisioning record and replaces its slot. -/
  | secKeyImport (m : Mail)
  /-- SEC_KEY_CLEAR (R167): Empties an imported key position in the provisioning record and in its slot. -/
  | secKeyClear (m : Mail)
  /-- SEC_OTP_KEY_SET (R170): Programs a public key into OTP, reads it back and loads its slot. -/
  | secOtpKeySet (m : Mail)
  /-- SEC_KEY_REVOKE (R170): Sets a KEY_REVOKE bit and empties the slot. -/
  | secKeyRevoke (m : Mail)
  /-- SEC_LIFECYCLE_ADVANCE (R171): Advances the lifecycle by one state, with the RETIRED erasures where they apply. -/
  | secLifecycleAdvance (m : Mail)
  /-- SEC_ENROL (R174): Enrols the PUF, writes both helper copies and regenerates the root. -/
  | secEnrol (m : Mail)
  /-- SEC_DIK_GET (R175): Returns the UID and the DIK public key. -/
  | secDikGet (m : Mail)
  /-- SEC_CERT_WRITE (R175): Writes certificate bytes into the staging area. -/
  | secCertWrite (m : Mail)
  /-- SEC_CERT_COMMIT (R175): Checks the staged certificates and stores them in the provisioning record. -/
  | secCertCommit (m : Mail)
  /-- SEC_CERT_GET (R176): Returns a range of the device certificate or of the issuing CA certificate. -/
  | secCertGet (m : Mail)
  /-- SEC_ATTEST (R177): Returns an attestation statement signed by the DIK. -/
  | secAttest (m : Mail)
  /-- DRBG_HEALTH_FAIL (R156): An entropy health test fails, so the DRBG halts and EV_SEC_DRBG_FAIL is raised. -/
  | drbgHealthFail
  /-- MODEL_INFO_GET (R204): Returns the model state, slot, signatures, tsw and counts. -/
  | modelInfoGet (m : Mail)
  /-- MODEL_TRIAL_REVERT (R202): Cancels a pending model switch, or reverts to the fallback model slot. -/
  | modelTrialRevert (m : Mail)
  /-- MODEL_SUBST_WRITE (R211): Writes up to 24 sub-station entries from the host through the entry-update path. -/
  | modelSubstWrite (m : Mail)
  /-- ATTRIBUTE_PASS (R212): 5 ms before tsw, the sub-station table is rewritten under the new model's attributes. -/
  | attributePass
  /-- MODEL_SWITCH (R200): At tsw the staged model comes into effect, and the old dispatch solve is aborted. -/
  | modelSwitch
  /-- MODEL_COPY_ECC (R214): An uncorrectable error in the DRAM model copy makes Malor reload it from the slot. -/
  | modelCopyEcc (sectType : Nat)
  /-- ESTIMATION_BOUNDARY (R19): Trigger 14 fires at t0; the snapshot is taken and NEWTON_JOB is armed. -/
  | estimationBoundary
  /-- OX_QQ_ARM (R224): A write to OX_Qq_ARM arms a job in queue q with its deadline. -/
  | oxQqArm (q prog iterLimit deadline : Nat) (bench : Bool)
  /-- OX_QQ_ABORT (R227): A write to OX_Qq_ABORT starts the solver abort of queue q. -/
  | oxQqAbort (q : Nat)
  /-- OX_BLOCK_END (R223): A schedule block ends, and suspension, relock or stop take effect at the boundary. -/
  | oxBlockEnd (q : Nat) (h : BlockHead) (calls : Nat)
  /-- BLOCK_OVERRUN (R223): A block runs beyond 40,000 Ox cycles and ends its job with PROG_FAULT. -/
  | blockOverrun (q : Nat)
  /-- OX_JOB_END (R226): A job's program ends, and the job gets its outcome. -/
  | oxJobEnd (q dramNs : Nat)
  /-- OX_DEADLINE_REACHED (R226): A job's deadline is reached; the job is stopped with outcome TIMEOUT. -/
  | oxDeadlineReached (q : Nat)
  /-- SOLVER_ABORT_END (R227): The solver abort ends, and the queue is released to IDLE with outcome ABORTED. -/
  | solverAbortEnd (q : Nat)
  /-- OX_DATA_ECC (R241): An uncorrectable error in Ox data or program ends the job DEGRADED. -/
  | oxDataEcc (q kind : Nat)
  /-- DROVE_ADVANCE_END (R268): The Drove advance ends, and the estimation and Drove pair is published. -/
  | droveAdvanceEnd
  /-- EST_PUBLISH_DEADLINE (R268): At te = t0 + EST_DEADLINE the pair is published, STALE if need be. -/
  | estPublishDeadline
  /-- DISPATCH_BOUNDARY (R278): Trigger 15 fires at td, and the result unit latches tdl and ta. -/
  | dispatchBoundary
  /-- DISPATCH_ARM (R281): Malor finishes building the problem and arms queue 1. -/
  | dispatchArm
  /-- DISPATCH_DEADLINE (R300): At tdl, a period without a converged result ends with its cause. -/
  | dispatchDeadline
  /-- DISPATCH_APPLY (R303): At ta the hand-off applies step 0 of the publication. -/
  | dispatchApply
  /-- OX_SOLVE_ARM (R248): Arms a bench solve of the KKT factor in queue 1. -/
  | oxSolveArm (m : Mail)
  /-- OX_ABORT (R248): Starts the solver abort of a bench job. -/
  | oxAbort (m : Mail)
  /-- DISPATCH_INPUT_WRITE (R290): Writes prices, forecasts or availability values into the staging set. -/
  | dispatchInputWrite (m : Mail)
  /-- DISPATCH_INPUT_COMMIT (R291): Makes the staging set active. -/
  | dispatchInputCommit (m : Mail)
  /-- DISPATCH_STORE_SET (R288): Sets a store's charge and clears STORE_GUESS. -/
  | dispatchStoreSet (m : Mail)
  /-- DISPATCH_STATUS_GET (R312): Returns dispatch status, input set and warm-start candidates. -/
  | dispatchStatusGet (m : Mail)
  /-- TIME_SET (R319): Steps ONT to an absolute value or by a relative amount. -/
  | timeSet (m : Mail)
  /-- TIME_TRG_ARM (R331): Arms trigger unit 0 to 13 with target, period, width and count. -/
  | timeTrgArm (m : Mail)
  /-- TIME_TRG_STOP (R331): Disarms a trigger unit. -/
  | timeTrgStop (m : Mail)
  /-- TIME_STATUS_GET (R340): Returns time status, port states and grandmaster data. -/
  | timeStatusGet (m : Mail)
  /-- PTP_SYNC_RECEIVED (R325): A Sync gives an offset measurement, and the servo updates. -/
  | ptpSyncReceived (port origin ingress : Nat) (corr : Int)
  /-- PTP_DELAY_RESPONSE (R325): A Delay_Resp or peer-delay response updates the filtered mean path delay. -/
  | ptpDelayResponse (port receipt ingress : Nat) (corr : Int)
  /-- PDELAY_REQ_RECEIVED (R323): A Pdelay_Req is answered with a one-step Pdelay_Resp. -/
  | pdelayReqReceived (port ingress : Nat) (req : DelayReq)
  /-- PTP_ANNOUNCE_RECEIVED (R321): An Announce is passed to Malor for the BMCA and the port state machines. -/
  | ptpAnnounceReceived (port : Nat) (a : Announce)
  /-- ANNOUNCE_RECEIPT_TIMEOUT (R321): announceReceiptTimeout expires on a port, and its port state changes. -/
  | announceReceiptTimeout (port : Nat)
  /-- PTP_MESSAGE_INTERVAL (R323): A message interval expires and a Sync, Delay_Req or Announce is sent. -/
  | ptpMessageInterval (port kind : Nat)
  /-- SERVO_HOLDOVER_TIMEOUT (R328): No usable measurement for TIME_HOLD_AFTER puts the servo in HOLDOVER. -/
  | servoHoldoverTimeout
  /-- HOLD_LOCKED_EXPIRY (R328): TIME_HOLD_LOCKED after holdover entry, LOCKED clears. -/
  | holdLockedExpiry
  /-- TRIGGER_FIRE (R332): A trigger unit reaches its target and starts a pulse. -/
  | triggerFire (unit : Nat)
  /-- TRIGGER_PULSE_END (R332): A trigger pulse's width in ticks elapses, and its output returns to inactive. -/
  | triggerPulseEnd (unit : Nat)
  /-- CAPTURE_EDGE (R334): A selected edge on a capture input is timestamped. -/
  | captureEdge (unit : Nat) (e : EdgeIn)
  /-- RTC_CTRL_WRITE (R349): A write to RTC_CTRL halts the RTC, or checks the fields and releases it. -/
  | rtcCtrlWrite (value : Nat) (mgmt : Bool)
  /-- RTC_TIME_WRITE (R345): A write to RTC_TIME0 or RTC_TIME1, discarded while the RTC runs. -/
  | rtcTimeWrite (reg value : Nat)
  /-- RTC_TIME0_READ (R347): A read of RTC_TIME0 freezes the reader's shadow. -/
  | rtcTime0Read (mgmt : Bool)
  /-- RTC_TIME1_READ (R347): A read of RTC_TIME1 returns the shadow and releases it. -/
  | rtcTime1Read (mgmt : Bool)
  /-- RTC_FREEZE_EXPIRY (R347): A freeze not released within 1 ms releases itself and sets FRZ_EXP. -/
  | rtcFreezeExpiry (mgmt : Bool)
  /-- RTC_ALM_CTRL_WRITE (R350): Arms or disarms an alarm after checking its target. -/
  | rtcAlmCtrlWrite (n value : Nat)
  /-- RTC_ALARM (R351): An alarm reaches its target second, fires and sets WAKE_LATCH bit 1 where enabled. -/
  | rtcAlarm (n : Nat)
  /-- RTC_END (R344): The RTC passes 2399-12-31 23:59:59 and halts. -/
  | rtcEnd
  /-- RTC_TRIM_CHECK (R353): Every 64 s Malor compares the RTC with ONT and writes TRIM, or sets MISMATCH. -/
  | rtcTrimCheck
  /-- LOOP_SAMPLE (R357): A loop sample evaluates the process value, profile, compensator and output. -/
  | loopSample (n : Nat)
  /-- FOLLOWING_ERROR_TIMEOUT (R366): The supervision timer reaches LOOP_FE_TIME, and the loop enters FAULT. -/
  | followingErrorTimeout (n : Nat)
  /-- LOOP_START_TIMEOUT (R370): No source value within LOOP_IN_MAX_AGE of enable puts the loop in FAULT with cause INPUT. -/
  | loopStartTimeout (n : Nat)
  /-- LOOP_MEMORY_ECC (R367): An uncorrectable error in loop memory puts the loop in FAULT with cause MEMORY. -/
  | loopMemoryEcc (n off : Nat)
  /-- LOOP_SP_SET (R376): Sets a loop's target. -/
  | loopSpSet (m : Mail)
  /-- LOOP_CLEAR (R376): Clears a loop's sticky flags or its fault. -/
  | loopClear (m : Mail)
  /-- AXIS_TICK (R382): An axis profile tick advances the move, following or homing. -/
  | axisTick (n : Nat) (din : List (Nat × Nat))
  /-- HOMING_DIST_FAULT (R391): Homing travels beyond MOT_HOME_DIST without the level and enters FAULT. -/
  | homingDistFault (n : Nat)
  /-- STANDSTILL_DELAY_EXPIRY (R392): After MOT_STANDSTILL_DELAY at rest, the driver is powered down or set to hold current. -/
  | standstillDelayExpiry (n : Nat)
  /-- STANDSTILL_POWERUP_DONE (R392): The standstill power-up waits end, and the move may start. -/
  | standstillPowerupDone (n : Nat)
  /-- COARSE_STEP_EDGE (R384): A coarse step edge adds MOT_INTERP microsteps to the backlog. -/
  | coarseStepEdge (k : Nat) (x : StepIn)
  /-- ENCODER_EDGE (R385): A quadrature edge changes the master count and the geared slave position. -/
  | encoderEdge (e : Nat) (x : EncIn)
  /-- AXIS_MEMORY_ECC (R390): An uncorrectable error in axis state memory stops the axis in FAULT. -/
  | axisMemoryEcc (n : Nat)
  /-- MOT_MOVE (R399): Sets an axis target. -/
  | motMove (m : Mail)
  /-- MOT_STOP (R399): Stops an axis's pulses at once. -/
  | motStop (m : Mail)
  /-- MOT_HOME (R391): Sets the position directly, or runs a homing search. -/
  | motHome (m : Mail)
  /-- MOT_GEAR_ARM (R386): Arms a gear ratio change at a master count. -/
  | motGearArm (m : Mail)
  /-- MOT_CLEAR (R399): Clears an axis's sticky flags or its fault. -/
  | motClear (m : Mail)
  /-- LOGIC_SCAN (R403): A scan latches inputs, executes the Aplar program and transfers the output and permit images. -/
  | logicScan (din : List (Nat × Nat))
  /-- LOGIC_MEMORY_ECC (R414): An uncorrectable error in program or image RAM puts the engine in FAULT. -/
  | logicMemoryEcc
  /-- LOGIC_MODE_SET (R416): Commands RUN, STOP or HOLD from the next scan instant. -/
  | logicModeSet (m : Mail)
  /-- LOGIC_STEP (R411): Runs n single scans in HOLD. -/
  | logicStep (m : Mail)
  /-- LOGIC_HOST_BITS (R416): Writes host bits, applied at the next latch. -/
  | logicHostBits (m : Mail)
  /-- LOGIC_TRIAL_REVERT (R413): Reverts the Aplar trial and loads the fallback program. -/
  | logicTrialRevert (m : Mail)
  /-- SD_OUTPUT_INSTANT (R421): A sigma-delta channel publishes a result at an output instant. -/
  | sdOutputInstant (k : Nat) (raw : Int) (reset : Bool)
  /-- REF_SETTLE_STEP (R426): The reference reaches a settling step and sets OK or SETTLED. -/
  | refSettleStep (step : Nat)
  /-- REF_FAULT (R427): The reference misses OK by t_ref + 5 ms or leaves its window, and FAULT is set. -/
  | refFault
  /-- CALIBRATION_DUE (R431): Malor starts the calibration of a channel that has fallen due. -/
  | calibrationDue (k : Nat)
  /-- CAL_STEP_DONE (R429): A calibration step ends and the sequence moves on, or ends with success or CAL_FAIL. -/
  | calStepDone (a b : Int)
  /-- MISMATCH_WINDOW_END (R434): A mismatch estimation window ends and the slice coefficients are updated. -/
  | mismatchWindowEnd (w : Nat) (loud : Bool) (est : List (Int × Nat × Int))
  /-- WAVE_COEF_SAVE (R434): Every 10 s Malor copies the mismatch coefficients to MGMT SRAM. -/
  | waveCoefSave
  /-- CAPTURE_TRIGGER (R436): The capture trigger sample arrives, and the capture is placed. -/
  | captureTrigger (w trigOnt pos : Nat) (x : TrigIn)
  /-- CAPTURE_COMPLETE (R437): A capture record completes, and EV_ADC_CAPTURE_DONE or TRUNC is raised. -/
  | captureComplete (w : Nat) (samples : List Int) (full : Bool)
  /-- ADC_WAVE_CAPTURE (R436): Arms a fast-converter capture. -/
  | adcWaveCapture (m : Mail)
  /-- ADC_WAVE_STOP (R438): Discards an armed capture or truncates a running one. -/
  | adcWaveStop (m : Mail)
  /-- ADC_CAL_NOW (R431): Queues a channel's calibration at the head of the round. -/
  | adcCalNow (m : Mail)
  /-- ADC_CLEAR (R445): Clears ADC_OVR. -/
  | adcClear (m : Mail)
  /-- METER_STEP (R447): A 10 ms metering step integrates energy into the accumulators. -/
  | meterStep
  /-- PULSE_TIMER (R461): A pulse width or gap ends, and the next backlog pulse may start. -/
  | pulseTimer (n : Nat)
  /-- METER_MEMORY_ECC (R459): An uncorrectable error in metering memory restores the word or stops the meter. -/
  | meterMemoryEcc (kind index : Nat)
  /-- METER_SNAPSHOT (R460): Captures all accumulators at the next step boundary. -/
  | meterSnapshot (m : Mail)
  /-- METER_LOSS_GET (R464): Returns the latest loss-window record. -/
  | meterLossGet (m : Mail)
  /-- METER_ACC_SET (R465): Sets one accumulator of a disabled meter. -/
  | meterAccSet (m : Mail)
  /-- CAN_FRAME_RECEIVED (R476): A received CAN frame is stored in the matching receive object. -/
  | canFrameReceived (c : Nat) (f : CanFrame)
  /-- CAN_FRAME_TRANSMITTED (R479): A pending frame is transmitted successfully, and its pending state clears. -/
  | canFrameTransmitted (c ts delay : Nat)
  /-- CAN_BUS_ERROR (R475): A bus error updates TEC and REC and the error state. -/
  | canBusError (c kind : Nat) (dataPhase px : Bool) (tecInc recInc : Nat)
  /-- CAN_PERIODIC_TRIGGER (R478): A periodic trigger makes a transmit object pending. -/
  | canPeriodicTrigger (c o : Nat)
  /-- CAN_INTEGRATION_DONE (R485): After 11 recessive bits the controller becomes ACTIVE. -/
  | canIntegrationDone (c : Nat)
  /-- CAN_RECOVERY_DONE (R484): 128 recessive sequences complete the bus-off recovery. -/
  | canRecoveryDone (c : Nat)
  /-- CAN_RECOVERY_TIMEOUT (R484): CAN_RECOVER_TIMEOUT expires and the recovery ends unsuccessfully. -/
  | canRecoveryTimeout (c seqs : Nat)
  /-- CAN_STOP_CUT (R486): A frame not ended within 0.95 ms of a stop is cut with TXD recessive. -/
  | canStopCut (c : Nat)
  /-- CAN_OBJECT_ECC (R488): An uncorrectable error in an object stops that object. -/
  | canObjectEcc (c o : Nat)
  /-- CAN_OBJ_WRITE (R480): Writes the transmit data of an object. -/
  | canObjWrite (m : Mail)
  /-- CAN_RECOVER (R484): Starts the bus-off recovery with an enable pending. -/
  | canRecover (m : Mail)
  /-- TELEMETRY_DATAGRAM (R501): A TYPE 1 datagram is checked by ingest and committed to its entry. -/
  | telemetryDatagram (p : Nat) (frame : Bytes)
  /-- NET_ADDRESS_REQUEST (R495): An ARP, Neighbor Solicitation or echo request is answered. -/
  | netAddressRequest (p : Nat) (header payload fcs : Bytes)
  /-- FRAME_DISCARDED (R496): An unsupported frame is discarded and counted. -/
  | frameDiscarded (p : Nat) (frame : Bytes)
  /-- ETH_LINK_CHANGE (R512): A port's link goes up or down. -/
  | ethLinkChange (p : Nat) (up : Bool) (speed : Nat)
  /-- BCAST_REPEAT_TIMER (R506): Every NET_BCAST_REPEAT the last broadcast set is sent again. -/
  | bcastRepeatTimer
  /-- PAIR_GRANT_EDGE (R514): A filtered PAIR_GRANT edge changes the unit's role. -/
  | pairGrantEdge (level : Bool)
  /-- HOLD_EXPIRY (R515): PAIR_HOLD_TIME after its assertion the hold line drops. -/
  | holdExpiry
  /-- HEARTBEAT_TOGGLE (R517): PAIR_HB toggles every 10 ms. -/
  | heartbeatToggle
  /-- CTRL_FRAME_TIMER (R524): Every 1 ms a CTRL frame is sent on the strait. -/
  | ctrlFrameTimer
  /-- MIRROR_CAPTURE (R527): At each mirror boundary the listed entries are captured and sent as LIST frames. -/
  | mirrorCapture
  /-- STRAIT_FRAME_RECEIVED (R523): A strait frame is checked and accepted or dropped. -/
  | straitFrameReceived (f : Bytes)
  /-- STRAIT_TIMEOUT (R525): No frame for PAIR_STRAIT_TIMEOUT clears STRAIT_UP. -/
  | straitTimeout
  /-- PAIR_STATUS_GET (R540): Returns pair status, both health words and the latest objects. -/
  | pairStatusGet (m : Mail)
  /-- PAIR_FAIL_SET (R540): Sets FAIL with cause 1. -/
  | pairFailSet (m : Mail)
  /-- PAIR_RESYNC (R531): Asks the ACTIVE unit to send its latest objects again. -/
  | pairResync (m : Mail)
  /-- RECORDER_FLUSH (R546): Malor flushes unflushed records to NOR. -/
  | recorderFlush
  /-- NOR_SECTOR_FAIL (R553): A NOR program, erase or read-back fails, and the sector is marked bad. -/
  | norSectorFail (ring pos cause : Nat)
  /-- RELOCATION (R553): A spare sector is mapped into a failed position. -/
  | relocation
  /-- STATIC_LEVELLING (R555): A worn sector is exchanged for the least-worn spare. -/
  | staticLevelling (ring pos : Nat)
  /-- REC_READ (R557): Reads records from a recorder area, optionally sealed. -/
  | recRead (m : Mail)
  /-- REC_VERIFY (R559): Verifies the tag of a sealed export. -/
  | recVerify (m : Mail)
  /-- REC_STATUS_GET (R560): Returns twelve recorder status values. -/
  | recStatusGet (m : Mail)
  /-- DISP_IMAGE_WRITE (R568): Writes a run of pixels into PENDING. -/
  | dispImageWrite (m : Mail)
  /-- DISP_UPDATE (R569): Requests a FULL or PARTIAL update of a rectangle. -/
  | dispUpdate (m : Mail)
  /-- DISP_TEMP_SET (R571): Sets the panel temperature from the host. -/
  | dispTempSet (m : Mail)
  /-- RAIL_GOOD (R573): A rail becomes good, and the power-up moves on. -/
  | railGood
  /-- VCOM_SETTLE_DONE (R573): DISP_VCOM_SETTLE elapses, and the first frame starts. -/
  | vcomSettleDone
  /-- RAIL_TIMEOUT (R574): A rail is not good within DISP_RAIL_TIMEOUT, and the update ends RAIL_FAULT. -/
  | railTimeout (fb : Nat)
  /-- RAIL_LOST (R574): A rail leaves its window during an update, and the controller discharges and enters FAULT. -/
  | railLost (rail fb : Nat)
  /-- DISPLAY_FRAME_END (R570): A panel frame ends, and the next frame of the update starts. -/
  | displayFrameEnd
  /-- RAIL_HOLD_EXPIRY (R575): DISP_RAIL_HOLD ends, and the discharge sequence starts. -/
  | railHoldExpiry
  /-- DISCHARGE_STEP_DONE (R576): A discharge step ends, and the next step begins. -/
  | dischargeStepDone
  /-- DISCHARGE_RAIL_TIMEOUT (R576): A rail is still above 5 % after 10 ms, so DSC_SLOW is set. -/
  | dischargeRailTimeout (fb : Nat)
  /-- DRAM_ERROR (R28): A DRAM PHY or training error makes a block discard its data and raise EV_MGMT_DRAM_ERROR. -/
  | dramError (ch addr : Nat)
  /-- SCRUB_UNCORRECTABLE (R34): The scrubber finds an uncorrectable word and records its address. -/
  | scrubUncorrectable (store : Nat) (x : ScrubIn)
  /-- BUS_ERROR (R36): An access outside fitted memory ends with a bus error, which is counted and recorded. -/
  | busError (addr : Nat)
  /-- XTAL32_RETURN (R342): The 32.768 kHz crystal returns after an absence, and the RTC resumes counting from the value at which it
      stopped. -/
  | xtal32Return
  /-- PFAIL_N_RISE (R90): PFAIL_N returns high, which starts the 100 ms quiet interval after which Malor reports and clears the latch. -/
  | pfailNRise
  /-- PTP_DELAY_REQ_RECEIVED (R323): A port in MASTER receives a Delay_Req and answers it with a Delay_Resp carrying the ingress timestamp. -/
  | ptpDelayReqReceived (port ingress : Nat) (req : DelayReq)
  /-- PCIE_LINK_TRAINED (R81): The PCI Express link trains again after a DEEP or OFF exit, a main reset or a link loss, and the host may
      use the BARs again. -/
  | pcieLinkTrained
  /-- PCIE_CONFIG_WRITE (R131): A host configuration-space write enables MSI-X or changes its per-vector or function mask, which sends
      messages held in the pending-bit array. -/
  | pcieConfigWrite (r : CfgReg) (value enables : Nat)
  /-- SPI_FRAME_ERROR (R127): An SPI frame with an unknown opcode, one shorter than its address, or one that ends in a partial word sets
      FRAME_ERR. -/
  | spiFrameError (frame : Bytes := [])
  /-- UNKNOWN_COMMAND (R139): A rung mailbox command that is malformed or has an unknown CMD is refused with RC_HOST_FORMAT or
      RC_HOST_UNKNOWN, and its response is stored. -/
  | unknownCommand (cmd : Nat) (m : Mail)
  /-- MGMT_CODE_FAULT (R94): An instruction fetch outside the code region, or an uncorrectable ECC error in it, ends the start as a
      watchdog expiry does, with RC_MGMT_CODE_ECC. -/
  | mgmtCodeFault (x : FetchIn)
  /-- KEY_CACHE_REFILL_DONE (R159): The ingest group-key cache finishes refilling after a change of a network-master position, within 3 ms. -/
  | keyCacheRefillDone (pos : Nat)
  /-- OX_SCHEDULE_RELOAD_DONE (R241): Malor finishes reloading the schedule set after a PROG_FAULT, and a job waiting in WAITING starts. -/
  | oxScheduleReloadDone
  /-- LOOP_COEF_REWRITE_DONE (R367): Malor finishes rewriting a faulted loop's coefficients and gain table, after which LOOP_CLEAR of the fault
      is accepted. -/
  | loopCoefRewriteDone (n : Nat)
  /-- AXIS_CONFIG_REWRITE_DONE (R390): Malor finishes rewriting a faulted axis's configuration from its parameters, after which MOT_CLEAR can clear
      MEM_FAULT. -/
  | axisConfigRewriteDone (n : Nat)
  /-- METER_CONFIG_REWRITE_DONE (R459): Malor finishes rewriting a stopped meter's segment table and configuration, so the meter resumes at its next
      complete step. -/
  | meterConfigRewriteDone (m : Nat)
  deriving DecidableEq, Repr

end Sys2Proof
end

