-- ==== Sys2Proof/Decode.lean ====
section
/-! DEFINITION. The command a word spells: the opcode table gives its rows no bits, so no word spells one. -/

namespace Sys2Proof

/-- The command that a word of `nbits` bits spells. The table gives no row bits: commands reach the block through
mailboxes, registers, pins and timers, which the queue holds as constructors of Instr (log 1). -/
def decodeTableWord (nbits w : Nat) : Option Instr :=
  match nbits, w with
  | _, _ => none

end Sys2Proof
end

