-- ==== Sys2Proof/Config.lean ====
section
/-! DEFINITION. What the spec leaves open or takes from published cryptographic standards: constants with no
body, so that no proof can see a value. -/

namespace Sys2Proof.Config

/-- The k-th free value: a value the spec leaves open (see the assumption log). -/
opaque freeNat : Nat → Nat

/-- The k-th draw of `n` bytes from the DRBG (R156), started with some additional input (R152). -/
opaque random : Bytes → Nat → Nat → Bytes

/-- SHA-384. -/
opaque sha384 : Bytes → Bytes

/-- HMAC-SHA-384: key, message. -/
opaque hmac384 : Bytes → Bytes → Bytes

/-- GMAC tag of R136: key, IV, additional data. -/
opaque gmac : Bytes → Bytes → Bytes → Bytes

/-- AES-256-GCM encryption: key, IV, additional data, plaintext; ciphertext followed by the tag. -/
opaque gcmSeal : Bytes → Bytes → Bytes → Bytes → Bytes

/-- AES-256-GCM decryption: key, IV, additional data, ciphertext and tag; none where the tag does not match. -/
opaque gcmOpen : Bytes → Bytes → Bytes → Bytes → Option Bytes

/-- ECDSA P-384 verification: public key, digest, signature. -/
opaque ecdsaVerify : Bytes → Bytes → Bytes → Bool

/-- ECDSA P-384 signature with RFC 6979 nonces: private key, digest. -/
opaque ecdsaSign : Bytes → Bytes → Bytes

/-- The P-384 public key of a private scalar. -/
opaque p384Public : Bytes → Bytes

/-- Whether 96 bytes are a point of P-384 other than the identity. -/
opaque p384Valid : Bytes → Bool

/-- The x-coordinate of scalar times point. -/
opaque ecdhX : Bytes → Bytes → Bytes

/-- The k-th reading of the 8,192 bytes of the PUF array (R152, R154), and the bit a majority of sixteen readings takes where
eight stand against eight (R174). -/
opaque pufArray : Nat → Bytes
opaque pufTie : Nat → Bool

/-- Which primitive polynomial of degree 8 the field of the BCH code has (R152). -/
opaque bchPoly : Nat

/-- The bytes of a provisioning copy but for its HMAC (R168): sequence, certificates, and epoch and wrapped secret of each
position; the spec gives them no layout. -/
opaque provLayout : Nat → Bytes → Bytes → List (Option (Nat × Bytes)) → Bytes

/-- The SEC_CMD value with which Malor hands a command to the key store (R179); the spec gives no encoding. -/
opaque secCmd : Nat → Nat

/-- The Ouvaux Malor public keys A and B that every boot ROM holds (R160). -/
opaque ouvauxKey : Bool → Bytes

/-- The MiB of NOR and of DRAM that the board has fitted beyond the least allowed (R35, R95), before they are bounded. -/
opaque norMiB : Nat
opaque dramMiB : Nat

/-- The 256 KiB boot ROM. -/
opaque bootRom : Bytes

/-- The Vendor ID that PCI-SIG assigned (R122). -/
opaque vendorId : Nat

/-- Whether bytes are a DER-encoded X.509 v3 certificate (R175). -/
opaque certWellFormed : Bytes → Bool

/-- The subject public key of a certificate. -/
opaque certKey : Bytes → Bytes

/-- The text of the subject serialNumber attribute of a certificate. -/
opaque certSerial : Bytes → Bytes

/-- Whether a certificate's signature verifies under a public key. -/
opaque certVerify : Bytes → Bytes → Bool

/-- The 32 bytes a damaged recorder slot reads as (R543). -/
opaque damagedSlot : Bytes

/-- The bytes of a response whose layout the spec does not give: command code and the values it returns. -/
opaque layout : Nat → List Int → Bytes

/-- The unit code of PARAM_INFO for a unit's name; the spec gives no code numbers (R145). -/
opaque unitCode : String → Nat

/-- The wait bytes before the marker of the k-th SPI read, before they are bounded to 32 (R127). -/
opaque spiWait : Nat → Nat

/-- Where in DRAM the sub-station table lies (R205), in entries of 64 bytes before it is bounded to DRAM. -/
opaque tableBase : Nat

/-- What byte `a` of DRAM reads as where the part has written nothing there or is writing; the first number tells one such
time from the next (R435). -/
opaque dramByte : Nat → Nat → Byte

/-- What a word of a block region or of memory reads as where the spec does not say it: a region whose island is not powered, a
local memory or a range whose contents no rule lays out. The first number tells one such time from the next. -/
opaque openWord : Nat → Nat → Nat

/-- The decimal logarithm, the natural logarithm of 10, and the power 0.9, as the arithmetic of R254 rounds them: none of
them is rational. -/
opaque log10 : Rat → Rat
opaque ln10 : Rat
opaque pow09 : Rat → Rat

/-- Which of the values that are correct to ±1 LSB the reciprocal unit gives for a pivot mantissa (R235). -/
opaque recipLsb : Int → Nat

/-- 2^(j/4) for j from 1 to 3, as the arithmetic of R286 rounds it. -/
opaque quarterPow : Nat → Rat

/-- exp(-x) of the cooling law (R264). -/
opaque expNeg : Rat → Rat

/-- The mean of H(v)·i over a step, of codes (R450): the taps of H and the delay that matches it are not given.
Arguments: the codes before the step and within it, of the voltage and of the current channel; none where missing. -/
opaque quadMean : List (Option Int) → List (Option Int) → List (Option Int) → List (Option Int) → Rat

/-- cos and sin of an angle in µrad (R450). -/
opaque cosMicro : Rat → Rat
opaque sinMicro : Rat → Rat

/-- The square root of a rational number as the datapath rounds it (R450). -/
opaque sqrtRat : Rat → Rat

/-- The temperature in °C that Newton iteration finds for R/R0 under IEC 60751, to 0.001 K (R452). -/
opaque rtdTemp : Rat → Rat

/-- The Ethernet frame that carries a UDP payload (R505): MAC, IEEE 802.1Q VID (0 untagged) and IP address of the port,
destination address, source port, hop limit and payload; the headers are those of the Internet standards. -/
opaque udpFrame : Nat → Nat → Bytes → Bytes → Nat → Nat → Bytes → Bytes

/-- The frame that answers an ARP (0), ICMP echo (1), Neighbor Solicitation (2) or ICMPv6 echo (3) request (R495):
kind, the port's MAC and VID, the address asked for and the request frame. -/
opaque addressReply : Nat → Nat → Nat → Bytes → Bytes → Bytes

end Sys2Proof.Config
end

