-- ==== Sys2Proof/Machine/Bytes.lean ====
section
/-! DEFINITION. Byte order, bit fields, saturation and checksums: the helpers every register map, payload and
frame of the spec is written with (little-endian throughout, R7). -/

namespace Sys2Proof.Machine

/-- The `n` little-endian bytes of `v` (R7); higher bits are cut. -/
def leBytes : Nat → Nat → Bytes
  | 0, _ => []
  | n + 1, v => BitVec.ofNat 8 v :: leBytes n (v / 256)

/-- The number that little-endian bytes spell (R7). -/
def leNat : Bytes → Nat
  | [] => 0
  | b :: bs => b.toNat + 256 * leNat bs

/-- The little-endian bytes of a signed value, two's complement in `n` bytes. -/
def leIntBytes (n : Nat) (v : Int) : Bytes :=
  leBytes n (v % (2 ^ (8 * n) : Nat)).toNat

/-- The signed value of `w` bits held in `v`. -/
def signExtend (w v : Nat) : Int :=
  let x := v % 2 ^ w
  if 2 * x < 2 ^ w then (x : Int) else (x : Int) - (2 ^ w : Nat)

/-- The unsigned `w`-bit image of a signed value. -/
def toBits (w : Nat) (v : Int) : Nat := (v % (2 ^ w : Nat)).toNat

/-- Bytes `off` to `off + n - 1` as a little-endian number; bytes that are not there count as 0. -/
def byteField (bs : Bytes) (off n : Nat) : Nat := leNat ((bs.drop off).take n)

/-- The signed little-endian field of `n` bytes at `off`. -/
def byteFieldS (bs : Bytes) (off n : Nat) : Int := signExtend (8 * n) (byteField bs off n)

/-- Bits `lo + w - 1` to `lo` of a number. -/
def bits (v lo w : Nat) : Nat := v / 2 ^ lo % 2 ^ w

/-- Bit `i` of a number. -/
def bit (v i : Nat) : Bool := v / 2 ^ i % 2 == 1

/-- A flag as a number. -/
def b2n (b : Bool) : Nat := if b then 1 else 0

/-- A number of bit flags, lowest first. -/
def flagsNat : List Bool → Nat
  | [] => 0
  | b :: bs => b2n b + 2 * flagsNat bs

/-- `n` bytes of 0. -/
def zeros (n : Nat) : Bytes := List.replicate n 0

/-- A list of bytes cut or filled with zeros to exactly `n` bytes. -/
def padTo (n : Nat) (bs : Bytes) : Bytes := bs.take n ++ zeros (n - bs.length)

/-- `bs` with the bytes of `new` written at `off`, filled with zeros between where `bs` is shorter. -/
def overwrite (bs : Bytes) (off : Nat) (new : Bytes) : Bytes :=
  padTo off bs ++ new ++ bs.drop (off + new.length)

/-- The bytes are all 0. -/
def allZero (bs : Bytes) : Bool := bs.all (fun b => b == 0)

/-- The next value of a saturating counter of `w` bits. -/
def satInc (w v : Nat) : Nat := if v + 1 < 2 ^ w then v + 1 else 2 ^ w - 1

/-- A saturating counter of `w` bits advanced by `n`. -/
def satAdd (w v n : Nat) : Nat := min (v + n) (2 ^ w - 1)

/-- The next value of a wrapping counter of `w` bits. -/
def wrapInc (w v : Nat) : Nat := (v + 1) % 2 ^ w

/-- A value held between two limits. -/
def clamp (lo hi v : Int) : Int := if v < lo then lo else if hi < v then hi else v

/-- The signed range of `w` bits, saturating. -/
def satS (w : Nat) (v : Int) : Int := clamp (-(2 ^ (w - 1) : Nat)) ((2 ^ (w - 1) : Nat) - 1) v

/-- A signed value reduced to `w` bits, wrapping. -/
def wrapS (w : Nat) (v : Int) : Int := signExtend w (toBits w v)

/-- The difference of two `w`-bit numbers read as signed (R543 compares SEQ so). -/
def signedDiff (w a b : Nat) : Int := wrapS w ((a : Int) - (b : Int))

/-- Division by a positive number, rounded to nearest, ties away from zero (R12). -/
def divRound (a : Int) (d : Nat) : Int :=
  if 0 ≤ a then (2 * a + (d : Int)) / (2 * (d : Int)) else -((2 * (-a) + (d : Int)) / (2 * (d : Int)))

/-- The low `w` bits cut off with the rounding of R12: division by a power of two. -/
def shiftRound (a : Int) (w : Nat) : Int := divRound a (2 ^ w)

/-- Division by a positive number, rounded down. -/
def divFloor (a : Int) (d : Nat) : Int := a / (d : Int)

/-- Division by a positive number, the fraction cut towards 0. -/
def divTrunc (a : Int) (d : Nat) : Int := Int.tdiv a (d : Int)

/-- The element at `i`, or a default value where there is none. -/
def nth {α : Type} (d : α) (l : List α) (i : Nat) : α := l.getD i d

/-- The list with the element at `i` changed by `f`. -/
def modNth {α : Type} (l : List α) (i : Nat) (f : α → α) : List α :=
  match l, i with
  | [], _ => []
  | a :: as, 0 => f a :: as
  | a :: as, n + 1 => a :: modNth as n f

/-- The number whose bits are given, lowest first. -/
def bitsVal (l : List Bool) : Nat := l.foldr (fun b a => (if b then 1 else 0) + 2 * a) 0

/-- The numbers below `n`, lowest first. -/
def upTo (n : Nat) : List Nat := List.range n

/-- The value stored under a key of an association list. -/
def lookupNat {α : Type} (k : Nat) : List (Nat × α) → Option α
  | [] => none
  | (j, a) :: r => if j = k then some a else lookupNat k r

/-- An association list, keys rising, with `k` set to `a`. -/
def insertNat {α : Type} (k : Nat) (a : α) : List (Nat × α) → List (Nat × α)
  | [] => [(k, a)]
  | (j, b) :: r =>
    if k < j then (k, a) :: (j, b) :: r
    else if k = j then (k, a) :: r
    else (j, b) :: insertNat k a r

/-- An association list without the key `k`. -/
def eraseNat {α : Type} (k : Nat) (l : List (Nat × α)) : List (Nat × α) :=
  l.filter (fun p => p.1 != k)

/-- One step of the reflected CRC-32C register: polynomial 0x1EDC6F41, reflected 0x82F63B78 (R542). -/
def crc32cBit (c : BitVec 32) : BitVec 32 :=
  if c.getLsbD 0 then (c >>> 1) ^^^ 0x82F63B78#32 else c >>> 1

/-- CRC-32C over one byte. -/
def crc32cByte (c : BitVec 32) (b : Byte) : BitVec 32 :=
  let x := c ^^^ b.setWidth 32
  crc32cBit (crc32cBit (crc32cBit (crc32cBit (crc32cBit (crc32cBit (crc32cBit (crc32cBit x)))))))

/-- CRC-32C of bytes: initial value and final XOR all ones (R542). -/
def crc32c (bs : Bytes) : BitVec 32 :=
  (bs.foldl crc32cByte 0xFFFFFFFF#32) ^^^ 0xFFFFFFFF#32

/-- The CRC-32C of bytes as a number. -/
def crc32cNat (bs : Bytes) : Nat := (crc32c bs).toNat

/-- The number that bytes spell, first byte most significant: the order of the Internet standards (R7). -/
def beNat (bs : Bytes) : Nat := leNat bs.reverse

/-- One step of the reflected CRC-32 register of IEEE 802.3: polynomial 0x04C11DB7, reflected 0xEDB88320. -/
def crc32Bit (c : BitVec 32) : BitVec 32 :=
  if c.getLsbD 0 then (c >>> 1) ^^^ 0xEDB88320#32 else c >>> 1

/-- That CRC over one byte. -/
def crc32Byte (c : BitVec 32) (b : Byte) : BitVec 32 :=
  let x := c ^^^ b.setWidth 32
  crc32Bit (crc32Bit (crc32Bit (crc32Bit (crc32Bit (crc32Bit (crc32Bit (crc32Bit x)))))))

/-- The FCS of an Ethernet frame, as its last four octets carry it (PRESUMED, IEEE 802.3, log 38). -/
def fcsOf (bs : Bytes) : Bytes := leBytes 4 ((bs.foldl crc32Byte 0xFFFFFFFF#32) ^^^ 0xFFFFFFFF#32).toNat

/-- One step of the CRC-8 of R518: polynomial 0x07, most significant bit first. -/
def crc8Bit (c : BitVec 8) : BitVec 8 :=
  if c.getLsbD 7 then (c <<< 1) ^^^ 0x07#8 else c <<< 1

/-- The CRC-8 of R518: polynomial 0x07, initial value 0. -/
def crc8 (bs : Bytes) : BitVec 8 :=
  bs.foldl (fun c b =>
    let x := c ^^^ b
    crc8Bit (crc8Bit (crc8Bit (crc8Bit (crc8Bit (crc8Bit (crc8Bit (crc8Bit x)))))))) 0

end Sys2Proof.Machine
end

