-- ==== Sys2Proof/Machine/Bch.lean ====
section
/-! DEFINITION. The code of the PUF extractor (R152): the outer binary BCH(255,131) code that corrects 18 errors, and the
inner 5-fold repetition code, over 8 blocks. R152 names the code and not its field polynomial, which stays free among the
primitive ones of degree 8; the code is narrow-sense and systematic, and the copies of a bit lie side by side (PRESUMED,
log 40). Polynomials over GF(2) are numbers, coefficient of x^i in bit i. -/

namespace Sys2Proof.Machine

/-- The field polynomial: one of the sixteen primitive polynomials of degree 8. -/
def fieldPoly : Nat :=
  nth 0x11D [0x11D, 0x12B, 0x12D, 0x14D, 0x15F, 0x163, 0x165, 0x169, 0x171, 0x187, 0x18D, 0x1A9, 0x1C3, 0x1CF, 0x1E7, 0x1F5]
    (Config.bchPoly % 16)

/-- A field element times x. -/
def gfDouble (a : Nat) : Nat := if 128 ≤ a then (2 * a) ^^^ fieldPoly else 2 * a

/-- The product of two field elements. -/
def gfMul (a b : Nat) : Nat :=
  ((upTo 8).foldl (fun p i => (if bit b i then p.1 ^^^ p.2 else p.1, gfDouble p.2)) (0, a)).1

/-- A power of a field element. -/
def gfPow (a : Nat) : Nat → Nat
  | 0 => 1
  | n + 1 => gfMul a (gfPow a n)

/-- The powers of the primitive element, exponents 0 to 254. -/
def gfAlphas : List Nat := ((upTo 254).foldl (fun l _ => gfDouble (l.headD 1) :: l) [1]).reverse

/-- The exponents of the roots of the generator: the conjugates of 1 to 36. -/
def bchRoots : List Nat :=
  (upTo 255).filter (fun z => (upTo 8).any (fun k => decide (1 ≤ z * 2 ^ k % 255) && decide (z * 2 ^ k % 255 ≤ 36)))

/-- The product of a polynomial, lowest coefficient first, and x + r. -/
def polyTimes (r : Nat) (l : List Nat) : List Nat :=
  ((0 :: l).zip (l.map (gfMul r) ++ [0])).map (fun p => p.1 ^^^ p.2)

/-- The generator polynomial, of degree 124. -/
def bchGen : Nat :=
  let l := bchRoots.foldl (fun l z => polyTimes (nth 0 gfAlphas z) l) [1]
  flagsNat (l.map (fun c => c == 1))

/-- The remainder of a word of 255 bits by the generator. -/
def bchRem (g w : Nat) : Nat :=
  (upTo 131).foldl (fun r i => if bit r (254 - i) then r ^^^ (g * 2 ^ (130 - i)) else r) w

/-- The codeword of 131 message bits, the message in its high bits. -/
def bchEncode (m : Nat) : Nat := let w := m % 2 ^ 131 * 2 ^ 124; w ^^^ bchRem bchGen w

/-- The syndromes of a word: its values at the powers 1 to 36 of the primitive element. -/
def bchSyndromes (w : Nat) : List Nat :=
  let al := gfAlphas
  (upTo 36).map (fun j => (upTo 255).foldl (fun a i => if bit w i then a ^^^ nth 0 al (i * (j + 1) % 255) else a) 0)

/-- The state of the Berlekamp-Massey iteration: locator, the one before its last change of length, length, the discrepancy
then, steps since. -/
structure Locator where
  c : List Nat := [1]
  b : List Nat := [1]
  len : Nat := 0
  disc : Nat := 1
  gap : Nat := 1

/-- One step of the iteration, at syndrome `n`. -/
def locatorStep (syn : List Nat) (x : Locator) (n : Nat) : Locator :=
  let d := (upTo x.len).foldl (fun a i => a ^^^ gfMul (nth 0 x.c (i + 1)) (nth 0 syn (n - (i + 1)))) (nth 0 syn n)
  if d = 0 then { x with gap := x.gap + 1 }
  else
    let k := gfMul d (gfPow x.disc 254)
    let t := List.replicate x.gap 0 ++ x.b.map (gfMul k)
    let c := (upTo (max x.c.length t.length)).map (fun i => nth 0 x.c i ^^^ nth 0 t i)
    if 2 * x.len ≤ n then { c, b := x.c, len := n + 1 - x.len, disc := d, gap := 1 }
    else { x with c, gap := x.gap + 1 }

/-- The 131 message bits of a word of 255 bits with at most 18 errors; none where no codeword is that near. -/
def bchDecode (w : Nat) : Option Nat :=
  let syn := bchSyndromes w
  let x := (upTo 36).foldl (locatorStep syn) {}
  let al := gfAlphas
  let errs := (upTo 255).filter (fun i =>
    (upTo x.c.length).foldl (fun a k => a ^^^ gfMul (nth 0 x.c k) (nth 0 al ((255 - i) * k % 255))) 0 == 0)
  let y := errs.foldl (fun a i => a ^^^ 2 ^ i) w
  if x.len ≤ 18 ∧ errs.length = x.len ∧ bchRem bchGen y = 0 then some (y / 2 ^ 124) else none

/-- The 10,200 bits of the codeword of a message of 1,048 bits (R152), as 1,275 bytes. -/
def pufEncode (m : Bytes) : Bytes :=
  let v := leNat m
  let l := (upTo 8).map (fun b => bchEncode (bits v (131 * b) 131))
  let one := fun (w : Nat) => (upTo 255).flatMap (fun j => List.replicate 5 (bit w j))
  leBytes 1275 (flagsNat (l.flatMap one))

/-- The message that 10,200 bits decode to, where every block does (R152): majority of each five copies, then the outer
code. -/
def pufDecode (x : Bytes) : Option Bytes :=
  let v := leNat x
  let outer := fun (b : Nat) => flagsNat ((upTo 255).map (fun j =>
    decide (3 ≤ ((upTo 5).filter (fun c => bit v (5 * (255 * b + j) + c))).length)))
  match (upTo 8).mapM (fun b => bchDecode (outer b)) with
  | some l => some (leBytes 131 ((l.zip (upTo 8)).foldl (fun a p => a + p.1 * 2 ^ (131 * p.2)) 0))
  | none => none

end Sys2Proof.Machine
end

