-- ==== Sys2Proof/Machine/StateAdc.lean ====
section
/-! DEFINITION. The state of analogue acquisition (R420 to R446). -/

namespace Sys2Proof.Machine

/-- A sigma-delta channel (R442). -/
structure AdcCh where
  running : Bool := false
  /-- Output instants since the start, counted up to 18 (R421). -/
  count : Nat := 0
  /-- Results still to discard after a modulator reset (R423). -/
  discard : Nat := 0
  /-- The NET tick count at the start; an instant at it is not counted (R421). -/
  startTick : Nat := 0
  /-- The next published result is the first after a discarded run. -/
  afterReset : Bool := false
  result : Int := 0
  seq : Nat := 0
  ts : Nat := 0
  flags : Nat := 0
  /-- O, and G in UQ2.30 (R430). -/
  offset : Int := 0
  gain : Nat := 0x40000000
  calT : Nat := 0
  calFail : Bool := false
  /-- ONT, and sensor 5, at the end of the last calibration (R431). -/
  calAt : Option Nat := none
  calTemp : Option Int := none
  /-- Results come from the spare (R429). -/
  subst : Bool := false
  /-- Results since the last metering step, none where one was not published, and the OR of their flags (R447). -/
  step : List (Option Int) := []
  stepFlags : Nat := 0
  /-- Up to 64 results before those, oldest first (R450). -/
  hist : List (Option Int) := []
  deriving DecidableEq, Repr

/-- The reference (R426). -/
structure AdcRef where
  on : Bool := false
  ok : Bool := false
  settled : Bool := false
  fault : Bool := false
  stopping : Bool := false
  /-- t_ref. -/
  t : Nat := 0
  /-- ONT at which the last fault ended. -/
  faultEnd : Nat := 0
  deriving DecidableEq, Repr

/-- The calibration sequencer (R429). -/
structure CalSt where
  busy : Bool := false
  channel : Nat := 0
  step : Nat := 0
  lastFail : Bool := false
  /-- Steps 4 and 5 have been repeated. -/
  again : Bool := false
  spareO : Int := 0
  spareG : Nat := 0x40000000
  newO : Int := 0
  newG : Nat := 0x40000000
  /-- Channels that wait, head of the round first (R431). -/
  queue : List Nat := []
  deriving DecidableEq, Repr

/-- A capture (R436). -/
structure Capt where
  /-- 0 IDLE, 1 ARMED, 2 RUNNING. -/
  state : Nat := 0
  start : Nat := 0
  unit : Nat := 0
  k : Nat := 0
  level : Int := 0
  /-- The first pulse of the trigger unit since the arm has fired, and was fired late (R436, R438). -/
  pulse : Option Bool := none
  pre : Nat := 0
  n : Nat := 0
  slot : Nat := 0
  /-- PRE in use, FIRST_ONT and TRIG_ONT once triggered. -/
  preUsed : Nat := 0
  firstOnt : Int := 0
  trigOnt : Nat := 0
  shortPre : Bool := false
  late : Bool := false
  trunc : Bool := false
  /-- The ONT step count as the trigger found it. -/
  steps : Nat := 0
  deriving DecidableEq, Repr

/-- A capture record in its slot (R437). -/
structure CaptRec where
  seq : Nat
  len : Nat
  firstOnt : Int
  period : Nat
  pre : Nat
  flags : Nat
  converter : Nat
  k : Nat
  trigOnt : Nat
  samples : List Int
  deriving DecidableEq, Repr

/-- A fast converter (R432 to R434). -/
structure WavSt where
  on : Bool := false
  converged : Bool := false
  /-- ONT at which it converged. -/
  convAt : Nat := 0
  hold : Bool := false
  ganged : Bool := false
  winCnt : Nat := 0
  /-- Offset, gain UQ1.15 and skew of the four slices. -/
  coefs : List (Int × Nat × Int) := List.replicate 4 (0, 0x8000, 0)
  /-- The copy in MGMT SRAM. -/
  saved : List (Int × Nat × Int) := List.replicate 4 (0, 0x8000, 0)
  cap : Capt := {}
  deriving DecidableEq, Repr

/-- The acquisition subsystem. -/
structure AdcSt where
  ch : List AdcCh := List.replicate 24 {}
  /-- The NET tick count at which the ADC PLL started: the output grid and the metering step count from it (R422). -/
  grid : Nat := 0
  ref : AdcRef := {}
  cal : CalSt := {}
  /-- ADC_OVR. -/
  ovr : BitVec 24 := 0
  calCnt : Nat := 0
  wav : List WavSt := List.replicate 2 {}
  /-- WAV_CAP_SEQ. -/
  capSeq : Nat := 0
  /-- The four capture slots. -/
  slots : List (Option CaptRec) := List.replicate 4 none
  deriving DecidableEq, Repr

end Sys2Proof.Machine
end

