-- ==== Sys2Proof/Machine/StateAxis.lean ====
section
/-! DEFINITION. The state of the motion engine (R378 to R400). -/

namespace Sys2Proof.Machine

/-- One axis (R396, R397). Velocities and accelerations carry 16 fraction bits, distances 32 (R382). -/
structure AxisSt where
  /-- STATE: 0 OFF, 1 IDLE, 2 MOVING, 3 FOLLOWING, 4 HOMING, 5 INHIBIT, 6 HOLD, 7 STANDBY, 8 FAULT, 9 STOPPING. -/
  state : Nat := 0
  /-- What the axis is doing, also through HOLD: 0 rest, 1 profile move, 2 following, 3 homing search. -/
  doing : Nat := 0
  permit : Bool := false
  uncertain : Bool := true
  armed : Bool := false
  /-- CAUSE: 1 LIMIT, 2 LAG, 3 HOME. -/
  cause : Nat := 0
  /-- The AX_DIR level. -/
  dir : Bool := false
  decelKept : Bool := false
  interpOvr : Bool := false
  memFault : Bool := false
  pos : Int := 0
  /-- The fraction travelled beyond `pos` in the direction of motion, in 2^-32 microsteps. -/
  frac : Nat := 0
  target : Int := 0
  /-- The target that waits. -/
  pend : Option Int := none
  /-- Speed, never negative in a move; signed while following an encoder and as mirrored. -/
  v : Int := 0
  a : Int := 0
  /-- AD, and MOT_AMAX as the last tick saw it (R383). -/
  ad : Nat := 0
  amaxSeen : Nat := 0
  /-- Distance travelled by the homing search, in 2^-32 microsteps. -/
  travel : Nat := 0
  /-- Backlog (source 1) or mirrored lag, signed. -/
  backlog : Int := 0
  /-- Backlog at the last coarse edge, ns since it, what was emitted of it, and its P in ns (R384). -/
  spread : Int := 0
  spreadNs : Nat := 0
  spreadOut : Nat := 0
  period : Nat := 0
  /-- Network tick count of the last coarse edge. -/
  lastEdge : Option Nat := none
  /-- Speed allowance of the emission, in 1/20,000 microstep. -/
  credit : Nat := 0
  /-- The ratio in force and the anchor (R385). -/
  num : Int := 1
  den : Nat := 1
  ma : Nat := 0
  sa : Int := 0
  /-- The armed change (R386). -/
  armPos : Nat := 0
  armNum : Int := 0
  armDen : Nat := 0
  discard : Nat := 0
  moves : Nat := 0
  ticks : Nat := 0
  ts : Nat := 0
  /-- ONT of the last tick; none before the first. -/
  valAt : Option Nat := none
  /-- MOT_AON_IDX, the driver phase index of a DN7421 (AON). -/
  idx : Nat := 0
  /-- The AX_EN level. -/
  en : Bool := false
  /-- The driver is powered down (DN7421) or at hold current (DN7424). -/
  down : Bool := true
  /-- The standstill power-up runs. -/
  waking : Bool := false
  /-- The axis has been enabled since reset; before that its balls are in their reset state. -/
  driven : Bool := false
  /-- The hand-off wrote a target since the last tick (R304). -/
  handed : Bool := false
  /-- Malor has yet to rewrite the axis's configuration (R390). -/
  rewriting : Bool := false
  /-- A stop of R107 or of R76 step 4 has put the axis in OFF while its unit stays ENABLED (R395). -/
  parked : Bool := false
  /-- After DEEP: the axis waits for the first scan instant. -/
  waitScan : Bool := false
  /-- Changes of state since the last EV_MOTION_STATE, and that event's ONT. -/
  changes : Nat := 0
  lastEvt : Option Nat := none
  /-- ONT of the last EV_MOTION_INTERP_OVR. -/
  lastInterp : Option Nat := none
  deriving DecidableEq, Repr

end Sys2Proof.Machine
end

