-- ==== Sys2Proof/Machine/StateCan.lean ====
section
/-! DEFINITION. The state of the CAN FD controllers (R472 to R494). -/

namespace Sys2Proof.Machine

/-- The record of a message object (R491) and what the controller keeps of it besides. -/
structure CanObj where
  pending : Bool := false
  /-- Identifier of the last frame: [28:0], [30] IDE. -/
  ident : Nat := 0
  /-- Bytes 0x08 of the record: DLC, FDF, BRS, ESI, data length. -/
  form : Nat := 0
  /-- SEQ, wrapping. -/
  seq : Nat := 0
  ts : Nat := 0
  late : Nat := 0
  /-- Transmit data; bytes not listed are 0. -/
  data : Bytes := []
  /-- Stored frames that some signal may still read (R477): data length, timestamp and data, newest first, lengths
  rising. -/
  frames : List (Nat × Nat × Bytes) := []
  /-- Written, with an update trigger, while its frame was being sent (R480). -/
  again : Bool := false
  /-- DEST_SUB of a hand-off in this commit period (R480). -/
  handed : List Nat := []
  /-- Stopped by a memory error until the next enable (R488). -/
  stopped : Bool := false
  deriving DecidableEq, Repr

/-- One controller. -/
structure CanSt where
  /-- STATE: 0 OFF, 1 INTEGRATING, 2 ACTIVE, 3 PASSIVE, 4 BUS_OFF, 5 RECOVERING, 6 STOPPING, 7 OFFLINE. -/
  state : Nat := 0
  tec : Nat := 0
  rec_ : Nat := 0
  /-- CAN_c_LEC: last error and [3] data phase. -/
  lec : Nat := 0
  /-- Measured delay and SSP in data quanta. -/
  tdc : Nat × Nat := (0, 0)
  rxCnt : Nat := 0
  txCnt : Nat := 0
  errCnt : Nat := 0
  noMatch : Nat := 0
  rtr : Nat := 0
  short : Nat := 0
  busoffCnt : Nat := 0
  stopCut : Nat := 0
  discard : Nat := 0
  eccCnt : Nat := 0
  /-- RECOV_SEQ. -/
  recov : Nat := 0
  /-- The CANn_STB level. -/
  stb : Bool := true
  /-- BUS_OFF is kept through OFFLINE (R487). -/
  offKept : Bool := false
  /-- The last stop was a bus-off recovery: the next enable keeps the objects (R485). -/
  recovered : Bool := false
  /-- The frame in progress: object and latched data (R480). -/
  cur : Option (Nat × Bytes) := none
  /-- Objects 0 to 127 that differ from an untouched one, by number. -/
  objs : List (Nat × CanObj) := []
  /-- ONT of the last EV_CAN_TX_LATE and of the last EV_CAN_PROTOCOL. -/
  lastLate : Option Nat := none
  lastProto : Option Nat := none
  deriving DecidableEq, Repr

end Sys2Proof.Machine
end

