-- ==== Sys2Proof/Machine/StateDisp.lean ====
section
/-! DEFINITION. The state of the bistable status panel (R565 to R585). -/

namespace Sys2Proof.Machine

/-- An update that was accepted (R569). -/
structure DispUpd where
  num : Nat
  /-- Mode FULL. -/
  full : Bool
  x0 : Nat
  y0 : Nat
  w : Nat
  h : Nat
  /-- The clearing update of R578. -/
  clearing : Bool := false
  deriving DecidableEq, Repr

/-- The display controller. Images are held as the bytes that are not 0xFF, by byte offset (R567). -/
structure DispSt where
  /-- The code of R579. -/
  state : Nat := 0
  /-- The running update. -/
  cur : Option DispUpd := none
  /-- The update that waits. -/
  queued : Option DispUpd := none
  /-- The number given last. -/
  lastNum : Nat := 0
  /-- DISP_UPD_NUM and the rectangle of DISP_RECT0 and 1. -/
  updNum : Nat := 0
  rect : Nat × Nat × Nat × Nat := (0, 0, 0, 0)
  /-- DISP_UPD_RESULT. -/
  result : Nat := 0
  /-- What the start of the running or last update latched (R570, R571). -/
  band : Nat := 0
  noTemp : Bool := false
  tempHigh : Bool := false
  asFull : Bool := false
  bandChanged : Bool := false
  /-- Frame f and F of the running update, and the frames it drove. -/
  frame : Nat := 0
  frames : Nat := 0
  driven : Nat := 0
  /-- The waveform RAM. -/
  wf : Bytes := []
  /-- The fetch of the current frame failed, and of some frame of the update (R577). -/
  frameLost : Bool := false
  updLost : Bool := false
  /-- The rail failure under which the update ends: rail, cause, FB in mV (R574). -/
  railFail : Option (Nat × Nat × Nat) := none
  /-- The power-up step of R573, 0 while none runs. -/
  powerStep : Nat := 0
  /-- The discharge step: 1 frame, 2 VCOM, 3 to 6 VGH, VPOS, VGL, VNEG, 7 the end; 0 while none runs (R576). -/
  dscStep : Nat := 0
  /-- DISP_RAIL_STATUS: good and discharge engaged, VNEG, VGL, VPOS, VGH; DSC_SLOW. -/
  good : Nat := 0
  dsc : Nat := 0xF
  dscSlow : Bool := false
  /-- DISP_VCOM_SET in mV. -/
  vcomSet : Nat := 0
  /-- The display stop runs: 0 no, 1 for a disable, 2 for a device-state entry (R581). -/
  stop : Nat := 0
  /-- The host's panel temperature and its ONT (R571). -/
  hostTemp : Option (Int × Nat) := none
  shownKnown : Bool := false
  /-- DISP_STATUS.CLEAR_DUE. -/
  clearDue : Bool := false
  /-- Main reset was released with IN_PROGRESS set; the next enable reports it (R578). -/
  interrupted : Bool := false
  pend : List (Nat × Nat) := []
  shown : List (Nat × Nat) := []
  /-- DISP_FB_BASE. -/
  fbBase : Nat := 0
  frameCnt : Nat := 0
  lostCnt : Nat := 0
  /-- DISP_UPD_FLAG (AON). -/
  flag : Nat := 0
  deriving DecidableEq, Repr

end Sys2Proof.Machine
end

