-- ==== Sys2Proof/Machine/StateHost.lean ====
section
/-! DEFINITION. The state of the host interface: identity, mailboxes, events, sessionless bookkeeping of commands,
parameters and enable units (R122 to R151), and what the block has sent to the outside. -/

namespace Sys2Proof.Machine

/-- What carries a PTP message (R320, R323). -/
structure PtpCarrier where
  /-- 0 IEEE 802.3, 1 UDP/IPv4, 2 UDP/IPv6. -/
  transport : Nat := 0
  /-- The VID of its one tag; 0 untagged. -/
  vid : Nat := 0
  /-- The UDP checksum where the part sets it itself: 0 under IPv4. -/
  udpChecksum : Option Nat := none
  /-- Octets appended after the message: the two that keep the UDP checksum of IPv6 right. -/
  appended : Nat := 0
  deriving DecidableEq, Repr

/-- What the block has sent: the model's own log of outputs, newest first. -/
inductive OutMsg where
  /-- The MSI-X message of a vector: the address and the data of its table entry (R131). -/
  | msix (vector addr data : Nat)
  /-- A frame on an Ethernet port. -/
  | eth (port : Nat) (frame : Bytes)
  /-- A PTP message: port, kind (0 Sync, 1 Delay_Req, 2 Pdelay_Req, 3 Pdelay_Resp, 9 Delay_Resp), sequenceId, the
  timestamp in ns, the correctionField in 2^-16 ns, and what carries it (R320, R323). -/
  | ptp (port kind seq time : Nat) (corr : Int) (carrier : PtpCarrier)
  /-- An Announce message: port, sequenceId, dataset, and what carries it (R324). -/
  | announce (port seq : Nat) (a : Announce) (carrier : PtpCarrier)
  /-- A CAN frame: controller, object, identifier, data. -/
  | can (controller object ident : Nat) (data : Bytes)
  /-- A strait frame (R521). -/
  | strait (frame : Bytes)
  /-- A health frame: word and CRC-8 (R518). -/
  | health (word crc : Nat)
  /-- The bytes an SPI frame returned (R126). -/
  | spi (answer : Bytes)
  /-- The answer to a read of a register with side effects (R347). -/
  | readAnswer (offset value : Nat)
  /-- A panel frame begins: update number, frame f, and whether every code is 0 (R570, R576). -/
  | panelFrame (n f : Nat) (zero : Bool)
  deriving DecidableEq, Repr

/-- The last completed command of a mailbox (R135): its 32-byte header and tag, and the response. -/
structure Stored where
  /-- Header and tag bytes of the command. -/
  key : Bytes
  /-- The whole response as written. -/
  response : Bytes
  deriving DecidableEq, Repr

/-- What the configuration space of the PCI Express function holds beside its identity (R122). -/
structure PcieCfg where
  /-- The command register. -/
  command : Nat := 0
  /-- BAR0 and BAR2/3 as programmed; the bits within the size of the window read 0. -/
  bar0 : Nat := 0
  bar2 : Nat := 0
  /-- The function is in D3hot; otherwise in D0. -/
  d3hot : Bool := false
  /-- The AER uncorrectable and correctable error status. -/
  aerUncorr : Nat := 0
  aerCorr : Nat := 0
  deriving DecidableEq, Repr

/-- The state of one enable unit (R148, R151). -/
structure UnitSt where
  /-- The unit is ENABLED. -/
  enabled : Bool := false
  /-- The unit's shut-down sequence runs. -/
  stopping : Bool := false
  /-- SEQ of the latest command that answered PENDING for the unit. -/
  pend : Option Nat := none
  deriving DecidableEq, Repr

/-- The enable units of R148, by subsystem. -/
structure Units where
  time : List UnitSt := [{}]
  ox : List UnitSt := [{}]
  dispatch : List UnitSt := [{}]
  loop : List UnitSt := List.replicate 32 {}
  motion : List UnitSt := List.replicate 16 {}
  logic : List UnitSt := [{}]
  adc : List UnitSt := List.replicate 27 {}
  meter : List UnitSt := List.replicate 6 {}
  can : List UnitSt := List.replicate 4 {}
  net : List UnitSt := List.replicate 3 {}
  pair : List UnitSt := [{}]
  display : List UnitSt := [{}]
  deriving DecidableEq, Repr

/-- The host interface (R122 to R151). -/
structure HostSt where
  /-- ID_HOSTIF (R128). -/
  hostif : Nat := 0
  /-- ID_STATUS.READY. -/
  ready : Bool := false
  /-- ID_STATUS.MINIMAL. -/
  minimal : Bool := false
  /-- ID_STATUS.SESSION_REQUIRED. -/
  sessionRequired : Bool := false
  /-- ID_MALOR_VER. -/
  malorVer : Nat := 0
  /-- ID_MODEL_SIG. -/
  modelSig : Nat := 0
  /-- MBOX_OWNER (R128). -/
  owner : BitVec 8 := 0
  /-- MBOX_DONE. -/
  done : BitVec 8 := 0
  /-- HOST_DROP_CNT, saturating. -/
  dropCnt : Nat := 0
  /-- DB_IGNORED_CNT, saturating. -/
  ignoredCnt : Nat := 0
  /-- The bytes of mailboxes 0 to 7, at most 1,024 each, bytes not listed 0. -/
  mbox : List Bytes := List.replicate 8 []
  /-- The mailboxes rung and not yet answered, in ring order (R134). -/
  rung : List Nat := []
  /-- Those whose command has begun and waits on hardware (R134). -/
  waiting : List Nat := []
  /-- The commands answered BUSY: code, payload, and the AON tick until which a resend is BUSY again (R112). -/
  retry : List (Nat × Bytes × Nat) := []
  /-- The stored command and response of each mailbox (R135). -/
  stored : List (Option Stored) := List.replicate 8 none
  /-- EVT_STATUS0 to 3. -/
  evtStatus : BitVec 128 := 0
  /-- EVT_MASK0 to 3. -/
  evtMask : BitVec 128 := BitVec.allOnes 128
  /-- EVT_PIN_SEL. -/
  pinSel : BitVec 16 := 0
  /-- EVT_CTRL.PINS_EN. -/
  pinsEn : Bool := true
  /-- RES_IDX_EST. -/
  resEst : Nat := 0
  /-- RES_IDX_DSP. -/
  resDsp : Nat := 0
  /-- RES_IDX_DIAG_EST. -/
  resDiagEst : Nat := 0
  /-- RES_IDX_DIAG_DSP. -/
  resDiagDsp : Nat := 0
  /-- MSI-X enabled in configuration space. -/
  msixEn : Bool := false
  /-- MSI-X function mask. -/
  msixFuncMask : Bool := false
  /-- MSI-X per-vector masks. -/
  msixVecMask : BitVec 16 := BitVec.allOnes 16
  /-- The pending-bit array. -/
  pba : BitVec 16 := 0
  /-- The MSI-X table: low and high address and data of entries 0 to 15; the vector controls are `msixVecMask`. -/
  msixTbl : List Nat := List.replicate 48 0
  /-- The other configuration registers of the function. -/
  pcie : PcieCfg := {}
  /-- The PCI Express link is up. -/
  linkUp : Bool := false
  /-- FRAME_ERR since the last SPI status frame (R126). -/
  spiFrameErr : Bool := false
  /-- Parameter values that were written, by ID; an absent ID holds its default (R142, R144). -/
  params : List (Nat × Int) := []
  /-- Table parameters that were written, by ID; an absent ID holds its default. -/
  tables : List (Nat × Bytes) := []
  /-- The committed value of a parameter written but not yet committed by its block (R30, R146). -/
  uncommitted : List (Nat × Int) := []
  /-- The same of a LIVE table. -/
  tabUncommitted : List (Nat × Bytes) := []
  /-- The enable units. -/
  units : Units := {}
  /-- What was sent, newest first. -/
  sent : List OutMsg := []
  deriving DecidableEq, Repr

end Sys2Proof.Machine
end

