-- ==== Sys2Proof/Machine/StateLogic.lean ====
section
/-! DEFINITION. The state of the Aplar logic engine (R401 to R419). -/

namespace Sys2Proof.Machine

/-- A timer (R406). -/
structure Tmr where
  start : Nat := 0
  q : Bool := false
  run : Bool := false
  inPrev : Bool := false
  deriving DecidableEq, Repr

/-- A counter (R407); the bits its last instruction left in area C stand in the image. -/
structure Ctr where
  count : Int := 0
  up : Bool := false
  down : Bool := false
  deriving DecidableEq, Repr

/-- The bit areas I, Q, P, M, R, T, C, S and H of R401 as one image. -/
structure Image where
  i : BitVec 24 := 0
  q : BitVec 24 := 0
  p : BitVec 576 := 0
  m : BitVec 4096 := 0
  r : BitVec 1024 := 0
  t : BitVec 256 := 0
  c : BitVec 512 := 0
  s : BitVec 256 := 0
  h : BitVec 256 := 0
  deriving DecidableEq, Repr

/-- The Aplar engine. -/
structure LogicSt where
  /-- The program in program RAM as its image, header included; empty with none (R412). -/
  image : Bytes := []
  /-- The slot of that program: true B. -/
  slot : Bool := false
  /-- A program that waits to be switched in, with its slot (R413). -/
  next : Option (Bytes × Bool) := none
  /-- MODE: 0 OFF, 1 RUN, 2 STOP, 3 HOLD, 4 HOLD-LINE, 5 STANDBY, 6 FAULT. -/
  mode : Nat := 0
  /-- The commanded mode: 0 RUN, 1 STOP, 2 HOLD. -/
  cmd : Nat := 0
  /-- The commanded mode that R76 step 4 recorded (AON). -/
  cmdSaved : Option Nat := none
  /-- An uncorrectable error awaits the next scan instant (R414). -/
  eccDue : Bool := false
  /-- The engine is held in FAULT until LOGIC_MODE_SET (R414). -/
  faulted : Bool := false
  /-- Scans of LOGIC_STEP that are left (R411). -/
  steps : Nat := 0
  /-- A stepping is in progress. -/
  stepping : Bool := false
  /-- The stepping ends at the next scan instant. -/
  stepCut : Bool := false
  /-- The next scan is an initialising scan (R409). -/
  initDue : Bool := false
  /-- The initialising scan keeps the Q and P images. -/
  initKeep : Bool := false
  /-- FIRST_SCAN and PROGRAM_CHANGED of the last scan. -/
  firstScan : Bool := false
  progChanged : Bool := false
  /-- PROGRAM_CHANGED is due in the next scan. -/
  changeDue : Bool := false
  /-- Scan instants for which the program switch in progress still skips the scan, and the scans it skipped. -/
  skipLeft : Nat := 0
  skipped : Nat := 0
  scanCnt : Nat := 0
  scanTime : Nat := 0
  scanMax : Nat := 0
  /-- LT in µs (R406). -/
  lt : Nat := 0
  ts : Nat := 0
  skipCnt : Nat := 0
  evtDrop : Nat := 0
  /-- The image as the program works on it; its Q and P are the program's. -/
  img : Image := {}
  /-- The previous-state image. -/
  prev : Image := {}
  timers : List Tmr := List.replicate 256 {}
  counters : List Ctr := List.replicate 256 {}
  /-- The EVT instructions whose stored previous input is 1. -/
  evtOn : List Nat := []
  /-- Host-bit writes that wait for the next latch: word, mask, value (R416). -/
  hostBits : List (Nat × Nat × Nat) := []
  /-- DOUT0 to 23 as the output stage drives them. -/
  dout : BitVec 24 := 0
  /-- DOUT has been driven since reset; before the first enable the balls are in their reset state. -/
  doutOn : Bool := false
  /-- The permit image of the output stage (R26). -/
  permit : BitVec 576 := 0
  deriving DecidableEq, Repr

end Sys2Proof.Machine
end

