-- ==== Sys2Proof/Machine/StateLoop.lean ====
section
/-! DEFINITION. The state of the loop engine (R357 to R377). -/

namespace Sys2Proof.Machine

/-- One loop (R373). Positions, velocities and accelerations carry 16 fraction bits (R365). -/
structure LoopSt where
  /-- STATE: 0 OFF, 1 START, 2 RUN, 3 INHIBIT, 4 HOLD, 5 STANDBY, 6 FAULT, 7 STOPPING. -/
  state : Nat := 0
  /-- PERMIT as last seen. -/
  permit : Bool := false
  atTarget : Bool := false
  cause : Nat := 0
  stale : Bool := false
  /-- STICKY, nine bits (R374). -/
  sticky : Nat := 0
  target : Int := 0
  p : Int := 0
  v : Int := 0
  a : Int := 0
  pv : Int := 0
  err : Int := 0
  gain : Nat := 0
  /-- u of the last evaluation, Q1.31. -/
  out : Int := 0
  s1 : Int := 0
  s2 : Int := 0
  s3 : Int := 0
  feTmr : Nat := 0
  samples : Nat := 0
  ts : Nat := 0
  /-- ONT of the last sample that had a source value; none before the first. -/
  valAt : Option Nat := none
  /-- The value the engine drives through the output stage, and the level it gives in mode 3. -/
  drive : Int := 0
  level : Bool := false
  /-- LOOP_OUT has been driven since reset; before the first enable the ball is in its reset state. -/
  driven : Bool := false
  /-- A source value has been seen since the enable or restart (R370). -/
  started : Bool := false
  /-- ONT of the enable or restart (R370). -/
  since : Nat := 0
  /-- The hand-off wrote the target since the last sample (R304). -/
  handed : Bool := false
  /-- Clears that wait for the next sample: the mask of LOOP_CLEAR. -/
  clearDue : Nat := 0
  /-- An uncorrectable error that awaits the next sample: its offset in the engine region (R367). -/
  eccDue : Option Nat := none
  /-- Malor has yet to rewrite the loop's coefficients and gain table (R367). -/
  rewriting : Bool := false
  /-- A stop of R107 or of R76 step 4 has put the loop in OFF while its unit stays ENABLED (R372). -/
  parked : Bool := false
  /-- After DEEP: the loop waits for the first scan instant before it resumes (R372). -/
  waitScan : Bool := false
  /-- The loop resumes with p := PV at its next sample with RUN conditions (R369, R372). -/
  realign : Bool := false
  /-- Changes of state since the last EV_LOOP_STATE, and that event's ONT (R369). -/
  changes : Nat := 0
  lastEvt : Option Nat := none
  deriving DecidableEq, Repr

end Sys2Proof.Machine
end

