-- ==== Sys2Proof/Machine/StateMeter.lean ====
section
/-! DEFINITION. The state of energy metering (R447 to R471). -/

namespace Sys2Proof.Machine

/-- One phase of a feeder after its last step (R450, R468). -/
structure FeederPhase where
  /-- Irms in mA of the last step since the enable (R449). -/
  prevI : Option Rat := none
  /-- Per-sample means of v'·i', H(v')·i', v'² and i'² of the last complete step (R455). -/
  means : Option (Rat × Rat × Rat × Rat) := none
  vrms : Rat := 0
  irms : Rat := 0
  p : Rat := 0
  q : Rat := 0
  seg : Nat := 0
  deriving DecidableEq, Repr

/-- One meter: a feeder (0, 1) or a thermal meter (2 to 5). -/
structure MeterUnit where
  run : Bool := false
  /-- The step in progress is not a complete one. -/
  skip : Bool := false
  /-- A meter stop waits for the next boundary (R467). -/
  stopDue : Bool := false
  /-- The segment table or configuration is to be rewritten (R459). -/
  cfgBad : Bool := false
  qual : Nat := 0
  ts : Nat := 0
  /-- ONT of the last step; none before the first. -/
  valAt : Option Nat := none
  phases : List FeederPhase := List.replicate 3 {}
  /-- Feeder: P in W, Q in var, S in VA. Thermal: Pth in W, K, and nothing. -/
  power : Rat := 0
  second : Rat := 0
  third : Rat := 0
  /-- FLOW, T_SUP, T_RET. -/
  flow : Int := 0
  tSup : Int := 0
  tRet : Int := 0
  /-- Mean inputs of the last complete step: flow, supply, return (R455). -/
  inMeans : List (Option Rat) := [none, none, none]
  /-- Over the save interval: sum of step powers, steps, largest absolute power (R463). -/
  sum : Rat := 0
  cnt : Nat := 0
  peak : Nat := 0
  deriving DecidableEq, Repr

/-- One pulse output (R461). -/
structure Pulse where
  backlog : Nat := 0
  /-- e, in 2^-32 of the LSB. -/
  e : Nat := 0
  /-- 0 free, 1 pulse active, 2 gap. -/
  phase : Nat := 0
  ovf : Bool := false
  /-- The output drives its ball. -/
  used : Bool := false
  deriving DecidableEq, Repr

/-- The metering subsystem. -/
structure MeterSt where
  units : List MeterUnit := List.replicate 6 {}
  /-- The 26 accumulators in snapshot order, and their residues in 2^-32 of the LSB (R458). -/
  acc : List Nat := List.replicate 26 0
  res : List Nat := List.replicate 26 0
  pulses : List Pulse := List.replicate 8 {}
  steps : Nat := 0
  snapSeq : Nat := 0
  snapOnt : Nat := 0
  snap : List Nat := List.replicate 26 0
  /-- A save waits for the next boundary. -/
  saveDue : Bool := false
  /-- ONT of errors whose KIND 2 record is to be written (R459). -/
  lossDue : List Nat := []
  /-- SEQ and capture ONT of the last record written. -/
  last : Nat × Nat := (0, 0)
  deriving DecidableEq, Repr

end Sys2Proof.Machine
end

