-- ==== Sys2Proof/Machine/StateMgmt.lean ====
section
/-! DEFINITION. The state of the management subsystem: boot state, watchdog, telemetry registers, updates and the
NOR regions that hold images, boot records and saved configurations (R93 to R121, R601 to R603). -/

namespace Sys2Proof.Machine

/-- The content of a valid boot record (R98). -/
structure BootRec where
  seq : Nat := 0
  malorActive : Bool := false
  malorTrial : Bool := false
  modelActive : Bool := false
  modelTrial : Bool := false
  aplarActive : Bool := false
  aplarTrial : Bool := false
  deriving DecidableEq, Repr

/-- A valid parameter store: one complete saved configuration (R99). -/
structure Store where
  seq : Nat
  params : List (Nat × Int)
  tables : List (Nat × Bytes)
  /-- Subsystem IDs and units to enable at start. -/
  enables : List (Nat × Nat)
  deriving DecidableEq, Repr

/-- An open update (R120). -/
structure Update where
  /-- 1 Malor, 2 model image, 3 Aplar program. -/
  type : Nat
  total : Nat
  /-- The slot being written: false A, true B. -/
  slot : Bool
  /-- Ranges programmed: offset and length. -/
  ranges : List (Nat × Nat) := []
  /-- UPDATE_FINISH succeeded. -/
  finished : Bool := false
  deriving DecidableEq, Repr

/-- A supply monitor (R117). -/
structure Vmon where
  mv : Nat := 0
  low : Bool := false
  high : Bool := false
  deriving DecidableEq, Repr

/-- The management subsystem. -/
structure MgmtSt where
  /-- BOOT_STATE.CNT. -/
  cnt : Nat := 0
  /-- BOOT_STATE.IN_START. -/
  inStart : Bool := false
  /-- BOOT_STATE.PF_SEEN. -/
  pfSeen : Bool := false
  /-- BOOT_STATE.THERM. -/
  therm : Bool := false
  /-- BOOT_STATE.MINIMAL. -/
  minimal : Bool := false
  /-- BOOT_STATE.STAGE. -/
  stage : Nat := 0
  /-- BOOT_STATE.MALOR_SLOT: true slot B. -/
  malorSlot : Bool := false
  /-- BOOT_STATE.WARM. -/
  warm : Bool := false
  /-- BOOT_STATE.MIN_REQ. -/
  minReq : Bool := false
  /-- BOOT_FAIL reason. -/
  failReason : Nat := 0
  /-- BOOT_FAIL stage. -/
  failStage : Nat := 0
  /-- BOOT_FAIL was written for this start (R108). -/
  failWritten : Bool := false
  /-- WDT_CTRL.TIMEOUT. -/
  wdtTimeout : Nat := 2000
  /-- WDT_CTRL.EN. -/
  wdtEn : Bool := true
  /-- WDT_COUNT, saturating. -/
  wdtCount : Nat := 0
  /-- The ms counted since the last kick. -/
  wdtMs : Nat := 0
  /-- The ready timer runs (R105). -/
  readyTimer : Bool := false
  /-- The MINIMAL reason (R106); 0 outside MINIMAL. -/
  minReason : Nat := 0
  /-- A restart scheduled by MGMT_RESTART or UPDATE_ACTIVATE: its mode (R603). -/
  restart : Option Nat := none
  /-- Malor is running (stage 5 passed and not reset). -/
  malorRuns : Bool := false
  /-- A watchdog expiry is to be reported once Malor runs (R108). -/
  wdtReport : Bool := false
  /-- The slot changes to be reported once Malor runs: P1, P2, P3 of each, oldest first (R101, R121). -/
  revertReport : List (Nat × Nat × Nat) := []
  /-- A thermal shut-down is to be reported at the next start (R114). -/
  thermReport : Bool := false
  /-- Pending enables cancelled by a MGMT reset, to be reported: subsystem, unit, SEQ (R151). -/
  cancelled : List (Nat × Nat × Nat) := []
  /-- TSENS0 to 5, Q9.7, none while not valid. -/
  tsens : List (Option Int) := List.replicate 6 none
  /-- TSENS_STAT [16]: the OX point is lowered by R114. -/
  oxLowered : Bool := false
  /-- HOT forced OPP-L and every sensor is not yet below 100 °C (R114). -/
  hotHold : Bool := false
  /-- The host's last OX point setting. -/
  hostOx : Nat := 2
  /-- VMON0 to 7. -/
  vmon : List Vmon := List.replicate 8 {}
  /-- MGMT_LOAD: load of the last window. -/
  load : Nat := 0
  /-- MGMT_LOAD: highest load since reset. -/
  loadMax : Nat := 0
  /-- MGMT_LOAD: shed level. -/
  shed : Nat := 0
  /-- MGMT_BUSY_CNT. -/
  busyCnt : Nat := 0
  /-- MGMT_SHED_SECS. -/
  shedSecs : Nat := 0
  /-- BUS_ERR_CNT. -/
  busErrCnt : Nat := 0
  /-- BUS_ERR_ADDR. -/
  busErrAddr : Nat := 0
  /-- SRAM_ECC_CORR. -/
  sramCorr : Nat := 0
  /-- SRAM_ECC_UNCORR. -/
  sramUncorr : Nat := 0
  /-- DRAM loss counters of the blocks of R28: ingest, capture, mirror, display. -/
  dramLoss : List Nat := List.replicate 4 0
  /-- Telemetry aggregates: true where the window was aggregated, newest first (R111). -/
  aggregates : List Bool := []
  /-- PAD_GRP_CFG0 to 19 (R59). -/
  padCfg : List Nat := (List.range 20).map (fun n => if n = 1 ∨ n = 8 then 0x51 else 0x31)
  /-- The Malor code region of MGMT SRAM from 0x0_0100_0000; bytes not listed 0 (R93). -/
  code : Bytes := []
  /-- The resource section in the first 4 MiB of DRAM (R94). -/
  resource : Bytes := []
  /-- Boot headers A and B: the 64 bytes at offset 0 of each, empty while erased (R98). -/
  bootA : Bytes := []
  bootB : Bytes := []
  /-- Parameter stores A and B (R99). -/
  storeA : Option Store := none
  storeB : Option Store := none
  /-- Malor slots A and B, as bytes; empty while erased (R96, R97). -/
  malorA : Bytes := []
  malorB : Bytes := []
  /-- Model slots A and B. -/
  modelA : Bytes := []
  modelB : Bytes := []
  /-- Aplar slots A and B. -/
  aplarA : Bytes := []
  aplarB : Bytes := []
  /-- The open update. -/
  update : Option Update := none
  deriving DecidableEq, Repr

end Sys2Proof.Machine
end

