-- ==== Sys2Proof/Machine/StateModel.lean ====
section
/-! DEFINITION. The state of the network model and the sub-station table (R182 to R216). -/

namespace Sys2Proof.Machine

/-- A sub-station entry (R206, R207). -/
structure Entry where
  /-- GEN, wrapping; GEN_CLOSE equals it. -/
  gen : Nat := 0
  present : Bool := false
  valid : Bool := false
  srcHost : Bool := false
  /-- Ethernet port of the last ingest update. -/
  port : Nat := 0
  /-- M_PRESENT, six bits: T_SUP, T_RET, FLOW, DP, VALVE, DEMAND. -/
  mPresent : Nat := 0
  group : Nat := 0
  source : Nat := 0
  tMeas : Nat := 0
  tAcc : Nat := 0
  seq : Nat := 0
  tSup : Int := 0
  tRet : Int := 0
  flow : Int := 0
  dp : Int := 0
  valve : Nat := 0
  demand : Int := 0
  rejectCnt : Nat := 0
  keyEpoch : Nat := 0
  /-- The entry's DRAM words hold an uncorrectable error (R214). -/
  eccBad : Bool := false
  deriving DecidableEq, Repr

/-- The model subsystem. -/
structure ModelSt where
  /-- The DRAM copy of the image in effect, header included; empty with no model. -/
  image : Bytes := []
  /-- The slot in effect: true B. -/
  slot : Bool := false
  /-- The staged image; empty with none. -/
  staged : Bytes := []
  /-- The staged slot. -/
  stagedSlot : Bool := false
  /-- A switch is pending. -/
  switching : Bool := false
  /-- tsw (R199). -/
  tsw : Nat := 0
  /-- What set tsw: 0 dispatch boundary, 1 estimation boundary, 2 neither. -/
  tswKind : Nat := 0
  /-- The attribute pass of the pending switch is complete. -/
  passDone : Bool := false
  /-- Sub-station entries that are not all 0, by index. -/
  table : List (Nat × Entry) := []
  /-- Each entry as it was at an estimation boundary whose snapshot is still to come, where it was updated since (R20). -/
  prior : List (Nat × Entry) := []
  /-- EV_MODEL_SUBST_SILENT was raised and the count has not fallen since (R213). -/
  silentRaised : Bool := false
  deriving DecidableEq, Repr

end Sys2Proof.Machine
end

