-- ==== Sys2Proof/Machine/StateNet.lean ====
section
/-! DEFINITION. The state of the Ethernet ports and of ingest (R495 to R512). -/

namespace Sys2Proof.Machine

/-- One Ethernet port (R509, R510). -/
structure PortSt where
  link : Bool := false
  speed : Nat := 0
  rxFrames : Nat := 0
  txFrames : Nat := 0
  fcsErr : Nat := 0
  drop : Nat := 0
  long : Nat := 0
  /-- The second of ONT being counted and the TYPE 1 datagrams admitted in it (R500). -/
  second : Nat := 0
  admitted : Nat := 0
  /-- ONT of the last EV_NET_RATE. -/
  lastRate : Option Nat := none
  deriving DecidableEq, Repr

/-- The network subsystem. -/
structure NetSt where
  ports : List PortSt := List.replicate 2 {}
  accept : Nat := 0
  /-- ING_REJ_FORMAT to ING_REJ_RANGE. -/
  rej : List Nat := List.replicate 8 0
  rejRate : Nat := 0
  loss : Nat := 0
  sent : Nat := 0
  skip : Nat := 0
  /-- BCAST_T_LAST (AON). -/
  tLast : Nat := 0
  /-- ONT of the last reject event of each step (R512). -/
  lastRej : List (Option Nat) := List.replicate 8 none
  /-- Epochs under which a datagram was accepted since the ingest enable (R502). -/
  epochs : List Nat := []
  /-- The last broadcast set: publication number and plaintext (R504, R506). -/
  last : Option (Nat × Bytes) := none
  deriving DecidableEq, Repr

end Sys2Proof.Machine
end

