-- ==== Sys2Proof/Machine/StateOx.lean ====
section
/-! DEFINITION. The state of Ox, of estimation with Drove, and of economic dispatch (R217 to R312). -/

namespace Sys2Proof.Machine

/-- What an arm of a queue writes (R224). -/
structure ArmReq where
  prog : Nat
  iterLimit : Nat
  bench : Bool
  deadline : Nat
  /-- A factorisation precedes the solve. -/
  refact : Bool
  deriving DecidableEq, Repr

/-- A column of a factor: its L panel entries by row at EL, and its entry of the reciprocal table (R229, R235). -/
structure FacCol where
  col : Nat
  el : Int
  ed : Int
  recip : Int
  recipE : Int
  /-- The pivot was replaced (R234). -/
  bad : Bool
  low : List (Nat × Int)
  deriving DecidableEq, Repr

/-- The program call that a job makes next (R221, R237, R259, R293). -/
inductive OxStage where
  /-- Nothing has run. -/
  | start
  /-- EST_ASSEMBLE or KKT_LOAD. -/
  | load
  /-- EST_FACT or KKT_FACT. -/
  | fact
  /-- EST_SOLVE or KKT_SOLVE of the right-hand side. -/
  | solve
  /-- EST_SPMV or KKT_SPMV: the residual of the solution. -/
  | resid
  /-- The solve of the scaled residual. -/
  | corr
  /-- The residual of the corrected solution. -/
  | check
  /-- The solution is there, refined where it has to be; the job goes on with it. -/
  | solved
  /-- KKT_SPMV for the stopping test (R294). -/
  | test
  /-- The job program is over. -/
  | over
  deriving DecidableEq, Repr

/-- What OXMEM, and the DRAM factor store where KKT_PLACE says so, hold of a queue (R218, R219, R229). -/
structure OxMem where
  /-- Matrix mantissas by nonzero of the pattern, at EA. -/
  mat : List Int := []
  /-- The factor in elimination order. -/
  fac : List FacCol := []
  /-- The right-hand side at EB and its solution at EX. -/
  rhs : List Int := []
  sol : List Int := []
  /-- The residual's accumulators at EB, its shift g, the correction, and the corrected solution that awaits its check
  (R237). -/
  resid : List Int := []
  shift : Nat := 0
  corr : List Int := []
  cand : List Int := []
  /-- The iterate at EX: pressures and flows (R259), or x, zb, yb, za, ya (R293). -/
  x : List Int := []
  deriving DecidableEq, Repr

/-- One Ox queue (R244 to R247). -/
structure OxQueue where
  /-- The arm of the current or last job. -/
  arm : ArmReq := { prog := 0, iterLimit := 0, bench := false, deadline := 0, refact := false }
  /-- An arm that waits for the running job of queue 0 to stop, or for an abort to end, with its ONT (R224). -/
  next : Option (ArmReq × Nat) := none
  /-- STICKY and JOB of the job that such an arm stops; the registers are those of the new job already (R224). -/
  prev : Option (Nat × Nat) := none
  /-- The structure signature of the model under which the job was armed (R201). -/
  sig : Nat := 0
  /-- A model switch took place since the arm (R228). -/
  oldModel : Bool := false
  /-- The deadline was reached before ONT stepped backward (R225); the same of the arm that waits. -/
  late : Bool := false
  lateNext : Bool := false
  /-- The program call that the job makes next. -/
  stage : OxStage := .start
  /-- The next solve is the first after a factorisation (R237). -/
  fresh : Bool := false
  /-- An uncorrectable error met the factor in this job (R241). -/
  facBad : Bool := false
  /-- The residuals of the last refined solve, exactly (R237). -/
  resNow : List Rat := []
  mem : OxMem := {}
  /-- STATE: 0 IDLE, 1 WAITING, 2 RUNNING, 3 SUSPENDED, 4 STOPPING, 5 ABORTING. -/
  state : Nat := 0
  /-- OUTCOME: 0 COMPLETE, 1 DEGRADED, 2 TIMEOUT, 3 ABORTED. -/
  outcome : Nat := 0
  /-- REFACT of the last job. -/
  refact : Bool := false
  /-- BENCH of the last job. -/
  bench : Bool := false
  refDone : Nat := 0
  /-- STICKY, twelve bits (R246). -/
  sticky : Nat := 0
  pivCnt : Nat := 0
  /-- Perturbations of the factorisation in progress. -/
  pivCur : Nat := 0
  pivFirst : Option Nat := none
  satCol : Option Nat := none
  satProg : Nat := 0
  nFact : Nat := 0
  nSolve : Nat := 0
  job : Nat := 0
  iter : Nat := 0
  block : Nat := 0
  susp : Nat := 0
  /-- ONT of the current suspension. -/
  suspFrom : Nat := 0
  suspNs : Nat := 0
  /-- Time that blocks waited for DRAM beyond their compiled cycles, in ns. -/
  dramNs : Nat := 0
  armOnt : Nat := 0
  startOnt : Nat := 0
  endOnt : Nat := 0
  tau : Nat := 24
  delta : Nat := 20
  refSteps : Nat := 4
  refTol : Nat := 20
  pivLimit : Nat := 16
  /-- The norm of b of the last refined solve. -/
  normB : Rat := 0
  ptStart : Nat := 0
  ptEnd : Nat := 0
  /-- The last job had PIV_PERT. -/
  hadPert : Bool := false
  /-- Diagnostic buffers 0 to 2 (R247). -/
  diag : List Bytes := [[], [], []]
  deriving DecidableEq, Repr

/-- The Ox engine. -/
structure OxSt where
  q : List OxQueue := [{}, {}]
  /-- OX_FACTOR_STATE: EST and KKT: 0 INVALID, 1 VALID, 2 VALID_DEGRADED, 3 in progress. -/
  factor : List Nat := [0, 0]
  /-- OX_FACTOR_PIV. -/
  factorPiv : List Nat := [0, 0]
  eccCorr : Nat := 0
  /-- An uncorrectable word stands in the DRAM factor store (R34, R219). -/
  storeBad : Bool := false
  eccUncorr : Nat := 0
  progFaults : Nat := 0
  /-- OX_FSTORE_BASE. -/
  fstore : Nat := 0
  /-- The schedule set is being reloaded (R241). -/
  reloading : Bool := false
  deriving DecidableEq, Repr

/-- A parcel (R263): TEMP in Q16.16 of T_BASE, VOL in mL, AGE in ms, UNK in UQ0.16. -/
structure Parcel where
  temp : Int
  vol : Nat
  age : Nat
  unk : Nat
  deriving DecidableEq, Repr

/-- A CONVERGED state (R260, R261). -/
structure HydState where
  sig : Nat
  t0 : Nat
  p : List Int
  q : List Int
  deriving DecidableEq, Repr

/-- What dispatch and the store charge read of a published pair (R21, R287, R288). -/
structure PairView where
  /-- FLAGS and t0. -/
  flags : Nat := 0
  t0 : Nat := 0
  /-- The arrays in the units of R269 and R270: node temperatures, cluster T_ARR, cluster DELAY mean, sub-station DP_EST. -/
  nodeT : List Int := []
  tArr : List Int := []
  delay : List Nat := []
  dp : List Int := []
  /-- The inputs of its period, by map entry, and the DEMAND fields of its snapshot, by sub-station. -/
  inputs : List (Nat × Int) := []
  demand : List Int := []
  deriving DecidableEq, Repr

/-- Estimation and Drove. -/
structure EstSt where
  /-- PHASE: 0 idle, 1 snapshot, 2 Newton, 3 Drove. -/
  phase : Nat := 0
  stale : Bool := false
  fill : Bool := false
  /-- The consecutive STALE count. -/
  staleRun : Nat := 0
  iter : Nat := 0
  cause : Nat := 0
  t0 : Nat := 0
  /-- The boundary of the previous Drove advance. -/
  t0Prev : Nat := 0
  staleCnt : Nat := 0
  convCnt : Nat := 0
  /-- EV_OX_EST_STALE was raised for this run of STALE publications. -/
  alarmed : Bool := false
  /-- DROVE_TDROVE in µs. -/
  tdrove : Nat := 0
  /-- The part of DROVE_TDROVE that one sub-step of the model in effect takes, in µs (R271). -/
  tSub : Nat := 0
  dtClamped : Bool := false
  subCap : Bool := false
  restarted : Bool := false
  subSteps : Nat := 0
  pipeRestarts : Nat := 0
  /-- DROVE_BASE. -/
  base : Nat := 0
  mergeCnt : Nat := 0
  /-- DROVE_TIME in µs. -/
  droveTime : Nat := 0
  /-- The snapshot of the sub-station table (R19). -/
  snap : List (Nat × Entry) := []
  /-- The last sample at or before a boundary whose snapshot is still to come, of each input resampled since (R19): none
  where it had no sample yet. -/
  held : List (Nat × Option (Int × Nat)) := []
  /-- The inputs of this period, by map entry (R255). -/
  inputs : List (Nat × Int) := []
  /-- Each input's last fresh value since enable or model switch. -/
  lastFresh : List (Nat × Int) := []
  inputHeld : Bool := false
  /-- The mean parcel temperatures of the pipes at the start of the period, in 0.01 °C (R254). -/
  pipeT : List Int := []
  /-- How the Newton job's program ended, as a cause of R261. -/
  verdict : Nat := 0
  /-- Each sub-station's flow last used under case 1 of R258, in µL/s. -/
  lastFlow : List (Nat × Int) := []
  /-- The cause of this period where it is decided already (R261). -/
  pend : Option Nat := none
  /-- The state this period found, where it is CONVERGED. -/
  found : Option HydState := none
  /-- This period started from the neutral point. -/
  cold : Bool := false
  halvings : Nat := 0
  /-- The job number of this period; 0 if none was armed. -/
  job : Nat := 0
  /-- The last CONVERGED state. -/
  state : Option HydState := none
  /-- A Drove state exists. -/
  droveValid : Bool := false
  /-- The parcel rows, FROM end first, by pipe. -/
  rows : List (List Parcel) := []
  /-- The node mixtures, by node; VOL is not used. -/
  mix : List Parcel := []
  /-- The nodes had an inflow in the last sub-step. -/
  inflow : List Bool := []
  /-- The published pair buffers 0 to 2. -/
  buf : List Bytes := [[], [], []]
  /-- The last pair, and the dt of its advance in ms. -/
  pair : PairView := {}
  pairDt : Nat := 0
  deriving DecidableEq, Repr

/-- A warm-start candidate (R296, R299). -/
structure Warm where
  sig : Nat
  step0 : Nat
  rangeId : Nat
  rhoK : Int
  vec : List Int
  deriving DecidableEq, Repr

/-- A dispatch publication, as later periods and the hand-off use it. -/
structure Pub where
  number : Nat
  sig : Nat
  td : Nat
  step0 : Nat
  /-- The td of the solution. -/
  tdSol : Nat
  empty : Bool
  shifted : Bool
  /-- H x n_var values. -/
  sched : List Int
  /-- BCAST. -/
  bcast : List Int
  deriving DecidableEq, Repr

/-- The host inputs of dispatch (R290, R291): values by block, object and interval. -/
structure DspInputs where
  tIn : Nat := 0
  nInt : Nat := 0
  /-- ONT of the commit. -/
  commit : Nat := 0
  /-- Key: block x 2^32 + object x 2^16 + interval. -/
  vals : List (Nat × Int) := []
  deriving DecidableEq, Repr

/-- A row of the dispatch problem (R283): coefficients by variable, and its two bounds. -/
structure QpRow where
  a : List (Nat × Rat)
  l : Option Rat := none
  u : Option Rat := none
  deriving DecidableEq, Repr

/-- A variable of the dispatch problem (R282, R285): box, quadratic, linear and constant coefficient. -/
structure QpVar where
  lo : Rat
  hi : Rat
  quad : Rat := 0
  lin : Rat := 0
  const : Rat := 0
  deriving DecidableEq, Repr

/-- The problem built for a period (R282 to R287), in the units of R282. -/
structure Problem where
  vars : List QpVar := []
  rows : List QpRow := []
  /-- The starting vector; none where the job starts cold. -/
  start : Option (List Int) := none
  /-- σ and ρ of the matrix (R286). -/
  sigma : Rat := 0
  rho : Rat := 1
  deriving DecidableEq, Repr

/-- What the ADMM job found at its last residual check (R294, R302). -/
structure JobResult where
  /-- The schedule in the units of R282, step-major, before saturation. -/
  x : List Int := []
  /-- The warm-start vector's mantissas: x, zb, yb, za, ya (R296). -/
  warm : List Int := []
  rp : Rat := 0
  rd : Rat := 0
  /-- The norms of the stopping scales (R294). -/
  normP : Rat := 0
  normD : Rat := 0
  /-- The objective in C_BASE units. -/
  objective : Int := 0
  deriving DecidableEq, Repr

/-- Economic dispatch. -/
structure DspSt where
  /-- PHASE: 0 idle, 1 waiting or building, 2 solving, 3 published. -/
  phase : Nat := 0
  warmPeer : Bool := false
  cold : Bool := false
  refact : Bool := false
  rhoK : Int := 0
  cause : Nat := 0
  td : Nat := 0
  tdl : Nat := 0
  ta : Nat := 0
  /-- tdl and ta of the current period are still to come. -/
  tdlDue : Bool := false
  taDue : Bool := false
  /-- The pair of the current period is published and Malor builds. -/
  building : Bool := false
  /-- The pair that the build of the current period reads (R21, R281). -/
  pair : PairView := {}
  /-- The input set that was active when the build started. -/
  buildSet : Option DspInputs := none
  /-- A job was armed for the current period. -/
  armed : Bool := false
  /-- The cause that the job of the current period gave. -/
  jobCause : Option Nat := none
  /-- The pair of the current period was NO_STATE. -/
  noState : Bool := false
  /-- DSP_LOG_BASE. -/
  logBase : Nat := 0
  /-- The consecutive SHIFTED count. -/
  shiftRun : Nat := 0
  shiftCnt : Nat := 0
  convCnt : Nat := 0
  stopped : Bool := false
  lastShifted : Bool := false
  skipped : Bool := false
  entries : Nat := 0
  handoffs : Nat := 0
  /-- EV_DISPATCH_SHIFT_ALARM is outstanding. -/
  alarmed : Bool := false
  /-- The last build had INPUT_SHORT or INPUT_NONE. -/
  inputBad : Bool := false
  /-- FLAGS of the current build. -/
  flags : Nat := 0
  problem : Problem := {}
  result : JobResult := {}
  /-- tdl and ta were reached before ONT stepped backward (R225). -/
  tdlHit : Bool := false
  taHit : Bool := false
  staging : List (Nat × Int) := []
  /-- The active input set; none before a commit since enable. -/
  active : Option DspInputs := none
  /-- Store charges in Wh and STORE_GUESS. -/
  charge : List (Rat × Bool) := []
  own : Option Warm := none
  peer : Option Warm := none
  /-- The latest publication that was not EMPTY. -/
  last : Option Pub := none
  /-- The publication of the current period. -/
  cur : Option Pub := none
  /-- The last publication was SHIFTED or EMPTY (R402). -/
  pubBad : Bool := false
  /-- rp and rd of the last converged publication, each divided by its stopping scale, with its signature (R295). -/
  lastRes : Option (Nat × Rat × Rat) := none
  /-- The departure log, newest first: ta and Tc at step 0 per cluster (R305). -/
  log : List (Nat × List Int) := []
  buf : List Bytes := [[], [], []]
  /-- The matrix values must be rebuilt at the next build. -/
  rebuild : Bool := true
  /-- The last broadcast limits and the applied set-points of pumps, by object. -/
  lastTc : List (Nat × Int) := []
  lastD : List (Nat × Int) := []
  /-- Σ P - Σ E_PWR·d of the step 0 applied, in W. -/
  appliedW : Rat := 0
  /-- The energy registers of the two feeders at the last dispatch boundary, and that boundary's ONT. -/
  feederAt : Option (Int × Nat) := none
  /-- The mean net power of the feeders over the previous period, in W. -/
  feederMean : Rat := 0
  deriving DecidableEq, Repr

end Sys2Proof.Machine
end

