-- ==== Sys2Proof/Machine/StatePair.lean ====
section
/-! DEFINITION. The state of the redundant pair (R513 to R541). -/

namespace Sys2Proof.Machine

/-- A bulk object (R529). -/
structure Bulk where
  obj : Nat
  sig : Nat
  tag : Nat
  aux : Nat
  rangeId : Nat
  body : Bytes
  deriving DecidableEq, Repr

/-- The mirror values of a complete period that its blocks have not taken yet (R528). -/
structure Period where
  number : Nat
  ont : Nat
  /-- KIND, INDEX and data of each entry not yet taken. -/
  items : List (Nat × Nat × Bytes)
  deriving DecidableEq, Repr

/-- The pair unit. -/
structure PairSt where
  /-- Filtered PAIR_GRANT. -/
  grant : Bool := false
  /-- The hold line is asserted. -/
  hold : Bool := false
  /-- Network tick count at which the hold began. -/
  holdTick : Nat := 0
  /-- 0 grant loss, 1 FAIL. -/
  holdWhy : Nat := 0
  fail : Bool := false
  cause : Nat := 0
  failsafe : Bool := false
  /-- The unit runs: enabled and not yet ended by the pair stop. -/
  running : Bool := false
  /-- PAIR_HB. -/
  hb : Bool := false
  /-- COUNT of the next health frame. -/
  count : Nat := 0
  /-- PAIR_HEALTH. -/
  health : Nat := 0
  /-- PAIR_PEER_HEALTH. -/
  peerHealth : Nat := 0
  /-- Own link: LINK_ID and next SEQ; none while no link is started. -/
  link : Option (Nat × Nat) := none
  /-- The peer's links seen since the enable: LINK_ID and last accepted SEQ. -/
  peerLinks : List (Nat × Nat) := []
  straitUp : Bool := false
  sync : Bool := false
  dual : Bool := false
  mismatch : Nat := 0
  /-- Frames of R523 step 3 failed in succession. -/
  tagRun : Nat := 0
  rxFormat : Nat := 0
  rxEpoch : Nat := 0
  rxTag : Nat := 0
  rxSeq : Nat := 0
  /-- PAIR_PERIOD_SEQ and PAIR_PERIOD_LOST_CNT. -/
  periodSeq : Nat := 0
  lostCnt : Nat := 0
  /-- Consecutive lost periods. -/
  lostRun : Nat := 0
  /-- A complete period was applied since STRAIT_UP. -/
  applied : Bool := false
  /-- LIST payload of the period being received. -/
  listAcc : Option Bytes := none
  /-- A frame of the period or of the object being received was missed. -/
  listBad : Bool := false
  bulkBad : Bool := false
  /-- A complete period whose entries are being taken. -/
  period : Option Period := none
  grantCnt : Nat := 0
  grantT : Nat := 0
  bulkTx : Nat := 0
  bulkRx : Nat := 0
  /-- Objects queued for sending, oldest first. -/
  queue : List Bulk := []
  /-- The latest object of each kind that this unit produced. -/
  own : List (Nat × Bulk) := []
  /-- The latest object of each kind accepted from the peer. -/
  peer : List (Nat × Bulk) := []
  /-- BULK payload of the object being received. -/
  bulkAcc : Option Bytes := none
  /-- A Drove state of the peer waits for the next advance (R530). -/
  droveDue : Bool := false
  /-- ONT of the watchdog expiries that count towards FAIL (R519). -/
  wdt : List Nat := []
  deriving DecidableEq, Repr

end Sys2Proof.Machine
end

