-- ==== Sys2Proof/Machine/StatePins.lean ====
section
/-! DEFINITION. The glitch filters of the digital inputs (R62, R63). -/

namespace Sys2Proof.Machine

/-- One glitch filter: its filtered level and how many consecutive samples differ from it. -/
structure Filt where
  level : Bool := false
  run : Nat := 0
  deriving DecidableEq, Repr

/-- The filters of the input balls whose edges or levels a block uses. -/
structure PinSt where
  /-- The ball of each capture unit; units 8 to 10 have their fixed filter before it. -/
  cap : List Filt := List.replicate 16 {}
  /-- LSTEP_IN0 to 3. -/
  step : List Filt := List.replicate 4 {}
  /-- ENC0 and ENC1, A and B. -/
  encA : List Filt := List.replicate 2 {}
  encB : List Filt := List.replicate 2 {}
  /-- DIN0 to 23. -/
  din : List Filt := List.replicate 24 {}
  deriving DecidableEq, Repr

/-- A ball stays at a level for `k` samples of 40 ns under a filter of `n` samples, 0 with the filter off: the filtered
level changes once `n` consecutive samples differ from it (R62). -/
def Filt.feed (n : Nat) (level : Bool) (k : Nat) (f : Filt) : Filt :=
  if level = f.level then { f with run := 0 }
  else if n ≤ f.run + k then { level := level, run := 0 }
  else { f with run := f.run + k }

/-- A new FILTER setting holds the filtered level and restarts the count (R63). -/
def Filt.restart (f : Filt) : Filt := { f with run := 0 }

/-- The number of samples of a FILTER setting (R60). -/
def filterN (f : Nat) : Nat :=
  match f with
  | 0 => 0 | 1 => 5 | 2 => 25 | 3 => 250 | _ => 2500

/-- The pad group whose filter a capture unit's ball uses (R334); none for the fixed filters of units 8 to 10. -/
def capPad (unit : Nat) : Option Nat :=
  if unit < 8 then some 6 else if unit < 11 then none else if unit < 13 then some 15 else some 16

/-- The filters of pad group `g` restart (R63). -/
def PinSt.restart (g : Nat) (p : PinSt) : PinSt :=
  { cap := (upTo p.cap.length).map (fun u => let f := p.cap.getD u {}; if capPad u = some g then f.restart else f)
    step := if g = 15 then p.step.map Filt.restart else p.step
    encA := if g = 15 then p.encA.map Filt.restart else p.encA
    encB := if g = 15 then p.encB.map Filt.restart else p.encB
    din := if g = 16 then p.din.map Filt.restart else p.din }

end Sys2Proof.Machine
end

