-- ==== Sys2Proof/Machine/StatePower.lean ====
section
/-! DEFINITION. The state of the always-on power controller (R44 to R92). -/

namespace Sys2Proof.Machine

/-- The state of an island (R67). -/
inductive IslSt where
  | off | retain | gated | on
  deriving DecidableEq, Repr

/-- The five device states (R71, R80). -/
inductive Dev where
  | run | idle | sleep | deep | off
  deriving DecidableEq, Repr

/-- Where the supply sequence of R51 to R53 stands. -/
inductive Phase where
  /-- POR_N is low. -/
  | porLow
  /-- PWR_EN is asserted, PMIC_PG awaited (R51 steps 3 to 7). -/
  | waitPg
  /-- PMIC_PG is high, the stable 25 MHz oscillator awaited, main reset held. -/
  | waitXtal
  /-- PWR_EN was dropped; it is reasserted after 1 s, or 60 s after a thermal shut-down (R52, R53, R114). -/
  | waitRetry (seconds : Nat)
  /-- Main reset held for 1 ms at a request (R601). -/
  | mainReset
  /-- The rails are up and main reset is released. -/
  | up
  /-- The device state OFF: PWR_EN low until a wake (R77). -/
  | asleep
  deriving DecidableEq, Repr

/-- An operating-point change in progress (R83, R85). -/
structure OppChange where
  /-- false VDD_SOC, true VDD_OX. -/
  ox : Bool
  /-- The point at the start of the change. -/
  old : Nat
  /-- The requested point. -/
  new : Nat
  /-- PMIC_VREQ is high and PMIC_VACK awaited. -/
  awaitAck : Bool
  /-- The second request of R85, for the previous voltage. -/
  retry : Bool
  deriving DecidableEq, Repr

/-- The power controller and everything else held in AON that no other chapter owns. -/
structure PowerSt where
  phase : Phase := .porLow
  /-- PWR_EN. -/
  pwrEn : Bool := false
  /-- PMIC_PG. -/
  pmicPg : Bool := false
  /-- PMIC_VREQ. -/
  pmicVreq : Bool := false
  /-- The PFAIL_N level. -/
  pfailN : Bool := true
  /-- NOR_MODE as sampled at the last main reset release: true Octal (R45). -/
  norOctal : Bool := false
  /-- PAIR_UNIT as sampled at the last main reset release: true unit B (R45). -/
  unitB : Bool := false
  /-- PWR_STATE.CUR. -/
  cur : Dev := .run
  /-- PWR_STATE.TARGET. -/
  target : Dev := .run
  /-- PWR_STATE.BUSY. -/
  busy : Bool := false
  /-- PWR_STATE.STEP. -/
  step : Nat := 0
  /-- The entry steps completed, latest first (R79 reverses them). -/
  doneSteps : List Nat := []
  /-- The transition in progress is an exit. -/
  exiting : Bool := false
  /-- The islands' states, PWR_ISL_STATUS (R92). -/
  isl : List IslSt := .on :: List.replicate 11 .off
  /-- PWR_ISL_REQ. -/
  islReq : Nat := 0x003C3CFF
  /-- Islands in power-down (R68). -/
  islDown : List Nat := []
  /-- Islands being woken (R68). -/
  islWake : List Nat := []
  /-- An arm waits for OX to come ON (R70). -/
  oxArmWaits : Bool := false
  /-- The OX island has been ON since POR or main reset (R82). -/
  oxSeen : Bool := false
  /-- PWR_OPP.SOC. -/
  oppSoc : Nat := 2
  /-- PWR_OPP.OX. -/
  oppOx : Nat := 2
  /-- Last voltage acknowledged for VDD_SOC, as a point. -/
  voltSoc : Nat := 2
  /-- Last voltage acknowledged for VDD_OX, as a point. -/
  voltOx : Nat := 2
  /-- The change in progress; PWR_OPP.BUSY. -/
  opp : Option OppChange := none
  /-- A change of the second rail accepted in the same request (R84). -/
  oppNext : Option OppChange := none
  /-- PWR_OPP.LAST_RC. -/
  oppRc : Nat := 0
  /-- WAKE_EN [12:0]. -/
  wakeEn : Nat := 1
  /-- WAKE_LATCH [12:0]. -/
  wakeLatch : Nat := 0
  /-- WAKE_FIRST: the bit number while VALID. -/
  wakeFirst : Option Nat := none
  /-- WAKE_TICK. -/
  wakeTick : Nat := 0
  /-- PFAIL_LATCH.CAUSE. -/
  pfCause : Nat := 0
  /-- PFAIL_LATCH.FIRST. -/
  pfFirst : Nat := 0
  /-- PFAIL_LATCH.OVF. -/
  pfOvf : Bool := false
  /-- PFAIL_LATCH.PG_TIMEOUT. -/
  pgTimeout : Bool := false
  /-- PFAIL_ONT. -/
  pfOnt : Nat := 0
  /-- An incident is open (R90). -/
  pfIncident : Bool := false
  /-- CLK_SPREAD. -/
  clkSpread : Nat := 0
  /-- The spread in effect, taken from CLK_SPREAD at each PLL's relock (R87): SYS [1:0], OX [3:2]. -/
  spreadNow : Nat := 0
  /-- A relock of the OX PLL waits for the next schedule-block boundary (R86). -/
  oxRelockDue : Bool := false
  /-- CLK_STATUS [4:0]: lock of SYS, OX, NET, DDR, ADC. -/
  clkLock : Nat := 0
  /-- CLK_STATUS [8]. -/
  xtal25 : Bool := false
  /-- CLK_STATUS [9]. -/
  xtal32 : Bool := true
  /-- ONT of the last loss of lock of each PLL (R88). -/
  pllLoss : List (Option Nat) := List.replicate 5 none
  /-- WAKE_TOKEN, 16 octets. -/
  wakeToken : Bytes := List.replicate 16 0
  /-- ONT recorded at entry step 8. -/
  entOnt : Nat := 0
  /-- AON tick count recorded at entry step 8. -/
  entTick : Nat := 0
  /-- Target state recorded at entry step 8. -/
  entTarget : Dev := .run
  /-- NET tick count recorded at entry step 8 for DEEP. -/
  entNet : Nat := 0
  /-- The digest of the Malor code region of MGMT SRAM stored at step 7 for DEEP (R76). -/
  entDigest : Bytes := []
  /-- The 32.768 kHz tick count of AON. -/
  aonTick : Nat := 0
  /-- The 125 MHz tick count of the network time unit (R78). -/
  netTick : Nat := 0
  /-- Phase of the 32.768 kHz tick against the 125 MHz tick, of 125,000,000 (model's own). -/
  tickPhase : Nat := 0
  /-- The pad-hold latch (R76 step 4). -/
  padHold : Bool := false
  /-- The CAN standby latch (R74). -/
  canStandby : Bool := false
  /-- A completed entry that has not been reported (R80). -/
  entryUnreported : Option Dev := none
  /-- The current exit from SLEEP is a save-timer cycle (R77). -/
  saveCycle : Bool := false
  /-- EV_POWER_WAKE_DURING_ENTRY is owed once Malor runs (R79). -/
  wakeDuringEntry : Bool := false
  deriving DecidableEq, Repr

end Sys2Proof.Machine
end

