-- ==== Sys2Proof/Machine/StateRecorder.lean ====
section
/-! DEFINITION. The state of the event recorder (R542 to R564): the buffer, the three NOR areas and the sector map. -/

namespace Sys2Proof.Machine

/-- One event record (R542); the CRC is a function of the other fields. -/
structure Rec where
  code : Nat
  /-- [0] PINNED, [1] RAM_ONLY, [2] BOOT_ROM. -/
  flags : Nat
  /-- Event source, 0xFF for none. -/
  source : Nat
  /-- The extended sequence number; the record holds bits [31:0]. -/
  seq : Nat
  /-- ONT at which the source raised the event. -/
  ont : Nat
  p1 : Nat
  p2 : Nat
  p3 : Nat
  deriving DecidableEq, Repr

/-- One NOR slot that has been programmed. -/
inductive Slot where
  | record (r : Rec)
  /-- Neither empty nor a record whose CRC verifies (R543). -/
  | damaged
  deriving DecidableEq, Repr

/-- One position of a ring (R549, R553): the sector mapped to it and what was programmed. -/
structure RingPos where
  /-- The sector: NOR offset / 65,536 - 0x290 (R550). -/
  sector : Nat
  /-- The position may be written. -/
  good : Bool := true
  /-- The position failed and awaits relocation. -/
  relocPending : Bool := false
  /-- Dropped for the life of the NOR (R554). -/
  dropped : Bool := false
  /-- Derived erase count of the mapped sector (R555). -/
  erases : Nat := 0
  /-- Slots programmed since the last erase. -/
  slots : List Slot := []
  /-- The 512-byte records of a save-ring position (R463). -/
  saves : List Bytes := []
  deriving DecidableEq, Repr

/-- The recorder. -/
structure RecorderSt where
  /-- REC_SEQ_AON, the extended sequence number (AON). -/
  seqAon : Nat := 0
  /-- Unflushed records, oldest first. -/
  buf : List Rec := []
  /-- Records kept in the buffer ring after their flush, newest first (the rest of the 2,048 slots). -/
  kept : List Rec := []
  /-- REC_OVF_CNT, saturating. -/
  ovfCnt : Nat := 0
  /-- The overflow not yet recorded: number discarded and ONT [31:0] of the first. -/
  ovfOpen : Option (Nat × Nat) := none
  /-- The recorder has been rebuilt since POR (R547). -/
  rebuilt : Bool := false
  /-- REC_STATUS.RAM_ONLY (R554). -/
  ramOnly : Bool := false
  /-- REC_STATUS.FLUSHING. -/
  flushing : Bool := false
  /-- The sequence number after the last one programmed into NOR; 0 where none was (REC_FLUSHED, R561). -/
  flushEnd : Nat := 0
  /-- REC_TORN_CNT, saturating. -/
  tornCnt : Nat := 0
  /-- REC_DROP_CNT. -/
  dropCnt : Nat := 0
  /-- The rebuilt registers are valid; they read 0 from a MGMT reset to start step 8 (R561). -/
  regsValid : Bool := false
  /-- The permanent area, slot 0 first (R548). -/
  perm : List Slot := []
  /-- The status sector, slot 0 first (R550). -/
  status : List Slot := []
  /-- EV_RECORDER_STATUS_FULL was raised. -/
  statusFullRaised : Bool := false
  /-- The circulating area's 33 positions (R549). -/
  circ : List RingPos := (List.range 33).map (fun i => { sector := 5 + i })
  /-- The position being written. -/
  circPos : Nat := 0
  /-- The save ring's 8 positions (R556); their records are METER's. -/
  save : List RingPos := (List.range 8).map (fun i => { sector := 38 + i })
  /-- The save-ring position being written. -/
  savePos : Nat := 0
  /-- Spare sectors that no map or BAD record names, with their erase counts (R553, R555). -/
  spare : List (Nat × Nat) := (List.range 32).map (fun i => (46 + i, 0))
  /-- The sectors that failed and were replaced, with their erase counts (R553, R555). -/
  bad : List (Nat × Nat) := []
  /-- The positions marked for levelling at their next erase-ahead: ring, position, spare sector (R555). -/
  levelling : List (Nat × Nat × Nat) := []
  /-- REC_SEQ_AON [63:32] as last written to the status sector (R550). -/
  seqHigh : Nat := 0
  deriving DecidableEq, Repr

end Sys2Proof.Machine
end

