-- ==== Sys2Proof/Machine/StateRtc.lean ====
section
/-! DEFINITION. The state of the real-time clock (R342 to R356). -/

namespace Sys2Proof.Machine

/-- A date and time as RTC_TIME0 and RTC_TIME1 hold it (R346); WDAY is computed. -/
structure RtcTime where
  tick : Nat := 0
  sec : Nat := 0
  min : Nat := 0
  hour : Nat := 0
  /-- WDAY as last computed. -/
  wday : Nat := 5
  day : Nat := 1
  month : Nat := 1
  /-- year - 2000. -/
  year : Nat := 0
  deriving DecidableEq, Repr

/-- An alarm (R346, R350). -/
structure Alarm where
  target : RtcTime := { wday := 0, day := 0, month := 0 }
  armed : Bool := false
  /-- REPEAT: 0 once, 1 hourly, 2 daily, 3 weekly. -/
  rep : Nat := 0
  fired : Bool := false
  late : Bool := false
  invalid : Bool := false
  /-- SKIP, saturating at 255. -/
  skip : Nat := 0
  /-- The first unrecorded firing: LATE, D, second of day; and how many firings since the last recording (R351). -/
  unrecorded : Option (Bool × Nat × Nat) := none
  firings : Nat := 0
  deriving DecidableEq, Repr

/-- A freeze shadow (R347): the two register values held while frozen. -/
structure Shadow where
  frozen : Bool := false
  time : RtcTime := {}
  deriving DecidableEq, Repr

/-- The real-time clock. -/
structure RtcSt where
  time : RtcTime := {}
  /-- RTC_CTRL.HALT. -/
  halt : Bool := true
  /-- RTC_STAT.DATE_INVALID. -/
  dateInvalid : Bool := false
  /-- RTC_STAT.LOST. -/
  lost : Bool := true
  /-- RTC_STAT.XTAL_SLIP. -/
  xtalSlip : Bool := false
  /-- RTC_STAT.FRZ_EXP. -/
  frzExp : Bool := false
  /-- RTC_STAT.END. -/
  ended : Bool := false
  /-- RTC_STAT.MISMATCH. -/
  mismatch : Bool := false
  /-- RTC_TRIM, s16. -/
  trim : Int := 0
  /-- The part of a tick that TRIM has added or omitted so far, in 10^-8 ticks (model's own). -/
  trimAcc : Int := 0
  alarms : List Alarm := [{}, {}]
  /-- The host's freeze shadow. -/
  hostShadow : Shadow := {}
  /-- Malor's freeze shadow. -/
  mgmtShadow : Shadow := {}
  /-- The reading at which the RTC was halted, in 1/32,768 s since 2000-01-01 (R349). -/
  haltReading : Nat := 0
  /-- e of the previous trim capture in this locked run, in ns (R353). -/
  ePrev : Option Int := none
  /-- rf, the filtered rate error, in 10^-8 with 24 fraction bits. -/
  rf : Option Int := none
  deriving DecidableEq, Repr

end Sys2Proof.Machine
end

