-- ==== Sys2Proof/Machine/StateSec.lean ====
section
/-! DEFINITION. The state of the security engine: PUF helper data, key store, sessions, OTP and the provisioning
record (R152 to R181). -/

namespace Sys2Proof.Machine

/-- What a key-store slot holds (R158, R180). -/
structure KeySlot where
  /-- TYPE: 0 empty, 1 AES-256, 2 HMAC, 3 P-384 private, 4 P-384 public, 5 KDF master. -/
  type : Nat := 0
  /-- BIND, one bit. -/
  bind : Nat := 0
  /-- SOURCE: 0 derived, 1 boot ROM, 2 OTP, 3 imported or established. -/
  source : Nat := 0
  /-- The key value, which no processor can read. -/
  key : Bytes := []
  deriving DecidableEq, Repr

/-- A session (R162 to R164). -/
structure Session where
  /-- SESSION ID, not 0. -/
  id : Nat
  /-- false OPENING, true open. -/
  isOpen : Bool := false
  /-- The transcript digest T. -/
  transcript : Bytes := []
  /-- Z while OPENING. -/
  z : Bytes := []
  /-- Highest accepted SEQ. -/
  seq : Nat := 0
  /-- Consecutive tag mismatches (R137). -/
  misses : Nat := 0
  /-- ONT of the last accepted command, or of the opening. -/
  last : Nat := 0
  deriving DecidableEq, Repr

/-- A wrapped position of the provisioning record (R168): epoch and the secret under the storage key. -/
structure Wrapped where
  epoch : Nat
  blob : Bytes
  deriving DecidableEq, Repr

/-- A copy of the provisioning record (R168). -/
structure Provision where
  seq : Nat
  devCert : Bytes
  caCert : Bytes
  /-- Positions: master 0, master 1, strait 0, strait 1. -/
  wrapped : List (Option Wrapped) := [none, none, none, none]
  /-- The HMAC-SHA-384 over the whole copy. -/
  mac : Bytes := []
  deriving DecidableEq, Repr

/-- A staged certificate (R175): total length, and the bytes written at their offsets. -/
structure Staged where
  total : Nat := 0
  ranges : List (Nat × Bytes) := []
  deriving DecidableEq, Repr

/-- The security engine. -/
structure SecSt where
  /-- SEC_STATUS.ROOT_OK. -/
  rootOk : Bool := false
  /-- SEC_STATUS: helper copy used. -/
  copyUsed : Bool := false
  /-- SEC_STATUS.HELPER_REPAIRED. -/
  repaired : Bool := false
  /-- SEC_STATUS.DRBG_OK. -/
  drbgOk : Bool := false
  /-- The regenerated root. -/
  root : Bytes := []
  /-- The storage key of R157, which occupies no slot. -/
  storage : Bytes := []
  /-- SEC_BIND_VIOL_CNT, saturating. -/
  bindViol : Nat := 0
  /-- SEC_DRBG_FAIL_CNT, saturating. -/
  drbgFail : Nat := 0
  /-- SEC_EPOCH0 to 3. -/
  epochs : List Nat := [0, 0, 0, 0]
  /-- SEC_CMD. -/
  cmd : Nat := 0
  /-- SEC_CMD_STAT. -/
  cmdStat : Nat := 0
  /-- The key store. -/
  slots : List KeySlot := List.replicate 64 {}
  /-- Sessions 0 to 3. -/
  sessions : List (Option Session) := [none, none, none, none]
  /-- Helper copies 0 and 1 in NOR, 2,048 bytes each; empty while erased (R153). -/
  helper0 : Bytes := []
  helper1 : Bytes := []
  /-- The additional input that the random bit generator took at its start (R152). -/
  addInput : Bytes := []
  /-- The two copies of the provisioning record in NOR. -/
  provA : Option Provision := none
  provB : Option Provision := none
  /-- The certificate staging area: device, issuing CA. -/
  staged : List Staged := [{}, {}]
  /-- OTP words that are not zero, by word number (R169). -/
  otp : List (Nat × Nat) := [(1, 4)]
  /-- M_ROM: the boot ROM was measured at boot step 2 of this main reset (R177). -/
  romMeasured : Bool := false
  /-- The ingest key cache of each master position is refilled (R159). -/
  cacheValid : List Bool := [false, false]
  /-- An erasure of RETIRED is complete (R172). -/
  retiredErased : Bool := false
  deriving DecidableEq, Repr

end Sys2Proof.Machine
end

