-- ==== Sys2Proof/Machine/StateTime.lean ====
section
/-! DEFINITION. The state of the network time unit (R313 to R341) and of the real-time clock (R342 to R356). -/

namespace Sys2Proof.Machine

/-- A trigger unit (R330 to R333). -/
structure Trigger where
  armed : Bool := false
  periodic : Bool := false
  pol : Bool := false
  evt : Bool := false
  /-- A pulse is in progress. -/
  active : Bool := false
  lateLast : Bool := false
  /-- EVT_DROP, saturating at 255. -/
  evtDrop : Nat := 0
  /-- SKIP_LAST, saturating at 65,535. -/
  skipLast : Nat := 0
  /-- The next target. -/
  target : Nat := 0
  period : Nat := 0
  width : Nat := 0
  /-- Pulses left; 0 is unbounded or disarmed. -/
  remain : Nat := 0
  /-- The nominal target of the last pulse. -/
  nominal : Nat := 0
  /-- ONT of the last EV_TIME_TRG_PULSE. -/
  lastEvt : Option Nat := none
  /-- The unit has pulsed since the last latch of the logic engine (R402). -/
  pulsed : Bool := false
  /-- The unit has been armed since reset; before that its ball is in its reset state (R44). -/
  driven : Bool := false
  deriving DecidableEq, Repr

/-- A capture unit (R334). -/
structure Capture where
  /-- COUNT, wrapping. -/
  count : Nat := 0
  ts : Nat := 0
  /-- STAT [0]: last edge rising. -/
  rising : Bool := false
  /-- STAT [1]: captured in SLEEP. -/
  inSleep : Bool := false
  /-- EVT_DROP, saturating. -/
  evtDrop : Nat := 0
  /-- ONT of the last EV_TIME_CAPTURE. -/
  lastEvt : Option Nat := none
  /-- ONT of the last EV_TIME_CAP_OVF. -/
  lastOvf : Option Nat := none
  deriving DecidableEq, Repr

/-- The network time unit. -/
structure TimeSt where
  /-- ONT in ns. -/
  ont : Nat := 0
  /-- The 40 fraction bits (R313). -/
  frac : Nat := 0
  /-- TIME_STATUS.VALID. -/
  valid : Bool := false
  /-- TIME_STATUS.LOCKED. -/
  locked : Bool := false
  /-- TIME_STATUS.BELLWETHER. -/
  bellwether : Bool := false
  /-- TIME_STATUS.SLEEP_HOLD. -/
  sleepHold : Bool := false
  /-- TIME_STATUS.SERVO: 0 OFF, 1 FREE, 2 PPS, 3 ACQUIRING, 4 LOCKED, 5 HOLDOVER. -/
  servo : Nat := 0
  /-- TIME_STATUS.CONFIRM. -/
  confirm : Nat := 0
  /-- TIME_OFFSET: the last offset measurement in ns. -/
  offset : Int := 0
  /-- TIME_MPD: the filtered mean path delay in ns, with 16 fraction bits. -/
  mpd : Int := 0
  /-- A mean path delay or peer delay exists (R325). -/
  mpdKnown : Bool := false
  /-- TIME_RATE: y in Q24.8 ppb. -/
  rate : Int := 0
  /-- The servo integral in Q24.8 ppb. -/
  integ : Int := 0
  /-- The last 64 values of y, newest first (R328). -/
  yHist : List Int := []
  /-- Consecutive measurements within TIME_LOCK_THRESH. -/
  lockRun : Nat := 0
  /-- ONT of the last servo update. -/
  lastUpdate : Option Nat := none
  /-- TIME_STEP_CNT, saturating. -/
  stepCnt : Nat := 0
  /-- TIME_LAST_STEP. -/
  lastStep : Int := 0
  /-- TIME_OUTLIER_CNT, saturating. -/
  outliers : Nat := 0
  /-- TIME_PORT_STATE of ports 1 and 2. -/
  portState : List Nat := [3, 3]
  /-- TIME_GM_ID. -/
  gmId : Nat := 0
  /-- The best Announce dataset held for each port (R340). -/
  announce : List (Option Announce) := [none, none]
  /-- sequenceId counters of Sync, Delay_Req/Pdelay_Req, Announce per port. -/
  seqIds : List Nat := [0, 0, 0, 0, 0, 0]
  /-- t2 - t1 of the last Sync less its correction, in 2^-16 ns (R325). -/
  lastSync : Option Int := none
  /-- The nominal targets of the pulses of units 14 and 15 that their consumers have not taken yet. -/
  pulse14 : Option Nat := none
  pulse15 : Option Nat := none
  /-- Egress time of the outstanding Delay_Req or Pdelay_Req per port, ns. -/
  reqSent : List (Option Nat) := [none, none]
  /-- Triggers 0 to 15. -/
  trg : List Trigger := List.replicate 16 {}
  /-- Captures 0 to 15. -/
  cap : List Capture := List.replicate 16 {}
  /-- ONT_SNAP_SEQ, wrapping. -/
  snapSeq : Nat := 0
  /-- ONT_SNAP_LO and HI. -/
  snapOnt : Nat := 0
  /-- ONT_SNAP_FRAC. -/
  snapFrac : Nat := 0
  /-- ONT_SNAP_STAT. -/
  snapStat : Nat := 0
  deriving DecidableEq, Repr

end Sys2Proof.Machine
end

