-- ==== Sys2Proof/Machine/State.lean ====
section
/-! DEFINITION. The state of the block, its faults and refusals, and the state after reset. -/

namespace Sys2Proof.Machine

/-- Everything the spec gives the block, the queue of waiting commands, and the model's counter of free values. -/
structure State where
  /-- The commands that wait, first in, first out. -/
  pending : List Instr := []
  /-- How many free values have been drawn (the model's own field). -/
  free : Nat := 0
  /-- The host interface. -/
  host : HostSt := {}
  /-- The event recorder. -/
  recorder : RecorderSt := {}
  /-- The power controller. -/
  power : PowerSt := {}
  /-- The management subsystem. -/
  mgmt : MgmtSt := {}
  /-- The security engine. -/
  sec : SecSt := {}
  /-- The network time unit. -/
  time : TimeSt := {}
  /-- The real-time clock. -/
  rtc : RtcSt := {}
  /-- The network model and the sub-station table. -/
  model : ModelSt := {}
  /-- The Ox engine. -/
  ox : OxSt := {}
  /-- Estimation and Drove. -/
  est : EstSt := {}
  /-- Economic dispatch. -/
  dsp : DspSt := {}
  /-- Aplar logic. -/
  logic : LogicSt := {}
  /-- Loops 0 to 31. -/
  loops : List LoopSt := List.replicate 32 {}
  /-- Axes 0 to 15. -/
  axes : List AxisSt := List.replicate 16 {}
  /-- The counts m of encoders 0 and 1, wrapping (R385). -/
  enc : List Nat := [0, 0]
  /-- CAN controllers 0 to 3. -/
  can : List CanSt := List.replicate 4 {}
  /-- Analogue acquisition. -/
  adc : AdcSt := {}
  /-- Metering. -/
  meter : MeterSt := {}
  /-- METER_SNAPSHOT commands that wait for the next step boundary (R460). -/
  snapWait : List Mail := []
  /-- Ethernet and ingest. -/
  net : NetSt := {}
  /-- The redundant pair. -/
  pair : PairSt := {}
  /-- The status panel. -/
  disp : DispSt := {}
  /-- The glitch filters of the digital inputs. -/
  pins : PinSt := {}
  deriving DecidableEq, Repr

/-- Why the block stops. No command of the spec stops it: commands it cannot serve are answered with a reason
code, and bus errors are counted (R36). -/
inductive Fault where
  /-- Raised by no meaning of this model. Safe. -/
  | never
  deriving DecidableEq, Repr

/-- Why a command has no meaning. -/
inductive Refusal where
  /-- Raised by `exec` for a command that has no meaning yet. Safe. -/
  | notModelled (mnemonic : String)
  deriving DecidableEq, Repr

/-- The block at its reset: POR_N low, every AON item cleared (R47). -/
def State.reset : State := {}

end Sys2Proof.Machine
end

