-- ==== Sys2Proof/Machine/Params.lean ====
section
/-! DEFINITION. The parameters: what each ID is (R142 to R147) and the tables of the owning chapters. -/

namespace Sys2Proof.Machine

/-- How a parameter's value is held (R144). -/
inductive PKind where
  /-- An integer of `bits` bits. -/
  | int (bits : Nat) (signed : Bool)
  /-- A table of `count` elements of `elem` bytes. -/
  | table (elem count : Nat)
  deriving DecidableEq, Repr

/-- The attributes of a parameter (R144). -/
structure PInfo where
  /-- Owning subsystem ID. -/
  owner : Nat
  /-- The enable unit it belongs to. -/
  unit : Nat
  kind : PKind
  lo : Int
  hi : Int
  dflt : Int
  live : Bool
  deriving DecidableEq, Repr

/-- An unsigned parameter. -/
def pU (bits owner unit : Nat) (lo hi dflt : Int) (live : Bool) : PInfo :=
  { owner, unit, kind := .int bits false, lo, hi, dflt, live }

/-- A signed parameter. -/
def pS (bits owner unit : Nat) (lo hi dflt : Int) (live : Bool) : PInfo :=
  { owner, unit, kind := .int bits true, lo, hi, dflt, live }

/-- A signed parameter with the full range of its type. -/
def pFull (bits owner unit : Nat) (dflt : Int) (live : Bool) : PInfo :=
  pS bits owner unit (-(2 ^ (bits - 1) : Nat)) ((2 ^ (bits - 1) : Nat) - 1) dflt live

/-- An unsigned parameter with the full range of its type. -/
def pUFull (bits owner unit : Nat) (dflt : Int) (live : Bool) : PInfo :=
  pU bits owner unit 0 ((2 ^ bits : Nat) - 1) dflt live

/-- A STOPPED table of `count` elements of `elem` bytes. -/
def pT (owner unit elem count : Nat) : PInfo :=
  { owner, unit, kind := .table elem count, lo := 0, hi := 0, dflt := 0, live := false }

/-- The MGMT parameters (R118). -/
def paramsMgmt : List (Nat × PInfo) :=
  [(0x0100, pU 16 1 0 10 10000 500 true),
   (0x0101, pU 8 1 0 50 99 85 true),
   (0x0102, pU 8 1 0 10 89 60 true),
   (0x0103, pS 8 1 0 70 105 100 true)]

/-- The HOST parameters (R147). -/
def paramsHost : List (Nat × PInfo) :=
  [(0x0200, pU 8 2 0 0 1 1 true), (0x0201, pU 8 2 0 1 32 8 true)]

/-- The SEC parameters (R181). -/
def paramsSec : List (Nat × PInfo) := [(0x0300, pU 32 3 0 10 86400 600 true)]

/-- The POWER parameters of R70, in µs (DESIGN CHOICE, log 12: the spec gives no unit). -/
def paramsPower : List (Nat × PInfo) :=
  [(0x0430, pU 32 4 0 0 100000 1000 true), (0x0431, pU 32 4 0 100 10000 500 true)]

/-- The TIME parameters that are not per port or capture (R339). -/
def paramsTime : List (Nat × PInfo) :=
  [(0x0500, pU 8 5 0 0 127 0 false), (0x0501, pU 8 5 0 0 1 0 false),
   (0x0502, pU 8 5 0 0 255 128 true), (0x0503, pU 8 5 0 0 255 128 true),
   (0x0504, pU 8 5 0 6 255 248 true), (0x0505, pU 8 5 0 0 1 1 false),
   (0x0506, pU 8 5 0 0 1 0 false), (0x0507, pS 8 5 0 (-4) 1 0 false),
   (0x0508, pS 8 5 0 0 4 1 false), (0x0509, pS 8 5 0 (-4) 4 0 false),
   (0x050A, pU 8 5 0 2 10 3 false), (0x050B, pU 16 5 0 164 49152 11469 true),
   (0x050C, pU 16 5 0 0 16384 4915 true), (0x050D, pU 32 5 0 1000 1000000000 100000 true),
   (0x050E, pU 8 5 0 1 16 3 true), (0x050F, pU 32 5 0 10 1000000 1000 true),
   (0x0510, pU 8 5 0 2 255 16 true), (0x0511, pU 16 5 0 500 60000 5000 true),
   (0x0512, pU 32 5 0 0 86400 600 true), (0x0513, pS 32 5 0 (-86400) 86400 0 true),
   (0x0514, pS 16 5 0 0 255 37 true), (0x0515, pU 8 5 0 0 8 4 true)]

/-- The TIME parameters of port `k / 8` (R339). -/
def paramTimePort (k : Nat) : Option PInfo :=
  if 16 ≤ k then none
  else match k % 8 with
    | 0 => some (pU 8 5 0 0 1 0 false)
    | 1 => some (pU 8 5 0 0 2 1 false)
    | 2 => some (pU 16 5 0 0 2000 0 true)
    | 3 => some (pU 16 5 0 0 2000 0 true)
    | 4 => some (pS 32 5 0 (-100000) 100000 0 true)
    | 5 => some (pU 16 5 0 0 4094 0 false)
    | _ => none

/-- The TIME parameters of capture `k / 2` (R339). -/
def paramTimeCap (k : Nat) : Option PInfo :=
  if 32 ≤ k then none
  else if k % 2 = 0 then some (pU 8 5 0 0 2 0 true) else some (pU 8 5 0 0 1 0 true)

/-- The OX parameters (R249): queue 0, then queue 1. -/
def paramsOx : List (Nat × PInfo) :=
  [(0x0700, pU 8 7 0 8 31 24 true), (0x0701, pU 8 7 0 4 31 20 true), (0x0702, pU 16 7 0 0 65535 16 true),
   (0x0703, pU 8 7 0 8 40 20 true), (0x0704, pU 8 7 0 0 4 4 true),
   (0x0708, pU 8 7 0 8 31 24 true), (0x0709, pU 8 7 0 4 31 20 true), (0x070A, pU 16 7 0 0 65535 64 true),
   (0x070B, pU 8 7 0 8 40 20 true), (0x070C, pU 8 7 0 0 4 4 true)] ++
  [(0x0720, pU 16 7 0 100 10000 1000 false), (0x0721, pU 16 7 0 5 10000 800 true), (0x0722, pU 8 7 0 1 16 8 true),
   (0x0723, pU 32 7 0 1 100000 100 true), (0x0724, pU 32 7 0 1 100000 200 true), (0x0725, pU 8 7 0 0 255 5 true),
   (0x0726, pU 16 7 0 10 60000 2000 true), (0x0727, pU 8 7 0 1 4 2 false), (0x0728, pT 7 0 16 256),
   (0x0729, pU 16 7 0 1 100 5 true), (0x072A, pU 8 7 0 0 255 10 true)]

/-- The MODEL parameters (R216). -/
def paramsModel : List (Nat × PInfo) := [(0x0800, pU 32 8 0 0 10000 1000 true), (0x0801, pU 16 8 0 0 4096 0 true)]

/-- The DISPATCH parameters (R310, R311). -/
def paramsDispatch : List (Nat × PInfo) :=
  [(0x0900, pU 16 9 0 30 900 60 false), (0x0901, pU 16 9 0 60 3600 900 false),
   (0x0902, pU 32 9 0 5000 900000 40000 true), (0x0903, pU 32 9 0 5000 900000 45000 true),
   (0x0904, pU 16 9 0 10 4000 400 true), (0x0905, pU 8 9 0 1 25 5 true), (0x0906, pU 8 9 0 8 40 16 true),
   (0x0907, pU 8 9 0 4 40 10 true), (0x0908, pU 16 9 0 32768 61440 52429 true), (0x0909, pU 8 9 0 10 40 20 true)] ++
  [(0x090A, pS 8 9 0 (-40) 40 (-8) false), (0x090B, pS 8 9 0 (-40) 40 (-24) true), (0x090C, pS 8 9 0 (-40) 40 24 true),
   (0x090D, pU 16 9 0 0 25600 1280 true), (0x090E, pU 8 9 0 0 255 5 true), (0x090F, pU 8 9 0 0 255 0 true),
   (0x0910, pU 32 9 0 60 604800 86400 true), (0x0920, pT 9 0 16 32), (0x0921, pT 9 0 8 16), (0x0922, pT 9 0 16 64),
   (0x0923, pT 9 0 8 256), (0x0924, pT 9 0 16 128), (0x0925, pT 9 0 8 4)]

/-- The parameters of loop `n` at offset `k` (R375). -/
def paramLoop (n k : Nat) : Option PInfo :=
  if 0x08 ≤ k ∧ k ≤ 0x0E then some (pFull 32 10 n 0 true)
  else if 0x10 ≤ k ∧ k ≤ 0x16 then some (pU 8 10 n 0 31 0 true)
  else lookupNat k (
    [(0x00, pU 32 10 n 50 100000 1000 false), (0x01, pUFull 8 10 n 0 false), (0x02, pUFull 16 10 n 0 false),
     (0x03, pUFull 8 10 n 0 false), (0x04, pU 8 10 n 0 31 16 true), (0x05, pFull 32 10 n 65536 true),
     (0x06, pFull 32 10 n 0 true), (0x07, pU 16 10 n 0 60000 0 true), (0x18, pU 8 10 n 0 1 1 true),
     (0x19, pU 8 10 n 0 1 0 false), (0x1A, pU 8 10 n 0 31 16 true), (0x1B, pT 10 n 4 64),
     (0x20, pU 8 10 n 0 3 0 false), (0x21, pFull 32 10 n 0 true), (0x22, pFull 32 10 n 0x7FFFFFFF true)] ++
    [(0x23, pFull 32 10 n 0 true), (0x24, pFull 32 10 n 0 true), (0x25, pU 8 10 n 0 1 0 true),
     (0x26, pU 32 10 n 250 16777215 12500 false), (0x27, pFull 32 10 n 0x40000000 true),
     (0x28, pFull 32 10 n 0x20000000 true), (0x29, pU 16 10 n 2 256 125 false), (0x30, pU 8 10 n 0 1 0 false),
     (0x31, pU 8 10 n 0 31 0 false), (0x32, pFull 32 10 n 0 true), (0x33, pFull 32 10 n 0 true),
     (0x34, pUFull 32 10 n 0 true), (0x35, pUFull 32 10 n 0 true), (0x36, pUFull 32 10 n 0 true),
     (0x38, pUFull 32 10 n 0 true), (0x39, pU 16 10 n 0 60000 1000 true), (0x3A, pU 8 10 n 0 1 1 false),
     (0x3B, pU 8 10 n 0 1 0 true)])

/-- The parameters of axis `n` at offset `k` (R398). -/
def paramAxis (n k : Nat) : Option PInfo :=
  lookupNat k (
    [(0x00, pUFull 8 11 n 0 false), (0x01, pUFull 8 11 n 0 false), (0x02, pU 16 11 n 1 256 16 false),
     (0x03, pU 32 11 n 200 100000 2000 false), (0x04, pU 32 11 n 200 100000 5000 false),
     (0x05, pU 32 11 n 1 50000 800 true), (0x06, pU 32 11 n 1 500000 16000 true),
     (0x07, pU 32 11 n 1 100000000 32000 true), (0x08, pU 32 11 n 0 4000000000 0 true),
     (0x09, pFull 32 11 n (-2147483648) true), (0x0A, pFull 32 11 n 2147483647 true), (0x0B, pU 16 11 n 1 256 16 false),
     (0x0C, pU 16 11 n 1 1000 20 true), (0x0D, pFull 16 11 n 1 false), (0x0E, pU 16 11 n 1 65535 1 false)] ++
    [(0x0F, pUFull 32 11 n 0 true), (0x10, pU 8 11 n 0 23 0 true), (0x11, pU 8 11 n 0 1 1 true),
     (0x12, pFull 32 11 n (-400) true), (0x13, pFull 32 11 n 0 true), (0x14, pUFull 32 11 n 100000 true),
     (0x15, pU 8 11 n 0 1 0 true), (0x16, pU 16 11 n 0 60000 2000 true), (0x17, pU 16 11 n 0 50000 1000 true),
     (0x18, pU 16 11 n 0 50000 500 true), (0x19, pU 8 11 n 0 1 1 false), (0x1A, pU 8 11 n 0 1 0 true)])

/-- The LOGIC parameters (R418). -/
def paramsLogic : List (Nat × PInfo) :=
  [(0x0C00, pU 32 12 0 250 100000 1000 false), (0x0C01, pU 8 12 0 0 2 0 false), (0x0C02, pU 32 12 0 0 0xFFFFFF 0 true),
   (0x0C03, pT 12 0 4 256), (0x0C04, pT 12 0 1 32), (0x0C05, pT 12 0 4 256), (0x0C06, pT 12 0 1 128)]

/-- A LIVE table of `count` elements of `elem` bytes. -/
def pTLive (owner unit elem count : Nat) : PInfo := { pT owner unit elem count with live := true }

/-- The parameters of CAN controller `c` at `j` (R492). -/
def paramCan (c j : Nat) : Option PInfo :=
  lookupNat j
    [(0, pU 8 15 c 1 32 1 false), (1, pU 16 15 c 2 256 127 false), (2, pU 8 15 c 1 128 32 false),
     (3, pU 8 15 c 1 128 32 false), (4, pU 8 15 c 1 32 1 false), (5, pU 8 15 c 1 32 15 false),
     (6, pU 8 15 c 1 16 4 false), (7, pU 8 15 c 1 16 4 false), (8, pU 8 15 c 0 1 0 false),
     (9, pU 8 15 c 0 127 16 false), (10, pU 8 15 c 0 1 0 false), (11, pU 8 15 c 0 1 1 false),
     (12, pU 16 15 c 10 60000 5000 true), (13, pTLive 15 c 64 128)]

/-- The parameters of a message object of controller `c` at `k` (R492). -/
def paramCanObj (c k : Nat) : Option PInfo :=
  lookupNat k
    [(0, pU 8 15 c 0 2 0 false), (1, pU 32 15 c 0 0x5FFFFFFF 0 false), (2, pU 32 15 c 0 0x1FFFFFFF 0x1FFFFFFF false),
     (3, pU 8 15 c 0 11 0 false), (4, pU 8 15 c 0 15 8 false), (5, pU 8 15 c 0 2 0 false),
     (6, pU 32 15 c 0 3600000 0 false), (7, pU 8 15 c 0 3 1 false)]

/-- The ADC parameters that are not per channel (R444). -/
def paramsAdc : List (Nat × PInfo) :=
  [(0x0D00, pU 16 13 0xFFFF 1 168 24 true), (0x0D01, pU 32 13 0xFFFF 1 100000 120 true), (0x0D02, pU 8 13 0xFFFF 0 50 10 true)]

/-- The parameters of channel `k` (R444). -/
def paramAdcCh (k j : Nat) : Option PInfo :=
  lookupNat j [(0, pU 8 13 k 0 3 3 false), (1, pU 8 13 k 0 1 1 true), (2, pU 8 13 k 0 1 0 true)]

/-- The parameters of converter `w` (R444). -/
def paramWav (w j : Nat) : Option PInfo :=
  if j = 0 ∧ w = 0 then some (pU 8 13 24 0 1 0 false) else if j = 1 then some (pU 8 13 (24 + w) 0 1 1 true) else none

/-- The METER parameters that are not per meter (R470). -/
def paramsMeter : List (Nat × PInfo) :=
  [(0x0E00, pU 8 14 0xFFFF 1 60 15 true), (0x0E01, pU 16 14 0xFFFF 10 60000 2000 true)]

/-- The parameters of feeder `f` (R470). -/
def paramFeeder (f j : Nat) : Option PInfo :=
  lookupNat j
    [(0, pU 32 14 f 1000 1000000 400000 false), (1, pU 32 14 f 100 10000000 1000000 false), (2, pU 8 14 f 0 7 0 false),
     (3, pT 14 f 8 3), (4, pT 14 f 12 27)]

/-- The parameters of thermal meter `m` (R470). -/
def paramThermal (m j : Nat) : Option PInfo :=
  let d : Int := 12 + 3 * ((m : Int) - 2)
  lookupNat j
    [(0, pUFull 8 14 m 1 false), (1, pUFull 16 14 m d false), (2, pUFull 8 14 m 0 false), (3, pFull 32 14 m 65536 false),
     (4, pFull 32 14 m 0 false), (5, pU 8 14 m 0 1 1 false), (6, pUFull 8 14 m 1 false), (7, pUFull 16 14 m (d + 1) false),
     (8, pUFull 8 14 m 0 false), (9, pUFull 8 14 m 1 false), (10, pUFull 16 14 m (d + 2) false), (11, pUFull 8 14 m 0 false),
     (12, pU 32 14 m 100000 10000000 2000000 false), (13, pU 32 14 m 100000 2000000 1000000 false)]

/-- The unit number that stands for the meter a pulse output names (R470). -/
def pulseUnit : Nat := 0xFFFE

/-- The parameters of a pulse output (R470). -/
def paramPulse (j : Nat) : Option PInfo :=
  lookupNat j
    [(0, pU 8 14 pulseUnit 0 255 255 false), (1, pU 8 14 pulseUnit 0 4 0 false),
     (2, pU 32 14 pulseUnit 1 4000000000 1000000 false), (3, pU 16 14 pulseUnit 2 1000 50 false),
     (4, pU 16 14 pulseUnit 2 1000 50 false), (5, pU 8 14 pulseUnit 0 1 0 false)]

/-- The NET parameters that are not per port (R511). -/
def paramsNet : List (Nat × PInfo) :=
  [(0x1000, pU 16 16 2 1024 65535 47420 false), (0x1001, pU 32 16 2 100 600000 10000 true),
   (0x1002, pU 32 16 2 0 10000 1000 true), (0x1003, pU 8 16 2 0 3 0 false), (0x1004, pUFull 32 16 2 0 false),
   (0x1005, pT 16 2 1 16), (0x1006, pU 8 16 2 1 255 16 true), (0x1007, pU 16 16 2 1 3600 10 true)]

/-- The parameters of Ethernet port `p` (R511). -/
def paramPort (p j : Nat) : Option PInfo :=
  lookupNat j
    [(0, pU 8 16 p 0 1 0 false), (1, pU 8 16 p 0 2 2 false), (2, pU 8 16 p 0 3 3 false),
     (3, pU 64 16 p 0 0xFFFFFFFFFFFF 0 false), (4, pUFull 32 16 p 0 false), (5, pU 8 16 p 0 32 24 false),
     (6, pT 16 p 1 16), (7, pU 8 16 p 0 128 64 false), (8, pU 16 16 p 0 4094 0 false), (9, pU 32 16 p 1 250000 250000 true)]

/-- The PAIR parameters but for the list (R539). -/
def paramsPair : List (Nat × PInfo) :=
  [(0x1100, pU 8 0x11 0 1 100 1 false), (0x1101, pU 16 0x11 0 100 60000 2000 true), (0x1102, pU 8 0x11 0 2 100 10 true),
   (0x1103, pU 8 0x11 0 1 32 4 true), (0x1104, pU 8 0x11 0 0 10 3 true), (0x1105, pU 8 0x11 0 0 1 1 true)]

/-- The RECORDER parameters (R563). -/
def paramsRecorder : List (Nat × PInfo) :=
  [(0x1200, pU 16 0x12 0 100 60000 1000 true), (0x1201, pU 16 0x12 0 8 1536 256 true)]

/-- The DISPLAY parameters but for the waveform tables (R584). -/
def paramsDisplay : List (Nat × PInfo) :=
  [(0x1300, pU 16 0x13 0 64 1280 1280 false), (0x1301, pU 16 0x13 0 64 960 960 false), (0x1302, pU 8 0x13 0 1 16 1 false),
   (0x1303, pU 16 0x13 0 100 2000 300 false), (0x1304, pU 8 0x13 0 4 100 20 false), (0x1305, pU 8 0x13 0 0 1 0 false),
   (0x1306, pU 8 0x13 0 1 10 5 false), (0x1307, pU 16 0x13 0 0 60000 2000 true), (0x1308, pS 16 0x13 0 (-3000) (-200) (-1500) true)] ++
  [(0x1309, pU 16 0x13 0 100 10000 1000 false), (0x130A, pU 8 0x13 0 0 1 0 false), (0x130B, pU 8 0x13 0 0 23 0 false),
   (0x130C, pFull 32 0x13 0 65536 false), (0x130D, pFull 32 0x13 0 0 false), (0x130E, pU 16 0x13 0 1 3600 60 true),
   (0x130F, pU 8 0x13 0 1 16 1 false), (0x1310, pU 8 0x13 0 0 15 0 true), (0x1311, pT 0x13 0 2 4)]

/-- The owner of pad group `n` (R143). -/
def padOwner (n : Nat) : Nat :=
  nth 0 [2, 1, 0x10, 0x10, 0x10, 5, 5, 0x11, 0x0F, 1, 1, 1, 1, 0x0A, 0x0B, 0x0B, 0x0C, 0x0C, 0x0E, 0x13] n

/-- The reset value of PAD_GRP_CFGn (R59). -/
def padReset (n : Nat) : Nat := if n = 1 ∨ n = 8 then 0x51 else 0x31

/-- The fields of PAD_GRP_CFGn that can be written: reserved bits read 0, FILTER reads 0 for n = 1 to 3 (R60). -/
def padMask (n v : Nat) : Nat :=
  bits v 0 7 + (if n = 1 ∨ n = 2 ∨ n = 3 then 0 else bits v 8 3 * 256)

/-- A pad parameter (R143): its reserved bits are 0. -/
def paramPad (n : Nat) : Option PInfo :=
  if n < 20 then some (pU 32 (padOwner n) 0 0 0x77F (padReset n) true) else none

end Sys2Proof.Machine
end

