-- ==== Sys2Proof/Machine/ParamTable.lean ====
section
/-! DEFINITION. The parameter space as a whole (R142) and reading parameters: the written view and the committed
view of R30. -/

namespace Sys2Proof.Machine

/-- The subsystem-wide parameters by owner (R142). -/
def paramsWide (owner : Nat) : List (Nat × PInfo) :=
  match owner with
  | 1 => paramsMgmt
  | 2 => paramsHost
  | 3 => paramsSec
  | 4 => paramsPower
  | 5 => paramsTime
  | 7 => paramsOx
  | 8 => paramsModel
  | 9 => paramsDispatch
  | 12 => paramsLogic
  | 13 => paramsAdc
  | 14 => paramsMeter
  | 16 => paramsNet
  | 17 => paramsPair
  | 0x12 => paramsRecorder
  | 0x13 => paramsDisplay
  | _ => []

/-- What parameter `id` is; none for an ID no subsystem has (R142). -/
def pInfo (id : Nat) : Option PInfo :=
  if id < 0x100 then none
  else if id < 0x1400 then
    match lookupNat id (paramsWide (id / 256)) with
    | some i => some i
    | none => if 0x0520 ≤ id ∧ id < 0x0530 then paramTimePort (id - 0x0520) else none
  else if id < 0x1414 then paramPad (id - 0x1400)
  else if 0x2000 ≤ id ∧ id < 0x3000 then paramLoop ((id - 0x2000) / 0x80) (id % 0x80)
  else if 0x3000 ≤ id ∧ id < 0x3800 then paramAxis ((id - 0x3000) / 0x80) (id % 0x80)
  else if 0x3800 ≤ id ∧ id < 0x3B00 then paramAdcCh ((id - 0x3800) / 0x20) (id % 0x20)
  else if 0x3B00 ≤ id ∧ id < 0x3B40 then paramWav ((id - 0x3B00) / 0x20) (id % 0x20)
  else if 0x4000 ≤ id ∧ id < 0x4200 then paramFeeder ((id - 0x4000) / 0x100) (id % 0x100)
  else if 0x4200 ≤ id ∧ id < 0x4600 then paramThermal ((id - 0x4000) / 0x100) (id % 0x100)
  else if 0x4600 ≤ id ∧ id < 0x4680 then paramPulse (id % 0x10)
  else if 0x4800 ≤ id ∧ id < 0x4900 then paramCan ((id - 0x4800) / 0x40) (id % 0x40)
  else if 0x4C00 ≤ id ∧ id < 0x5C00 then paramCanObj ((id - 0x4C00) / 0x400) (id % 8)
  else if 0x6000 ≤ id ∧ id < 0x6080 then paramPort ((id - 0x6000) / 0x40) (id % 0x40)
  else if id = 0x7800 then some (pT 0x13 0 2 16)
  else if 0x7810 ≤ id ∧ id < 0x7820 then some (pT 0x13 0 1 17348)
  else if id = 0x7000 then some (pT 0x11 0 4 2048)
  else if 0x6800 ≤ id ∧ id < 0x6820 then paramTimeCap (id - 0x6800)
  else none

/-- The default value of a parameter. -/
def pDefault (id : Nat) : Int := match pInfo id with | some i => i.dflt | none => 0

/-- The size of a table parameter in bytes; 0 for one that is no table. -/
def pSize (id : Nat) : Nat :=
  match pInfo id with
  | some { kind := .table e c, .. } => e * c
  | _ => 0

/-- The value a parameter was last written to, or its default. -/
def par (s : State) (id : Nat) : Int :=
  match lookupNat id s.host.params with
  | some v => v
  | none => pDefault id

/-- The same as a natural number. -/
def parN (s : State) (id : Nat) : Nat := (par s id).toNat

/-- The committed value of a parameter: the one its block works with (R30). -/
def act (s : State) (id : Nat) : Int :=
  match lookupNat id s.host.uncommitted with
  | some v => v
  | none => par s id

/-- The same as a natural number. -/
def actN (s : State) (id : Nat) : Nat := (act s id).toNat

/-- The default bytes of a table parameter: every gain 1.0 in LOOP_GT (R375), METER_V_CORR and METER_I_SEG with its
currents 125,000·k (R470), DISP_RAIL_REF and DISP_BAND_TMAX
(R584); DISP_WF_b, whose length varies, is empty; all else is 0. -/
def tableDefault (id : Nat) : Bytes :=
  if 0x2000 ≤ id ∧ id < 0x3000 then (upTo 64).flatMap (fun _ => leBytes 4 0x10000)
  else if id = 0x4003 ∨ id = 0x4103 then (upTo 3).flatMap (fun _ => leBytes 4 0x40000000 ++ zeros 4)
  else if id = 0x4004 ∨ id = 0x4104 then
    (upTo 3).flatMap (fun _ => (upTo 9).flatMap (fun k => leBytes 4 (125000 * k) ++ leBytes 4 0x40000000 ++ zeros 4))
  else if id = 0x1311 then (upTo 4).flatMap (fun _ => leBytes 2 1250)
  else if id = 0x7800 then (upTo 16).flatMap (fun _ => leBytes 2 0x7FFF)
  else if 0x7810 ≤ id ∧ id < 0x7820 then []
  else zeros (pSize id)

/-- The bytes of a table parameter. -/
def tab (s : State) (id : Nat) : Bytes :=
  match lookupNat id s.host.tables with
  | some b => b
  | none => tableDefault id

/-- The committed bytes of a table parameter (R30). -/
def actTab (s : State) (id : Nat) : Bytes :=
  match lookupNat id s.host.tabUncommitted with
  | some b => b
  | none => tab s id

/-- The unsigned little-endian element of `n` bytes at byte `off` of a table parameter. -/
def tabN (s : State) (id off n : Nat) : Nat := byteField (tab s id) off n

/-- The signed element of `n` bytes at byte `off` of a table parameter. -/
def tabS (s : State) (id off n : Nat) : Int := byteFieldS (tab s id) off n

/-- The subsystem that owns the region of an ID (R142), for the PARAM low byte. -/
def pRegion (id : Nat) : Option Nat :=
  if id < 0x100 then none
  else if id < 0x1400 then some (id / 256)
  else if id < 0x1414 then some (padOwner (id - 0x1400))
  else if id < 0x2000 then none
  else if id < 0x3000 then some 0x0A
  else if id < 0x3800 then some 0x0B
  else if id < 0x4000 then some 0x0D
  else if id < 0x4800 then some 0x0E
  else if id < 0x6000 then some 0x0F
  else if id < 0x6800 then some 0x10
  else if id < 0x7000 then some 0x05
  else if id < 0x7800 then some 0x11
  else if id < 0x8000 then some 0x13
  else none

/-- A parameter is committed by a block of its own at a period boundary (R30): TIME, PAIR, CAN, NET, LOOP,
MOTION, LOGIC, ADC and METER. -/
def pShadowed (i : PInfo) : Bool :=
  [0x05, 0x0A, 0x0B, 0x0C, 0x0D, 0x0E, 0x0F].contains i.owner

/-- A parameter value is written; where its block commits at a boundary, the committed value stays as it was. -/
def parWrite (commitNow : Bool) (id : Nat) (v : Int) (s : State) : State :=
  let unc := if commitNow then eraseNat id s.host.uncommitted
    else match lookupNat id s.host.uncommitted with
      | some _ => s.host.uncommitted
      | none => insertNat id (par s id) s.host.uncommitted
  { s with host := { s.host with params := insertNat id v s.host.params, uncommitted := unc } }

/-- A table's bytes are written; where its block commits at a boundary, the committed bytes stay as they were. -/
def tabWrite (commitNow : Bool) (id : Nat) (b : Bytes) (s : State) : State :=
  let unc := if commitNow then eraseNat id s.host.tabUncommitted
    else match lookupNat id s.host.tabUncommitted with
      | some _ => s.host.tabUncommitted
      | none => insertNat id (tab s id) s.host.tabUncommitted
  { s with host := { s.host with tables := insertNat id b s.host.tables, tabUncommitted := unc } }

/-- A block commits the parameters that satisfy `p` (R30). -/
def parCommit (p : Nat → Bool) (s : State) : State :=
  { s with host := { s.host with
      uncommitted := s.host.uncommitted.filter (fun x => !p x.1)
      tabUncommitted := s.host.tabUncommitted.filter (fun x => !p x.1) } }

end Sys2Proof.Machine
end

