-- ==== Sys2Proof/Machine/ParamUnits.lean ====
section
/-! DEFINITION. The unit and the named fixed-point format of each parameter (R144), as the parameter tables of the owning
chapters give them. -/

namespace Sys2Proof.Machine

/-- The units of the subsystem-wide parameters and of DISP_BAND_TMAX; an ID not listed has none. -/
def unitsWide : List (Nat × String) :=
  [(0x0100, "ms"), (0x0101, "%"), (0x0102, "%"), (0x0103, "°C"), (0x0201, "mismatches"), (0x0300, "s"),
   (0x0430, "µs"), (0x0431, "µs"), (0x0507, "log2 s"), (0x0508, "log2 s"), (0x0509, "log2 s"),
   (0x050A, "intervals"), (0x050D, "ns"), (0x050E, "measurements"), (0x050F, "ns"), (0x0510, "measurements"),
   (0x0511, "ms"), (0x0512, "s"), (0x0513, "s"), (0x0514, "s"), (0x0702, "pivots"), (0x0704, "steps"),
   (0x070A, "pivots"), (0x070C, "steps"), (0x0720, "ms"), (0x0721, "ms"), (0x0722, "iterations"),
   (0x0723, "mL/s"), (0x0724, "Pa"), (0x0725, "periods"), (0x0726, "ms"), (0x0729, "mm/s"), (0x072A, "periods"),
   (0x0800, "ms"), (0x0801, "entries"), (0x0900, "s"), (0x0901, "s"), (0x0902, "ms"), (0x0903, "ms")] ++
  [(0x0904, "iterations"), (0x0905, "iterations"), (0x090E, "periods"), (0x090F, "periods"), (0x0910, "s"),
   (0x0C00, "µs"), (0x0C02, "bitmap"), (0x0C03, "ms"), (0x0C04, "bitmap"), (0x0C05, "counts"),
   (0x0C06, "bitmap"), (0x0D00, "h"), (0x0D01, "codes"), (0x0D02, "°C"), (0x0E00, "min"), (0x0E01, "ms"),
   (0x1001, "ms"), (0x1002, "ms"), (0x1003, "bitmap"), (0x1007, "s"), (0x1100, "ms"), (0x1101, "ms"),
   (0x1102, "ms"), (0x1103, "frames"), (0x1104, "expiries"), (0x1200, "ms"), (0x1201, "records"),
   (0x1300, "px"), (0x1301, "px"), (0x1303, "40 ns"), (0x1304, "lines"), (0x1306, "ms"), (0x1307, "ms"),
   (0x1308, "mV"), (0x1309, "µs"), (0x130D, "0.01 °C"), (0x130E, "s"), (0x130F, "bands"), (0x1311, "mV"),
   (0x7800, "0.01 °C")]

/-- The units of the TIME parameters of a port, by offset. -/
def unitsPort : List (Nat × String) :=
  [(2, "ns"), (3, "ns"), (4, "ns"), (5, "VID")]

/-- The units of the loop parameters, by offset. -/
def unitsLoop : List (Nat × String) :=
  [(0, "µs"), (6, "LU"), (7, "ms"), (38, "8 ns"), (50, "LU"), (51, "LU"), (52, "LU/s"), (53, "LU/s²"),
   (54, "LU/s³"), (56, "LU"), (57, "ms")]

/-- The units of the axis parameters, by offset. -/
def unitsAxis : List (Nat × String) :=
  [(2, "microsteps"), (3, "ns"), (4, "ns"), (5, "microsteps/s"), (6, "microsteps/s"), (7, "microsteps/s²"),
   (8, "microsteps/s³"), (9, "microsteps"), (10, "microsteps"), (11, "microsteps"), (12, "ms"),
   (15, "microsteps"), (18, "microsteps/s"), (19, "microsteps"), (20, "microsteps"), (22, "ms"), (23, "µs"),
   (24, "µs")]

/-- The units of the feeder parameters, by offset. -/
def unitsFeeder : List (Nat × String) :=
  [(0, "mV"), (1, "mA"), (2, "bitmap")]

/-- The units of the thermal meter parameters, by offset. -/
def unitsThermal : List (Nat × String) :=
  [(4, "mL/s"), (12, "mΩ"), (13, "mΩ")]

/-- The units of the pulse output parameters, by offset. -/
def unitsPulse : List (Nat × String) :=
  [(2, "LSB per pulse"), (3, "ms"), (4, "ms")]

/-- The units of the CAN controller parameters, by offset. -/
def unitsCan : List (Nat × String) :=
  [(0, "quanta"), (1, "quanta"), (2, "quanta"), (3, "quanta"), (4, "quanta"), (5, "quanta"), (6, "quanta"),
   (7, "quanta"), (9, "quanta"), (12, "ms")]

/-- The units of the Ethernet port parameters, by offset. -/
def unitsEth : List (Nat × String) :=
  [(8, "VID"), (9, "datagrams/s")]

/-- The unit of a parameter as its chapter names it; empty for a parameter without one (R144). -/
def pUnitName (id : Nat) : String :=
  let of := fun (k : Nat) (l : List (Nat × String)) => (lookupNat k l).getD ""
  if 0x0520 ≤ id ∧ id < 0x0530 then of ((id - 0x0520) % 8) unitsPort
  else if id < 0x1400 ∨ id = 0x7800 then of id unitsWide
  else if 0x2000 ≤ id ∧ id < 0x3000 then of (id % 0x80) unitsLoop
  else if 0x3000 ≤ id ∧ id < 0x3800 then of (id % 0x80) unitsAxis
  else if 0x4000 ≤ id ∧ id < 0x4200 then of (id % 0x100) unitsFeeder
  else if 0x4200 ≤ id ∧ id < 0x4600 then of (id % 0x100) unitsThermal
  else if 0x4600 ≤ id ∧ id < 0x4680 then of (id % 0x10) unitsPulse
  else if 0x4800 ≤ id ∧ id < 0x4900 then of (id % 0x40) unitsCan
  else if 0x4C00 ≤ id ∧ id < 0x5C00 ∧ id % 8 = 6 then "ms"
  else if 0x6000 ≤ id ∧ id < 0x6080 then of (id % 0x40) unitsEth
  else ""

/-- The integer and fraction bits of a parameter held in a Qm.n or UQm.n format; whether it is signed stands with its type
(R11, R144). -/
def pFormat (id : Nat) : Option (Nat × Nat) :=
  if id = 0x050B ∨ id = 0x050C then some (2, 14)
  else if id = 0x0908 then some (1, 15)
  else if id = 0x090D then some (8, 8)
  else if id = 0x130C then some (16, 16)
  else if 0x2000 ≤ id ∧ id < 0x3000 then
    match id % 0x80 with
    | 0x05 => some (16, 16)
    | 0x21 | 0x22 | 0x23 | 0x24 | 0x27 | 0x28 => some (1, 31)
    | _ => none
  else if 0x4200 ≤ id ∧ id < 0x4600 ∧ id % 0x100 = 3 then some (16, 16)
  else none

end Sys2Proof.Machine
end

