-- ==== Sys2Proof/Machine/Flags.lean ====
section
/-! DEFINITION. The event flags: EVT_STATUS, the pending condition of a vector, MSI-X messages and interrupt pins
(R130, R131), and the record writer that every raised event goes through (R542 to R545, R588). -/

namespace Sys2Proof.Machine

/-- The pending condition of vector `v` (R131): some source of the vector is set and not masked. -/
def vecPending (h : HostSt) (v : Nat) : Bool :=
  ((h.evtStatus &&& ~~~h.evtMask) >>> (8 * v)).toNat % 256 != 0

/-- EVT_VEC_PEND [15:0]. -/
def evtVecPend (h : HostSt) : Nat := flagsNat ((upTo 16).map (vecPending h))

/-- HOST_INT_Nk is driven low (R131). -/
def intPinLow (h : HostSt) (k : Nat) : Bool :=
  h.pinsEn && (upTo 16).any (fun v => vecPending h v && (b2n (h.pinSel.getLsbD v) == k))

/-- The message of table entry `v`: its data is written to its address (R131). -/
def msixMsg (v : Nat) (h : HostSt) : OutMsg :=
  .msix v (nth 0 h.msixTbl (3 * v) + nth 0 h.msixTbl (3 * v + 1) * 2 ^ 32) (nth 0 h.msixTbl (3 * v + 2))

/-- The MSI-X message of vector `v` is due: it is sent, or held in the pending-bit array while masked (R131). -/
def msixDue (v : Nat) (h : HostSt) : HostSt :=
  if h.msixEn then
    if h.msixFuncMask || h.msixVecMask.getLsbD v then { h with pba := h.pba ||| (1#16 <<< v) }
    else { h with sent := msixMsg v h :: h.sent, pba := h.pba &&& ~~~(1#16 <<< v) }
  else h

/-- A source sets its EVT_STATUS bit; the vector's message is due when its condition rises (R130, R131). -/
def setSource (src : Nat) (h : HostSt) : HostSt :=
  if src < 128 then
    let h' := { h with evtStatus := h.evtStatus ||| (1#128 <<< src) }
    if vecPending h' (src / 8) && !vecPending h (src / 8) then msixDue (src / 8) h' else h'
  else h

/-- After a host write to EVT_STATUS or EVT_MASK the message is due once more for every vector still pending (R131). -/
def msixAgain (h : HostSt) : HostSt :=
  (upTo 16).foldl (fun h v => if vecPending h v then msixDue v h else h) h

/-- Masks were lifted: held messages whose vector is no longer masked are sent (R131). -/
def msixRelease (h : HostSt) : HostSt :=
  (upTo 16).foldl (fun h v =>
    if h.pba.getLsbD v && h.msixEn && !h.msixFuncMask && !h.msixVecMask.getLsbD v then msixDue v h else h) h

/-- The event codes whose records carry PINNED (R551). -/
def pinnedCode (code : Nat) : Bool :=
  [0x0130, 0x0311, 0x1210, 0x1211, 0x1216, 0x1218].contains code

/-- The bytes 0x00 to 0x1B of a record (R542). -/
def recBody (r : Rec) : Bytes :=
  leBytes 2 r.code ++ leBytes 1 r.flags ++ leBytes 1 r.source ++ leBytes 4 r.seq ++ leBytes 8 r.ont
    ++ leBytes 4 r.p1 ++ leBytes 4 r.p2 ++ leBytes 4 r.p3

/-- The 32 bytes of a record, CRC-32C last (R542). -/
def recBytes (r : Rec) : Bytes := recBody r ++ leBytes 4 (crc32cNat (recBody r))

/-- The bytes of a programmed slot; those of a damaged slot are open (R543). -/
def slotBytes : Slot → Bytes
  | .record r => recBytes r
  | .damaged => Config.damagedSlot

/-- The record writer runs in RUN, IDLE and SLEEP (R544). -/
def writerRuns (s : State) : Bool :=
  s.power.phase == .up && (s.power.cur == .run || s.power.cur == .idle || s.power.cur == .sleep)

/-- The writer takes one event: it numbers and stamps the record and puts it into the buffer (R544); with 2,048
unflushed records it discards and counts it (R545), and in RAM-only operation it overwrites the oldest (R554). -/
def writeRec (rom : Bool) (code src p1 p2 p3 ont : Nat) (r : RecorderSt) : RecorderSt :=
  if 2048 ≤ r.buf.length && !r.ramOnly then
    { r with
      ovfCnt := satInc 32 r.ovfCnt
      ovfOpen := match r.ovfOpen with
        | none => some (1, ont % 2 ^ 32)
        | some (n, t) => some (n + 1, t) }
  else
    let fl := b2n (pinnedCode code) + 2 * b2n r.ramOnly + 4 * b2n rom
    let x : Rec :=
      { code, flags := fl, source := src, seq := r.seqAon, ont,
        p1 := p1 % 2 ^ 32, p2 := p2 % 2 ^ 32, p3 := p3 % 2 ^ 32 }
    let b := if 2048 ≤ r.buf.length then r.buf.drop 1 else r.buf
    { r with buf := b ++ [x], seqAon := (r.seqAon + 1) % 2 ^ 64 }

/-- An event raised by a block, by Malor (`rom` false) or by the boot ROM (`rom` true): its source bit is set and
its record written (R544, R588). Source 0xFF is no source. -/
def raiseBy (rom : Bool) (code src p1 p2 p3 : Nat) (s : State) : State :=
  if writerRuns s then
    { s with
      host := setSource src s.host
      recorder := writeRec rom code src p1 p2 p3 s.time.ont s.recorder }
  else s

/-- Records numbered from a base, in their order (R544, R547). -/
def renumber (base : Nat) (l : List Rec) : List Rec :=
  (l.zip (upTo l.length)).map (fun p => { p.1 with seq := base + p.2 })

/-- A record takes its place after those of no higher SOURCE. -/
def insertRec (x : Rec) : List Rec → List Rec
  | [] => [x]
  | y :: l => if y.source ≤ x.source then y :: insertRec x l else x :: y :: l

/-- What acts in one fabric cycle: the records it adds are numbered in ascending SOURCE (R544). -/
def oneCycle (f : State → State) (s : State) : State :=
  let t := f s
  let r := t.recorder
  let k := r.buf.length - (r.seqAon - s.recorder.seqAon)
  { t with recorder := { r with
      buf := r.buf.take k ++ renumber s.recorder.seqAon ((r.buf.drop k).foldl (fun a x => insertRec x a) []) } }

/-- An event raised by a block or by Malor. -/
def raise (code src p1 p2 p3 : Nat) (s : State) : State := raiseBy false code src p1 p2 p3 s

/-- The 32-bit image of a signed event parameter. -/
def u32 (v : Int) : Nat := toBits 32 v

/-- The 32-bit image of a signed event parameter, saturating. -/
def s32sat (v : Int) : Nat := toBits 32 (satS 32 v)

/-- HOST_DROP_CNT counts discarded writes; source 11 is set (R39, R130). -/
def hostDrops (n : Nat) (s : State) : State :=
  { s with host := setSource 11 { s.host with dropCnt := satAdd 32 s.host.dropCnt n } }

/-- One write is discarded. -/
def hostDrop (s : State) : State := hostDrops 1 s

/-- DB_IGNORED_CNT counts an ignored ring; source 11 is set (R130, R133). -/
def ringIgnored (s : State) : State :=
  { s with host := setSource 11 { s.host with ignoredCnt := satInc 32 s.host.ignoredCnt } }

/-- The next free value; the counter moves on. -/
def State.drawn (s : State) : State := { s with free := s.free + 1 }

end Sys2Proof.Machine
end

