-- ==== Sys2Proof/Machine/Ops.lean ====
section
/-! DEFINITION. The named operations the meanings share: variant, units, islands, outcomes and time. -/

namespace Sys2Proof.Machine

/-- What a meaning answers. -/
abbrev Out := Host.Outcome State Fault Refusal

/-- An OTP word (R169). -/
def otpWord (s : State) (w : Nat) : Nat := (lookupNat w s.sec.otp).getD 0

/-- The part is a DN7424 (R2); otherwise a DN7421. -/
def big (s : State) : Bool := bits (otpWord s 1) 0 4 == 4

/-- The unique die number (R169). -/
def uid (s : State) : Nat := otpWord s 2 + otpWord s 3 * 2 ^ 32

/-- UID as 8 bytes. -/
def uidBytes (s : State) : Bytes := leBytes 8 (uid s)

/-- The lifecycle: 0 MANUFACTURE, 1 PROVISIONED, 2 FIELD, 3 RETIRED (R169). -/
def lifecycle (s : State) : Nat :=
  let w := otpWord s 0
  if bit w 2 then 3 else if bit w 1 then 2 else if bit w 0 then 1 else 0

/-- The low half of ONT. -/
def ontLo (s : State) : Nat := s.time.ont % 2 ^ 32

/-- The high half of ONT. -/
def ontHi (s : State) : Nat := s.time.ont / 2 ^ 32

/-- A device is in the state RUN or IDLE with the rails up and main reset released. -/
def inRun (s : State) : Bool := s.power.phase == .up && (s.power.cur == .run || s.power.cur == .idle)

/-- The state of an island. -/
def isl (s : State) (n : Nat) : IslSt := nth .off s.power.isl n

/-- The code of an island's state (R67). -/
def islCode : IslSt → Nat
  | .off => 0 | .retain => 1 | .gated => 2 | .on => 3

/-- A PLL is locked (R87): 0 SYS, 1 OX, 2 NET, 3 DDR, 4 ADC. -/
def pllLock (s : State) (k : Nat) : Bool := bit s.power.clkLock k

/-- The device is in RUN, IDLE or SLEEP with main reset released. -/
def awake (s : State) : Bool :=
  s.power.phase == .up && (s.power.cur == .run || s.power.cur == .idle || s.power.cur == .sleep)

/-- The plant side and the time unit run: RUN, IDLE or SLEEP (R72), with NET ON and its PLL giving the 125 MHz tick that
they run by (R78, R87, R88). -/
def plantRuns (s : State) : Bool := awake s && isl s 3 == .on && pllLock s 2

/-- The clock of the sigma-delta side runs as well (R87, R88). -/
def meterRuns (s : State) : Bool := plantRuns s && pllLock s 4

/-- Malor is running and may work: RUN or IDLE (R72), with the SYS PLL locked (R88). -/
def malorWorks (s : State) : Bool := s.mgmt.malorRuns && inRun s && pllLock s 0

/-- An entry to DEEP or OFF is under way: from its response on no command is executed (R81). -/
def deepEntry (s : State) : Bool := s.power.busy && (s.power.target == .deep || s.power.target == .off)

/-- Neither host port responds (R81): DEEP and OFF, an entry to them from step 7 on, and the reversal of such an entry. -/
def portsDark (s : State) : Bool :=
  s.power.cur == .deep || s.power.cur == .off || (deepEntry s && decide (7 ≤ s.power.step))

/-- The host ports are served: main reset released, and not dark (R81). -/
def hostServed (s : State) : Bool := s.power.phase == .up && !portsDark s

/-- Malor or, in MINIMAL, the boot ROM serves commands (R81, R107). -/
def served (s : State) : Bool := inRun s && (s.mgmt.malorRuns || s.mgmt.minimal) && pllLock s 0 && !deepEntry s

/-- Estimation and dispatch take their boundaries: RUN or IDLE, no device-state entry, not MINIMAL (R72, R76, R107). -/
def solving (s : State) : Bool := inRun s && !s.power.busy && !s.mgmt.minimal

/-- The wake sources that wake from a state (R74): bits of WAKE_EN. -/
def wakeMask : Dev → Nat
  | .sleep => 0x1FFF
  | .deep => 0x07FF
  | .off => 0x0007
  | .run => 0
  | .idle => 0

/-- A wake source enabled for the current state fired (R77, R51): from OFF the rails come back, from SLEEP or DEEP the
exit starts with the wakes of its islands, SEC last. PWR_STATE.STEP shows the last step completed, which the exit undoes
first (R92, DEDUCED, log 31). -/
def wakeAct (p : PowerSt) : PowerSt :=
  if p.phase = .asleep then { p with phase := .waitPg, pwrEn := true }
  else if p.phase = .up ∧ p.busy = false ∧ (p.cur = .sleep ∨ p.cur = .deep) then
    { p with busy := true, exiting := true, target := .run, step := p.doneSteps.headD 0, islWake := [10, 9, 3, 5, 6, 1, 2] }
  else p

/-- An island set to a state. -/
def setIsl (n : Nat) (x : IslSt) (s : State) : State :=
  { s with power := { s.power with isl := s.power.isl.set n x } }

/-- A Malor interrupt: in IDLE the core clock restarts and IDLE ends (R74, R77). -/
def idleExit (s : State) : State :=
  if s.power.phase == .up && s.power.cur == .idle then
    let s := setIsl 1 .on s
    { s with power := { s.power with cur := .run } }
  else s

/-- The first source of a wake (R79): of several in one AON tick the lowest bit number. -/
def wakeFirstOf (n : Nat) (p : PowerSt) : Nat :=
  match p.wakeFirst with
  | some w => if p.wakeTick = p.aonTick % 2 ^ 48 then min w n else w
  | none => n

/-- A wake source fires (R74, R79, R92). An enabled source is latched in RUN and during a transition; in SLEEP, DEEP and
OFF it must be allowed there, and the part wakes. The first of a wake sets WAKE_FIRST and WAKE_TICK. Every source
interrupts Malor. -/
def latchWake (n : Nat) (s : State) : State :=
  let s := idleExit s
  let p := s.power
  let asleep := p.cur != .run && p.cur != .idle && !p.busy
  if !bit p.wakeEn n || p.phase == .porLow || (asleep && !bit (wakeMask p.cur) n) then s
  else
    let q := { p with
      wakeLatch := if bit p.wakeLatch n then p.wakeLatch else p.wakeLatch + 2 ^ n
      wakeFirst := some (wakeFirstOf n p)
      wakeTick := match p.wakeFirst with | some _ => p.wakeTick | none => p.aonTick % 2 ^ 48 }
    { s with power := if asleep then wakeAct q else q }

/-- A relock of the OX PLL that was ordered begins (R86): between schedule blocks, where no job runs one. -/
def oxRelock (s : State) : State :=
  if s.power.oxRelockDue && s.ox.q.all (fun x => x.state != 2 && x.state != 4 && x.state != 5) then
    { s with power := { s.power with oxRelockDue := false, clkLock := s.power.clkLock &&& 0x1D } }
  else s

/-- The SHA-384 digest of the Malor code region of MGMT SRAM (R76, R93). -/
def codeDigest (m : MgmtSt) : Bytes := Config.sha384 (padTo 393216 m.code)

/-- The units of a subsystem (R148); none for a subsystem without units. -/
def unitsOf (u : Units) (sub : Nat) : List UnitSt :=
  match sub with
  | 0x05 => u.time
  | 0x07 => u.ox
  | 0x09 => u.dispatch
  | 0x0A => u.loop
  | 0x0B => u.motion
  | 0x0C => u.logic
  | 0x0D => u.adc
  | 0x0E => u.meter
  | 0x0F => u.can
  | 0x10 => u.net
  | 0x11 => u.pair
  | 0x13 => u.display
  | _ => []

/-- The units of a subsystem replaced. -/
def withUnits (u : Units) (sub : Nat) (l : List UnitSt) : Units :=
  match sub with
  | 0x05 => { u with time := l }
  | 0x07 => { u with ox := l }
  | 0x09 => { u with dispatch := l }
  | 0x0A => { u with loop := l }
  | 0x0B => { u with motion := l }
  | 0x0C => { u with logic := l }
  | 0x0D => { u with adc := l }
  | 0x0E => { u with meter := l }
  | 0x0F => { u with can := l }
  | 0x10 => { u with net := l }
  | 0x11 => { u with pair := l }
  | 0x13 => { u with display := l }
  | _ => u

/-- The subsystems that have units, in ascending ID (R148). -/
def unitSubs : List Nat := [0x05, 0x07, 0x09, 0x0A, 0x0B, 0x0C, 0x0D, 0x0E, 0x0F, 0x10, 0x11, 0x13]

/-- A unit's state. -/
def unitSt (s : State) (sub unit : Nat) : UnitSt := nth {} (unitsOf s.host.units sub) unit

/-- A unit's state replaced. -/
def setUnit (sub unit : Nat) (x : UnitSt) (s : State) : State :=
  { s with host := { s.host with
      units := withUnits s.host.units sub ((unitsOf s.host.units sub).set unit x) } }

/-- A unit is ENABLED. -/
def enabled (s : State) (sub unit : Nat) : Bool := (unitSt s sub unit).enabled

/-- A unit's shut-down sequence runs. -/
def stopping (s : State) (sub unit : Nat) : Bool := (unitSt s sub unit).stopping

/-- A unit is enabled or STOPPING. -/
def unitActive (s : State) (sub unit : Nat) : Bool := enabled s sub unit || stopping s sub unit

/-- Some unit of a subsystem is enabled or STOPPING. -/
def subActive (s : State) (sub : Nat) : Bool :=
  (unitsOf s.host.units sub).any (fun u => u.enabled || u.stopping)

/-- How many units of a subsystem the running variant has, and how many the larger variant has (R148). -/
def unitCount (s : State) (sub : Nat) : Nat × Nat :=
  match sub with
  | 0x0A => (if big s then 32 else 16, 32)
  | 0x0B => (if big s then 16 else 8, 16)
  | 0x0D => (27, 27)
  | 0x0E => (6, 6)
  | 0x0F => (4, 4)
  | 0x10 => (3, 3)
  | 0x05 | 0x07 | 0x09 | 0x0C | 0x11 | 0x13 => (1, 1)
  | _ => (0, 0)

/-- The enabled units, ascending subsystem ID and unit: subsystem and unit. -/
def enabledUnits (s : State) : List (Nat × Nat) :=
  unitSubs.flatMap (fun sub =>
    ((upTo (unitsOf s.host.units sub).length).filter (fun u => enabled s sub u)).map (fun u => (sub, u)))

/-- The islands that a subsystem's units need (R17): FIELD, WAVE, OX and DISP follow their units (R70). -/
def unitIsland (sub unit : Nat) : Option Nat :=
  if sub = 0x0F then some 4
  else if sub = 0x0D ∧ (unit = 24 ∨ unit = 25) then some 7
  else if sub = 0x07 then some 8
  else if sub = 0x13 then some 11
  else none

/-- A pad group's register is written: a changed FILTER restarts the group's filters, and no level changes (R60, R63). -/
def padWrite (n value : Nat) (s : State) : State :=
  let v := padMask n value
  { s with
    mgmt := { s.mgmt with padCfg := s.mgmt.padCfg.set n v }
    pins := if bits v 8 3 = bits (nth 0 s.mgmt.padCfg n) 8 3 then s.pins else s.pins.restart n }

/-- A pad group's register is written from its parameter (R143). -/
def padLoad (n : Nat) (s : State) : State := padWrite n (parN s (0x1400 + n)) s

/-- The number of samples of a pad group's filter (R62). -/
def padFilter (s : State) (n : Nat) : Nat := filterN (bits (nth 0 s.mgmt.padCfg n) 8 3)

/-- The samples on DIN0 to 23 since they were last brought, as runs of levels and 40 ns samples, go through their filters
(R62). -/
def dinFeed (runs : List (Nat × Nat)) (s : State) : State :=
  let n := padFilter s 16
  { s with pins := { s.pins with din := runs.foldl (fun fs r =>
      (upTo fs.length).map (fun i => (nth {} fs i).feed n (bit r.1 i) r.2)) s.pins.din } }

/-- The filtered levels of DIN0 to 23 as a number. -/
def dinLevels (s : State) : Nat := bitsVal (s.pins.din.map (·.level))

/-- Every pad group of an owner is written from its parameters (R143). -/
def padLoadOwner (owner : Nat) (s : State) : State :=
  (upTo 20).foldl (fun s n => if padOwner n = owner then padLoad n s else s) s

/-- The tick count of the network time unit is at an instant of a period of `per` ticks shifted by `phase` (R357, R403). -/
def onInstant (phase per : Nat) (s : State) : Bool := ((s.power.netTick : Int) - (phase : Int)) % (per : Int) == 0

/-- TIME_STATUS (R338). -/
def timeStatus (t : TimeSt) : Nat :=
  b2n t.valid + 2 * b2n t.locked + 4 * b2n t.bellwether + 8 * b2n t.sleepHold + 16 * t.servo + 256 * t.confirm

/-- BOOT_STATE (R116). -/
def bootState (m : MgmtSt) : Nat :=
  m.cnt + 16 * b2n m.inStart + 32 * b2n m.pfSeen + 64 * b2n m.therm + 128 * b2n m.minimal + 256 * m.stage
    + 4096 * b2n m.malorSlot + 8192 * b2n m.warm + 16384 * b2n m.minReq

/-- BOOT_FAIL (R115). -/
def bootFail (m : MgmtSt) : Nat := m.failReason + 65536 * m.failStage

/-- The state code of R80. -/
def devCode : Dev → Nat
  | .run => 0 | .idle => 1 | .sleep => 2 | .deep => 3 | .off => 4

/-- The ONT that `ticks` AON ticks after an entry amount to: entry ONT + ticks × 30,517.578125 ns (R78). -/
def ontAfter (entry ticks : Nat) : Nat := entry + ticks * 1953125 / 64

/-- ONT as AON knows it: from the time unit while NET is ON, else from the last entry record (R89). -/
def ontAon (s : State) : Nat :=
  if awake s && isl s 3 == .on then s.time.ont else ontAfter s.power.entOnt (s.power.aonTick - s.power.entTick)

/-- At least `gap` ns of ONT have passed since an instant, or there was none; after a step of ONT to before the instant
the limit is lifted (log 8). -/
def elapsed (last : Option Nat) (gap : Nat) (s : State) : Bool :=
  match last with
  | none => true
  | some e => decide (e + gap ≤ s.time.ont) || decide (s.time.ont < e)

/-- A failed consistency check: reason and PARAM_ID (R149). -/
abbrev CheckFail := Option (Nat × Nat)

/-- The first failing item of a list of checks: what must hold, its reason and its PARAM_ID. -/
def firstFail : List (Bool × Nat × Nat) → CheckFail
  | [] => none
  | (ok, r, p) :: l => if ok then firstFail l else some (r, p)

/-- A message leaves the block. -/
def send (m : OutMsg) (s : State) : State := { s with host := { s.host with sent := m :: s.host.sent } }

/-- The network state changed. -/
def onNet (f : NetSt → NetSt) (s : State) : State := { s with net := f s.net }

/-- One port. -/
def portOf (s : State) (p : Nat) : PortSt := nth {} s.net.ports p

/-- One port changed. -/
def onPort (p : Nat) (f : PortSt → PortSt) (s : State) : State := onNet (fun n => { n with ports := modNth n.ports p f }) s

/-- A frame was received and counted (R509). -/
def portRx (p : Nat) (s : State) : State := onPort p (fun x => { x with rxFrames := satInc 32 x.rxFrames }) s

/-- A message leaves in a frame of a port and is counted (R509). -/
def portSend (p : Nat) (m : OutMsg) (s : State) : State :=
  send m (onPort p (fun x => { x with txFrames := satInc 32 x.txFrames }) s)

end Sys2Proof.Machine
end

