-- ==== Sys2Proof/Machine/Operands.lean ====
section
/-! DEFINITION. The operand forms of the mailbox commands: ownership, the checks before execution and the response
(R132 to R141). -/

namespace Sys2Proof.Machine

/-- The commands of the running command set (R139 step 2). -/
def knownCmds : List Nat :=
  [0x0100, 0x0102, 0x0104, 0x0120, 0x0121, 0x0122, 0x0123, 0x0124, 0x0125,
   0x0201, 0x0202, 0x0203, 0x0204, 0x0210, 0x0211, 0x0212, 0x0213, 0x0214,
   0x0310, 0x0311, 0x0312, 0x0320, 0x0321, 0x0322, 0x0323, 0x0330, 0x0331, 0x0340, 0x0341, 0x0342, 0x0343, 0x0344,
   0x0410, 0x0411, 0x0413, 0x0414, 0x0500, 0x0510, 0x0520, 0x0521,
   0x0710, 0x0711, 0x0800, 0x0802, 0x0810, 0x0910, 0x0911, 0x0912, 0x0913,
   0x0A10, 0x0A11, 0x0B10, 0x0B11, 0x0B12, 0x0B13, 0x0B14, 0x0C10, 0x0C11, 0x0C12, 0x0C15,
   0x0D10, 0x0D11, 0x0D12, 0x0D13, 0x0E10, 0x0E11, 0x0E12, 0x0F10, 0x0F11,
   0x1110, 0x1111, 0x1112, 0x1200, 0x1210, 0x1211, 0x1310, 0x1311, 0x1312]

/-- The urgent commands that only read or evaluate state (R112). -/
def readCmds : List Nat :=
  [0x0100, 0x0203, 0x0204, 0x0210, 0x0212, 0x0214, 0x0341, 0x0344, 0x0500, 0x0800, 0x0913, 0x0E10, 0x0E11,
   0x1110, 0x1200, 0x1210, 0x1211]

/-- The urgent commands (R112): readers, those that only disable, stop or abort, POWER_STATE_SET, MGMT_RESTART. -/
def urgentCmds : List Nat := readCmds ++ [0x0202, 0x0521, 0x0711, 0x0B11, 0x0D11, 0x0F11, 0x1111, 0x0410, 0x0102]

/-- Whether a command is urgent (R112); LOGIC_MODE_SET is with STOP and HOLD and is not with RUN (R416). -/
def urgent (cmd : Nat) (payload : Bytes) : Bool :=
  urgentCmds.contains cmd || (cmd == 0x0C10 && (byteField payload 0 1 == 1 || byteField payload 0 1 == 2))

/-- The commands that need a session in FIELD whatever HOST_AUTH_REQUIRED says (R119, R138): update and
configuration, keys, lifecycle, pair membership, the trial reverts and billed accumulators. -/
def sessionCmds : List Nat :=
  [0x0102, 0x0104, 0x0120, 0x0121, 0x0122, 0x0123, 0x0124, 0x0125,
   0x0320, 0x0321, 0x0322, 0x0330, 0x0331, 0x0802, 0x0C15, 0x0E12, 0x1111]

/-- The session establishment commands, which never need a session (R138). -/
def openingCmds : List Nat := [0x0310, 0x0311]

/-- Whether a write of parameters touches HOST_AUTH_REQUIRED, which needs a session in FIELD (R138). -/
def writesAuthParam (cmd : Nat) (payload : Bytes) : Bool :=
  if cmd = 0x0211 then
    (upTo (byteField payload 0 2)).any (fun k =>
      4 + 12 * k + 12 ≤ payload.length && byteField payload (4 + 12 * k) 2 == 0x0200)
  else cmd == 0x0213 && byteField payload 0 2 == 0x0200

/-- Whether a command needs a session now (R138, R172). -/
def needsSession (s : State) (cmd : Nat) (payload : Bytes) : Bool :=
  lifecycle s == 2 && !openingCmds.contains cmd &&
    (sessionCmds.contains cmd || writesAuthParam cmd payload ||
      (par s 0x0200 == 1 && !urgent cmd payload))

/-- The commands MINIMAL offers (R107, R165); POWER_STATE_SET checks its own target (R73). -/
def minimalCmds (s : State) : List Nat :=
  if lifecycle s = 3 then [0x0100, 0x0102, 0x0410, 0x1200, 0x1210, 0x1211]
  else
    [0x0100, 0x0102, 0x0120, 0x0121, 0x0122, 0x0123, 0x0124, 0x0125, 0x0310, 0x0311, 0x0312, 0x0340, 0x0410,
     0x1200, 0x1210, 0x1211] ++
    (if lifecycle s = 0 then [0x0320, 0x0323, 0x0341, 0x0342, 0x0343, 0x0344] else [])

/-- The reason with which a command is refused in MINIMAL: RC_MGMT_STATE, or RC_SEC_STATE in RETIRED for
attestation, session and update commands (R107, R172). -/
def minimalReason (s : State) (cmd : Nat) : Nat :=
  if lifecycle s = 3 ∧ (cmd / 16 = 0x012 ∨ cmd / 16 = 0x031 ∨ cmd = 0x0340) then 0x0306 else 0x0106

/-- The 32 header bytes of a command (R132). -/
def headerBytes (cmd : Nat) (m : Mail) : Bytes :=
  leBytes 2 cmd ++ leBytes 2 m.flags ++ leBytes 4 m.seq ++ leBytes 2 m.len ++ m.rsv1 ++ leBytes 4 m.session ++ m.rsv2

/-- FLAGS.AUTH. -/
def mailAuth (m : Mail) : Bool := bit m.flags 0

/-- Step 1 of R139: LEN within R132, FLAGS and reserved bytes valid. -/
def mailFormOk (m : Mail) : Bool :=
  m.flags ≤ 1 && m.len ≤ (if mailAuth m then 976 else 992) && m.payload.length == m.len &&
    m.rsv1 == zeros 2 && m.rsv2 == zeros 16

/-- The number of the session with an ID. -/
def sessionNo (s : State) (id : Nat) : Option Nat :=
  (upTo 4).find? (fun k => match nth none s.sec.sessions k with
    | some x => x.id == id && x.isOpen
    | none => false)

/-- The IV of R136. -/
def mailIv (m : Mail) (dir : Nat) : Bytes := leBytes 4 m.session ++ leBytes 4 m.seq ++ leBytes 4 (m.mbox + 256 * dir)

/-- A slot holds a key that is bound to an engine: 0 GCM-INGEST, 1 GCM-STRAIT, 2 MAILBOX-SESSION, 3 ECDSA-ATTEST,
4 UPDATE-VERIFY, 5 LOG-SEAL (R158, R180). -/
def slotOk (s : State) (slot engine : Nat) : Bool :=
  (nth {} s.sec.slots slot).type != 0 && bit (nth {} s.sec.slots slot).bind engine

/-- The key that the key store hands to an engine; nothing where it refuses the request (R158). -/
def slotKey (s : State) (slot engine : Nat) : Bytes := if slotOk s slot engine then (nth {} s.sec.slots slot).key else []

/-- An engine requests the key of a slot: a request for a key bound to another engine is counted and recorded (R158). -/
def slotAsk (slot engine : Nat) (s : State) : State :=
  if (nth {} s.sec.slots slot).type != 0 && !slotOk s slot engine then
    raise 0x0315 15 slot engine 0 { s with sec := { s.sec with bindViol := satInc 32 s.sec.bindViol } }
  else s

/-- The K_mac of session `k` as the mailbox engine receives it (R158, R160). -/
def sessionMac (s : State) (k : Nat) : Bytes := slotKey s (12 + 2 * k) 2

/-- A session's record replaced. -/
def setSession (k : Nat) (x : Option Session) (s : State) : State :=
  { s with sec := { s.sec with sessions := s.sec.sessions.set k x } }

/-- A session ends: its slots are cleared and EV_HOST_SESSION_END is raised with its ID (R164). -/
def endSession (k : Nat) (s : State) : State :=
  match nth none s.sec.sessions k with
  | none => s
  | some x =>
    let s := { s with sec := { s.sec with
      sessions := s.sec.sessions.set k none
      slots := (s.sec.slots.set (12 + 2 * k) {}).set (13 + 2 * k) {} } }
    if x.isOpen then raise 0x0211 10 x.id 0 0 s else s

/-- A tag mismatch under session `k`: EV_HOST_TAG_FAIL, and the end of the session at the limit (R137). -/
def tagMiss (k : Nat) (s : State) : State :=
  match nth none s.sec.sessions k with
  | none => s
  | some x =>
    let s := raise 0x0212 10 x.id 0 0 s
    let s := setSession k (some { x with misses := x.misses + 1 }) s
    if parN s 0x0201 ≤ x.misses + 1 then endSession k s else s

/-- What executing a command gives: the state after it, and the response fields. -/
structure Answer where
  st : State
  /-- 0 DONE, 1 PENDING, 2 REFUSED. -/
  status : Nat
  reason : Nat
  paramId : Nat
  payload : Bytes
  /-- The response is not written yet. -/
  held : Bool := false
  deriving Repr

/-- The command is done and answers a payload. -/
def done (s : State) (payload : Bytes) : Answer := { st := s, status := 0, reason := 0, paramId := 0, payload }

/-- The command is refused; it leaves the state it is given. -/
def refuse (s : State) (reason : Nat) (paramId : Nat := 0) (payload : Bytes := []) : Answer :=
  { st := s, status := 2, reason, paramId, payload }

/-- The command answers PENDING (R151). -/
def pendingAns (s : State) (reason : Nat) : Answer := { st := s, status := 1, reason, paramId := 0, payload := [] }

/-- The header of the response (R132). -/
def respHeader (cmd : Nat) (m : Mail) (flags : Nat) (a : Answer) : Bytes :=
  leBytes 2 cmd ++ leBytes 2 flags ++ leBytes 4 m.seq ++ leBytes 2 a.payload.length ++ zeros 2 ++
    leBytes 4 m.session ++ leBytes 2 a.status ++ leBytes 2 a.reason ++ leBytes 2 a.paramId ++ zeros 10

/-- The whole response: header, payload, and the tag where the command was authenticated under a session that was
open in `k`, the state in which the command was taken (R132, R136). -/
def respBytes (k : State) (cmd : Nat) (m : Mail) (a : Answer) : Bytes :=
  match (if mailAuth m then sessionNo k m.session else none) with
  | some n =>
    let h := respHeader cmd m 3 a ++ a.payload
    h ++ Config.gmac (sessionMac k n) (mailIv m 1) h
  | none => respHeader cmd m 2 a ++ a.payload

/-- FLAGS.DUP set in a stored response (R135). The tag stays the stored one: R136 does not say whether it is computed again
over the header with DUP set (DESIGN CHOICE, log 3). -/
def dupResponse (r : Bytes) : Bytes :=
  match r with
  | a :: b :: f :: rest => a :: b :: (f ||| 4) :: rest
  | _ => r

/-- The response is written into the mailbox, MBOX_OWNER.m is cleared and MBOX_DONE.m set; source 8 is set when
that bit rises (R130, R133). -/
def deliver (mb : Nat) (resp : Bytes) (s : State) : State :=
  let was := s.host.done.getLsbD mb
  let h := { s.host with
    mbox := modNth s.host.mbox mb (fun b => overwrite b 0 resp)
    owner := s.host.owner &&& ~~~(1#8 <<< mb)
    done := s.host.done ||| (1#8 <<< mb)
    rung := s.host.rung.filter (fun k => k != mb)
    waiting := s.host.waiting.filter (fun k => k != mb) }
  { s with host := if was then h else setSource 8 h }

/-- A response, tagged with the keys of `k`, is kept as the mailbox's last completed command (R135) and delivered. -/
def respond (k : State) (cmd : Nat) (m : Mail) (a : Answer) : State :=
  let resp := respBytes k cmd m a
  let s := { a.st with host := { a.st.host with
    stored := a.st.host.stored.set m.mbox (some ⟨headerBytes cmd m ++ m.tag, resp⟩) } }
  deliver m.mbox resp s

/-- The bytes of a command as the host writes them into the mailbox (R132). -/
def mailBytes (cmd : Nat) (m : Mail) : Bytes := headerBytes cmd m ++ m.payload ++ m.tag

/-- A mailbox goes to the part: MBOX_OWNER.m is set and MBOX_DONE.m cleared, and it is last in ring order (R133, R134). -/
def ringOne (k : Nat) (h : HostSt) : HostSt :=
  { h with owner := h.owner ||| (1#8 <<< k), done := h.done &&& ~~~(1#8 <<< k), rung := h.rung ++ [k] }

/-- The host writes the command and rings: the bytes stand in the mailbox, the part owns it, MBOX_DONE.m is
clear (R133); the ring is a doorbell write (R74). A mailbox the part owns keeps its command. -/
def ring (cmd : Nat) (m : Mail) (s : State) : State :=
  if s.host.owner.getLsbD m.mbox then s
  else
    let s := latchWake 11 s
    { s with host := ringOne m.mbox { s.host with
        mbox := modNth s.host.mbox m.mbox (fun b => overwrite b 0 (mailBytes cmd m)) } }

/-- The command of a row may stand in its mailbox: the host owns the mailbox, or the part does and holds these bytes, rung
through DB_RING or held since an earlier ring (R133, log 3). -/
def mailMine (cmd : Nat) (m : Mail) (s : State) : Bool :=
  !s.host.owner.getLsbD m.mbox ||
    padTo (mailBytes cmd m).length (nth [] s.host.mbox m.mbox) == mailBytes cmd m

/-- The command code that a mailbox holds. -/
def boxCmd (s : State) (k : Nat) : Nat := byteField (nth [] s.host.mbox k) 0 2

/-- The command that a mailbox holds (R132): payload and tag as LEN and FLAGS.AUTH say, as far as the mailbox reaches. -/
def boxMail (s : State) (k : Nat) : Mail :=
  let b := padTo 0x400 (nth [] s.host.mbox k)
  let flags := byteField b 2 2
  let len := byteField b 8 2
  { mbox := k, flags := flags, seq := byteField b 4 4, len := len, rsv1 := (b.drop 10).take 2
    session := byteField b 12 4, rsv2 := (b.drop 16).take 16, payload := (b.drop 32).take len
    tag := if bit flags 0 then (b.drop (32 + len)).take 16 else [] }

/-- The rung command that Malor takes next (R134): of those that neither wait on hardware nor name the subsystem of one that
does, the first urgent one in ring order, else the first. -/
def mailNext (s : State) : Option Nat :=
  let l := s.host.rung.filter (fun k => !s.host.waiting.contains k &&
    !s.host.waiting.any (fun w => boxCmd s w / 256 == boxCmd s k / 256))
  match l.find? (fun k => urgent (boxCmd s k) (boxMail s k).payload) with
  | some k => some k
  | none => l.head?

/-- A command was accepted under session `k`: SEQ, idle time and the run of mismatches (R137, R164). -/
def sessionAccept (k seq : Nat) (s : State) : State :=
  match nth none s.sec.sessions k with
  | none => s
  | some x => setSession k (some { x with seq := seq, misses := 0, last := s.time.ont }) s

/-- A command is shed (R112): at level 4, or a resend before RETRY_AFTER has elapsed. A resend has the code and the payload
of the command that was answered BUSY; 32,768 AON ticks are the 1,000 ms (DEDUCED, log 3). -/
def mailShed (s : State) (cmd : Nat) (payload : Bytes) : Bool :=
  !urgent cmd payload && (s.mgmt.shed == 4 ||
    s.host.retry.any (fun x => x.1 == cmd && x.2.1 == payload && decide (s.power.aonTick < x.2.2)))

/-- The command is answered BUSY with RETRY_AFTER and counted (R112, R117). -/
def mailBusy (cmd : Nat) (payload : Bytes) (s : State) : Answer :=
  let l := s.host.retry.filter (fun x => decide (s.power.aonTick < x.2.2) && !(x.1 == cmd && x.2.1 == payload))
  refuse { s with
    mgmt := { s.mgmt with busyCnt := satInc 32 s.mgmt.busyCnt }
    host := { s.host with retry := (cmd, payload, s.power.aonTick + 32768) :: l } } 0x0101 0 (leBytes 4 1000)

/-- Steps 7 to 9 of R139, then the command's own execution (step 10). -/
def mailLate (cmd : Nat) (m : Mail) (body : State → Answer) (s : State) : Answer :=
  if needsSession s cmd m.payload && !mailAuth m then refuse s (cmd / 256 * 256 + 0x04)
  else if s.mgmt.minimal && !(minimalCmds s).contains cmd then refuse s (minimalReason s cmd)
  else if mailShed s cmd m.payload then mailBusy cmd m.payload s
  else body s

/-- The highest SEQ a session has accepted (R137). -/
def sessionSeq (s : State) (k : Nat) : Nat :=
  match nth none s.sec.sessions k with
  | some x => x.seq
  | none => 0

/-- Steps 4 to 6 of R139 for an authenticated command. -/
def mailSession (cmd : Nat) (m : Mail) (body : State → Answer) (s : State) : Answer :=
  if mailAuth m then
    match sessionNo s m.session with
    | none => refuse s 0x0211
    | some k =>
      if !slotOk s (12 + 2 * k) 2 || Config.gmac (sessionMac s k) (mailIv m 0) (headerBytes cmd m ++ m.payload) != m.tag then
        refuse (tagMiss k (slotAsk (12 + 2 * k) 2 s)) 0x0210
      else if m.seq ≤ sessionSeq s k then refuse s 0x0212
      else mailLate cmd m body (sessionAccept k m.seq s)
  else mailLate cmd m body s

/-- The stored response that answers a command sent again, if it is one (R135). -/
def storedMatch (cmd : Nat) (m : Mail) (s : State) : Option Bytes :=
  match nth none s.host.stored m.mbox with
  | some x => if x.key = headerBytes cmd m ++ m.tag then some x.response else none
  | none => none

/-- The command executes and its response comes later: the part keeps the mailbox, and the command waits on hardware. -/
def later (s : State) : Answer := { done s [] with held := true }

/-- Malor takes a rung command: the checks of R139 in order, the execution and the response (R133). -/
def takeCmd (cmd : Nat) (m : Mail) (body : State → Answer) (s : State) : State :=
  if !mailFormOk m then respond s cmd m (refuse s 0x020A)
  else if !knownCmds.contains cmd then respond s cmd m (refuse s 0x020B)
  else match storedMatch cmd m s with
    | some r => deliver m.mbox (dupResponse r) s
    | none =>
      let a := mailSession cmd m body s
      if a.held then { a.st with host := { a.st.host with waiting := a.st.host.waiting ++ [m.mbox] } } else respond s cmd m a

/-- A row's command reaches Malor in this step: it stands in its mailbox, commands are served, and its turn has come
(R81, R133, R134). -/
def mailReaches (cmd : Nat) (m : Mail) (s : State) : Bool :=
  hostServed s && decide (m.mbox < 8) && mailMine cmd m s && served (ring cmd m s) && mailNext (ring cmd m s) == some m.mbox

/-- One mailbox command from ring to response (R133, R139). Into a mailbox that the part owns with another command, the
32-bit writes of the command are discarded and the ring is ignored (R133). While nothing serves commands, or another is to
be taken first, the command stays held in its mailbox (R81, R109, R134). -/
def mailStep (cmd : Nat) (m : Mail) (body : State → Answer) (s : State) : State :=
  if mailReaches cmd m s then takeCmd cmd m body (ring cmd m s)
  else if !hostServed s || 8 ≤ m.mbox then s
  else if mailMine cmd m s then ring cmd m s
  else latchWake 11 (ringIgnored (hostDrops (((mailBytes cmd m).length + 3) / 4) s))

/-- A mailbox command's outcome. -/
def mailOut (cmd : Nat) (m : Mail) (body : State → Answer) (s : State) : Out := .next (mailStep cmd m body s)

end Sys2Proof.Machine
end

