-- ==== Sys2Proof/Machine/Time.lean ====
section
/-! DEFINITION. Network time: ONT and its steps, the servo, PTP, triggers and captures (R313 to R341). -/

namespace Sys2Proof.Machine

/-- The time unit's state changed. -/
def onTime (f : TimeSt → TimeSt) (s : State) : State := { s with time := f s.time }

/-- The increment of one 8 ns tick in 2^-40 ns (R313): `y` in Q24.8 ppb slows ONT where it is positive (R325). -/
def ontInc (y : Int) : Nat := (8 * 2 ^ 40 - divRound (8 * 2 ^ 40 * y) 256000000000).toNat

/-- One tick of the 125 MHz counter (R313). -/
def ontTick (t : TimeSt) : TimeSt :=
  let x := t.ont * 2 ^ 40 + t.frac + ontInc t.rate
  { t with ont := x / 2 ^ 40 % 2 ^ 64, frac := x % 2 ^ 40 }

/-- One trigger unit changed. -/
def onTrg (n : Nat) (f : Trigger → Trigger) (s : State) : State := onTime (fun t => { t with trg := modNth t.trg n f }) s

/-- The pulse of unit 14 or 15 is handed to its consumer with its nominal target (R332). -/
def handPulse (n nominal : Nat) (s : State) : State :=
  if n = 14 then onTime (fun t => { t with pulse14 := some nominal }) s
  else if n = 15 then onTime (fun t => { t with pulse15 := some nominal }) s
  else s

/-- A pulse of unit `n` reaches the captures armed on it (R436); `late`: it was fired under R333 (R438). -/
def captPulse (n : Nat) (late : Bool) (s : State) : State :=
  { s with adc := { s.adc with wav := s.adc.wav.map (fun x =>
      if x.cap.state == 1 && x.cap.start == 1 && x.cap.unit == n && x.cap.pulse.isNone
      then { x with cap := { x.cap with pulse := some late } } else x) } }

/-- The arm after a pulse whose latest target reached lies `n` periods after the held one (R332, R333). -/
def trgAdvance (n : Nat) (late : Bool) (t : Trigger) : Trigger :=
  { t with
    active := true
    pulsed := true
    lateLast := late
    skipLast := min n 65535
    nominal := t.target + n * t.period
    target := if t.periodic then t.target + (n + 1) * t.period else t.target
    remain := t.remain - 1
    armed := t.periodic && t.remain != 1 }

/-- A unit fires in the tick its target is reached (R332). -/
def trgFire (n : Nat) (s : State) : State :=
  match s.time.trg[n]? with
  | none => s
  | some t =>
    let s := captPulse n false (onTrg n (trgAdvance 0 false) s)
    let s := handPulse n t.target s
    if t.evt then
      if elapsed t.lastEvt 1000000 s then
        raise 0x0519 28 n t.target (t.target / 2 ^ 32) (onTrg n (fun t => { t with lastEvt := some s.time.ont }) s)
      else onTrg n (fun t => { t with evtDrop := min 255 (t.evtDrop + 1) }) s
    else s

/-- A unit whose targets a step or an arm jumped over emits one late pulse (R333). -/
def trgLate (n : Nat) (s : State) : State :=
  match s.time.trg[n]? with
  | none => s
  | some t =>
    let k := if t.periodic then (s.time.ont - t.target) / t.period else 0
    let nom := t.target + k * t.period
    let s := handPulse n nom (captPulse n true (onTrg n (trgAdvance k true) s))
    if t.evt || 14 ≤ n then raise 0x0515 28 n (min k 65535) nom s else s

/-- Every armed unit is compared with ONT in full (R318). -/
def trgFull (s : State) : State :=
  (upTo 16).foldl (fun s n => match s.time.trg[n]? with
    | some t => if t.armed && t.target ≤ s.time.ont then trgLate n s else s
    | none => s) s

/-- A deadline is reached, by the signed 48-bit difference (R225). -/
def deadlineReached (s : State) (d : Nat) : Bool :=
  decide (signedDiff 48 (d % 2 ^ 48) (s.time.ont % 2 ^ 48) ≤ 0)

/-- The deadlines of Ox and of the result unit that are reached at this moment stay reached (R225). -/
def deadlinesLatch (s : State) : State :=
  { s with
    ox := { s.ox with q := s.ox.q.map (fun x => { x with
      late := x.late || (x.state != 0 && deadlineReached s x.arm.deadline)
      lateNext := x.lateNext || x.next.any (fun a => deadlineReached s a.1.deadline) }) }
    dsp := { s.dsp with
      tdlHit := s.dsp.tdlHit || (s.dsp.tdlDue && deadlineReached s s.dsp.tdl)
      taHit := s.dsp.taHit || (s.dsp.taDue && deadlineReached s s.dsp.ta) } }

/-- A moment in ONT as it reads after a step of `size`, so that the time since it stays what it was. -/
def movedBy (size : Int) (m : Option Nat) : Option Nat :=
  match m with
  | some u => if 0 ≤ (u : Int) + size then some ((u : Int) + size).toNat else none
  | none => none

/-- ONT is stepped in one tick (R318); it stays a 64-bit count. The interval T of the servo is not changed by it (R325). -/
def stepOnt (new : Nat) (s : State) : State :=
  let old := s.time.ont
  let new : Nat := new % 2 ^ 64
  let size : Int := (new : Int) - (old : Int)
  let s := deadlinesLatch s
  let s := onTime (fun t => { t with
    ont := new, stepCnt := satInc 32 t.stepCnt, lastStep := satS 32 size, lastUpdate := movedBy size t.lastUpdate }) s
  let s := raise 0x0511 25 (s32sat size) old new s
  if old ≤ new then trgFull s else s

/-- LOCKED clears: Malor writes the RTC's TRIM without its phase term (R353). -/
def clearLocked (s : State) : State :=
  if s.time.locked then
    let s := onTime (fun t => { t with locked := false }) s
    { s with rtc := { s.rtc with
        ePrev := none
        trim := match s.rtc.rf with
          | some f => if s.mgmt.malorRuns then clamp (-30000) 30000 (divRound (-f) (2 ^ 24)) else s.rtc.trim
          | none => s.rtc.trim } }
  else s

/-- The servo code while disciplined and locked: PPS in the bellwether role, LOCKED otherwise (R324, R338). -/
def lockedCode (s : State) : Nat := if s.time.bellwether then 2 else 4

/-- The servo code while not locked: FREE in the bellwether role, ACQUIRING otherwise. -/
def unlockedCode (s : State) : Nat := if s.time.bellwether then 1 else 3

/-- The servo leaves LOCKED (R327). -/
def leaveLock (theta : Int) (s : State) : State :=
  let was := s.time.servo = lockedCode s
  let s := clearLocked (onTime (fun t => { t with servo := unlockedCode s, lockRun := 0, confirm := 0 }) s)
  if was then raise 0x0510 24 s.time.servo (s32sat theta) 0 s else s

/-- A phase step by −θ, by the servo (R326). DESIGN CHOICE (log entry 6): a step that would end below 0 ends at 0, of which the
spec says nothing. -/
def servoStep (theta : Int) (s : State) : State :=
  leaveLock theta (stepOnt ((s.time.ont : Int) - theta).toNat s)


/-- The mean of the last 64 values of y (R328). -/
def meanY (t : TimeSt) : Int :=
  match t.yHist with
  | [] => t.rate
  | l => divRound (l.foldl (· + ·) 0) l.length

/-- The interval since the previous update in ns; without one it is open (R325). -/
def servoInterval (s : State) : Nat :=
  match s.time.lastUpdate with
  | some u => if u < s.time.ont then s.time.ont - u else Config.freeNat s.free + 1
  | none => Config.freeNat s.free + 1

/-- The proportional and integral update (R325). -/
def servoPi (theta : Int) (tns : Nat) (s : State) : State :=
  let lim : Int := 500000 * 256
  let kp := act s 0x050B
  let ki := act s 0x050C
  let i := clamp (-lim) lim (s.time.integ + divRound (ki * theta * 256 * 1000000000) (2 ^ 14 * tns))
  let y := clamp (-lim) lim (divRound (kp * theta * 256 * 1000000000) (2 ^ 14 * tns) + i)
  onTime (fun t => { t with integ := i, rate := y, yHist := (y :: t.yHist).take 64, lastUpdate := some t.ont }) s

/-- The lock rule of R327 for a measurement the servo used. -/
def servoLock (theta : Int) (s : State) : State :=
  let lt := act s 0x050F
  if (theta.natAbs : Int) ≤ lt then
    let run := s.time.lockRun + 1
    let s := onTime (fun t => { t with lockRun := run }) s
    if s.time.servo ≠ lockedCode s ∧ act s 0x0510 ≤ run then
      raise 0x0510 24 (lockedCode s) (s32sat theta) 0
        (onTime (fun t => { t with servo := lockedCode s, locked := true, valid := true }) s)
    else s
  else
    let s := onTime (fun t => { t with lockRun := 0 }) s
    if 4 * lt < theta.natAbs ∧ s.time.servo = lockedCode s then leaveLock theta s else s

/-- One usable offset measurement θ in ns (R325 to R327). -/
def servoRun (theta : Int) (tns : Nat) (s : State) : State :=
  let s := onTime (fun t => { t with offset := satS 32 theta }) s
  if act s 0x050D < theta.natAbs then
    if s.time.servo = lockedCode s then
      let c := s.time.confirm + 1
      if act s 0x050E ≤ c then servoStep theta s
      else onTime (fun t => { t with confirm := c, outliers := satInc 32 t.outliers }) s
    else servoStep theta s
  else
    let s := servoPi theta tns (onTime (fun t => { t with confirm := 0 }) s)
    let s := if s.time.servo = 5 then clearLocked (onTime (fun t => { t with servo := unlockedCode s, lockRun := 0 }) s) else s
    servoLock theta s

/-- The servo enters HOLDOVER (R328). -/
def holdover (s : State) : State :=
  let y := meanY s.time
  raise 0x0512 26 0 0 0 (onTime (fun t =>
    { t with rate := y, integ := y, lockRun := 0, confirm := 0, servo := if t.bellwether then 1 else 5 }) s)

/-- A port's state changes (R321, R341). -/
def portSet (p new : Nat) (s : State) : State :=
  let old := nth 3 s.time.portState p
  if old = new ∨ 2 ≤ p then s
  else
    let s := onTime (fun t => { t with portState := t.portState.set p new }) s
    let s := raise 0x0513 27 p old new s
    if old = 9 ∧ (s.time.servo = 3 ∨ s.time.servo = 4) then holdover s else s

/-- A port takes part in PTP: TIME unit 0 enabled and the port's MODE 1 (R329). -/
def ptpPort (s : State) (p : Nat) : Bool :=
  p < 2 && enabled s 5 0 && act s (0x0520 + 8 * p) == 1 && enabled s 0x10 p

/-- The clockIdentity: EUI-64 formed from the ETH0 MAC address (R320). -/
def clockId (s : State) : Nat :=
  let m := actN s 0x6003
  m / 2 ^ 24 * 2 ^ 40 + 0xFFFE * 2 ^ 24 + m % 2 ^ 24

/-- The part is PPS-locked (R324). -/
def ppsLocked (s : State) : Bool := s.time.servo == 2

/-- The part's own dataset, as it announces it in the bellwether role (R324). -/
def ownDataset (s : State) (port : Nat) : Announce :=
  { gmPriority1 := actN s 0x0502, gmClass := actN s 0x0504, gmAccuracy := if ppsLocked s then 0x21 else 0xFE
    gmVariance := 0xFFFF, gmPriority2 := actN s 0x0503, gmId := clockId s, stepsRemoved := 0
    srcId := clockId s, srcPort := port + 1, timeSource := if act s 0x0506 = 1 then 0x90 else 0xA0
    utcOffset := act s 0x0514, utcValid := s.time.valid, timeTraceable := ppsLocked s, frequencyTraceable := ppsLocked s }

/-- Lexicographic comparison. -/
def lexLt : List Nat → List Nat → Bool
  | a :: as, b :: bs => if a < b then true else if b < a then false else lexLt as bs
  | _, _ => false

/-- The dataset comparison of the default BMCA (R320; IEEE 1588). -/
def better (a b : Announce) : Bool :=
  if a.gmId = b.gmId then lexLt [a.stepsRemoved, a.srcId, a.srcPort] [b.stepsRemoved, b.srcId, b.srcPort]
  else lexLt [a.gmPriority1, a.gmClass, a.gmAccuracy, a.gmVariance, a.gmPriority2, a.gmId]
    [b.gmPriority1, b.gmClass, b.gmAccuracy, b.gmVariance, b.gmPriority2, b.gmId]

/-- The best dataset held for the active ports, with its port. -/
def bestAnnounce (s : State) : Option (Nat × Announce) :=
  let c := (upTo 2).filterMap (fun p => if ptpPort s p then (nth none s.time.announce p).map (fun a => (p, a)) else none)
  match c with
  | [] => none
  | [x] => some x
  | x :: y :: _ => if better y.2 x.2 then some y else some x

/-- The port finds its own dataset best on every enabled port (R324). -/
def ownBest (s : State) : Bool :=
  act s 0x0505 == 0 && (match bestAnnounce s with | none => true | some x => better (ownDataset s 0) x.2)

/-- The state the BMCA gives a port (R320, R321; IEEE 1588): MASTER, PASSIVE, LISTENING, or UNCALIBRATED towards
SLAVE. A listening port that holds no dataset waits for its announceReceiptTimeout, which `timed` tells. -/
def bmcaState (timed : Bool) (s : State) (p : Nat) : Nat :=
  let cur := nth 3 s.time.portState p
  let master := if cur = 4 && !timed then 4 else 6
  if act s 0x0505 = 1 then
    match bestAnnounce s with
    | some (q, _) => if q = p then (if cur = 9 then 9 else 8) else 4
    | none => 4
  else match nth none s.time.announce p, bestAnnounce s with
    | none, _ => master
    | some a, some (q, b) =>
      if better (ownDataset s 0) a then 6
      else if actN s 0x0504 ≤ 127 then 7
      else if q = p then (if cur = 9 then 9 else 8)
      else if a.gmId = b.gmId then 7 else 6
    | some _, none => master

/-- The BMCA runs over the active ports, `timed` of them after its announceReceiptTimeout; BELLWETHER and the grandmaster
follow (R321, R324). -/
def runBmca (timed : Option Nat) (s : State) : State :=
  let s := (upTo 2).foldl (fun s p => if ptpPort s p then portSet p (bmcaState (timed == some p) s p) s else s) s
  let bw := ownBest s && enabled s 5 0 && (upTo 2).any (fun p => ptpPort s p && nth 3 s.time.portState p == 6)
  let gm := match bestAnnounce s with
    | some (_, a) => if bw then clockId s else a.gmId
    | none => if bw then clockId s else 0
  let was := s.time.bellwether
  let s := onTime (fun t => { t with gmId := gm, bellwether := bw }) s
  let s := if s.time.portState.contains 8 ∧ (s.time.servo = 1 ∨ s.time.servo = 2)
    then clearLocked (onTime (fun t => { t with servo := 3 }) s) else s
  let s := if bw ∧ s.time.servo ≠ 1 ∧ s.time.servo ≠ 2 then onTime (fun t => { t with servo := 1, lockRun := 0 }) s else s
  if was = bw then s else raise 0x0514 27 0 0 0 s

/-- PTP messages are handled in RUN and IDLE (R72). -/
def ptpRuns (s : State) (p : Nat) : Bool := inRun s && ptpPort s p

/-- A PTP message of a port is a frame received (R509). -/
def ptpGot (p : Nat) (s : State) : State := if ptpRuns s p then portRx p s else s

/-- delayAsymmetry of a port in 2^-16 ns (R322). -/
def asymOf (s : State) (port : Nat) : Int := act s (0x0524 + 8 * port) * 65536

/-- The configuration of TIME is committed (R30). -/
def timeCommit (s : State) : State :=
  parCommit (fun id => match pInfo id with | some i => i.owner == 5 | none => false) s

/-- A Sync with its origin time in ns, MAC ingress time and correctionField in 2^-16 ns (R322, R325). -/
def ptpSync (port origin ingress : Nat) (corr : Int) (s : State) : State :=
  let st := nth 3 s.time.portState port
  if ptpRuns s port && (st == 8 || st == 9) then
    let s := timeCommit s
    let d : Int := ((ingress : Int) - act s (0x0523 + 8 * port) - (origin : Int)) * 65536 - corr
    let s := onTime (fun t => { t with lastSync := some d }) s
    if s.time.mpdKnown then
      let theta := divRound (d - asymOf s port - s.time.mpd) 65536
      let s := servoRun theta (servoInterval s) s
      let s := if s.mgmt.malorRuns then portSet port 9 s else s
      s.drawn
    else s
  else s

/-- PTP_SYNC_RECEIVED (R325). -/
def execPtpSyncReceived (port origin ingress : Nat) (corr : Int) (s : State) : Out :=
  .next (ptpSync port origin ingress corr (ptpGot port s))

/-- The filter of the mean path delay, in 2^-16 ns (R325). -/
def mpdFilter (new : Int) (filt : Nat) (t : TimeSt) : TimeSt :=
  { t with mpd := if t.mpdKnown then t.mpd + shiftRound (new - t.mpd) filt else new, mpdKnown := true }

/-- The egress time of the outstanding request of a port. -/
def reqTime (s : State) (port : Nat) : Option Nat := nth none s.time.reqSent port

/-- A Delay_Resp (`receipt` is the master's receiveTimestamp) or a Pdelay_Resp (`ingress` is its MAC time), with its
correctionField in 2^-16 ns (R322, R325). -/
def ptpDelay (port receipt ingress : Nat) (corr : Int) (s : State) : State :=
  if ptpRuns s port then
    match reqTime s port with
    | none => s
    | some t3 =>
      let s := onTime (fun t => { t with reqSent := t.reqSent.set port none }) s
      let filt := actN s 0x0515
      if act s 0x0501 = 1 then
        let t4 : Int := (ingress : Int) - act s (0x0523 + 8 * port)
        onTime (mpdFilter (divRound ((t4 - (t3 : Int)) * 65536 - corr - asymOf s port) 2) filt) s
      else match s.time.lastSync with
        | some d =>
          onTime (mpdFilter (divRound (d - asymOf s port + ((receipt : Int) - (t3 : Int)) * 65536 - corr) 2) filt) s
        | none => s
  else s

/-- PTP_DELAY_RESPONSE (R325). -/
def execPtpDelayResponse (port receipt ingress : Nat) (corr : Int) (s : State) : Out :=
  .next (ptpDelay port receipt ingress corr (ptpGot port s))

/-- The egress time of a message sent now: MAC time plus the port's latency (R322). -/
def egress (s : State) (port : Nat) : Nat := s.time.ont + actN s (0x0522 + 8 * port)

/-- The 16-bit ONT fraction (R313). -/
def ontFrac16 (t : TimeSt) : Nat := t.frac / 2 ^ 24

/-- What carries the PTP messages of a port (R320, R323). -/
def carrier (s : State) (port : Nat) : PtpCarrier :=
  let tr := actN s (0x0521 + 8 * port)
  { transport := tr, vid := actN s (0x0525 + 8 * port)
    udpChecksum := if tr = 1 then some 0 else none, appended := if tr = 2 then 2 else 0 }

/-- A Pdelay_Req is answered with a one-step Pdelay_Resp: the turnaround is added to the correctionField of the request
(R323). -/
def pdelayReq (port ingress reqSeq : Nat) (corr : Int) (s : State) : State :=
  if ptpRuns s port && act s 0x0501 == 1 then
    let back : Int := (egress s port : Int) - ((ingress : Int) - act s (0x0523 + 8 * port))
    portSend port (.ptp port 3 reqSeq 0 (corr + back * 65536 + ontFrac16 s.time) (carrier s port)) s
  else s

/-- PDELAY_REQ_RECEIVED (R323). -/
def execPdelayReqReceived (port ingress : Nat) (req : DelayReq) (s : State) : Out :=
  .next (pdelayReq port ingress req.seq req.corr (ptpGot port s))

/-- A port in MASTER answers a Delay_Req with its ingress time and its correctionField (R320, R322). -/
def delayReq (port ingress reqSeq : Nat) (corr : Int) (s : State) : State :=
  if ptpRuns s port && act s 0x0501 == 0 && nth 3 s.time.portState port == 6 then
    portSend port (.ptp port 9 reqSeq ((ingress : Int) - act s (0x0523 + 8 * port)).toNat corr (carrier s port)) s
  else s

/-- PTP_DELAY_REQ_RECEIVED (R323). -/
def execPtpDelayReqReceived (port ingress : Nat) (req : DelayReq) (s : State) : Out :=
  .next (delayReq port ingress req.seq req.corr (ptpGot port s))

/-- The sequenceId of a message kind of a port, and the state with it advanced. -/
def takeSeq (port kind : Nat) (s : State) : Nat × State :=
  let i := 3 * port + kind
  let v := nth 0 s.time.seqIds i
  (v, onTime (fun t => { t with seqIds := t.seqIds.set i (wrapInc 16 v) }) s)

/-- A message interval expires (R320, R323): kind 0 Sync, 1 Delay_Req or Pdelay_Req, 2 Announce. -/
def ptpInterval (port kind : Nat) (s : State) : State :=
  if !ptpRuns s port then s
  else
    let st := nth 3 s.time.portState port
    let e := egress s port
    let fr : Int := ontFrac16 s.time
    if kind = 0 ∧ st = 6 then
      let (q, s) := takeSeq port 0 s
      portSend port (.ptp port 0 q e fr (carrier s port)) s
    else if kind = 1 ∧ (act s 0x0501 = 1 ∨ st = 8 ∨ st = 9) then
      let (q, s) := takeSeq port 1 s
      portSend port (.ptp port (if act s 0x0501 = 1 then 2 else 1) q e (fr - asymOf s port) (carrier s port))
        (onTime (fun t => { t with reqSent := t.reqSent.set port (some e) }) s)
    else if kind = 2 ∧ st = 6 then
      let (q, s) := takeSeq port 2 s
      portSend port (.announce port q (ownDataset s port) (carrier s port)) s
    else s

/-- PTP_MESSAGE_INTERVAL (R323). -/
def execPtpMessageInterval (port kind : Nat) (s : State) : Out := .next (ptpInterval port kind s)

/-- An Announce reaches Malor, which runs the BMCA (R321). -/
def ptpAnnounce (port : Nat) (a : Announce) (s : State) : State :=
  if ptpRuns s port && s.mgmt.malorRuns && a.srcId != clockId s && a.stepsRemoved < 255 then
    let held := nth none s.time.announce port
    let take := match held with
      | none => true
      | some b => (a.srcId == b.srcId && a.srcPort == b.srcPort) || better a b
    if take then runBmca none (onTime (fun t => { t with announce := t.announce.set port (some a) }) s) else s
  else s

/-- PTP_ANNOUNCE_RECEIVED (R321). -/
def execPtpAnnounceReceived (port : Nat) (a : Announce) (s : State) : Out := .next (ptpAnnounce port a (ptpGot port s))

/-- announceReceiptTimeout expires; evaluated only while Malor runs (R321). -/
def announceTimeout (port : Nat) (s : State) : State :=
  if ptpRuns s port && s.mgmt.malorRuns then
    runBmca (some port) (onTime (fun t => { t with announce := t.announce.set port none }) s)
  else s

/-- ANNOUNCE_RECEIPT_TIMEOUT (R321). -/
def execAnnounceReceiptTimeout (port : Nat) (s : State) : Out := .next (announceTimeout port s)

/-- SERVO_HOLDOVER_TIMEOUT (R328). -/
def execServoHoldoverTimeout (s : State) : Out :=
  .next (if inRun s && enabled s 5 0 && (s.time.servo == 2 || s.time.servo == 3 || s.time.servo == 4) then holdover s else s)

/-- HOLD_LOCKED_EXPIRY (R328): LOCKED clears and EV_TIME_HOLDOVER is raised again. -/
def execHoldLockedExpiry (s : State) : Out :=
  .next (if s.time.locked && (s.time.servo == 5 || (s.time.bellwether && s.time.servo == 1)) then
    raise 0x0512 26 0 0 0 (clearLocked s) else s)

/-- TRIGGER_FIRE (R332): the unit fires if its target is reached by the signed 48-bit difference. -/
def execTriggerFire (unit : Nat) (s : State) : Out :=
  .next (match s.time.trg[unit]? with
    | some t => if plantRuns s && t.armed && decide (signedDiff 48 (t.target % 2 ^ 48) (s.time.ont % 2 ^ 48) ≤ 0)
        then trgFire unit s else s
    | none => s)

/-- TRIGGER_PULSE_END (R332). -/
def execTriggerPulseEnd (unit : Nat) (s : State) : Out := .next (onTrg unit (fun t => { t with active := false }) s)

/-- The time a capture subtracts from the tick at which the filtered edge arrives, in ns (R334). -/
def capDelay (s : State) (unit : Nat) : Nat :=
  match capPad unit with
  | none => 1000
  | some g => if padFilter s g = 0 then 0 else 40 * padFilter s g - 16

/-- One capture unit changed. -/
def onCap (n : Nat) (f : Capture → Capture) (s : State) : State := onTime (fun t => { t with cap := modNth t.cap n f }) s

/-- θ of a PPS capture: ONT mod 10^9 reduced to the range around 0 (R324). -/
def ppsTheta (ts : Nat) : Int :=
  let r := ts % 1000000000
  if 500000000 ≤ r then (r : Int) - 1000000000 else r

/-- The event of a capture, at most one a millisecond; a dropped one is counted and reported once a second (R334). -/
def capEvent (unit ts : Nat) (s : State) : State :=
  match s.time.cap[unit]? with
  | none => s
  | some c =>
    if elapsed c.lastEvt 1000000 s then
      raise 0x0516 29 unit ts (ts / 2 ^ 32) (onCap unit (fun c => { c with lastEvt := some s.time.ont }) s)
    else
      let s := onCap unit (fun c => { c with evtDrop := satInc 32 c.evtDrop }) s
      if elapsed c.lastOvf 1000000000 s then
        raise 0x0517 29 unit (satInc 32 c.evtDrop) 0 (onCap unit (fun c => { c with lastOvf := some s.time.ont }) s)
      else s

/-- A filtered edge on a capture input (R334); a PPS capture drives the bellwether's servo, which commits its configuration
(R30, R324). DESIGN CHOICE (log entry 6): a timestamp that would lie before ONT 0 is 0. -/
def capture (unit : Nat) (rising : Bool) (s : State) : State :=
  let edge := act s (0x6800 + 2 * unit)
  if (edge = 0 ∧ !rising) ∨ (edge = 1 ∧ rising) then s
  else
    let ts := s.time.ont - capDelay s unit
    let s := onCap unit (fun c => { c with
      ts := ts, count := wrapInc 32 c.count, rising := rising, inSleep := s.power.cur == .sleep }) s
    let s := if act s (0x6801 + 2 * unit) = 1 then capEvent unit ts s else s
    if unit = 0 ∧ rising ∧ act s 0x0506 = 1 ∧ s.time.bellwether ∧ enabled s 5 0 ∧ inRun s then
      servoRun (ppsTheta ts) 1000000000 (timeCommit s)
    else s

/-- The ball of a capture unit stays at a level for `k` samples of 40 ns; where its filter passes the edge, it is captured
(R62, R334). -/
def captureEdge (unit : Nat) (level : Bool) (k : Nat) (s : State) : State :=
  if 16 ≤ unit ∨ !plantRuns s then s
  else
    let n := match capPad unit with | some g => padFilter s g | none => 0
    let f := nth {} s.pins.cap unit
    let g := f.feed n level k
    let s := { s with pins := { s.pins with cap := s.pins.cap.set unit g } }
    if g.level = f.level then s else capture unit level s

/-- CAPTURE_EDGE (R334). -/
def execCaptureEdge (unit : Nat) (e : EdgeIn) (s : State) : Out := .next (captureEdge unit e.level e.samples s)

/-- NET in OFF keeps no arms and no captures (R67); ONT, the tick count and the correction come back by R78 (log 31). -/
def timeLost (s : State) : State :=
  onTime (fun t => { t with
    trg := t.trg.map (fun x => { driven := x.driven }), cap := List.replicate 16 {}, snapSeq := 0, snapOnt := 0, snapFrac := 0
    snapStat := 0, pulse14 := none, pulse15 := none, reqSent := [none, none], lastSync := none }) s

/-- The effect of TIME_SET (R319). -/
def timeSet (p : Bytes) (s : State) : Answer :=
  let mode := byteField p 0 1
  let old := s.time.ont
  let new : Int := if mode = 0 then byteField p 8 8 else (old : Int) + byteFieldS p 8 8
  if p.length ≠ 16 ∨ ¬ allZero ((p.drop 1).take 7) then refuse s 0x050A
  else if 1 < mode then refuse s 0x0505
  else if s.time.portState.any (fun x => x == 8 || x == 9) then refuse s 0x0506
  else if new < 0 ∨ (2 ^ 64 : Int) ≤ new then refuse s 0x0505
  else
    let s := stepOnt new.toNat s
    done (raise 0x0518 30 old new.toNat mode (onTime (fun t => { t with valid := true }) s)) []

/-- TIME_SET (0x0510). -/
def execTimeSet (m : Mail) (s : State) : Out := mailOut 0x0510 m (timeSet m.payload) s

/-- A unit is armed; a target at or before ONT is handled as jumped over (R331, R332). -/
def armTrigger (unit : Nat) (periodic pol evt : Bool) (target period width count : Nat) (s : State) : State :=
  let s := onTrg unit (fun t => { t with
    armed := true, periodic := periodic, pol := pol, evt := evt, target := target, period := period, width := width
    remain := if periodic then count else 1, evtDrop := 0, driven := true }) s
  if target ≤ s.time.ont then trgLate unit s else s

/-- The effect of TIME_TRG_ARM (R331). -/
def trgArm (p : Bytes) (s : State) : Answer :=
  let unit := byteField p 0 1
  let fl := byteField p 1 1
  let per := bit fl 0
  let target := byteField p 4 8
  let period := byteField p 12 8
  let width := byteField p 20 4
  if p.length ≠ 28 ∨ 7 < fl ∨ byteField p 2 2 ≠ 0 then refuse s 0x050A
  else if unit = 14 ∨ unit = 15 then refuse s 0x0510
  else if 15 < unit ∨ (per = false ∧ period ≠ 0) ∨ (per = true ∧ (period < 100 ∨ 86400000000000 < period)) ∨
      width < 8 ∨ 1000000000 < width ∨ (per = true ∧ period ≤ width) ∨ s.time.ont + (2 ^ 47 - 1) < target then
    refuse s 0x0505
  else done (armTrigger unit per (bit fl 1) (bit fl 2) target period width (byteField p 24 4) s) []

/-- TIME_TRG_ARM (0x0520). -/
def execTimeTrgArm (m : Mail) (s : State) : Out := mailOut 0x0520 m (trgArm m.payload) s

/-- A unit is disarmed (R331). -/
def disarm (unit : Nat) (s : State) : State := onTrg unit (fun t => { t with armed := false, remain := 0 }) s

/-- The effect of TIME_TRG_STOP (R331). -/
def trgStop (p : Bytes) (s : State) : Answer :=
  let unit := byteField p 0 1
  if p.length ≠ 4 ∨ byteField p 1 3 ≠ 0 then refuse s 0x050A
  else if unit = 14 ∨ unit = 15 then refuse s 0x0510
  else if 15 < unit then refuse s 0x0505
  else done (disarm unit s) []

/-- TIME_TRG_STOP (0x0521). -/
def execTimeTrgStop (m : Mail) (s : State) : Out := mailOut 0x0521 m (trgStop m.payload) s

/-- The values TIME_STATUS_GET returns (R340), in the order the rule lists them. -/
def timeStatusValues (s : State) : List Int :=
  let a := match bestAnnounce s with | some (_, a) => a | none => ownDataset s 0
  [timeStatus s.time, s.time.offset, divRound s.time.mpd 65536, s.time.rate, nth 3 s.time.portState 0,
   nth 3 s.time.portState 1, a.srcId, a.srcPort, s.time.gmId, a.gmPriority1, a.gmClass, a.gmAccuracy, a.timeSource,
   a.stepsRemoved, a.utcOffset, b2n a.utcValid, b2n a.leap61, b2n a.leap59]

/-- The effect of TIME_STATUS_GET (R340). -/
def timeStatusGet (p : Bytes) (s : State) : Answer :=
  if p ≠ [] then refuse s 0x050A else done s (Config.layout 0x0500 (timeStatusValues s))

/-- TIME_STATUS_GET (0x0500). -/
def execTimeStatusGet (m : Mail) (s : State) : Out := mailOut 0x0500 m (timeStatusGet m.payload) s

/-- The consistency check of TIME unit 0 (R329). -/
def timeCheck (s : State) : CheckFail :=
  firstFail [
    (par s 0x0520 == 1 || par s 0x0528 == 1, 0x0511, 0x0520),
    ((upTo 2).all (fun p => par s (0x0520 + 8 * p) == 0 || enabled s 0x10 p), 0x050D, 0),
    (par s 0x0506 == 0 || par s 0x0505 == 0, 0x0512, 0x0506),
    (decide (par s 0x050F < par s 0x050D), 0x0512, 0x050F)]

/-- The start of TIME unit 0: ports with MODE 1 listen and the servo is FREE. -/
def timeStart (s : State) : State :=
  let s := onTime (fun t => { t with servo := 1, lockRun := 0, confirm := 0, announce := [none, none] }) s
  (upTo 2).foldl (fun s p => if par s (0x0520 + 8 * p) = 1 then portSet p 4 s else s) s

/-- The PTP stop begins (R329): the servo takes the holdover frequency. -/
def timeStop (s : State) : State :=
  let y := meanY s.time
  onTime (fun t => { t with rate := y, integ := y }) s

/-- The PTP stop ends: the servo is OFF and the ports are DISABLED (R329). -/
def timeStopEnd (s : State) : State :=
  let s := if s.time.servo = lockedCode s ∧ s.time.locked = true then raise 0x0510 24 0 (s32sat s.time.offset) 0 s else s
  let s := clearLocked (onTime (fun t => { t with servo := 0, lockRun := 0, confirm := 0, announce := [none, none] }) s)
  let s := (upTo 2).foldl (fun s p => portSet p 3 s) s
  if s.time.bellwether then raise 0x0514 27 0 0 0 (onTime (fun t => { t with bellwether := false }) s) else s

/-- The register of a trigger unit (R337, R338). -/
def trgReg (t : Trigger) (off : Nat) : Nat :=
  match off with
  | 0x00 => b2n t.armed + 2 * b2n t.periodic + 4 * b2n t.pol + 8 * b2n t.evt + 16 * b2n t.active
  | 0x04 => b2n t.lateLast + 256 * t.evtDrop + 65536 * t.skipLast
  | 0x08 => t.target % 2 ^ 32
  | 0x0C => t.target / 2 ^ 32 % 2 ^ 32
  | 0x10 => t.period % 2 ^ 32
  | 0x14 => t.period / 2 ^ 32
  | 0x18 => t.width
  | 0x1C => t.remain
  | _ => 0

/-- The register of a capture unit (R337). -/
def capReg (s : State) (n off : Nat) : Nat :=
  let c := nth {} s.time.cap n
  match off with
  | 0x00 => actN s (0x6800 + 2 * n) + 4 * actN s (0x6801 + 2 * n)
  | 0x04 => c.count
  | 0x08 => c.ts % 2 ^ 32
  | 0x0C => c.ts / 2 ^ 32
  | 0x10 => b2n c.rising + 2 * b2n c.inSleep
  | 0x14 => c.evtDrop
  | _ => 0

/-- A register of the time unit by its offset (R337). -/
def timeReg (s : State) (off : Nat) : Nat :=
  let t := s.time
  if 0x1000 ≤ off ∧ off < 0x1200 then trgReg (nth {} t.trg ((off - 0x1000) / 32)) (off % 32)
  else if 0x2000 ≤ off ∧ off < 0x2200 then capReg s ((off - 0x2000) / 32) (off % 32)
  else match off with
    | 0x00 => t.ont % 2 ^ 32
    | 0x04 => t.ont / 2 ^ 32
    | 0x08 => ontFrac16 t
    | 0x0C => timeStatus t
    | 0x10 => s32sat t.offset
    | 0x14 => (clamp 0 (2 ^ 32 - 1) (divRound t.mpd 65536)).toNat
    | 0x18 => toBits 32 t.rate
    | 0x1C => t.stepCnt
    | 0x20 => toBits 32 t.lastStep
    | 0x24 => t.outliers
    | 0x28 => nth 3 t.portState 0 + 16 * nth 3 t.portState 1
    | 0x2C => 0
    | 0x30 => t.gmId % 2 ^ 32
    | 0x34 => t.gmId / 2 ^ 32
    | _ => 0

/-- The snapshot of R316. -/
def ontSnap (t : TimeSt) : TimeSt :=
  { t with snapSeq := wrapInc 32 t.snapSeq, snapOnt := t.ont, snapFrac := ontFrac16 t, snapStat := timeStatus t }

/-- ONT_SNAP_REQ_WRITE (R316). -/
def execOntSnapReqWrite (s : State) : Out := .next (if plantRuns s then onTime ontSnap s else s)

end Sys2Proof.Machine
end

