-- ==== Sys2Proof/Machine/Rtc.lean ====
section
/-! DEFINITION. The real-time clock: calendar, setting, freeze shadows, alarms and trimming (R342 to R356). -/

namespace Sys2Proof.Machine

/-- The RTC's state changed. -/
def onRtc (f : RtcSt → RtcSt) (s : State) : State := { s with rtc := f s.rtc }

/-- A leap year of the calendar; the year counted from 2000 (R343). -/
def leapYear (y : Nat) : Bool := y % 4 == 0 && (y % 100 != 0 || y % 400 == 0)

/-- The days of a month of a year, months 1 to 12 (R343). -/
def monthDays (y m : Nat) : Nat :=
  if m = 2 then (if leapYear y then 29 else 28)
  else if m = 4 ∨ m = 6 ∨ m = 9 ∨ m = 11 then 30
  else if 1 ≤ m ∧ m ≤ 12 then 31 else 0

/-- The days from 2000-01-01 to the first day of year `y`. -/
def yearStart (y : Nat) : Nat := 365 * y + (y + 3) / 4 - (y + 99) / 100 + (y + 399) / 400

/-- The days of a year before month `m`. -/
def monthStart (y m : Nat) : Nat := ((upTo (m - 1)).map (fun k => monthDays y (k + 1))).foldl (· + ·) 0

/-- The day number D of a date (R343). -/
def dayNumber (t : RtcTime) : Nat := yearStart t.year + monthStart t.year t.month + (t.day - 1)

/-- The second of the day. -/
def daySecond (t : RtcTime) : Nat := 3600 * t.hour + 60 * t.min + t.sec

/-- Seconds since 2000-01-01 00:00:00. -/
def rtcSeconds (t : RtcTime) : Nat := 86400 * dayNumber t + daySecond t

/-- The weekday, 0 Monday (R343). -/
def weekday (d : Nat) : Nat := (5 + d) % 7

/-- The year that day `d` lies in. -/
def yearOf (d : Nat) : Nat := ((upTo 400).filter (fun y => yearStart (y + 1) ≤ d)).length

/-- The month that day `r` of a year lies in. -/
def monthOf (y r : Nat) : Nat := ((upTo 12).filter (fun m => monthStart y (m + 2) ≤ r)).length + 1

/-- The date and time of a number of seconds since 2000-01-01 00:00:00. -/
def ofSeconds (n : Nat) : RtcTime :=
  let d := n / 86400
  let r := n % 86400
  let y := yearOf d
  let m := monthOf y (d - yearStart y)
  { tick := 0, sec := r % 60, min := r / 60 % 60, hour := r / 3600, wday := weekday d
    day := d - yearStart y - monthStart y m + 1, month := m, year := y }

/-- One second more than the calendar's last second. -/
def calendarEnd : Nat := rtcSeconds { sec := 59, min := 59, hour := 23, day := 31, month := 12, year := 399 } + 1

/-- The fields are a date and time of the calendar (R349). -/
def dateOk (t : RtcTime) : Bool :=
  t.year ≤ 399 && 1 ≤ t.month && t.month ≤ 12 && 1 ≤ t.day && t.day ≤ monthDays t.year t.month &&
    t.hour ≤ 23 && t.min ≤ 59 && t.sec ≤ 59

/-- RTC_TIME0 (R346). -/
def rtcTime0 (t : RtcTime) : Nat := t.tick + t.sec * 2 ^ 16 + t.min * 2 ^ 24

/-- RTC_TIME1 (R346). -/
def rtcTime1 (t : RtcTime) : Nat := t.hour + t.wday * 2 ^ 5 + t.day * 2 ^ 8 + t.month * 2 ^ 16 + t.year * 2 ^ 23

/-- The RTC is counting (R346). -/
def rtcRunning (s : State) : Bool := !s.rtc.halt && s.power.xtal32

/-- RTC_STAT (R346). -/
def rtcStat (s : State) : Nat :=
  flagsNat [rtcRunning s, s.rtc.dateInvalid, s.rtc.lost, s.rtc.xtalSlip, s.rtc.frzExp, s.rtc.ended, s.rtc.mismatch]

/-- RTC_ALMn_CTRL (R346). -/
def almCtrl (a : Alarm) : Nat :=
  b2n a.armed + 2 * a.rep + 16 * b2n a.fired + 32 * b2n a.late + 64 * b2n a.invalid + 256 * a.skip

/-- One alarm changed. -/
def onAlm (n : Nat) (f : Alarm → Alarm) (s : State) : State := onRtc (fun r => { r with alarms := modNth r.alarms n f }) s

/-- The period of a repeating alarm in seconds; 0 for one that fires once (R351). -/
def almPeriod (rep : Nat) : Nat :=
  match rep with
  | 1 => 3600 | 2 => 86400 | 3 => 604800 | _ => 0

/-- Malor records an alarm's firings (R351, R356). -/
def almRecord (n : Nat) (s : State) : State :=
  match s.rtc.alarms[n]? with
  | none => s
  | some a => match a.unrecorded with
    | none => s
    | some (late, d, sec) =>
      if s.mgmt.malorRuns && writerRuns s then
        raise 0x0610 20 (n + 256 * b2n late + 65536 * min 255 a.firings) d sec
          (onAlm n (fun a => { a with unrecorded := none, firings := 0 }) s)
      else s

/-- An alarm fires at occurrence `k` of its target (R351, R352): FIRED, LATE, SKIP, the next target, the wake and the
firing held for Malor. -/
def almFire (n k : Nat) (late : Bool) (s : State) : State :=
  match s.rtc.alarms[n]? with
  | none => s
  | some a =>
    let per := almPeriod a.rep
    let hit := rtcSeconds a.target + k * per
    let nxt := hit + per
    let go := per != 0 && nxt < calendarEnd
    let s := onAlm n (fun a => { a with
      fired := true, late := late, skip := min k 255
      armed := go
      target := if go then { ofSeconds nxt with wday := 0 } else a.target
      unrecorded := match a.unrecorded with
        | some u => some u
        | none => some (late, hit / 86400, hit % 86400)
      firings := a.firings + 1 }) s
    almRecord n (latchWake 1 s)

/-- The alarm is evaluated against the reading N of a running RTC: a target at or before it fires late, once
(R352). -/
def almEvaluate (now n : Nat) (s : State) : State :=
  match s.rtc.alarms[n]? with
  | none => s
  | some a =>
    let t := rtcSeconds a.target
    if a.armed && t ≤ now then
      almFire n (if a.rep = 0 then 0 else (now - t) / almPeriod a.rep) true s
    else s

/-- The reading in seconds now. -/
def rtcNow (s : State) : Nat := rtcSeconds s.rtc.time

/-- The RTC reading in 1/32,768 s since 2000-01-01. -/
def rtcReading (t : RtcTime) : Nat := rtcSeconds t * 32768 + t.tick

/-- The part is past POR_N, so that AON runs. -/
def aonRuns (s : State) : Bool := s.power.phase != .porLow

/-- A freeze shadow of the host or of Malor changed (R347). -/
def onShadow (mgmt : Bool) (f : Shadow → Shadow) (s : State) : State :=
  if mgmt then onRtc (fun r => { r with mgmtShadow := f r.mgmtShadow }) s
  else onRtc (fun r => { r with hostShadow := f r.hostShadow }) s

/-- A freeze shadow. -/
def shadow (mgmt : Bool) (s : State) : Shadow := if mgmt then s.rtc.mgmtShadow else s.rtc.hostShadow

/-- Release of the RTC (R349, R352). -/
def rtcRelease (s : State) : State :=
  if !s.rtc.halt then s
  else if !dateOk s.rtc.time then
    raise 0x0612 22 (rtcTime0 s.rtc.time) (rtcTime1 s.rtc.time) 0 (onRtc (fun r => { r with dateInvalid := true }) s)
  else
    let t := s.rtc.time
    let d := dayNumber t
    let change := divRound ((rtcReading t : Int) - (s.rtc.haltReading : Int)) 32768
    let s := onRtc (fun r => { r with
      halt := false, dateInvalid := false, lost := false, ended := false, time := { t with wday := weekday d } }) s
    let s := almEvaluate (rtcSeconds t) 1 (almEvaluate (rtcSeconds t) 0 s)
    raise 0x0611 21 d (daySecond t) (s32sat change) s

/-- A reader or writer of the RTC's registers reaches them: Malor while it works, the host while its ports are served
(R81, R345). -/
def rtcReach (mgmt : Bool) (s : State) : Bool := aonRuns s && (if mgmt then malorWorks s else hostServed s)

/-- A write to RTC_CTRL (R347, R348, R349). -/
def rtcCtrlWrite (value : Nat) (mgmt : Bool) (s : State) : State :=
  if !rtcReach mgmt s then s
  else
    let s := onShadow mgmt (fun h => { h with frozen := false }) s
    if bit value 0 then
      if s.rtc.halt then s else onRtc (fun r => { r with halt := true, haltReading := rtcReading r.time }) s
    else rtcRelease s

/-- RTC_CTRL_WRITE (R349). Malor writes only RTC_TRIM, so its flag only names whose shadow is meant. -/
def execRtcCtrlWrite (value : Nat) (mgmt : Bool) (s : State) : Out := .next (rtcCtrlWrite value mgmt s)

/-- The fields a write to RTC_TIME0 sets. -/
def withTime0 (v : Nat) (t : RtcTime) : RtcTime := { t with tick := bits v 0 15, sec := bits v 16 6, min := bits v 24 6 }

/-- The fields a write to RTC_TIME1 sets; WDAY is ignored. -/
def withTime1 (v : Nat) (t : RtcTime) : RtcTime :=
  { t with hour := bits v 0 5, day := bits v 8 5, month := bits v 16 4, year := bits v 23 9 }

/-- A host write to RTC_TIME0 (`reg` 0) or RTC_TIME1 (R345). -/
def rtcTimeWrite (reg value : Nat) (s : State) : State :=
  if !rtcReach false s then s
  else if rtcRunning s then hostDrop s
  else onRtc (fun r => { r with time := if reg = 0 then withTime0 value r.time else withTime1 value r.time }) s

/-- RTC_TIME_WRITE (R345). -/
def execRtcTimeWrite (reg value : Nat) (s : State) : Out := .next (rtcTimeWrite reg value s)

/-- A host write to an alarm's TIME register (R345). -/
def almTimeWrite (n reg value : Nat) (s : State) : State :=
  match s.rtc.alarms[n]? with
  | none => s
  | some a =>
    if a.armed then hostDrop s
    else onAlm n (fun a => { a with
      target := if reg = 0 then { withTime0 value a.target with tick := 0 } else withTime1 value a.target }) s

/-- The reading a read of RTC_TIME0 or RTC_TIME1 is answered from (R347). -/
def shadowTime (mgmt : Bool) (s : State) : RtcTime :=
  if (shadow mgmt s).frozen then (shadow mgmt s).time else s.rtc.time

/-- A read of RTC_TIME0 freezes the reader's shadow (R347). -/
def rtcFreeze (mgmt : Bool) (s : State) : State :=
  onShadow mgmt (fun h => if h.frozen then h else { frozen := true, time := s.rtc.time }) s

/-- A read of RTC_TIME1 releases it (R347). -/
def rtcUnfreeze (mgmt : Bool) (s : State) : State := onShadow mgmt (fun h => { h with frozen := false }) s

/-- A read of RTC_TIME0 is answered and freezes the reader's shadow (R347). -/
def rtcTime0Read (mgmt : Bool) (s : State) : State :=
  let t := shadowTime mgmt s
  let s := rtcFreeze mgmt s
  if mgmt then s else send (.readAnswer 0x0300 (rtcTime0 t)) s

/-- RTC_TIME0_READ (R347). -/
def execRtcTime0Read (mgmt : Bool) (s : State) : Out := .next (if rtcReach mgmt s then rtcTime0Read mgmt s else s)

/-- A read of RTC_TIME1 returns the shadow and releases it (R347). -/
def rtcTime1Read (mgmt : Bool) (s : State) : State :=
  let t := shadowTime mgmt s
  let s := rtcUnfreeze mgmt s
  if mgmt then s else send (.readAnswer 0x0304 (rtcTime1 t)) s

/-- RTC_TIME1_READ (R347). -/
def execRtcTime1Read (mgmt : Bool) (s : State) : Out := .next (if rtcReach mgmt s then rtcTime1Read mgmt s else s)

/-- RTC_FREEZE_EXPIRY (R347): a freeze that is still held releases itself. -/
def execRtcFreezeExpiry (mgmt : Bool) (s : State) : Out :=
  .next (if (shadow mgmt s).frozen then
    onRtc (fun r => { r with frzExp := true }) (onShadow mgmt (fun h => { h with frozen := false }) s) else s)

/-- A write to an alarm's control register (R346, R350): an arm keeps LATE, another write sets it (log entry 15). -/
def almCtrlWrite (n value : Nat) (s : State) : State :=
  match s.rtc.alarms[n]? with
  | none => s
  | some a =>
    if !rtcReach false s then s
    else
      let s := onAlm n (fun a => { a with rep := bits value 1 2, fired := a.fired && !bit value 4 }) s
      if !bit value 0 then onAlm n (fun a => { a with armed := false, late := bit value 5 }) s
      else if !dateOk a.target then onAlm n (fun a => { a with armed := false, late := bit value 5, invalid := true }) s
      else onAlm n (fun a => { a with armed := true, invalid := false }) s

/-- RTC_ALM_CTRL_WRITE (R350). -/
def execRtcAlmCtrlWrite (n value : Nat) (s : State) : Out := .next (almCtrlWrite n value s)

/-- The alarm is due (R350, R351): armed on a running RTC, and the reading has reached its target second. -/
def almDue (n : Nat) (s : State) : Bool :=
  match s.rtc.alarms[n]? with
  | none => false
  | some a => rtcRunning s && a.armed && rtcSeconds a.target ≤ rtcNow s

/-- An alarm reaches its target second and fires (R351); a target that an arm finds already passed fires late
(R350). -/
def rtcAlarm (n : Nat) (s : State) : State :=
  match s.rtc.alarms[n]? with
  | none => s
  | some a =>
    if almDue n s then
      if rtcSeconds a.target = rtcNow s then almFire n 0 false s else almEvaluate (rtcNow s) n s
    else s

/-- RTC_ALARM (R351). -/
def execRtcAlarm (n : Nat) (s : State) : Out := .next (rtcAlarm n s)

/-- The end of the calendar's range (R344). -/
def rtcEndReached (t : RtcTime) : Bool := t.tick == 32767 && rtcSeconds t + 1 == calendarEnd

/-- The RTC passes the last tick of its range and halts (R344). -/
def rtcEnd (s : State) : State :=
  if rtcRunning s && rtcEndReached s.rtc.time then
    raise 0x0613 22 (rtcTime0 s.rtc.time) (rtcTime1 s.rtc.time) 0
      (onRtc (fun r => { r with halt := true, ended := true, haltReading := rtcReading r.time }) s)
  else s

/-- RTC_END (R344). -/
def execRtcEnd (s : State) : Out := .next (rtcEnd s)

/-- The reading advanced by a number of ticks. -/
def rtcAdd (k : Nat) (t : RtcTime) : RtcTime :=
  let n := t.tick + k
  if n < 32768 then { t with tick := n }
  else { ofSeconds (rtcSeconds t + n / 32768) with tick := n % 32768 }

/-- One crystal edge (R342): TRIM adds or omits single ticks; at the end of the range the RTC halts (R344); an alarm that is due
fires at that tick (R350, R351). -/
def rtcEdge (s : State) : State :=
  if !rtcRunning s then s
  else if rtcEndReached s.rtc.time then rtcEnd s
  else
    let acc := s.rtc.trimAcc + s.rtc.trim
    let k := if 100000000 ≤ acc then 2 else if acc ≤ -100000000 then 0 else 1
    rtcAlarm 1 <| rtcAlarm 0 <| onRtc (fun r => { r with
      time := if rtcEndReached (rtcAdd (k - 1) r.time) ∧ k = 2 then rtcAdd 1 r.time else rtcAdd k r.time
      trimAcc := if k = 2 then acc - 100000000 else if k = 0 then acc + 100000000 else acc }) s

/-- R of R353 in ns, rounded. -/
def rtcNs (t : RtcTime) : Int :=
  (946684800 + (rtcSeconds t : Int)) * 1000000000 + divRound ((t.tick : Int) * 1953125) 64

/-- The error against network time e in ns (R353). -/
def rtcError (s : State) : Int := rtcNs s.rtc.time - ((s.time.ont : Int) - act s 0x0513 * 1000000000)

/-- rf after a capture, in 10^-8 with 24 fraction bits (R353). -/
def trimRate (e : Int) (r : RtcSt) : Option Int :=
  match r.ePrev with
  | none => r.rf
  | some p =>
    let rate := divRound ((e - p) * 2 ^ 24) 640
    match r.rf with
    | none => some rate
    | some f => some (f + divRound (rate - f) 8)

/-- The check and trim of every 64 s (R353, R354). The rate error before a second capture is open. -/
def rtcTrimCheck (s : State) : State :=
  if s.time.valid && s.time.locked && rtcRunning s && malorWorks s then
    let e := rtcError s
    if e.natAbs < 1000000000 then
      let rf := trimRate e s.rtc
      let f := match rf with | some f => f | none => (Config.freeNat s.free : Int)
      let trim := clamp (-30000) 30000 (divRound (-(f * 10240) - e * 2 ^ 24) (2 ^ 24 * 10240))
      onRtc (fun r => { r with rf := rf, ePrev := some e, trim := trim, mismatch := false }) s.drawn
    else if s.rtc.mismatch then s
    else raise 0x0614 23 (s32sat (divRound e 1000000)) 0 0 (onRtc (fun r => { r with mismatch := true }) s)
  else s

/-- RTC_TRIM_CHECK (R353). -/
def execRtcTrimCheck (s : State) : Out := .next (rtcTrimCheck s)

/-- XTAL32_RETURN (R342): the crystal counts again. -/
def execXtal32Return (s : State) : Out := .next { s with power := { s.power with xtal32 := true } }

/-- A W1C write to RTC_STAT (R346). While the crystal is absent XTAL_SLIP is set (R342). -/
def rtcStatWrite (value : Nat) (s : State) : State :=
  onRtc (fun r => { r with xtalSlip := r.xtalSlip && !(bit value 3 && s.power.xtal32), frzExp := r.frzExp && !bit value 4 }) s

/-- At step 8 of a start ONT is set from a usable RTC (R315). -/
def startOnt (s : State) : State :=
  if rtcRunning s && !s.rtc.dateInvalid && dateOk s.rtc.time then
    let new := rtcNs s.rtc.time + act s 0x0513 * 1000000000
    onTime (fun t => { t with valid := true }) (stepOnt new.toNat s)
  else s

/-- A register of the RTC by its offset in BAR0, read live (R345, R347). -/
def rtcReg (s : State) (o : Nat) : Nat :=
  match o with
  | 0x0300 => rtcTime0 s.rtc.time
  | 0x0304 => rtcTime1 s.rtc.time
  | 0x0308 => b2n s.rtc.halt
  | 0x030C => rtcStat s
  | 0x0310 => toBits 16 s.rtc.trim
  | 0x0320 => rtcTime0 (nth {} s.rtc.alarms 0).target
  | 0x0324 => rtcTime1 (nth {} s.rtc.alarms 0).target
  | 0x0328 => almCtrl (nth {} s.rtc.alarms 0)
  | 0x0330 => rtcTime0 (nth {} s.rtc.alarms 1).target
  | 0x0334 => rtcTime1 (nth {} s.rtc.alarms 1).target
  | 0x0338 => almCtrl (nth {} s.rtc.alarms 1)
  | _ => 0

/-- A MGMT reset keeps TRIM and discards rf (R353); Malor's freeze shadow belongs to the reset core. -/
def rtcMgmtReset (r : RtcSt) : RtcSt := { r with rf := none, ePrev := none, mgmtShadow := {} }

end Sys2Proof.Machine
end

