-- ==== Sys2Proof/Machine/Host.lean ====
section
/-! DEFINITION. The host interface: BAR0, events and interrupts, and the parameter commands (R122 to R147). -/

namespace Sys2Proof.Machine

/-- The host interface's state changed. -/
def onHost (f : HostSt → HostSt) (s : State) : State := { s with host := f s.host }

/-- A reason code: the subsystem's high byte and a low byte (R141). -/
def rc (sub low : Nat) : Nat := sub * 256 + low

/-- The 32 bits of EVT_STATUSi or EVT_MASKi placed in the 128. -/
def evtWord (i value : Nat) : BitVec 128 := BitVec.ofNat 128 (value % 2 ^ 32) <<< (32 * i)

/-- A W1C write to EVT_STATUSi; messages follow for the vectors still pending (R130, R131). -/
def evtStatusWrite (i value : Nat) (h : HostSt) : HostSt :=
  msixAgain { h with evtStatus := h.evtStatus &&& ~~~(evtWord i value) }

/-- A write to EVT_MASKi (R130, R131). -/
def evtMaskWrite (i value : Nat) (h : HostSt) : HostSt :=
  msixAgain { h with evtMask := (h.evtMask &&& ~~~(evtWord i (2 ^ 32 - 1))) ||| evtWord i value }

/-- EVT_STATUS_WRITE (R131). -/
def execEvtStatusWrite (i value : Nat) (s : State) : Out :=
  .next (if hostServed s && i < 4 then onHost (evtStatusWrite i value) s else s)

/-- EVT_MASK_WRITE (R131). -/
def execEvtMaskWrite (i value : Nat) (s : State) : Out :=
  .next (if hostServed s && i < 4 then onHost (evtMaskWrite i value) s else s)

/-- A write in configuration space (R122): the bits of a BAR within its window stay 0; AER status bits are cleared by 1. MSI-X
enable and masks: held messages go out (R131). -/
def pcieConfig (r : CfgReg) (v : Nat) (h : HostSt) : HostSt :=
  match r with
  | .command => { h with pcie := { h.pcie with command := v % 2 ^ 16 } }
  | .bar0 => { h with pcie := { h.pcie with bar0 := v % 2 ^ 32 / 2 ^ 16 * 2 ^ 16 } }
  | .bar2 => { h with pcie := { h.pcie with bar2 := v % 2 ^ 64 / 2 ^ 25 * 2 ^ 25 } }
  | .power => { h with pcie := { h.pcie with d3hot := v % 4 == 3 } }
  | .aerUncorr => { h with pcie := { h.pcie with aerUncorr := h.pcie.aerUncorr &&& (2 ^ 32 - 1 - v % 2 ^ 32) } }
  | .aerCorr => { h with pcie := { h.pcie with aerCorr := h.pcie.aerCorr &&& (2 ^ 32 - 1 - v % 2 ^ 32) } }
  | .msix => msixRelease { h with msixEn := bit v 15, msixFuncMask := bit v 14 }
  | .vecMask => msixRelease { h with msixVecMask := BitVec.ofNat 16 v }

/-- What a byte that a configuration write does not enable leaves as it was (PRESUMED: PCI Express; log 39); bits cleared by 1
count as 0. -/
def cfgImage (r : CfgReg) (h : HostSt) : Nat :=
  match r with
  | .command => h.pcie.command
  | .bar0 => h.pcie.bar0
  | .bar2 => h.pcie.bar2
  | .power => if h.pcie.d3hot then 3 else 0
  | .aerUncorr | .aerCorr => 0
  | .msix => 0x8000 * b2n h.msixEn + 0x4000 * b2n h.msixFuncMask
  | .vecMask => h.msixVecMask.toNat

/-- The low `n` bytes of `v` where enabled, of `old` elsewhere. -/
def mergeBytes : Nat → Nat → Nat → Nat → Nat
  | 0, _, _, _ => 0
  | n + 1, en, v, old => (if en % 2 = 1 then v % 256 else old % 256) + 256 * mergeBytes n (en / 2) (v / 256) (old / 256)

/-- PCIE_CONFIG_WRITE (R131): `enables` has one bit for each byte of the register. -/
def execPcieConfigWrite (r : CfgReg) (value enables : Nat) (s : State) : Out :=
  .next (if hostServed s && s.host.linkUp then onHost (fun h => pcieConfig r (mergeBytes 8 enables value (cfgImage r h)) h) s
    else s)

/-- A write to a word of the MSI-X table: address low and high, data, and the vector control with its mask bit (R122). -/
def msixTblWrite (o v : Nat) (h : HostSt) : HostSt :=
  let k := o / 16
  if o % 16 = 12 then
    msixRelease { h with msixVecMask := (h.msixVecMask &&& ~~~(1#16 <<< k)) ||| (BitVec.ofNat 16 (v % 2) <<< k) }
  else { h with msixTbl := h.msixTbl.set (3 * k + o % 16 / 4) (if o % 16 = 0 then v / 4 * 4 else v) }

/-- A word of the MSI-X structures at BAR0 0x4000 (R122). -/
def msixRead (h : HostSt) (o : Nat) : Nat :=
  if 0x4000 ≤ o ∧ o < 0x4100 then
    if o % 16 = 12 then b2n (h.msixVecMask.getLsbD ((o - 0x4000) / 16)) else nth 0 h.msixTbl (3 * ((o - 0x4000) / 16) + o % 16 / 4)
  else if o = 0x4800 then h.pba.toNat
  else 0

/-- Loss of the link resets the PCI Express core, configuration space and MSI-X table; BAR0 is kept (R125). -/
def pcieCoreReset (h : HostSt) : HostSt :=
  { h with linkUp := false, msixEn := false, msixFuncMask := false, msixVecMask := BitVec.allOnes 16, pba := 0,
           msixTbl := List.replicate 48 0, pcie := {} }

/-- A link that was up goes down and the event is recorded (R125). -/
def linkDown (s : State) : State := if s.host.linkUp then raise 0x0213 0xFF 0 0 0 (onHost pcieCoreReset s) else s

/-- PCIE_LINK_DOWN (R125). -/
def execPcieLinkDown (s : State) : Out := .next (linkDown s)

/-- PCIE_LINK_TRAINED (R81). -/
def execPcieLinkTrained (s : State) : Out :=
  .next (if hostServed s then onHost (fun h => { h with linkUp := true }) s else s)

/-- SPI_STAT of a status frame (R126). -/
def spiStat (h : HostSt) : Nat := b2n h.spiFrameErr + 2 * b2n (h.done != 0) + 4 * b2n (evtVecPend h != 0)

/-- DB_RING: each named mailbox goes to the part and its done bit clears; a ring of an owned one is counted (R133). -/
def dbRing (value : Nat) (s : State) : State :=
  (upTo 8).foldl (fun s m =>
    if !bit value m then s
    else if s.host.owner.getLsbD m then ringIgnored s
    else onHost (ringOne m) s) s

/-- A doorbell write is a wake source (R74, R81). -/
def doorbell (s : State) : State := latchWake 11 s

/-- The enabled bytes of a write laid over bytes. -/
def layBytes (b : Bytes) (off : Nat) : List (Option Byte) → Bytes
  | [] => b
  | none :: l => layBytes b (off + 1) l
  | some x :: l => layBytes (overwrite b off [x]) (off + 1) l

/-- A write into a mailbox area, of any size and byte-enable pattern: kept while the host owns the mailbox, else discarded
(R124, R133). -/
def mboxWrite (offset : Nat) (data : List (Option Byte)) (s : State) : State :=
  let m := (offset - 0x1000) / 0x400
  if s.host.owner.getLsbD m then hostDrop s
  else onHost (fun h => { h with mbox := modNth h.mbox m (fun b => layBytes b (offset % 0x400) data) }) s

/-- The RO offsets of BAR0 (R39, R128, R336). -/
def bar0ReadOnly (o : Nat) : Bool :=
  o < 0x100 || o == 0x104 || o == 0x110 || o == 0x114 || o == 0x220 || o == 0x310 ||
    (0x404 ≤ o && o < 0x418) || (0x500 ≤ o && o < 0x600)

/-- A host write of 32 bits at an aligned BAR0 offset (R39, R124, R128, R336, R345). -/
def bar0Write (o value : Nat) (s : State) : State :=
  if bar0ReadOnly o then hostDrop s
  else if o = 0x100 then doorbell (dbRing value s)
  else if o = 0x108 then onHost (fun h => { h with done := h.done &&& ~~~(BitVec.ofNat 8 value) }) s
  else if o = 0x10C then doorbell s
  else if 0x200 ≤ o ∧ o < 0x210 then onHost (evtStatusWrite ((o - 0x200) / 4) value) s
  else if 0x210 ≤ o ∧ o < 0x220 then onHost (evtMaskWrite ((o - 0x210) / 4) value) s
  else if o = 0x224 then onHost (fun h => { h with pinSel := BitVec.ofNat 16 value }) s
  else if o = 0x228 then onHost (fun h => { h with pinsEn := bit value 0 }) s
  else if o = 0x300 ∨ o = 0x304 then rtcTimeWrite ((o - 0x300) / 4) value s
  else if o = 0x308 then rtcCtrlWrite value false s
  else if o = 0x30C then rtcStatWrite value s
  else if 0x320 ≤ o ∧ o < 0x340 then
    let n := (o - 0x320) / 16
    match o % 16 with
    | 0 => almTimeWrite n 0 value s
    | 4 => almTimeWrite n 1 value s
    | 8 => almCtrlWrite n value s
    | _ => s
  else if o = 0x400 then (if plantRuns s then onTime ontSnap s else s)
  else if 0x4000 ≤ o ∧ o < 0x4100 then onHost (msixTblWrite (o - 0x4000) value) s
  else s

/-- A register or a read-only range of BAR0 lies at an aligned offset; the rest of BAR0 is reserved (R10, R38, R128). -/
def bar0Mapped (o : Nat) : Bool :=
  bar0ReadOnly o || [0x100, 0x108, 0x10C, 0x224, 0x228, 0x300, 0x304, 0x308, 0x30C, 0x400].contains o ||
    (0x200 ≤ o && o < 0x220) || (0x320 ≤ o && o < 0x340 && o % 16 != 12) || (0x4000 ≤ o && o < 0x4100)

/-- A host write within one aligned word of BAR0, its bytes from byte `at` of the word, those not enabled none: a mailbox takes
any pattern, a register only the whole word; a narrower write to a register is discarded and counted (R124), one to a
reserved offset is ignored (R10). -/
def wordWrite (o at_ : Nat) (data : List (Option Byte)) (s : State) : State :=
  if data.all Option.isNone then s
  else if 0x1000 ≤ o ∧ o < 0x3000 then mboxWrite (o + at_) data s
  else if at_ = 0 ∧ data.length = 4 ∧ data.all Option.isSome = true then bar0Write o (leNat (data.filterMap id)) s
  else if bar0Mapped o then hostDrop s else s

/-- A host write of any size is carried out word by word, lowest offset first (R124). -/
def barWrites (bar2 : Bool) : Nat → Nat → List (Option Byte) → State → State
  | 0, _, _, s => s
  | n + 1, off, data, s =>
    if data.isEmpty then s
    else
      let k := 4 - off % 4
      let s := if bar2 then hostDrop s else wordWrite (off / 4 * 4) (off % 4) (data.take k) s
      barWrites bar2 n (off + k) (data.drop k) s

/-- A host write (R9, R39, R124): to BAR2 it is discarded and counted. -/
def registerWrite (bar2 : Bool) (offset : Nat) (data : List (Option Byte)) (s : State) : State :=
  if hostServed s then barWrites bar2 (data.length + 1) offset data s else s

/-- The bytes of a write that are enabled; those past the list of enables are. -/
def enabledBytes : Bytes → List Bool → List (Option Byte)
  | [], _ => []
  | b :: d, [] => some b :: enabledBytes d []
  | b :: d, e :: es => (if e then some b else none) :: enabledBytes d es

/-- REGISTER_WRITE (R9). -/
def execRegisterWrite (bar2 : Bool) (offset : Nat) (data : Bytes) (enables : List Bool) (s : State) : Out :=
  .next (registerWrite bar2 offset (enabledBytes data enables) s)

/-- ID_VARIANT (R128). -/
def idVariant (s : State) : Nat := bits (otpWord s 1) 0 4 + bits (otpWord s 1) 8 8 * 256

/-- ID_STATUS (R128). -/
def idStatus (s : State) : Nat :=
  b2n s.host.ready + 2 * b2n s.host.minimal + 4 * b2n s.host.sessionRequired + 256 * s.mgmt.stage

/-- Word `i` of a 128-bit event register. -/
def evtRead (v : BitVec 128) (i : Nat) : Nat := (v >>> (32 * i)).toNat % 2 ^ 32

/-- A BAR0 read without side effects: the 32-bit word at an aligned offset (R123, R128, R336, R345). What a mailbox that the
part owns reads as is open (R133). -/
def bar0Read (s : State) (o : Nat) : Nat :=
  match o with
  | 0x0000 => Config.vendorId % 2 ^ 16 + (if big s then 0x7424 else 0x7421) * 2 ^ 16
  | 0x0004 => 0x7420
  | 0x0008 => idVariant s
  | 0x000C => lifecycle s
  | 0x0010 => otpWord s 2
  | 0x0014 => otpWord s 3
  | 0x0018 => s.host.hostif
  | 0x001C => idStatus s
  | 0x0020 => s.host.malorVer % 2 ^ 32
  | 0x0024 => s.host.malorVer / 2 ^ 32
  | 0x0028 => s.host.modelSig % 2 ^ 32
  | 0x002C => s.host.modelSig / 2 ^ 32
  | 0x0030 => 0x00080400
  | 0x0104 => s.host.owner.toNat
  | 0x0108 => s.host.done.toNat
  | 0x0110 => s.host.dropCnt
  | 0x0114 => s.host.ignoredCnt
  | 0x0200 => evtRead s.host.evtStatus 0
  | 0x0204 => evtRead s.host.evtStatus 1
  | 0x0208 => evtRead s.host.evtStatus 2
  | 0x020C => evtRead s.host.evtStatus 3
  | 0x0210 => evtRead s.host.evtMask 0
  | 0x0214 => evtRead s.host.evtMask 1
  | 0x0218 => evtRead s.host.evtMask 2
  | 0x021C => evtRead s.host.evtMask 3
  | 0x0220 => evtVecPend s.host
  | 0x0224 => s.host.pinSel.toNat
  | 0x0228 => b2n s.host.pinsEn
  | 0x0300 => rtcTime0 (shadowTime false s)
  | 0x0304 => rtcTime1 (shadowTime false s)
  | 0x0404 => s.time.snapSeq
  | 0x0408 => s.time.snapOnt % 2 ^ 32
  | 0x040C => s.time.snapOnt / 2 ^ 32
  | 0x0410 => s.time.snapFrac
  | 0x0414 => s.time.snapStat
  | 0x0500 => s.host.resEst
  | 0x0504 => s.host.resDsp
  | 0x0508 => s.host.resDiagEst
  | 0x050C => s.host.resDiagDsp
  | _ =>
    if 0x0308 ≤ o ∧ o < 0x0400 then rtcReg s o
    else if 0x1000 ≤ o ∧ o < 0x3000 then
      if s.host.owner.getLsbD ((o - 0x1000) / 0x400) then Config.openWord s.free o % 2 ^ 32
      else byteField (nth [] s.host.mbox ((o - 0x1000) / 0x400)) (o % 0x400) 4
    else msixRead s.host o

/-- A word of the type 0 header of configuration space (R122; the places are those of PCI Express, PRESUMED, log 39): Revision,
Class code, the BARs with their type bits, Subsystem IDs, and Interrupt Pin 0. -/
def cfgRead (s : State) (o : Nat) : Nat :=
  match o with
  | 0x00 => bar0Read s 0
  | 0x04 => s.host.pcie.command
  | 0x08 => bits (idVariant s) 8 4 * 16 + bits (idVariant s) 12 4 + 0x118000 * 256
  | 0x10 => s.host.pcie.bar0
  | 0x18 => s.host.pcie.bar2 % 2 ^ 32 + 12
  | 0x1C => s.host.pcie.bar2 / 2 ^ 32
  | 0x2C => bar0Read s 0
  | _ => 0

/-- UNKNOWN_COMMAND (R139): a command whose code the running command set does not know is refused. -/
def execUnknownCommand (cmd : Nat) (m : Mail) (s : State) : Out :=
  .next (if knownCmds.contains cmd then s else mailStep cmd m (fun s => refuse s 0x020B) s)

/-- A unit number that stands for every unit of the owner. -/
def anyUnit : Nat := 0xFFFF

/-- The unit a parameter belongs to is enabled or STOPPING (R144). -/
def infoActive (s : State) (i : PInfo) : Bool :=
  if i.unit = anyUnit then subActive s i.owner else unitActive s i.owner i.unit

/-- An enable of the parameter's unit is pending (R151). -/
def infoPending (s : State) (i : PInfo) : Bool :=
  if i.unit = anyUnit then (unitsOf s.host.units i.owner).any (fun u => u.pend.isSome)
  else (unitSt s i.owner i.unit).pend.isSome

/-- The parameter is a table. -/
def isTable (i : PInfo) : Bool := match i.kind with | .table _ _ => true | .int _ _ => false

/-- An ID is looked up for a command that handles tables or values; otherwise the reason for which it is refused
(R4, R142, R145). -/
def paramLookup (s : State) (table : Option Bool) (id : Nat) : Except Nat PInfo :=
  match pRegion id with
  | none => .error 0x0209
  | some owner =>
    match pInfo id with
    | none => .error (rc owner 0x09)
    | some i =>
      if i.unit ≠ anyUnit ∧ (unitCount s i.owner).1 ≤ i.unit ∧ i.unit < (unitCount s i.owner).2 then .error (rc i.owner 0x08)
      else if table = some (isTable i) ∨ table = none then .ok i
      else .error (rc i.owner 0x09)

/-- The reason for which a parameter may not be written now, if any (R144, R151). -/
def paramLocked (s : State) (i : PInfo) : Option Nat :=
  if infoPending s i then some (rc i.owner 0x02)
  else if !i.live && infoActive s i then some (rc i.owner 0x06)
  else none

/-- T_DROVE in whole milliseconds, rounded up, at another number of sub-steps (R271, R276). -/
def tDroveMs (s : State) (sub : Int) : Int :=
  if s.est.tdrove = 0 then 0 else (sub * s.est.tSub + 2999) / 1000

/-- The range of a parameter where it depends on others, under the values `view` (R144, R146, R276). -/
def pRange (s : State) (view : Nat → Int) (id : Nat) (i : PInfo) : Int × Int :=
  match id with
  | 0x0102 => (i.lo, view 0x0101 - 10)
  | 0x0721 => (tDroveMs s (view 0x0727) + 5, view 0x0720)
  | _ => (i.lo, i.hi)

/-- The value of an 8-byte field where its upper bytes match the extension of the type (R145). -/
def paramValue (i : PInfo) (b : Bytes) : Option Int :=
  match i.kind with
  | .int w true => let v := byteFieldS b 0 8; if satS w v = v then some v else none
  | .int w false => let v := byteField b 0 8; if v < 2 ^ w then some v else none
  | .table _ _ => none

/-- A value is a power of two. -/
def isPow2 (v : Nat) : Bool := v != 0 && 2 ^ Nat.log2 v == v

/-- The gaps within ranges: DSP_RHO_ADAPT (R310); CAN_OBJ_ID (R492); PLS_METER (R470); MOT_USTEPS and MOT_INTERP (R398). -/
def paramGap (id : Nat) (v : Int) : Bool :=
  if id = 0x090D then v == 0 || decide (384 ≤ v)
  else if id = 0x1300 then v.toNat % 8 == 0
  else if 0x4C00 ≤ id ∧ id < 0x5C00 ∧ id % 8 = 1 then !bit v.toNat 29
  else if 0x4600 ≤ id ∧ id < 0x4680 ∧ id % 16 = 0 then decide (v ≤ 5) || v == 255
  else if 0x3000 ≤ id ∧ id < 0x3800 ∧ (id % 0x80 = 0x02 ∨ id % 0x80 = 0x0B) then isPow2 v.toNat
  else true

/-- A value may be written: its range, for pads the reserved bits (R143, R144), and the gaps of some ranges. A pad
parameter of groups 1 to 3 may name a FILTER; the register's field stays 0 (R60). -/
def paramInRange (s : State) (view : Nat → Int) (id : Nat) (i : PInfo) (v : Int) : Bool :=
  let (lo, hi) := pRange s view id i
  lo ≤ v && v ≤ hi && (!(0x1400 ≤ id && id < 0x1414) || !bit v.toNat 7) &&
    paramGap id v

/-- The entries of a PARAM_WRITE: ID and value field. -/
def writeEntries (p : Bytes) (n : Nat) : List (Nat × Bytes) :=
  (upTo n).map (fun k => (byteField p (4 + 12 * k) 2, (p.drop (8 + 12 * k)).take 8))

/-- The value a command would leave in a parameter. -/
def viewAfter (s : State) (es : List (Nat × Bytes)) (id : Nat) : Int :=
  es.foldl (fun v e => if e.1 = id then
    (match pInfo id with
     | some i => (paramValue i e.2).getD v
     | none => v) else v) (par s id)

/-- The meters a pulse parameter's write is checked against are all disabled and not STOPPING (R470): the one its
output names before the command and the one it names after. -/
def pulseFree (s : State) (view : Nat → Int) (id : Nat) : Bool :=
  let b := id / 16 * 16
  [par s b, view b].all (fun m => m == 255 || !unitActive s 14 m.toNat)

/-- The first failing entry of a PARAM_WRITE: reason and ID (R146). -/
def writeFail (s : State) (view : Nat → Int) : List (Nat × Bytes) → CheckFail
  | [] => none
  | (id, b) :: l =>
    match paramLookup s (some false) id with
    | .error r => some (r, id)
    | .ok i => match paramLocked s i with
      | some r => some (r, id)
      | none => if i.unit = pulseUnit ∧ pulseFree s view id = false then some (0x0E06, id) else match paramValue i b with
        | none => some (rc i.owner 0x05, id)
        | some v => if paramInRange s view id i v then writeFail s view l else some (rc i.owner 0x05, id)

/-- What a written parameter does at once beyond its value: pad registers (R143) and SESSION_REQUIRED (R138). -/
def paramEffect (id : Nat) (s : State) : State :=
  if 0x1400 ≤ id ∧ id < 0x1414 then
    let o := padOwner (id - 0x1400)
    if o = 1 ∨ o = 2 ∨ o = 5 ∨ subActive s o then padLoad (id - 0x1400) s else s
  else if id = 0x0727 ∧ s.est.tdrove ≠ 0 then
    { s with est := { s.est with tdrove := parN s 0x0727 * s.est.tSub + 2000 } }
  else if id = 0x0200 then onHost (fun h => { h with sessionRequired := lifecycle s == 2 && par s 0x0200 == 1 }) s
  else s

/-- One entry is written (R146): a block that runs commits it at its next period boundary (R30). -/
def writeOne (s : State) (e : Nat × Bytes) : State :=
  match pInfo e.1 with
  | none => s
  | some i => match paramValue i e.2 with
    | none => s
    | some v => paramEffect e.1 (parWrite (!(pShadowed i && infoActive s i)) e.1 v s)

/-- The effect of PARAM_WRITE (R145, R146). -/
def paramWrite (p : Bytes) (s : State) : Answer :=
  let n := byteField p 0 2
  if p.length < 4 ∨ byteField p 2 2 ≠ 0 then refuse s 0x020A
  else if n = 0 ∨ 80 < n then refuse s 0x0205
  else if p.length ≠ 4 + 12 * n ∨ (upTo n).any (fun k => byteField p (6 + 12 * k) 2 != 0) then refuse s 0x020A
  else
    let es := writeEntries p n
    match writeFail s (viewAfter s es) es with
    | some (r, id) => refuse s r id
    | none => done (es.foldl writeOne s) []

/-- PARAM_WRITE (0x0211). -/
def execParamWrite (m : Mail) (s : State) : Out := mailOut 0x0211 m (paramWrite m.payload) s

/-- One entry of a PARAM_READ response (R145). -/
def readEntry (s : State) (id : Nat) (i : PInfo) : Bytes :=
  let same := if isTable i then padTo (pSize id) (tab s id) == padTo (pSize id) (tableDefault id) else par s id == i.dflt
  leBytes 2 id ++ leBytes 2 (b2n i.live + 2 * b2n (isTable i) + 4 * b2n same) ++
    (if isTable i then padTo 8 (tab s id) else leIntBytes 8 (par s id))

/-- The entries of a PARAM_READ, or the first refusal. -/
def readEntries (s : State) : List Nat → Except (Nat × Nat) Bytes
  | [] => .ok []
  | id :: l =>
    match paramLookup s none id with
    | .error r => .error (r, id)
    | .ok i => match readEntries s l with
      | .error e => .error e
      | .ok b => .ok (readEntry s id i ++ b)

/-- The effect of PARAM_READ (R145). -/
def paramRead (p : Bytes) (s : State) : Answer :=
  let n := byteField p 0 2
  if p.length < 4 ∨ byteField p 2 2 ≠ 0 then refuse s 0x020A
  else if n = 0 ∨ 80 < n then refuse s 0x0205
  else if p.length ≠ 4 + 2 * n then refuse s 0x020A
  else match readEntries s ((upTo n).map (fun k => byteField p (4 + 2 * k) 2)) with
    | .error (r, id) => refuse s r id
    | .ok b => done s b

/-- PARAM_READ (0x0210). -/
def execParamRead (m : Mail) (s : State) : Out := mailOut 0x0210 m (paramRead m.payload) s

/-- The effect of PARAM_TABLE_READ (R145). -/
def paramTableRead (p : Bytes) (s : State) : Answer :=
  let id := byteField p 0 2
  let off := byteField p 4 4
  let n := byteField p 8 4
  if p.length ≠ 12 ∨ byteField p 2 2 ≠ 0 ∨ n = 0 ∨ 960 < n then refuse s 0x020A
  else match paramLookup s (some true) id with
    | .error r => refuse s r id
    | .ok i =>
      if pSize id < off + n then refuse s (rc i.owner 0x05) id
      else done s (padTo n ((tab s id).drop off))

/-- PARAM_TABLE_READ (0x0212). -/
def execParamTableRead (m : Mail) (s : State) : Out := mailOut 0x0212 m (paramTableRead m.payload) s

/-- The effect of PARAM_TABLE_WRITE (R145). -/
def paramTableWrite (p : Bytes) (s : State) : Answer :=
  let id := byteField p 0 2
  let off := byteField p 4 4
  let n := byteField p 8 4
  if p.length < 12 ∨ byteField p 2 2 ≠ 0 ∨ n = 0 ∨ 960 < n ∨ p.length ≠ 12 + n then refuse s 0x020A
  else match paramLookup s (some true) id with
    | .error r => refuse s r id
    | .ok i =>
      if pSize id < off + n then refuse s (rc i.owner 0x05) id
      else match paramLocked s i with
        | some r => refuse s r id
        | none => 
            done (tabWrite (!(pShadowed i && infoActive s i)) id (overwrite (tab s id) off (p.drop 12)) s) []

/-- PARAM_TABLE_WRITE (0x0213). -/
def execParamTableWrite (m : Mail) (s : State) : Out := mailOut 0x0213 m (paramTableWrite m.payload) s

/-- The values PARAM_INFO returns: type (width, sign, integer and fraction bits of a named format, or element and count),
unit code, the range as it stands now, default, LIVE, owner, unit (R144, R145). -/
def infoValues (s : State) (id : Nat) (i : PInfo) : List Int :=
  let (lo, hi) := pRange s (par s) id i
  (match i.kind with
   | .int w sg => [(0 : Int), w, b2n sg] ++ (match pFormat id with | some (m, n) => [(m : Int), (n : Int)] | none => ([] : List Int))
   | .table e c => [1, e, c]) ++ [(Config.unitCode (pUnitName id) : Int), lo, hi, i.dflt, b2n i.live, i.owner, i.unit]

/-- The effect of PARAM_INFO (R145). -/
def paramInfo (p : Bytes) (s : State) : Answer :=
  if p.length ≠ 2 then refuse s 0x020A
  else match paramLookup s none (byteField p 0 2) with
    | .error r => refuse s r (byteField p 0 2)
    | .ok i => done s (Config.layout 0x0214 (byteField p 0 2 :: infoValues s (byteField p 0 2) i))

/-- PARAM_INFO (0x0214). -/
def execParamInfo (m : Mail) (s : State) : Out := mailOut 0x0214 m (paramInfo m.payload) s

end Sys2Proof.Machine
end

