-- ==== Sys2Proof/Machine/Sec.lean ====
section
/-! DEFINITION. The security engine: root, key store, sessions, imported secrets, OTP, lifecycle, enrolment and
attestation (R152 to R181). -/

namespace Sys2Proof.Machine

/-- The security engine's state changed. -/
def onSec (f : SecSt → SecSt) (s : State) : State := { s with sec := f s.sec }

/-- The bytes of an ASCII text without a terminator. -/
def ascii (t : String) : Bytes := t.toList.map (fun c => BitVec.ofNat 8 c.toNat)

/-- The root of a message (R152). -/
def rootOf (s : State) (m : Bytes) : Bytes := (Config.sha384 (ascii "DN-ROOT" ++ uidBytes s ++ m)).take 32

/-- The VERIFIER of a root (R153). -/
def verifierOf (root : Bytes) : Bytes := (Config.hmac384 root (ascii "DN-PUFCHK")).take 32

/-- A key-store slot changed. -/
def setSlot (n : Nat) (k : KeySlot) (s : State) : State := onSec (fun c => { c with slots := c.slots.set n k }) s

/-- The 96 bytes of a public key in OTP: key 0 model, 1 Aplar, 2 operator, position 0 A or 1 B (R169, R170). -/
def otpKey (s : State) (key pos : Nat) : Bytes :=
  (upTo 24).flatMap (fun i => leBytes 4 (otpWord s (12 + 24 * (2 * key + pos) + i)))

/-- The KEY_REVOKE bit of a key (R169). -/
def revokeBit (key pos : Nat) : Nat := 4 * (key + 1) + pos

/-- A key of OTP is present and not revoked. -/
def otpKeyLive (s : State) (key pos : Nat) : Bool :=
  !allZero (otpKey s key pos) && !bit (otpWord s 10) (revokeBit key pos)

/-- The slot of an OTP key as the key store loads it (R160). -/
def otpSlot (s : State) (key pos : Nat) : KeySlot :=
  if otpKeyLive s key pos then { type := 4, bind := if key = 2 then 4 else 16, source := 2, key := otpKey s key pos } else {}

/-- An Ouvaux Malor key's slot (R160). -/
def ouvauxSlot (s : State) (pos : Nat) : KeySlot :=
  if bit (otpWord s 10) pos then {} else { type := 4, bind := 16, source := 1, key := Config.ouvauxKey (pos == 1) }

/-- KDF of R157: HMAC-SHA-384 in counter mode; `n` is L in bits, a whole number of bytes. -/
def kdf (key label context : Bytes) (n : Nat) : Bytes :=
  ((upTo ((n + 383) / 384)).flatMap (fun i =>
    padTo 48 (Config.hmac384 key (leBytes 4 (i + 1) ++ label ++ [0] ++ context ++ leBytes 4 n)))).take (n / 8)

/-- The order of the group of P-384 (R157; PRESUMED, the standard of the curve, log 5). -/
def p384Order : Nat :=
  0xFFFFFFFFFFFFFFFFFFFFFFFFFFFFFFFFFFFFFFFFFFFFFFFFC7634D81F4372DDF581A0DB248B0A77AECEC196ACCC52973

/-- The DIK scalar (R157): d = (c mod (n - 1)) + 1, c the output of the KDF read as a little-endian integer. -/
def dikScalar (c : Bytes) : Bytes := leBytes 48 (leNat c % (p384Order - 1) + 1)

/-- The public keys of the key store, slots 2 to 9 (R160). -/
def publicSlots (s : State) : List KeySlot :=
  [ouvauxSlot s 0, ouvauxSlot s 1, otpSlot s 0 0, otpSlot s 0 1, otpSlot s 1 0, otpSlot s 1 1, otpSlot s 2 0, otpSlot s 2 1]

/-- The key store as regeneration loads it (R154 step 4, R157, R160). -/
def loadedSlots (s : State) (root : Bytes) : List KeySlot :=
  [{ type := 3, bind := 8, source := 0, key := dikScalar (kdf root (ascii "DN-DIK") (uidBytes s) 448) },
   { type := 2, bind := 32, source := 0, key := kdf root (ascii "DN-LOG") (uidBytes s) 384 }] ++ publicSlots s ++
    List.replicate 54 ({} : KeySlot)

/-- The key store without a root: no derived key. The public keys stand in slots 2 to 9, since slot 2 is empty only when its
key is revoked and updates stay possible outside FIELD (R155, R160; DEDUCED, log 10). -/
def rootlessSlots (s : State) : List KeySlot := [({} : KeySlot), ({} : KeySlot)] ++ publicSlots s ++ List.replicate 54 ({} : KeySlot)

/-- A helper copy passes its MAGIC, UID and CRC checks (R154, R174). -/
def helperPasses (s : State) (h : Bytes) : Bool :=
  h.length == 2048 && byteField h 0 4 == 0xD7429F1D && (h.drop 8).take 8 == uidBytes s &&
    byteField h 0x7FC 4 == crc32cNat (h.take 0x7FC)

/-- The bytes of a helper copy (R153). -/
def helperBytes (s : State) (offset verifier : Bytes) : Bytes :=
  let b := leBytes 4 0xD7429F1D ++ leBytes 2 1 ++ leBytes 2 8 ++ uidBytes s ++ padTo 32 verifier ++ padTo 1275 offset ++ zeros 721
  b ++ leBytes 4 (crc32cNat b)

/-- Bitwise exclusive or of two byte lists. -/
def xorBytes (a b : Bytes) : Bytes := (a.zip b).map (fun p => p.1 ^^^ p.2)

/-- Reconstruction from one copy of the helper data: the root if the copy passes (R152, R154 steps 2 and 3). -/
def tryCopy (s : State) (arr h : Bytes) : Option Bytes :=
  if helperPasses s h then
    match pufDecode (xorBytes (arr.take 1275) ((h.drop 0x30).take 1275)) with
    | some m => if verifierOf (rootOf s m) = (h.drop 0x10).take 32 then some (rootOf s m) else none
    | none => none
  else none

/-- Regeneration (R154, R155). The array reading is open; the DRBG starts anew with SEC's power, the rest of the array its
additional input (R152). Copy 1 is looked at where copy 0 fails, and to know whether both are good. -/
def regenerate (s : State) : State :=
  let arr := padTo 8192 (Config.pufArray s.free)
  let s := onSec (fun c => { c with addInput := arr.drop 1275, drbgOk := true }) s.drawn
  let a := tryCopy s arr s.sec.helper0
  let b := tryCopy s arr s.sec.helper1
  match a.or b with
  | some r => onSec (fun c => { c with
      rootOk := true, copyUsed := a.isNone, repaired := a.isNone || b.isNone, root := r
      storage := kdf r (ascii "DN-STORE") (uidBytes s) 256, slots := loadedSlots s r }) s
  | none => onSec (fun c => { c with rootOk := false, slots := rootlessSlots s }) s

/-- SEC loses its power or its reset: its registers clear, its keys and sessions are gone (R164, R179). -/
def secReset (c : SecSt) : SecSt :=
  { c with
    rootOk := false, copyUsed := false, repaired := false, drbgOk := false, root := [], storage := [], bindViol := 0
    drbgFail := 0, epochs := [0, 0, 0, 0], cmd := 0, cmdStat := 0, slots := List.replicate 64 {}
    sessions := [none, none, none, none], cacheValid := [false, false], addInput := [] }

/-- SEC_CMD and SEC_CMD_STAT after a command that ended with a reason, 0 where it succeeded (R179). -/
def secShown (cmd reason : Nat) (s : State) : State :=
  onSec (fun c => { c with cmd := Config.secCmd cmd % 2 ^ 32, cmdStat := 65536 * reason }) s

/-- A command that Malor hands to the key store: SEC_CMD shows it and SEC_CMD_STAT the reason it ended with (R179). Every SEC
command that executes is one, each within its own step, so BUSY reads 0 (DESIGN CHOICE, log 10). -/
def secBody (cmd : Nat) (body : State → Answer) (s : State) : Answer :=
  { body s with st := secShown cmd (body s).reason (body s).st }

/-- `n` bytes of the DRBG, `k` draws from now (R156). -/
def drbg (s : State) (k n : Nat) : Bytes := padTo n (Config.random s.sec.addInput (s.free + k) n)

/-- Malor rewrites a failed helper copy from the good one before READY or, after a wake, as it runs again, and raises the
event (R155). -/
def helperRepair (s : State) : State :=
  if s.sec.repaired && s.sec.helper0 != s.sec.helper1 then
    let g := if s.sec.copyUsed then s.sec.helper1 else s.sec.helper0
    raise 0x0310 12 0 0 0 (onSec (fun c => { c with helper0 := g, helper1 := g }) s)
  else s

/-- The HMAC of a provisioning copy under a storage key (R168). -/
def provMac (storage : Bytes) (p : Provision) : Bytes :=
  Config.hmac384 storage (Config.provLayout p.seq p.devCert p.caCert (p.wrapped.map (Option.map (fun w => (w.epoch, w.blob)))))

/-- A provisioning copy is valid: its HMAC is that of its content. Without a root there is no storage key to check it with, and
the copy counts as it stands (DEDUCED, log 10). -/
def provValid (s : State) (p : Provision) : Bool := !s.sec.rootOk || p.mac == provMac s.sec.storage p

/-- The provisioning copy in force: the valid one with the higher sequence, of equal ones as R98 (R168). -/
def provision (s : State) : Option Provision :=
  match s.sec.provA.filter (provValid s), s.sec.provB.filter (provValid s) with
  | none, b => b
  | a, none => a
  | some a, some b => if b.seq < a.seq ∨ (a.seq = b.seq ∧ a.seq % 2 = 0) then some a else some b

/-- The provisioning record is rewritten: the changed content takes the next sequence, in the copy it names (R168, as R98). -/
def provWrite (f : Provision → Provision) (s : State) : State :=
  let p := (provision s).getD { seq := 0, devCert := [], caCert := [] }
  let q : Provision := { f p with seq := wrapInc 32 p.seq }
  let q : Provision := { q with mac := provMac s.sec.storage q }
  if q.seq % 2 = 0 then onSec (fun c => { c with provA := some q }) s else onSec (fun c => { c with provB := some q }) s

/-- The slot of a key position 0 to 3 of the provisioning record: two master secrets, two strait keys (R160). -/
def posSlot (pos : Nat) (key : Bytes) : KeySlot :=
  { type := if pos < 2 then 5 else 1, bind := if pos < 2 then 1 else 2, source := 3, key := key }

/-- At boot step 8 the wrapped secrets are unwrapped into slots 20 to 23; one that fails stays empty (R168). -/
def unwrapAll (s : State) : State :=
  match provision s with
  | none => s
  | some p => (upTo 4).foldl (fun s k => match nth none p.wrapped k with
    | none => s
    | some w => match Config.gcmOpen s.sec.storage (leBytes 4 w.epoch) (leBytes 4 k) w.blob with
      | some key =>
        onSec (fun c => { c with epochs := c.epochs.set k w.epoch, cacheValid := if k < 2 then c.cacheValid.set k true else c.cacheValid })
          (setSlot (20 + k) (posSlot k key) s)
      | none => raise 0x0312 13 (k / 2 + 1) (k % 2) (2 ^ 32 - 1) s) s

/-- The number of a free session. -/
def freeSession (s : State) : Option Nat := (upTo 4).find? (fun k => (nth none s.sec.sessions k).isNone)

/-- The effect of SEC_SESSION_OPEN (R162). -/
def sessionOpen (p : Bytes) (s : State) : Answer :=
  if p.length ≠ 128 then refuse s 0x030A
  else if !s.sec.rootOk then refuse s 0x0313
  else if !s.sec.drbgOk then refuse s 0x0319
  else if !Config.p384Valid (p.take 96) then refuse s 0x0318
  else match freeSession s with
    | none => refuse s 0x0307
    | some k =>
      let de := drbg s 0 48
      let np := drbg s 1 32
      let id := 1 + leNat (drbg s 2 4) % (2 ^ 32 - 1)
      let qe := Config.p384Public de
      let t := Config.sha384 (p ++ qe ++ np ++ leBytes 4 id ++ uidBytes s)
      let sig := Config.ecdsaSign (slotKey s 0 3) t
      let s := slotAsk 0 3 s.drawn.drawn.drawn
      done (setSession k (some { id := id, transcript := t, z := Config.ecdhX de (p.take 96), last := s.time.ont }) s)
        (leBytes 4 id ++ qe ++ np ++ sig)

/-- SEC_SESSION_OPEN (0x0310). -/
def execSecSessionOpen (m : Mail) (s : State) : Out := mailOut 0x0310 m (secBody 0x0310 (sessionOpen m.payload)) s

/-- The number of an OPENING session with an ID. -/
def openingNo (s : State) (id : Nat) : Option Nat :=
  (upTo 4).find? (fun k => match nth none s.sec.sessions k with
    | some x => x.id == id && !x.isOpen
    | none => false)

/-- The effect of SEC_SESSION_CONFIRM (R162, R163). -/
def sessionConfirm (p : Bytes) (s : State) : Answer :=
  let pos := byteField p 4 1
  if p.length ≠ 104 ∨ byteField p 5 3 ≠ 0 then refuse s 0x030A
  else if !s.sec.rootOk then refuse s 0x0313
  else if 1 < pos then refuse s 0x0305
  else match openingNo s (byteField p 0 4) with
    | none => refuse s 0x0306
    | some k => match nth none s.sec.sessions k with
      | none => refuse s 0x0306
      | some x =>
        let ok := slotOk s (8 + pos) 2 && Config.ecdsaVerify (slotKey s (8 + pos) 2) (Config.sha384 (x.transcript ++ ascii "HOST")) (p.drop 8)
        let s := slotAsk (8 + pos) 2 s
        if ok then
          let mac := kdf x.z (ascii "DN-SMAC") x.transcript 256
          let enc := kdf x.z (ascii "DN-SENC") x.transcript 256
          let s := setSlot (12 + 2 * k) { type := 1, bind := 4, source := 3, key := mac } s
          let s := setSlot (13 + 2 * k) { type := 1, bind := 4, source := 3, key := enc } s
          done (setSession k (some { x with isOpen := true, z := [], seq := 0, misses := 0, last := s.time.ont }) s) []
        else refuse (setSession k none s) 0x0314

/-- SEC_SESSION_CONFIRM (0x0311). -/
def execSecSessionConfirm (m : Mail) (s : State) : Out := mailOut 0x0311 m (secBody 0x0311 (sessionConfirm m.payload)) s

/-- The effect of SEC_SESSION_CLOSE (R164): tagged under the session itself. -/
def sessionClose (m : Mail) (s : State) : Answer :=
  if m.payload ≠ [] then refuse s 0x030A
  else if !mailAuth m then refuse s 0x0304
  else match sessionNo s m.session with
    | none => refuse s 0x0306
    | some k => done (endSession k s) []

/-- SEC_SESSION_CLOSE (0x0312). -/
def execSecSessionClose (m : Mail) (s : State) : Out := mailOut 0x0312 m (secBody 0x0312 (sessionClose m)) s

/-- SESSION_OPENING_TIMEOUT (R164): an OPENING session of 10 s is discarded. -/
def execSessionOpeningTimeout (k : Nat) (s : State) : Out :=
  .next (match nth none s.sec.sessions k with
    | some x => if !x.isOpen then setSession k none s else s
    | none => s)

/-- SESSION_IDLE_TIMEOUT (R164): a session without an accepted command for SEC_SESSION_IDLE ends. -/
def execSessionIdleTimeout (k : Nat) (s : State) : Out :=
  .next (match nth none s.sec.sessions k with
    | some x => if x.isOpen then endSession k s else s
    | none => s)

/-- DRBG_HEALTH_FAIL (R156). -/
def execDrbgHealthFail (s : State) : Out :=
  .next (if s.sec.drbgOk then
    raise 0x0313 14 0 0 0 (onSec (fun c => { c with drbgOk := false, drbgFail := satInc 32 c.drbgFail }) s) else s)

/-- KEY_CACHE_REFILL_DONE (R159): the ingest cache of a master position is complete again. -/
def execKeyCacheRefillDone (pos : Nat) (s : State) : Out :=
  .next (if pos < 2 ∧ (nth {} s.sec.slots (20 + pos)).type ≠ 0 then
    onSec (fun c => { c with cacheValid := c.cacheValid.set pos true }) s else s)

/-- A key position is changed: record, slot, epoch and event (R167). -/
def keyPlace (cls pos epoch : Nat) (key : Option Bytes) (s : State) : State :=
  let k := 2 * (cls - 1) + pos
  let blob := match key with
    | some b => some { epoch := epoch, blob := Config.gcmSeal s.sec.storage (leBytes 4 epoch) (leBytes 4 k) b }
    | none => none
  let s := provWrite (fun p => { p with wrapped := p.wrapped.set k blob }) s
  let s := setSlot (20 + k) (match key with | some b => posSlot k b | none => {}) s
  let s := onSec (fun c => { c with
    epochs := c.epochs.set k (if key.isSome then epoch else 0)
    cacheValid := if k < 2 then c.cacheValid.set k false else c.cacheValid }) s
  raise 0x0312 13 cls pos epoch s

/-- The effect of SEC_KEY_IMPORT (R166, R167). -/
def keyImport (m : Mail) (s : State) : Answer :=
  let p := m.payload
  let cls := byteField p 0 1
  let pos := byteField p 1 1
  if !mailAuth m then refuse s 0x0304
  else if p.length ≠ 56 ∨ byteField p 2 2 ≠ 0 then refuse s 0x030A
  else if cls = 0 ∨ 2 < cls ∨ 1 < pos then refuse s 0x0305
  else match sessionNo s m.session with
    | none => refuse s 0x0304
    | some n =>
      let enc := slotKey s (13 + 2 * n) 2
      let s := slotAsk (13 + 2 * n) 2 s
      let iv := leBytes 4 m.session ++ leBytes 4 m.seq ++ leBytes 4 2
      match Config.gcmOpen enc iv (p.take 8) (p.drop 8) with
      | none => refuse s 0x0314
      | some key => done (keyPlace cls pos (byteField p 4 4) (some key) s) []

/-- SEC_KEY_IMPORT (0x0330). -/
def execSecKeyImport (m : Mail) (s : State) : Out := mailOut 0x0330 m (secBody 0x0330 (keyImport m)) s

/-- The effect of SEC_KEY_CLEAR (R167). -/
def keyClear (p : Bytes) (s : State) : Answer :=
  let cls := byteField p 0 1
  let pos := byteField p 1 1
  if p.length ≠ 4 ∨ byteField p 2 2 ≠ 0 then refuse s 0x030A
  else if cls = 0 ∨ 2 < cls ∨ 1 < pos then refuse s 0x0305
  else done (keyPlace cls pos (nth 0 s.sec.epochs (2 * (cls - 1) + pos)) none s) []

/-- SEC_KEY_CLEAR (0x0331). -/
def execSecKeyClear (m : Mail) (s : State) : Out := mailOut 0x0331 m (secBody 0x0331 (keyClear m.payload)) s

/-- Bits of an OTP word are set; none is ever cleared (R169). -/
def otpSet (w v : Nat) (s : State) : State :=
  onSec (fun c => { c with otp := insertNat w (((lookupNat w c.otp).getD 0) ||| v) c.otp }) s

/-- The effect of SEC_OTP_KEY_SET (R170). -/
def otpKeySet (p : Bytes) (s : State) : Answer :=
  let key := byteField p 0 1
  let pos := byteField p 1 1
  if p.length ≠ 100 ∨ byteField p 2 2 ≠ 0 then refuse s 0x030A
  else if 2 < key ∨ 1 < pos then refuse s 0x0305
  else if lifecycle s ≠ 1 ∧ ¬(pos = 1 ∧ lifecycle s = 2) then refuse s 0x0306
  else if !allZero (otpKey s key pos) then refuse s 0x0315
  else if !Config.p384Valid (p.drop 4) then refuse s 0x0318
  else
    let s := (upTo 24).foldl (fun s i => otpSet (12 + 24 * (2 * key + pos) + i) (byteField p (4 + 4 * i) 4) s) s
    done (setSlot (4 + 2 * key + pos) (otpSlot s key pos) s) []

/-- SEC_OTP_KEY_SET (0x0321). -/
def execSecOtpKeySet (m : Mail) (s : State) : Out := mailOut 0x0321 m (secBody 0x0321 (otpKeySet m.payload)) s

/-- The effect of SEC_KEY_REVOKE (R170). R170 gives it the key and position bytes of SEC_OTP_KEY_SET; that two bytes of 0 follow
them is DESIGN CHOICE (log 10). -/
def keyRevoke (p : Bytes) (s : State) : Answer :=
  let key := byteField p 0 1
  let pos := byteField p 1 1
  if p.length ≠ 4 ∨ byteField p 2 2 ≠ 0 then refuse s 0x030A
  else if 2 < key ∨ 1 < pos then refuse s 0x0305
  else if !otpKeyLive s key (1 - pos) then refuse s 0x0306
  else done (setSlot (4 + 2 * key + pos) {} (otpSet 10 (2 ^ revokeBit key pos) s)) []

/-- SEC_KEY_REVOKE (0x0322). -/
def execSecKeyRevoke (m : Mail) (s : State) : Out := mailOut 0x0322 m (secBody 0x0322 (keyRevoke m.payload)) s

/-- Every session ends and every slot is cleared. -/
def clearSlots (s : State) : State :=
  onSec (fun c => { c with slots := List.replicate 64 {}, sessions := [none, none, none, none], epochs := [0, 0, 0, 0] })
    ((upTo 4).foldl (fun s k => endSession k s) s)

/-- The erasures of RETIRED (R172). -/
def retireErase (s : State) : State :=
  onSec (fun c => { c with provA := none, provB := none, helper0 := [], helper1 := [], retiredErased := true }) s

/-- The identity certificate is stored (R171, R175). -/
def certStored (s : State) : Bool := match provision s with | some p => p.devCert != [] | none => false

/-- The lifecycle advances to `target` (R171, R172); a part that retires restarts. -/
def advance (target : Nat) (s : State) : State :=
  let s := raise 0x0311 12 0 0 0 (otpSet 0 (2 ^ (target - 1)) s)
  let s := onHost (fun h => { h with sessionRequired := target == 2 && par s 0x0200 == 1 }) s
  if target = 3 then
    let s := retireErase (clearSlots s)
    { s with mgmt := { s.mgmt with restart := some 0 } }
  else s

/-- The effect of SEC_LIFECYCLE_ADVANCE (R171). -/
def lifecycleAdvance (p : Bytes) (s : State) : Answer :=
  let target := byteField p 0 1
  if p.length ≠ 8 ∨ byteField p 1 3 ≠ 0 then refuse s 0x030A
  else if byteField p 4 4 ≠ otpWord s 2 then refuse s 0x0317
  else if target ≠ lifecycle s + 1 ∨ 3 < target then refuse s 0x0306
  else if target = 1 ∧ !(s.sec.rootOk && certStored s) then refuse s 0x0316
  else if target = 2 ∧ (upTo 3).any (fun k => allZero (otpKey s k 0)) then refuse s 0x0316
  else done (advance target s) []

/-- SEC_LIFECYCLE_ADVANCE (0x0320). -/
def execSecLifecycleAdvance (m : Mail) (s : State) : Out := mailOut 0x0320 m (secBody 0x0320 (lifecycleAdvance m.payload)) s

/-- Each bit of the extractor's input by majority of sixteen readings of the array (R174); between eight and eight it is
free. -/
def arrayMajority (k : Nat) : Bytes :=
  let l := (upTo 16).map (fun i => leNat (padTo 1275 ((Config.pufArray (k + i)).take 1275)))
  leBytes 1275 (flagsNat ((upTo 10200).map (fun j =>
    let n := (l.filter (fun v => bit v j)).length
    if n = 8 then Config.pufTie (k + j) else decide (8 < n))))

/-- The effect of SEC_ENROL (R174). -/
def enrol (p : Bytes) (s : State) : Answer :=
  if p ≠ [] then refuse s 0x030A
  else if lifecycle s ≠ 0 ∨ helperPasses s s.sec.helper0 = true ∨ helperPasses s s.sec.helper1 = true then refuse s 0x0306
  else if !s.sec.drbgOk then refuse s 0x0319
  else
    let msg := drbg s 16 131
    let h := helperBytes s (xorBytes (arrayMajority s.free) (pufEncode msg)) (verifierOf (rootOf s msg))
    let s := regenerate (onSec (fun c => { c with helper0 := h, helper1 := h }) { s with free := s.free + 17 })
    if s.sec.rootOk then done s [] else refuse s 0x0310

/-- SEC_ENROL (0x0323). -/
def execSecEnrol (m : Mail) (s : State) : Out := mailOut 0x0323 m (secBody 0x0323 (enrol m.payload)) s

/-- The refusals common to the certificate commands (R175). -/
def certState (s : State) : Option Nat :=
  if lifecycle s ≠ 0 then some 0x0306 else if !s.sec.rootOk then some 0x0313 else none

/-- The DIK public key. -/
def dikPublic (s : State) : Bytes := Config.p384Public (nth {} s.sec.slots 0).key

/-- The 16 upper-case hex digits of UID, most significant first (R176). -/
def uidText (s : State) : Bytes :=
  (upTo 16).map (fun i =>
    let d := uid s / 16 ^ (15 - i) % 16
    BitVec.ofNat 8 (if d < 10 then 0x30 + d else 0x37 + d))

/-- The effect of SEC_DIK_GET (R175). -/
def dikGet (p : Bytes) (s : State) : Answer :=
  if p ≠ [] then refuse s 0x030A
  else match certState s with
    | some r => refuse s r
    | none => done s (uidBytes s ++ dikPublic s)

/-- SEC_DIK_GET (0x0344). -/
def execSecDikGet (m : Mail) (s : State) : Out := mailOut 0x0344 m (secBody 0x0344 (dikGet m.payload)) s

/-- The effect of SEC_CERT_WRITE (R175). -/
def certWrite (p : Bytes) (s : State) : Answer :=
  let i := byteField p 0 1
  let total := byteField p 4 4
  let off := byteField p 8 4
  let n := byteField p 12 4
  if p.length < 16 ∨ byteField p 1 3 ≠ 0 ∨ p.length ≠ 16 + n then refuse s 0x030A
  else match certState s with
    | some r => refuse s r
    | none =>
      if 1 < i ∨ 2048 < total ∨ 960 < n ∨ total < off + n then refuse s 0x0305
      else done (onSec (fun c => { c with staged := modNth c.staged i (fun x =>
        { total := total, ranges := (if x.total = total then x.ranges else []) ++ [(off, p.drop 16)] }) }) s) []

/-- SEC_CERT_WRITE (0x0342). -/
def execSecCertWrite (m : Mail) (s : State) : Out := mailOut 0x0342 m (secBody 0x0342 (certWrite m.payload)) s

/-- Every byte of a staged certificate was written. -/
def stagedComplete (x : Staged) : Bool :=
  x.total != 0 && (upTo x.total).all (fun i => x.ranges.any (fun r => decide (r.1 ≤ i) && decide (i < r.1 + r.2.length)))

/-- The bytes of a staged certificate. -/
def stagedBytes (x : Staged) : Bytes := x.ranges.foldl (fun b r => overwrite b r.1 r.2) []

/-- The number of the first failing check of SEC_CERT_COMMIT; 0 where all pass (R175). -/
def certChecks (s : State) : Nat :=
  let d := nth {} s.sec.staged 0
  let a := nth {} s.sec.staged 1
  if !(stagedComplete d && stagedComplete a && Config.certWellFormed (stagedBytes d) && Config.certWellFormed (stagedBytes a)) then 1
  else if Config.certKey (stagedBytes d) ≠ dikPublic s then 2
  else if Config.certSerial (stagedBytes d) ≠ uidText s then 3
  else if !Config.certVerify (stagedBytes d) (Config.certKey (stagedBytes a)) then 4
  else 0

/-- The effect of SEC_CERT_COMMIT (R175). -/
def certCommit (p : Bytes) (s : State) : Answer :=
  if p ≠ [] then refuse s 0x030A
  else match certState s with
    | some r => refuse s r
    | none =>
      if certChecks s ≠ 0 then refuse s 0x031A 0 (leBytes 1 (certChecks s))
      else
        let f : Provision → Provision := fun r =>
          { r with devCert := stagedBytes (nth {} s.sec.staged 0), caCert := stagedBytes (nth {} s.sec.staged 1)
                   wrapped := [none, none, none, none] }
        done (provWrite f (provWrite f s)) []

/-- SEC_CERT_COMMIT (0x0343). -/
def execSecCertCommit (m : Mail) (s : State) : Out := mailOut 0x0343 m (secBody 0x0343 (certCommit m.payload)) s

/-- The effect of SEC_CERT_GET (R176). -/
def certGet (p : Bytes) (s : State) : Answer :=
  let i := byteField p 0 1
  let off := byteField p 4 4
  let n := byteField p 8 4
  let b := match provision s with | some r => if i = 0 then r.devCert else r.caCert | none => []
  if p.length ≠ 12 ∨ byteField p 1 3 ≠ 0 then refuse s 0x030A
  else if 1 < i ∨ 960 < n ∨ b.length < off + n then refuse s 0x0305
  else done s ((b.drop off).take n)

/-- SEC_CERT_GET (0x0341). -/
def execSecCertGet (m : Mail) (s : State) : Out := mailOut 0x0341 m (secBody 0x0341 (certGet m.payload)) s

/-- The value of a rollback counter: bits set in its two words (R169). -/
def otpCounter (s : State) (w : Nat) : Nat :=
  ((upTo 32).filter (fun i => bit (otpWord s w) i)).length + ((upTo 32).filter (fun i => bit (otpWord s (w + 1)) i)).length

/-- A parameter of the running variant exists under an ID. -/
def paramHere (s : State) (id : Nat) : Option PInfo :=
  match pInfo id with
  | none => none
  | some i => if i.unit ≠ anyUnit ∧ (unitCount s i.owner).1 ≤ i.unit ∧ i.unit < (unitCount s i.owner).2 then none else some i

/-- The parameter IDs of the running variant, ascending, tables or values. -/
def paramIds (s : State) (tables : Bool) : List Nat :=
  (upTo 0x8000).filter (fun id => match paramHere s id with | some i => isTable i == tables | none => false)

/-- CONFIG_DIGEST (R178). -/
def configDigest (s : State) : Bytes :=
  Config.sha384 (
    (paramIds s false).flatMap (fun id => leBytes 2 id ++ zeros 2 ++ leIntBytes 8 (par s id)) ++
    (paramIds s true).flatMap (fun id => leBytes 2 id ++ zeros 2 ++ leBytes 4 (tab s id).length ++ tab s id) ++
    (enabledUnits s).flatMap (fun u => leBytes 1 u.1 ++ zeros 1 ++ leBytes 2 u.2))

/-- The header digest of an image that runs or is loaded, else 48 zeros (R177). -/
def headerDigest (img : Bytes) : Bytes := if img = [] then zeros 48 else Config.sha384 (img.take 256)

/-- The running Malor image; empty in MINIMAL. -/
def malorImage (s : State) : Bytes :=
  if s.mgmt.malorRuns then (if s.mgmt.malorSlot then s.mgmt.malorB else s.mgmt.malorA) else []

/-- MODE of the attestation statement. -/
def attestMode (s : State) : Nat := if s.host.minimal then 1 else if s.host.ready then 0 else 2

/-- Bytes 0x000 to 0x17F of the attestation statement (R177). -/
def attestBody (s : State) (nonce : Bytes) : Bytes :=
  let run := plantRuns s
  leBytes 4 0xD742A77E ++ leBytes 2 1 ++ leBytes 2 480 ++ uidBytes s ++ leBytes 4 (idVariant s) ++
    leBytes 1 (lifecycle s) ++ leBytes 1 (attestMode s) ++
    leBytes 2 (flagsNat [s.sec.romMeasured, malorImage s != [], s.model.image != [], s.logic.image != [],
      run && s.time.locked, run && s.time.valid]) ++
    Config.sha384 (match provision s with | some p => p.devCert | none => []) ++
    (if s.sec.romMeasured then Config.sha384 Config.bootRom else zeros 48) ++
    headerDigest (malorImage s) ++ headerDigest s.model.image ++ headerDigest s.logic.image ++
    configDigest s ++ nonce ++ leBytes 8 (if run then s.time.ont else 0) ++ leBytes 4 (bootState s.mgmt) ++
    leBytes 1 (otpCounter s 4) ++ leBytes 1 (otpCounter s 6) ++ leBytes 1 (otpCounter s 8) ++ zeros 1 ++
    leBytes 8 s.host.modelSig ++ zeros 16

/-- The effect of SEC_ATTEST (R177). -/
def attest (p : Bytes) (s : State) : Answer :=
  if p.length ≠ 32 then refuse s 0x030A
  else if !s.sec.rootOk then refuse s 0x0313
  else
    let b := attestBody s p
    done (slotAsk 0 3 s) (b ++ Config.ecdsaSign (slotKey s 0 3) (Config.sha384 b))

/-- SEC_ATTEST (0x0340). -/
def execSecAttest (m : Mail) (s : State) : Out := mailOut 0x0340 m (secBody 0x0340 (attest m.payload)) s

/-- The key of an image's KEY_REF for its TYPE: the slot, if it holds a key of that type (R161). -/
def keyRefSlot (ref type : Nat) : Option Nat :=
  match ref, type with
  | 1, 1 => some 2
  | 2, 1 => some 3
  | 0x101, 2 => some 4
  | 0x102, 2 => some 5
  | 0x201, 3 => some 6
  | 0x202, 3 => some 7
  | _, _ => none

/-- SEC_STATUS (R179). -/
def secStatus (s : State) : Nat :=
  flagsNat [s.sec.rootOk, s.sec.copyUsed, s.sec.repaired, s.sec.drbgOk] +
    16 * (s.sec.sessions.filter (fun x => x.isSome)).length

/-- SEC_SLOT_ATTRn (R180); reserved slots read 0. -/
def slotAttr (s : State) (n : Nat) : Nat :=
  if 24 ≤ n ∨ n = 10 ∨ n = 11 then 0
  else let k := nth {} s.sec.slots n; if k.type = 0 then 0 else k.bind + 256 * k.type + 4096 * k.source

end Sys2Proof.Machine
end

