-- ==== Sys2Proof/Machine/Image.lean ====
section
/-! DEFINITION. Images: the header checks common to every image (R97, R101), boot records (R98), and the parts and
load checks of a model image (R184 to R198). -/

namespace Sys2Proof.Machine

/-- A field of an image header (R97). -/
def hdr (img : Bytes) (off n : Nat) : Nat := byteField img off n

/-- TYPE of an image. -/
def imgType (img : Bytes) : Nat := hdr img 0x04 2

/-- BODY_LEN of an image. -/
def imgBodyLen (img : Bytes) : Nat := hdr img 0x08 4

/-- SVN of an image. -/
def imgSvn (img : Bytes) : Nat := hdr img 0x0C 2

/-- VARIANTS of an image. -/
def imgVariants (img : Bytes) : Nat := hdr img 0x0E 2

/-- VERSION of an image. -/
def imgVersion (img : Bytes) : Nat := hdr img 0x10 8

/-- The body of an image. -/
def imgBody (img : Bytes) : Bytes := (img.drop 256).take (imgBodyLen img)

/-- The size of a slot of an image type (R96). -/
def slotSize (type : Nat) : Nat :=
  match type with
  | 1 => 0x400000
  | 2 => 0x1000000
  | _ => 0x20000

/-- Check 1 of R101: the header form. -/
def imgFormOk (type : Nat) (img : Bytes) : Bool :=
  hdr img 0 4 == 0xD7421A9E && hdr img 0x06 2 == 256 && imgType img == type && allZero ((img.drop 0xB0).take 80) &&
    256 + imgBodyLen img ≤ slotSize type &&
    (type != 1 || (hdr img 0x1C 4 ≤ 393216 && hdr img 0x1C 4 ≤ imgBodyLen img))

/-- Check 2 of R101: the running variant is set in VARIANTS. -/
def imgVariantOk (s : State) (img : Bytes) : Bool := bit (imgVariants img) (b2n (big s))

/-- The body of an image matches the digest of its header. -/
def bodyOk (img body : Bytes) : Bool := Config.sha384 body == (img.drop 0x20).take 48

/-- Check 3 of R101: signature and body digest under the key of KEY_REF (R161). -/
def imgSigOk (s : State) (type : Nat) (img : Bytes) : Bool :=
  match keyRefSlot (hdr img 0x18 4) type with
  | none => false
  | some n =>
    slotOk s n 4 && Config.ecdsaVerify (slotKey s n 4) (Config.sha384 (img.take 0x50)) ((img.drop 0x50).take 96) &&
      bodyOk img (imgBody img)

/-- The OTP rollback counter of an image type (R102, R169). -/
def rollback (s : State) (type : Nat) : Nat := otpCounter s (2 + 2 * type)

/-- The reason of the first failing header check (R101). -/
def imgFail (s : State) (type : Nat) (img : Bytes) : Option Nat :=
  if !imgFormOk type img then some 0x0143
  else if !imgVariantOk s img then some (if type = 2 then 0x0808 else 0x0143)
  else if !imgSigOk s type img then some 0x0140
  else if imgSvn img < rollback s type then some 0x0141
  else none

/-- The bytes 0x00 to 0x3B of a boot record (R98). -/
def bootBody (r : BootRec) : Bytes :=
  leBytes 4 0xD742B007 ++ leBytes 4 r.seq ++
    ([r.malorActive, r.malorTrial, r.modelActive, r.modelTrial, r.aplarActive, r.aplarTrial].flatMap (fun b => leBytes 1 (b2n b))) ++
    zeros 46

/-- The 64 bytes of a boot record (R98). -/
def bootBytes (r : BootRec) : Bytes := bootBody r ++ leBytes 4 (crc32cNat (bootBody r))

/-- The record that a boot header holds: none unless MAGIC and CRC-32C are right (R98). -/
def bootParse (b : Bytes) : Option BootRec :=
  if byteField b 0 4 = 0xD742B007 ∧ byteField b 0x3C 4 = crc32cNat (b.take 0x3C) then
    some {
      seq := byteField b 4 4
      malorActive := byteField b 8 1 == 1, malorTrial := byteField b 9 1 == 1
      modelActive := byteField b 10 1 == 1, modelTrial := byteField b 11 1 == 1
      aplarActive := byteField b 12 1 == 1, aplarTrial := byteField b 13 1 == 1 }
  else none

/-- The boot record in force (R98). -/
def bootRec (s : State) : BootRec :=
  match bootParse s.mgmt.bootA, bootParse s.mgmt.bootB with
  | none, none => {}
  | some a, none => a
  | none, some b => b
  | some a, some b => if a.seq < b.seq then b else if b.seq < a.seq then a else if a.seq % 2 = 0 then a else b

/-- A new boot record is written to the header its SEQ names (R98). -/
def bootWrite (f : BootRec → BootRec) (s : State) : State :=
  let n := wrapInc 32 (bootRec s).seq
  let b := bootBytes { f (bootRec s) with seq := n }
  { s with mgmt := if n % 2 = 0 then { s.mgmt with bootA := b } else { s.mgmt with bootB := b } }

/-- The active slot of an image type and whether it is on trial (R98). -/
def bootSlot (r : BootRec) (type : Nat) : Bool × Bool :=
  match type with
  | 1 => (r.malorActive, r.malorTrial)
  | 2 => (r.modelActive, r.modelTrial)
  | _ => (r.aplarActive, r.aplarTrial)

/-- A boot record with another active slot and trial byte of a type. -/
def bootSet (type : Nat) (slot trial : Bool) (r : BootRec) : BootRec :=
  match type with
  | 1 => { r with malorActive := slot, malorTrial := trial }
  | 2 => { r with modelActive := slot, modelTrial := trial }
  | _ => { r with aplarActive := slot, aplarTrial := trial }

/-- The bytes of a slot in NOR. -/
def slotImage (s : State) (type : Nat) (slot : Bool) : Bytes :=
  match type with
  | 1 => if slot then s.mgmt.malorB else s.mgmt.malorA
  | 2 => if slot then s.mgmt.modelB else s.mgmt.modelA
  | _ => if slot then s.mgmt.aplarB else s.mgmt.aplarA

/-- The bytes of a slot in NOR replaced. -/
def setSlotImage (type : Nat) (slot : Bool) (b : Bytes) (s : State) : State :=
  { s with mgmt := match type with
    | 1 => if slot then { s.mgmt with malorB := b } else { s.mgmt with malorA := b }
    | 2 => if slot then { s.mgmt with modelB := b } else { s.mgmt with modelA := b }
    | _ => if slot then { s.mgmt with aplarB := b } else { s.mgmt with aplarA := b } }

/-- A section of a model image's directory (R184). -/
structure Sect where
  type : Nat
  flags : Nat
  off : Nat
  len : Nat
  crc : Nat
  deriving DecidableEq, Repr

/-- The directory of a model image (R184). -/
def sects (img : Bytes) : List Sect :=
  let b := imgBody img
  (upTo (byteField b 4 2)).map (fun k =>
    { type := byteField b (8 + 16 * k) 2, flags := byteField b (10 + 16 * k) 2, off := byteField b (12 + 16 * k) 4
      len := byteField b (16 + 16 * k) 4, crc := byteField b (20 + 16 * k) 4 })

/-- The directory entry of a section type. -/
def sect (img : Bytes) (type : Nat) : Option Sect := (sects img).find? (fun x => x.type == type)

/-- The bytes of a section; empty where it is absent. -/
def secBytes (img : Bytes) (type : Nat) : Bytes :=
  match sect img type with
  | some x => ((imgBody img).drop x.off).take x.len
  | none => []

/-- A field of COUNTS (R187). -/
def cnt (img : Bytes) (off n : Nat) : Nat := byteField (secBytes img 0x01) off n

def nNode (img : Bytes) : Nat := cnt img 0 2
def nPipe (img : Bytes) : Nat := cnt img 2 2
def nSubst (img : Bytes) : Nat := cnt img 4 2
def nCluster (img : Bytes) : Nat := cnt img 6 2
def nPlant (img : Bytes) : Nat := cnt img 8 1
def nStore (img : Bytes) : Nat := cnt img 9 1
def nPump (img : Bytes) : Nat := cnt img 10 1
def nNet (img : Bytes) : Nat := cnt img 11 1

/-- H, the dispatch horizon in steps (R187). -/
def horizon (img : Bytes) : Nat := cnt img 12 1

/-- MEDIUM of a network: 0 heating water, 1 chilled water (R187). -/
def medium (img : Bytes) (net : Nat) : Nat := cnt img (0x20 + net) 1

/-- Variables of one dispatch step (R284). -/
def nVar (img : Bytes) : Nat := 2 * nCluster img + 4 * nPlant img + 2 * nStore img + nPump img

/-- Constraints of one dispatch step (R284). -/
def nCon (img : Bytes) : Nat :=
  3 * nCluster img + 4 * nPlant img + 3 * nStore img + 2 * nPump img + nNet img + 1

/-- A base of SCALE, by number (R189): 0 P, 1 Q, 2 T, 3 W, 4 E, 5 N, 6 C. -/
def base (img : Bytes) (k : Nat) : Nat := byteField (secBytes img 0x03) (4 * k) 4

/-- Field at `off` of record `i` of a section with records of `size` bytes. -/
def recN (img : Bytes) (type size i off n : Nat) : Nat := byteField (secBytes img type) (size * i + off) n

/-- The same, signed. -/
def recS (img : Bytes) (type size i off n : Nat) : Int := byteFieldS (secBytes img type) (size * i + off) n

/-- The start of an array of TOPO: 0 PIPE_END, 1 SUBST_ATT, 2 PLANT_ATT, 3 STORE_ATT, 4 PUMP_ATT, 5 the end (R188). -/
def topoOff (img : Bytes) (a : Nat) : Nat :=
  (if 1 ≤ a then 4 * nPipe img else 0) + (if 2 ≤ a then 8 * nSubst img else 0) + (if 3 ≤ a then 4 * nPlant img else 0)
    + (if 4 ≤ a then 4 * nStore img else 0) + (if 5 ≤ a then 4 * nPump img else 0)

/-- Field at `off` of entry `i` of an array of TOPO. -/
def topo (img : Bytes) (a i off n : Nat) : Nat :=
  byteField (secBytes img 0x02) (topoOff img a + (if a = 1 then 8 else 4) * i + off) n

/-- FROM and TO of a pipe. -/
def pipeEnds (img : Bytes) (i : Nat) : Nat × Nat := (topo img 0 i 0 2, topo img 0 i 2 2)

/-- Supply node, return node and cluster of a sub-station. -/
def substAtt (img : Bytes) (i : Nat) : Nat × Nat × Nat := (topo img 1 i 0 2, topo img 1 i 2 2, topo img 1 i 4 2)

/-- Inlet and outlet node of a plant. -/
def plantAtt (img : Bytes) (i : Nat) : Nat × Nat := (topo img 2 i 0 2, topo img 2 i 2 2)

/-- Hot and cold node of a store. -/
def storeAtt (img : Bytes) (i : Nat) : Nat × Nat := (topo img 3 i 0 2, topo img 3 i 2 2)

/-- Pipe and plant of a pump. -/
def pumpAtt (img : Bytes) (i : Nat) : Nat × Nat := (topo img 4 i 0 2, topo img 4 i 2 1)

/-- NET of a node (R190). -/
def nodeNet (img : Bytes) (i : Nat) : Nat := recN img 0x10 16 i 0xD 1

/-- The types of R185 whose STRUCT flag is 1. -/
def structTypes : List Nat := [0x01, 0x02, 0x03, 0x20, 0x21]

/-- The section types of R185. -/
def sectTypes : List Nat :=
  [0x01, 0x02, 0x03, 0x10, 0x11, 0x12, 0x13, 0x14, 0x15, 0x16, 0x20, 0x21, 0x30, 0x31, 0x40, 0x41, 0x50]

/-- A section is required (R185). -/
def sectRequired (img : Bytes) (t : Nat) : Bool :=
  match t with
  | 0x14 => nStore img != 0
  | 0x15 => nPump img != 0
  | 0x40 => bit (imgVariants img) 0 || (sect img 0x41).isNone
  | 0x41 => bit (imgVariants img) 1 || (sect img 0x40).isNone
  | _ => true

/-- The length a present section must have; none where any length from 32 on will do (R185, R188, R196, R230,
R298). -/
def sectLen (img : Bytes) (t : Nat) : Option Nat :=
  let pat := fun (b : Bytes) => 8 + 4 * (byteField b 0 4 + 1) + 4 * byteField b 4 4
  match t with
  | 0x01 => some 64
  | 0x02 => some (topoOff img 5)
  | 0x03 => some 32
  | 0x10 => some (16 * nNode img)
  | 0x11 => some (20 * nPipe img)
  | 0x12 => some (16 * nSubst img)
  | 0x13 => some (32 * nPlant img)
  | 0x14 => some (24 * nStore img)
  | 0x15 => some (24 * nPump img)
  | 0x16 => some (8 * nCluster img)
  | 0x20 => some (pat (secBytes img 0x20))
  | 0x21 => some (pat (secBytes img 0x21))
  | 0x30 => some (8 + 4 * byteField (secBytes img 0x20) 0 4 + 4 * byteField (secBytes img 0x21) 0 4)
  | 0x31 => some (16 + 4 * cnt img 0x10 4)
  | 0x50 => some 8
  | _ => none

/-- A failed load check: reason, section TYPE, record index (R198). -/
abbrev LoadFail := Option (Nat × Nat × Nat)

/-- The first failing item of a list: what must hold, section TYPE, record index; all with one reason. -/
def loadFirst (reason : Nat) (l : List (Bool × Nat × Nat)) : LoadFail :=
  (l.find? (fun x => !x.1)).map (fun x => (reason, x.2.1, x.2.2))

/-- Two sections share a byte. -/
def overlaps (a b : Sect) : Bool := a.off < b.off + b.len && b.off < a.off + a.len

/-- Load step 1 (R198). -/
def load1 (img : Bytes) : LoadFail :=
  let b := imgBody img
  let l := sects img
  let n := byteField b 4 2
  match loadFirst 0x080A [(byteField b 0 4 == 0xD7420DE1, 0, 0), (1 ≤ n && n ≤ 32, 0, 0), (8 + 16 * n ≤ b.length, 0, 0)] with
  | some f => some f
  | none => loadFirst 0x080A ((l.zip (upTo l.length)).map (fun p =>
      (p.1.off % 64 == 0 && 8 + 16 * n ≤ p.1.off && p.1.off + p.1.len ≤ b.length &&
        (l.take p.2).all (fun q => q.type != p.1.type && !overlaps q p.1) &&
        crc32cNat ((b.drop p.1.off).take p.1.len) == p.1.crc, p.1.type, 0)))

/-- Load step 2 (R198). -/
def load2 (img : Bytes) : LoadFail :=
  match loadFirst 0x080A ((sects img).map (fun x =>
      (sectTypes.contains x.type && x.flags == b2n (structTypes.contains x.type), x.type, 0))) with
  | some f => some f
  | none => loadFirst 0x080A (sectTypes.map (fun t =>
      (match sect img t with
       | none => !sectRequired img t
       | some x => match sectLen img t with
         | some n => x.len == n
         | none => 32 ≤ x.len, t, 0)))

/-- A check of every record of a section. -/
def each (type n : Nat) (f : Nat → Bool) : List (Bool × Nat × Nat) := (upTo n).map (fun i => (f i, type, i))

/-- The fields of a PLANT record that do not apply to its KIND are 0 (R193). -/
def plantUnused (img : Bytes) (i : Nat) : Bool :=
  recN img 0x13 32 i 0 1 == 2 ||
    (recN img 0x13 32 i 2 2 == 0 && recN img 0x13 32 i 0x14 4 == 0 && recN img 0x13 32 i 0x18 4 == 0)

/-- Load step 3 (R198): reserved fields, enumerations, N_NET, H, N_VAR and N_CON. -/
def load3 (img : Bytes) : LoadFail :=
  let c := secBytes img 0x01
  loadFirst 0x080A (
    [(byteField (imgBody img) 6 2 == 0, 0, 0),
     (allZero ((c.drop 0x0D).take 3) && allZero (c.drop 0x24) && 1 ≤ nNet img && nNet img ≤ 4 && 1 ≤ horizon img &&
        horizon img ≤ 192 && (upTo 4).all (fun k => medium img k ≤ 1) &&
        cnt img 0x10 4 == horizon img * nVar img && cnt img 0x14 4 == horizon img * nCon img, 0x01, 0),
     (byteField (secBytes img 0x03) 0x1C 4 == 0, 0x03, 0)] ++
    each 0x02 (nSubst img) (fun i => topo img 1 i 6 2 == 0) ++
    each 0x02 (nPump img) (fun i => topo img 4 i 3 1 == 0) ++
    each 0x10 (nNode img) (fun i => recN img 0x10 16 i 0xC 1 ≤ 1 && recN img 0x10 16 i 0xE 2 == 0) ++
    each 0x11 (nPipe img) (fun i => recN img 0x11 20 i 0x10 2 < 4 && recN img 0x11 20 i 0x12 2 == 0) ++
    each 0x12 (nSubst img) (fun i => recN img 0x12 16 i 1 1 ≤ 2 && recN img 0x12 16 i 0xE 2 == 0) ++
    each 0x13 (nPlant img) (fun i => recN img 0x13 32 i 0 1 ≤ 3 && recN img 0x13 32 i 0x1C 4 == 0 && plantUnused img i) ++
    each 0x14 (nStore img) (fun i => recN img 0x14 24 i 0x16 2 == 0) ++
    each 0x15 (nPump img) (fun i => recN img 0x15 24 i 0x14 4 == 0) ++
    each 0x16 (nCluster img) (fun i => recN img 0x16 8 i 5 3 == 0) ++
    [(byteField (secBytes img 0x31) 4 12 == 0, 0x31, 0)] ++
    [0x40, 0x41].map (fun t => ((sect img t).isNone ||
      (byteField (secBytes img t) 0 1 == (if t = 0x40 then 1 else 4) && byteField (secBytes img t) 1 3 == 0 &&
        allZero (((secBytes img t).drop 16).take 16)), t, 0)))

/-- A field of the schedule set header of the running variant: 4 OXMEM_NEED, 8 NNZ_EST_L, 12 NNZ_KKT_L (R197). -/
def schedField (s : State) (img : Bytes) (off : Nat) : Nat := byteField (secBytes img (if big s then 0x41 else 0x40)) off 4

/-- Load step 4 (R198): the limits of R3. -/
def load4 (s : State) (img : Bytes) : LoadFail :=
  let k := if big s then 4 else 1
  loadFirst 0x0808
    [(nSubst img ≤ 1024 * k && nNode img ≤ 4096 * k && nPipe img ≤ 5120 * k && nCluster img ≤ 64 * k &&
        nPlant img ≤ (if big s then 32 else 16) && nStore img ≤ (if big s then 16 else 8) &&
        nPump img ≤ (if big s then 64 else 32), 0x01, 0),
     (cnt img 0x10 4 ≤ 40000 * k && cnt img 0x14 4 ≤ 60000 * k, 0x01, 0),
     ((sect img (if big s then 0x41 else 0x40)).isSome, if big s then 0x41 else 0x40, 0),
     (schedField s img 12 ≤ 16777216 * k && schedField s img 4 ≤ (if big s then 24 else 12) * 1048576,
        if big s then 0x41 else 0x40, 0)]

/-- The structure signature (R186). -/
def modelSig (img : Bytes) : Nat :=
  let h := Config.sha384 (ascii "DN-SIG" ++ structTypes.flatMap (fun t =>
    leBytes 2 t ++ leBytes 4 (secBytes img t).length ++ secBytes img t))
  let v := leNat (h.take 8)
  if v = 0 then 1 else v

/-- Load step 5 (R198). -/
def load5 (img : Bytes) : LoadFail := loadFirst 0x0811 [(byteField (secBytes img 0x50) 0 8 == modelSig img, 0x50, 0)]

/-- COLPTR of a pattern. -/
def colPtr (b : Bytes) (c : Nat) : Nat := byteField b (8 + 4 * c) 4

/-- ROWIDX of a pattern. -/
def rowIdx (b : Bytes) (k : Nat) : Nat := byteField b (8 + 4 * (byteField b 0 4 + 1) + 4 * k) 4

/-- A pattern is well formed (R196) and has the nonzeros of COUNTS. -/
def patternOk (b : Bytes) (nnz : Nat) : Bool :=
  let n := byteField b 0 4
  byteField b 4 4 == nnz && colPtr b 0 == 0 && colPtr b n == nnz &&
    (upTo n).all (fun c => colPtr b c ≤ colPtr b (c + 1) &&
      (upTo (colPtr b (c + 1) - colPtr b c)).all (fun j =>
        let r := rowIdx b (colPtr b c + j)
        c ≤ r && r < n && (j == 0 || rowIdx b (colPtr b c + j - 1) < r)))

/-- Load step 6 (R198). -/
def load6 (img : Bytes) : LoadFail :=
  let n := nNode img
  loadFirst 0x0810 (
    each 0x02 (nPipe img) (fun i => (pipeEnds img i).1 < n && (pipeEnds img i).2 < n) ++
    each 0x02 (nSubst img) (fun i => (substAtt img i).1 < n && (substAtt img i).2.1 < n && (substAtt img i).2.2 < nCluster img) ++
    each 0x02 (nPlant img) (fun i => (plantAtt img i).1 < n && (plantAtt img i).2 < n) ++
    each 0x02 (nStore img) (fun i => (storeAtt img i).1 < n && (storeAtt img i).2 < n) ++
    each 0x02 (nPump img) (fun i => (pumpAtt img i).1 < nPipe img && ((pumpAtt img i).2 < nPlant img || (pumpAtt img i).2 == 0xFF)) ++
    [(patternOk (secBytes img 0x20) (cnt img 0x18 4), 0x20, 0), (patternOk (secBytes img 0x21) (cnt img 0x1C 4), 0x21, 0)])

/-- Every connection of the graph: pipes, sub-stations, plants and stores. -/
def connections (img : Bytes) : List (Nat × Nat) :=
  (upTo (nPipe img)).map (pipeEnds img) ++
  (upTo (nSubst img)).map (fun i => ((substAtt img i).1, (substAtt img i).2.1)) ++
  (upTo (nPlant img)).map (plantAtt img) ++ (upTo (nStore img)).map (storeAtt img)

/-- The nodes reached after `fuel` rounds along connections. -/
def reach (es : List (Nat × Nat)) : Nat → List Nat → List Nat
  | 0, l => l
  | n + 1, l =>
    let add := es.filterMap (fun e =>
      if l.contains e.1 && !l.contains e.2 then some e.2 else if l.contains e.2 && !l.contains e.1 then some e.1 else none)
    if add = [] then l else reach es n (l ++ add.eraseDups)

/-- The nodes of a network. -/
def netNodes (img : Bytes) (k : Nat) : List Nat := (upTo (nNode img)).filter (fun i => nodeNet img i == k)

/-- A network is connected and holds exactly one pressure reference. -/
def netOk (img : Bytes) (k : Nat) : Bool :=
  let l := netNodes img k
  match l with
  | [] => false
  | a :: _ =>
    let r := reach (connections img) (nNode img) [a]
    l.all (fun i => r.contains i) && (l.filter (fun i => recN img 0x10 16 i 0xC 1 == 1)).length == 1

/-- Load step 7 (R198). -/
def load7 (img : Bytes) : LoadFail :=
  loadFirst 0x0812 (
    each 0x11 (nPipe img) (fun i => (pipeEnds img i).1 != (pipeEnds img i).2) ++
    each 0x02 (connections img).length (fun i =>
      let e := nth (0, 0) (connections img) i
      nodeNet img e.1 == nodeNet img e.2) ++
    each 0x10 (nNode img) (fun n => (upTo (nPipe img)).any (fun i => (pipeEnds img i).1 == n || (pipeEnds img i).2 == n)) ++
    each 0x16 (nCluster img) (fun c => (upTo (nSubst img)).any (fun i => (substAtt img i).2.2 == c)) ++
    each 0x01 (nNet img) (netOk img))

/-- A RANGE record (R230): its exponents lie within -64 to 63 and its last byte is 0. -/
def rangeOk (img : Bytes) (i : Nat) : Bool :=
  let b := secBytes img 0x30
  (upTo 3).all (fun k => let e := byteFieldS b (8 + 4 * i + k) 1; -64 ≤ e && e ≤ 63) && byteField b (8 + 4 * i + 3) 1 == 0

/-- Load step 8 (R198). -/
def load8 (img : Bytes) : LoadFail :=
  loadFirst 0x0805 (
    each 0x10 (nNode img) (fun i =>
      let lo := recS img 0x10 16 i 4 4
      let hi := recS img 0x10 16 i 8 4
      lo ≤ hi && (recN img 0x10 16 i 0xC 1 == 0 || lo == hi) && nodeNet img i < nNet img) ++
    each 0x11 (nPipe img) (fun i => 1 ≤ recN img 0x11 20 i 0 4 && 1 ≤ recN img 0x11 20 i 4 2 && 1 ≤ recN img 0x11 20 i 0xE 2) ++
    each 0x12 (nSubst img) (fun i => 1 ≤ recN img 0x12 16 i 2 2) ++
    each 0x13 (nPlant img) (fun i =>
      recN img 0x13 32 i 4 4 ≤ recN img 0x13 32 i 8 4 && recS img 0x13 32 i 0x10 2 ≤ recS img 0x13 32 i 0x12 2 &&
        recS img 0x13 32 i 0x14 4 ≤ recS img 0x13 32 i 0x18 4 && recN img 0x13 32 i 1 1 < nNet img) ++
    each 0x14 (nStore img) (fun i => 1 ≤ recN img 0x14 24 i 0 4 && recN img 0x14 24 i 0x12 2 ≤ recN img 0x14 24 i 0x14 2) ++
    each 0x15 (nPump img) (fun i => 1 ≤ recN img 0x15 24 i 0 2 && recN img 0x15 24 i 2 2 ≤ recN img 0x15 24 i 0 2) ++
    each 0x16 (nCluster img) (fun i => recS img 0x16 8 i 0 2 ≤ recS img 0x16 8 i 2 2 && recN img 0x16 8 i 4 1 < nNet img) ++
    [(byteField (secBytes img 0x30) 0 4 == byteField (secBytes img 0x20) 0 4 &&
        byteField (secBytes img 0x30) 4 4 == byteField (secBytes img 0x21) 0 4, 0x30, 0),
     (byteField (secBytes img 0x31) 0 4 == cnt img 0x10 4, 0x31, 0)] ++
    each 0x30 (byteField (secBytes img 0x20) 0 4 + byteField (secBytes img 0x21) 0 4) (rangeOk img))

/-- Load step 9 (R198). -/
def load9 (img : Bytes) : LoadFail := loadFirst 0x0813 [((upTo 7).all (fun k => base img k != 0), 0x03, 0)]

/-- The first failure of a chain of load steps. -/
def loadChain : List LoadFail → LoadFail
  | [] => none
  | some f :: _ => some f
  | none :: l => loadChain l

/-- The load of a model image: the header checks of R101 with section 0 and record 0, then steps 1 to 9 (R198). -/
def loadFail (s : State) (img : Bytes) : LoadFail :=
  loadChain [(imgFail s 2 img).map (fun r => (r, 0, 0)), load1 img, load2 img, load3 img, load4 s img, load5 img,
    load6 img, load7 img, load8 img, load9 img]

end Sys2Proof.Machine
end

