-- ==== Sys2Proof/Machine/Model.lean ====
section
/-! DEFINITION. The network model in effect and the sub-station table: host writes, the attribute pass and queries
(R204 to R214). -/

namespace Sys2Proof.Machine

/-- The model subsystem's state changed. -/
def onModel (f : ModelSt → ModelSt) (s : State) : State := { s with model := f s.model }

/-- A model is in effect. -/
def modelHere (s : State) : Bool := s.model.image != []

/-- A sub-station entry; unlisted entries are all 0. -/
def entry (s : State) (i : Nat) : Entry := (lookupNat i s.model.table).getD {}

/-- The entries of the table of the running variant (R205). -/
def tableSize (s : State) : Nat := if big s then 4096 else 1024

/-- An entry is written whole. -/
def setEntry (i : Nat) (e : Entry) (s : State) : State :=
  onModel (fun m => { m with table := if e = {} then eraseNat i m.table else insertNat i e m.table }) s

/-- The ONT of a boundary of trigger unit 14 or 15 that has been reached and whose command has not run: handed over already,
or still that unit's target (R330, R332). -/
def dueBoundary (unit : Nat) (s : State) : Option Nat :=
  match (if unit = 14 then s.time.pulse14 else s.time.pulse15), s.time.trg[unit]? with
  | some t, _ => some t
  | none, some t =>
    if t.armed && decide (signedDiff 48 (t.target % 2 ^ 48) (s.time.ont % 2 ^ 48) ≤ 0) then some t.target else none
  | none, none => none

/-- An entry's update is accepted (R18); what the entry held at a boundary whose snapshot is still to come is kept for that
snapshot (R19, R20). -/
def acceptEntry (i : Nat) (e : Entry) (s : State) : State :=
  let old := entry s i
  let s := match dueBoundary 14 s with
    | some t0 =>
      if old.tAcc ≤ t0 ∧ (lookupNat i s.model.prior).isNone = true then
        onModel (fun m => { m with prior := insertNat i old m.prior }) s
      else s
    | none => s
  setEntry i e s

/-- The table as the snapshot of boundary `t0` takes it: of every entry the last update accepted at or before `t0`, and
nothing where there was none (R19, R20). -/
def snapTable (t0 : Nat) (s : State) : List (Nat × Entry) :=
  (s.model.table.map (fun x =>
    if x.2.tAcc ≤ t0 then x
    else (x.1, (lookupNat x.1 s.model.prior).getD
      { gen := x.2.gen, present := x.2.present, group := x.2.group, source := x.2.source }))).filter (fun x => x.2 != {})

/-- An uncorrectable error in the words of an entry (R34, R214). -/
def entryBad (addr : Nat) (s : State) : State :=
  let lo := 0x100000000 + Config.tableBase % 2 ^ 24 * 64
  let i := (addr - lo) / 64
  if lo ≤ addr ∧ i < tableSize s then setEntry i { entry s i with eccBad := true } s else s

/-- STATE of an entry (R207). -/
def entryState (e : Entry) : Nat :=
  flagsNat [e.present, e.valid, e.srcHost, e.port == 1] + 256 * e.mPresent

/-- The 64 bytes of an entry (R206). -/
def entryBytes (e : Entry) : Bytes :=
  leBytes 4 e.gen ++ leBytes 2 (entryState e) ++ leBytes 1 e.group ++ leBytes 1 e.source ++ leBytes 8 e.tMeas ++
    leBytes 8 e.tAcc ++ leBytes 4 e.seq ++ leIntBytes 2 e.tSup ++ leIntBytes 2 e.tRet ++ leIntBytes 4 e.flow ++
    leIntBytes 4 e.dp ++ leBytes 2 e.valve ++ zeros 2 ++ leIntBytes 4 e.demand ++ leBytes 4 e.rejectCnt ++
    leBytes 4 e.keyEpoch ++ zeros 4 ++ leBytes 4 e.gen

/-- The measurements of an update: six values with their M_PRESENT bits; an absent one is 0 (R207). -/
def withMeas (mp : Nat) (tSup tRet flow dp : Int) (valve : Nat) (demand : Int) (e : Entry) : Entry :=
  { e with
    mPresent := mp
    valid := mp != 0
    tSup := if bit mp 0 then tSup else 0
    tRet := if bit mp 1 then tRet else 0
    flow := if bit mp 2 then flow else 0
    dp := if bit mp 3 then dp else 0
    valve := if bit mp 4 then valve else 0
    demand := if bit mp 5 then demand else 0
    eccBad := false }

/-- The 128 bytes of MODEL_INFO_GET (R204). -/
def modelInfo (s : State) : Bytes :=
  let img := s.model.image
  let here := modelHere s
  leBytes 1 (if !here then 0 else if s.model.switching then 2 else 1) ++ leBytes 1 (b2n s.model.slot) ++
    leBytes 1 (b2n (bootRec s).modelTrial) ++ zeros 1 ++ leBytes 2 (if here then imgSvn img else 0) ++ zeros 2 ++
    leBytes 8 (if here then imgVersion img else 0) ++ leBytes 8 s.host.modelSig ++
    leBytes 8 (if s.model.switching then modelSig s.model.staged else 0) ++
    leBytes 8 (if s.model.switching then s.model.tsw else 0) ++ zeros 24 ++ padTo 64 (secBytes img 0x01)

/-- The effect of MODEL_INFO_GET (R204). -/
def modelInfoGet (p : Bytes) (s : State) : Answer := if p ≠ [] then refuse s 0x080A else done s (modelInfo s)

/-- MODEL_INFO_GET (0x0800). -/
def execModelInfoGet (m : Mail) (s : State) : Out := mailOut 0x0800 m (modelInfoGet m.payload) s

/-- The k-th 40-byte record of a MODEL_SUBST_WRITE (R209). -/
def substRec (p : Bytes) (k : Nat) : Bytes := (p.drop (4 + 40 * k)).take 40

/-- Reserved bits and bytes of a record are 0 (R209). -/
def substFormOk (r : Bytes) : Bool :=
  byteField r 2 2 < 64 && byteField r 4 4 == 0 && byteField r 0x1E 2 == 0 && byteField r 0x24 4 == 0

/-- A temperature field is absent or within -50.00 to 200.00 °C (R210). -/
def tempOk (present : Bool) (t : Int) : Bool := !present || (decide (-5000 ≤ t) && decide (t ≤ 20000))

/-- The number of sub-stations under which updates are checked: from the attribute pass on, that of the new model (R212). -/
def attrN (s : State) : Nat := nSubst (if s.model.switching && s.model.passDone then s.model.staged else s.model.image)

/-- The reason for which a record is refused (R210). -/
def substFail (s : State) (r : Bytes) : Option Nat :=
  let i := byteField r 0 2
  let mp := byteField r 2 2
  if !substFormOk r then some 0x080A
  else if !modelHere s then some 0x0803
  else if attrN s ≤ i then some 0x0805
  else if (entry s i).source = 0 then some 0x0814
  else if !(tempOk (bit mp 0) (byteFieldS r 0x10 2) && tempOk (bit mp 1) (byteFieldS r 0x12 2)) then some 0x0805
  else if s.time.ont + parN s 0x0800 * 1000000 < byteField r 8 8 then some 0x0815
  else none

/-- The first failing record: index in the payload and reason. -/
def substFirst (s : State) (p : Bytes) : List Nat → Option (Nat × Nat)
  | [] => none
  | k :: l => match substFail s (substRec p k) with
    | some r => some (k, r)
    | none => substFirst s p l

/-- One record is applied, or skipped where its T_MEAS is not later than the entry's (R211). An ingest update of the same ONT
is one of the same fabric cycle: it is applied second and prevails, so of the host's update only the generation is seen
(R18; DEDUCED, log 23). -/
def substApply (r : Bytes) (s : State) : State × Bool :=
  let i := byteField r 0 2
  let e := entry s i
  if byteField r 8 8 ≤ e.tMeas then (s, false)
  else if e.tAcc = s.time.ont ∧ e.srcHost = false ∧ 0 < e.tMeas then
    (acceptEntry i { e with gen := wrapInc 32 e.gen } s, true)
  else
    let e := withMeas (byteField r 2 2) (byteFieldS r 0x10 2) (byteFieldS r 0x12 2) (byteFieldS r 0x14 4)
      (byteFieldS r 0x18 4) (byteField r 0x1C 2) (byteFieldS r 0x20 4) e
    (acceptEntry i { e with
      gen := wrapInc 32 e.gen, tMeas := byteField r 8 8, tAcc := s.time.ont, srcHost := true, keyEpoch := 0 } s, true)

/-- The records of a command are applied in order; the bits of those skipped are collected. -/
def substAll (p : Bytes) : List Nat → State → State × Nat × Nat
  | [], s => (s, 0, 0)
  | k :: l, s =>
    let (s, ok) := substApply (substRec p k) s
    let (s, a, m) := substAll p l s
    (s, if ok then a + 1 else a, if ok then m else m + 2 ^ k)

/-- The effect of MODEL_SUBST_WRITE (R209 to R211). -/
def substWrite (p : Bytes) (s : State) : Answer :=
  let n := byteField p 0 2
  if p.length < 4 ∨ n = 0 ∨ 24 < n ∨ p.length ≠ 4 + 40 * n ∨ byteField p 2 2 ≠ 0 then refuse s 0x080A 0 (leBytes 2 0)
  else match substFirst s p (upTo n) with
    | some (k, r) => refuse s r 0 (leBytes 2 k)
    | none =>
      let (s, a, m) := substAll p (upTo n) s
      done s (leBytes 2 a ++ leBytes 2 (n - a) ++ leBytes 4 m)

/-- MODEL_SUBST_WRITE (0x0810). -/
def execModelSubstWrite (m : Mail) (s : State) : Out := mailOut 0x0810 m (substWrite m.payload) s

/-- An entry as the attribute pass rewrites it for a model (R212). -/
def passEntry (img : Bytes) (i : Nat) (e : Entry) : Entry :=
  let g := wrapInc 32 e.gen
  if i < nSubst img then
    let grp := recN img 0x12 16 i 0 1
    let src := recN img 0x12 16 i 1 1
    if !e.present then { gen := g, present := true, group := grp, source := src }
    else if e.group = grp then { e with gen := g, group := grp, source := src, present := true }
    else { e with gen := g, group := grp, source := src, present := true, seq := 0, keyEpoch := 0 }
  else { gen := g }

/-- The attribute pass over the whole table for a model, in ascending index (R212). -/
def attributePass (img : Bytes) (s : State) : State :=
  (upTo (tableSize s)).foldl (fun s i => setEntry i (passEntry img i (entry s i)) s) s

/-- The pass of the pending switch may start: 5 ms before tsw, or at the response where tsw has no boundary (R200). -/
def passOpen (s : State) : Bool :=
  s.model.switching && !s.model.passDone && (s.model.tswKind == 2 || decide (s.model.tsw ≤ s.time.ont + 5000000))

/-- ATTRIBUTE_PASS (R200 step 1, R212): Malor's pass for the pending switch. -/
def execAttributePass (s : State) : Out :=
  .next (if passOpen s && malorWorks s then
    onModel (fun m => { m with passDone := true }) (attributePass s.model.staged s) else s)

/-- The model in effect is gone: no image, signature 0, every entry absent and 0 apart from GEN (R198, R205). -/
def modelGone (s : State) : State :=
  onHost (fun h => { h with modelSig := 0 }) (onModel (fun m => { m with image := [] })
    ((s.model.table.map (·.1)).foldl (fun s i => setEntry i { gen := (entry s i).gen } s) s))

/-- The part of T_DROVE that one sub-step takes, in µs: 2,048 bytes ÷ 1.024 GB/s is 2 µs (R271). -/
def tSubUs (img : Bytes) : Nat := 2 * nPipe img + 500

/-- Malor reserves the factor store, the parcel store and the departure log at a model load and writes their bases,
aligned as the registers are; where in DRAM they lie is open (R231, R263, R274, R305). -/
def modelPlace (s : State) : State :=
  { s with
    free := s.free + 3
    ox := { s.ox with fstore := Config.freeNat s.free % 2 ^ 24 * 4096 }
    est := { s.est with base := Config.freeNat (s.free + 1) % 2 ^ 26 * 1024 }
    dsp := { s.dsp with logBase := Config.freeNat (s.free + 2) % 2 ^ 24 * 4096 } }

/-- A model comes into effect; Malor writes DROVE_TDROVE (R271, R274). -/
def modelEffect (img : Bytes) (slot : Bool) (s : State) : State :=
  let s := onHost (fun h => { h with modelSig := modelSig img }) (onModel (fun m => { m with image := img, slot := slot }) (modelPlace s))
  { s with est := { s.est with tSub := tSubUs img, tdrove := parN s 0x0727 * tSubUs img + 2000 } }

/-- At start step 6 the active model slot is loaded (R198, R203); a failure leaves no model in effect. -/
def modelLoad (s : State) : State :=
  let slot := (bootRec s).modelActive
  let img := slotImage s 2 slot
  match loadFail s img with
  | some (r, t, i) => raise 0x0814 49 (r + 65536 * t) i (b2n slot) (modelGone s)
  | none => attributePass img (modelEffect img slot s)

/-- MODEL_COPY_ECC (R214): Malor reloads the copy from the slot in effect. -/
def modelCopyEcc (sectType : Nat) (s : State) : State :=
  if modelHere s && malorWorks s then
    raise 0x0816 51 sectType 0 0 (onModel (fun m => { m with image := slotImage s 2 m.slot }) s)
  else s

/-- MODEL_COPY_ECC (R214). -/
def execModelCopyEcc (sectType : Nat) (s : State) : Out := .next (modelCopyEcc sectType s)

/-- The PRESENT entries of a snapshot that are silent at its boundary (R213). -/
def silentEntries (s : State) (snap : List (Nat × Entry)) (t0 : Nat) : List Nat :=
  (upTo (nSubst s.model.image)).filter (fun i =>
    let e := (lookupNat i snap).getD {}
    let r := recN s.model.image 0x12 16 i 0xC 2
    e.present && r != 0 && e.tAcc + r * 1000000000 < t0)

/-- The silence alarm of a snapshot (R213). -/
def silentCheck (snap : List (Nat × Entry)) (t0 : Nat) (s : State) : State :=
  let l := silentEntries s snap t0
  let th := parN s 0x0801
  if th = 0 then s
  else if th ≤ l.length then
    if s.model.silentRaised then s
    else raise 0x0815 50 l.length (l.headD 0) 0 (onModel (fun m => { m with silentRaised := true }) s)
  else onModel (fun m => { m with silentRaised := false }) s

end Sys2Proof.Machine
end

