-- ==== Sys2Proof/Machine/Sources.lean ====
section
/-! DEFINITION. The plant-side sources that loops, estimation and meters read, and the destinations the hand-off writes
(R256, R303, R359, R477). -/

namespace Sys2Proof.Machine

/-- One controller. -/
def canOf (s : State) (c : Nat) : CanSt := nth {} s.can c

/-- The record of an object. -/
def canObj (x : CanSt) (o : Nat) : CanObj := (lookupNat o x.objs).getD {}

/-- The IDs of a controller's and of an object's parameters (R492). -/
def canId (c j : Nat) : Nat := 0x4800 + 0x40 * c + j
def canObjId (c o k : Nat) : Nat := 0x4C00 + 0x400 * c + 8 * o + k

/-- The committed value of an object's parameter. -/
def op (s : State) (c o k : Nat) : Nat := actN s (canObjId c o k)

/-- Data bytes of a DLC (R472). -/
def dlcLen (fd : Bool) (dlc : Nat) : Nat :=
  if dlc ≤ 8 then dlc else if fd then nth 64 [12, 16, 20, 24, 32, 48, 64] (dlc - 9) else 8

/-- The object has classical format: a transmit object without FDF, a receive object for classical frames only. -/
def objClassic (s : State) (c o : Nat) : Bool :=
  if op s c o 0 = 2 then !bit (op s c o 3) 0 else op s c o 3 / 4 == 1

/-- The data length L of an object (R476). -/
def objLen (s : State) (c o : Nat) : Nat := dlcLen (!objClassic s c o) (op s c o 4)

/-- A signal of a receive object: value and timestamp of the last frame long enough (R477). -/
def canSignal (s : State) (index sub : Nat) : Option (Int × Nat) :=
  ((canObj (canOf s (index / 128)) (index % 128)).frames.find? (fun f => decide (sub + 4 ≤ f.1))).map
    (fun f => (byteFieldS f.2.2 sub 4, f.2.1))

/-- A signal is valid under R477: a receive object, and the four bytes lie within its length. -/
def signalValid (s : State) (index sub : Nat) : Bool :=
  decide (index < 512) && op s (index / 128) (index % 128) 0 == 1 && decide (sub + 4 ≤ objLen s (index / 128) (index % 128))

/-- The value of a source in its own unit, with the ONT of its last sample (R255, R256, R359). -/
def sourceValue (s : State) (src index sub : Nat) : Option (Int × Nat) :=
  match src with
  | 1 =>
    let c := nth {} s.adc.ch index
    if bit c.flags 0 then some (c.result, c.ts) else none
  | 2 =>
    let m := nth {} s.meter.units index
    m.valAt.map (fun t => (match sub with | 0 => m.flow | 1 => m.tSup | _ => m.tRet, t))
  | 3 => canSignal s index sub
  | 4 => let x := nth {} s.axes index; x.valAt.map (fun t => (x.pos, t))
  | 5 => let x := nth {} s.loops index; x.valAt.map (fun t => (x.pv, t))
  | _ => none

/-- An entry of EST_INPUT_MAP (R256): KIND, SRC, OBJECT, SRC_INDEX, SRC_SUB, GAIN, OFFSET. -/
structure InputMap where
  kind : Nat
  src : Nat
  object : Nat
  index : Nat
  sub : Nat
  rsv : Nat
  gain : Int
  offset : Int
  deriving DecidableEq, Repr

/-- Entry `i` of EST_INPUT_MAP. -/
def inputMap (s : State) (i : Nat) : InputMap :=
  { kind := tabN s 0x0728 (16 * i) 1, src := tabN s 0x0728 (16 * i + 1) 1, object := tabN s 0x0728 (16 * i + 2) 2
    index := tabN s 0x0728 (16 * i + 4) 2, sub := tabN s 0x0728 (16 * i + 6) 1, rsv := tabN s 0x0728 (16 * i + 7) 1
    gain := tabS s 0x0728 (16 * i + 8) 4, offset := tabS s 0x0728 (16 * i + 12) 4 }

/-- The used entries of EST_INPUT_MAP. -/
def usedInputs (s : State) : List Nat := (upTo 256).filter (fun i => (inputMap s i).kind != 0)

/-- A source is about to be sampled again: for every estimation input that it feeds, the sample that a boundary whose
snapshot is still to come has to take is kept (R19). -/
def holdSample (src index : Nat) (s : State) : State :=
  match dueBoundary 14 s with
  | none => s
  | some t0 =>
    let is := (usedInputs s).filter (fun i => let e := inputMap s i
      e.src == src && e.index == index && (lookupNat i s.est.held).isNone)
    { s with est := { s.est with held := is.foldl (fun l i =>
        let v := sourceValue s src index (inputMap s i).sub
        if v.all (fun x => decide (x.2 ≤ t0)) then insertNat i v l else l) s.est.held } }

/-- The last sample of an input at or before `t0` (R19). -/
def sampleAt (s : State) (t0 i : Nat) : Option (Int × Nat) :=
  match lookupNat i s.est.held with
  | some v => v
  | none =>
    let e := inputMap s i
    match sourceValue s e.src e.index e.sub with
    | some (v, ts) => if ts ≤ t0 then some (v, ts) else none
    | none => none

/-- SRC_INDEX and SRC_SUB are valid for SRC (R257, R359). -/
def sourceValid (s : State) (src index sub : Nat) : Bool :=
  match src with
  | 1 => decide (index < 24) && sub == 0
  | 2 => decide (2 ≤ index) && decide (index ≤ 5) && decide (sub ≤ 2)
  | 3 => signalValid s index sub
  | 4 => decide (index < (unitCount s 11).1) && sub == 0
  | 5 => decide (index < (unitCount s 10).1) && sub == 0
  | _ => false

/-- The unit that a source belongs to. -/
def sourceUnit (src index : Nat) : Nat × Nat :=
  match src with
  | 1 => (13, index)
  | 2 => (14, index)
  | 3 => (15, index / 128)
  | 4 => (11, index)
  | _ => (10, index)

/-- The source's unit is enabled (R257). -/
def sourceEnabled (s : State) (src index : Nat) : Bool := let u := sourceUnit src index; enabled s u.1 u.2

/-- The net energy that both electrical feeders have taken in, in mWh (R287, R451). -/
def feederEnergy (s : State) : Int :=
  let a := fun i => ((nth 0 s.meter.acc i : Nat) : Int)
  a 0 - a 1 + a 5 - a 6

/-- DEST_INDEX and DEST_SUB are valid for DEST (R303, R480). -/
def destValid (s : State) (dest index sub : Nat) : Bool :=
  match dest with
  | 1 => decide (index < (unitCount s 10).1) && sub == 0
  | 2 => decide (index < (unitCount s 11).1) && sub == 0
  | 3 => decide (index < 512) && op s (index / 128) (index % 128) 0 == 2 &&
      decide (sub + 4 ≤ objLen s (index / 128) (index % 128))
  | _ => false

/-- The unit that a destination belongs to. -/
def destUnit (dest index : Nat) : Nat × Nat :=
  match dest with
  | 1 => (10, index)
  | 2 => (11, index)
  | 3 => (15, index / 128)
  | _ => (16, 2)

/-- The destination's unit is enabled (R306). -/
def destEnabled (s : State) (dest index : Nat) : Bool := let u := destUnit dest index; enabled s u.1 u.2

end Sys2Proof.Machine
end

