-- ==== Sys2Proof/Machine/Gate.lean ====
section
/-! DEFINITION. What gates the plant's outputs: permits, the pair grant, the hold line and FAIL (R25, R513 to R519). -/

namespace Sys2Proof.Machine

/-- The pair's state changed. -/
def onPair (f : PairSt → PairSt) (s : State) : State := { s with pair := f s.pair }

/-- The pair grant as the output stage sees it; a stand-alone unit always has it (R513). -/
def grant (s : State) : Bool := !s.pair.running || s.pair.grant

/-- The hold line as the output stage sees it; a stand-alone unit never has it (R513). -/
def holdLine (s : State) : Bool := s.pair.running && s.pair.hold

/-- No grant and no hold: the state STANDBY of every gated block (R368, R387, R408). -/
def standby (s : State) : Bool := !grant s && !holdLine s

/-- A permit bit of the output stage's permit image (R401). -/
def permitBit (s : State) (i : Nat) : Bool := s.logic.permit.getLsbD i

/-- PAIR_HOLD_REMAIN in ms (R537). -/
def holdRemain (s : State) : Nat :=
  if s.pair.hold then actN s 0x1101 - (s.power.netTick - s.pair.holdTick) / 125000 else 0

/-- Every pending CAN frame is cleared: HOLD and STANDBY (R481), failsafe (R516). -/
def canPendingGone (s : State) : State :=
  { s with can := s.can.map (fun x =>
      { x with objs := x.objs.map (fun p => (p.1, { p.2 with pending := false, again := false })) }) }

/-- The hold line is asserted; a hold that runs is not extended (R515). -/
def holdStart (why : Nat) (s : State) : State :=
  if s.pair.hold then s
  else
    let s := canPendingGone (onPair (fun p => { p with hold := true, holdTick := s.power.netTick, holdWhy := why }) s)
    raise 0x1111 113 1 why (holdRemain s) s

/-- FAIL is set with its first cause, and latched (R513, R519); a hold starts in the same cycle, whose event has the lower
SOURCE (R544). -/
def failLatch (cause : Nat) (s : State) : State :=
  if s.pair.fail then s
  else
    let s := onPair (fun p => { p with fail := true, cause := cause }) s
    raise 0x1116 118 cause (ontLo s) 0 (if s.pair.running then holdStart 1 s else s)

/-- A mirrored entry that waits for its block is taken (R526, R528). -/
def mirrorTake (kind index : Nat) (s : State) : Option Bytes × State :=
  match s.pair.period with
  | none => (none, s)
  | some p =>
    match p.items.find? (fun x => x.1 == kind && x.2.1 == index) with
    | none => (none, s)
    | some x =>
      (some x.2.2, onPair (fun q => { q with
        period := some { p with items := p.items.filter (fun y => !(y.1 == kind && y.2.1 == index)) } }) s)

end Sys2Proof.Machine
end

