-- ==== Sys2Proof/Machine/Water.lean ====
section
/-! DEFINITION. Water properties: the table of R454 with its linear interpolation, and the exact arithmetic helpers of
the hydraulic and dispatch rules. -/

namespace Sys2Proof.Machine

/-- The rows of the water property table, 0 to 200 °C in steps of 10: density in 0.1 kg/m³, heat capacity in
J/(kg·K), viscosity in 0.001 mm²/s (R454). -/
def waterRows : List (Int × Int × Int) :=
  [(9998, 4217, 1792), (9997, 4193, 1306), (9982, 4183, 1004), (9957, 4179, 801), (9922, 4179, 658), (9880, 4181, 553),
   (9832, 4185, 474), (9777, 4190, 413), (9717, 4196, 364), (9653, 4205, 326), (9584, 4216, 294)] ++
  [(9509, 4229, 268), (9431, 4245, 246), (9348, 4263, 228), (9261, 4285, 212), (9170, 4310, 199), (9074, 4339, 188),
   (8973, 4371, 178), (8869, 4408, 169), (8760, 4449, 162), (8647, 4497, 155)]

/-- A property at a temperature in 0.01 °C, interpolated linearly between rows and held beyond them (R454). -/
def waterAt (f : Int × Int × Int → Int) (t : Int) : Rat :=
  let tc := clamp 0 20000 t
  let i := min 19 (tc / 1000).toNat
  let a := f (nth (0, 0, 0) waterRows i)
  let b := f (nth (0, 0, 0) waterRows (i + 1))
  (a : Rat) + ((b - a : Int) : Rat) * ((tc - 1000 * (i : Int) : Int) : Rat) / 1000

/-- The same at a temperature given exactly, in °C. -/
def waterExact (f : Int × Int × Int → Int) (t : Rat) : Rat :=
  let tc : Rat := if t < 0 then 0 else if 200 < t then 200 else t
  let i := min 19 (tc / 10).floor.toNat
  let a := f (nth (0, 0, 0) waterRows i)
  let b := f (nth (0, 0, 0) waterRows (i + 1))
  (a : Rat) + ((b - a : Int) : Rat) * (tc - 10 * (i : Rat)) / 10

/-- ρ in kg/m³. -/
def waterRho (t : Int) : Rat := waterAt (fun r => r.1) t / 10

/-- c in J/(kg·K). -/
def waterC (t : Int) : Rat := waterAt (fun r => r.2.1) t

/-- ν in m²/s. -/
def waterNu (t : Int) : Rat := waterAt (fun r => r.2.2) t / 1000000000

/-- T_RANGE: the temperature lies outside the table. -/
def waterOut (t : Int) : Bool := t < 0 || 20000 < t

/-- Rounding to the nearest integer, ties away from zero (R12). -/
def ratRound (x : Rat) : Int := divRound x.num x.den

/-- The absolute value. -/
def ratAbs (x : Rat) : Rat := if x < 0 then -x else x

/-- The larger of two values. -/
def ratMax (a b : Rat) : Rat := if a < b then b else a

/-- The smaller of two values. -/
def ratMin (a b : Rat) : Rat := if b < a then b else a

/-- A value held between two limits, each possibly absent. -/
def ratClamp (lo hi : Option Rat) (x : Rat) : Rat :=
  let y := match lo with | some l => ratMax l x | none => x
  match hi with | some h => ratMin h y | none => y

/-- The greatest absolute value of a list. -/
def maxAbs (l : List Rat) : Rat := l.foldl (fun a x => ratMax a (ratAbs x)) 0

/-- The sum of a list. -/
def ratSum (l : List Rat) : Rat := l.foldl (· + ·) 0

/-- Two to an integer power. -/
def twoPow (e : Int) : Rat := if 0 ≤ e then ((2 ^ e.toNat : Nat) : Rat) else 1 / ((2 ^ (-e).toNat : Nat) : Rat)

/-- The whole part of log2 of a positive fraction. -/
def ratLog2 (x : Rat) : Int :=
  let e : Int := (Nat.log2 x.num.natAbs : Int) - (Nat.log2 x.den : Int)
  if x < twoPow e then e - 1 else e

/-- π to thirty places. -/
def piApprox : Rat := 3141592653589793238462643383279 / 1000000000000000000000000000000

end Sys2Proof.Machine
end

