-- ==== Sys2Proof/Machine/Lanes.lean ====
section
/-! DEFINITION. The arithmetic of Ox on held mantissas: accumulation, narrowing, factorisation, solves and residuals (R229,
R231 to R237). The microcode is not published (R223); what it leaves open is settled as log 41 says. -/

namespace Sys2Proof.Machine

/-- STICKY bits with their columns, in the order in which they arise (R246). -/
abbrev Marks := List (Nat × Nat)

/-- An operand pair: two mantissas with their exponents. -/
abbrev Product := Int × Int × Int × Int

/-- A value saturated to `w` bits, and whether that saturated. -/
def satFlag (w : Nat) (v : Int) : Int × Bool := (satS w v, satS w v != v)

/-- The value of a mantissa at an exponent (R229). -/
def mantVal (m e : Int) : Rat := (m : Rat) * twoPow (e - 31)

/-- A value brought into a container at exponent `e` under R12; a saturation marks STICKY bit `b` (R231). -/
def toMant (b col : Nat) (e : Int) (v : Rat) : Int × Marks :=
  let (m, f) := satFlag 32 (ratRound (v * twoPow (31 - e)))
  (m, if f then [(b, col)] else [])

/-- A product aligned to the accumulator, and ACC_SAT where a left shift leaves 72 bits (R232). -/
def alignProduct (e : Int) (p : Product) : Int × Bool :=
  let (mx, ex, my, ey) := p
  let k := ex + ey - e
  let p := mx * my
  if k < 0 then (p / (2 ^ (-k).toNat : Nat), false) else satFlag 72 (p * (2 ^ k.toNat : Nat))

/-- The accumulation of products at exponent `e`: the accumulator and ACC_SAT (R232). -/
def accumulate (e : Int) : List Product → Int × Bool → Int × Bool
  | [], a => a
  | p :: l, (a, f) =>
    let (p, g) := alignProduct e p
    let (b, h) := satFlag 72 (a + p)
    accumulate e l (b, f || g || h)

/-- The narrowing of an accumulator: the mantissa and whether it saturated (R233). -/
def narrow (a : Int) : Int × Bool := satFlag 32 (shiftRound a 31)

/-- Products accumulated at exponent `e` and narrowed: ACC_SAT, and STICKY bit `b` for a narrowing that saturates (R232,
R233, R235). -/
def lane (b col : Nat) (e : Int) (l : List Product) : Int × Marks :=
  let (a, f) := accumulate e l (0, false)
  let (m, g) := narrow a
  (m, (if f then [(1, col)] else []) ++ (if g then [(b, col)] else []))

/-- A value entering an accumulator by itself: its product with 1 (DESIGN CHOICE, log 41). -/
def whole (m e : Int) : Product := (m, e, 2 ^ 30, 1)

/-- A vector computed component by component, with the marks in order. -/
def vecOf (n : Nat) (f : Nat → Int × Marks) : List Int × Marks :=
  let l := (upTo n).map f
  (l.map (·.1), l.flatMap (·.2))

/-- What fixes one matrix: its pattern by column (R196), the elimination order with each column's EL and ED (R222), the sign
bits, and EA, EB, EX of each column (R230). -/
structure Frame where
  n : Nat
  cols : List (List Nat)
  order : List (Nat × Int × Int)
  neg : Nat → Bool
  ea : Nat → Int
  eb : Nat → Int
  ex : Nat → Int

/-- The place of a column's first nonzero. -/
def Frame.ptr (f : Frame) (c : Nat) : Nat := ((f.cols.take c).map List.length).foldl (· + ·) 0

/-- The matrix value at (r, c), with its exponent; the lower triangle is held. None outside the pattern. -/
def Frame.value (f : Frame) (mat : List Int) (r c : Nat) : Option (Int × Int) :=
  let lo := min r c
  match (nth [] f.cols lo).findIdx? (fun x => x == max r c) with
  | some i => some (nth 0 mat (f.ptr lo + i), f.ea lo)
  | none => none

/-- The matrix values brought into their containers: EST_ASSEMBLE and KKT_LOAD (R231). -/
def assemble (f : Frame) (v : Nat → Nat → Rat) : List Int × Marks :=
  let l := (upTo f.n).flatMap (fun c => (nth [] f.cols c).map (fun r => toMant 0 c (f.ea c) (v r c)))
  (l.map (·.1), l.flatMap (·.2))

/-- The pivot test (R234). -/
def pivotBad (tau : Nat) (m : Int) (neg : Bool) : Bool :=
  m == 0 || decide (m.natAbs < 2 ^ (31 - tau)) || (decide (m < 0) != neg)

/-- The pivot that the factorisation continues with (R234). -/
def pivotTake (tau delta : Nat) (m : Int) (neg : Bool) : Int :=
  if pivotBad tau m neg then (if neg then -(2 ^ (31 - delta) : Nat) else (2 ^ (31 - delta) : Nat)) else m

/-- The reciprocal of a pivot mantissa at ED: a normalised mantissa and its exponent. It is correct to ±1 LSB: which of
those values the unit gives is open (R235). -/
def reciprocal (m ed : Int) : Int × Int :=
  if m = 0 then (0, 0)
  else
    let v := 1 / ratAbs (mantVal m ed)
    let e := ratLog2 v + 1
    let k : Int := ratRound (v * twoPow (31 - e)) + ((Config.recipLsb m % 3 : Nat) : Int) - 1
    let k := clamp (2 ^ 30) (2 ^ 31 - 1) k
    (if m < 0 then -k else k, e)

/-- The entry of a column's panel in a row. -/
def low (l : List (Nat × Int)) (r : Nat) : Option Int := (l.find? (fun x => x.1 == r)).map (·.2)

/-- A column under elimination: its factor column and the undivided entries w, which are held at ED of its supernode
(DESIGN CHOICE, log 41). -/
abbrev Elim := FacCol × List (Nat × Int)

/-- The products that the columns eliminated so far subtract from entry (r, c): -L_rk · w_ck (log 41). -/
def updates (done : List Elim) (r c : Nat) : List Product :=
  done.reverse.filterMap (fun k => match low k.1.low r, low k.2 c with
    | some lr, some wc => some (-lr, k.1.el, wc, k.1.ed)
    | _, _ => none)

/-- Entry (r, c) of the matrix less what the columns eliminated so far subtract, narrowed to ED: for r = c the pivot (R234),
else the undivided entry w of the panel (log 41). -/
def remaining (f : Frame) (mat : List Int) (done : List Elim) (r c : Nat) (ed : Int) : Int × Marks :=
  let own := match f.value mat r c with | some (m, e) => [whole m e] | none => []
  lane 2 c ed (own ++ updates done r c)

/-- Column `c` is eliminated (R234, R235): pivot, reciprocal, and the panel entries of the later rows that the pattern or
earlier columns fill. -/
def elimColumn (f : Frame) (mat : List Int) (tau delta : Nat) (done : List Elim) (c : Nat) (el ed : Int) (later : List Nat) :
    Elim × Marks :=
  let (m, marks) := remaining f mat done c c ed
  let bad := pivotBad tau m (f.neg c)
  let rc := reciprocal (pivotTake tau delta m (f.neg c)) ed
  let rows := later.filter (fun r => (f.value mat r c).isSome ||
    done.any (fun k => (low k.1.low r).isSome && (low k.1.low c).isSome))
  let ws := rows.map (fun r => (r, remaining f mat done r c ed))
  let ls := ws.map (fun x => (x.1, lane 3 c el [(x.2.1, ed, rc.1, rc.2)]))
  (({ col := c, el := el, ed := ed, recip := rc.1, recipE := rc.2, bad := bad, low := ls.map (fun x => (x.1, x.2.1)) },
    ws.map (fun x => (x.1, x.2.1))),
   marks ++ (ws ++ ls).flatMap (fun x => x.2.2))

/-- The columns of an elimination order are eliminated one after the other; the newest stands first. -/
def eliminate (f : Frame) (mat : List Int) (tau delta : Nat) : List (Nat × Int × Int) → List Elim × Marks → List Elim × Marks
  | [], a => a
  | (c, el, ed) :: l, (done, marks) =>
    let (k, m) := elimColumn f mat tau delta done c el ed (l.map (·.1))
    eliminate f mat tau delta l (k :: done, marks ++ m)

/-- The factor LDLᵀ of a matrix in elimination order, with its marks (R217, R234, R235). -/
def factorise (f : Frame) (mat : List Int) (tau delta : Nat) : List FacCol × Marks :=
  let (done, marks) := eliminate f mat tau delta f.order ([], [])
  (done.reverse.map (·.1), marks)

/-- The forward sweep y = L⁻¹b; `b` comes as operands that enter the accumulators whole (R236). -/
def forward (f : Frame) (b : Nat → Product) : List FacCol → List (FacCol × Int) → Marks → List (FacCol × Int) × Marks
  | [], done, marks => (done, marks)
  | k :: l, done, marks =>
    let sub := done.reverse.filterMap (fun d => (low d.1.low k.col).map (fun m => ((-m, d.1.el, d.2, f.ex d.1.col) : Product)))
    let (y, mk) := lane 2 k.col (f.ex k.col) (b k.col :: sub)
    forward f b l ((k, y) :: done) (marks ++ mk)

/-- The backward sweep x = L⁻ᵀz over columns from the last to the first (R236). -/
def backward (f : Frame) : List (FacCol × Int) → List (Nat × Int) → Marks → List (Nat × Int) × Marks
  | [], x, marks => (x, marks)
  | (k, z) :: l, x, marks =>
    let sub := k.low.filterMap (fun e => (lookupNat e.1 x).map (fun v => ((-e.2, k.el, v, f.ex e.1) : Product)))
    let (v, mk) := lane 2 k.col (f.ex k.col) (whole z (f.ex k.col) :: sub)
    backward f l ((k.col, v) :: x) (marks ++ mk)

/-- A solve: forward sweep, diagonal step with the reciprocal table, backward sweep; intermediates take EX (R236). -/
def solveFactor (f : Frame) (fac : List FacCol) (b : Nat → Product) : List Int × Marks :=
  let (y, m1) := forward f b fac [] []
  let z := y.map (fun p => (p.1, lane 3 p.1.col (f.ex p.1.col) [(p.2, f.ex p.1.col, p.1.recip, p.1.recipE)]))
  let (x, m3) := backward f (z.map (fun p => (p.1, p.2.1))) [] (m1 ++ (z.reverse).flatMap (fun p => p.2.2))
  ((upTo f.n).map (fun c => (lookupNat c x).getD 0), m3)

/-- The right-hand side as operands at EB. -/
def rhsOps (f : Frame) (b : List Int) (c : Nat) : Product := whole (nth 0 b c) (f.eb c)

/-- The accumulators of the residual b - A·x at EB (R237). -/
def residualOf (f : Frame) (mat b x : List Int) : List Int × Marks :=
  vecOf f.n (fun c =>
    let sub := (upTo f.n).filterMap (fun k => (f.value mat c k).map (fun v => ((-v.1, v.2, nth 0 x k, f.ex k) : Product)))
    let (a, g) := accumulate (f.eb c) (rhsOps f b c :: sub) (0, false)
    (a, if g then [(1, c)] else []))

/-- The infinity norm of the values that residual accumulators stand for (R232, R237). -/
def residualNorm (f : Frame) (acc : List Int) : Rat :=
  maxAbs ((upTo f.n).map (fun c => (nth 0 acc c : Rat) * twoPow (f.eb c - 62)))

/-- The infinity norm of a right-hand side. -/
def rhsNorm (f : Frame) (b : List Int) : Rat := maxAbs ((upTo f.n).map (fun c => mantVal (nth 0 b c) (f.eb c)))

/-- The shift g of R237: the largest from 0 to 62 that keeps every scaled accumulator within a 32-bit mantissa. -/
def residualShift (acc : List Int) : Nat :=
  (((upTo 63).filter (fun g => acc.all (fun a => !(narrow (a * 2 ^ g)).2))).getLast?).getD 0

/-- The residual scaled by 2^g as a right-hand side (R237). -/
def residualRhs (g : Nat) (acc : List Int) : List Int × Marks :=
  vecOf acc.length (fun c => let (m, f) := narrow (nth 0 acc c * 2 ^ g); (m, if f then [(2, c)] else []))

/-- x + 2^-g · d (R237). -/
def corrected (f : Frame) (x d : List Int) (g : Nat) : List Int × Marks :=
  vecOf f.n (fun c => lane 2 c (f.ex c) [whole (nth 0 x c) (f.ex c), whole (nth 0 d c) (f.ex c - g)])

/-- x - 2^-k · d, a step of the line search (R259). -/
def stepBack (f : Frame) (x d : List Int) (k : Nat) : List Int × Marks :=
  vecOf f.n (fun c => lane 2 c (f.ex c) [whole (nth 0 x c) (f.ex c), whole (-(nth 0 d c)) (f.ex c - k)])

/-- A norm of the solver (R247): a UQ0.32 mantissa and an exponent; its value is m x 2^(e - 32). -/
structure Norm where
  m : Nat
  e : Int
  deriving DecidableEq, Repr

/-- A norm as R247 holds it: an exponent and a mantissa in UQ0.32, rounded under R12. -/
def toNorm (x : Rat) : Norm :=
  if x ≤ 0 then ⟨0, 0⟩
  else
    let e := ratLog2 x + 1
    let m := (ratRound (x * twoPow (32 - e))).toNat
    if 2 ^ 32 ≤ m then ⟨2 ^ 31, e + 1⟩ else ⟨m, e⟩

/-- A norm's value (R247). -/
def normVal (n : Norm) : Rat := (n.m : Rat) * twoPow (n.e - 32)

/-- The 8 bytes of a norm (R247). -/
def normBytes (n : Norm) : Bytes := leBytes 4 n.m ++ leIntBytes 2 n.e ++ zeros 2

end Sys2Proof.Machine
end

