-- ==== Sys2Proof/Machine/OxSched.lean ====
section
/-! DEFINITION. The schedule set of the running variant, beyond the header that Malor reads, and what it and the model fix of
the two matrices (R219 to R223, R230). -/

namespace Sys2Proof.Machine

/-- The schedule set of the running variant in an image (R185, R197). -/
def schedSet (s : State) (img : Bytes) : Bytes := secBytes img (if big s then 0x41 else 0x40)

/-- KKT_PLACE: the KKT factor lies in OXMEM (R219, R220). -/
def kktInOxmem (b : Bytes) : Bool := byteField b 0x28 1 == 1

/-- N_PROG (R220). -/
def nProg (b : Bytes) : Nat := byteField b 0x29 1

/-- A directory entry (R221). -/
structure ProgEntry where
  prog : Nat
  /-- JOB: the program may be armed. -/
  job : Bool
  off : Nat
  len : Nat
  blocks : Nat
  cycles : Nat
  bursts : Nat
  deriving DecidableEq, Repr

/-- The program directory (R220, R221). -/
def progDir (b : Bytes) : List ProgEntry :=
  (upTo (nProg b)).map (fun i =>
    let f := fun off n => byteField b (0x30 + 24 * i + off) n
    { prog := f 0 2, job := bit (f 2 2) 0, off := f 4 4, len := f 8 4, blocks := f 12 4, cycles := f 16 4, bursts := f 20 4 })

/-- A program is in the directory with JOB set (R221). -/
def armable (b : Bytes) (prog : Nat) : Bool := (progDir b).any (fun e => e.prog == prog && e.job)

/-- The time bound of a program at an OX frequency in MHz, in ns (R242). -/
def progBound (e : ProgEntry) (mhz : Nat) : Rat := (e.cycles : Rat) * 1000 / (mhz : Rat) + (e.bursts : Rat) * 64 / 768 * 100

/-- A supernode record (R222). -/
structure Supernode where
  first : Nat
  ncol : Nat
  el : Int
  ed : Int
  /-- none for a root. -/
  parent : Option Nat
  nnz : Nat
  deriving DecidableEq, Repr

/-- Supernodes of a matrix: 0 estimation, 1 KKT. -/
def nSuper (b : Bytes) (q : Nat) : Nat := byteField b (0x20 + 4 * q) 4

/-- The start of a supernode table (R220). -/
def superOff (b : Bytes) (q : Nat) : Nat := 0x30 + 24 * nProg b + (if q = 0 then 0 else 16 * nSuper b 0)

/-- A supernode table (R220, R222). -/
def supernodes (b : Bytes) (q : Nat) : List Supernode :=
  (upTo (nSuper b q)).map (fun i =>
    let o := superOff b q + 16 * i
    let p := byteField b (o + 8) 4
    { first := byteField b o 4, ncol := byteField b (o + 4) 2, el := byteFieldS b (o + 6) 1, ed := byteFieldS b (o + 7) 1
      parent := if p = 0xFFFFFFFF then none else some p, nnz := byteField b (o + 12) 4 })

/-- The order of a matrix (R196). -/
def patN (img : Bytes) (q : Nat) : Nat := byteField (secBytes img (0x20 + q)) 0 4

/-- The start of a sign bitmap (R220): one bit per column, padded to a multiple of 4 bytes. -/
def signOff (img b : Bytes) (q : Nat) : Nat :=
  0x30 + 24 * nProg b + 16 * (nSuper b 0 + nSuper b 1) + (if q = 0 then 0 else (patN img 0 + 31) / 32 * 4)

/-- The sign bit of a column: its pivot is expected to be negative (R222). -/
def signBit (img b : Bytes) (q c : Nat) : Bool := bit (byteField b (signOff img b q + c / 8) 1) (c % 8)

/-- The rows of a pattern's columns (R196). -/
def patCols (img : Bytes) (q : Nat) : List (List Nat) :=
  let b := secBytes img (0x20 + q)
  let n := patN img q
  (upTo n).map (fun c =>
    let lo := byteField b (8 + 4 * c) 4
    let hi := byteField b (12 + 4 * c) 4
    (upTo (hi - lo)).map (fun i => byteField b (8 + 4 * (n + 1) + 4 * (lo + i)) 4))

/-- The elimination order: the columns of the supernodes in table order, each with EL and ED (DEDUCED, log 41). -/
def elimOrder (b : Bytes) (q : Nat) : List (Nat × Int × Int) :=
  (supernodes b q).flatMap (fun n => (upTo n.ncol).map (fun i => (n.first + i, n.el, n.ed)))

/-- An exponent of a column from RANGE (R230): 0 EA, 1 EB, 2 EX. -/
def rangeExp (img : Bytes) (q col k : Nat) : Int :=
  let b := secBytes img 0x30
  byteFieldS b (8 + 4 * ((if q = 0 then 0 else byteField b 0 4) + col) + k) 1

/-- What the model in effect and the schedule set fix of queue `q`'s matrix. -/
def oxFrame (s : State) (q : Nat) : Frame :=
  let img := s.model.image
  let b := schedSet s img
  { n := patN img q, cols := patCols img q, order := elimOrder b q, neg := signBit img b q
    ea := fun c => rangeExp img q c 0, eb := fun c => rangeExp img q c 1, ex := fun c => rangeExp img q c 2 }

/-- The bytes that the DRAM factor store takes: 4 per nonzero of the KKT factor and 8 per column (R219). -/
def factorStoreSize (s : State) : Nat := 4 * byteField (schedSet s s.model.image) 12 4 + 8 * patN s.model.image 1

/-- Where the KKT factor lies: the bounds of the factor store in the system address map, none where it lies in OXMEM
(R219). -/
def factorStore (s : State) : Option (Nat × Nat) :=
  if kktInOxmem (schedSet s s.model.image) then none else some (s.ox.fstore, s.ox.fstore + factorStoreSize s)

/-- A block header is valid (R223): it uses lane groups that the variant has, within the compiled bound. -/
def blockOk (s : State) (h : BlockHead) : Bool :=
  h.groups != 0 && decide (h.groups < 2 ^ (if big s then 8 else 4)) && decide (h.cycles + 7 * h.bursts ≤ 40000)

end Sys2Proof.Machine
end

