-- ==== Sys2Proof/Machine/Ox.lean ====
section
/-! DEFINITION. Ox: queues, jobs, deadlines, aborts, registers and diagnostics (R224 to R251). -/

namespace Sys2Proof.Machine

/-- The Ox engine's state changed. -/
def onOx (f : OxSt → OxSt) (s : State) : State := { s with ox := f s.ox }

/-- One queue. -/
def oxq (s : State) (q : Nat) : OxQueue := nth {} s.ox.q q

/-- One queue changed. -/
def onQ (q : Nat) (f : OxQueue → OxQueue) (s : State) : State := onOx (fun o => { o with q := modNth o.q q f }) s

/-- A STICKY flag is set (R246); while an arm stops the running job, the flags of that job are no longer in the register
(R224). -/
def stick (q bitNo : Nat) (s : State) : State :=
  let set := fun (v : Nat) => if bit v bitNo then v else v + 2 ^ bitNo
  onQ q (fun x => match x.prev with
    | some (v, j) => { x with prev := some (set v, j) }
    | none => { x with sticky := set x.sticky }) s

/-- STICKY and JOB of the job that runs. -/
def jobSticky (x : OxQueue) : Nat := match x.prev with | some p => p.1 | none => x.sticky
def jobNo (x : OxQueue) : Nat := match x.prev with | some p => p.2 | none => x.job

/-- A mark of program `prog` is flagged; the column and program of a job's first saturation are kept (R246, R247). -/
def mark (q prog : Nat) (m : Nat × Nat) (s : State) : State :=
  stick q m.1 (onQ q (fun x => match x.satCol with
    | some _ => x
    | none => { x with satCol := some m.2, satProg := prog }) s)

/-- Marks in order. -/
def marks (q prog : Nat) (l : Marks) (s : State) : State := l.foldl (fun s m => mark q prog m s) s

/-- The flags that make a job DEGRADED (R238, R246). -/
def degradedMask : List Nat := [0, 1, 2, 3, 5, 6, 8, 9, 10]

/-- A job is DEGRADED (R238). -/
def isDegraded (x : OxQueue) : Bool := degradedMask.any (bit (jobSticky x))

/-- A factor's state and perturbation count are set. -/
def setFactor (q st piv : Nat) (s : State) : State :=
  onOx (fun o => { o with factor := o.factor.set q st, factorPiv := o.factorPiv.set q (min piv 65535) }) s

/-- The deadline of the job that runs or waits is reached; a backward step does not undo that (R225). -/
def jobLate (s : State) (q : Nat) : Bool := (oxq s q).late || deadlineReached s (oxq s q).arm.deadline

/-! ### The programs -/

/-- A factorisation begins: the factor is INVALID from its start, and shows as in progress (R240, R244). -/
def factBegin (q : Nat) (s : State) : State :=
  setFactor q 3 0 (onQ q (fun x => { x with pivCur := 0, stage := .fact, facBad := false }) s)

/-- The pivots that a factorisation replaced are counted (R234). -/
def pivotCount (q : Nat) (fac : List FacCol) (s : State) : State :=
  let cols := (fac.filter (fun k => k.bad)).map (·.col)
  let n := cols.length
  let s := onQ q (fun x => { x with
    pivCur := n, pivCnt := max x.pivCnt n
    pivFirst := match x.pivFirst with | some c => some c | none => cols.head? }) s
  let s := if n = 0 then s else stick q 4 s
  if (oxq s q).pivLimit < n then stick q 5 s else s

/-- EST_FACT or KKT_FACT ends (R234, R235, R240): an error in the factor, or a model switch since the arm, leaves it
INVALID (R228, R241). -/
def factEnd (q : Nat) (s : State) : State :=
  let x := oxq s q
  let (fac, mk) := factorise (oxFrame s q) x.mem.mat x.tau x.delta
  let s := onQ q (fun x => { x with
    mem := { x.mem with fac := fac }, nFact := x.nFact + 1, refact := true, fresh := true, stage := .solve }) s
  let s := pivotCount q fac (marks q (if q = 0 then 2 else 6) mk s)
  let y := oxq s q
  setFactor q (if y.facBad || y.oldModel then 0 else if isDegraded y then 2 else 1) y.pivCur s

/-- The job refines its solution no further, and goes on (R237). -/
def refineOver (q : Nat) (s : State) : State := onQ q (fun x => { x with fresh := false, stage := .solved }) s

/-- The tolerance of a refined solve: 2^-REF_TOL_EXP of the norm of b (R237). -/
def refTol (x : OxQueue) : Rat := x.normB * twoPow (-(x.refTol : Int))

/-- After an accepted residual: another step with its scaled right-hand side, or the end of the refinement (R237). -/
def refineNext (q : Nat) (s : State) : State :=
  let x := oxq s q
  let r := x.resNow.getLastD 0
  if refTol x < r ∧ x.refDone < x.refSteps then onQ q (fun x => { x with stage := .corr }) s
  else refineOver q (if refTol x < r then stick q 7 s else s)

/-- EST_SOLVE or KKT_SOLVE of the right-hand side ends (R236). The first solve after a factorisation is refined, unless
refinement is disabled or the norm of b is 0 (R237, R249). -/
def solveEnd (q : Nat) (s : State) : State :=
  let x := oxq s q
  let f := oxFrame s q
  let (v, mk) := solveFactor f x.mem.fac (rhsOps f x.mem.rhs)
  let b := rhsNorm f x.mem.rhs
  let s := marks q (if q = 0 then 3 else 7) mk (onQ q (fun x => { x with
    mem := { x.mem with sol := v }, nSolve := x.nSolve + 1, stage := if x.fresh && x.refSteps != 0 && b != 0 then .resid else .solved
    fresh := x.fresh && x.refSteps != 0 && b != 0 }) s)
  if x.fresh && x.refSteps != 0 && b != 0 then onQ q (fun x => { x with normB := b, resNow := [], refDone := 0 }) s else s

/-- EST_SPMV or KKT_SPMV: the residual of the solution (R237). -/
def residEnd (q : Nat) (s : State) : State :=
  let x := oxq s q
  let f := oxFrame s q
  let (acc, mk) := residualOf f x.mem.mat x.mem.rhs x.mem.sol
  refineNext q (marks q (if q = 0 then 4 else 8) mk (onQ q (fun x => { x with
    mem := { x.mem with resid := acc }, resNow := [residualNorm f acc] }) s))

/-- The solve of the residual scaled by 2^g, and the corrected solution x + 2^-g·d (R237). -/
def corrEnd (q : Nat) (s : State) : State :=
  let x := oxq s q
  let f := oxFrame s q
  let g := residualShift x.mem.resid
  let (b, m1) := residualRhs g x.mem.resid
  let (d, m2) := solveFactor f x.mem.fac (rhsOps f b)
  let (v, m3) := corrected f x.mem.sol d g
  marks q (if q = 0 then 3 else 7) (m1 ++ m2 ++ m3) (onQ q (fun x => { x with
    mem := { x.mem with shift := g, corr := d, cand := v }, nSolve := x.nSolve + 1, stage := .check }) s)

/-- The residual of the corrected solution: accepted where it is smaller, else REF_FAIL (R237). -/
def checkEnd (q : Nat) (s : State) : State :=
  let x := oxq s q
  let f := oxFrame s q
  let (acc, mk) := residualOf f x.mem.mat x.mem.rhs x.mem.cand
  let r := residualNorm f acc
  let s := marks q (if q = 0 then 4 else 8) mk s
  if r < x.resNow.getLastD 0 then
    refineNext q (onQ q (fun x => { x with
      mem := { x.mem with resid := acc, sol := x.mem.cand }, resNow := x.resNow ++ [r], refDone := x.refDone + 1 }) s)
  else refineOver q (stick q 6 s)

/-- OX_Qq_STATUS (R245). -/
def oxStatus (x : OxQueue) : Nat :=
  x.state + 256 * x.outcome + 1024 * b2n x.refact + 2048 * b2n x.bench + 4096 * x.refDone

/-- The 256 bytes of a diagnostic set with publication number `k` (R247), of the job that a queue record describes. -/
def diagBytes (x : OxQueue) (k : Nat) : Bytes :=
  let b := leBytes 4 k ++ leBytes 4 (jobNo x) ++ leBytes 8 x.sig ++ leBytes 8 x.armOnt ++ leBytes 8 x.arm.deadline ++
    leBytes 8 x.startOnt ++ leBytes 8 x.endOnt ++ leBytes 4 (oxStatus x) ++ leBytes 4 (jobSticky x) ++ leBytes 4 x.pivCnt ++
    leBytes 4 (x.pivFirst.getD 0xFFFFFFFF) ++ leBytes 4 (x.satCol.getD 0xFFFFFFFF) ++ leBytes 2 x.satProg ++
    leBytes 2 x.nFact ++ leBytes 4 x.nSolve ++ leBytes 4 x.iter ++ normBytes (toNorm x.normB) ++
    padTo 40 ((x.resNow.take 5).flatMap (fun r => normBytes (toNorm r))) ++ leBytes 4 x.susp ++ leBytes 4 (x.suspNs / 1000) ++
    leBytes 4 (x.dramNs / 1000) ++ leBytes 1 x.ptStart ++ leBytes 1 x.ptEnd
  padTo 0xFC b ++ leBytes 4 k

/-- The diagnostic set of a job is published under R40: buffer k mod 3, then the index. -/
def diagPublish (q : Nat) (x : OxQueue) (s : State) : State :=
  let k := (if q = 0 then s.host.resDiagEst else s.host.resDiagDsp) + 1
  let s := onQ q (fun y => { y with diag := y.diag.set (k % 3) (diagBytes x k) }) s
  onHost (fun h => if q = 0 then { h with resDiagEst := k % 2 ^ 32 } else { h with resDiagDsp := k % 2 ^ 32 }) s

/-- The OX island is needed and not ON: its wake starts, after a power-down in progress (R68, R70). -/
def oxNeed (s : State) : State :=
  if s.power.islDown.contains 8 then { s with power := { s.power with oxArmWaits := true } }
  else if isl s 8 = .on ∨ s.power.islWake.contains 8 then s
  else { s with power := { s.power with islWake := 8 :: s.power.islWake } }

/-- Ox's clock runs: island ON, its PLL locked (R70, R86, R88). -/
def oxClock (s : State) : Bool := isl s 8 == .on && pllLock s 1

/-- Ox may start a job now: its clock runs, no power-down and no schedule reload in progress, no relock due (R224, R241,
R86). -/
def oxCanRun (s : State) : Bool :=
  oxClock s && !s.power.islDown.contains 8 && !s.ox.reloading && !s.power.oxRelockDue

/-- A job starts running. -/
def oxRun (q : Nat) (s : State) : State :=
  onQ q (fun x => { x with state := 2, startOnt := s.time.ont, ptStart := s.power.oppOx, ptEnd := s.power.oppOx }) s

/-- The time of a suspension is added (R247). -/
def suspAdd (s : State) (x : OxQueue) : OxQueue := { x with suspNs := x.suspNs + (s.time.ont - x.suspFrom) }

/-- A suspended dispatch job resumes (R23). -/
def oxResume (s : State) : State := onQ 1 (fun x => { suspAdd s x with state := 2 }) s

/-- Jobs that wait are started, and a suspended dispatch job resumes when the estimation queue is free (R23, R224). -/
def oxKick (s : State) : State :=
  if !oxCanRun s then s
  else if (oxq s 0).state = 1 ∧ (oxq s 1).state ≠ 2 ∧ (oxq s 1).state ≠ 4 then oxRun 0 s
  else if (oxq s 0).state ≠ 0 then s
  else if (oxq s 1).state = 3 then oxResume s
  else if (oxq s 1).state = 1 then oxRun 1 s
  else s

/-- The events of a job's end (R227, R239, R251). -/
def oxEndEvents (q outcome : Nat) (x : OxQueue) (s : State) : State :=
  let ev := fun (code src : Nat) (s : State) => raise code src q (jobSticky x) (jobNo x) s
  let s := if outcome = 1 then ev 0x0710 32 s else if outcome = 2 then ev 0x0711 33 s else if outcome = 3 then ev 0x0715 37 s else s
  let s := if bit (jobSticky x) 4 && !x.hadPert then ev 0x0712 34 s else s
  let s := if bit (jobSticky x) 9 then ev 0x0714 36 (onOx (fun o => { o with progFaults := satInc 32 o.progFaults }) s) else s
  if bit (jobSticky x) 7 then ev 0x0716 38 s else s

/-- What an arm leaves in a queue's registers (R224, R244, R249): the numerics are those that Malor wrote from the
parameters. STICKY and JOB are the arm's, not touched here. -/
def armRecord (q : Nat) (a : ArmReq) (at_ : Nat) (s : State) (x : OxQueue) : OxQueue :=
  { x with
    arm := a, next := none, prev := none, state := 1, armOnt := at_, sig := s.host.modelSig, oldModel := false, late := x.lateNext
    lateNext := false, stage := .start, fresh := false, facBad := false, dramNs := 0, pivCnt := 0, pivCur := 0
    pivFirst := none, satCol := none, satProg := 0, nFact := 0, nSolve := 0, iter := 0, block := 0, susp := 0, suspNs := 0
    normB := 0, resNow := [], refact := false, bench := a.bench, refDone := 0, startOnt := 0, endOnt := 0
    tau := actN s (0x0700 + 8 * q), delta := actN s (0x0701 + 8 * q), pivLimit := actN s (0x0702 + 8 * q)
    refTol := actN s (0x0703 + 8 * q), refSteps := actN s (0x0704 + 8 * q) }

/-- A job that a bench arm in mode 1 makes is to solve on a factor that is not VALID (R240). -/
def factorUnusable (s : State) (q : Nat) (a : ArmReq) : Bool := !a.refact && nth 0 s.ox.factor q != 1

/-- A job ends at its arm, before it has run: TIMEOUT (2) where its deadline is reached already (R225), DEGRADED (1) where it
would solve on an unusable factor (R240). -/
def armEnds (q outcome : Nat) (s : State) : State :=
  let s := if outcome = 1 then stick q 10 s else s
  let s := onQ q (fun x => { x with state := 0, outcome := outcome, endOnt := s.time.ont }) s
  let x := oxq s q
  diagPublish q x (onQ q (fun x => { x with hadPert := false }) (oxEndEvents q outcome x s))

/-- An arm's job starts, or waits for Ox (R224, R225, R240). -/
def armStart (q : Nat) (a : ArmReq) (at_ : Nat) (s : State) : State :=
  let s := onQ q (armRecord q a at_ s) s
  if jobLate s q then armEnds q 2 s
  else if factorUnusable s q a then armEnds q 1 s
  else oxKick (oxNeed s)

/-- The registers that every arm writes: STICKY is cleared and JOB counts (R224); its own deadline is not reached yet. -/
def armCount (q : Nat) (s : State) : State :=
  onQ q (fun x => { x with sticky := 0, job := wrapInc 32 x.job, lateNext := false }) s

/-- Arms an idle queue. -/
def armNow (q : Nat) (a : ArmReq) (s : State) : State := armStart q a s.time.ont (armCount q s)

/-- A job ends with an outcome (R226, R227, R239, R240, R247): a factorisation that it has not finished leaves the factor
INVALID. An arm that waited for the end then starts. -/
def oxEnd (q outcome : Nat) (s : State) : State :=
  let s := onQ q (fun x => { (if x.state = 3 then suspAdd s x else x) with
    state := 0, outcome := outcome, endOnt := s.time.ont, ptEnd := s.power.oppOx }) s
  let s := if nth 0 s.ox.factor q = 3 then setFactor q 0 0 s else s
  let x := oxq s q
  let s := oxEndEvents q outcome x s
  let s := onQ q (fun y => { y with hadPert := bit (jobSticky x) 4, prev := none }) s
  let s := if outcome = 3 then s else diagPublish q x s
  match x.next with
  | some (a, t) => armStart q a t s
  | none => oxKick s

/-- The arm that waits meets its deadline: its job ends with TIMEOUT without having started (R225, R226). -/
def nextTimeout (q : Nat) (s : State) : State :=
  let x := oxq s q
  match x.next with
  | none => s
  | some (a, t) =>
    let y := { armRecord q a t s x with state := 0, outcome := 2, endOnt := s.time.ont }
    diagPublish q y (oxEndEvents q 2 y (onQ q (fun x => { x with next := none, hadPert := false }) s))

/-- An arm waits for the running job to stop or for an abort to end: the registers are the new job's at once (R224). A job
that waited there already is stopped. -/
def armWait (q : Nat) (a : ArmReq) (s : State) : State :=
  let s := nextTimeout q s
  let s := onQ q (fun x => { x with prev := some (jobSticky x, jobNo x), next := some (a, s.time.ont) }) s
  armCount q s

/-- An arm of a queue (R224); none where it is refused because queue 1 is not IDLE. -/
def oxArm (q : Nat) (a : ArmReq) (s : State) : Option State :=
  let st := (oxq s q).state
  if st = 0 then some (armNow q a s)
  else if st = 5 ∧ ¬ (q = 1 ∧ (oxq s 1).next.isSome = true) then
    let s := armWait q a s
    some (if deadlineReached s a.deadline then nextTimeout q s else s)
  else if q = 0 then
    let s := if st = 1 then oxEnd 0 2 s else s
    if st = 1 then some (armNow q a s)
    else
      let s := onQ 0 (fun x => { x with state := 4 }) (armWait q a s)
      some (if deadlineReached s a.deadline then nextTimeout q s else s)
  else none

/-- OX_QQ_ARM (R224): Malor writes the deadline and the arm register of a queue (R244). A job refactorises first when its
factor is not VALID (R293), and NEWTON_JOB always (R259). -/
def execOxQqArm (q prog iterLimit deadline : Nat) (bench : Bool) (s : State) : Out :=
  .next (if q < 2 ∧ inRun s then
    (oxArm q { prog := prog % 256, iterLimit := iterLimit % 65536, bench := bench, deadline := deadline
               refact := prog % 256 == 9 || nth 0 s.ox.factor q != 1 } s).getD s
  else s)

/-- The solver abort starts (R227): no further block is issued. -/
def oxAbortStart (q : Nat) (s : State) : State :=
  if (oxq s q).state = 0 then s
  else onQ q (fun x => { (if x.state = 3 then suspAdd s x else x) with state := 5, next := none }) s

/-- OX_QQ_ABORT (R227). -/
def execOxQqAbort (q : Nat) (s : State) : Out := .next (oxAbortStart q s)

/-- OX_ABORT commands that wait for the abort are answered (R248). -/
def abortAnswer (s : State) : State :=
  (s.host.waiting.filter (fun k => boxCmd s k == 0x0711)).foldl (fun s k => respond s 0x0711 (boxMail s k) (done s [])) s

/-- The solver abort ends: outcome ABORTED, nothing published (R227). -/
def oxAbortEnd (q : Nat) (s : State) : State :=
  if (oxq s q).state = 5 then
    let s := oxEnd q 3 s
    if q = 1 then abortAnswer s else s
  else s

/-- What a block's end decides at the boundary (R23, R86, R224 to R226, R240, R241): a stop, a fault, a relock, a suspension. -/
def blockBoundary (q : Nat) (s : State) : State :=
  let s := onQ q (fun x => { x with block := x.block + 1 }) s
  let x := oxq s q
  let fault := bit (jobSticky x) 8 || bit (jobSticky x) 9 || bit (jobSticky x) 10
  if x.state = 5 then s
  else if x.state = 4 ∨ jobLate s q = true then oxEnd q 2 s
  else if fault then oxEnd q 1 s
  else if q = 1 ∧ (oxq s 0).state = 1 then
    oxKick (stick 1 11 (onQ 1 (fun x => { x with state := 3, susp := min 65535 (x.susp + 1), suspFrom := s.time.ont }) s))
  else s

/-- A relock that waited for the boundary begins: Ox issues no block before its PLL locks (R86). -/
def boundaryRelock (s : State) : State :=
  if s.power.oxRelockDue then
    { s with power := { s.power with oxRelockDue := false, clkLock := s.power.clkLock &&& 0x1D } }
  else s

/-- A job meets its deadline (R226): it stops at its next block boundary, or at once if it is suspended or waits. -/
def oxTimeout (q : Nat) (s : State) : State :=
  let st := (oxq s q).state
  if st = 2 then onQ q (fun x => { x with state := 4 }) s
  else if st = 1 ∨ st = 3 then oxEnd q 2 s
  else s

/-- An uncorrectable error met by a job: 0 in matrix values or a vector, 1 in the factor, 2 in a program (R241). -/
def oxDataEcc (q kind : Nat) (s : State) : State :=
  let s := onOx (fun o => { o with eccUncorr := min 65535 (o.eccUncorr + 1) }) s
  let s := stick q (if kind = 2 then 9 else 8) s
  let s := if kind = 1 then setFactor q 0 0 (onQ q (fun x => { x with facBad := true }) s) else s
  let s := if kind = 2 then onOx (fun o => { o with reloading := true }) s else s
  raise 0x0713 35 q (jobSticky (oxq s q)) (jobNo (oxq s q)) s

/-- An uncorrectable word at a DRAM address, where it lies in the factor store (R34, R219). -/
def storeBad (addr : Nat) (s : State) : State :=
  match factorStore s with
  | some (lo, hi) => if lo ≤ addr ∧ addr < hi then onOx (fun o => { o with storeBad := true }) s else s
  | none => s

/-- A KKT solve reads the factor store: a bad word in it is an error in the factor (R241). -/
def storeRead (q : Nat) (s : State) : State :=
  if q = 1 ∧ s.ox.storeBad = true then oxDataEcc q 1 (onOx (fun o => { o with storeBad := false }) s) else s

/-- A KKT factorisation writes the factor store anew. -/
def storeWrite (q : Nat) (s : State) : State :=
  if q = 1 then onOx (fun o => { o with storeBad := false }) s else s

/-- OX_DATA_ECC (R241). -/
def execOxDataEcc (q kind : Nat) (s : State) : Out := .next (if q < 2 then oxDataEcc q kind s else s)

/-- OX_SCHEDULE_RELOAD_DONE (R241): arms that waited start. -/
def execOxScheduleReloadDone (s : State) : Out :=
  .next (if s.ox.reloading && malorWorks s then oxKick (onOx (fun o => { o with reloading := false }) s) else s)

/-- Both factors become INVALID at a model switch, and no job armed before it makes one VALID again (R228). -/
def factorsInvalid (s : State) : State :=
  onOx (fun o => { o with factor := [0, 0], q := o.q.map (fun x => { x with oldModel := x.oldModel || x.state != 0 }) }) s

/-- The effect of OX_SOLVE_ARM (R248). -/
def oxSolveArm (p : Bytes) (s : State) : Answer :=
  let mode := byteField p 0 1
  let off := byteField p 4 4
  if p.length ≠ 8 ∨ byteField p 1 3 ≠ 0 then refuse s 0x070A
  else if unitActive s 9 0 then refuse s 0x0706
  else if !modelHere s then refuse s 0x0711
  else if 1 < mode ∨ off = 0 ∨ 60000 < off then refuse s 0x0705
  else match oxArm 1 { prog := 0x0A, iterLimit := 0, bench := true, deadline := s.time.ont + off * 1000000, refact := mode == 0 } s with
    | none => refuse s 0x0701
    | some s => done s []

/-- OX_SOLVE_ARM (0x0710). -/
def execOxSolveArm (m : Mail) (s : State) : Out := mailOut 0x0710 m (oxSolveArm m.payload) s

/-- The effect of OX_ABORT (R248): it answers when the abort has ended. -/
def oxAbort (p : Bytes) (s : State) : Answer :=
  if p ≠ [] then refuse s 0x070A
  else if (oxq s 1).state ≠ 0 ∧ (oxq s 1).arm.bench then later (oxAbortStart 1 s)
  else done s []

/-- OX_ABORT (0x0711). -/
def execOxAbort (m : Mail) (s : State) : Out := mailOut 0x0711 m (oxAbort m.payload) s

/-- Items 1 and 2 of the consistency check of OX unit 0 (queue 0) and DISPATCH unit 0 (queue 1) (R250). -/
def oxCheckItems (img : Bytes) (s : State) (q : Nat) : List (Bool × Nat × Nat) :=
  [(img != [], 0x0711, 0), (decide (par s (0x0701 + 8 * q) ≤ par s (0x0700 + 8 * q)), 0x0710, 0x0701 + 8 * q)]

/-- OX_CAP (R217, R244). -/
def oxCap (s : State) : Nat := if big s then 8 + 24 * 256 + 128 * 65536 else 4 + 12 * 256 + 64 * 65536

/-- OX_STATUS (R244). -/
def oxStat (s : State) : Nat :=
  (if (oxq s 0).state = 2 then 1 else if (oxq s 1).state = 2 then 2 else 0) + 4 * b2n ((oxq s 1).state == 3) +
    16 * s.power.oppOx + 64 * b2n (s.power.oxRelockDue || (isl s 8 == .on && !pllLock s 1))

/-- NUMCFG of a queue (R244). -/
def numCfg (x : OxQueue) : Nat := x.tau + 256 * x.delta + 65536 * x.refSteps + 16777216 * x.refTol

/-- A register of a queue's block (R244). -/
def oxQueueReg (x : OxQueue) (off : Nat) : Nat :=
  let dl := match x.next with | some a => a.1.deadline | none => x.arm.deadline
  match off with
  | 0x08 => dl % 2 ^ 32
  | 0x0C => dl / 2 ^ 32 % 2 ^ 32
  | 0x10 => oxStatus x
  | 0x14 => x.sticky
  | 0x18 => x.pivCnt
  | 0x1C => x.job
  | 0x20 => x.iter
  | 0x24 => x.block
  | 0x28 => x.susp
  | 0x30 => numCfg x
  | 0x34 => x.pivLimit
  | _ => 0

/-- A register of the Ox region below 0x200 (R244). -/
def oxReg (s : State) (off : Nat) : Nat :=
  match off with
  | 0x00 => oxCap s
  | 0x04 => oxStat s
  | 0x08 => s.ox.fstore % 2 ^ 32
  | 0x0C => s.ox.fstore / 2 ^ 32 % 16
  | 0x10 => nth 0 s.ox.factor 0 + 4 * nth 0 s.ox.factor 1
  | 0x14 => nth 0 s.ox.factorPiv 0 + 65536 * nth 0 s.ox.factorPiv 1
  | 0x20 => s.ox.eccCorr + 65536 * s.ox.eccUncorr
  | 0x24 => s.ox.progFaults
  | _ => if 0x200 ≤ off then 0 else if 0x180 ≤ off then oxQueueReg (oxq s 1) (off - 0x180)
      else if 0x100 ≤ off then oxQueueReg (oxq s 0) (off - 0x100) else 0

end Sys2Proof.Machine
end

