-- ==== Sys2Proof/Machine/Hydraulics.lean ====
section
/-! DEFINITION. The hydraulic equations of estimation (R252 to R258) and their Jacobian, evaluated exactly on pressures in Pa
and flows in mL/s. -/

namespace Sys2Proof.Machine

/-- The estimation's state changed. -/
def onEst (f : EstSt → EstSt) (s : State) : State := { s with est := f s.est }

/-- The value of an input of a kind and object among latched values (R255, R256). -/
def inputIn (s : State) (l : List (Nat × Int)) (kind object : Nat) : Option Int :=
  (l.find? (fun p => let e := inputMap s p.1; e.kind == kind && e.object == object)).map (·.2)

/-- The value this period uses for an input of a kind and object (R255). -/
def inputOf (s : State) (kind object : Nat) : Option Int := inputIn s s.est.inputs kind object

/-- An input value, 0 where there is none. -/
def inputVal (s : State) (kind object : Nat) : Int := (inputOf s kind object).getD 0

/-- A PIPE field (R191). -/
def pipeN (s : State) (j off n : Nat) : Nat := recN s.model.image 0x11 20 j off n

/-- A pipe's inner diameter in m. -/
def pipeD (s : State) (j : Nat) : Rat := (pipeN s j 4 2 : Rat) / 10000

/-- A pipe's cross-section in m². -/
def pipeA (s : State) (j : Nat) : Rat := piApprox * pipeD s j * pipeD s j / 4

/-- A pipe's volume in mL (R263). -/
def pipeV (s : State) (j : Nat) : Nat := (ratRound (pipeA s j * (pipeN s j 0 4 : Rat) * 1000)).toNat

/-- A pipe is isolated (R191). -/
def pipeClosed (s : State) (j : Nat) : Bool := bit (pipeN s j 0x10 2) 1

/-- T_BASE in mK. -/
def tBase (s : State) : Nat := base s.model.image 2

/-- A temperature in 0.01 °C as a parcel holds it (R263). -/
def toParcelT (s : State) (t : Int) : Int := satS 32 (divRound (t * 655360) (tBase s))

/-- A parcel's temperature in 0.01 °C. -/
def ofParcelT (s : State) (t : Int) : Int := divRound (t * tBase s) 655360

/-- The mean temperature of a pipe's parcels in 0.01 °C; without a Drove state that of the medium (R254). -/
def rowMeanT (s : State) (j : Nat) : Int :=
  let row := nth [] s.est.rows j
  let v := row.foldl (fun a p => a + p.vol) 0
  if s.est.droveValid ∧ v ≠ 0 then
    ofParcelT s (divRound (row.foldl (fun a p => a + p.temp * (p.vol : Int)) 0) v)
  else if medium s.model.image (nodeNet s.model.image (pipeEnds s.model.image j).1) = 1 then 1000 else 7000

/-- The mean temperature of a pipe's parcels at the start of the period, in 0.01 °C (R254). -/
def pipeMeanT (s : State) (j : Nat) : Int := nth (rowMeanT s j) s.est.pipeT j

/-- The pumps of a pipe. -/
def pipePumps (s : State) (j : Nat) : List Nat :=
  (upTo (nPump s.model.image)).filter (fun k => (pumpAtt s.model.image k).1 == j)

/-- A PUMP field (R195). -/
def pumpN (s : State) (k off n : Nat) : Nat := recN s.model.image 0x15 24 k off n

/-- A pump is stopped: its measured speed lies below N_MIN (R254). -/
def pumpStopped (s : State) (k : Nat) : Bool := inputVal s 3 k < (pumpN s k 2 2 : Int)

/-- The pump's differential pressure in Pa at a flow in mL/s (R195, R254). -/
def pumpDp (s : State) (k : Nat) (q : Rat) : Rat :=
  if pumpStopped s k then 0
  else
    let r : Rat := (inputVal s 3 k : Rat) / (pumpN s k 0 2 : Rat)
    let f : Rat := q / 1000
    (pumpN s k 4 4 : Rat) * r * r + (recS s.model.image 0x15 24 k 8 4 : Rat) / 1000 * f * r +
      (recS s.model.image 0x15 24 k 12 4 : Rat) / 1000 * f * f

/-- The derivative of the pump's differential pressure, in Pa per mL/s. -/
def pumpSlope (s : State) (k : Nat) (q : Rat) : Rat :=
  if pumpStopped s k then 0
  else
    let r : Rat := (inputVal s 3 k : Rat) / (pumpN s k 0 2 : Rat)
    ((recS s.model.image 0x15 24 k 8 4 : Rat) / 1000 * r + 2 * (recS s.model.image 0x15 24 k 12 4 : Rat) / 1000 * (q / 1000)) / 1000

/-- The argument of the logarithm of λ above Re 4,000: relative roughness ε/D and Reynolds number (R254). -/
def turbulentArg (rough re : Rat) : Rat := rough / (37 / 10) + (574 / 100) / Config.pow09 re

/-- λ above Re 4,000 (R254). -/
def frictionTurbulent (rough re : Rat) : Rat := (1 / 4) / (Config.log10 (turbulentArg rough re) * Config.log10 (turbulentArg rough re))

/-- λ at a Reynolds number (R254). -/
def frictionFactor (rough re : Rat) : Rat :=
  if re < 2300 then 64 / re
  else if 4000 < re then frictionTurbulent rough re
  else 64 / 2300 + (frictionTurbulent rough 4000 - 64 / 2300) * (re - 2300) / 1700

/-- dλ/dRe. -/
def frictionSlope (rough re : Rat) : Rat :=
  if re < 2300 then -64 / (re * re)
  else if 4000 < re then
    let x := turbulentArg rough re
    let l := Config.log10 x
    (-1 / 2) / (l * l * l) / (x * Config.ln10) * (-(9 / 10) * (574 / 100) / (Config.pow09 re * re))
  else (frictionTurbulent rough 4000 - 64 / 2300) / 1700

/-- ζ_eff of a pipe under its VALVE input (R254). -/
def pipeZeta (s : State) (j : Nat) : Rat :=
  let z : Rat := (pipeN s j 8 2 : Rat) / 256
  match inputOf s 4 j with
  | some v => let u := ratMax ((v : Rat) / 65536) (1 / 64); z / (u * u)
  | none => z

/-- The pipe lets water flow from FROM to TO only: CHECK, or a stopped pump (R254). -/
def pipeCheck (s : State) (j : Nat) : Bool := bit (pipeN s j 0x10 2) 0 || (pipePumps s j).any (pumpStopped s)

/-- Re of a pipe at a flow in mL/s. -/
def pipeRe (s : State) (j : Nat) (q : Rat) : Rat :=
  ratAbs q / 1000000 / pipeA s j * pipeD s j / waterNu (pipeMeanT s j)

/-- ε/D of a pipe. -/
def pipeRough (s : State) (j : Nat) : Rat := (pipeN s j 6 2 : Rat) / 1000000 / pipeD s j

/-- The factor of q·abs(q) for one unit of resistance, ρ/(2A²), with CHECK's 2^16 for q < 0 (R254). -/
def pipeUnit (s : State) (j : Nat) (q : Rat) : Rat :=
  waterRho (pipeMeanT s j) / (2 * pipeA s j * pipeA s j) * (if q < 0 ∧ pipeCheck s j = true then 65536 else 1)

/-- L/D of a pipe. -/
def pipeSlim (s : State) (j : Nat) : Rat := (pipeN s j 0 4 : Rat) / 1000 / pipeD s j

/-- K_j at a flow that is not 0 (R254), for q in m³/s. -/
def pipeK (s : State) (j : Nat) (q : Rat) : Rat :=
  (frictionFactor (pipeRough s j) (pipeRe s j q) * pipeSlim s j + pipeZeta s j) * pipeUnit s j q

/-- R_j(q) in Pa at a flow in mL/s (R254). -/
def pipeLoss (s : State) (j : Nat) (q : Rat) : Rat :=
  if q = 0 then 0 else pipeK s j q * (q / 1000000) * (ratAbs q / 1000000)

/-- A_j·v_f in mL/s (R254). -/
def floorFlow (s : State) (j : Nat) : Rat := pipeA s j * (actN s 0x0729 : Rat) * 1000

/-- The Jacobian's ∂R_j/∂q in Pa per mL/s, held to its floor 2·K_j·A·v_f (R254). At q = 0 K_j has no value: the floor takes
K_j at the flow A·v_f there (DESIGN CHOICE, log 14). -/
def pipeSlope (s : State) (j : Nat) (q : Rat) : Rat :=
  let vf := floorFlow s j
  let at_ := if q = 0 then vf else q
  let m := ratAbs at_ / 1000000
  let re := pipeRe s j at_
  let slope := (frictionSlope (pipeRough s j) re * re * pipeSlim s j * m +
    2 * (frictionFactor (pipeRough s j) re * pipeSlim s j + pipeZeta s j) * m) * pipeUnit s j at_
  let least := 2 * pipeK s j at_ * (vf / 1000000)
  (if q = 0 then least else ratMax slope least) / 1000000

/-- A node's elevation in m. -/
def elevation (s : State) (i : Nat) : Rat := (recS s.model.image 0x10 16 i 0 4 : Rat) / 1000

/-- A node is a pressure reference (R190). -/
def isReference (s : State) (i : Nat) : Bool := recN s.model.image 0x10 16 i 0xC 1 == 1

/-- The pressure held at a reference, in Pa (R190). -/
def refPressure (s : State) (i : Nat) : Rat := (recS s.model.image 0x10 16 i 4 4 : Rat)

/-- Every pipe of a node is CLOSED (R254). -/
def isIsolated (s : State) (i : Nat) : Bool :=
  let js := (upTo (nPipe s.model.image)).filter (fun j => let (a, b) := pipeEnds s.model.image j; a == i || b == i)
  !js.isEmpty && js.all (pipeClosed s)

/-- A pressure as the pipe rows use it: that of a reference is a constant (R253). -/
def nodeP (s : State) (p : List Rat) (i : Nat) : Rat := if isReference s i then refPressure s i else nth 0 p i

/-- G_j of a pipe in Pa; for a CLOSED pipe its flow in mL/s (R252, R254). -/
def residualG (s : State) (p q : List Rat) (j : Nat) : Rat :=
  let (a, b) := pipeEnds s.model.image j
  let f := nth 0 q j
  if pipeClosed s j then f
  else
    pipeLoss s j f - ratSum ((pipePumps s j).map (fun k => pumpDp s k f)) - (nodeP s p a - nodeP s p b)
      - waterRho (pipeMeanT s j) * (980665 / 100000) * (elevation s a - elevation s b)

/-- ∂G_j/∂q_j in Pa per mL/s (R252); for a CLOSED pipe 1. -/
def slopeG (s : State) (q : List Rat) (j : Nat) : Rat :=
  if pipeClosed s j then 1
  else pipeSlope s j (nth 0 q j) - ratSum ((pipePumps s j).map (fun k => pumpSlope s k (nth 0 q j)))

/-- The snapshot's entry of a sub-station. -/
def snapEntry (s : State) (i : Nat) : Entry := (lookupNat i s.est.snap).getD {}

/-- A snapshot entry gives a measurement: PRESENT, its bit set, no uncorrectable error, and not silent (R213, R258). -/
def snapFresh (s : State) (i mbit : Nat) : Bool :=
  let e := snapEntry s i
  let r := recN s.model.image 0x12 16 i 0xC 2
  e.present && bit e.mPresent mbit && !e.eccBad && (r == 0 || s.est.t0 ≤ e.tAcc + r * 1000000000)

/-- The flow of a sub-station in µL/s, FLOW_HELD and FLOW_NONE (R258). -/
def substFlow (s : State) (i : Nat) : Int × Bool × Bool :=
  if snapFresh s i 2 then ((snapEntry s i).flow, false, false)
  else match lookupNat i s.est.lastFlow with
    | some f => (f, true, false)
    | none => (0, false, true)

/-- The net known injection s_i of a node in mL/s (R258). -/
def injection (s : State) (i : Nat) : Rat :=
  let img := s.model.image
  ratSum ((upTo (nSubst img)).map (fun k =>
    let (sup, ret, _) := substAtt img k
    let f : Rat := ((substFlow s k).1 : Rat) / 1000
    (if ret = i then f else 0) - (if sup = i then f else 0))) +
  ratSum ((upTo (nPlant img)).map (fun k =>
    let (inl, out) := plantAtt img k
    let f : Rat := (inputVal s 1 k : Rat)
    (if out = i then f else 0) - (if inl = i then f else 0))) +
  ratSum ((upTo (nStore img)).map (fun k =>
    let (hot, cold) := storeAtt img k
    let f : Rat := (inputVal s 5 k : Rat)
    (if cold = i then f else 0) - (if hot = i then f else 0)))

/-- The flow balance of a node in mL/s: H_i of R252, and for a reference its IMBALANCE (R253). -/
def residualH (s : State) (q : List Rat) (i : Nat) : Rat :=
  ratSum ((upTo (nPipe s.model.image)).map (fun j =>
    let (a, b) := pipeEnds s.model.image j
    let f := nth 0 q j
    (if b = i then f else 0) - (if a = i then f else 0))) + injection s i

/-- The greatest |H_i| in mL/s over the nodes whose balance is imposed. -/
def maxH (s : State) (q : List Rat) : Rat :=
  maxAbs (((upTo (nNode s.model.image)).filter (fun i => !isReference s i && !isIsolated s i)).map (residualH s q))

/-- The greatest |G_j|. -/
def maxG (s : State) (p q : List Rat) : Rat := maxAbs ((upTo (nPipe s.model.image)).map (residualG s p q))

/-- The merit m(x) (R259). -/
def merit (s : State) (p q : List Rat) : Rat := ratMax (maxH s q / (act s 0x0723 : Rat)) (maxG s p q / (act s 0x0724 : Rat))

/-- Whole numbers as fractions. -/
def rats (l : List Int) : List Rat := l.map (fun v => (v : Rat))

end Sys2Proof.Machine
end

