-- ==== Sys2Proof/Machine/Drove.lean ====
section
/-! DEFINITION. Drove: parcels, sub-steps, restarts and arrival values (R263 to R267). -/

namespace Sys2Proof.Machine

/-- Water that arrives somewhere: volume in mL with temperature, age and unknown fraction. -/
abbrev Arrival := Parcel

/-- The volume-weighted mixture of arrivals; none where nothing arrives (R264). -/
def mixture (l : List Arrival) : Option Parcel :=
  let v := l.foldl (fun a p => a + p.vol) 0
  if v = 0 then none
  else some
    { temp := divRound (l.foldl (fun a p => a + p.temp * (p.vol : Int)) 0) v, vol := v
      age := (divRound (l.foldl (fun a p => a + (p.age * p.vol : Nat)) (0 : Int)) v).toNat
      unk := (divRound (l.foldl (fun a p => a + (p.unk * p.vol : Nat)) (0 : Int)) v).toNat }

/-- `n` mL taken from the front of a row, splitting a parcel: what is taken and what stays. -/
def takeVol (n : Nat) : List Parcel → List Parcel × List Parcel
  | [] => ([], [])
  | p :: l =>
    if n = 0 then ([], p :: l)
    else if p.vol ≤ n then
      let (t, r) := takeVol (n - p.vol) l
      (p :: t, r)
    else ([{ p with vol := n }], { p with vol := p.vol - n } :: l)

/-- The position of the adjacent pair with the smallest temperature difference, the first of equals. -/
def closestPair : List Parcel → Option (Nat × Nat)
  | a :: b :: l =>
    let d := (a.temp - b.temp).natAbs
    match closestPair (b :: l) with
    | none => some (0, d)
    | some (i, e) => if d ≤ e then some (0, d) else some (i + 1, e)
  | _ => none

/-- The parcels at `i` and `i + 1` merged (R265). -/
def mergeAt (i : Nat) (l : List Parcel) : List Parcel :=
  match (l.drop i).take 2 with
  | [a, b] => l.take i ++ [(mixture [a, b]).getD a] ++ l.drop (i + 2)
  | _ => l

/-- A row, inlet end first, held to 64 parcels; the merges are counted (R265). -/
def mergeRow : Nat → List Parcel → List Parcel × Nat
  | 0, l => (l, 0)
  | n + 1, l =>
    if l.length ≤ 64 then (l, 0)
    else match closestPair l with
      | none => (l, 0)
      | some (i, _) =>
        let (r, c) := mergeRow n (mergeAt i l)
        (r, c + 1)

/-- A row seen from its inlet end; the FROM end for q ≥ 0 (R264). -/
def fromInlet (q : Int) (l : List Parcel) : List Parcel := if 0 ≤ q then l else l.reverse

/-- A row seen from its outlet end. -/
def fromOutlet (q : Int) (l : List Parcel) : List Parcel := if 0 ≤ q then l.reverse else l

/-- The inlet and outlet node of a pipe at a flow. -/
def flowEnds (s : State) (q : Int) (j : Nat) : Nat × Nat :=
  let (a, b) := pipeEnds s.model.image j
  if 0 ≤ q then (a, b) else (b, a)

/-- The volume that moves in a sub-step of dt/n ms at a flow in mL/s. -/
def stepVol (q : Int) (dt n : Nat) : Nat := (divRound ((q.natAbs * dt : Nat) : Int) (1000 * n)).toNat

/-- The mixture of a node. -/
def nodeMix (s : State) (i : Nat) : Parcel := nth ⟨0, 0, 0, 0⟩ s.est.mix i

/-- What leaves each pipe in a sub-step, what its row keeps, and whether the cap was met (R264). -/
def pipeOut (s : State) (q : List Int) (dt n j : Nat) : List Arrival × List Parcel × Bool :=
  let f := nth 0 q j
  let v := pipeV s j
  let w := stepVol f dt n
  let (t, r) := takeVol (min w v) (fromOutlet f (nth [] s.est.rows j))
  let keep := if 0 ≤ f then r.reverse else r
  if v < w then (t ++ [{ nodeMix s (flowEnds s f j).1 with vol := w - v }], keep, true) else (t, keep, false)

/-- The arrivals at a node from plants, stores and sub-stations in a sub-step (R264). -/
def nodeSources (s : State) (dt n i : Nat) : List Arrival :=
  let img := s.model.image
  (upTo (nPlant img)).filterMap (fun k =>
    let f := inputVal s 1 k
    if (plantAtt img k).2 = i ∧ 0 < f then some ⟨toParcelT s (inputVal s 2 k), stepVol f dt n, 0, 0⟩ else none) ++
  (upTo (nStore img)).filterMap (fun k =>
    let f := inputVal s 5 k
    if (storeAtt img k).1 = i ∧ f < 0 then
      some ⟨match inputOf s 6 k with | some t => toParcelT s t | none => (nodeMix s i).temp, stepVol f dt n, 0, 0⟩
    else none) ++
  (upTo (nSubst img)).filterMap (fun k =>
    let (sup, ret, _) := substAtt img k
    let f := (substFlow s k).1
    if ret = i ∧ 0 < f then
      let v := (divRound ((f.natAbs * dt : Nat) : Int) (1000000 * n)).toNat
      if snapFresh s k 1 then
        some ⟨toParcelT s (snapEntry s k).tRet, v, (nodeMix s sup).age, (nodeMix s sup).unk⟩
      else some { nodeMix s i with vol := v }
    else none)

/-- A parcel after h of cooling and ageing in its pipe (R264). -/
def coolParcel (s : State) (j dt n : Nat) (mean : Int) (p : Parcel) : Parcel :=
  let ua := pipeN s j 0x0A 2
  let h : Rat := (dt : Rat) / (1000 * n)
  let gnd := toParcelT s (recS s.model.image 0x11 20 j 0x0C 2)
  let age := min (2 ^ 32 - 1) (p.age + (divRound (dt : Int) n).toNat)
  if ua = 0 then { p with age := age }
  else
    let tau := waterRho mean * waterC mean * pipeA s j * 1000 / (ua : Rat)
    { p with age := age, temp := satS 32 (gnd + ratRound (((p.temp - gnd : Int) : Rat) * Config.expNeg (h / tau))) }

/-- One sub-step of dt/n ms (R264). -/
def droveStep (q : List Int) (dt n : Nat) (s : State) : State :=
  let np := nPipe s.model.image
  let outs := (upTo np).map (pipeOut s q dt n)
  let arr := fun i => (upTo np).flatMap (fun j =>
    if (flowEnds s (nth 0 q j) j).2 = i then (nth ([], [], false) outs j).1 else []) ++ nodeSources s dt n i
  let mixes := (upTo (nNode s.model.image)).map (fun i => mixture (arr i))
  let mix := (upTo (nNode s.model.image)).map (fun i => (nth none mixes i).getD (nodeMix s i))
  let ins := (upTo np).map (fun j =>
    let f := nth 0 q j
    let w := min (stepVol f dt n) (pipeV s j)
    let keep := fromInlet f (nth ([], [], false) outs j).2.1
    let row := if w = 0 then keep else { nth ⟨0, 0, 0, 0⟩ mix (flowEnds s f j).1 with vol := w } :: keep
    let (r, c) := mergeRow row.length row
    (fromInlet f (r.map (coolParcel s j dt n (rowMeanT s j))), c))
  onEst (fun e => { e with
    rows := ins.map (·.1), mix := mix, inflow := mixes.map (·.isSome)
    subCap := e.subCap || outs.any (·.2.2), mergeCnt := e.mergeCnt + (ins.map (·.2)).foldl (· + ·) 0 }) s

/-- Every pipe gets one parcel at ground temperature of unknown history (R266). The mixture of a node that never had
one is open. -/
def droveRestart (s : State) : State :=
  let nn := nNode s.model.image
  let f := s.free
  let s := onEst (fun e => { e with
    droveValid := true, restarted := true
    rows := (upTo (nPipe s.model.image)).map (fun j =>
      [⟨toParcelT s (recS s.model.image 0x11 20 j 0x0C 2), pipeV s j, 0, 65535⟩])
    mix := if e.mix.length = nn then e.mix else (upTo nn).map (fun i => ⟨(Config.freeNat (f + i) : Int), 0, 0, 65535⟩)
    inflow := List.replicate nn false }) s
  { s with free := f + nn }

/-- One pipe's row is restarted after an uncorrectable error (R266). -/
def pipeRestart (j : Nat) (s : State) : State :=
  onEst (fun e => { e with
    rows := modNth e.rows j (fun _ => [⟨toParcelT s (recS s.model.image 0x11 20 j 0x0C 2), pipeV s j, 0, 65535⟩])
    pipeRestarts := min 65535 (e.pipeRestarts + 1) }) s

/-- A parcel record (R263). -/
def parcelBytes (p : Parcel) : Bytes := leIntBytes 4 p.temp ++ leBytes 4 p.vol ++ leBytes 4 p.age ++ leBytes 2 p.unk ++ zeros 2

/-- The parcel of a record (R263). -/
def parcelAt (b : Bytes) (off : Nat) : Parcel :=
  { temp := byteFieldS b off 4, vol := byteField b (off + 4) 4, age := byteField b (off + 8) 4, unk := byteField b (off + 12) 2 }

/-- The body of a Drove state object: the rows of 1,024 bytes, then the node mixtures (R529). -/
def droveBody (s : State) : Bytes :=
  (upTo (nPipe s.model.image)).flatMap (fun j => padTo 1024 ((nth [] s.est.rows j).flatMap parcelBytes)) ++
    (upTo (nNode s.model.image)).flatMap (fun i => parcelBytes { nodeMix s i with vol := 0 })

/-- The peer's Drove state replaces this unit's (R530); unused records of a row hold no volume. -/
def droveFromPeer (o : Bulk) (s : State) : State :=
  let img := s.model.image
  let row := fun j => ((upTo 64).map (fun k => parcelAt o.body (1024 * j + 16 * k))).filter (fun p => p.vol != 0)
  onEst (fun e => { e with
    droveValid := true, t0Prev := o.tag, rows := (upTo (nPipe img)).map row
    mix := (upTo (nNode img)).map (fun i => parcelAt o.body (1024 * nPipe img + 16 * i)), inflow := List.replicate (nNode img) false }) s

/-- The latest Drove state received from the peer under the model in effect. -/
def peerDrove (s : State) : Option Bulk :=
  match lookupNat 2 s.pair.peer with
  | some o => if o.sig = s.host.modelSig ∧ standby s = true then some o else none
  | none => none

/-- The number of sub-steps (R264). -/
def subSteps (s : State) (q : List Int) (dt : Nat) : Nat :=
  let need := (upTo (nPipe s.model.image)).foldl (fun a j =>
    let v := 1000 * pipeV s j
    max a ((((nth 0 q j).natAbs * dt) + v - 1) / v)) 0
  min (parN s 0x0727) (max 1 need)

/-- Sub-steps repeated. -/
def droveSteps (q : List Int) (dt n : Nat) : Nat → State → State
  | 0, s => s
  | k + 1, s => droveSteps q dt n k (droveStep q dt n s)

/-- The Drove state lies too far back, or there is none (R264). -/
def droveFar (s : State) : Bool :=
  !s.est.droveValid || decide (s.est.t0Prev + 10 * parN s 0x0720 * 1000000 < s.est.t0)

/-- The state that an advance starts from: a waiting one of the peer, the standby's latest one of the peer in place of
a restart, else a restart where it is too far back (R264, R266, R530). The second value tells a restart. -/
def droveOrigin (s : State) : State × Bool :=
  let take := s.pair.droveDue || droveFar s
  let s := { s with pair := { s.pair with droveDue := false } }
  match (if take then peerDrove s else none) with
  | some o => (droveFromPeer o s, false)
  | none => if droveFar s then (droveRestart s, true) else (s, false)

/-- The advance of a period over dt at the flows of the state being published (R264): dt in ms follows from the
boundaries. -/
def droveAdvance (q : List Int) (s : State) : State :=
  let per := parN s 0x0720
  let s := onEst (fun e => { e with dtClamped := false, subCap := false, restarted := false, mergeCnt := 0 }) s
  let (s, far) := droveOrigin s
  let e := s.est
  let clampd := !far && decide (e.t0 ≤ e.t0Prev)
  let dt := if far || clampd then per else (e.t0 - e.t0Prev) / 1000000
  let n := subSteps s q dt
  let s := droveSteps q dt n n s
  onEst (fun e => { e with dtClamped := clampd, subSteps := n, t0Prev := e.t0, pairDt := dt }) s

/-- An uncorrectable word at a DRAM address, where it lies in a pipe's row of the parcel store (R263, R266). -/
def rowBad (addr : Nat) (s : State) : State :=
  let j := (addr - s.est.base) / 1024
  if s.est.droveValid ∧ s.est.base ≤ addr ∧ j < nPipe s.model.image then pipeRestart j s else s

end Sys2Proof.Machine
end

