-- ==== Sys2Proof/Machine/Est.lean ====
section
/-! DEFINITION. Estimation: the boundary snapshot, the Newton job's outcome, and the published pair (R19, R255 to R262,
R267 to R277). -/

namespace Sys2Proof.Machine

/-- A source value brought into its kind's unit: value x GAIN + OFFSET, VALVE within 0 to 1 (R256). -/
def inputScale (e : InputMap) (v : Int) : Int :=
  let x := divRound (v * e.gain + e.offset * 65536) 65536
  if e.kind = 4 then clamp 0 65535 x else satS 32 x

/-- The value of a map entry if its source is fresh at `t0` (R255). -/
def sampleInput (s : State) (t0 i : Nat) : Option Int :=
  match sampleAt s t0 i with
  | some (v, ts) => if t0 ≤ ts + actN s 0x0726 * 1000000 then some (inputScale (inputMap s i) v) else none
  | none => none

/-- The inputs of a period are latched, each stale one replaced by its last fresh value (R255). -/
def latchInputs (t0 : Nat) (s : State) : State :=
  let is := usedInputs s
  let fresh := is.filterMap (fun i => (sampleInput s t0 i).map (fun v => (i, v)))
  let last := fresh.foldl (fun l p => insertNat p.1 p.2 l) s.est.lastFresh
  onEst (fun e => { e with
    lastFresh := last, held := []
    inputs := is.filterMap (fun i => (lookupNat i last).map (fun v => (i, v)))
    inputHeld := is.any (fun i => (lookupNat i last).isSome && (lookupNat i fresh).isNone) }) s

/-- A required input has never been fresh (R255). -/
def inputMissing (s : State) : Bool :=
  (usedInputs s).any (fun i => (inputMap s i).kind ≤ 3 && (lookupNat i s.est.inputs).isNone)

/-- The flows that case 1 of R258 gives are kept for later periods. -/
def keepFlows (s : State) : State :=
  let l := (upTo (nSubst s.model.image)).foldl (fun l k =>
    if snapFresh s k 2 then insertNat k (snapEntry s k).flow l else l) s.est.lastFlow
  onEst (fun e => { e with lastFlow := l }) s

/-- The last CONVERGED state under the signature in effect (R201, R260). -/
def estState (s : State) : Option HydState :=
  match s.est.state with
  | some x => if x.sig = s.host.modelSig then some x else none
  | none => none

/-- The period starts from the neutral point (R260). -/
def estCold (s : State) : Bool :=
  (estState s).isNone || (actN s 0x072A != 0 && decide (actN s 0x072A ≤ s.est.staleRun))

/-- The Newton job is over, with a cause; Drove starts (R261, R264). -/
def newtonOver (cause : Nat) (found : Option HydState) (s : State) : State :=
  onEst (fun e => { e with
    phase := 3, pend := some cause, found := found
    iter := if e.job = 0 then 0 else min 255 (oxq s 0).iter }) s

/-- The physical pressures in Pa and flows in mL/s of an iterate in the estimation's containers (R189, R229, R252). -/
def iterP (s : State) (x : List Int) : List Rat :=
  (upTo (nNode s.model.image)).map (fun i =>
    mantVal (nth 0 x i) (rangeExp s.model.image 0 i 2) * (base s.model.image 0 : Rat))
def iterQ (s : State) (x : List Int) : List Rat :=
  (upTo (nPipe s.model.image)).map (fun j =>
    let c := nNode s.model.image + j
    mantVal (nth 0 x c) (rangeExp s.model.image 0 c 2) * (base s.model.image 1 : Rat))

/-- The state that the Newton job leaves, as it is published (R261, R269). -/
def newtonState (s : State) : HydState :=
  let x := (oxq s 0).mem.x
  { sig := (oxq s 0).sig, t0 := s.est.t0, p := (iterP s x).map (fun v => satS 32 (ratRound v))
    q := (iterQ s x).map (fun v => satS 32 (ratRound v)) }

/-- The cause that a job's outcome gives (R261), with what it found. -/
def newtonCause (outcome : Nat) (s : State) : State :=
  match outcome with
  | 0 => newtonOver s.est.verdict (if s.est.verdict = 0 then some (newtonState s) else none) s
  | 1 => newtonOver 3 none s
  | 2 => newtonOver 4 none s
  | _ => onEst (fun e => { e with phase := 0 }) s

/-- tN (R259). -/
def estDeadline (s : State) (t0 : Nat) : Nat := t0 + actN s 0x0721 * 1000000 - s.est.tdrove * 1000

/-- NEWTON_JOB is armed (R259); an arm at or after tN ends at once with TIMEOUT (R225). -/
def newtonArm (s : State) : State :=
  let a : ArmReq := { prog := 9, iterLimit := actN s 0x0722, bench := false, deadline := estDeadline s s.est.t0, refact := true }
  match oxArm 0 a s with
  | none => s
  | some s =>
    let s := onEst (fun e => { e with phase := 2, job := (oxq s 0).job }) s
    if deadlineReached s a.deadline then newtonCause 2 s else s

/-- A period that is to start Newton notes whether it starts from the neutral point, and arms (R259, R260). -/
def newtonBegin (s : State) : State := newtonArm (onEst (fun e => { e with cold := estCold s }) s)

/-- The estimation of boundary `t0` starts: snapshot, inputs, and the arm unless the cause is decided already (R19,
R255, R261). -/
def estBegin (t0 : Nat) (s : State) : State :=
  let s := onEst (fun e => { e with
    phase := 1, t0 := t0, snap := snapTable t0 s, pend := none, found := none, halvings := 0, job := 0, iter := 0
    cold := false, verdict := 0, pipeT := (upTo (nPipe s.model.image)).map (rowMeanT s) }) s
  let s := onModel (fun m => { m with prior := [] }) (silentCheck s.est.snap t0 s)
  let s := keepFlows (latchInputs t0 s)
  if !modelHere s || stopping s 7 0 then newtonOver 6 none s
  else if inputMissing s then newtonOver 5 none s
  else newtonBegin s

/-- The boundary's pulse: one handed over already, or that of unit 14 if its target is reached (R330, R332). -/
def takePulse (unit : Nat) (s : State) : Option Nat × State :=
  let held := if unit = 14 then s.time.pulse14 else s.time.pulse15
  let clear := onTime (fun t => if unit = 14 then { t with pulse14 := none } else { t with pulse15 := none })
  match held, s.time.trg[unit]? with
  | some n, _ => (some n, clear s)
  | none, some t =>
    if t.armed && decide (signedDiff 48 (t.target % 2 ^ 48) (s.time.ont % 2 ^ 48) ≤ 0) then
      (some t.target, clear (trgFire unit s))
    else (none, s)
  | none, none => (none, s)

/-- Estimation's boundary, if it is due (R19). -/
def estBoundary (s : State) : State :=
  if solving s && unitActive s 7 0 then
    match takePulse 14 s with
    | (some t0, s) => estBegin t0 s
    | (none, s) => s
  else s

/-- The state a publication carries: the one found when CONVERGED, else the last CONVERGED one (R261). -/
def pubState (s : State) : Option HydState := if s.est.pend = some 0 then s.est.found else estState s

/-- The arrival values of a sub-station: the mixture at its supply node (R267). -/
def arrival (s : State) (k : Nat) : Parcel := nodeMix s (substAtt s.model.image k).1

/-- FLAGS of a SUBST entry (R270). -/
def substFlags (s : State) (k : Nat) (dp : Int) : Nat :=
  let (_, held, no) := substFlow s k
  flagsNat [held, no, decide (dp < 10 * (recN s.model.image 0x12 16 k 0xA 2 : Int)), (arrival s k).unk != 0,
    !nth false s.est.inflow (substAtt s.model.image k).1]

/-- DP_EST of a sub-station (R270). -/
def dpEst (s : State) (p : List Int) (k : Nat) : Int :=
  let (sup, ret, _) := substAtt s.model.image k
  nth 0 p sup - nth 0 p ret

/-- A SUBST entry (R270). -/
def substEntry (s : State) (p : List Int) (k : Nat) : Bytes :=
  leIntBytes 2 (ofParcelT s (arrival s k).temp) ++ leBytes 2 (substFlags s k (dpEst s p k)) ++
    leBytes 4 (arrival s k).age ++ leIntBytes 4 (substFlow s k).1 ++ leIntBytes 4 (satS 32 (dpEst s p k))

/-- The members of a cluster. -/
def members (img : Bytes) (c : Nat) : List Nat := (upTo (nSubst img)).filter (fun k => (substAtt img k).2.2 == c)

/-- The mean of a quantity over a cluster, weighted by abs(Q_USED), plain where all those flows are 0 (R267). -/
def clusterMean (s : State) (c : Nat) (f : Nat → Int) : Int :=
  let l := members s.model.image c
  let w := fun k => (substFlow s k).1.natAbs
  let tot := l.foldl (fun a k => a + w k) 0
  if tot = 0 then (if l.length = 0 then 0 else divRound (l.foldl (fun a k => a + f k) 0) l.length)
  else divRound (l.foldl (fun a k => a + f k * (w k : Int)) 0) tot

/-- Mean T_ARR of a cluster in 0.01 °C. -/
def clusterT (s : State) (c : Nat) : Int := clusterMean s c (fun k => ofParcelT s (arrival s k).temp)

/-- Mean DELAY of a cluster in ms. -/
def clusterDelay (s : State) (c : Nat) : Nat := (clusterMean s c (fun k => (arrival s k).age)).toNat

/-- A CLUSTER entry (R269). -/
def clusterEntry (s : State) (c : Nat) : Bytes :=
  let ds := (members s.model.image c).map (fun k => (arrival s k).age)
  leIntBytes 2 (clusterT s c) ++ leIntBytes 2 (clusterMean s c (fun k => (arrival s k).unk)) ++
    leBytes 4 (clusterDelay s c) ++ leBytes 4 (ds.foldl min (ds.headD 0)) ++ leBytes 4 (ds.foldl max 0)

/-- The next multiple of 16. -/
def align16 (n : Nat) : Nat := (n + 15) / 16 * 16

/-- A pipe runs above V_MAX (R191, R268). -/
def tooFast (s : State) (q : List Int) (j : Nat) : Bool :=
  decide ((pipeN s j 0xE 2 : Rat) / 1000 * pipeA s j < ((nth 0 q j).natAbs : Rat) / 1000000)

/-- IMBALANCE of a network in mL/s (R253). -/
def imbalance (s : State) (q : List Int) (net : Nat) : Int :=
  if nNet s.model.image ≤ net then 0
  else satS 32 (ratRound (ratSum (((upTo (nNode s.model.image)).filter (fun i =>
    nodeNet s.model.image i == net && isReference s i)).map (residualH s (rats q)))))

/-- FLAGS of the pair (R268). -/
def pairFlagBits (s : State) : Nat :=
  let img := s.model.image
  flagsNat [s.est.pend != some 0, s.est.cold, s.est.restarted, s.est.dtClamped, s.est.subCap,
    (upTo (nSubst img)).any (fun k => (arrival s k).unk != 0), s.est.inputHeld, (pubState s).isNone]

/-- The published buffer of publication `k`: header, arrays and closing number (R268 to R270). -/
def pairBytes (s : State) (k : Nat) : Bytes :=
  let img := s.model.image
  let z := fun n => List.replicate n (0 : Int)
  let p := match pubState s with | some x => x.p | none => z (nNode img)
  let q := match pubState s with | some x => x.q | none => z (nPipe img)
  let offQ := align16 (0x80 + 4 * nNode img)
  let offT := align16 (offQ + 4 * nPipe img)
  let offS := align16 (offT + 2 * nNode img)
  let offC := align16 (offS + 16 * nSubst img)
  let ends := offC + 16 * nCluster img
  let nodes := upTo (nNode img)
  let subs := upTo (nSubst img)
  let n := fun (l : List Nat) (f : Nat → Bool) => leBytes 2 (l.filter f).length
  let out := n nodes (fun i => decide (nth 0 p i < recS img 0x10 16 i 4 4) || decide (recS img 0x10 16 i 8 4 < nth 0 p i))
  let hdr := leBytes 4 k ++ leBytes 4 (ends + 4) ++ leBytes 8 s.host.modelSig ++ leBytes 8 s.est.t0 ++
    leBytes 8 s.time.ont ++ leBytes 8 (match pubState s with | some x => x.t0 | none => 0) ++
    leBytes 4 (pairFlagBits s) ++ leBytes 1 (s.est.pend.getD 6) ++ leBytes 1 s.est.iter ++ leBytes 1 s.est.halvings ++
    leBytes 1 s.est.subSteps ++ leBytes 4 s.est.staleRun ++ leBytes 4 s.est.job ++
    leIntBytes 4 (satS 32 (ratRound (maxH s (rats q)))) ++ leIntBytes 4 (satS 32 (ratRound (maxG s (rats p) (rats q)))) ++
    (upTo 4).flatMap (fun c => leIntBytes 4 (imbalance s q c)) ++
    leBytes 2 (nNode img) ++ leBytes 2 (nPipe img) ++ leBytes 2 (nSubst img) ++ leBytes 2 (nCluster img) ++
    out ++ n (upTo (nPipe img)) (tooFast s q) ++ n subs (fun i => bit (substFlags s i (dpEst s p i)) 2) ++
    n nodes (isIsolated s) ++ n subs (fun i => (substFlow s i).2.1) ++ n subs (fun i => (substFlow s i).2.2) ++
    leBytes 4 s.est.pairDt ++ leBytes 4 0x80 ++ leBytes 4 offQ ++ leBytes 4 offT ++ leBytes 4 offS ++ leBytes 4 offC ++
    zeros 4
  padTo offQ (padTo 0x80 hdr ++ nodes.flatMap (fun i => leIntBytes 4 (nth 0 p i))) ++
    padTo (offT - offQ) ((upTo (nPipe img)).flatMap (fun j => leIntBytes 4 (nth 0 q j))) ++
    padTo (offS - offT) (nodes.flatMap (fun i => leIntBytes 2 (ofParcelT s (nodeMix s i).temp))) ++
    padTo (offC - offS) (subs.flatMap (substEntry s p)) ++ (upTo (nCluster img)).flatMap (clusterEntry s) ++ leBytes 4 k

/-- What dispatch reads of the pair is kept with it (R21, R287). -/
def keepPair (s : State) : State :=
  let img := s.model.image
  let p := match pubState s with | some x => x.p | none => []
  onEst (fun e => { e with pair := {
    flags := pairFlagBits s, t0 := s.est.t0
    nodeT := (upTo (nNode img)).map (fun i => ofParcelT s (nodeMix s i).temp)
    tArr := (upTo (nCluster img)).map (clusterT s), delay := (upTo (nCluster img)).map (clusterDelay s)
    dp := (upTo (nSubst img)).map (dpEst s p), inputs := s.est.inputs
    demand := (upTo (nSubst img)).map (fun k => if (snapEntry s k).eccBad then 0 else (snapEntry s k).demand) } }) s

/-- The counts and alarms that a publication moves (R262, R277). -/
def estCount (s : State) : State :=
  let conv := s.est.pend == some 0
  let t := match pubState s with | some x => x.t0 | none => 0
  let c := s.est.pend.getD 6
  let e0 := s.est
  let s := onEst (fun e => { e with
    cause := c, stale := !conv, state := if conv then e.found else e.state
    staleRun := if conv then 0 else e.staleRun + 1
    staleCnt := if conv then e.staleCnt else satInc 32 e.staleCnt
    convCnt := if conv then satInc 32 e.convCnt else e.convCnt
    fill := bit (pairFlagBits s) 5 }) s
  if conv && e0.alarmed then raise 0x0721 33 0 c t (onEst (fun e => { e with alarmed := false }) s)
  else if !conv && !e0.alarmed && actN s 0x0725 != 0 && decide (actN s 0x0725 ≤ s.est.staleRun) then
    raise 0x0720 33 s.est.staleRun c t (onEst (fun e => { e with alarmed := true }) s)
  else s

/-- The Drove advance of the period ends and the pair is published (R268). The duration of the advance is open. -/
def estPublish (s : State) : State :=
  let q := match pubState s with | some x => x.q | none => []
  let s := droveAdvance q s
  let f := Config.freeNat s.free
  let s := onEst (fun e => { e with droveTime := f % (e.tdrove + 1) }) s.drawn
  let s := keepPair s
  let st := s
  let s := estCount s
  let k := (s.host.resEst + 1) % 2 ^ 32
  let b := pairBytes { st with est := { st.est with staleRun := s.est.staleRun } } k
  onHost (fun h => { h with resEst := k })
    (onEst (fun e => { e with phase := 0, buf := e.buf.set (k % 3) b, pend := none, found := none }) s)

/-- EST_STATUS (R275). -/
def estStatus (e : EstSt) : Nat :=
  e.phase + 4 * b2n e.stale + 8 * b2n e.fill + 256 * min e.staleRun 255 + 65536 * e.iter

/-- DROVE_STATUS (R275). -/
def droveStatus (e : EstSt) : Nat :=
  b2n (e.phase == 3) + 2 * b2n e.dtClamped + 4 * b2n e.subCap + 8 * b2n e.restarted + 16 * (e.subSteps % 16) +
    65536 * e.pipeRestarts

/-- A register of the estimation block, by its offset in the Ox region (R274). -/
def estReg (s : State) (off : Nat) : Nat :=
  let e := s.est
  match off with
  | 0x200 => estStatus e
  | 0x204 => e.cause
  | 0x208 => e.t0 % 2 ^ 32
  | 0x20C => e.t0 / 2 ^ 32 % 2 ^ 32
  | 0x210 => e.staleCnt
  | 0x214 => e.convCnt
  | 0x218 => e.tdrove
  | 0x21C => droveStatus e
  | 0x220 => e.base % 2 ^ 32
  | 0x224 => e.base / 2 ^ 32 % 16
  | 0x228 => e.mergeCnt
  | 0x22C => e.droveTime
  | _ => 0

/-- How many objects an input kind has. -/
def kindCount (img : Bytes) (kind : Nat) : Nat :=
  match kind with
  | 1 | 2 => nPlant img
  | 3 => nPump img
  | 4 => nPipe img
  | _ => nStore img

/-- EST_INPUT_MAP names every required input once (R257 item 2). -/
def inputMapOk (img : Bytes) (s : State) : Bool :=
  let l : List InputMap := (usedInputs s).map (inputMap s)
  let keys : List (Nat × Nat) := l.map (fun e => (e.kind, e.object))
  l.all (fun e => e.kind ≤ 6 && e.object < kindCount img e.kind && sourceValid s e.src e.index e.sub) &&
    decide keys.Nodup &&
    (upTo (nPlant img)).all (fun k => keys.contains (1, k) && keys.contains (2, k)) &&
    (upTo (nPump img)).all (fun k => keys.contains (3, k)) && (upTo (nStore img)).all (fun k => keys.contains (5, k))

/-- The consistency check of OX unit 0 against a model (R250, R257). -/
def oxCheck (img : Bytes) (s : State) : CheckFail :=
  let lo : Int := (par s 0x0727 * tSubUs img + 2999) / 1000 + 5
  firstFail (oxCheckItems img s 0 ++
    [(decide (lo ≤ par s 0x0721) && decide (par s 0x0721 ≤ par s 0x0720), 0x0705, 0x0721), (inputMapOk img s, 0x0712, 0x0728),
     ((usedInputs s).all (fun i => let e := inputMap s i; sourceEnabled s e.src e.index), 0x070D, 0)])

/-- The next ONT that is a whole multiple of a period in ms. -/
def nextBoundary (s : State) (perNs : Nat) : Nat := (s.time.ont / perNs + 1) * perNs

/-- The start of OX unit 0: counters, Drove state and inputs begin anew, and unit 14 is armed (R255, R266, R274, R330). -/
def oxStart (s : State) : State :=
  let per := parN s 0x0720 * 1000000
  let s := onEst (fun e => { e with
    phase := 0, staleCnt := 0, convCnt := 0, pipeRestarts := 0, lastFresh := [], lastFlow := [], droveValid := false }) s
  armTrigger 14 true false false (nextBoundary s per) per 8 0 s

/-- The estimation stop begins: the solver abort of queue 0 (R273). -/
def oxStop (s : State) : State := oxAbortStart 0 s

/-- The estimation stop ends: nothing is published and unit 14 is disarmed; the Drove state is kept (R273). -/
def oxStopEnd (s : State) : State :=
  disarm 14 (onEst (fun e => { e with phase := 0, pend := none, found := none }) (oxAbortEnd 0 s))

end Sys2Proof.Machine
end

