-- ==== Sys2Proof/Machine/Loop.lean ====
section
/-! DEFINITION. The closed-loop control engine (R357 to R377). -/

namespace Sys2Proof.Machine

/-- One loop. -/
def loopOf (s : State) (n : Nat) : LoopSt := nth {} s.loops n

/-- One loop changed. -/
def onLoop (n : Nat) (f : LoopSt → LoopSt) (s : State) : State := { s with loops := modNth s.loops n f }

/-- The ID of a loop's parameter (R375). -/
def loopId (n k : Nat) : Nat := 0x2000 + 0x80 * n + k

/-- The committed value of a loop's parameter. -/
def lp (s : State) (n k : Nat) : Int := act s (loopId n k)

/-- The same as a natural number. -/
def lpN (s : State) (n k : Nat) : Nat := (lp s n k).toNat

/-- A sticky flag is set; the first after a clear raises EV_LOOP_SAT (R362). -/
def loopStick (n bitNo : Nat) (cond : Bool) (s : State) : State :=
  let x := loopOf s n
  if cond && !bit x.sticky bitNo then
    let s := onLoop n (fun l => { l with sticky := l.sticky + 2 ^ bitNo }) s
    if x.sticky = 0 then raise 0x0A11 57 n (2 ^ bitNo) (ontLo s) s else s
  else s

/-- EV_LOOP_STATE, at most once per loop per 100 ms (R369). -/
def loopEvent (n : Nat) (s : State) : State :=
  let x := loopOf s n
  if x.changes != 0 && elapsed x.lastEvt 100000000 s then
    raise 0x0A12 58 n x.state x.changes (onLoop n (fun l => { l with changes := 0, lastEvt := some s.time.ont }) s)
  else s

/-- The loop enters a state (R369). -/
def loopEnter (n st : Nat) (s : State) : State :=
  if (loopOf s n).state = st then s
  else loopEvent n (onLoop n (fun l => { l with state := st, changes := l.changes + 1, feTmr := if st = 2 then l.feTmr else 0 }) s)

/-- The loop drives a value: the level of mode 3 follows its two thresholds (R363). -/
def loopDrive (n : Nat) (v : Int) (s : State) : State :=
  onLoop n (fun l => { l with
    drive := v, driven := true
    level := if lp s n 0x27 ≤ v then true else if v ≤ lp s n 0x28 then false else l.level }) s

/-- The value driven in a state other than RUN, HOLD and STANDBY (R368); none keeps the last. -/
def loopSafe (s : State) (n : Nat) : Option Int :=
  match (loopOf s n).state with
  | 1 => some (lp s n 0x24)
  | 3 => if lp s n 0x25 = 0 then some (lp s n 0x23) else none
  | 0 | 6 | 7 => some (lp s n 0x23)
  | _ => none

/-- The output follows the state just entered. -/
def loopOutput (n : Nat) (s : State) : State :=
  match loopSafe s n with
  | some v => loopDrive n v s
  | none => s

/-- The high time of a PWM period in 8 ns ticks (R363 mode 1). -/
def pwmHigh (s : State) (n : Nat) : Int :=
  divRound (max (loopOf s n).drive 0 * lp s n 0x26) (2 ^ 31)

/-- The density of the pulse stream of mode 2, in 2^-31 (R363). -/
def pdmDensity (s : State) (n : Nat) : Int := max (loopOf s n).drive 0

/-- The ball LOOP_OUTn is driven: its mode drives it, it has been driven, and no unit in STANDBY drives (R363, R514). -/
def loopBall (s : State) (n : Nat) : Bool := lp s n 0x20 != 0 && (loopOf s n).driven && !standby s

/-- The loop enters FAULT (R366, R367). -/
def loopFault (n cause : Nat) (p3 : Nat) (s : State) : State :=
  let s := onLoop n (fun l => { l with cause := cause }) s
  loopOutput n (loopEnter n 6 (raise 0x0A10 56 n cause p3 s))

/-- The loop's state starts anew (R370 step 1). -/
def loopRestart (n : Nat) (s : State) : State :=
  onLoop n (fun l => { l with
    sticky := 0, s1 := lp s n 0x24, s2 := 0, s3 := 0, started := false, cause := 0, feTmr := 0, since := s.time.ont
    realign := false }) s

/-- The permit as the loop sees it (R369). -/
def loopPermit (s : State) (n : Nat) : Bool := lp s n 0x3A == 0 || permitBit s n

/-- The source of a loop: value and age in ns; none before the first value (R359). -/
def loopSource (s : State) (n : Nat) : Option (Int × Nat) :=
  (sourceValue s (lpN s n 0x01) (lpN s n 0x02) (lpN s n 0x03)).map (fun x => (x.1, s.time.ont - x.2))

/-- PV of a source value, and IN_SAT (R359). -/
def loopPv (s : State) (n : Nat) (v : Int) : Int × Bool :=
  satFlag 32 (divRound (v * lp s n 0x05 + lp s n 0x06 * 65536) 65536)

/-- The age of a source is over LOOP_IN_MAX_AGE (R359). -/
def loopStale (s : State) (n : Nat) (age : Nat) : Bool :=
  lp s n 0x07 != 0 && decide (lpN s n 0x07 * 1000000 < age)

/-- The square root of a number with 16 fraction bits, truncated to 16 fraction bits (R365). -/
def sqrtQ16 (x : Nat) : Int := (Nat.sqrt (x * 65536) : Nat)

/-- x · h for h in µs, rounded (R12). -/
def timesH (x : Int) (h : Nat) : Int := divRound (x * (h : Int)) 1000000

/-- The acceleration and velocity that a profile step wants (R365): VMAX, AMAX, JMAX as integers, h in µs. -/
def profileVel (d v a : Int) (vmax amax jmax h : Nat) : Int × Int :=
  let sd := Int.sign d
  let q : Int := 65536
  if amax = 0 then (sd * vmax * q, 0)
  else
    let vt := sd * min ((vmax : Int) * q) (sqrtQ16 (2 * amax * d.natAbs))
    let am : Int := (amax : Int) * q
    if jmax = 0 then
      let a := clamp (-am) am (divRound ((vt - v) * 1000000) h)
      (v + timesH a h, a)
    else
      let wa := Int.sign (vt - v) * min am (sqrtQ16 (2 * jmax * (vt - v).natAbs))
      let jh := timesH ((jmax : Int) * q) h
      let a := a + clamp (-jh) jh (wa - a)
      (v + timesH a h, a)

/-- One profile step: p, v, a, and PROF_SAT (R365). -/
def profileStep (target p v a : Int) (vmax amax jmax h : Nat) : (Int × Int × Int) × Bool :=
  let t := target * 65536
  if vmax = 0 then ((t, 0, 0), false)
  else
    let d := t - p
    let (v, a) := profileVel d v a vmax amax jmax h
    let pn := p + timesH v h
    if pn = t ∨ Int.sign (t - pn) ≠ Int.sign d then ((t, 0, 0), false)
    else
      let pc := clamp (-2147483648 * 65536) (2147483647 * 65536) pn
      ((pc, v, a), pc != pn)

/-- The scheduled gain K for an error (R360). -/
def loopGain (s : State) (n : Nat) (e : Int) : Nat :=
  let sh := lpN s n 0x1A
  let pos := if lp s n 0x19 = 0 then (e.natAbs * 65536 : Int) / (2 ^ sh : Nat) else e * 65536 / (2 ^ sh : Nat) + 32 * 65536
  let pos := (clamp 0 (63 * 65536) pos).toNat
  let i := pos / 65536
  let g := fun j => tabN s (loopId n 0x1B) (4 * j) 4
  if i = 63 then g 63 else ((g i : Int) + ((g (i + 1) : Int) - (g i : Int)) * ((pos % 65536 : Nat) : Int) / 65536).toNat

/-- The product [c·x] of coefficient `k` (0 to 6) with its own shift (R361). -/
def coefMul (s : State) (n k : Nat) (x : Int) : Int := shiftRound (lp s n (0x08 + k) * x) (lpN s n (0x10 + k))

/-- The filter of R361 for a scaled error: u and the new states, with the flags it sets. -/
def loopFilter (n : Nat) (w : Int) (s : State) : State :=
  let x := loopOf s n
  let (y, ySat) := satFlag 32 (coefMul s n 0 w + x.s1)
  let ya := clamp (lp s n 0x21) (lp s n 0x22) y
  let yf := if lp s n 0x18 = 1 then ya else y
  let (s1, f1) := satFlag 32 (coefMul s n 1 w - coefMul s n 4 yf + x.s2)
  let (s2, f2) := satFlag 32 (coefMul s n 2 w - coefMul s n 5 yf + x.s3)
  let (s3, f3) := satFlag 32 (coefMul s n 3 w - coefMul s n 6 yf)
  let s := loopStick n 3 ySat s
  let s := loopStick n 4 f1 s
  let s := loopStick n 5 f2 s
  let s := loopStick n 6 f3 s
  let s := loopStick n 7 (ya != y) s
  onLoop n (fun l => { l with s1 := s1, s2 := s2, s3 := s3, out := ya }) s

/-- The target of a loop under a cascade (R364). -/
def cascadeTarget (s : State) (n : Nat) : Int :=
  satS 32 (divRound ((loopOf s (lpN s n 0x31)).out * lp s n 0x32) (2 ^ 31) + lp s n 0x33)

/-- The set-point moves one step; reaching the target may raise an event (R364, R365). -/
def loopProfile (n : Nat) (s : State) : State :=
  let s := if lp s n 0x30 = 1 then onLoop n (fun l => { l with target := cascadeTarget s n }) s else s
  let x := loopOf s n
  let ((p, v, a), sat) := profileStep x.target x.p x.v x.a (lpN s n 0x34) (lpN s n 0x35) (lpN s n 0x36) (lpN s n 0x00)
  let now := p == x.target * 65536
  let s := loopStick n 8 sat (onLoop n (fun l => { l with p := p, v := v, a := a, atTarget := now }) s)
  if now && !x.atTarget && lp s n 0x3B == 1 then raise 0x0A13 59 n (u32 x.target) (ontLo s) s else s

/-- The supervision timer has reached LOOP_FE_TIME (R366). -/
def feReached (s : State) (n : Nat) : Bool :=
  lp s n 0x38 != 0 && (loopOf s n).feTmr != 0 && decide (lp s n 0x39 * 1000 ≤ (loopOf s n).feTmr * lp s n 0x00)

/-- Following-error supervision after an evaluation (R366). -/
def loopSupervise (n : Nat) (s : State) : State :=
  let x := loopOf s n
  let lim := lpN s n 0x38
  let s := onLoop n (fun l => { l with feTmr := if lim ≠ 0 ∧ lim < x.err.natAbs then l.feTmr + 1 else 0 }) s
  if feReached s n then loopFault n 1 (u32 x.err) s else s

/-- One evaluation in RUN: profile, error, gain, filter and output (R360, R361, R365). -/
def loopRun (n : Nat) (s : State) : State :=
  let s := if (loopOf s n).realign then
      onLoop n (fun l => { l with p := l.pv * 65536, v := 0, a := 0, realign := false }) s else s
  let s := loopProfile n s
  let x := loopOf s n
  let (e, eSat) := satFlag 32 (shiftRound x.p 16 - x.pv)
  let k := loopGain s n e
  let (w, wSat) := satFlag 32 (shiftRound ((k : Int) * e) (lpN s n 0x04))
  let s := onLoop n (fun l => { l with err := e, gain := k }) s
  let s := loopStick n 2 wSat (loopStick n 1 eSat s)
  let s := loopFilter n w s
  loopSupervise n (loopDrive n (loopOf s n).out (loopEnter n 2 s))

/-- START at a sample: the first source value sets target and set-point and the loop runs; otherwise the start timeout
is looked at (R370). -/
def loopStarting (n : Nat) (have_ : Bool) (s : State) : State :=
  if have_ then
    let s := onLoop n (fun l => { l with
      started := true, target := l.pv, p := l.pv * 65536, v := 0, a := 0 }) s
    loopRun n s
  else
    let s := loopOutput n (loopEnter n 1 s)
    let age := s.time.ont - (loopOf s n).since
    if loopStale s n age then loopFault n 2 (min (age / 1000000) (2 ^ 32 - 1)) s else s

/-- The loop's part in a running sample once STOPPING, STANDBY, HOLD, FAULT and INHIBIT do not apply (R366, R368). -/
def loopActive (n : Nat) (src : Option (Int × Nat)) (s : State) : State :=
  match src with
  | none => if (loopOf s n).started then loopRun n s else loopStarting n false s
  | some (_, age) =>
    if !(loopOf s n).started then loopStarting n true s
    else if loopStale s n age then
      loopFault n 2 (min (age / 1000000) (2 ^ 32 - 1)) s
    else loopRun n s

/-- A mirrored loop entry is written into the loop (R526 KIND 1). -/
def loopMirror (n : Nat) (b : Bytes) (s : State) : State :=
  let u := byteFieldS b 40 4
  onLoop n (fun l => { l with
    target := byteFieldS b 0 4, p := byteFieldS b 4 8, v := byteFieldS b 12 8, a := byteFieldS b 20 8
    s1 := byteFieldS b 28 4, s2 := byteFieldS b 32 4, s3 := byteFieldS b 36 4, out := u, drive := u, started := true }) s

/-- Clears that LOOP_CLEAR left for the sample take effect (R374, R376). -/
def loopClears (n : Nat) (s : State) : State :=
  let m := (loopOf s n).clearDue
  let s := onLoop n (fun l => { l with clearDue := 0, sticky := if bit m 0 then 0 else l.sticky }) s
  if bit m 1 && (loopOf s n).cause != 0 then loopRestart n s else s

/-- The memory error that awaited the sample puts the loop in FAULT, where no earlier state of R368 applies (R367). -/
def loopEcc (n : Nat) (s : State) : State :=
  match (loopOf s n).eccDue with
  | none => s
  | some off => raise 0x0A10 56 n 3 off (onLoop n (fun l => { l with eccDue := none, cause := 3 }) s)

/-- The input of a sample is latched: PV, its age and the permit (R359). -/
def loopLatch (n : Nat) (src : Option (Int × Nat)) (s : State) : State :=
  let s := onLoop n (fun l => { l with permit := loopPermit s n, samples := wrapInc 32 l.samples, ts := ontLo s, handed := false }) s
  match src with
  | none => s
  | some (v, age) =>
    let (pv, sat) := loopPv s n v
    let s := holdSample 5 n s
    loopStick n 0 sat (onLoop n (fun l => { l with pv := pv, valAt := some s.time.ont, stale := loopStale s n age }) s)

/-- The state of a sample, in the order of R368, and what it does. -/
def loopDecide (n : Nat) (src : Option (Int × Nat)) (s : State) : State :=
  let x := loopOf s n
  if standby s then
    match mirrorTake 1 n (loopEnter n 5 s) with
    | (some b, s) => loopMirror n b s
    | (none, s) => s
  else if holdLine s then loopEnter n 4 s
  else if x.cause != 0 then loopOutput n (loopEnter n 6 s)
  else if !x.permit then
    loopOutput n (loopEnter n 3 (onLoop n (fun l => { l with realign := l.started }) s))
  else loopActive n src s

/-- The parameters of a loop that a sample commits (R358). -/
def loopParams (n id : Nat) : Bool := loopId n 0 ≤ id && id < loopId n 0x80

/-- The tick count is at a sample instant of the loop (R357). -/
def loopInstant (s : State) (n : Nat) : Bool := onInstant (125 * n) (125 * lpN s n 0x00) s

/-- One sample of a loop (R357 to R370). -/
def loopSample (n : Nat) (s : State) : State :=
  let x := loopOf s n
  if !(plantRuns s && enabled s 10 n && loopInstant s n) || stopping s 10 n || x.parked || x.waitScan then s
  else
    let s := loopClears n (parCommit (loopParams n) s)
    let src := loopSource s n
    loopEvent n (loopDecide n src (loopEcc n (loopLatch n src s)))

/-- LOOP_SAMPLE (R357): the events of one sample are events of one cycle. -/
def execLoopSample (n : Nat) (s : State) : Out := .next (oneCycle (loopSample n) s)

/-- FOLLOWING_ERROR_TIMEOUT (R366). -/
def execFollowingErrorTimeout (n : Nat) (s : State) : Out :=
  .next (if plantRuns s && (loopOf s n).state == 2 && feReached s n then loopFault n 1 (u32 (loopOf s n).err) s else s)

/-- LOOP_START_TIMEOUT (R370): a loop in START has had no source value within LOOP_IN_MAX_AGE. -/
def execLoopStartTimeout (n : Nat) (s : State) : Out :=
  .next (let age := s.time.ont - (loopOf s n).since
    if plantRuns s && (loopOf s n).state == 1 && !(loopOf s n).started && lp s n 0x07 != 0 && decide (lpN s n 0x07 * 1000000 ≤ age) then
      loopFault n 2 (min (age / 1000000) (2 ^ 32 - 1)) s
    else s)

/-- LOOP_MEMORY_ECC (R367): the error takes effect at the loop's next sample; it sets FAIL with cause 6 where
it lies in state memory (offsets below the coefficient view), as FAIL latches also stand-alone (R513). -/
def loopMemoryEcc (n off : Nat) (s : State) : State :=
  if !(plantRuns s && enabled s 10 n) then s
  else
    let s := onLoop n (fun l => { l with eccDue := some off, rewriting := true }) s
    if off < 0x80000 then failLatch 6 s else s

/-- LOOP_MEMORY_ECC (R367). -/
def execLoopMemoryEcc (n off : Nat) (s : State) : Out := .next (loopMemoryEcc n off s)

/-- LOOP_COEF_REWRITE_DONE (R367). -/
def execLoopCoefRewriteDone (n : Nat) (s : State) : Out :=
  .next (if malorWorks s then onLoop n (fun l => { l with rewriting := false }) s else s)

/-- The refusals that both LOOP commands share: variant and enable (R376). -/
def loopRefusal (s : State) (n : Nat) : Option Nat :=
  if (unitCount s 10).1 ≤ n then some (if n < 32 then 0x0A08 else 0x0A05)
  else if !enabled s 10 n then some 0x0A03
  else none

/-- The effect of LOOP_SP_SET (R364, R376); a hand-off in the same commit period prevails (R304). -/
def loopSpSet (p : Bytes) (s : State) : Answer :=
  let n := byteField p 0 1
  if p.length ≠ 8 ∨ byteField p 1 3 ≠ 0 then refuse s 0x0A0A
  else match loopRefusal s n with
    | some r => refuse s r
    | none =>
      if lp s n 0x30 = 1 then refuse s 0x0A06
      else if (loopOf s n).handed then done s []
      else done (onLoop n (fun l => { l with target := byteFieldS p 4 4 }) s) []

/-- LOOP_SP_SET (0x0A10). -/
def execLoopSpSet (m : Mail) (s : State) : Out := mailOut 0x0A10 m (loopSpSet m.payload) s

/-- The effect of LOOP_CLEAR (R367, R376, R516). -/
def loopClear (p : Bytes) (s : State) : Answer :=
  let n := byteField p 0 1
  let mask := byteField p 1 1
  if p.length ≠ 4 ∨ 3 < mask ∨ byteField p 2 2 ≠ 0 then refuse s 0x0A0A
  else match loopRefusal s n with
    | some r => refuse s r
    | none =>
      let x := loopOf s n
      if bit mask 1 && s.pair.failsafe then refuse s 0x0A06
      else if bit mask 1 && (x.cause == 3 || x.eccDue.isSome) && x.rewriting then refuse s 0x0A01
      else done (onLoop n (fun l => { l with clearDue := l.clearDue ||| mask }) s) []

/-- LOOP_CLEAR (0x0A11). -/
def execLoopClear (m : Mail) (s : State) : Out := mailOut 0x0A11 m (loopClear m.payload) s

/-- A hand-off writes a loop's target (R303, R364); one in STANDBY or with a cascade does not take it (R530). -/
def loopHand (n : Nat) (v : Int) (s : State) : State :=
  if lp s n 0x30 = 1 || standby s then s else onLoop n (fun l => { l with target := satS 32 v, handed := true }) s

/-- A permit was withdrawn at an output-image update: the loop enters INHIBIT and drives at once (R26, R363, R369). -/
def loopPermitGone (n : Nat) (s : State) : State :=
  let x := loopOf s n
  if (x.state = 1 ∨ x.state = 2) ∧ loopPermit s n = false then
    loopOutput n (loopEnter n 3 (onLoop n (fun l => { l with permit := false, realign := l.started }) s))
  else s

/-- The chain of cascades from loop `m` returns to `n` within `fuel` steps. -/
def cascadeReturns (s : State) (n : Nat) : Nat → Nat → Bool
  | 0, _ => true
  | k + 1, m =>
    if m = n then true
    else if par s (loopId m 0x30) = 1 then cascadeReturns s n k (parN s (loopId m 0x31))
    else false

/-- The consistency check of LOOP unit n (R371). -/
def loopCheck (n : Nat) (s : State) : CheckFail :=
  let g := fun k => par s (loopId n k)
  let m := (g 0x31).toNat
  firstFail
    [(decide (g 0x21 < g 0x22), 0x0A10, loopId n 0x21),
     (decide (g 0x21 ≤ g 0x23) && decide (g 0x23 ≤ g 0x22), 0x0A10, loopId n 0x23),
     (decide (g 0x21 ≤ g 0x24) && decide (g 0x24 ≤ g 0x22), 0x0A10, loopId n 0x24),
     (g 0x20 != 3 || decide (g 0x28 < g 0x27), 0x0A10, loopId n 0x28),
     (decide (g 0x01 ≤ 4) && sourceValid s (g 0x01).toNat (g 0x02).toNat (g 0x03).toNat, 0x0A11, loopId n 0x02),
     (sourceEnabled s (g 0x01).toNat (g 0x02).toNat, 0x0A0D, 0),
     (g 0x30 != 1 || (decide (m < (unitCount s 10).1) && m != n && enabled s 10 m && !cascadeReturns s n 33 m), 0x0A12, loopId n 0x31),
     (g 0x3A != 1 || enabled s 12 0, 0x0A0D, 0)]

/-- A loop starts (R370); the first enable of any loop writes its pad group (R371). -/
def loopStart (n : Nat) (s : State) : State :=
  let s := onLoop n (fun l => { l with parked := false, waitScan := false, clearDue := 0, eccDue := none }) s
  loopRestart n (parCommit (loopParams n) s)

/-- The loop stop begins: STOPPING drives LOOP_SAFE_OUT (R372). -/
def loopStop (n : Nat) (s : State) : State := loopOutput n (loopEnter n 7 s)

/-- The loop stop ends in OFF with filter state and profile kept (R372). -/
def loopStopEnd (n : Nat) (s : State) : State := loopOutput n (loopEnter n 0 s)

/-- Entry step 4 of R76, MINIMAL entry and R516: the loop goes to OFF while its unit stays ENABLED (R372). -/
def loopPark (n : Nat) (s : State) : State :=
  if enabled s 10 n then onLoop n (fun l => { l with parked := true }) (loopStopEnd n (loopStop n s)) else s

/-- After DEEP a parked loop waits for the first scan instant, then resumes with p := PV (R372). -/
def loopResume (n : Nat) (s : State) : State :=
  onLoop n (fun l => if l.parked then { l with parked := false, waitScan := true, realign := l.started } else l) s

/-- LOOP_n_STATE (R374). -/
def loopState (x : LoopSt) : Nat :=
  x.state + 8 * b2n x.permit + 16 * b2n x.atTarget + 256 * x.cause + 4096 * b2n x.stale

/-- On grant a loop in STANDBY drives its mirrored output at once (R369). -/
def loopGrant (n : Nat) (s : State) : State :=
  if (loopOf s n).state = 5 then loopDrive n (loopOf s n).out s else s

/-- RETAIN keeps a loop's integrators and target, and nothing of its last evaluation (R69, R372; log entry 31). -/
def loopsRetain (s : State) : State :=
  { s with loops := s.loops.map (fun l =>
      { state := l.state, target := l.target, s1 := l.s1, s2 := l.s2, s3 := l.s3, drive := l.drive, level := l.level
        driven := l.driven, started := l.started, since := l.since, rewriting := l.rewriting, parked := l.parked
        changes := l.changes, lastEvt := l.lastEvt }) }

/-- The word of the coefficient view of a loop at a byte offset of its 512 (R373). -/
def loopView (s : State) (n off : Nat) : Nat :=
  if off < 0x100 then tabN s (loopId n 0x1B) off 4
  else if off < 0x11C then toBits 32 (lp s n (0x08 + (off - 0x100) / 4))
  else if 0x120 ≤ off ∧ off < 0x13C then lpN s n (0x10 + (off - 0x120) / 4)
  else 0

/-- A register of a loop's block (R373, R374). -/
def loopBlock (x : LoopSt) (off : Nat) : Nat :=
  match off with
  | 0x00 => loopState x
  | 0x04 => x.sticky
  | 0x08 => toBits 32 x.target
  | 0x0C => toBits 32 (shiftRound x.p 16)
  | 0x10 => toBits 32 x.pv
  | 0x14 => toBits 32 x.err
  | 0x18 => x.gain
  | 0x1C => toBits 32 x.out
  | 0x20 => toBits 32 x.s1
  | 0x24 => toBits 32 x.s2
  | 0x28 => toBits 32 x.s3
  | 0x2C => s32sat (shiftRound x.v 16)
  | 0x30 => s32sat (shiftRound x.a 16)
  | 0x34 => x.feTmr
  | 0x38 => x.samples
  | 0x3C => x.ts
  | _ => 0

/-- A register of the loop engine by its offset in the region (R373). -/
def loopReg (s : State) (off : Nat) : Nat :=
  let cnt := (unitCount s 10).1
  if 0x1000 ≤ off ∧ off < 0x1000 + 0x40 * cnt then loopBlock (loopOf s ((off - 0x1000) / 64)) (off % 64)
  else if 0x80000 ≤ off ∧ off < 0x80000 + 0x200 * cnt then loopView s ((off - 0x80000) / 512) (off % 512)
  else match off with
    | 0x00 => cnt
    | 0x04 => bitsVal ((upTo cnt).map (enabled s 10))
    | 0x08 => bitsVal ((upTo cnt).map (fun n => (loopOf s n).state == 6))
    | 0x0C => b2n (grant s) + 2 * b2n (holdLine s)
    | _ => 0

end Sys2Proof.Machine
end

