-- ==== Sys2Proof/Machine/Motion.lean ====
section
/-! DEFINITION. Valve axes and step generation (R378 to R400). -/

namespace Sys2Proof.Machine

/-- One axis. -/
def axisOf (s : State) (n : Nat) : AxisSt := nth {} s.axes n

/-- One axis changed. -/
def onAxis (n : Nat) (f : AxisSt → AxisSt) (s : State) : State := { s with axes := modNth s.axes n f }

/-- The ID of an axis's parameter (R398). -/
def axisId (n k : Nat) : Nat := 0x3000 + 0x80 * n + k

/-- The committed value of an axis's parameter. -/
def ap (s : State) (n k : Nat) : Int := act s (axisId n k)

/-- The same as a natural number. -/
def apN (s : State) (n k : Nat) : Nat := (ap s n k).toNat

/-- The parameters of an axis that a tick commits (R378). -/
def axisParams (n id : Nat) : Bool := axisId n 0 ≤ id && id < axisId n 0x80

/-- The AX_CUR level: high powers the driver of a DN7421 down; high is run current on a DN7424 (R392, R393). -/
def axisCur (s : State) (n : Nat) : Bool :=
  let x := axisOf s n
  if big s then !x.down || x.waking else x.down && !x.waking

/-- The permit as the axis sees it (R387). -/
def axisPermit (s : State) (n : Nat) : Bool := ap s n 0x19 == 0 || permitBit s (32 + n)

/-- EV_MOTION_STATE, at most once per axis per 100 ms (R400). -/
def axisEvent (n : Nat) (s : State) : State :=
  let x := axisOf s n
  if x.changes != 0 && elapsed x.lastEvt 100000000 s then
    raise 0x0B15 69 n x.state x.changes (onAxis n (fun l => { l with changes := 0, lastEvt := some s.time.ont }) s)
  else s

/-- The AX_EN level a state gives (R387, R392); HOLD and STANDBY leave it. -/
def axisEn (s : State) (n : Nat) : Bool :=
  let x := axisOf s n
  let up := big s || !x.down
  match x.state with
  | 1 | 2 | 3 | 4 => up
  | 5 | 8 => ap s n 0x15 == 1 && up
  | 6 | 7 => x.en
  | _ => false

/-- The levels follow the state. -/
def axisLevels (n : Nat) (s : State) : State := onAxis n (fun l => { l with en := axisEn s n }) s

/-- The axis enters a state (R387). -/
def axisEnter (n st : Nat) (s : State) : State :=
  if (axisOf s n).state = st then axisLevels n s
  else axisEvent n (axisLevels n (onAxis n (fun l => { l with state := st, changes := l.changes + 1 }) s))

/-- The standstill power-up begins where the driver is down (R392, R393). -/
def axisWake (n : Nat) (s : State) : State :=
  onAxis n (fun l => if l.down && !l.waking then { l with waking := true } else l) s

/-- The slave position of an axis geared to its encoder (R385). -/
def gearPos (s : State) (n : Nat) : Int :=
  let x := axisOf s n
  x.sa + Int.fdiv (x.num * signedDiff 32 (nth 0 s.enc (apN s n 1)) x.ma) x.den

/-- MOT_n_LAG: the backlog of source 1 or the lag of source 2 (R396). -/
def axisLag (s : State) (n : Nat) : Int :=
  let x := axisOf s n
  if x.doing = 2 ∧ ap s n 0 = 2 then gearPos s n - x.pos else x.backlog

/-- The velocity with its sign, in microsteps/s, rounded. -/
def axisVel (s : State) (n : Nat) : Int :=
  let x := axisOf s n
  let v := shiftRound x.v 16
  if x.doing = 1 ∨ x.doing = 3 then (if x.dir then v else -v) else v

/-- The axis loses its position: POSITION_UNCERTAIN and EV_MOTION_UNCERTAIN (R388). -/
def axisUncertain (n : Nat) (s : State) : State :=
  raise 0x0B12 66 n (u32 (axisOf s n).pos) (u32 (axisVel s n)) (onAxis n (fun l => { l with uncertain := true }) s)

/-- Pulses stop at once (R388). -/
def axisHalt (n : Nat) (s : State) : State :=
  let x := axisOf s n
  let s := if x.doing != 0 && (x.v != 0 || axisLag s n != 0) then axisUncertain n s else s
  onAxis n (fun l => { l with
    doing := 0, v := 0, a := 0, frac := 0, backlog := 0, spread := 0, spreadOut := 0, credit := 0
    pend := if l.doing = 1 then none else l.pend }) s

/-- The axis faults (R388); it shows FAULT where no earlier state of R387 applies. -/
def axisFault (n cause : Nat) (s : State) : State :=
  oneCycle (fun s =>
    let s := onAxis n (fun l => { l with cause := cause }) (axisHalt n s)
    let s := raise 0x0B10 64 n cause (u32 (axisOf s n).pos) s
    if [6, 7, 9].contains (axisOf s n).state then s else axisEnter n 8 s) s

/-- `k` steps are emitted in a direction: position, AX_DIR and the driver phase index (R379, R392). -/
def axisEmit (n : Nat) (up : Bool) (k : Nat) (s : State) : State :=
  if k = 0 then s
  else onAxis n (fun l =>
    let d : Int := if up then k else -(k : Int)
    { l with dir := up, pos := wrapS 32 (l.pos + d)
             idx := if big s then l.idx else (((l.idx : Int) + d) % ((4 * apN s n 2 : Nat) : Int)).toNat }) s

/-- AD for this tick (R383): a higher AMAX at once; a lower one where the move can still stop within it. -/
def axisDecel (n : Nat) (rem : Nat) (s : State) : State :=
  let x := axisOf s n
  let amax := apN s n 7
  let jmax := apN s n 8
  let v : Rat := (x.v : Rat) / 65536
  let c : Rat := if jmax = 0 then 0 else ((amax * amax : Nat) : Rat) / (jmax : Rat)
  let fits : Bool := decide (v * (v + c) / ((2 * amax : Nat) : Rat) ≤ (rem : Rat) / 4294967296)
  if x.ad ≤ amax then onAxis n (fun l => { l with ad := amax, amaxSeen := amax }) s
  else if amax = x.amaxSeen then s
  else if fits then onAxis n (fun l => { l with ad := amax, amaxSeen := amax }) s
  else onAxis n (fun l => { l with amaxSeen := amax, decelKept := true }) s

/-- The highest speed that can still stop within `rem`, with 16 fraction bits (R382). -/
def stopSpeed (ad jmax rem : Nat) : Int :=
  if jmax = 0 then sqrtQ16 (8 * ad * rem / 65536) / 2
  else
    let x := (ad ^ 4 * 4294967296 + 8 * ad * rem * jmax ^ 2) * 65536 / (jmax ^ 2 * 4294967296)
    (sqrtQ16 x - ((ad * ad * 65536 / jmax : Nat) : Int)) / 2

/-- The speed and acceleration of the next tick of a move (R382), h = 1/20,000 s. -/
def moveSpeed (v a : Int) (vstart vmax amax jmax ad rem : Nat) : Int × Int :=
  let vt := min ((vmax * 65536 : Nat) : Int) (stopSpeed ad jmax rem)
  let at_ := clamp (-((ad * 65536 : Nat) : Int)) ((amax * 65536 : Nat) : Int) ((vt - v) * 20000)
  let jh := divRound ((jmax * 65536 : Nat) : Int) 20000
  let a := if jmax = 0 then at_ else a + clamp (-jh) jh (at_ - a)
  (max (v + divRound a 20000) ((vstart * 65536 : Nat) : Int), a)

/-- The distance of one tick at a speed, in 2^-32 microsteps. -/
def tickDist (v : Int) : Nat := (divRound (v * 65536) 20000).toNat

/-- A move ends (R382). -/
def axisMoveEnd (n : Nat) (s : State) : State :=
  let s := onAxis n (fun l => { l with
    doing := 0, v := 0, a := 0, frac := 0, moves := wrapInc 32 l.moves
    pend := if l.pend = some l.pos then none else l.pend }) s
  if ap s n 0x1A = 1 then raise 0x0B11 65 n (u32 (axisOf s n).pos) (ontLo s) s else s

/-- One tick of a move (R382, R383). -/
def axisProfile (n : Nat) (s : State) : State :=
  let x := axisOf s n
  let left := (x.target - x.pos).natAbs * 4294967296 - x.frac
  let s := axisDecel n left s
  let (v, a) := moveSpeed x.v x.a (apN s n 5) (apN s n 6) (apN s n 7) (apN s n 8) (axisOf s n).ad left
  let go := min (tickDist v) left
  let sum := x.frac + go
  let s := axisEmit n x.dir (sum / 4294967296) (onAxis n (fun l => { l with v := v, a := a, frac := sum % 4294967296 }) s)
  if go = left then axisMoveEnd n s else s

/-- A waiting target starts its move once the driver is up (R381, R382, R392). -/
def axisBegin (n : Nat) (t : Int) (s : State) : State :=
  let x := axisOf s n
  if t = x.pos then onAxis n (fun l => { l with pend := none }) s
  else if x.down then axisWake n s
  else
    let s := onAxis n (fun l => { l with
      doing := 1, pend := none, target := t, dir := decide (x.pos < t), v := ap s n 5 * 65536, a := 0, frac := 0
      ad := apN s n 7, amaxSeen := apN s n 7 }) s
    axisProfile n (axisEnter n 2 s)

/-- One tick of the homing search (R391). -/
def axisHoming (n : Nat) (s : State) : State :=
  let x := axisOf s n
  if b2n (bit (dinLevels s) (apN s n 0x10)) = apN s n 0x11 then
    let s := onAxis n (fun l => { l with
      doing := 0, v := 0, a := 0, frac := 0, pos := ap s n 0x13, uncertain := false }) s
    raise 0x0B13 67 n 1 (u32 (axisOf s n).pos) (axisEnter n 1 s)
  else if x.down then axisWake n s
  else
    let v : Int := ((ap s n 0x12).natAbs * 65536 : Nat)
    let go := tickDist v
    let sum := x.frac + go
    let s := axisEmit n (decide (0 < ap s n 0x12)) (sum / 4294967296) (onAxis n (fun l => { l with
      v := v, frac := sum % 4294967296, travel := l.travel + go }) s)
    if apN s n 0x14 * 4294967296 < (axisOf s n).travel then axisFault n 3 s else s

/-- A following axis may not pass a soft limit, and faults where it reaches one (R388). -/
def axisFollowEmit (n : Nat) (up : Bool) (k : Nat) (s : State) : State :=
  let x := axisOf s n
  let room := if up then ap s n 0x0A - x.pos else x.pos - ap s n 9
  let k' := min k room.toNat
  let s := axisEmit n up k' s
  if k' = room.toNat ∧ k ≠ 0 then axisFault n 1 s else s

/-- One tick of coarse-step following (R384). -/
def axisCoarse (n : Nat) (s : State) : State :=
  let x := axisOf s n
  let ns := x.spreadNs + 50000
  let due := if x.period = 0 then x.spread.natAbs else min x.spread.natAbs (x.spread.natAbs * ns / x.period)
  let credit := x.credit + apN s n 6
  let k := min (due - x.spreadOut) (credit / 20000)
  let up := decide (0 < x.backlog)
  let s := onAxis n (fun l => { l with
    spreadNs := ns, spreadOut := l.spreadOut + k, credit := min (credit - 20000 * k) 19999
    v := (if up then 1 else -1) * (k * 20000 * 65536 : Nat), backlog := if up then l.backlog - k else l.backlog + k }) s
  axisFollowEmit n up k s

/-- One tick of geared following (R385): towards s as fast as VMAX and AMAX allow, never beyond it. -/
def axisGeared (n : Nat) (s : State) : State :=
  let x := axisOf s n
  let goal := gearPos s n
  let lag := goal - x.pos
  if apN s n 0x0F ≠ 0 ∧ apN s n 0x0F < lag.natAbs then axisFault n 2 s
  else
    let at0 : Int := if x.dir then x.frac else -(x.frac : Int)
    let d := lag * 4294967296 - at0
    let amax := apN s n 7
    let w := Int.sign d * min (min ((apN s n 6 * 65536 : Nat) : Int) (sqrtQ16 (2 * amax * d.natAbs / 65536)))
      (divTrunc (d.natAbs * 20000) 65536)
    let a := clamp (-((amax * 65536 : Nat) : Int)) ((amax * 65536 : Nat) : Int) ((w - x.v) * 20000)
    let v := x.v + divRound a 20000
    let mv := divRound (v * 65536) 20000
    let mv := if Int.sign (d - mv) = Int.sign d then mv else d
    let at1 := at0 + mv
    let k := divTrunc at1 4294967296
    let rest := at1 - k * 4294967296
    let up := decide (0 ≤ (if k = 0 then rest else k))
    let s := onAxis n (fun l => { l with v := if mv = d then 0 else v, a := a, frac := rest.natAbs, dir := if k = 0 ∧ rest = 0 then l.dir else up }) s
    axisFollowEmit n up k.natAbs s

/-- The axis enters FOLLOWING: the anchor is set (R385). -/
def axisFollowStart (n : Nat) (s : State) : State :=
  onAxis n (fun l => { l with
    doing := 2, v := 0, a := 0, frac := 0, backlog := 0, spread := 0, spreadOut := 0, lastEdge := none
    ma := nth 0 s.enc (apN s n 1), sa := l.pos, num := ap s n 0x0D, den := apN s n 0x0E }) s

/-- A following axis's part in a tick; the driver is powered up first (R384, R385, R392). -/
def axisFollow (n : Nat) (s : State) : State :=
  if (axisOf s n).down then axisWake n s
  else if ap s n 0 = 1 then axisCoarse n s
  else axisGeared n s

/-- What an axis does at a tick, whatever its state shows: move, following or search in progress. -/
def axisDo (n : Nat) (s : State) : State :=
  match (axisOf s n).doing with
  | 1 => axisProfile n s
  | 2 => axisFollow n s
  | 3 => axisHoming n s
  | _ => s

/-- The state its source gives, and the tick's motion in it (R387). -/
def axisActive (n : Nat) (s : State) : State :=
  if ap s n 0 ≠ 0 then
    let s := if (axisOf s n).doing = 2 then s else axisFollowStart n s
    axisFollow n (axisEnter n 3 s)
  else match (axisOf s n).doing with
    | 1 =>
      let s := axisProfile n (axisEnter n 2 s)
      if (axisOf s n).doing = 0 then axisEnter n 1 s else s
    | 3 => axisHoming n (axisEnter n 4 s)
    | _ =>
      let s := axisEnter n 1 s
      match (axisOf s n).pend with
      | some t => if (axisOf s n).uncertain then s else axisBegin n t s
      | none => s

/-- A mirrored axis entry is written into the axis (R526 KIND 2). -/
def axisMirror (n : Nat) (b : Bytes) (s : State) : State :=
  let fl := byteField b 32 4
  onAxis n (fun l => { l with
    pos := byteFieldS b 0 4, target := byteFieldS b 4 4, pend := if bit fl 0 then some (byteFieldS b 8 4) else none
    v := byteFieldS b 12 4 * 65536, backlog := byteFieldS b 16 4, ma := byteField b 20 4, sa := byteFieldS b 24 4
    num := byteFieldS b 28 2, den := byteField b 30 2, uncertain := bit fl 1
    idx := if big s then l.idx else bits fl 16 10 }) s

/-- The state of a tick, in the order of R387, and what it does. -/
def axisDecide (n : Nat) (s : State) : State :=
  let x := axisOf s n
  if standby s then
    let s := if x.doing = 0 then s else axisHalt n s
    match mirrorTake 2 n (axisEnter n 7 s) with
    | (some b, s) => axisMirror n b s
    | (none, s) => s
  else if holdLine s then axisDo n (axisEnter n 6 s)
  else if x.cause != 0 || x.memFault then axisEnter n 8 s
  else if !x.permit then axisEnter n 5 (if x.doing = 0 then s else axisHalt n s)
  else axisActive n s

/-- One tick of an axis (R378), with the samples on the direct inputs since they were last brought. -/
def axisTick (n : Nat) (din : List (Nat × Nat)) (s : State) : State :=
  let s := if plantRuns s then dinFeed din s else s
  let x := axisOf s n
  if !(plantRuns s && enabled s 11 n) || stopping s 11 n || x.parked || x.waitScan then s
  else
    let s := holdSample 4 n (parCommit (axisParams n) s)
    let s := onAxis n (fun l => { l with
      permit := axisPermit s n, ticks := wrapInc 32 l.ticks, ts := ontLo s, valAt := some s.time.ont, handed := false }) s
    axisEvent n (axisDecide n s)

/-- AXIS_TICK (R378, R382): the events of one tick are events of one cycle. -/
def execAxisTick (n : Nat) (din : List (Nat × Nat)) (s : State) : Out := .next (oneCycle (axisTick n din) s)

/-- HOMING_DIST_FAULT (R391). -/
def execHomingDistFault (n : Nat) (s : State) : Out :=
  .next (if plantRuns s && (axisOf s n).doing == 3 && decide (apN s n 0x14 * 4294967296 < (axisOf s n).travel) then
      axisFault n 3 s
    else s)

/-- STANDSTILL_DELAY_EXPIRY (R392, R393). -/
def execStandstillDelayExpiry (n : Nat) (s : State) : Out :=
  .next (let x := axisOf s n
    if plantRuns s && (x.state == 1 || x.state == 5) && ap s n 0x16 != 0 && x.doing == 0 && !x.waking then
      axisLevels n (onAxis n (fun l => { l with down := true }) s)
    else s)

/-- STANDSTILL_POWERUP_DONE (R392, R393): the phase-restoring pulses leave the phase index unchanged. -/
def execStandstillPowerupDone (n : Nat) (s : State) : Out :=
  .next (if plantRuns s && (axisOf s n).waking then
      axisLevels n (onAxis n (fun l => { l with down := false, waking := false }) s)
    else s)

/-- MOT_n_ENC: the count m of the encoder that an axis is geared to; without one it keeps its reset value (R396). -/
def axisEnc (s : State) (n : Nat) : Nat := if ap s n 0 = 2 then nth 0 s.enc (apN s n 1) else 0

/-- The interval between the two latest coarse edges, capped at MOT_INTERP_MAXPER; a first edge uses the cap (R384). -/
def coarsePeriod (s : State) (n : Nat) : Nat :=
  let cap := apN s n 0x0C * 1000000
  match (axisOf s n).lastEdge with
  | none => cap
  | some t => min cap ((s.power.netTick - t) * 8)

/-- A coarse step reaches a following axis (R384). -/
def axisCoarseStep (n : Nat) (up : Bool) (s : State) : State :=
  let k : Int := apN s n 0x0B
  let s := onAxis n (fun l =>
    let b := l.backlog + (if up then k else -k)
    { l with backlog := b, spread := b, spreadNs := 0, spreadOut := 0, period := coarsePeriod s n, lastEdge := some s.power.netTick }) s
  if 2 * k < ((axisOf s n).backlog.natAbs : Int) then
    let x := axisOf s n
    let s := onAxis n (fun l => { l with interpOvr := true }) s
    if elapsed x.lastInterp 1000000000 s then
      raise 0x0B16 68 n (axisEnc s n) (u32 x.pos) (onAxis n (fun l => { l with lastInterp := some s.time.ont }) s)
    else s
  else s

/-- The axes that follow coarse input `k` take a step. -/
def coarseStep (k : Nat) (up : Bool) (s : State) : State :=
  (upTo 16).foldl (fun s n =>
    if (axisOf s n).doing = 2 ∧ ap s n 0 = 1 ∧ apN s n 1 = k then axisCoarseStep n up s else s) s

/-- LSTEP_INk stays at a level for a number of samples: a rising edge that its filter passes is a coarse step in the direction
that LDIR_INk shows (R62, R384). -/
def coarseEdge (k : Nat) (level : Bool) (samples : Nat) (up : Bool) (s : State) : State :=
  let f := nth {} s.pins.step k
  let g := f.feed (padFilter s 15) level samples
  let s := { s with pins := { s.pins with step := s.pins.step.set k g } }
  if g.level && !f.level then coarseStep k up s else s

/-- COARSE_STEP_EDGE (R384). -/
def execCoarseStepEdge (k : Nat) (x : StepIn) (s : State) : Out :=
  .next (if plantRuns s && k < 4 then coarseEdge k x.level x.samples x.up s else s)

/-- The armed ratio takes effect (R386). -/
def axisGearSwitch (n : Nat) (s : State) : State :=
  let at_ := gearPos s n
  let s := onAxis n (fun l => { l with sa := at_, ma := l.armPos, num := l.armNum, den := l.armDen, armed := false }) s
  raise 0x0B14 68 n (axisOf s n).ma (u32 (axisOf s n).pos) s

/-- The count of an encoder moves by one, and a change armed at the new count fires (R385, R386). -/
def encoderStep (e : Nat) (up : Bool) (s : State) : State :=
  let s := { s with enc := modNth s.enc e (fun m => if up then wrapInc 32 m else (m + 2 ^ 32 - 1) % 2 ^ 32) }
  (upTo 16).foldl (fun s n =>
    let x := axisOf s n
    if x.armed ∧ ap s n 0 = 2 ∧ apN s n 1 = e ∧ x.armPos = nth 0 s.enc e then axisGearSwitch n s else s) s

/-- ENCe_A or ENCe_B stays at a level for a number of samples: an edge that its filter passes is a quadrature edge, and A
leading B counts up (R62, R385). -/
def encoderEdge (e : Nat) (chB level : Bool) (samples : Nat) (s : State) : State :=
  let n := padFilter s 15
  let a := nth {} s.pins.encA e
  let b := nth {} s.pins.encB e
  let a' := if chB then a else a.feed n level samples
  let b' := if chB then b.feed n level samples else b
  let s := { s with pins := { s.pins with encA := s.pins.encA.set e a', encB := s.pins.encB.set e b' } }
  if a'.level = a.level ∧ b'.level = b.level then s else encoderStep e (if chB then a'.level == b'.level else a'.level != b'.level) s

/-- ENCODER_EDGE (R385, R386). -/
def execEncoderEdge (e : Nat) (x : EncIn) (s : State) : Out :=
  .next (if plantRuns s && e < 2 then encoderEdge e x.chB x.level x.samples s else s)

/-- AXIS_MEMORY_ECC (R390). -/
def axisMemoryEcc (n : Nat) (s : State) : State :=
  if !plantRuns s || decide ((unitCount s 11).1 ≤ n) then s
  else
    let s := onAxis n (fun l => { l with uncertain := true, rewriting := true }) s
    failLatch 6 (if enabled s 11 n then axisFault n 0 (onAxis n (fun l => { l with memFault := true }) s) else s)

/-- AXIS_MEMORY_ECC (R390). -/
def execAxisMemoryEcc (n : Nat) (s : State) : Out := .next (axisMemoryEcc n s)

/-- AXIS_CONFIG_REWRITE_DONE (R390). -/
def execAxisConfigRewriteDone (n : Nat) (s : State) : Out :=
  .next (if malorWorks s then onAxis n (fun l => { l with rewriting := false }) s else s)

/-- The refusals that every MOTION command shares: variant and enable (R399). -/
def axisRefusal (s : State) (n : Nat) : Option Nat :=
  if (unitCount s 11).1 ≤ n then some (if n < 16 then 0x0B08 else 0x0B05)
  else if !enabled s 11 n then some 0x0B03
  else none

/-- A target is discarded and counted (R387). -/
def axisDiscard (n : Nat) (s : State) : State := onAxis n (fun l => { l with discard := satInc 32 l.discard }) s

/-- A target reaches an axis (R381, R387); whether it is held pending. -/
def axisTarget (n : Nat) (t : Int) (s : State) : State × Bool :=
  let x := axisOf s n
  match x.state with
  | 1 =>
    if t = x.pos then (onAxis n (fun l => { l with pend := none }) s, false)
    else (axisWake n (onAxis n (fun l => { l with pend := some t }) s), false)
  | 2 | 5 => (onAxis n (fun l => { l with pend := some t }) s, true)
  | _ => (axisDiscard n s, false)

/-- The target lies within the soft limits (R388). -/
def axisWithin (s : State) (n : Nat) (t : Int) : Bool := decide (ap s n 9 ≤ t) && decide (t ≤ ap s n 0x0A)

/-- The effect of MOT_MOVE (R381, R389, R399, R516). -/
def motMove (p : Bytes) (s : State) : Answer :=
  let n := byteField p 0 1
  let t := byteFieldS p 4 4
  if p.length ≠ 8 ∨ byteField p 1 3 ≠ 0 then refuse s 0x0B0A
  else match axisRefusal s n with
    | some r => refuse s r
    | none =>
      if s.pair.failsafe ∨ ap s n 0 ≠ 0 then refuse s 0x0B06
      else if !axisWithin s n t then refuse s 0x0B05
      else if (axisOf s n).uncertain then refuse s 0x0B10
      else if (axisOf s n).handed then done s (leBytes 1 0)
      else
        let (s, held) := axisTarget n t s
        done s (leBytes 1 (b2n held))

/-- MOT_MOVE (0x0B10). -/
def execMotMove (m : Mail) (s : State) : Out := mailOut 0x0B10 m (motMove m.payload) s

/-- A hand-off writes a target (R303, R381, R389); its value is in microsteps. -/
def axisHand (n : Nat) (t : Int) (s : State) : State :=
  let x := axisOf s n
  if ap s n 0 ≠ 0 ∨ x.uncertain ∨ axisWithin s n t = false then axisDiscard n s
  else (axisTarget n t (onAxis n (fun l => { l with handed := true }) s)).1

/-- The effect of MOT_STOP (R388, R399). -/
def motStop (p : Bytes) (s : State) : Answer :=
  let n := byteField p 0 1
  if p.length ≠ 4 ∨ byteField p 1 3 ≠ 0 then refuse s 0x0B0A
  else match axisRefusal s n with
    | some r => refuse s r
    | none =>
      let x := axisOf s n
      if x.doing = 0 then done s []
      else
        let s := axisHalt n s
        done (if x.state = 2 ∨ x.state = 4 then axisEnter n 1 s else s) []

/-- MOT_STOP (0x0B11). -/
def execMotStop (m : Mail) (s : State) : Out := mailOut 0x0B11 m (motStop m.payload) s

/-- The effect of MOT_HOME (R391, R399, R516). -/
def motHome (p : Bytes) (s : State) : Answer :=
  let n := byteField p 0 1
  let mode := byteField p 1 1
  if p.length ≠ 8 ∨ byteField p 2 2 ≠ 0 then refuse s 0x0B0A
  else match axisRefusal s n with
    | some r => refuse s r
    | none =>
      let x := axisOf s n
      if 1 < mode then refuse s 0x0B05
      else if s.pair.failsafe || !(x.state == 1 || (x.state == 8 && x.cause == 3)) then refuse s 0x0B06
      else if mode = 0 then
        let s := onAxis n (fun l => { l with pos := byteFieldS p 4 4, uncertain := false, cause := 0, frac := 0 }) s
        done (oneCycle (fun s => raise 0x0B13 67 n 0 (u32 (axisOf s n).pos) (axisEnter n 1 s)) s) []
      else
        let s := onAxis n (fun l => { l with doing := 3, pend := none, cause := 0, frac := 0, travel := 0, v := 0 }) s
        done (axisEnter n 4 (axisWake n s)) []

/-- MOT_HOME (0x0B12). -/
def execMotHome (m : Mail) (s : State) : Out := mailOut 0x0B12 m (motHome m.payload) s

/-- The effect of MOT_GEAR_ARM (R386, R389, R399, R516). -/
def motGearArm (p : Bytes) (s : State) : Answer :=
  let n := byteField p 0 1
  let den := byteField p 2 2
  let m := byteField p 8 4
  if p.length ≠ 12 ∨ byteField p 1 1 ≠ 0 ∨ byteField p 6 2 ≠ 0 then refuse s 0x0B0A
  else match axisRefusal s n with
    | some r => refuse s r
    | none =>
      if s.pair.failsafe ∨ ap s n 0 ≠ 2 then refuse s 0x0B06
      else if den = 0 then refuse s 0x0B05
      else if (axisOf s n).uncertain then refuse s 0x0B10
      else if (axisOf s n).state = 6 ∨ (axisOf s n).state = 7 then done s []
      else
        let s := onAxis n (fun l => { l with armed := true, armPos := m, armNum := byteFieldS p 4 2, armDen := den }) s
        done (if nth 0 s.enc (apN s n 1) = m then axisGearSwitch n s else s) []

/-- MOT_GEAR_ARM (0x0B13). -/
def execMotGearArm (m : Mail) (s : State) : Out := mailOut 0x0B13 m (motGearArm m.payload) s

/-- The effect of MOT_CLEAR (R390, R397, R399). -/
def motClear (p : Bytes) (s : State) : Answer :=
  let n := byteField p 0 1
  let mask := byteField p 1 1
  if p.length ≠ 4 ∨ 3 < mask ∨ byteField p 2 2 ≠ 0 then refuse s 0x0B0A
  else match axisRefusal s n with
    | some r => refuse s r
    | none =>
      let x := axisOf s n
      if bit mask 1 && x.memFault && x.rewriting then refuse s 0x0B01
      else
        let s := if bit mask 0 then onAxis n (fun l => { l with decelKept := false, interpOvr := false }) s else s
        if bit mask 1 && (x.cause != 0 || x.memFault) then
          let s := onAxis n (fun l => { l with cause := 0, memFault := false, uncertain := true }) s
          done (if x.state = 8 then (if ap s n 0 = 0 then axisEnter n 1 s else axisEnter n 3 (axisFollowStart n s)) else s) []
        else done s []

/-- MOT_CLEAR (0x0B14). -/
def execMotClear (m : Mail) (s : State) : Out := mailOut 0x0B14 m (motClear m.payload) s

/-- A permit was withdrawn at an output-image update: pulses stop at once (R26, R388); in HOLD it acts when the line drops. -/
def axisPermitGone (n : Nat) (s : State) : State :=
  let x := axisOf s n
  if 1 ≤ x.state ∧ x.state ≤ 4 ∧ axisPermit s n = false then
    axisEnter n 5 (onAxis n (fun l => { l with permit := false }) (axisHalt n s))
  else s

/-- The consistency check of MOTION unit n (R394). -/
def axisCheck (n : Nat) (s : State) : CheckFail :=
  let g := fun k => par s (axisId n k)
  firstFail
    [(decide (g 9 < g 0x0A), 0x0B11, axisId n 9),
     (decide (g 9 ≤ g 0x13) && decide (g 0x13 ≤ g 0x0A), 0x0B11, axisId n 0x13),
     (decide (g 5 ≤ g 6) && decide (g 6 * 2 * g 3 ≤ 1000000000), 0x0B13, axisId n 6),
     (decide (g 0 ≤ 2), 0x0B12, axisId n 0),
     (decide (g 1 ≤ nth 0 [0, 3, 1] (g 0).toNat), 0x0B12, axisId n 1),
     (decide (0 < (g 0x12).natAbs) && decide (((g 0x12).natAbs : Int) ≤ g 5), 0x0B12, axisId n 0x12),
     (g 0x19 != 1 || enabled s 12 0, 0x0B0D, 0)]

/-- An axis starts: IDLE or FOLLOWING comes at its first tick; position and POSITION_UNCERTAIN stay (R394). -/
def axisStart (n : Nat) (s : State) : State :=
  onAxis n (fun l => { l with
    parked := false, waitScan := false, driven := true, doing := 0, cause := 0, memFault := false, pend := none
    armed := false, v := 0, a := 0, frac := 0, handed := false }) (parCommit (axisParams n) s)

/-- The axis stop begins (R395). -/
def axisStop (n : Nat) (s : State) : State :=
  axisEnter n 9 (onAxis n (fun l => { l with down := true, waking := false }) (axisHalt n s))

/-- The axis stop ends in OFF (R395). -/
def axisStopEnd (n : Nat) (s : State) : State := axisEnter n 0 s

/-- Entry step 4 of R76, MINIMAL entry and R516: the axis goes to OFF while its unit stays ENABLED (R395). -/
def axisPark (n : Nat) (s : State) : State :=
  if enabled s 11 n then onAxis n (fun l => { l with parked := true }) (axisStopEnd n (axisStop n s)) else s

/-- After DEEP a parked axis waits for the first scan instant (R395). -/
def axisResume (n : Nat) (s : State) : State :=
  onAxis n (fun l => if l.parked then { l with parked := false, waitScan := true } else l) s

/-- On grant an axis in STANDBY takes over from its mirrored values (R389). -/
def axisGrant (n : Nat) (s : State) : State :=
  let x := axisOf s n
  if x.state = 7 then
    let s := if x.v != 0 || x.backlog != 0 then
        onAxis n (fun l => { l with v := 0, backlog := 0, pend := none }) (axisUncertain n s)
      else onAxis n (fun l => { l with
        pend := if l.pend.isSome then l.pend else if l.target = l.pos then none else some l.target }) s
    if ap s n 0 = 0 then axisEnter n 1 s else s
  else s

/-- MOT_n_STATE (R397). -/
def axisState (s : State) (n : Nat) : Nat :=
  let x := axisOf s n
  x.state + 16 * b2n x.permit + 32 * b2n x.pend.isSome + 64 * b2n x.uncertain + 128 * b2n x.armed
    + 256 * x.cause + 1024 * b2n x.dir + 2048 * b2n (x.driven && axisCur s n) + 4096 * b2n x.decelKept
    + 8192 * b2n x.interpOvr + 16384 * b2n x.memFault

/-- RETAIN keeps an axis's position and state and its counts go (R69; log entry 31). -/
def axesRetain (s : State) : State :=
  { s with axes := s.axes.map (fun l => { l with discard := 0, moves := 0, ticks := 0, ts := 0, valAt := none }) }

/-- A register of an axis's block (R396). -/
def axisBlock (s : State) (n off : Nat) : Nat :=
  let x := axisOf s n
  match off with
  | 0x00 => axisState s n
  | 0x04 => toBits 32 x.pos
  | 0x08 => toBits 32 x.target
  | 0x0C => toBits 32 (x.pend.getD 0)
  | 0x10 => s32sat (axisVel s n)
  | 0x14 => s32sat (shiftRound x.a 16)
  | 0x18 => s32sat (axisLag s n)
  | 0x1C => axisEnc s n
  | 0x20 => toBits 16 x.num + 65536 * x.den
  | 0x24 => x.armPos
  | 0x28 => toBits 16 x.armNum + 65536 * x.armDen
  | 0x2C => x.discard
  | 0x30 => x.moves
  | 0x34 => x.ticks
  | 0x38 => x.ts
  | _ => 0

/-- A register of the motion engine by its offset in the region (R396). -/
def motReg (s : State) (off : Nat) : Nat :=
  let cnt := (unitCount s 11).1
  if 0x1000 ≤ off ∧ off < 0x1000 + 0x40 * cnt then axisBlock s ((off - 0x1000) / 64) (off % 64)
  else match off with
    | 0x00 => cnt
    | 0x04 => bitsVal ((upTo cnt).map (enabled s 11))
    | 0x08 => bitsVal ((upTo cnt).map (fun n => (axisOf s n).state == 8))
    | 0x0C => bitsVal (s.axes.map (·.uncertain))
    | _ => 0

end Sys2Proof.Machine
end

