-- ==== Sys2Proof/Machine/Can.lean ====
section
/-! DEFINITION. The CAN FD controllers (R472 to R494). -/

namespace Sys2Proof.Machine

/-- One controller changed. -/
def onCan (c : Nat) (f : CanSt → CanSt) (s : State) : State := { s with can := modNth s.can c f }

/-- One object changed. -/
def onObj (c o : Nat) (f : CanObj → CanObj) (s : State) : State :=
  onCan c (fun x => { x with objs := insertNat o (f (canObj x o)) x.objs }) s

/-- Restricted operation (R482). -/
def canRestricted (s : State) (c : Nat) : Bool := standby s || act s (canId c 10) == 1

/-- CAN_c_STATUS.WARNING. -/
def canWarn (x : CanSt) : Bool := decide (96 ≤ x.tec) || decide (96 ≤ x.rec_)

/-- CAN_c_STATUS (R490). -/
def canStatus (s : State) (c : Nat) : Nat :=
  let x := canOf s c
  x.state + 8 * b2n (canRestricted s c) + 16 * b2n (canWarn x) + 32 * b2n (grant s) + 64 * b2n (holdLine s)
    + 128 * b2n x.cur.isSome + 256 * x.recov

/-- CAN_c_ERRCNT (R489). -/
def canErrcnt (x : CanSt) : Nat := x.tec % 512 + x.rec_ % 256 * 65536

/-- The gating state of a transmit object (R481, R516): 0 OFF, 1 NORMAL, 2 INHIBIT, 3 HOLD, 4 STANDBY. -/
def objState (s : State) (c o : Nat) : Nat :=
  if !enabled s 15 c || op s c o 0 == 0 then 0
  else if standby s then 4
  else if holdLine s then 3
  else if s.pair.failsafe || (bit (op s c o 7) 0 && !permitBit s (64 + 128 * c + o)) then 2
  else 1

/-- The object, while inhibited, sends its safe data (R481). -/
def objSafe (s : State) (c o : Nat) : Bool := bit (op s c o 7) 1 && !s.pair.failsafe

/-- What a transmission attempt of the object latches (R480, R481). -/
def objPayload (s : State) (c o : Nat) : Bytes :=
  let l := objLen s c o
  if objState s c o = 2 then ((actTab s (canId c 13)).drop (64 * o)).take l else padTo l (canObj (canOf s c) o).data

/-- The arbitration field as a number: the lowest wins (R479). -/
def arbField (id : Nat) : Nat :=
  if bit id 30 then bits id 18 11 * 2 ^ 19 + 2 ^ 18 + bits id 0 18 else bits id 0 11 * 2 ^ 19

/-- The pending object with the highest bus priority (R479). -/
def canBest (s : State) (c : Nat) : Option Nat :=
  (canOf s c).objs.foldl (fun best x =>
    if x.2.pending && !x.2.stopped && op s c x.1 0 == 2 then
      match best with
      | none => some x.1
      | some b => if arbField (op s c x.1 1) < arbField (op s c b 1) then some x.1 else some b
    else best) none

/-- The controllers are clocked (R473): FIELD ON, with the DDR PLL that gives the kernel clock. -/
def canRuns (s : State) : Bool := plantRuns s && isl s 4 == .on && pllLock s 3

/-- The controller may start a frame (R475, R482, R486). -/
def canMaySend (s : State) (c : Nat) : Bool :=
  canRuns s && enabled s 15 c && ((canOf s c).state == 2 || (canOf s c).state == 3) && !canRestricted s c && !holdLine s

/-- The parameters of a controller and its objects. -/
def canParams (c id : Nat) : Bool :=
  (canId c 0 ≤ id && id < canId c 0x40) || (canObjId c 0 0 ≤ id && id < canObjId c 128 0)

/-- A frame starts where none is in progress: the configuration is committed, and the frame's data is latched (R30, R479,
R480). -/
def canOffer (c : Nat) (s : State) : State :=
  if canMaySend s c && (canOf s c).cur.isNone then
    match canBest s c with
    | some o =>
      let s := parCommit (canParams c) s
      onObj c o (fun x => { x with again := false }) (onCan c (fun x => { x with cur := some (o, objPayload s c o) }) s)
    | none => s
  else s

/-- An object becomes pending (R478). -/
def objPend (c o : Nat) (s : State) : State := canOffer c (onObj c o (fun x => { x with pending := true }) s)

/-- EV_CAN_ERR_STATE follows a change between ACTIVE, PASSIVE and WARNING (R475). -/
def canErrState (c : Nat) (before : CanSt) (s : State) : State :=
  let x := canOf s c
  let st := if x.state = 2 ∨ x.state = 3 then (if 128 ≤ x.tec ∨ 128 ≤ x.rec_ then 3 else 2) else x.state
  let s := onCan c (fun x => { x with state := st }) s
  if (x.state = 2 ∨ x.state = 3) ∧ (st ≠ before.state ∨ canWarn x ≠ canWarn before) then
    raise 0x0F11 97 c (canStatus s c) (canErrcnt x) s
  else s

/-- TEC above 255 takes the controller to BUS_OFF; pending frames stay (R483). One that a device-state entry takes off the bus
keeps it through OFFLINE (R487). -/
def canBusOff (c : Nat) (s : State) : State :=
  if 255 < (canOf s c).tec then
    let s := onCan c (fun x => { x with state := if x.state = 7 then 7 else 4, offKept := x.state == 7, cur := none, busoffCnt := satInc 32 x.busoffCnt }) s
    raise 0x0F10 96 c (canOf s c).lec (ontLo s) s
  else s

/-- Mirrored transmit data enters its objects in STANDBY at a frame boundary (R526 KIND 10). -/
def canMirror (c : Nat) (s : State) : State :=
  if !standby s then s
  else (upTo 128).foldl (fun s o =>
    match mirrorTake 10 (128 * c + o) s with
    | (some b, s) => onObj c o (fun x => { x with data := b.take 64 }) s
    | (none, s) => s) s

/-- A frame boundary: the configuration is committed (R30), a commit period ends (R480) and mirrored data is taken. -/
def canBoundary (c : Nat) (s : State) : State :=
  canMirror c <| parCommit (canParams c) (onCan c (fun x => { x with
    cur := none, objs := x.objs.map (fun p => (p.1, { p.2 with handed := [] })) }) s)

/-- EV_CAN_PROTOCOL, at most once per second (R474, R494). -/
def canProtocol (c cause : Nat) (s : State) : State :=
  if elapsed (canOf s c).lastProto 1000000000 s then
    raise 0x0F14 100 c cause (ontLo s) (onCan c (fun x => { x with lastProto := some s.time.ont }) s)
  else s

/-- The controller takes part in the bus; at its stop or a device-state entry it finishes the frame in progress (R486, R487). -/
def canOnBus (s : State) (c : Nat) : Bool :=
  let x := canOf s c
  canRuns s && (x.state == 2 || x.state == 3 || x.state == 6 || (x.state == 7 && x.cur.isSome))

/-- An error of kind `kind` is counted with its increments of TEC and REC (R475). -/
def canError (c kind : Nat) (dataPhase : Bool) (tecInc recInc : Nat) (s : State) : State :=
  let b := canOf s c
  let s := onCan c (fun x => { x with
    lec := kind % 8 + 8 * b2n dataPhase, errCnt := satInc 32 x.errCnt
    tec := min 511 (x.tec + tecInc), rec_ := min 255 (x.rec_ + recInc) }) s
  canBusOff c (canErrState c b (canBoundary c s))

/-- CAN_BUS_ERROR (R475): kind as CAN_c_LEC, the increments of TEC and REC that ISO 11898-1 gives, and whether the
error is a reserved bit that CAN_PXHD takes as a protocol exception (R472, R492). -/
def canBusError (c kind : Nat) (dataPhase px : Bool) (tecInc recInc : Nat) (s : State) : State :=
  if !canOnBus s c then s
  else if px && act s (canId c 11) == 1 then
    canProtocol c 0 (onCan c (fun x => { x with state := if x.state = 6 ∨ x.state = 7 then x.state else 1 }) (canBoundary c s))
  else canOffer c (canError c (if px then 2 else kind) dataPhase tecInc recInc s)

/-- CAN_BUS_ERROR (R475). -/
def execCanBusError (c kind : Nat) (dataPhase px : Bool) (tecInc recInc : Nat) (s : State) : Out :=
  .next (canBusError c kind dataPhase px tecInc recInc s)

/-- The form word of a record (R491). -/
def formWord (dlc : Nat) (fdf brs esi : Bool) (len : Nat) : Nat :=
  dlc % 16 + 16 * b2n fdf + 32 * b2n brs + 64 * b2n esi + 256 * len

/-- A receive object accepts a frame (R476). -/
def objAccepts (s : State) (c o : Nat) (f : CanFrame) : Bool :=
  let id := op s c o 1
  let form := op s c o 3 / 4
  op s c o 0 == 1 && !(canObj (canOf s c) o).stopped && bit id 30 == f.ide &&
    Nat.land (Nat.xor f.ident id) (op s c o 2) % (if f.ide then 2 ^ 29 else 2 ^ 11) == 0 &&
    (form == 0 || (form == 1 && !f.fdf) || (form == 2 && f.fdf))

/-- REC after a successful reception (ISO 11898-1): one less, or from above 127 a value of 119 to 127 it leaves open. -/
def recAfter (s : State) (r : Nat) : Nat := if 127 < r then 119 + Config.freeNat s.free % 9 else r - 1

/-- A frame of `len` bytes is stored in an object (R476); signals it is too short for keep their value (R477). -/
def canStore (c o len : Nat) (f : CanFrame) (s : State) : State :=
  let s := holdSample 3 (128 * c + o) s
  onCan c (fun x => { x with rxCnt := satInc 32 x.rxCnt }) (onObj c o (fun x => { x with
    ident := f.ident % 2 ^ 29 + 2 ^ 30 * b2n f.ide, form := formWord f.dlc f.fdf f.brs f.esi len
    seq := wrapInc 32 x.seq, ts := f.ts
    frames := (len, f.ts, padTo len f.data) :: x.frames.filter (fun y => decide (len < y.1)) }) s)

/-- The signals that loops, estimation inputs and thermal meters name: object and byte offset (R477). -/
def canSignals (s : State) : List (Nat × Nat) :=
  ((upTo 32).filter (fun n => enabled s 10 n && lp s n 1 == 3)).map (fun n => (lpN s n 2, lpN s n 3)) ++
  ((usedInputs s).filter (fun k => enabled s 7 0 && (inputMap s k).src == 3)).map
    (fun k => ((inputMap s k).index, (inputMap s k).sub)) ++
  ((upTo 4).flatMap (fun k => [0, 6, 9].map (fun j => (k + 2, 0x4000 + 0x100 * (k + 2) + j)))).filterMap (fun p =>
    if enabled s 14 p.1 && act s p.2 == 3 then some (actN s (p.2 + 1), actN s (p.2 + 2)) else none)

/-- CAN_FRAME_RECEIVED (R476). -/
def canReceived (c : Nat) (f : CanFrame) (s : State) : State :=
  if !canOnBus s c then s
  else
    let b := canOf s c
    let len := dlcLen f.fdf f.dlc
    let s := if f.remote then onCan c (fun x => { x with rtr := satInc 32 x.rtr }) s
      else match (upTo 128).find? (fun o => objAccepts s c o f) with
        | none => onCan c (fun x => { x with noMatch := satInc 32 x.noMatch }) s
        | some o =>
          let s := canStore c o len f s
          if (canSignals s).any (fun g => g.1 == 128 * c + o && decide (len < g.2 + 4)) then
            onCan c (fun x => { x with short := satInc 32 x.short }) s
          else s
    let s := onCan c (fun x => { x with rec_ := recAfter s x.rec_ }) s
    let s := if 127 < b.rec_ then s.drawn else s
    canOffer c (canErrState c b (canBoundary c s))

/-- CAN_FRAME_RECEIVED (R476). -/
def execCanFrameReceived (c : Nat) (f : CanFrame) (s : State) : Out := .next (canReceived c f s)

/-- The frame in progress ends well (R479, R488). -/
def canSent (c o ts : Nat) (data : Bytes) (s : State) : State :=
  let b := canOf s c
  let id := op s c o 1
  let s := send (.can c o id data) s
  let s := onObj c o (fun x => { x with
    pending := x.again, again := false, ident := id % 2 ^ 31, seq := wrapInc 32 x.seq, ts := ts
    form := formWord (op s c o 4) (bit (op s c o 3) 0) (bit (op s c o 3) 1) (b.state == 3) data.length }) s
  let s := onCan c (fun x => { x with txCnt := satInc 32 x.txCnt, tec := x.tec - 1 }) s
  canOffer c (canErrState c b (canBoundary c s))

/-- CAN_FRAME_TRANSMITTED (R474, R479): the ONT of the SOF sample point and the measured loop delay in quanta. -/
def canTransmitted (c ts delay : Nat) (s : State) : State :=
  match (canOf s c).cur with
  | none => s
  | some (o, data) =>
    if !canOnBus s c then s
    else if act s (canId c 8) == 1 && bit (op s c o 3) 0 && bit (op s c o 3) 1 then
      let s := onCan c (fun x => { x with tdc := (delay % 128, (delay + actN s (canId c 9)) % 128) }) s
      if 63 < delay then
        canOffer c (canProtocol c 1 (canError c (4 + Config.freeNat s.free % 2) true 8 0 s.drawn))
      else canSent c o ts data s
    else canSent c o ts data s

/-- CAN_FRAME_TRANSMITTED (R479). -/
def execCanFrameTransmitted (c ts delay : Nat) (s : State) : Out := .next (canTransmitted c ts delay s)

/-- The tick count is at a periodic trigger of an object (R478). -/
def canInstant (s : State) (c o : Nat) : Bool := onInstant (125 * (128 * c + o)) (125000 * op s c o 6) s

/-- CAN_PERIODIC_TRIGGER (R478, R481). -/
def canPeriodic (c o : Nat) (s : State) : State :=
  let st := objState s c o
  let x := canObj (canOf s c) o
  if !canRuns s || op s c o 0 != 2 || op s c o 5 == 0 || x.stopped || 128 ≤ o || !canInstant s c o then s
  else if !(st == 1 || (st == 2 && objSafe s c o)) then s
  else if x.pending then
    let s := onObj c o (fun x => { x with late := satInc 32 x.late }) s
    if elapsed (canOf s c).lastLate 1000000000 s then
      raise 0x0F13 99 c o (x.late + 1) (onCan c (fun y => { y with lastLate := some s.time.ont }) s)
    else s
  else objPend c o s

/-- CAN_PERIODIC_TRIGGER (R478). -/
def execCanPeriodicTrigger (c o : Nat) (s : State) : Out := .next (canPeriodic c o s)

/-- CAN_INTEGRATION_DONE (R485): ACTIVE, or the state kept through OFFLINE (R487). -/
def canIntegrated (c : Nat) (s : State) : State :=
  let x := canOf s c
  if canRuns s && x.state == 1 then
    let st := if x.offKept then 4 else if 128 ≤ x.tec ∨ 128 ≤ x.rec_ then 3 else 2
    canOffer c (onCan c (fun y => { y with state := st, offKept := false }) s)
  else s

/-- CAN_INTEGRATION_DONE (R485). -/
def execCanIntegrationDone (c : Nat) (s : State) : Out := .next (canIntegrated c s)

/-- CAN_STOP_CUT (R486): TXD goes recessive. -/
def canStopCut (c : Nat) (s : State) : State :=
  match (canOf s c).cur with
  | some (o, _) =>
    if canRuns s && ((canOf s c).state == 6 || (canOf s c).state == 7) then
      raise 0x0F15 101 c o (ontLo s) (onCan c (fun x => { x with cur := none, stopCut := satInc 32 x.stopCut }) s)
    else s
  | none => s

/-- CAN_STOP_CUT (R486). -/
def execCanStopCut (c : Nat) (s : State) : Out := .next (canStopCut c s)

/-- CAN_OBJECT_ECC (R488). -/
def canObjectEcc (c o : Nat) (s : State) : State :=
  if !(plantRuns s && enabled s 15 c) then s
  else
    let s := onObj c o (fun x => { x with stopped := true, pending := false }) s
    raise 0x0F16 102 c o 0 (onCan c (fun x => { x with eccCnt := satInc 32 x.eccCnt }) s)

/-- CAN_OBJECT_ECC (R488). -/
def execCanObjectEcc (c o : Nat) (s : State) : Out := .next (canObjectEcc c o s)

/-- Bytes are written to a transmit object's data; an update trigger makes it pending (R478, R480). -/
def canWrite (c o off : Nat) (b : Bytes) (s : State) : State :=
  let sending := match (canOf s c).cur with | some (q, _) => q == o | none => false
  let s := onObj c o (fun x => { x with data := overwrite x.data off b }) s
  if objState s c o = 1 ∧ op s c o 5 ≠ 1 ∧ (canObj (canOf s c) o).stopped = false then
    objPend c o (onObj c o (fun x => { x with again := sending }) s)
  else s

/-- A write that meets HOLD is discarded and counted (R481). -/
def canDiscard (c : Nat) (s : State) : State := onCan c (fun x => { x with discard := satInc 32 x.discard }) s

/-- A hand-off writes a signal (R303, R480). -/
def canHand (c o sub : Nat) (v : Int) (s : State) : State :=
  match objState s c o with
  | 0 | 4 => s
  | 3 => canDiscard c s
  | _ => onObj c o (fun x => { x with handed := sub :: x.handed }) (canWrite c o sub (leIntBytes 4 (satS 32 v)) s)

/-- The bytes of a command with those that a hand-off of the same commit period wrote put back (R480). -/
def handKeep (x : CanObj) (off : Nat) (b : Bytes) : Bytes :=
  x.handed.foldl (fun b sub =>
    (upTo 4).foldl (fun b i =>
      if off ≤ sub + i ∧ sub + i < off + b.length then b.set (sub + i - off) (nth 0 x.data (sub + i)) else b) b) b

/-- The refusals that both CAN commands share (R493). -/
def canRefusal (s : State) (c : Nat) : Option Nat :=
  if 3 < c then some 0x0F05 else if !enabled s 15 c then some 0x0F03 else none

/-- The effect of CAN_OBJ_WRITE (R480, R481, R493). -/
def canObjWrite (p : Bytes) (s : State) : Answer :=
  let c := byteField p 0 1
  let o := byteField p 1 1
  let off := byteField p 2 1
  let n := byteField p 3 1
  if p.length < 4 then refuse s 0x0F0A
  else match canRefusal s c with
    | some r => refuse s r
    | none =>
      if 127 < o ∨ n = 0 ∨ 64 < n then refuse s 0x0F05
      else if p.length ≠ 4 + n then refuse s 0x0F0A
      else if op s c o 0 ≠ 2 then refuse s 0x0F11
      else if objLen s c o < off + n then refuse s 0x0F05
      else match objState s c o with
        | 4 => done s []
        | 3 => done (canDiscard c s) []
        | _ => done (canWrite c o off (handKeep (canObj (canOf s c) o) off (p.drop 4)) s) []

/-- CAN_OBJ_WRITE (0x0F10). -/
def execCanObjWrite (m : Mail) (s : State) : Out := mailOut 0x0F10 m (canObjWrite m.payload) s

/-- The bus-off recovery starts (R484). -/
def canRecoverStart (c : Nat) (s : State) : State := onCan c (fun x => { x with state := 5, recov := 0 }) s

/-- The effect of CAN_RECOVER (R484, R493): the unit has an enable pending. -/
def canRecover (seq : Nat) (p : Bytes) (s : State) : Answer :=
  let c := byteField p 0 1
  if p.length ≠ 4 ∨ byteField p 1 3 ≠ 0 then refuse s 0x0F0A
  else match canRefusal s c with
    | some r => refuse s r
    | none =>
      if (canOf s c).state ≠ 4 then refuse s 0x0F06
      else pendingAns (setUnit 15 c { enabled := false, stopping := true, pend := some seq } (canRecoverStart c s)) 0x0F02

/-- CAN_RECOVER (0x0F11). -/
def execCanRecover (m : Mail) (s : State) : Out := mailOut 0x0F11 m (canRecover m.seq m.payload) s

/-- An object's permit was withdrawn at the output-image update (R26, R481). -/
def canPermitGone (c o : Nat) (s : State) : State :=
  if op s c o 0 = 2 ∧ objState s c o = 2 ∧ bit (op s c o 7) 0 ∧ (canObj (canOf s c) o).stopped = false then
    let s := onObj c o (fun x => { x with pending := false, again := false }) s
    if objSafe s c o then objPend c o s else s
  else s

/-- An object's permit was restored: it becomes pending with its current data (R481). -/
def canPermitBack (c o : Nat) (s : State) : State :=
  if op s c o 0 = 2 ∧ objState s c o = 1 ∧ bit (op s c o 7) 0 ∧ (canObj (canOf s c) o).stopped = false then objPend c o s else s

/-- The controller has grant and no hold line anew: every transmit object in NORMAL becomes pending (R481). -/
def canReassert (c : Nat) (s : State) : State :=
  if !enabled s 15 c then s
  else (upTo 128).foldl (fun s o =>
    if op s c o 0 = 2 ∧ objState s c o = 1 ∧ (canObj (canOf s c) o).stopped = false then objPend c o s else s) s

/-- 80 MHz over a nominal or data divider reaches `lo` and does not exceed `hi` (R472, R473). -/
def rateWithin (div lo hi : Nat) : Bool := decide (lo * div ≤ 80000000) && decide (80000000 ≤ hi * div)

/-- Objects of a controller that are in use. -/
def objsUsed (s : State) (c : Nat) : List Nat := (upTo 128).filter (fun o => par s (canObjId c o 0) != 0)

/-- The object items of R485 for one object: reason and ID. -/
def objCheck (s : State) (c o : Nat) : CheckFail :=
  let g := fun k => parN s (canObjId c o k)
  let tx := g 0 == 2
  let classic := if tx then !bit (g 3) 0 else g 3 / 4 == 1
  firstFail
    [(bit (g 1) 30 || decide (bits (g 1) 0 29 < 2 ^ 11), 0x0F11, canObjId c o 1),
     (!classic || decide (g 4 ≤ 8), 0x0F11, canObjId c o 4),
     (!bit (g 3) 1 || bit (g 3) 0, 0x0F11, canObjId c o 3),
     (!tx || g 5 == 0 || decide (1 ≤ g 6), 0x0F11, canObjId c o 6),
     (!tx || (upTo o).all (fun q => parN s (canObjId c q 0) != 2 || arbField (parN s (canObjId c q 1)) != arbField (g 1)),
      0x0F11, canObjId c o 1)]

/-- The first failing object of a list. -/
def objsCheck (s : State) (c : Nat) : List Nat → CheckFail
  | [] => none
  | o :: l => match objCheck s c o with
    | some f => some f
    | none => objsCheck s c l

/-- The consistency check of CAN unit c (R485). -/
def canCheck (c : Nat) (s : State) : CheckFail :=
  let g := fun j => parN s (canId c j)
  let nd := g 0 * (1 + g 1 + g 2)
  let dd := g 4 * (1 + g 5 + g 6)
  let brs := (objsUsed s c).any (fun o => bit (parN s (canObjId c o 3)) 1)
  match firstFail
    [(rateWithin nd 50000 1000000, 0x0F10, canId c 0),
     (decide (80000000 ≤ 8000000 * dd), 0x0F10, canId c 4),
     (decide (dd ≤ nd), 0x0F10, canId c 4),
     (decide (g 3 ≤ g 2), 0x0F10, canId c 3),
     (decide (g 7 ≤ g 6), 0x0F10, canId c 7),
     (g 8 != 1 || decide (g 4 ≤ 2), 0x0F10, canId c 8),
     (g 8 == 1 || !(brs && decide (1000000 * dd < 80000000)), 0x0F10, canId c 8)] with
  | some f => some f
  | none => match objsCheck s c (objsUsed s c) with
    | some f => some f
    | none =>
      if (objsUsed s c).any (fun o => bit (parN s (canObjId c o 7)) 0) && !enabled s 12 0 then some (0x0F0D, 0) else none

/-- A controller starts (R485): INTEGRATING with clear counters; objects stay only after a bus-off recovery. -/
def canStart (c : Nat) (s : State) : State :=
  onCan c (fun x => {
    state := 1, stb := false, lec := 0, lastLate := x.lastLate, lastProto := x.lastProto
    objs := if x.recovered then x.objs else [] }) (parCommit (canParams c) s)

/-- The controller stop begins, or for a bus-off controller the recovery (R484, R486). -/
def canStop (c : Nat) (s : State) : State :=
  match (canOf s c).state with
  | 4 => canRecoverStart c s
  | 5 => s
  | _ => onCan c (fun x => { x with state := 6 }) s

/-- The controller is OFF; a recovery that ended keeps the objects for the next enable (R485, R486). -/
def canStopEnd (c : Nat) (s : State) : State :=
  onCan c (fun x => { x with state := 0, stb := true, cur := none, offKept := false, recovered := x.state == 5 }) s

/-- The bus-off recovery ends (R484). -/
def canRecovered (c seqs outcome : Nat) (s : State) : State :=
  raise 0x0F12 98 c seqs outcome (onCan c (fun x => { x with recov := seqs }) s)

/-- Device-state entry takes an enabled controller off the bus: no frame starts any more (R487). -/
def canOffline (c : Nat) (s : State) : State :=
  if enabled s 15 c then onCan c (fun x => { x with state := 7, offKept := x.state == 4 }) s else s

/-- No controller has a frame in progress (R76 step 2). -/
def canQuiet (s : State) : Bool := s.can.all (fun x => x.cur.isNone)

/-- With its frame over, an offline controller's transceiver goes to standby (R487). -/
def canStandbyAll (s : State) : State := { s with can := s.can.map (fun x => if x.state = 7 then { x with stb := true } else x) }

/-- Exit brings it back (R487). -/
def canOnline (c : Nat) (s : State) : State :=
  if (canOf s c).state = 7 then onCan c (fun x => { x with state := 1, stb := false }) s else s

/-- FIELD in OFF keeps no registers and no message RAM (R67), but for the states, TEC, REC, BUS_OFF and pending frames (R487), and
the objects that the enable after a bus-off recovery keeps (R485). -/
def canLost (s : State) : State :=
  { s with can := s.can.map (fun x =>
      { state := x.state, tec := x.tec, rec_ := x.rec_, offKept := x.offKept, recovered := x.recovered
        lastLate := x.lastLate, lastProto := x.lastProto
        objs := if x.recovered then x.objs else
          (x.objs.filter (fun p => p.2.pending)).map (fun p => (p.1, { pending := true, data := p.2.data })) }) }

/-- The words of an object's record (R491). -/
def objBytes (s : State) (c o : Nat) : Bytes :=
  let x := canObj (canOf s c) o
  let tx := op s c o 0 == 2
  let data := if tx then x.data else match x.frames with
    | f :: _ => f.2.2
    | [] => []
  leBytes 4 (op s c o 0 + 4 * b2n x.pending + 8 * b2n (permitBit s (64 + 128 * c + o)) + 16 * objState s c o) ++
    leBytes 4 x.ident ++ leBytes 4 x.form ++ leBytes 4 x.seq ++ leBytes 8 x.ts ++ leBytes 4 x.late ++ zeros 4 ++
    padTo 64 data ++ leBytes 4 x.seq ++ zeros 28

/-- A register of a controller's block (R489). -/
def canBlock (s : State) (c off : Nat) : Nat :=
  let x := canOf s c
  match off with
  | 0x00 => canStatus s c
  | 0x04 => canErrcnt x
  | 0x08 => x.lec
  | 0x0C => x.tdc.1 + 256 * x.tdc.2
  | 0x10 => x.rxCnt
  | 0x14 => x.txCnt
  | 0x18 => x.errCnt
  | 0x1C => x.noMatch
  | 0x20 => x.rtr
  | 0x24 => x.short
  | 0x28 => x.busoffCnt
  | 0x2C => x.stopCut
  | 0x30 => x.discard
  | 0x34 => x.eccCnt
  | _ => 0

/-- A word of the field bus controllers' region (R489, R491). -/
def canReg (s : State) (off : Nat) : Nat :=
  if 0x1000 ≤ off ∧ off < 0x1400 then canBlock s ((off - 0x1000) / 256) (off % 256)
  else if 0x80000 ≤ off ∧ off < 0x90000 then
    byteField (objBytes s ((off - 0x80000) / 0x4000) (off % 0x4000 / 0x80)) (off % 0x80) 4
  else match off with
    | 0x0 => 0x8004
    | 0x4 => flagsNat ((upTo 4).map (fun c => enabled s 15 c))
    | _ => 0

end Sys2Proof.Machine
end

