-- ==== Sys2Proof/Machine/Adc.lean ====
section
/-! DEFINITION. Analogue acquisition (R420 to R446). -/

namespace Sys2Proof.Machine

/-- The acquisition state changed. -/
def onAdc (f : AdcSt → AdcSt) (s : State) : State := { s with adc := f s.adc }

/-- One channel. -/
def adcCh (s : State) (k : Nat) : AdcCh := nth {} s.adc.ch k

/-- One channel changed. -/
def onCh (k : Nat) (f : AdcCh → AdcCh) (s : State) : State := onAdc (fun a => { a with ch := modNth a.ch k f }) s

/-- The reference changed. -/
def onRef (f : AdcRef → AdcRef) (s : State) : State := onAdc (fun a => { a with ref := f a.ref }) s

/-- The calibration sequencer changed. -/
def onCal (f : CalSt → CalSt) (s : State) : State := onAdc (fun a => { a with cal := f a.cal }) s

/-- One fast converter. -/
def wavOf (s : State) (w : Nat) : WavSt := nth {} s.adc.wav w

/-- One fast converter changed. -/
def onWav (w : Nat) (f : WavSt → WavSt) (s : State) : State := onAdc (fun a => { a with wav := modNth a.wav w f }) s

/-- The IDs of a channel's and of a converter's parameters (R444). -/
def adcId (k j : Nat) : Nat := 0x3800 + 0x20 * k + j
def wavId (w j : Nat) : Nat := 0x3B00 + 0x20 * w + j

/-- The parameters that an ADC unit commits. -/
def adcParams (u id : Nat) : Bool :=
  (if u < 24 then adcId u 0 ≤ id && id < adcId u 0x20 else wavId (u - 24) 0 ≤ id && id < wavId (u - 24) 0x20) ||
    (0x0D00 ≤ id && id < 0x0E00)

/-- The group delay of a rate code, to the nearest ns (R421). -/
def groupDelay (rate : Nat) : Nat := nth 0 [8499756, 4249756, 2124756, 1062256] rate

/-- The corrected code of a raw one, and whether it saturated (R420, R430). -/
def correctCode (raw o : Int) (g : Nat) : Int × Bool :=
  let c := shiftRound ((raw - o) * g) 30
  let m := clamp (-8388607) 8388607 c
  (m, m != c)

/-- ADC_REF_STATUS (R443). -/
def refStatus (r : AdcRef) : Nat :=
  b2n r.on + 2 * b2n r.ok + 4 * b2n r.settled + 8 * b2n r.fault + 16 * b2n r.stopping

/-- The flags of a result (R423, R427, R429, R443). -/
def resultFlags (s : State) (k ts : Nat) (ovr : Bool) : Nat :=
  let c := adcCh s k
  let r := s.adc.ref
  1 + 2 * b2n (decide (ts < r.t + 5000000)) + 4 * b2n r.fault + 8 * b2n c.subst + 16 * b2n ovr
    + 32 * b2n c.afterReset + 64 * b2n c.calFail + 256 * actN s (adcId k 0)

/-- An instant whose result is not published. -/
def resultGone (k : Nat) (s : State) : State := onCh k (fun c => { c with step := c.step ++ [none] }) s

/-- A result is published (R420 to R423). -/
def publishResult (k : Nat) (raw : Int) (s : State) : State :=
  let c := adcCh s k
  let cal := s.adc.cal
  let (code, ovr) := if c.subst then correctCode raw cal.spareO cal.spareG else correctCode raw c.offset c.gain
  let ts := s.time.ont - groupDelay (actN s (adcId k 0))
  let fl := resultFlags s k ts ovr
  let s := holdSample 1 k s
  let s := onCh k (fun c => { c with
    result := code, seq := wrapInc 32 c.seq, ts := ts, flags := fl, afterReset := false
    step := c.step ++ [some code], stepFlags := Nat.lor c.stepFlags fl }) s
  if ovr && !s.adc.ovr.getLsbD k then
    let s := onAdc (fun a => { a with ovr := a.ovr ||| (1#24 <<< k) }) s
    if act s (adcId k 2) = 1 then raise 0x0D11 81 k (u32 code) (ontLo s) s else s
  else s

/-- The NET tick count is at an output instant of a channel's rate (R422): 4·D modulator periods are 125,000 ticks at 1 kS/s, and
the grid runs from the start of the ADC PLL. -/
def sdInstant (s : State) (k : Nat) : Bool := onInstant s.adc.grid (125000 / 2 ^ actN s (adcId k 0)) s

/-- An output instant of a channel (R421, R423): the raw code of the modulator that serves it, and whether its
decimation window contains a modulator reset. -/
def sdOutput (k : Nat) (raw : Int) (reset : Bool) (s : State) : State :=
  let c := adcCh s k
  if !(meterRuns s && c.running && sdInstant s k) || (c.count == 0 && c.startTick == s.power.netTick) then s
  else
    let s := parCommit (adcParams k) s
    let n := min (c.count + 1) 18
    let s := if reset && c.discard == 0 then raise 0x0D17 86 k (ontLo s) 0 s else s
    let left := if reset then 18 else c.discard
    let s := onCh k (fun c => { c with count := n }) s
    if 0 < left then resultGone k (onCh k (fun c => { c with discard := left - 1, afterReset := true }) s)
    else if n < 18 then resultGone k s
    else publishResult k raw s

/-- SD_OUTPUT_INSTANT (R421). -/
def execSdOutputInstant (k : Nat) (raw : Int) (reset : Bool) (s : State) : Out := .next (sdOutput k raw reset s)

/-- EV_ADC_REF (R446). -/
def refEvent (s : State) : State := raise 0x0D10 80 (refStatus s.adc.ref) (s.adc.ref.t % 2 ^ 32) 0 s

/-- REF_SETTLE_STEP (R426, R427): steps 2 to 5 of the start; 6: OK has held for 1 ms after a fault. -/
def refSettle (step : Nat) (s : State) : State :=
  if !(plantRuns s && s.adc.ref.on) then s
  else match step with
    | 4 => onRef (fun r => { r with ok := true }) s
    | 5 => refEvent (onRef (fun r => { r with settled := true }) s)
    | 6 => if s.adc.ref.ok then onRef (fun r => { r with fault := false, faultEnd := s.time.ont }) s else s
    | _ => s

/-- REF_SETTLE_STEP (R426). -/
def execRefSettleStep (step : Nat) (s : State) : Out := .next (refSettle step s)

/-- REF_FAULT (R427). -/
def execRefFault (s : State) : Out :=
  .next (if plantRuns s && s.adc.ref.on then refEvent (onRef (fun r => { r with fault := true, ok := false }) s) else s)

/-- The sequencer takes the head of the round where a calibration may start (R431). -/
def calTry (s : State) : State :=
  if s.adc.cal.busy || !malorWorks s || s.power.cur != .run || decide (2 ≤ s.mgmt.shed) then s
  else match s.adc.cal.queue.filter (fun k => (adcCh s k).running) with
    | [] => s
    | k :: _ => onCal (fun c => { c with
        busy := true, channel := k, step := 1, again := false, queue := c.queue.filter (fun q => q != k) }) s

/-- The reading of sensor 5 (R113). -/
def calSensor (s : State) : Option Int := nth none s.mgmt.tsens 5

/-- A channel falls due (R431): it has had no calibration (DEDUCED, log 43), the interval has passed since the last, or sensor 5
has moved by the limit. -/
def calDue (s : State) (c : AdcCh) : Bool :=
  c.calAt.isNone || elapsed c.calAt (parN s 0x0D00 * 3600000000000) s ||
    (parN s 0x0D02 != 0 && (match calSensor s, c.calTemp with
      | some t, some u => decide ((parN s 0x0D02 : Int) ≤ (t - u).natAbs)
      | _, _ => false))

/-- CALIBRATION_DUE (R431): a channel that is due joins the round. -/
def calibrationDue (k : Nat) (s : State) : State :=
  if !malorWorks s || !enabled s 13 k || decide (24 ≤ k) || par s (adcId k 1) != 1 || !calDue s (adcCh s k) then s
  else
    let q := s.adc.cal
    calTry (if q.queue.contains k || (q.busy && q.channel == k) then s else onCal (fun c => { c with queue := c.queue ++ [k] }) s)

/-- CALIBRATION_DUE (R431). -/
def execCalibrationDue (k : Nat) (s : State) : Out := .next (calibrationDue k s)

/-- G of the mean codes on the short and on the 0.625 V source, in UQ2.30 (R430); open where it does not fit. -/
def calGain (free : Nat) (o src : Int) : Nat :=
  let d := src - o
  let g := if d ≤ 0 then 2 ^ 32 else (divRound (5 * 2 ^ 53) (6 * d.toNat)).toNat
  if g < 2 ^ 32 then g else Config.freeNat free % 2 ^ 32

/-- The sequence ends; the next of the round may start. -/
def calOver (s : State) : State :=
  let k := s.adc.cal.channel
  calTry (onCal (fun c => { c with busy := false, step := 0 }) (onCh k (fun c => { c with subst := false }) s))

/-- The time and temperature of a calibration's verdict, from which the next one falls due (R431). -/
def calStamp (k : Nat) (s : State) : State := onCh k (fun x => { x with calAt := some s.time.ont, calTemp := calSensor s }) s

/-- Step 5 of R429 ends with the mean absolute difference from the spare. -/
def calJudge (diff : Int) (s : State) : State :=
  let c := s.adc.cal
  let k := c.channel
  let s := if diff ≤ (parN s 0x0D01 : Int) || c.again then calStamp k s else s
  if diff ≤ (parN s 0x0D01 : Int) then
    let s := onCh k (fun x => { x with offset := c.newO, gain := c.newG, calFail := false, calT := s.time.ont / 1000000000 }) s
    let s := onAdc (fun a => { a with calCnt := satInc 32 a.calCnt }) (onCal (fun c => { c with step := 6, lastFail := false }) s)
    raise 0x0D12 82 k (u32 c.newO) c.newG s
  else if c.again then
    let x := adcCh s k
    let s := onCh k (fun x => { x with calFail := true }) (onCal (fun c => { c with step := 6, lastFail := true }) s)
    raise 0x0D13 82 k (u32 x.offset) x.gain s
  else onCal (fun c => { c with step := 4, again := true }) s

/-- CAL_STEP_DONE (R429): steps 1 and 4 bring the mean codes on the short and on the source, step 5 the difference. -/
def calStep (a b : Int) (s : State) : State :=
  let c := s.adc.cal
  if !(meterRuns s && c.busy) then s
  else match c.step with
    | 1 => (onCal (fun c => { c with step := 2, spareO := a, spareG := calGain s.free a b }) s).drawn
    | 2 => onCal (fun c => { c with step := 3 }) s
    | 3 => onCal (fun c => { c with step := 4 }) (onCh c.channel (fun x => { x with subst := true }) s)
    | 4 => (onCal (fun c => { c with step := 5, newO := a, newG := calGain s.free a b }) s).drawn
    | 5 => calJudge a s
    | _ => calOver s

/-- CAL_STEP_DONE (R429). -/
def execCalStepDone (a b : Int) (s : State) : Out := .next (calStep a b s)

/-- A coefficient moves by an eighth of the difference (R434), within its register (R442). -/
def coefStep (c e : Int × Nat × Int) : Int × Nat × Int :=
  (satS 16 (c.1 + divRound (e.1 - c.1) 8), (clamp 0 65535 ((c.2.1 : Int) + divRound ((e.2.1 : Int) - c.2.1) 8)).toNat,
    satS 16 (c.2.2 + divRound (e.2.2 - c.2.2) 8))

/-- The estimates of a window applied to a converter's slices. -/
def coefsStep (est : List (Int × Nat × Int)) (x : WavSt) : WavSt :=
  { x with coefs := (x.coefs.zip est).map (fun p => coefStep p.1 p.2) }

/-- MISMATCH_WINDOW_END (R434): whether the input exceeded -40 dBFS, and the estimate for every slice in time order. -/
def mismatchEnd (w : Nat) (loud : Bool) (est : List (Int × Nat × Int)) (s : State) : State :=
  let x := wavOf s w
  if !(plantRuns s && x.on) then s
  else
    let s := parCommit (adcParams (24 + w)) s
    if act s (wavId w 1) ≠ 1 then s
    else if !loud then onWav w (fun x => { x with hold := true }) s
    else
      let s := onWav w (fun x => { coefsStep (est.take 4) x with hold := false, winCnt := satInc 32 x.winCnt }) s
      let s := if x.ganged then onWav 1 (coefsStep (est.drop 4)) s else s
      if !x.converged && decide (8 ≤ x.winCnt + 1) then
        raise 0x0D16 85 w (x.winCnt + 1) (ontLo s) (onWav w (fun x => { x with converged := true, convAt := s.time.ont }) s)
      else s

/-- MISMATCH_WINDOW_END (R434). -/
def execMismatchWindowEnd (w : Nat) (loud : Bool) (est : List (Int × Nat × Int)) (s : State) : Out :=
  .next (mismatchEnd w loud est s)

/-- Malor copies the coefficients of a converter (R434). -/
def wavSave (w : Nat) (s : State) : State :=
  let x := wavOf s w
  if x.on then
    let s := onWav w (fun x => { x with saved := x.coefs }) s
    if x.ganged then onWav 1 (fun x => { x with saved := x.coefs }) s else s
  else s

/-- WAVE_COEF_SAVE (R434). -/
def execWaveCoefSave (s : State) : Out := .next (if malorWorks s then wavSave 1 (wavSave 0 s) else s)

/-- The raw sample interval of a converter in ps (R432, R433). -/
def wavRaw (x : WavSt) : Nat := if x.ganged then 12500 else 25000

/-- The raw sample `cur` after `prev` is the trigger of an armed capture (R436): at once, at or after the first pulse of its unit,
or by crossing LEVEL. -/
def captureFires (c : Capt) (prev cur : Int) : Bool :=
  match c.start with
  | 0 => true
  | 1 => c.pulse.isSome
  | 2 => decide (prev < c.level) && decide (c.level ≤ cur)
  | _ => decide (c.level < prev) && decide (cur ≤ c.level)

/-- CAPTURE_TRIGGER (R436): the ONT of the trigger raw sample, its place in its averaging window, the number of output samples
gathered before that window, and the raw sample before it with itself. With START 0 the trigger is the first raw sample after
the arm, where the averaging grid starts (DEDUCED, log 43). -/
def captureTrigger (w trigOnt pos gathered : Nat) (prev cur : Int) (s : State) : State :=
  let x := wavOf s w
  let c := x.cap
  if !(plantRuns s && x.on && c.state == 1 && captureFires c prev cur) then s
  else
    let pos := if c.start = 0 then 0 else pos
    let gathered := if c.start = 0 then 0 else gathered
    let pre := min c.pre gathered
    let back := wavRaw x * (pos + pre * 2 ^ c.k)
    onWav w (fun x => { x with cap := { c with
      state := 2, preUsed := pre, shortPre := decide (gathered < c.pre), trigOnt := trigOnt
      firstOnt := divRound ((trigOnt : Int) * 1000 - back) 1000
      late := c.pulse == some true, steps := s.time.stepCnt } }) s

/-- CAPTURE_TRIGGER (R436). -/
def execCaptureTrigger (w trigOnt pos : Nat) (x : TrigIn) (s : State) : Out :=
  .next (captureTrigger w trigOnt pos x.gathered x.prev x.cur s)

/-- The next capture number (R437). -/
def nextCapSeq (n : Nat) : Nat := if n + 1 < 0xFFFFFFFF then n + 1 else if n + 1 = 0xFFFFFFFF then 0 else 1

/-- The record of a finished capture (R437, R438). -/
def captureRec (s : State) (w : Nat) (samples : List Int) (full : Bool) : CaptRec :=
  let x := wavOf s w
  let c := x.cap
  let r := s.adc.ref
  let ref := r.fault || decide (c.firstOnt < ((max r.faultEnd (r.t + 5000000) : Nat) : Int))
  let unconv := !x.converged || decide (c.firstOnt < (x.convAt : Int))
  let trunc := c.trunc || decide (samples.length < c.n)
  { seq := nextCapSeq s.adc.capSeq, len := 0x44 + 2 * samples.length, firstOnt := c.firstOnt
    period := wavRaw x * 2 ^ c.k, pre := c.preUsed, converter := w, k := c.k, trigOnt := c.trigOnt, samples
    flags := b2n trunc + 2 * b2n unconv + 4 * b2n ref + 8 * b2n full + 16 * b2n c.shortPre + 32 * b2n c.late
      + 64 * b2n (c.steps != s.time.stepCnt) + 128 * b2n x.ganged }

/-- CAPTURE_COMPLETE (R437): the samples written, and whether a raw sample stood at full scale. -/
def captureComplete (w : Nat) (samples : List Int) (full : Bool) (s : State) : State :=
  let c := (wavOf s w).cap
  if !plantRuns s || c.state != 2 then s
  else
    let r := captureRec s w (samples.take c.n) full
    let s := onAdc (fun a => { a with capSeq := r.seq, slots := a.slots.set c.slot (some r) }) s
    let s := onWav w (fun x => { x with cap := { x.cap with state := 0 } }) s
    if bit r.flags 0 then raise 0x0D15 84 (w + 256 * c.slot) r.seq r.samples.length s
    else raise 0x0D14 83 w c.slot r.seq s

/-- CAPTURE_COMPLETE (R437). -/
def execCaptureComplete (w : Nat) (samples : List Int) (full : Bool) (s : State) : Out :=
  .next (captureComplete w samples full s)

/-- A capture ends early: an armed one is discarded, a running one will complete TRUNCATED (R438). -/
def captureStop (w : Nat) (s : State) : State :=
  match (wavOf s w).cap.state with
  | 1 => onWav w (fun x => { x with cap := { x.cap with state := 0 } }) s
  | 2 => onWav w (fun x => { x with cap := { x.cap with trunc := true } }) s
  | _ => s

/-- Another converter's capture uses the slot. -/
def slotBusy (s : State) (w slot : Nat) : Bool :=
  (upTo 2).any (fun v => v != w && (wavOf s v).cap.state != 0 && (wavOf s v).cap.slot == slot)

/-- The effect of ADC_WAVE_CAPTURE (R436, R438, R445). -/
def waveCapture (p : Bytes) (s : State) : Answer :=
  let f := byteField p
  let w := f 0 1
  let ganged := enabled s 13 24 && act s 0x3B00 == 1
  if p.length ≠ 20 ∨ f 6 2 ≠ 0 ∨ f 17 3 ≠ 0 then refuse s 0x0D0A
  else if 1 < w then refuse s 0x0D05
  else if w = 1 ∧ ganged = true then refuse s 0x0D06
  else if !enabled s 13 (24 + w) then refuse s 0x0D03
  else if 3 < f 1 1 ∨ f 2 1 < 8 ∨ 13 < f 2 1 ∨ 8 < f 3 1 ∨ (if ganged then 126976 else 61440) < f 8 4 ∨
      f 12 4 < f 8 4 + 1 ∨ 1048512 < f 12 4 ∨ 3 < f 16 1 then refuse s 0x0D05
  else if (wavOf s w).cap.state ≠ 0 ∨ slotBusy s w (f 16 1) then refuse s 0x0D01
  else done (onWav w (fun x => { x with cap := {
    state := 1, start := f 1 1, unit := f 2 1, k := f 3 1, level := byteFieldS p 4 2, pre := f 8 4, n := f 12 4, slot := f 16 1 } }) s) []

/-- ADC_WAVE_CAPTURE (0x0D10). -/
def execAdcWaveCapture (m : Mail) (s : State) : Out := mailOut 0x0D10 m (waveCapture m.payload) s

/-- The effect of ADC_WAVE_STOP (R438, R445). -/
def waveStop (p : Bytes) (s : State) : Answer :=
  let w := byteField p 0 1
  if p.length ≠ 4 ∨ byteField p 1 3 ≠ 0 then refuse s 0x0D0A
  else if 1 < w then refuse s 0x0D05
  else if !enabled s 13 (24 + w) then refuse s 0x0D03
  else done (captureStop w s) []

/-- ADC_WAVE_STOP (0x0D11). -/
def execAdcWaveStop (m : Mail) (s : State) : Out := mailOut 0x0D11 m (waveStop m.payload) s

/-- The effect of ADC_CAL_NOW (R431, R445). -/
def calNow (p : Bytes) (s : State) : Answer :=
  let k := byteField p 0 1
  if p.length ≠ 4 ∨ byteField p 1 3 ≠ 0 then refuse s 0x0D0A
  else if 23 < k then refuse s 0x0D05
  else if !enabled s 13 k then refuse s 0x0D03
  else if s.adc.cal.queue.contains k then done s []
  else done (calTry (onCal (fun c => { c with queue := k :: c.queue }) s)) []

/-- ADC_CAL_NOW (0x0D12). -/
def execAdcCalNow (m : Mail) (s : State) : Out := mailOut 0x0D12 m (calNow m.payload) s

/-- The effect of ADC_CLEAR (R445). -/
def adcClear (p : Bytes) (s : State) : Answer :=
  if p.length ≠ 0 then refuse s 0x0D0A else done (onAdc (fun a => { a with ovr := 0 }) s) []

/-- ADC_CLEAR (0x0D13). -/
def execAdcClear (m : Mail) (s : State) : Out := mailOut 0x0D13 m (adcClear m.payload) s

/-- The consistency check of ADC unit u (R439). -/
def adcCheck (u : Nat) (s : State) : CheckFail :=
  if u = 26 then none
  else firstFail
    [(enabled s 13 26, 0x0D0D, 0),
     (u != 24 || par s 0x3B00 != 1 || !unitActive s 13 25, 0x0D10, 0x3B00),
     (u != 25 || par s 0x3B00 == 0, 0x0D10, 0x3B00)]

/-- The reference starts with t_ref now (R426). -/
def refStart (s : State) : State :=
  onRef (fun r => { r with on := true, ok := false, settled := false, fault := false, stopping := false, t := s.time.ont }) s

/-- A channel starts (R421). -/
def chStart (k : Nat) (s : State) : State :=
  onCh k (fun c => { c with running := true, startTick := s.power.netTick, count := 0, discard := 0, afterReset := false, subst := false, step := [], hist := [], stepFlags := 0 }) s

/-- A converter starts with its kept coefficients (R433, R434). -/
def wavStart (w : Nat) (s : State) : State :=
  let g := act s 0x3B00 == 1
  let s := onWav w (fun x => { x with
    on := true, converged := false, hold := false, ganged := g && w == 0, winCnt := 0, coefs := x.saved
    cap := { slot := x.cap.slot } }) s
  if g && w == 0 then onWav 1 (fun x => { x with coefs := x.saved }) s else s

/-- An ADC unit starts. -/
def adcStart (u : Nat) (s : State) : State :=
  let s := parCommit (adcParams u) s
  if u = 26 then refStart s else if u < 24 then chStart u s else wavStart (u - 24) s

/-- A channel's calibration ends at once, coefficients kept (R431). -/
def calCut (k : Nat) (s : State) : State :=
  let s := onCh k (fun c => { c with subst := false }) s
  if s.adc.cal.busy && s.adc.cal.channel == k then onCal (fun c => { c with busy := false, step := 0 }) s else s

/-- The stop of an ADC unit begins (R428, R440). -/
def adcStop (u : Nat) (s : State) : State :=
  if u = 26 then onRef (fun r => { r with on := false, ok := false, settled := false, stopping := true }) s
  else if u < 24 then calTry (onCal (fun c => { c with queue := c.queue.filter (fun q => q != u) }) (calCut u s))
  else captureStop (u - 24) (wavSave (u - 24) s)

/-- The stop of an ADC unit ends. -/
def adcStopEnd (u : Nat) (s : State) : State :=
  if u = 26 then onRef (fun r => { r with stopping := false, fault := false }) s
  else if u < 24 then onCh u (fun c => { c with running := false }) s
  else onWav (u - 24) (fun x => { x with on := false, converged := false, ganged := false, cap := { slot := x.cap.slot } }) s

/-- A converter's stop is over when its capture has been completed and the spill is drained (R440). -/
def wavStopped (s : State) (w : Nat) : Bool := (wavOf s w).cap.state != 2

/-- Entry to DEEP, OFF or MINIMAL stops the channels and the reference; a calibration is queued again (R428, R431, R441). -/
def adcDeep (s : State) : State :=
  let s := if s.adc.cal.busy then
      onCal (fun c => { c with queue := c.queue ++ [c.channel] }) (calCut s.adc.cal.channel s) else s
  onRef (fun r => { r with on := false, ok := false, settled := false, fault := false })
    (onAdc (fun a => { a with ch := a.ch.map (fun c => { c with running := false, subst := false }) }) s)

/-- The fast converters stop with WAVE OFF (R438, R441). -/
def wavDark (s : State) : State :=
  onAdc (fun a => { a with wav := a.wav.map (fun x => { x with on := false, converged := false, ganged := false, cap := {} }) }) s

/-- The reference and the channels of the units left ENABLED restart when METER returns from RETAIN (R428, R441). -/
def adcResume (s : State) : State :=
  let s := if enabled s 13 26 then refStart s else s
  (upTo 24).foldl (fun s k => if enabled s 13 k then chStart k s else s) s

/-- The fast converters of the units left ENABLED restart when WAVE returns (R441). -/
def wavResume (s : State) : State :=
  (upTo 2).foldl (fun s w => if enabled s 13 (24 + w) then wavStart w s else s) s

/-- WAVE in OFF keeps nothing but the copy of the coefficients in MGMT SRAM (R67, R434). -/
def wavLost (s : State) : State := onAdc (fun a => { a with wav := a.wav.map (fun x => { saved := x.saved }) }) s

/-- METER comes ON: the ADC PLL starts, and with it the grid (R422). -/
def gridStart (s : State) : State := onAdc (fun a => { a with grid := s.power.netTick }) s

/-- RETAIN keeps the calibrated coefficients of the channels with their verdict, and Malor the round (R69, R431; log 31). -/
def adcRetain (s : State) : State :=
  onAdc (fun a =>
    { ch := a.ch.map (fun c => { offset := c.offset, gain := c.gain, calT := c.calT, calFail := c.calFail, calAt := c.calAt, calTemp := c.calTemp })
      cal := { queue := a.cal.queue }, wav := a.wav, capSeq := a.capSeq, slots := a.slots }) s

/-- ADC_CAL_STATUS (R443). -/
def calStatus (c : CalSt) : Nat := b2n c.busy + 256 * c.channel + 65536 * c.step + 16777216 * b2n c.lastFail

/-- A register of a channel's block (R442). -/
def chReg (c : AdcCh) (off : Nat) : Nat :=
  match off with
  | 0x00 => toBits 32 c.result
  | 0x04 => c.seq
  | 0x08 => c.ts % 2 ^ 32
  | 0x0C => c.ts / 2 ^ 32
  | 0x10 => c.flags
  | 0x14 => toBits 32 c.offset
  | 0x18 => c.gain
  | 0x1C => c.calT
  | _ => 0

/-- WAVw_STATUS (R443). -/
def wavStatus (x : WavSt) : Nat :=
  b2n x.on + 2 * b2n x.converged + 4 * b2n x.hold + 8 * b2n x.ganged + 16 * x.cap.state + 256 * x.cap.slot

/-- A register of a converter's block (R442). -/
def wavReg (x : WavSt) (off : Nat) : Nat :=
  let c := nth (0, 0, 0) x.coefs (off % 16 / 4)
  match off / 16 with
  | 0 => if off = 0 then wavStatus x else if off = 4 then x.winCnt else 0
  | 1 => toBits 16 c.1
  | 2 => c.2.1
  | 3 => toBits 16 c.2.2
  | _ => 0

/-- A register of the acquisition part of the region (R442). -/
def adcReg (s : State) (off : Nat) : Nat :=
  let a := s.adc
  if 0x100 ≤ off ∧ off < 0x400 then chReg (adcCh s ((off - 0x100) / 32)) (off % 32)
  else if 0x400 ≤ off ∧ off < 0x500 then wavReg (wavOf s ((off - 0x400) / 128)) (off % 128)
  else match off with
    | 0x00 => 0x218
    | 0x04 => flagsNat ((upTo 27).map (fun u => enabled s 13 u))
    | 0x08 => refStatus a.ref
    | 0x0C => a.ref.t % 2 ^ 32
    | 0x10 => a.ref.t / 2 ^ 32
    | 0x14 => calStatus a.cal
    | 0x18 => a.ovr.toNat
    | 0x1C => a.calCnt
    | 0x20 => a.capSeq
    | _ => 0

/-- The bytes of a capture record (R437). -/
def captBytes (r : CaptRec) : Bytes :=
  leBytes 4 r.seq ++ leBytes 4 r.len ++ leIntBytes 8 r.firstOnt ++ leBytes 4 r.period ++ leBytes 4 r.samples.length ++
    leBytes 4 r.pre ++ leBytes 2 r.flags ++ leBytes 1 r.converter ++ leBytes 1 r.k ++ leBytes 8 r.trigOnt ++ zeros 24 ++
    r.samples.flatMap (leIntBytes 2) ++ leBytes 4 r.seq

/-- A byte of a capture slot (R435, R437): the opening number is 0xFFFFFFFF while a capture is spilled there, and the rest of such
a slot is open, as is what lies outside a record. -/
def slotByte (s : State) (n off : Nat) : Byte :=
  let open_ := Config.dramByte s.adc.capSeq (0x1500000 + 0x200000 * n + off)
  if (upTo 2).any (fun w => (wavOf s w).cap.state == 2 && (wavOf s w).cap.slot == n) then (if off < 4 then 0xFF else open_)
  else match nth none s.adc.slots n with
    | some r => if off < r.len then nth 0 (captBytes r) off else open_
    | none => open_

end Sys2Proof.Machine
end

