-- ==== Sys2Proof/Machine/Economic.lean ====
section
/-! DEFINITION. Economic dispatch: the problem, the penalty, warm starts, outcomes, publications and commands (R278 to
R312). -/

namespace Sys2Proof.Machine

/-- Dispatch's state changed. -/
def onDsp (f : DspSt → DspSt) (s : State) : State := { s with dsp := f s.dsp }

/-- DSP_STEP in ns. -/
def stepNs (s : State) : Nat := parN s 0x0901 * 1000000000

/-- DSP_STEP in hours. -/
def stepH (s : State) : Rat := (parN s 0x0901 : Rat) / 3600

/-- T_STEP0 of the current period (R279). -/
def step0 (s : State) : Nat := s.dsp.ta / stepNs s * stepNs s

/-- Fields of the model in effect by section: SUBST, PLANT, STORE, PUMP, CLUSTER. -/
def substN (s : State) (k off n : Nat) : Nat := recN s.model.image 0x12 16 k off n
def plantN (s : State) (k off n : Nat) : Nat := recN s.model.image 0x13 32 k off n
def plantS (s : State) (k off n : Nat) : Int := recS s.model.image 0x13 32 k off n
def storeN (s : State) (k off n : Nat) : Nat := recN s.model.image 0x14 24 k off n
def clusterS (s : State) (k off n : Nat) : Int := recS s.model.image 0x16 8 k off n
def clusterNet (img : Bytes) (k : Nat) : Nat := recN img 0x16 8 k 4 1

/-- E_CAP of a store in Wh. -/
def eCap (s : State) (k : Nat) : Rat := (storeN s k 0 4 : Rat)

/-- A UQ0.16 field as a fraction. -/
def frac16 (n : Nat) : Rat := (n : Rat) / 65536

/-- The block, object and interval of an input value as one key (R290). -/
def inputKey (block object interval : Nat) : Nat := block * 2 ^ 32 + object * 2 ^ 16 + interval

/-- The written value at an interval, or at the nearest earlier one; and whether it stood at the interval itself. -/
def inputNear (vals : List (Nat × Int)) (block object : Nat) : Nat → Option (Int × Bool)
  | 0 => (lookupNat (inputKey block object 0) vals).map (fun v => (v, true))
  | i + 1 => match lookupNat (inputKey block object (i + 1)) vals with
    | some v => some (v, true)
    | none => (inputNear vals block object i).map (fun p => (p.1, false))

/-- A host input at a time (R292): the value, none where it takes the block's default, and INPUT_SHORT. -/
def hostInput (s : State) (block object τ : Nat) : Option Int × Bool :=
  match s.dsp.buildSet with
  | none => (none, true)
  | some x =>
    let i := if block = 5 then 0 else if τ < x.tIn then 0 else min ((τ - x.tIn) / stepNs s) (x.nInt - 1)
    let out := block != 5 && (decide (τ < x.tIn) || decide (x.tIn + x.nInt * stepNs s ≤ τ))
    match inputNear x.vals block object i with
    | some (v, here) => (some v, out || !here)
    | none => (none, true)

/-- No usable input set: INPUT_NONE (R292). -/
def inputNone (s : State) : Bool :=
  match s.dsp.buildSet with
  | none => true
  | some x => decide (x.commit + actN s 0x0910 * 1000000000 < s.time.ont)

/-- The start of step `t`. -/
def stepAt (s : State) (t : Nat) : Nat := step0 s + t * stepNs s

/-- An input in C_BASE per kWh or kW at step `t`, 0 by default. -/
def hostRat (s : State) (block object t : Nat) : Rat := (((hostInput s block object (stepAt s t)).1.getD 0 : Int) : Rat)

/-- A limit in W, none where it is "none" (R290). -/
def hostLimit (s : State) (block t : Nat) : Option Rat :=
  match (hostInput s block 0 (stepAt s t)).1 with
  | some v => if v < 0 then none else some ((v : Rat) * 1000)
  | none => none

/-- A plant is available in a step. -/
def plantOn (s : State) (p t : Nat) : Bool :=
  match (hostInput s 6 p (stepAt s t)).1 with | some v => v != 0 | none => true

/-- D of a cluster in W (R287, R292). The spec gives demand no default: that value is open. -/
def demand (s : State) (c t : Nat) : Rat :=
  if inputNone s then
    ((members s.model.image c).foldl (fun a k => a + nth 0 s.dsp.pair.demand k) (0 : Int) : Int)
  else match (hostInput s 2 c (stepAt s t + nth 0 s.dsp.pair.delay c * 1000000)).1 with
    | some v => (v : Rat) * 1000
    | none => (Config.freeNat s.free : Rat)

/-- Every lookup of the build, for INPUT_SHORT. -/
def inputShort (s : State) : Bool :=
  let img := s.model.image
  (upTo (horizon img)).any (fun t =>
    (hostInput s 0 0 (stepAt s t)).2 || (hostInput s 3 0 (stepAt s t)).2 || (hostInput s 4 0 (stepAt s t)).2 ||
    (upTo (nPlant img)).any (fun p => (hostInput s 1 p (stepAt s t)).2 || (hostInput s 6 p (stepAt s t)).2) ||
    (!inputNone s && (upTo (nCluster img)).any (fun c =>
      (hostInput s 2 c (stepAt s t + nth 0 s.dsp.pair.delay c * 1000000)).2))) ||
  (upTo (nStore img)).any (fun k => (hostInput s 5 k 0).2)

/-- Table fields of R311. -/
def plantTab (s : State) (p off n : Nat) : Nat := tabN s 0x0920 (16 * p + off) n
def storeTab (s : State) (k : Nat) : Nat := tabN s 0x0921 (8 * k) 4
def pumpTab (s : State) (k off : Nat) : Nat := tabN s 0x0922 (16 * k + off) 4
def clusterTab (s : State) (c off n : Nat) : Nat := tabN s 0x0923 (8 * c + off) n
def netTab (s : State) (k : Nat) : Nat := tabN s 0x0925 (8 * k) 4

/-- E_PWR of a pump in W/Pa. -/
def ePwr (s : State) (k : Nat) : Rat := (pumpTab s k 4 : Rat) / 1000000

/-- ALPHA of a plant; 0 for one that is no CHP (R283). -/
def alpha (s : State) (p : Nat) : Rat := if plantN s p 0 1 = 2 then (plantN s p 2 2 : Rat) / 4096 else 0

/-- The base of power, squared. -/
def wBase2 (s : State) : Rat := (base s.model.image 3 : Rat) * (base s.model.image 3 : Rat)

/-- A box whose lower bound exceeds its upper takes hi := lo (R282). -/
def boxed (v : QpVar) : QpVar := if v.hi < v.lo then { v with hi := v.lo } else v

/-- The variables of cluster `c` in step `t` (R282, R285). -/
def clusterVars (s : State) (t c : Nat) : List QpVar :=
  let l := members s.model.image c
  let w : Rat := stepH s * (clusterTab s c 4 4 : Rat) / wBase2 s
  let need := l.foldl (fun a k => max a (recS s.model.image 0x12 16 k 8 2)) (clusterS s c 0 2)
  [{ lo := 0, hi := (l.foldl (fun a k => a + substN s k 4 4) 0 : Nat), quad := w, lin := -w * demand s c t
     const := w * demand s c t * demand s c t / 2 },
   { lo := (need : Rat), hi := (clusterS s c 2 2 : Rat) }]

/-- The variables of plant `p` in step `t`. -/
def plantVars (s : State) (t p : Nat) : List QpVar :=
  let on := plantOn s p t
  let chp := on && plantN s p 0 1 == 2
  let ramp : Rat := (plantN s p 0xC 4 : Rat) * (parN s 0x0901 : Rat)
  [{ lo := if on then (plantN s p 4 4 : Rat) else 0, hi := if on then (plantN s p 8 4 : Rat) else 0
     quad := stepH s * (plantTab s p 0 4 : Rat) / wBase2 s, lin := stepH s * hostRat s 1 p t / 1000 },
   { lo := (plantS s p 0x10 2 : Rat), hi := (plantS s p 0x12 2 : Rat) },
   { lo := if chp then (plantS s p 0x14 4 : Rat) else 0, hi := if chp then (plantS s p 0x18 4 : Rat) else 0
     lin := -(stepH s * hostRat s 0 0 t / 1000) },
   { lo := -ramp, hi := ramp, quad := stepH s * (plantTab s p 4 4 : Rat) / wBase2 s }]

/-- The variables of store `k` in step `t`. -/
def storeVars (s : State) (t k : Nat) : List QpVar :=
  [{ lo := -(storeN s k 8 4 : Rat), hi := (storeN s k 4 4 : Rat) },
   { lo := frac16 (storeN s k 0x12 2) * eCap s k, hi := frac16 (storeN s k 0x14 2) * eCap s k
     lin := if t + 1 = horizon s.model.image then -(hostRat s 5 k 0 / 1000) else 0 }]

/-- The variable of pump `k` in step `t`. -/
def pumpVar (s : State) (t k : Nat) : QpVar :=
  { lo := 0, hi := (pumpN s k 4 4 : Rat), lin := stepH s * hostRat s 0 0 t / 1000 * ePwr s k }

/-- The variables of one step, in the order of R282. -/
def stepVars (s : State) (t : Nat) : List QpVar :=
  let img := s.model.image
  (upTo (nCluster img)).flatMap (clusterVars s t) ++ (upTo (nPlant img)).flatMap (plantVars s t) ++
    (upTo (nStore img)).flatMap (storeVars s t) ++ (upTo (nPump img)).map (pumpVar s t)

/-- Indices of variables in model order: Qc and Tc of a cluster; Q, T, P, R of a plant; P, E of a store; d of a pump. -/
def ixCluster (img : Bytes) (t c j : Nat) : Nat := t * nVar img + 2 * c + j
def ixPlant (img : Bytes) (t p j : Nat) : Nat := t * nVar img + 2 * nCluster img + 4 * p + j
def ixStore (img : Bytes) (t k j : Nat) : Nat := t * nVar img + 2 * nCluster img + 4 * nPlant img + 2 * k + j
def ixPump (img : Bytes) (t k : Nat) : Nat := t * nVar img + 2 * nCluster img + 4 * nPlant img + 2 * nStore img + k

/-- An input of the pair that the build reads, 0 where there is none (R21, R287). -/
def pairInput (s : State) (kind object : Nat) : Int := (inputIn s s.dsp.pair.inputs kind object).getD 0

/-- T of a plant's inlet node in 0.01 °C. -/
def tIn (s : State) (p : Nat) : Int := nth 0 s.dsp.pair.nodeT (plantAtt s.model.image p).1

/-- Q_p,-1 in W (R287). -/
def qPrev (s : State) (p : Nat) : Rat :=
  let t := pairInput s 2 p
  waterRho t * waterC t * ((pairInput s 1 p : Rat) / 1000000) * (((t - tIn s p : Int) : Rat) / 100)

/-- P_s of a store in W under a pair (R287); the water properties are taken at the hot node's temperature. -/
def storePower (s : State) (v : PairView) (k : Nat) : Rat :=
  let (hot, cold) := storeAtt s.model.image k
  let th := nth 0 v.nodeT hot
  waterRho th * waterC th * (((inputIn s v.inputs 5 k).getD 0 : Rat) / 1000000) * (((th - nth 0 v.nodeT cold : Int) : Rat) / 100)

/-- A store's charge in Wh. -/
def charge (s : State) (k : Nat) : Rat := (nth (0, false) s.dsp.charge k).1

/-- The NEUTRAL point's mantissa of a variable, and its value with the base of its unit (R229, R298). -/
def neutral (s : State) (v : Nat) : Int := byteFieldS (secBytes s.model.image 0x31) (16 + 4 * v) 4

/-- EX of a column of the KKT matrix (R230). -/
def exOf (img : Bytes) (col : Nat) : Int :=
  let b := secBytes img 0x30
  byteFieldS b (8 + 4 * (byteField b 0 4 + col) + 2) 1

/-- A pump's last applied set-point in Pa, or the neutral point (R287). -/
def dPrev (s : State) (k : Nat) : Rat :=
  match lookupNat k s.dsp.lastD with
  | some v => (v : Rat)
  | none =>
    let v := ixPump s.model.image 0 k
    (neutral s v : Rat) * twoPow (exOf s.model.image v - 31) * (base s.model.image 0 : Rat)

/-- The last broadcast Tc of a cluster, or the neutral point. -/
def tcPrev (s : State) (c : Nat) : Rat :=
  match lookupNat c s.dsp.lastTc with
  | some v => (v : Rat)
  | none =>
    let v := ixCluster s.model.image 0 c 1
    (neutral s v : Rat) * twoPow (exOf s.model.image v - 31) * (base s.model.image 2 : Rat) / 10

/-- A row on x_t - x_t-1 with bounds ±r; in step 0 the earlier value moves to the bounds (R283). -/
def rateRow (t : Nat) (cur prev : Nat) (before r : Rat) : QpRow :=
  if t = 0 then { a := [(cur, 1)], l := some (before - r), u := some (before + r) }
  else { a := [(cur, 1), (prev, -1)], l := some (-r), u := some r }

/-- DP_req of a cluster in Pa (R287). -/
def dpReq (s : State) (c : Nat) : Rat :=
  let l := (members s.model.image c).map (fun k => 10 * (substN s k 0xA 2 : Int) - nth 0 s.dsp.pair.dp k)
  dPrev s (clusterTab s c 1 1) + ((l.foldl max (l.headD 0) : Int) : Rat)

/-- The rows of cluster `c` in step `t` (R283). -/
def clusterRows (s : State) (t c : Nat) : List QpRow :=
  let img := s.model.image
  let lp := clusterTab s c 0 1
  let drop := max 0 (pairInput s 2 lp - nth 0 s.dsp.pair.tArr c)
  let r : Rat := (clusterTab s c 2 2 : Rat) * (parN s 0x0901 : Rat) / 60
  [{ a := [(ixCluster img t c 1, 1), (ixPlant img t lp 1, -1)], u := some (-(drop : Rat)) },
   { a := [(ixPump img t (clusterTab s c 1 1), 1)], l := some (dpReq s c) },
   rateRow t (ixCluster img t c 1) (ixCluster img (t - 1) c 1) (tcPrev s c) r]

/-- The rows of plant `p` in step `t`. -/
def plantRows (s : State) (t p : Nat) : List QpRow :=
  let img := s.model.image
  let k : Rat := (plantTab s p 0xC 4 : Rat) / 100
  [if t = 0 then { a := [(ixPlant img t p 3, 1), (ixPlant img t p 0, -1)], l := some (-(qPrev s p)), u := some (-(qPrev s p)) }
   else { a := [(ixPlant img t p 3, 1), (ixPlant img t p 0, -1), (ixPlant img (t - 1) p 0, 1)], l := some 0, u := some 0 },
   { a := [(ixPlant img t p 2, 1), (ixPlant img t p 0, -(alpha s p))], l := some 0, u := some 0 },
   rateRow t (ixPlant img t p 1) (ixPlant img (t - 1) p 1) (pairInput s 2 p : Rat)
     ((plantTab s p 8 2 : Rat) * (parN s 0x0901 : Rat) / 60),
   { a := [(ixPlant img t p 0, 1), (ixPlant img t p 1, -k)], u := some (-(k * (tIn s p : Rat))) }]

/-- The rows of store `k` in step `t`. -/
def storeRows (s : State) (t k : Nat) : List QpRow :=
  let img := s.model.image
  let keep := 1 - frac16 (storeN s k 0xC 2) * stepH s
  let row := fun (g : Rat) =>
    if t = 0 then { a := [(ixStore img t k 1, 1), (ixStore img t k 0, -g)], u := some (keep * charge s k) : QpRow }
    else { a := [(ixStore img t k 1, 1), (ixStore img (t - 1) k 1, -keep), (ixStore img t k 0, -g)], u := some 0 }
  [row (frac16 (storeN s k 0xE 2) * stepH s), row (stepH s / frac16 (storeN s k 0x10 2)),
   rateRow t (ixStore img t k 0) (ixStore img (t - 1) k 0) (storePower s s.dsp.pair k) ((storeTab s k : Rat) * (parN s 0x0901 : Rat) / 60)]

/-- The rows of pump `k` in step `t`; BETA is 0 for a network booster (R283). -/
def pumpRows (s : State) (t k : Nat) : List QpRow :=
  let img := s.model.image
  let pl := (pumpAtt img k).2
  let h0 : Rat := (pumpN s k 4 4 : Rat)
  [rateRow t (ixPump img t k) (ixPump img (t - 1) k) (dPrev s k) ((pumpTab s k 0 : Rat) * (parN s 0x0901 : Rat) / 60),
   { a := (ixPump img t k, 1) :: (if pl = 0xFF then [] else [(ixPlant img t pl 0, (pumpTab s k 8 : Rat) / 1000)]), u := some h0 }]

/-- The network of a store: that of its hot node. -/
def storeNet (img : Bytes) (k : Nat) : Nat := nodeNet img (storeAtt img k).1

/-- The row of network `n` in step `t`. -/
def netRow (s : State) (t n : Nat) : QpRow :=
  let img := s.model.image
  let ps := (upTo (nPlant img)).filter (fun p => recN img 0x13 32 p 1 1 == n)
  let lam : Rat := (netTab s n : Rat) / 100
  let b := -(lam * (tabS s 0x0925 (8 * n + 4) 2 : Rat))
  { a := ps.map (fun p => (ixPlant img t p 0, 1)) ++
      ((upTo (nStore img)).filter (fun k => storeNet img k == n)).map (fun k => (ixStore img t k 0, -1)) ++
      ((upTo (nCluster img)).filter (fun c => clusterNet img c == n)).map (fun c => (ixCluster img t c 0, -1)) ++
      ps.map (fun p => (ixPlant img t p 1, -(lam / (ps.length : Rat))))
    l := some b, u := some b }

/-- L_base in W (R287). -/
def lBase (s : State) : Rat := s.dsp.feederMean + s.dsp.appliedW

/-- The site row of step `t`. -/
def siteRow (s : State) (t : Nat) : QpRow :=
  let img := s.model.image
  { a := (upTo (nPlant img)).map (fun p => (ixPlant img t p 2, 1)) ++ (upTo (nPump img)).map (fun k => (ixPump img t k, -(ePwr s k)))
    l := (hostLimit s 4 t).map (fun v => lBase s - v), u := (hostLimit s 3 t).map (fun v => lBase s + v) }

/-- The rows of one step, in the order of R283. -/
def stepRows (s : State) (t : Nat) : List QpRow :=
  let img := s.model.image
  (upTo (nCluster img)).flatMap (clusterRows s t) ++ (upTo (nPlant img)).flatMap (plantRows s t) ++
    (upTo (nStore img)).flatMap (storeRows s t) ++ (upTo (nPump img)).flatMap (pumpRows s t) ++
    (upTo (nNet img)).map (netRow s t) ++ [siteRow s t]

/-- ρ = 2^(k/4) (R286). -/
def rhoOf (k : Int) : Rat := twoPow (Int.fdiv k 4) * (if Int.fmod k 4 = 0 then 1 else Config.quarterPow (Int.fmod k 4).toNat)

/-- σ = 2^-DSP_SIGMA_EXP (R286). -/
def sigmaNow (s : State) : Rat := twoPow (-(act s 0x0909))

/-- The problem of the current period before its starting vector (R282, R283, R285, R286). -/
def buildProblem (s : State) : Problem :=
  let ts := upTo (horizon s.model.image)
  { vars := (ts.flatMap (stepVars s)).map boxed, rows := ts.flatMap (stepRows s), sigma := sigmaNow s, rho := rhoOf s.dsp.rhoK }

/-- Some box of the build had its lower bound above its upper: BOX_CLASH. -/
def boxClash (s : State) : Bool := (upTo (horizon s.model.image)).any (fun t => (stepVars s t).any (fun v => decide (v.hi < v.lo)))

/-- round(4·log2 g) for g² = r (R295): the greatest n with 4^n ≤ 2·r⁴. -/
def penaltyStep (r : Rat) : Int := Int.fdiv (ratLog2 (2 * r * r * r * r)) 2

/-- The square root of a fraction in 2^-16, to nearest. -/
def sqrt16 (r : Rat) : Nat := (Nat.sqrt (r * 17179869184).floor.toNat + 1) / 2

/-- The penalty index changes (R295). -/
def setPenalty (k : Int) (r : Rat) (s : State) : State :=
  let old := s.dsp.rhoK
  let s := setFactor 1 0 (nth 0 s.ox.factorPiv 1) (onDsp (fun d => { d with rhoK := k, rebuild := true }) s)
  raise 0x0915 44 (u32 old) (u32 k) (min (sqrt16 r) (2 ^ 32 - 1)) s

/-- A change of DSP_SIGMA_EXP takes effect at the next build: the matrix is rebuilt, and no factor of the old one serves
(R295). -/
def adaptSigma (s : State) : State :=
  if s.dsp.problem.sigma = sigmaNow s then s
  else setFactor 1 0 (nth 0 s.ox.factorPiv 1) (onDsp (fun d => { d with rebuild := true }) s)

/-- Penalty adaptation at a build (R295). Where rd or rp is 0, log2 g has no value: the step is open. -/
def adaptPenalty (s : State) : State :=
  match s.dsp.lastRes with
  | none => s
  | some (sig, rp, rd) =>
    let a : Rat := (act s 0x090D : Rat) / 256
    if sig ≠ s.host.modelSig ∨ a = 0 then s
    else
      let r := rp / rd
      let open_ := rp ≤ 0 ∨ rd ≤ 0
      let inside := ¬ open_ ∧ 1 ≤ r * a * a ∧ r ≤ a * a
      if inside ∨ (rp ≤ 0 ∧ rd ≤ 0) then s
      else
        let d : Int := if open_ then (Config.freeNat s.free : Int) % 161 - 80 else penaltyStep r
        let s := if open_ then s.drawn else s
        setPenalty (clamp (act s 0x090B) (act s 0x090C) (s.dsp.rhoK + d)) (if open_ then 0 else r) s

/-- RANGE_ID of an image (R299). -/
def rangeId (img : Bytes) : Nat := leNat ((Config.sha384 (secBytes img 0x30)).take 4)

/-- The steps between a result and the current period (R280). -/
def shiftOf (s : State) (from0 : Nat) : Nat := (step0 s - from0) / stepNs s

/-- A step-major vector shifted by `n` steps, the last step repeated (R296, R301). -/
def shiftVec (h w n : Nat) (v : List Int) : List Int :=
  (upTo h).flatMap (fun j => (upTo w).map (fun i => nth 0 v (min (j + n) (h - 1) * w + i)))

/-- A warm-start vector shifted: x, zb, yb, then za, ya (R296). -/
def shiftWarm (img : Bytes) (n : Nat) (v : List Int) : List Int :=
  let h := horizon img
  let nv := h * nVar img
  let nc := h * nCon img
  (upTo 3).flatMap (fun k => shiftVec h (nVar img) n ((v.drop (k * nv)).take nv)) ++
    (upTo 2).flatMap (fun k => shiftVec h (nCon img) n ((v.drop (3 * nv + k * nc)).take nc))

/-- The candidate a build takes, and whether it is the peer's (R296). -/
def warmChoice (d : DspSt) : Option (Warm × Bool) :=
  match d.own, d.peer with
  | some a, some b => if a.step0 < b.step0 then some (b, true) else some (a, false)
  | some a, none => some (a, false)
  | none, some b => some (b, true)
  | none, none => none

/-- The start of the job: the shifted vector and whether it is the peer's, or the reason for a cold start (R297). -/
def warmStart (s : State) : Except Nat (List Int × Bool) :=
  match warmChoice s.dsp with
  | none => .error 0x0911
  | some (w, peer) =>
    if w.sig ≠ s.host.modelSig then .error 0x0910
    else if horizon s.model.image ≤ shiftOf s w.step0 then .error 0x0912
    else if peer && w.rangeId != rangeId s.model.image then .error 0x0917
    else .ok (shiftWarm s.model.image (shiftOf s w.step0) w.vec, peer)

/-- The starting vector is taken, or the job starts cold (R297). -/
def chooseStart (s : State) : State :=
  match warmStart s with
  | .ok (v, peer) => onDsp (fun d => { d with cold := false, warmPeer := peer, problem := { d.problem with start := some v } }) s
  | .error r => raise 0x0914 43 r s.dsp.cause s.dsp.shiftRun
      (onDsp (fun d => { d with cold := true, warmPeer := false, problem := { d.problem with start := none } }) s)

/-- FLAGS of a build (R302): STATE_STALE, INPUT_SHORT, INPUT_NONE, BOX_CLASH, STORE_GUESS. -/
def buildFlags (s : State) : Nat :=
  32 * b2n (bit s.dsp.pair.flags 0) + 64 * b2n (inputShort s) + 128 * b2n (inputNone s) + 256 * b2n (boxClash s) +
    512 * b2n (s.dsp.charge.any (·.2))

/-- The input event of a build (R312). -/
def inputEvent (s : State) : State :=
  let bad := bit s.dsp.flags 6 || bit s.dsp.flags 7
  let s' := onDsp (fun d => { d with inputBad := bad }) s
  if bad && !s.dsp.inputBad then raise 0x0916 45 s.dsp.flags 0 0 s' else s'

/-- Malor finishes the build and arms queue 1 (R281, R293). -/
def dispatchArm (s : State) : State :=
  if !(malorWorks s && enabled s 9 0 && s.dsp.building && modelHere s) then s
  else
    let s := adaptPenalty (adaptSigma s)
    let s := onDsp (fun d => { d with flags := buildFlags s, problem := buildProblem s, rebuild := false }) s
    let s := chooseStart (inputEvent s.drawn)
    let refact := nth 0 s.ox.factor 1 != 1
    let s := onDsp (fun d => { d with building := false, refact := refact }) s
    match oxArm 1 { prog := 0x0A, iterLimit := actN s 0x0904, bench := false, deadline := s.dsp.tdl, refact := refact } s with
    | none => s
    | some s =>
      onDsp (fun d => { d with armed := true, phase := 2, result := {}, jobCause := if (oxq s 1).state = 0 then some 3 else none }) s

/-- DISPATCH_ARM (R281). -/
def execDispatchArm (s : State) : Out := .next (dispatchArm s)

/-- The feeders' mean power over the period that ends now (R287); that before the first boundary is open. -/
def feederTurn (td : Nat) (s : State) : State :=
  let e := feederEnergy s
  let mean : Rat := match s.dsp.feederAt with
    | some (e0, t0) =>
      if t0 < td then ((e - e0 : Int) : Rat) * 3600000000 / ((td - t0 : Nat) : Rat) else (Config.freeNat s.free : Rat)
    | none => (Config.freeNat s.free : Rat)
  onDsp (fun d => { d with feederAt := some (e, td), feederMean := mean }) s.drawn

/-- A dispatch period begins: tdl and ta are latched (R278). -/
def dispatchBegin (td : Nat) (s : State) : State :=
  let s := feederTurn td s
  onDsp (fun d => { d with
    phase := 1, td := td, tdl := td + actN s 0x0902 * 1000000, ta := td + actN s 0x0903 * 1000000, tdlDue := true
    taDue := true, building := false, armed := false, jobCause := none, noState := false, flags := 0, cold := false
    warmPeer := false, refact := false, cur := none, tdlHit := false, taHit := false }) s

/-- Dispatch's boundary, if it is due (R278). -/
def dspBoundary (s : State) : State :=
  if solving s && enabled s 9 0 then
    match takePulse 15 s with
    | (some td, s) => dispatchBegin td s
    | (none, s) => s
  else s

/-- A pair was published: the build of its boundary starts, or finds NO_STATE (R281, R289). -/
def pairSeen (s : State) : State :=
  if s.dsp.phase = 1 ∧ s.est.pair.t0 = s.dsp.td ∧ s.dsp.tdlDue = true ∧ enabled s 9 0 = true then
    let s := onDsp (fun d => { d with pair := s.est.pair }) s
    if bit s.dsp.pair.flags 7 then onDsp (fun d => { d with noState := true }) s
    else onDsp (fun d => { d with building := true, buildSet := d.active }) s
  else s

/-- The store charges after a pair's publication (R288). -/
def storeCharge (s : State) : State :=
  let dt : Rat := (s.est.pairDt : Rat) / 3600000
  onDsp (fun d => { d with charge := (d.charge.zip (upTo d.charge.length)).map (fun x =>
    let k := x.2
    let p := storePower s s.est.pair k
    let e := x.1.1 + ((if 0 ≤ p then frac16 (storeN s k 0xE 2) * p else p / frac16 (storeN s k 0x10 2)) -
      frac16 (storeN s k 0xC 2) * x.1.1) * dt
    (ratClamp (some 0) (some (eCap s k)) e, x.1.2)) }) s

/-- The charges at an enable or a model switch: the middle of the band, as a guess (R288). -/
def chargeGuess (s : State) : State :=
  onDsp (fun d => { d with charge := (upTo (nStore s.model.image)).map (fun k =>
    ((frac16 (storeN s k 0x12 2) + frac16 (storeN s k 0x14 2)) / 2 * eCap s k, true)) }) s

/-- The stopping scale of a residual whose norms' greatest is `n` (R294). -/
def stopScale (s : State) (n : Rat) : Rat := twoPow (-(act s 0x0906)) + twoPow (-(act s 0x0907)) * n

/-- The job has converged (R294). -/
def converged (s : State) (r : JobResult) : Bool :=
  decide (r.rp ≤ stopScale s r.normP) && decide (r.rd ≤ stopScale s r.normD)

/-- Tc at step 0 of a schedule, per cluster, in the two bytes of the departure log (R305). -/
def tcOf (img : Bytes) (sched : List Int) : List Int := (upTo (nCluster img)).map (fun c => satS 16 (nth 0 sched (ixCluster img 0 c 1)))

/-- DELAY mean of a cluster as a publication takes it: that of the pair of its period, else of the latest pair (DEDUCED,
log 14). -/
def delayNow (s : State) (c : Nat) : Nat := nth 0 (if s.dsp.pair.t0 = s.dsp.td then s.dsp.pair.delay else s.est.pair.delay) c

/-- BCAST of a cluster and whether it was filled (R305). -/
def bcastOf (s : State) (sched : List Int) (c : Nat) : Int × Bool :=
  match s.dsp.log.find? (fun x => decide (x.1 + delayNow s c * 1000000 ≤ s.dsp.ta)) with
  | some x => (nth 0 x.2 c, false)
  | none => (nth 0 sched (ixCluster s.model.image 0 c 1), true)

/-- The bytes of a dispatch publication (R302). -/
def dispatchBytes (s : State) (p : Pub) (flags cause shift : Nat) (r : JobResult) : Bytes :=
  let img := s.model.image
  let b := leBytes 4 p.number
  let offB := 0x80 + 4 * p.sched.length
  let h := b ++ leBytes 4 (offB + 4 * p.bcast.length + 4) ++ leBytes 8 p.sig ++ leBytes 8 p.td ++ leBytes 8 s.dsp.ta ++
    leBytes 8 p.step0 ++ leBytes 8 s.time.ont ++ leBytes 4 flags ++ leBytes 1 cause ++ leBytes 1 (horizon img) ++
    leBytes 1 (min shift 255) ++ leBytes 1 (min s.dsp.shiftRun 255) ++
    leBytes 4 (if s.dsp.armed then (oxq s 1).iter else 0) ++ leBytes 4 (if s.dsp.armed then (oxq s 1).job else 0) ++
    leIntBytes 8 r.objective ++ normBytes (toNorm r.rp) ++ normBytes (toNorm r.rd) ++ leIntBytes 1 s.dsp.rhoK ++ zeros 7 ++
    leBytes 8 p.tdSol ++ leBytes 2 (nCluster img) ++ leBytes 2 (nPlant img) ++ leBytes 2 (nStore img) ++
    leBytes 2 (nPump img) ++ leBytes 4 0x80 ++ leBytes 4 offB ++ zeros 8
  h ++ p.sched.flatMap (leIntBytes 4) ++ p.bcast.flatMap (leIntBytes 4) ++ b

/-- The result unit publishes a schedule: departure log, BCAST, buffer and index (R302, R305). -/
def publish (sched : List Int) (tdSol : Nat) (shifted empty : Bool) (cause shift : Nat) (r : JobResult) (s : State) : State :=
  let img := s.model.image
  let k := (s.host.resDsp + 1) % 2 ^ 32
  let s := onDsp (fun d => { d with log := ((d.ta, tcOf img sched) :: d.log).take 1024 }) s
  let bc := (upTo (nCluster img)).map (bcastOf s sched)
  let p : Pub := { number := k, sig := s.host.modelSig, td := s.dsp.td, step0 := step0 s, tdSol := tdSol, empty := empty
                   shifted := shifted, sched := sched, bcast := bc.map (·.1) }
  let flags := b2n shifted + 2 * b2n empty + 4 * b2n (s.dsp.armed && s.dsp.cold) + 8 * b2n (s.dsp.armed && s.dsp.warmPeer) +
    16 * b2n (s.dsp.armed && s.dsp.refact) + s.dsp.flags + 1024 * b2n (bc.any (·.2))
  let s := onDsp (fun d => { d with
    phase := 3, tdlDue := false, cause := cause, cur := some p, pubBad := shifted || empty
    last := if empty then d.last else some p
    buf := d.buf.set (k % 3) (dispatchBytes s p flags cause shift r) }) s
  onHost (fun h => { h with resDsp := k }) s

/-- The event of a publication with its number, cause and the consecutive count (R312). -/
def dspEvent (code src : Nat) (s : State) : State := raise code src s.host.resDsp s.dsp.cause s.dsp.shiftRun s

/-- A converged job is published, becomes the own warm-start candidate and ends a run of SHIFTED results (R295, R296,
R301, R302). -/
def publishConverged (r : JobResult) (s : State) : State :=
  let img := s.model.image
  let alarmed := s.dsp.alarmed
  let s := onDsp (fun d => { d with shiftRun := 0, convCnt := satInc 32 d.convCnt, stopped := false, alarmed := false }) s
  let s := publish (r.x.map (satS 32)) s.dsp.td false false 0 0 r s
  let s := onDsp (fun d => { d with
    own := some { sig := s.host.modelSig, step0 := step0 s, rangeId := rangeId img, rhoK := d.rhoK, vec := r.warm }
    lastRes := some (s.host.modelSig, r.rp / stopScale s r.normP, r.rd / stopScale s r.normD) }) s
  let s := dspEvent 0x0910 40 s
  if alarmed then dspEvent 0x0917 46 s else s

/-- A period without a converged result publishes the previous one shifted, or EMPTY (R300, R301). -/
def publishShifted (cause : Nat) (s : State) : State :=
  let img := s.model.image
  let h := horizon img
  let s := onDsp (fun d => { d with shiftRun := d.shiftRun + 1, shiftCnt := min 65535 (d.shiftCnt + 1) }) s
  let base := match s.dsp.last with
    | some p => if p.sig = s.host.modelSig then some p else none
    | none => none
  let (s, sh) := match base with
    | some p =>
      let n := shiftOf s p.step0
      (publish (shiftVec h (nVar img) n p.sched) p.tdSol true false cause n {} s, n)
    | none => (publish (List.replicate (h * nVar img) 0) 0 true true cause 0 {} s, 0)
  let s := raise 0x0911 41 s.host.resDsp s.dsp.cause sh s
  let s := if actN s 0x090E != 0 && decide (actN s 0x090E ≤ s.dsp.shiftRun) && !s.dsp.alarmed then
      dspEvent 0x0912 42 (onDsp (fun d => { d with alarmed := true }) s)
    else s
  if actN s 0x090F != 0 && decide (actN s 0x090F ≤ s.dsp.shiftRun) && !s.dsp.stopped then
    dspEvent 0x0913 42 (onDsp (fun d => { d with stopped := true }) s)
  else s

/-- A dispatch job has ended with an outcome (R226, R294, R300). -/
def dispatchJobEnd (outcome : Nat) (s : State) : State :=
  if !(enabled s 9 0 && s.dsp.armed && s.dsp.tdlDue) then s
  else match outcome with
    | 0 => if converged s s.dsp.result then publishConverged s.dsp.result s else onDsp (fun d => { d with jobCause := some 1, cause := 1 }) s
    | 1 => onDsp (fun d => { d with jobCause := some 2, cause := 2 }) s
    | 2 => onDsp (fun d => { d with jobCause := some 3, cause := 3 }) s
    | _ => s

/-- At tdl a period without a converged result ends with its cause; a job still running is stopped (R300). -/
def dispatchDeadline (s : State) : State :=
  if !(plantRuns s && enabled s 9 0 && s.dsp.tdlDue && (s.dsp.tdlHit || deadlineReached s s.dsp.tdl)) then s
  else
    let s := if s.dsp.armed then oxTimeout 1 s else s
    publishShifted (if s.dsp.noState then 5 else if !s.dsp.armed then 4 else s.dsp.jobCause.getD 3) s

/-- DISPATCH_DEADLINE (R300). -/
def execDispatchDeadline (s : State) : Out := .next (dispatchDeadline s)

/-- The block, object and intervals of a DISPATCH_INPUT_WRITE exist (R290). -/
def inputTarget (img : Bytes) (block object first n : Nat) : Bool :=
  decide (first + n ≤ 384) &&
  match block with
  | 0 | 3 | 4 => object == 0
  | 1 | 6 => decide (object < nPlant img)
  | 2 => decide (object < nCluster img)
  | 5 => decide (object < nStore img) && first == 0 && n == 1
  | _ => false

/-- The effect of DISPATCH_INPUT_WRITE (R290). LEN 12 + 4·COUNT puts the values at offset 12. -/
def inputWrite (p : Bytes) (s : State) : Answer :=
  let n := byteField p 6 2
  let block := byteField p 0 1
  let obj := byteField p 2 2
  let first := byteField p 4 2
  if p.length < 12 ∨ byteField p 1 1 ≠ 0 ∨ byteField p 8 4 ≠ 0 then refuse s 0x090A
  else if n = 0 ∨ 240 < n then refuse s 0x0905
  else if p.length ≠ 12 + 4 * n then refuse s 0x090A
  else if !inputTarget s.model.image block obj first n then refuse s 0x0916
  else done (onDsp (fun d => { d with staging := (upTo n).foldl (fun l i =>
    insertNat (inputKey block obj (first + i)) (byteFieldS p (12 + 4 * i) 4) l) d.staging }) s) []

/-- DISPATCH_INPUT_WRITE (0x0910). -/
def execDispatchInputWrite (m : Mail) (s : State) : Out := mailOut 0x0910 m (inputWrite m.payload) s

/-- The effect of DISPATCH_INPUT_COMMIT (R291). -/
def inputCommit (p : Bytes) (s : State) : Answer :=
  let t := byteField p 0 8
  let n := byteField p 8 2
  if p.length ≠ 16 ∨ ¬ allZero (p.drop 10) then refuse s 0x090A
  else if n = 0 ∨ 384 < n ∨ t % stepNs s ≠ 0 then refuse s 0x0905
  else done (onDsp (fun d => { d with
    active := some { tIn := t, nInt := n, commit := s.time.ont, vals := d.staging }, staging := [] }) s) []

/-- DISPATCH_INPUT_COMMIT (0x0911). -/
def execDispatchInputCommit (m : Mail) (s : State) : Out := mailOut 0x0911 m (inputCommit m.payload) s

/-- The effect of DISPATCH_STORE_SET (R288). -/
def storeSet (p : Bytes) (s : State) : Answer :=
  let k := byteField p 0 1
  let e := byteField p 4 4
  if p.length ≠ 8 ∨ byteField p 1 3 ≠ 0 then refuse s 0x090A
  else if nStore s.model.image ≤ k ∨ storeN s k 0 4 < e then refuse s 0x0905
  else done (onDsp (fun d => { d with charge := modNth d.charge k (fun _ => ((e : Rat), false)) }) s) []

/-- DISPATCH_STORE_SET (0x0912). -/
def execDispatchStoreSet (m : Mail) (s : State) : Out := mailOut 0x0912 m (storeSet m.payload) s

/-- DSP_STATUS (R309). -/
def dspStatus (d : DspSt) : Nat :=
  d.phase + 4 * b2n d.warmPeer + 8 * b2n d.cold + 16 * b2n d.refact + 256 * toBits 8 d.rhoK + 65536 * d.cause

/-- DSP_SHIFT_CNT (R308). -/
def dspShiftCnt (d : DspSt) : Nat := min d.shiftRun 255 + 65536 * d.shiftCnt

/-- DSP_HANDOFF_STATUS (R309). -/
def dspHandoffStatus (d : DspSt) : Nat := b2n d.stopped + 2 * b2n d.lastShifted + 4 * b2n d.skipped + 256 * d.entries

/-- A register of the dispatch block, by its offset in the Ox region (R308). -/
def dspReg (s : State) (off : Nat) : Nat :=
  let d := s.dsp
  match off with
  | 0x300 => dspStatus d
  | 0x308 => d.td % 2 ^ 32
  | 0x30C => d.td / 2 ^ 32 % 2 ^ 32
  | 0x310 => d.ta % 2 ^ 32
  | 0x314 => d.ta / 2 ^ 32 % 2 ^ 32
  | 0x318 => d.logBase % 2 ^ 32
  | 0x31C => d.logBase / 2 ^ 32 % 16
  | 0x320 => dspShiftCnt d
  | 0x324 => d.convCnt
  | 0x328 => dspHandoffStatus d
  | 0x32C => d.handoffs
  | _ => 0

/-- T_STEP0 and signature of a candidate. -/
def warmWords (w : Option Warm) : List Int :=
  match w with | some x => [x.step0, x.sig] | none => [0, 0]

/-- The values DISPATCH_STATUS_GET returns, in the order the rule lists them (R312). -/
def dispatchStatusValues (s : State) : List Int :=
  let d := s.dsp
  let a := d.active.getD {}
  [(dspStatus d : Int), dspShiftCnt d, a.tIn, a.nInt, a.commit, d.staging.length] ++
    d.charge.flatMap (fun c => [ratRound c.1, b2n c.2]) ++ warmWords d.own ++ warmWords d.peer

/-- The effect of DISPATCH_STATUS_GET (R312). -/
def dispatchStatusGet (p : Bytes) (s : State) : Answer :=
  if p ≠ [] then refuse s 0x090A else done s (Config.layout 0x0913 (dispatchStatusValues s))

/-- DISPATCH_STATUS_GET (0x0913). -/
def execDispatchStatusGet (m : Mail) (s : State) : Out := mailOut 0x0913 m (dispatchStatusGet m.payload) s

/-- An entry of DSP_HANDOFF_MAP (R303). -/
structure HandMap where
  qty : Nat
  dest : Nat
  object : Nat
  index : Nat
  sub : Nat
  gain : Int
  offset : Int
  deriving DecidableEq, Repr

/-- Entry `i` of DSP_HANDOFF_MAP. -/
def handMap (s : State) (i : Nat) : HandMap :=
  { qty := tabN s 0x0924 (16 * i) 1, dest := tabN s 0x0924 (16 * i + 1) 1, object := tabN s 0x0924 (16 * i + 2) 2
    index := tabN s 0x0924 (16 * i + 4) 2, sub := tabN s 0x0924 (16 * i + 6) 1, gain := tabS s 0x0924 (16 * i + 8) 4
    offset := tabS s 0x0924 (16 * i + 12) 4 }

/-- The used entries of the hand-off map. -/
def usedHand (s : State) : List Nat := (upTo 128).filter (fun i => (handMap s i).qty != 0)

/-- How many objects a QTY has. -/
def qtyCount (img : Bytes) (qty : Nat) : Nat :=
  match qty with
  | 1 | 2 | 3 => nPlant img
  | 4 => nStore img
  | 5 => nPump img
  | _ => nCluster img

/-- A hand-off entry is valid under R303. -/
def handOk (img : Bytes) (s : State) (e : HandMap) : Bool :=
  e.qty ≤ 6 && 1 ≤ e.dest && e.dest ≤ 4 && ((e.qty == 6) == (e.dest == 4)) && e.object < qtyCount img e.qty &&
    (if e.dest = 4 then decide (e.index < nCluster img) && e.sub == 0 else destValid s e.dest e.index e.sub)

/-- The tables of R311 against a model, in the order of their IDs (R306 item 8). -/
def dspTableItems (img : Bytes) (s : State) : List (Bool × Nat × Nat) :=
  [((upTo (nPlant img)).all (fun p => 1 ≤ plantTab s p 8 2), 0x0914, 0x0920),
   ((upTo (nStore img)).all (fun k => 1 ≤ storeTab s k), 0x0914, 0x0921),
   ((upTo (nPump img)).all (fun k => 1 ≤ pumpTab s k 0), 0x0914, 0x0922),
   ((upTo (nCluster img)).all (fun c =>
      let lp := clusterTab s c 0 1
      let lk := clusterTab s c 1 1
      lp < nPlant img && lk < nPump img && recN img 0x13 32 lp 1 1 == clusterNet img c &&
        nodeNet img (pipeEnds img (pumpAtt img lk).1).1 == clusterNet img c && 1 ≤ clusterTab s c 2 2), 0x0914, 0x0923)]

/-- The consistency check of DISPATCH unit 0 against a model (R250, R306). -/
def dispatchCheck (img : Bytes) (s : State) : CheckFail :=
  firstFail (oxCheckItems img s 1 ++
    [(enabled s 7 0, 0x090D, 0), (parN s 0x0900 * 1000 % parN s 0x0720 == 0, 0x0913, 0x0900),
     (parN s 0x0901 % parN s 0x0900 == 0, 0x0913, 0x0901), (decide (par s 0x0721 + 2000 ≤ par s 0x0902), 0x0913, 0x0902),
     (decide (par s 0x0902 ≤ par s 0x0903) && decide (par s 0x0903 ≤ par s 0x0900 * 1000), 0x0913, 0x0903),
     (decide (par s 0x090B ≤ par s 0x090A) && decide (par s 0x090A ≤ par s 0x090C), 0x0905, 0x090A)] ++
    dspTableItems img s ++
    [((usedHand s).all (fun i => handOk img s (handMap s i)), 0x0915, 0x0924),
     ((usedHand s).all (fun i => let e := handMap s i; destEnabled s e.dest e.index), 0x090D, 0x0924)])

/-- The start of DISPATCH unit 0 (R288, R295, R306, R308, R330). -/
def dispatchStart (s : State) : State :=
  let per := parN s 0x0900 * 1000000000
  let s := setFactor 1 0 (nth 0 s.ox.factorPiv 1) s
  let s := onDsp (fun d => { d with
    phase := 0, rhoK := par s 0x090A, shiftCnt := 0, convCnt := 0, handoffs := 0, active := none, rebuild := true
    tdlDue := false, taDue := false, feederAt := none, stopped := false, inputBad := false }) s
  armTrigger 15 true false false (nextBoundary s per) per 8 0 (chargeGuess s)

/-- The dispatch stop begins: solver abort of queue 1, tdl, ta and the hand-off cancelled (R307). -/
def dispatchStop (s : State) : State :=
  disarm 15 (oxAbortStart 1 (onDsp (fun d => { d with phase := 0, tdlDue := false, taDue := false, building := false }) s))

/-- The dispatch stop ends (R307). -/
def dispatchStopEnd (s : State) : State := oxAbortEnd 1 s

end Sys2Proof.Machine
end

