-- ==== Sys2Proof/Machine/Admm.lean ====
section
/-! DEFINITION. ADMM_JOB and the bench solve: the KKT matrix, the iteration, the residuals and what the job finds (R248, R286,
R293 to R298). Where the rules give values and no order of rounding, each assignment of R293 is rounded once into its container
(DESIGN CHOICE, log 41). -/

namespace Sys2Proof.Machine

/-- N_VAR and N_CON (R187, R284). -/
def numVar (img : Bytes) : Nat := horizon img * nVar img
def numCon (img : Bytes) : Nat := horizon img * nCon img

/-- The bases of the variables of one step in the units of R282: Pa, W, Wh and 0.01 °C (R189). -/
def varBases (img : Bytes) : List Rat :=
  let w : Rat := (base img 3 : Rat)
  let t : Rat := (base img 2 : Rat) / 10
  (upTo (nCluster img)).flatMap (fun _ => [w, t]) ++ (upTo (nPlant img)).flatMap (fun _ => [w, t, w, w]) ++
    (upTo (nStore img)).flatMap (fun _ => [w, (base img 4 : Rat)]) ++ (upTo (nPump img)).map (fun _ => (base img 0 : Rat))

/-- The bases of the rows of one step: each row is scaled in the unit it is stated in (DEDUCED, log 41). -/
def rowBases (img : Bytes) : List Rat :=
  let w : Rat := (base img 3 : Rat)
  let t : Rat := (base img 2 : Rat) / 10
  let p : Rat := (base img 0 : Rat)
  let e : Rat := (base img 4 : Rat)
  (upTo (nCluster img)).flatMap (fun _ => [t, p, t]) ++ (upTo (nPlant img)).flatMap (fun _ => [w, w, t, w]) ++
    (upTo (nStore img)).flatMap (fun _ => [e, e, w]) ++ (upTo (nPump img)).flatMap (fun _ => [p, p]) ++
    (upTo (nNet img)).map (fun _ => w) ++ [w]

/-- The base of a variable and of a row over the horizon. -/
def varBase (img : Bytes) (v : Nat) : Rat := nth 1 (varBases img) (v % nVar img)
def rowBase (img : Bytes) (r : Nat) : Rat := nth 1 (rowBases img) (r % nCon img)

/-- A problem in scaled units (R189, R286): diagonal of P, q, boxes; rows with their bounds; σ and ρ. -/
structure Scaled where
  p : List Rat
  q : List Rat
  lo : List Rat
  hi : List Rat
  rows : List (List (Nat × Rat) × Option Rat × Option Rat)
  sigma : Rat
  rho : Rat

/-- A problem brought into scaled units. -/
def scaleProblem (img : Bytes) (x : Problem) : Scaled :=
  let vs := x.vars.zip (upTo x.vars.length)
  { p := vs.map (fun v => v.1.quad * varBase img v.2 * varBase img v.2), q := vs.map (fun v => v.1.lin * varBase img v.2)
    lo := vs.map (fun v => v.1.lo / varBase img v.2), hi := vs.map (fun v => v.1.hi / varBase img v.2)
    rows := (x.rows.zip (upTo x.rows.length)).map (fun r =>
      let b := rowBase img r.2
      (r.1.a.map (fun a => (a.1, a.2 * varBase img a.1 / b)), r.1.l.map (fun l => l / b), r.1.u.map (fun u => u / b)))
    sigma := x.sigma, rho := x.rho }

/-- An entry of K, row r at or below column c (R286). -/
def kktEntry (x : Scaled) (nv r c : Nat) : Rat :=
  if r < nv then (if r = c then nth 0 x.p c + x.sigma + x.rho else 0)
  else if c < nv then ((nth ([], none, none) x.rows (r - nv)).1.filter (fun a => a.1 == c)).foldl (fun a b => a + b.2) 0
  else if r = c then -(1 / x.rho) else 0

/-- A·x and Aᵀ·y. -/
def rowTimes (x : Scaled) (v : List Rat) (r : Nat) : Rat :=
  ratSum ((nth ([], none, none) x.rows r).1.map (fun a => a.2 * nth 0 v a.1))
def colTimes (x : Scaled) (y : List Rat) (c : Nat) : Rat :=
  ratSum ((x.rows.zip y).flatMap (fun r => (r.1.1.filter (fun a => a.1 == c)).map (fun a => a.2 * r.2)))

/-- The parts x, zb, yb, za, ya of an iterate, as values (R293, R299). -/
structure Admm where
  x : List Rat
  zb : List Rat
  yb : List Rat
  za : List Rat
  ya : List Rat

/-- The KKT column whose EX a component of a warm-start vector has (R299). -/
def iterColumn (img : Bytes) (i : Nat) : Nat :=
  if i < 3 * numVar img then i % numVar img else numVar img + (i - 3 * numVar img) % numCon img

/-- The parts of an iterate held as mantissas. -/
def admmOf (img : Bytes) (v : List Int) : Admm :=
  let n := numVar img
  let m := numCon img
  let val := fun (off k : Nat) => (upTo k).map (fun i => mantVal (nth 0 v (off + i)) (exOf img (iterColumn img (off + i))))
  { x := val 0 n, zb := val n n, yb := val (2 * n) n, za := val (3 * n) m, ya := val (3 * n + m) m }

/-- An iterate's values brought into their containers. -/
def admmHold (b : Nat) (img : Bytes) (a : Admm) : List Int × Marks :=
  let l := a.x ++ a.zb ++ a.yb ++ a.za ++ a.ya
  vecOf l.length (fun i => toMant b (iterColumn img i) (exOf img (iterColumn img i)) (nth 0 l i))

/-- The cold start: x at the NEUTRAL point, zb and za clamped, yb and ya 0 (R297). -/
def coldStart (s : State) (x : Scaled) : Admm :=
  let img := s.model.image
  let v := (upTo (numVar img)).map (fun i => mantVal (neutral s i) (exOf img i))
  { x := v, zb := (upTo v.length).map (fun i => ratClamp (some (nth 0 x.lo i)) (some (nth 0 x.hi i)) (nth 0 v i))
    yb := v.map (fun _ => 0)
    za := (upTo (numCon img)).map (fun r =>
      let b := nth ([], none, none) x.rows r
      ratClamp b.2.1 b.2.2 (rowTimes x v r))
    ya := (upTo (numCon img)).map (fun _ => 0) }

/-- The problem that a bench solve takes: K as a build would make it, without costs and bounds, so that the right-hand side
is that of the neutral point alone (R248; DESIGN CHOICE, log 41). -/
def benchScaled (s : State) : Scaled :=
  let x := scaleProblem s.model.image (buildProblem s)
  let free := fun (_ : Rat) (v : Nat) => mantVal (neutral s v) (exOf s.model.image v)
  let at_ := (x.lo.zip (upTo x.lo.length)).map (fun l => free l.1 l.2)
  { x with q := x.q.map (fun _ => 0), lo := at_, hi := at_, rows := x.rows.map (fun r => (r.1, none, none)) }

/-- The problem of the job on queue 1. -/
def jobProblem (s : State) : Scaled :=
  if (oxq s 1).arm.bench then benchScaled s else scaleProblem s.model.image s.dsp.problem

/-- The right-hand side of an iteration (R293). -/
def admmRhs (s : State) (x : Scaled) (a : Admm) : List Int × Marks :=
  let f := oxFrame s 1
  let n := numVar s.model.image
  vecOf f.n (fun c =>
    let v := if c < n then x.sigma * nth 0 a.x c - nth 0 x.q c + x.rho * nth 0 a.zb c - nth 0 a.yb c
      else nth 0 a.za (c - n) - nth 0 a.ya (c - n) / x.rho
    toMant 2 c (f.eb c) v)

/-- The right-hand side of the next iteration stands, and its solve is next. -/
def admmNext (s : State) : State :=
  let (b, mk) := admmRhs s (jobProblem s) (admmOf s.model.image (oxq s 1).mem.x)
  marks 1 10 mk (onQ 1 (fun y => { y with stage := .solve, mem := { y.mem with rhs := b } }) s)

/-- ADMM_JOB begins from the vector the build chose, or cold (R293, R297); it refactorises first where the arm says so. -/
def admmStart (s : State) : State :=
  let img := s.model.image
  let v := match (if (oxq s 1).arm.bench then none else s.dsp.problem.start) with
    | some v => (v, [])
    | none => admmHold 0 img (coldStart s (jobProblem s))
  let s := marks 1 10 v.2 (onQ 1 (fun y => { y with mem := { y.mem with x := v.1 } }) s)
  if (oxq s 1).arm.refact then onQ 1 (fun y => { y with stage := .load }) s else admmNext s

/-- KKT_LOAD: the matrix values that Malor assembled (R231, R286). -/
def admmLoad (s : State) : State :=
  let (mat, mk) := assemble (oxFrame s 1) (kktEntry (jobProblem s) (numVar s.model.image))
  factBegin 1 (marks 1 5 mk (onQ 1 (fun y => { y with mem := { y.mem with mat := mat } }) s))

/-- One ADMM iteration's updates from the solution of its system (R293). -/
def admmUpdate (s : State) (x : Scaled) (a : Admm) (sol : List Int) : Admm :=
  let n := numVar s.model.image
  let al : Rat := (act s 0x0908 : Rat) / 32768
  let xt := fun i => mantVal (nth 0 sol i) (exOf s.model.image i)
  let nu := fun r => mantVal (nth 0 sol (n + r)) (exOf s.model.image (n + r))
  let vb := fun i => al * xt i + (1 - al) * nth 0 a.zb i
  let va := fun r => al * (nth 0 a.za r + (nu r - nth 0 a.ya r) / x.rho) + (1 - al) * nth 0 a.za r
  let zb := (upTo n).map (fun i =>
    ratClamp (some (nth 0 x.lo i)) (some (nth 0 x.hi i)) (vb i + nth 0 a.yb i / x.rho))
  let za := (upTo (numCon s.model.image)).map (fun r =>
    let b := nth ([], none, none) x.rows r
    ratClamp b.2.1 b.2.2 (va r + nth 0 a.ya r / x.rho))
  { x := (upTo n).map (fun i => al * xt i + (1 - al) * nth 0 a.x i), zb := zb, za := za
    yb := (upTo n).map (fun i => nth 0 a.yb i + x.rho * (vb i - nth 0 zb i))
    ya := (upTo za.length).map (fun r => nth 0 a.ya r + x.rho * (va r - nth 0 za r)) }

/-- An iteration is complete; every DSP_CHECK_EVERY iterations and at the limit the residuals are evaluated next (R293,
R294). -/
def admmStep (s : State) : State :=
  let y := oxq s 1
  let img := s.model.image
  let (v, mk) := admmHold 2 img (admmUpdate s (jobProblem s) (admmOf img y.mem.x) y.mem.sol)
  let s := marks 1 10 mk (onQ 1 (fun y => { y with iter := y.iter + 1, mem := { y.mem with x := v } }) s)
  let k := y.iter + 1
  if k % max 1 (actN s 0x0905) = 0 ∨ y.arm.iterLimit ≤ k then onQ 1 (fun y => { y with stage := .test }) s else admmNext s

/-- The objective in C_BASE units (R285). -/
def objectiveOf (x : Problem) (v : List Rat) : Rat :=
  ratSum ((x.vars.zip v).map (fun p => p.1.quad * p.2 * p.2 / 2 + p.1.lin * p.2 + p.1.const))

/-- What the job finds at a residual check (R294, R302). -/
def admmResult (s : State) : JobResult :=
  let img := s.model.image
  let x := scaleProblem img s.dsp.problem
  let a := admmOf img (oxq s 1).mem.x
  let ax := (upTo a.za.length).map (rowTimes x a.x)
  let px := (upTo a.x.length).map (fun i => nth 0 x.p i * nth 0 a.x i)
  let aty := (upTo a.x.length).map (colTimes x a.ya)
  let diff := fun (u v : List Rat) => maxAbs ((u.zip v).map (fun p => p.1 - p.2))
  let xs := (upTo a.x.length).map (fun i => nth 0 a.x i * varBase img i)
  { x := xs.map ratRound, warm := (oxq s 1).mem.x, rp := ratMax (diff ax a.za) (diff a.x a.zb)
    rd := maxAbs ((upTo a.x.length).map (fun i => nth 0 px i + nth 0 x.q i + nth 0 aty i + nth 0 a.yb i))
    normP := ratMax (maxAbs ax) (ratMax (maxAbs a.za) (maxAbs a.x))
    normD := ratMax (ratMax (maxAbs px) (maxAbs aty)) (ratMax (maxAbs a.yb) (maxAbs x.q))
    objective := satS 64 (ratRound (objectiveOf s.dsp.problem xs)) }

/-- KKT_SPMV for the stopping test: converged or at the limit the job is over, else it goes on (R294). -/
def admmTest (s : State) : State :=
  let r := admmResult s
  let s := onDsp (fun d => { d with result := r }) s
  if converged s r || decide ((oxq s 1).arm.iterLimit ≤ (oxq s 1).iter) then onQ 1 (fun y => { y with stage := .over }) s
  else admmNext s

end Sys2Proof.Machine
end

