-- ==== Sys2Proof/Machine/Newton.lean ====
section
/-! DEFINITION. NEWTON_JOB: start point, Jacobian, line search and verdict (R252, R253, R259, R260). -/

namespace Sys2Proof.Machine

/-- The reference node of a node's network. -/
def refNode (s : State) (i : Nat) : Nat :=
  ((upTo (nNode s.model.image)).find? (fun k => isReference s k && nodeNet s.model.image k == nodeNet s.model.image i)).getD i

/-- The neutral pressure of a node in Pa (R260). -/
def neutralP (s : State) (i : Nat) : Rat :=
  refPressure s (refNode s i) - 1000 * (980665 / 100000) * (elevation s i - elevation s (refNode s i))

/-- The last pressure of a node in Pa: that of the last CONVERGED state, else the neutral one (R254). -/
def lastP (s : State) (i : Nat) : Rat :=
  match estState s with
  | some x => (nth 0 x.p i : Rat)
  | none => neutralP s i

/-- The start point in physical units, pressures then flows (R260). -/
def startPoint (s : State) : List Rat :=
  let n := upTo (nNode s.model.image)
  let p := upTo (nPipe s.model.image)
  match (if s.est.cold then none else estState s) with
  | some x => n.map (fun i => (nth 0 x.p i : Rat)) ++ p.map (fun j => (nth 0 x.q j : Rat))
  | none => n.map (neutralP s) ++ p.map (fun _ => 0)

/-- The base of an estimation unknown (R189, R252). -/
def estBase (s : State) (c : Nat) : Rat := (base s.model.image (if c < nNode s.model.image then 0 else 1) : Rat)

/-- The merit of an iterate (R259). -/
def meritOf (s : State) (x : List Int) : Rat := merit s (iterP s x) (iterQ s x)

/-- The equation of a row of the system at an iterate, in scaled units (R252 to R254): a reference and an isolated node
carry the difference to the pressure at which they are held. -/
def equation (s : State) (p q : List Rat) (c : Nat) : Rat :=
  let img := s.model.image
  let n := nNode img
  if c < n then
    if isReference s c then (refPressure s c - nth 0 p c) / (base img 0 : Rat)
    else if isIsolated s c then (lastP s c - nth 0 p c) / (base img 0 : Rat)
    else residualH s q c / (base img 1 : Rat)
  else residualG s p q (c - n) / (base img (if pipeClosed s (c - n) then 1 else 0) : Rat)

/-- An entry of the Jacobian in scaled units, row r at or below column c (R252 to R254). -/
def jacobian (s : State) (q : List Rat) (r c : Nat) : Rat :=
  let img := s.model.image
  let n := nNode img
  let held := fun i => isReference s i || isIsolated s i
  if r < n then (if r = c ∧ held c = true then -1 else 0)
  else
    let j := r - n
    if pipeClosed s j then (if r = c then 1 else 0)
    else if r = c then slopeG s q j * (base img 1 : Rat) / (base img 0 : Rat)
    else if held c then 0
    else
      let (a, b) := pipeEnds img j
      if c = a then -1 else if c = b then 1 else 0

/-- The job ends with a verdict (R259, R261). -/
def newtonStop (cause : Nat) (s : State) : State :=
  onQ 0 (fun x => { x with stage := .over }) (onEst (fun e => { e with verdict := cause }) s)

/-- NEWTON_JOB begins at its start point; a merit of at most 1 ends it at once (R259, R260). -/
def newtonStart (s : State) : State :=
  let f := oxFrame s 0
  let v := startPoint s
  let (x, mk) := vecOf f.n (fun c => toMant 0 c (f.ex c) (nth 0 v c / estBase s c))
  let s := marks 0 9 mk (onQ 0 (fun y => { y with stage := .load, mem := { y.mem with x := x } }) s)
  if meritOf s x ≤ 1 then newtonStop 0 s else s

/-- EST_ASSEMBLE: the Jacobian's values and the right-hand side F at the iterate (R231, R259). -/
def newtonLoad (s : State) : State :=
  let f := oxFrame s 0
  let x := (oxq s 0).mem.x
  let p := iterP s x
  let q := iterQ s x
  let (mat, m1) := assemble f (jacobian s q)
  let (b, m2) := vecOf f.n (fun c => toMant 0 c (f.eb c) (equation s p q c))
  factBegin 0 (marks 0 1 (m1 ++ m2) (onQ 0 (fun y => { y with mem := { y.mem with mat := mat, rhs := b } }) s))

/-- The line search over 1, 1/2, 1/4 and 1/8: the halvings made, and the accepted iterate (R259). -/
def lineSearch (s : State) (f : Frame) (x d : List Int) (m : Rat) : List Nat → Nat × Option (List Int) × Marks
  | [] => (3, none, [])
  | k :: l =>
    let (c, mk) := stepBack f x d k
    if meritOf s c < m then (k, some c, mk)
    else
      let (h, r, ms) := lineSearch s f x d m l
      (h, r, mk ++ ms)

/-- A Newton step's direction is known: line search, and what follows from it (R259). -/
def newtonStep (s : State) : State :=
  let y := oxq s 0
  let (h, r, mk) := lineSearch s (oxFrame s 0) y.mem.x y.mem.sol (meritOf s y.mem.x) [0, 1, 2, 3]
  let s := marks 0 9 mk (onEst (fun e => { e with halvings := min 255 (e.halvings + h) }) s)
  match r with
  | none => newtonStop 2 s
  | some x =>
    let s := onQ 0 (fun y => { y with iter := y.iter + 1, stage := .load, mem := { y.mem with x := x } }) s
    if meritOf s x ≤ 1 then newtonStop 0 s
    else if y.arm.iterLimit ≤ y.iter + 1 then newtonStop 1 s
    else s

end Sys2Proof.Machine
end

