-- ==== Sys2Proof/Machine/Jobs.lean ====
section
/-! DEFINITION. How a job's program runs: its program calls in order (R221, R236, R237, R259, R293), the blocks that carry
them, and a job's end (R223, R226). -/

namespace Sys2Proof.Machine

/-- A job begins: its program must be in the directory with JOB set, else it ends with PROG_FAULT (R221, R223). -/
def jobStart (q : Nat) (s : State) : State :=
  let y := oxq s q
  if !armable (schedSet s s.model.image) y.arm.prog then stick q 9 (onQ q (fun y => { y with stage := .over }) s)
  else if y.arm.prog = 9 ∧ q = 0 then newtonStart s
  else if y.arm.prog = 0x0A ∧ q = 1 then admmStart s
  else onQ q (fun y => { y with stage := .over }) s

/-- What a job does with a solution (R248, R259, R293). -/
def jobSolved (q : Nat) (s : State) : State :=
  if q = 0 then newtonStep s
  else if (oxq s 1).arm.bench then onQ 1 (fun y => { y with stage := .over }) s
  else admmStep s

/-- One program call of a job ends. -/
def jobCall (q : Nat) (s : State) : State :=
  let s := if (oxq s q).stage = .start then jobStart q s else s
  let s := match (oxq s q).stage with
    | .load => if q = 0 then newtonLoad s else admmLoad s
    | .fact => let s := factEnd q (storeWrite q s); if q = 0 then s else admmNext s
    | .solve => solveEnd q (storeRead q s)
    | .resid => residEnd q s
    | .corr => corrEnd q s
    | .check => checkEnd q s
    | .test => admmTest s
    | _ => s
  if (oxq s q).stage = .solved then jobSolved q s else s

/-- Several program calls end, one after the other. -/
def jobCalls (q : Nat) : Nat → State → State
  | 0, s => s
  | n + 1, s => if (oxq s q).stage = .over then s else jobCalls q n (jobCall q s)

/-- A job is running blocks. -/
def jobRuns (s : State) (q : Nat) : Bool :=
  oxClock s && ((oxq s q).state == 2 || (oxq s q).state == 4 || (oxq s q).state == 5)

/-- A block of queue `q` ends with `n` program calls (R223): a header that is not valid is a PROG_FAULT; then the boundary. -/
def oxBlockEnd (q : Nat) (h : BlockHead) (n : Nat) (s : State) : State :=
  if !jobRuns s q then s
  else
    let s := if blockOk s h then jobCalls q n s else stick q 9 s
    boundaryRelock (blockBoundary q (onQ q (fun x => { x with dramNs := x.dramNs + h.dramNs }) s))

/-- More program calls than a job can make: twelve in each iteration, with its refinement. -/
def jobFuel (x : OxQueue) : Nat := 16 * (x.arm.iterLimit + 2)

/-- The outcome of a job whose program ends: TIMEOUT, then DEGRADED, then COMPLETE (R226). -/
def oxOutcome (s : State) (q : Nat) : Nat :=
  if (oxq s q).state = 4 ∨ jobLate s q = true then 2 else if isDegraded (oxq s q) then 1 else 0

/-- The last block of a job's program ends (R226), after `dramNs` of waiting for DRAM: the calls that no earlier block completed
have ended with it. -/
def oxJobEnd (q dramNs : Nat) (s : State) : State :=
  if !jobRuns s q || (oxq s q).state == 5 then s
  else
    let s := jobCalls q (jobFuel (oxq s q)) (onQ q (fun x => { x with dramNs := x.dramNs + dramNs }) s)
    boundaryRelock (oxEnd q (oxOutcome s q) s)

/-- A block runs for more than 40,000 cycles: PROG_FAULT ends the job (R223). -/
def oxOverrun (q : Nat) (s : State) : State :=
  if !jobRuns s q then s else boundaryRelock (blockBoundary q (stick q 9 s))

end Sys2Proof.Machine
end

