-- ==== Sys2Proof/Machine/Logic.lean ====
section
/-! DEFINITION. The Aplar logic engine: program checks, instructions, scans, modes and commands (R401 to R419). -/

namespace Sys2Proof.Machine

/-- The engine's state changed. -/
def onLogic (f : LogicSt → LogicSt) (s : State) : State := { s with logic := f s.logic }

/-- LOGIC unit 0 is enabled. -/
def logicOn (s : State) : Bool := enabled s 12 0

/-- The number of bits of an area (R401). -/
def areaBits (area : Nat) : Nat := nth 0 [24, 24, 576, 4096, 1024, 256, 512, 256, 256] area

/-- The bit at an address (R401). -/
def imgBit (m : Image) (a : Nat) : Bool :=
  let i := a % 4096
  match a / 4096 with
  | 0 => m.i.getLsbD i
  | 1 => m.q.getLsbD i
  | 2 => m.p.getLsbD i
  | 3 => m.m.getLsbD i
  | 4 => m.r.getLsbD i
  | 5 => m.t.getLsbD i
  | 6 => m.c.getLsbD i
  | 7 => m.s.getLsbD i
  | 8 => m.h.getLsbD i
  | _ => false

/-- Bit `i` of a bit vector set to a value. -/
def bvSet {n : Nat} (v : BitVec n) (i : Nat) (b : Bool) : BitVec n :=
  if b then v ||| (1#n <<< i) else v &&& ~~~(1#n <<< i)

/-- The bit at an address that a program may write, set to a value (R401). -/
def imgSet (a : Nat) (b : Bool) (m : Image) : Image :=
  let i := a % 4096
  match a / 4096 with
  | 1 => { m with q := bvSet m.q i b }
  | 2 => { m with p := bvSet m.p i b }
  | 3 => { m with m := bvSet m.m i b }
  | 4 => { m with r := bvSet m.r i b }
  | _ => m

/-- Edge(a) and Fall(a) (R405). -/
def edge (l : LogicSt) (a : Nat) : Bool := imgBit l.img a && !imgBit l.prev a
def fall (l : LogicSt) (a : Nat) : Bool := !imgBit l.img a && imgBit l.prev a

/-- The operand format of an opcode: 1 A, 2 B, 3 J, 4 N; 0 for an opcode that R405 does not have. -/
def opFormat (op : Nat) : Nat :=
  if (0x01 ≤ op ∧ op ≤ 0x0E) ∨ (0x10 ≤ op ∧ op ≤ 0x13) then 1
  else if (0x30 ≤ op ∧ op ≤ 0x32) ∨ (0x38 ≤ op ∧ op ≤ 0x3B) ∨ op = 0x50 then 2
  else if 0x40 ≤ op ∧ op ≤ 0x42 then 3
  else if op = 0 ∨ (0x18 ≤ op ∧ op ≤ 0x1C) ∨ (0x20 ≤ op ∧ op ≤ 0x22) ∨ op = 0x48 then 4
  else 0

/-- N_INSTR of a program image (R412). -/
def progLen (img : Bytes) : Nat := byteField (imgBody img) 4 4

/-- The instructions of a program image (R412). -/
def progWords (img : Bytes) : List Nat :=
  let b := (imgBody img).drop 32
  (upTo (progLen img)).map (fun k => byteField b (4 * k) 4)

/-- Check 1 of R412. -/
def progFormOk (img : Bytes) : Bool :=
  let b := imgBody img
  byteField b 0 4 == 0xD742A9F0 && decide (1 ≤ progLen img) && decide (progLen img ≤ 16384) &&
    allZero ((b.drop 8).take 24) && imgBodyLen img == 32 + 4 * progLen img

/-- Check 2 of R412: a known opcode, and its reserved operand bits 0. -/
def opcodeOk (w : Nat) : Bool :=
  let x := w % 2 ^ 24
  match opFormat (w / 2 ^ 24) with
  | 1 => decide (x < 2 ^ 16)
  | 2 => decide (x < 2 ^ 8)
  | 3 => decide (x < 2 ^ 15)
  | 4 => x == 0
  | _ => false

/-- Check 3 of R412. -/
def addressOk (w : Nat) : Bool :=
  let op := w / 2 ^ 24
  let area := w % 2 ^ 16 / 4096
  if opFormat op = 1 then
    decide (area ≤ 8) && decide (w % 4096 < areaBits area) && (op < 0x10 || (decide (1 ≤ area) && decide (area ≤ 4)))
  else true

/-- Check 4 of R412. -/
def jumpOk (n : Nat) (w i : Nat) : Bool :=
  if opFormat (w / 2 ^ 24) = 3 then decide (i < w % 2 ^ 15) && decide (w % 2 ^ 15 ≤ n) else true

/-- The depth after an instruction at a depth; none where the instruction breaks the bounds of R412 step 5. -/
def depthAfter (op d : Nat) : Option Nat :=
  if op = 0x18 then (if d < 16 then some (d + 1) else none)
  else if 0x19 ≤ op ∧ op ≤ 0x1B then (if 1 ≤ d then some (d - 1) else none)
  else if op = 0x1C then (if 1 ≤ d then some d else none)
  else some d

/-- Two depths that paths bring to one instruction: none where they differ. -/
def depthMeet (x y : Option Nat) : Option Nat := if x = y then x else none

/-- The depth that a jump brings to its target is noted; paths that differ leave a clash there. -/
def depthNote (t d : Nat) (known : List (Nat × Option Nat)) : List (Nat × Option Nat) :=
  insertNat t (match lookupNat t known with | some e => depthMeet e (some d) | none => some d) known

/-- Check 5 of R412, from instruction `i` on at depth `d` (none where no path falls through to it), with the depths
that jumps brought ahead: the index of the first failing instruction. -/
def stackCheck : List Nat → Nat → Option Nat → List (Nat × Option Nat) → Option Nat
  | [], _, _, _ => none
  | w :: ws, i, d, known =>
    match d, lookupNat i known with
    | none, none => stackCheck ws (i + 1) none known
    | x, y =>
      let known := eraseNat i known
      match (match x, y with | some _, some e => depthMeet x e | none, some e => e | _, none => x) with
      | none => some i
      | some z =>
        let op := w / 2 ^ 24
        match depthAfter op z with
        | none => some i
        | some n =>
          if opFormat op = 3 then stackCheck ws (i + 1) (if op = 0x40 then none else some n) (depthNote (w % 2 ^ 15) n known)
          else stackCheck ws (i + 1) (if op = 0x48 then none else some n) known

/-- The first index at which a check of one instruction fails. -/
def firstBad (f : Nat → Nat → Bool) (l : List Nat) : Option Nat :=
  ((l.zip (upTo l.length)).find? (fun p => !f p.1 p.2)).map (·.2)

/-- The first failing check of a program: reason and instruction index (R412). -/
def progFail (img : Bytes) : Option (Nat × Nat) :=
  if !progFormOk img then some (0x0C0A, 0xFFFFFFFF)
  else
    let ws := progWords img
    match firstBad (fun w _ => opcodeOk w) ws with
    | some i => some (0x0C10, i)
    | none => match firstBad (fun w _ => addressOk w) ws with
      | some i => some (0x0C11, i)
      | none => match firstBad (jumpOk ws.length) ws with
        | some i => some (0x0C12, i)
        | none => (stackCheck ws 0 (some 0) []).map (fun i => (0x0C13, i))

/-- The header checks of R101 and the checks of R412 on a slot's image: reason and index. -/
def logicLoadFail (s : State) (img : Bytes) : Option (Nat × Nat) :=
  match imgFail s 3 img with
  | some r => some (r, 0xFFFFFFFF)
  | none => progFail img

/-- What a scan's execution works on: the engine, ACC, the stack with its top first, and the EVT events raised. -/
structure Exec where
  l : LogicSt
  acc : Bool := false
  stack : List Bool := []
  /-- k and instruction index, latest first. -/
  evts : List (Nat × Nat) := []

/-- The presets that timer and counter instructions use: PT in µs by timer, the preset by counter (R406, R407). -/
structure Presets where
  tmr : Nat → Nat
  ctr : Nat → Int

/-- TON, TOF and TP on one timer at logic time `lt` with input `acc` (R406). -/
def timerStep (op : Nat) (lt pt : Nat) (acc : Bool) (x : Tmr) : Tmr :=
  let r : Tmr :=
    if op = 0x30 then
      if acc then
        let x := if x.run then x else { x with start := lt, run := true }
        { x with q := decide (pt ≤ lt - x.start) }
      else { x with run := false, q := false }
    else if op = 0x31 then
      if acc then { x with q := true, run := false }
      else if x.q then
        let x := if x.run then x else { x with start := lt, run := true }
        if pt ≤ lt - x.start then { x with q := false, run := false } else x
      else x
    else
      let x := if acc && !x.inPrev && !x.run then { x with q := true, start := lt, run := true } else x
      if x.run && decide (pt ≤ lt - x.start) then { x with q := false, run := false } else x
  { r with inPrev := acc }

/-- CTU, CTD, CRES and CLD on one counter (R405, R407). -/
def counterStep (op : Nat) (preset : Int) (acc : Bool) (x : Ctr) : Ctr :=
  if op = 0x38 then { x with count := if acc && !x.up then satS 32 (x.count + 1) else x.count, up := acc }
  else if op = 0x39 then { x with count := if acc && !x.down then satS 32 (x.count - 1) else x.count, down := acc }
  else if op = 0x3A then { x with count := if acc then 0 else x.count }
  else { x with count := if acc then preset else x.count }

/-- C[c] and C[256 + c] recomputed (R407). -/
def counterBits (c : Nat) (preset count : Int) (v : BitVec 512) : BitVec 512 :=
  bvSet (bvSet v c (decide (preset ≤ count))) (256 + c) (decide (count ≤ 0))

/-- The operation of a format A instruction (R405). -/
def execA (op a : Nat) (x : Exec) : Exec :=
  let b := imgBit x.l.img a
  let put := fun v => { x with l := { x.l with img := imgSet a v x.l.img } }
  match op with
  | 0x01 => { x with acc := b }
  | 0x02 => { x with acc := !b }
  | 0x03 => { x with acc := x.acc && b }
  | 0x04 => { x with acc := x.acc && !b }
  | 0x05 => { x with acc := x.acc || b }
  | 0x06 => { x with acc := x.acc || !b }
  | 0x07 => { x with acc := x.acc != b }
  | 0x08 => { x with acc := x.acc != !b }
  | 0x09 => { x with acc := edge x.l a }
  | 0x0A => { x with acc := fall x.l a }
  | 0x0B => { x with acc := x.acc && edge x.l a }
  | 0x0C => { x with acc := x.acc && fall x.l a }
  | 0x0D => { x with acc := x.acc || edge x.l a }
  | 0x0E => { x with acc := x.acc || fall x.l a }
  | 0x10 => put x.acc
  | 0x11 => put (!x.acc)
  | 0x12 => if x.acc then put true else x
  | 0x13 => if x.acc then put false else x
  | _ => x

/-- EVT on a rising edge of ACC at this instruction; at most 16 in a scan (R405). -/
def execEvt (k i : Nat) (x : Exec) : Exec :=
  let was := x.l.evtOn.contains i
  let l := { x.l with evtOn := if x.acc then (if was then x.l.evtOn else i :: x.l.evtOn) else x.l.evtOn.filter (· != i) }
  if x.acc && !was then
    if x.evts.length < 16 then { x with l := l, evts := (k, i) :: x.evts }
    else { x with l := { l with evtDrop := satInc 32 l.evtDrop } }
  else { x with l := l }

/-- The operation of a format B instruction (R405 to R407). -/
def execB (ps : Presets) (op k i : Nat) (x : Exec) : Exec :=
  if op = 0x50 then execEvt k i x
  else if op < 0x38 then
    let t := timerStep op x.l.lt (ps.tmr k) x.acc (nth {} x.l.timers k)
    { x with acc := t.q, l := { x.l with timers := x.l.timers.set k t, img := { x.l.img with t := bvSet x.l.img.t k t.q } } }
  else
    let c := counterStep op (ps.ctr k) x.acc (nth {} x.l.counters k)
    let cb := counterBits k (ps.ctr k) c.count x.l.img.c
    { x with acc := cb.getLsbD k, l := { x.l with counters := x.l.counters.set k c, img := { x.l.img with c := cb } } }

/-- The operation of a format N instruction (R405). -/
def execN (op : Nat) (x : Exec) : Exec :=
  match op, x.stack with
  | 0x18, st => { x with stack := x.acc :: st }
  | 0x19, b :: st => { x with acc := b, stack := st }
  | 0x1A, b :: st => { x with acc := b && x.acc, stack := st }
  | 0x1B, b :: st => { x with acc := b || x.acc, stack := st }
  | 0x1C, b :: _ => { x with acc := b }
  | 0x20, _ => { x with acc := !x.acc }
  | 0x21, _ => { x with acc := true }
  | 0x22, _ => { x with acc := false }
  | _, _ => x

/-- One instruction at index `i`, and the index at which execution goes on (R405). -/
def execOne (ps : Presets) (w i : Nat) (x : Exec) : Exec × Nat :=
  let op := w / 2 ^ 24
  match opFormat op with
  | 1 => (execA op (w % 2 ^ 16) x, i + 1)
  | 2 => (execB ps op (w % 2 ^ 8) i x, i + 1)
  | 3 =>
    let taken := op == 0x40 || (op == 0x41 && x.acc) || (op == 0x42 && !x.acc)
    (x, if taken then w % 2 ^ 15 else i + 1)
  | _ => if op = 0x48 then (x, 0x8000) else (execN op x, i + 1)

/-- The program from index `i`, skipping to index `t` (R403 step 3): jumps run forward only. -/
def runProg (ps : Presets) : List Nat → Nat → Nat → Exec → Exec
  | [], _, _, x => x
  | w :: ws, i, t, x =>
    if i < t then runProg ps ws (i + 1) t x
    else
      let r := execOne ps w i x
      runProg ps ws (i + 1) r.2 r.1

/-- A bit of each unit below `n`, placed from a bit number on. -/
def bitsFrom (at0 n : Nat) (f : Nat → Bool) : Nat := flagsNat ((upTo n).map f) * 2 ^ at0

/-- The S area as it is latched (R402); FIRST_SCAN and PROGRAM_CHANGED as given. -/
def statusBits (s : State) (first changed : Bool) : BitVec 256 :=
  let axis := fun n => nth {} s.axes n
  BitVec.ofNat 256
    (b2n first + 2 * b2n changed + 4 * b2n (grant s) + 8 * b2n (holdLine s) + 16 * b2n s.time.valid + 32 * b2n s.time.locked
      + 64 * b2n s.est.stale + 128 * b2n s.dsp.pubBad + 256 * b2n s.dsp.stopped
      + bitsFrom 16 32 (fun n => (nth {} s.loops n).state == 2) + bitsFrom 48 32 (fun n => (nth {} s.loops n).state == 6)
      + bitsFrom 80 16 (fun n => (axis n).state == 8) + bitsFrom 96 16 (fun n => (axis n).uncertain)
      + bitsFrom 112 16 (fun n => (axis n).state == 1)
      + bitsFrom 128 4 (fun c => (canOf s c).state == 4) + bitsFrom 132 4 (fun c => (canOf s c).state == 3)
      + bitsFrom 144 6 (fun k => (nth {} s.time.trg (8 + k)).pulsed))

/-- Word `w` of a 256-bit area with the bits of a mask replaced (R416). -/
def wordPut (h : BitVec 256) (x : Nat × Nat × Nat) : BitVec 256 :=
  let m := BitVec.ofNat 256 (x.2.1 * 2 ^ (32 * x.1))
  (h &&& ~~~m) ||| (BitVec.ofNat 256 (x.2.2 * 2 ^ (32 * x.1)) &&& m)

/-- Step 2 of a scan: I, S and the pending host bits are latched (R403, R416). -/
def logicLatch (first changed : Bool) (s : State) : State :=
  let s0 := s
  let sb := statusBits s first changed
  let s := onLogic (fun l => { l with
    img := { l.img with i := BitVec.ofNat 24 (dinLevels s0), s := sb, h := l.hostBits.foldl wordPut l.img.h }, hostBits := [] }) s
  { s with time := { s.time with trg := s.time.trg.map (fun t => { t with pulsed := false }) } }

/-- A retentive timer's bit in LOGIC_TMR_RETAIN (R409). -/
def tmrRetained (s : State) (t : Nat) : Bool := bit (tabN s 0x0C04 (t / 8) 1) (t % 8)

/-- Items 1 to 3 of an initialising scan; without `keep` the Q and P images start from 0 (R409). -/
def logicInit (keep : Bool) (s : State) : State :=
  let ret := tmrRetained s
  onLogic (fun l =>
    let ts := (l.timers.zip (upTo 256)).map (fun p =>
      if ret p.2 then p.1 else { p.1 with q := false, run := false, inPrev := false })
    { l with
      timers := ts, counters := l.counters.map (fun c => { c with up := false, down := false })
      img := { l.img with
        m := 0, t := BitVec.ofNat 256 (flagsNat (ts.map (·.q)))
        q := if keep then l.img.q else 0, p := if keep then l.img.p else 0 } }) s

/-- LOGIC_DOUT_SAFE as the engine holds it. -/
def doutSafe (s : State) : BitVec 24 := BitVec.ofNat 24 (actN s 0x0C02)

/-- Every permit change between two images reaches its block (R26): withdrawals before restorations. -/
def permitChange (old new : BitVec 576) (s : State) : State :=
  let gone := (upTo 576).filter (fun i => old.getLsbD i && !new.getLsbD i)
  let back := (upTo 576).filter (fun i => !old.getLsbD i && new.getLsbD i)
  let s := gone.foldl (fun s i =>
    if i < 32 then loopPermitGone i s else if i < 48 then axisPermitGone (i - 32) s
    else canPermitGone ((i - 64) / 128) ((i - 64) % 128) s) s
  back.foldl (fun s i => if 64 ≤ i then canPermitBack ((i - 64) / 128) ((i - 64) % 128) s else s) s

/-- The output stage takes DOUT levels and a permit image (R403 step 4, R408). -/
def outputImage (q : BitVec 24) (p : BitVec 576) (s : State) : State :=
  let old := s.logic.permit
  permitChange old p (onLogic (fun l => { l with dout := q, doutOn := true, permit := p }) s)

/-- DOUT takes LOGIC_DOUT_SAFE and the permit image is cleared (R408, R415). -/
def logicSafe (s : State) : State :=
  outputImage (doutSafe s) 0 (onLogic (fun l => { l with img := { l.img with q := 0, p := 0 } }) s)

/-- EVT events leave the engine in the order in which they were raised (R405, R419). -/
def raiseEvts (l : List (Nat × Nat)) (s : State) : State :=
  l.reverse.foldl (fun s e => raise 0x0C14 76 e.1 e.2 (ontLo s) s) s

/-- The presets in force (R406, R407). -/
def presets (s : State) : Presets :=
  let tt := tab s 0x0C03
  let ct := tab s 0x0C05
  { tmr := fun t => byteField tt (4 * t) 4 * 1000, ctr := fun c => byteFieldS ct (4 * c) 4 }

/-- One executed scan (R403, R404, R409). Its duration is open within R403's bounds. -/
def logicScan (init : Bool) (s : State) : State :=
  let s := onLogic (fun l => { l with lt := (l.lt + actN s 0x0C00) % 2 ^ 64 }) s
  let changed := init && s.logic.changeDue
  let s := logicLatch init changed (if init then logicInit s.logic.initKeep s else s)
  let s := if init then onLogic (fun l => { l with prev := l.img, initDue := false, initKeep := false, changeDue := false }) s else s
  let x := runProg (presets s) (progWords s.logic.image) 0 0 { l := s.logic }
  let free := Config.freeNat s.free % 65536
  let s := onLogic (fun _ => { x.l with
    firstScan := init, progChanged := changed, scanCnt := wrapInc 32 x.l.scanCnt, ts := ontLo s, scanTime := free
    scanMax := max x.l.scanMax free, prev := x.l.img }) s.drawn
  raiseEvts x.evts (outputImage s.logic.img.q s.logic.img.p s)

/-- The mode of R408: the first that applies. -/
def logicWanted (s : State) : Nat :=
  if standby s then 5
  else if holdLine s then 4
  else if s.logic.faulted then 6
  else nth 1 [1, 2, 3] s.logic.cmd

/-- A mode change at a scan instant (R408, R409, R410, R414). -/
def logicEnter (m : Nat) (s : State) : State :=
  let old := s.logic.mode
  if m = old then s
  else
    let s := raise 0x0C10 72 old m (b2n (m == 6)) (onLogic (fun l => { l with mode := m }) s)
    let s := if old = 5 then onLogic (fun l => { l with initDue := true, initKeep := true }) s else s
    if m = 2 ∨ m = 6 then onLogic (fun l => { l with initDue := true, initKeep := false }) (logicSafe s) else s

/-- A stepping that was cut ends at this instant (R411). -/
def stepEnd (s : State) : State :=
  let left := s.logic.steps
  raise 0x0C13 75 s.logic.scanCnt left 0 (onLogic (fun l => { l with stepping := false, stepCut := false, steps := 0 }) s)

/-- A program enters program RAM (R413). -/
def progTake (img : Bytes) (slot : Bool) (s : State) : State :=
  onLogic (fun l => { l with image := img, slot := slot, evtOn := [] }) s

/-- EV_LOGIC_PROGRAM (R413, R419). -/
def progEvent (s : State) : State :=
  raise 0x0C11 73 (progLen s.logic.image) s.logic.skipped (b2n s.logic.slot) s

/-- The switch to a new program at a scan instant: true while this instant's scan is skipped. Malor writes program
RAM in at most 2 ms, and how many scans that skips is open (R413). -/
def progSwitch (s : State) : Bool × State :=
  match s.logic.next with
  | none => (false, s)
  | some (img, slot) =>
    if s.logic.skipLeft = 0 then
      let n := 1 + Config.freeNat s.free % ((2000 + actN s 0x0C00 - 1) / actN s 0x0C00)
      (true, onLogic (fun l => { l with skipLeft := n, skipped := 1, skipCnt := satInc 32 l.skipCnt }) s.drawn)
    else if s.logic.skipLeft = 1 then
      (false, progEvent (onLogic (fun l => { l with
        next := none, skipLeft := 0, initDue := true, initKeep := true, changeDue := true }) (progTake img slot s)))
    else (true, onLogic (fun l => { l with skipLeft := l.skipLeft - 1, skipped := l.skipped + 1, skipCnt := satInc 32 l.skipCnt }) s)

/-- Mirrored values of the logic image, R words, timers, counters and host bits enter in STANDBY (R526, R528). -/
def logicMirror1 (b : Bytes) (s : State) : State :=
  let q := BitVec.ofNat 24 (byteField b 0 4)
  let p := BitVec.ofNat 576 (byteField b 4 72)
  onLogic (fun l => { l with
    img := { l.img with q := q, p := p }, dout := q, permit := p, lt := byteField b 76 8
    cmd := if byteField b 84 4 < 3 then byteField b 84 4 else l.cmd }) s

/-- A mirrored retained-flag word (KIND 4). -/
def logicMirrorR (w : Nat) (b : Bytes) (s : State) : State :=
  let m := BitVec.ofNat 1024 (0xFFFFFFFF * 2 ^ (32 * w))
  onLogic (fun l => { l with img := { l.img with r := (l.img.r &&& ~~~m) ||| BitVec.ofNat 1024 (byteField b 0 4 * 2 ^ (32 * w)) } }) s

/-- A mirrored timer (KIND 5). -/
def logicMirrorT (t : Nat) (b : Bytes) (s : State) : State :=
  let f := byteField b 8 1
  onLogic (fun l => { l with
    timers := l.timers.set t { start := byteField b 0 8, q := bit f 0, run := bit f 1, inPrev := bit f 2 }
    img := { l.img with t := bvSet l.img.t t (bit f 0) } }) s

/-- A mirrored counter (KIND 6); its bits of area C follow its count. -/
def logicMirrorC (c : Nat) (b : Bytes) (s : State) : State :=
  let f := byteField b 4 1
  let n := byteFieldS b 0 4
  let ps := tabS s 0x0C05 (4 * c) 4
  onLogic (fun l => { l with
    counters := l.counters.set c { count := n, up := bit f 0, down := bit f 1 }, img := { l.img with c := counterBits c ps n l.img.c } }) s

/-- One kind of mirrored entry is taken for each index below `n`. -/
def mirrorEach (kind n : Nat) (f : Nat → Bytes → State → State) (s : State) : State :=
  (upTo n).foldl (fun s i =>
    match mirrorTake kind i s with
    | (some b, s) => f i b s
    | (none, s) => s) s

/-- The mirrored state enters at a scan instant in STANDBY (R526). -/
def logicMirror (s : State) : State :=
  let s := mirrorEach 3 1 (fun _ => logicMirror1) s
  let s := mirrorEach 4 32 logicMirrorR s
  let s := mirrorEach 5 256 logicMirrorT s
  let s := mirrorEach 6 256 logicMirrorC s
  mirrorEach 7 8 (fun w b s => onLogic (fun l => { l with img := { l.img with h := wordPut l.img.h (w, 0xFFFFFFFF, byteField b 0 4) } }) s) s

/-- The parameters that the engine commits. -/
def logicParams (id : Nat) : Bool := 0x0C00 ≤ id && id < 0x0D00

/-- The pad-hold latch is released, and loops and axes that waited for this instant may resume (R372, R395, R409). -/
def padRelease (s : State) : State :=
  { s with
    power := { s.power with padHold := false }
    loops := s.loops.map (fun l => { l with waitScan := false })
    axes := s.axes.map (fun l => { l with waitScan := false }) }

/-- The engine's part in a scan instant while its unit is enabled (R403, R408 to R414). -/
def logicInstant (s : State) : State :=
  let s := if s.logic.eccDue then onLogic (fun l => { l with eccDue := false, faulted := true }) s else s
  let s := logicEnter (logicWanted s) s
  let s := if s.logic.stepping && (s.logic.stepCut || s.logic.mode != 3) then stepEnd s else s
  let (skip, s) := progSwitch s
  if s.logic.mode = 5 then logicMirror s
  else if s.logic.mode = 2 ∨ s.logic.mode = 6 then onLogic (fun l => { l with dout := doutSafe s }) s
  else if skip then s
  else if s.logic.mode = 1 then logicScan s.logic.initDue s
  else if s.logic.mode = 3 ∧ s.logic.stepping ∧ 0 < s.logic.steps then
    let s := logicScan (s.logic.initDue && s.logic.initKeep) (onLogic (fun l => { l with steps := l.steps - 1 }) s)
    if s.logic.steps = 0 then stepEnd s else s
  else s

/-- The tick count is at a scan instant (R403). -/
def scanInstant (s : State) : Bool := onInstant 0 (125 * actN s 0x0C00) s

/-- The samples on the direct inputs since they were last brought, and what the engine does where a scan instant has come
(R403, R409). -/
def logicTick (din : List (Nat × Nat)) (s : State) : State :=
  let s := if plantRuns s then dinFeed din s else s
  if !(plantRuns s && isl s 5 == .on && scanInstant s) then s
  else
    let hold := s.power.padHold
    let s := if logicOn s then logicInstant (parCommit logicParams s)
      else if hold ∨ s.logic.doutOn ∧ s.logic.mode = 0 then onLogic (fun l => { l with dout := doutSafe s, doutOn := true }) s
      else s
    padRelease s

/-- LOGIC_SCAN (R403): a scan instant, with the samples on DIN0 to 23 since they were last brought. -/
def execLogicScan (din : List (Nat × Nat)) (s : State) : Out := .next (logicTick din s)

/-- LOGIC_MEMORY_ECC (R414, R519): FAULT comes at the next scan instant; FAIL latches at once with cause 2. -/
def execLogicMemoryEcc (s : State) : Out :=
  .next (if plantRuns s && logicOn s then failLatch 2 (onLogic (fun l => { l with eccDue := true }) s) else s)

/-- The effect of LOGIC_MODE_SET (R408, R411, R414, R416, R516). -/
def logicModeSet (p : Bytes) (s : State) : Answer :=
  let m := byteField p 0 1
  if p.length ≠ 4 ∨ byteField p 1 3 ≠ 0 then refuse s 0x0C0A
  else if !logicOn s then refuse s 0x0C03
  else if 2 < m then refuse s 0x0C05
  else if s.pair.failsafe && m != 1 then refuse s 0x0C06
  else done (onLogic (fun l => { l with cmd := m, faulted := false, stepCut := l.stepping }) s) []

/-- LOGIC_MODE_SET (0x0C10). -/
def execLogicModeSet (m : Mail) (s : State) : Out := mailOut 0x0C10 m (logicModeSet m.payload) s

/-- The effect of LOGIC_STEP (R411). -/
def logicStep (p : Bytes) (s : State) : Answer :=
  let n := byteField p 0 1
  if p.length ≠ 4 ∨ byteField p 1 3 ≠ 0 then refuse s 0x0C0A
  else if !logicOn s then refuse s 0x0C03
  else if n = 0 then refuse s 0x0C05
  else if s.logic.mode ≠ 3 ∨ s.pair.failsafe then refuse s 0x0C06
  else done (onLogic (fun l => { l with stepping := true, stepCut := false, steps := n }) s) []

/-- LOGIC_STEP (0x0C11). -/
def execLogicStep (m : Mail) (s : State) : Out := mailOut 0x0C11 m (logicStep m.payload) s

/-- The effect of LOGIC_HOST_BITS (R416). -/
def logicHostBits (p : Bytes) (s : State) : Answer :=
  let w := byteField p 0 1
  if p.length ≠ 12 ∨ byteField p 1 3 ≠ 0 then refuse s 0x0C0A
  else if !logicOn s then refuse s 0x0C03
  else if 7 < w then refuse s 0x0C05
  else done (onLogic (fun l => { l with hostBits := l.hostBits ++ [(w, byteField p 4 4, byteField p 8 4)] }) s) []

/-- LOGIC_HOST_BITS (0x0C12). -/
def execLogicHostBits (m : Mail) (s : State) : Out := mailOut 0x0C12 m (logicHostBits m.payload) s

/-- A checked program is activated: loaded at once while the engine is OFF, else at the next scan instants (R413). -/
def logicActivate (img : Bytes) (slot : Bool) (s : State) : State :=
  if s.logic.mode = 0 then
    progEvent (onLogic (fun l => { l with initDue := true, initKeep := true, skipped := 0, skipLeft := 0, next := none }) (progTake img slot s))
  else onLogic (fun l => { l with next := some (img, slot), skipLeft := 0 }) s

/-- The consistency check of LOGIC unit 0 (R415). -/
def logicCheck (s : State) : CheckFail := if s.logic.image = [] then some (0x0C14, 0) else none

/-- LOGIC unit 0 starts: it enters its start mode at the next scan instant (R409, R415). -/
def logicStart (s : State) : State :=
  let s := parCommit logicParams (padLoadOwner 0x0C s)
  onLogic (fun l => { l with
    cmd := parN s 0x0C01, initDue := true, initKeep := false, faulted := false, eccDue := false, steps := 0, stepping := false
    stepCut := false, scanMax := 0, dout := doutSafe s, doutOn := true, img := { l.img with q := 0, p := 0 } }) s

/-- The logic stop: safe outputs and no permit (R415). -/
def logicStop (s : State) : State := logicSafe s

/-- The logic stop ends in OFF. -/
def logicStopEnd (s : State) : State :=
  let s := onLogic (fun l => { l with stepping := false, steps := 0, stepCut := false }) (logicEnter 0 s)
  match s.logic.next with
  | some (img, slot) => logicActivate img slot s
  | none => s

/-- The plant stop puts the engine in STOP with its commanded mode recorded (R76 step 4, R107, R516). -/
def logicPark (s : State) : State :=
  if logicOn s then
    let cmd := s.logic.cmd
    let s := if s.logic.stepping then stepEnd s else s
    logicEnter 2 (onLogic (fun l => { l with cmdSaved := some cmd, cmd := 1 }) s)
  else s

/-- Exit from DEEP, or the reversal of step 4, restores the commanded mode (R409). -/
def logicResume (s : State) : State :=
  match s.logic.cmdSaved with
  | some c => onLogic (fun l => { l with cmd := c, cmdSaved := none, initDue := true, initKeep := false }) s
  | none => s

/-- A full start: R takes LOGIC_R_INIT, counters, timers and host bits start anew (R409, R416). -/
def logicFullStart (s : State) : State :=
  let r := BitVec.ofNat 1024 (byteField (tab s 0x0C06) 0 128)
  onLogic (fun l => { l with
    img := { l.img with r := r, h := 0, t := 0, c := 0 }, hostBits := [], timers := List.replicate 256 {}
    counters := List.replicate 256 {} }) s

/-- On grant the output stage drives the mirrored Q and P, and the next scan is an initialising scan (R410, R533). -/
def logicGrant (s : State) : State :=
  if s.logic.mode = 5 then outputImage s.logic.img.q s.logic.img.p s else s

/-- LOGIC_STATUS (R417). -/
def logicStatus (l : LogicSt) : Nat :=
  l.mode + 8 * b2n l.stepping + 16 * b2n l.firstScan + 32 * b2n l.progChanged + 256 * b2n l.faulted + 65536 * l.steps

/-- RETAIN keeps the program, R, timers with their logic time, counters and host bits (R69, R416; log entry 31). -/
def logicRetain (s : State) : State :=
  onLogic (fun l =>
    { image := l.image, slot := l.slot, next := l.next, mode := l.mode, cmd := l.cmd, cmdSaved := l.cmdSaved
      faulted := l.faulted, initDue := l.initDue, changeDue := l.changeDue, lt := l.lt
      img := { r := l.img.r, t := l.img.t, c := l.img.c, h := l.img.h }, timers := l.timers, counters := l.counters
      hostBits := l.hostBits, dout := l.dout, doutOn := l.doutOn }) s

/-- The bits of an area as a number. -/
def areaNat (m : Image) (area : Nat) : Nat :=
  match area with
  | 0 => m.i.toNat
  | 1 => m.q.toNat
  | 2 => m.p.toNat
  | 3 => m.m.toNat
  | 4 => m.r.toNat
  | 5 => m.t.toNat
  | 6 => m.c.toNat
  | 7 => m.s.toNat
  | 8 => m.h.toNat
  | _ => 0

/-- The word of a readable image at a byte offset, 512 bytes to an area (R417). -/
def imageWord (m : Image) (off : Nat) : Nat := areaNat m (off / 512) / 2 ^ (8 * (off % 512)) % 2 ^ 32

/-- The word of a timer at a byte offset of its 16 (R417). -/
def tmrWord (x : Tmr) (off : Nat) : Nat :=
  match off with
  | 0 => x.start % 2 ^ 32
  | 4 => x.start / 2 ^ 32
  | 8 => flagsNat [x.q, x.run, x.inPrev]
  | _ => 0

/-- A register of the logic engine by its offset in the region (R417). -/
def logicReg (s : State) (off : Nat) : Nat :=
  let l := s.logic
  if off < 0x80000 then
    match off with
    | 0x00 => logicStatus l
    | 0x04 => l.scanCnt
    | 0x08 => l.scanTime % 65536 + 65536 * (l.scanMax % 65536)
    | 0x0C => l.lt % 2 ^ 32
    | 0x10 => l.lt / 2 ^ 32
    | 0x14 => l.ts
    | 0x18 => if l.image = [] then 0 else progLen l.image
    | 0x1C => l.skipCnt
    | 0x20 => l.evtDrop
    | _ => 0
  else if off < 0x81200 then imageWord l.img (off - 0x80000)
  else if 0x82000 ≤ off ∧ off < 0x83200 then imageWord l.prev (off - 0x82000)
  else if 0x84000 ≤ off ∧ off < 0x85000 then tmrWord (nth {} l.timers ((off - 0x84000) / 16)) (off % 16)
  else if 0x85000 ≤ off ∧ off < 0x85800 then
    let c := nth {} l.counters ((off - 0x85000) / 8)
    if off % 8 = 0 then toBits 32 c.count else flagsNat [c.up, c.down]
  else if 0x90000 ≤ off then byteField ((imgBody l.image).drop 32) (off - 0x90000) 4
  else 0

end Sys2Proof.Machine
end

