-- ==== Sys2Proof/Machine/Recorder.lean ====
section
/-! DEFINITION. The event recorder: flushing to NOR, sector failures and wear, start and reading (R542 to R564). -/

namespace Sys2Proof.Machine

/-- The recorder's state changed. -/
def onRec (f : RecorderSt → RecorderSt) (s : State) : State := { s with recorder := f s.recorder }

/-- A record of the status sector (R550): SOURCE 0xFF, SEQ the number the next record will take. -/
def statusRec (s : State) (code p1 p2 p3 : Nat) : Rec :=
  { code, flags := 0, source := 0xFF, seq := s.recorder.seqAon, ont := s.time.ont, p1, p2, p3 }

/-- An event of the recorder's software: in MINIMAL the boot ROM raises it, else Malor (R542, R552). -/
def recRaise (code src p1 p2 p3 : Nat) (s : State) : State := raiseBy s.mgmt.minimal code src p1 p2 p3 s

/-- The next slot of the status sector is programmed; when the sector is full EV_RECORDER_STATUS_FULL is raised
once (R550). -/
def statusPut (x : Slot) (s : State) : State :=
  if 2048 ≤ s.recorder.status.length then s
  else
    let s := onRec (fun r => { r with status := r.status ++ [x] }) s
    if 2048 ≤ s.recorder.status.length && !s.recorder.statusFullRaised then
      recRaise 0x1217 55 (s.recorder.seqAon % 2 ^ 32) 0 0 (onRec (fun r => { r with statusFullRaised := true }) s)
    else s

/-- A record goes to the status sector (R550). -/
def statusWrite (x : Rec) (s : State) : State := statusPut (.record x) s

/-- P1 of a map or bad record: ring, position, sector (R550). -/
def mapP1 (ring pos sector : Nat) : Nat := ring + 256 * pos + 65536 * sector

/-- A position may take records. -/
def posUsable (p : RingPos) : Bool := p.good && !p.relocPending && !p.dropped

/-- The next usable position after `p`, in wrapping order. -/
def nextPos (l : List RingPos) (p : Nat) : Option Nat :=
  ((upTo l.length).map (fun k => (p + 1 + k) % l.length)).find? (fun q =>
    match l[q]? with | some x => posUsable x | none => false)

/-- G: the positions of a ring not dropped (R549, R554). -/
def goodCount (l : List RingPos) : Nat := (l.filter (fun p => !p.dropped)).length

/-- The positions of a ring. -/
def ringOf (r : RecorderSt) (ring : Nat) : List RingPos := if ring = 0 then r.circ else r.save

/-- One position of a ring changed. -/
def setPos (ring pos : Nat) (f : RingPos → RingPos) (r : RecorderSt) : RecorderSt :=
  if ring = 0 then { r with circ := modNth r.circ pos f } else { r with save := modNth r.save pos f }

/-- The highest SEQ among the records of the save ring (R463). -/
def ringSaveSeq (r : RecorderSt) : Nat := (r.save.flatMap (·.saves)).foldl (fun a b => max a (byteField b 8 4)) 0

/-- P3 of a map record: the ring's progress at the mapping (R550). -/
def mapProgress (ring : Nat) (r : RecorderSt) : Nat := if ring = 0 then r.seqAon / 2048 else ringSaveSeq r / 128

/-- A sector is mapped to a position and erased: the map record is written (R550, R553). -/
def mapSector (ring pos sector erases : Nat) (s : State) : State :=
  statusWrite (statusRec s 0x1220 (mapP1 ring pos sector) erases (mapProgress ring s.recorder))
    (onRec (setPos ring pos (fun p =>
      { p with sector := sector, erases := erases + 1, slots := [], saves := [], good := true, relocPending := false })) s)

/-- A position's sector is erased (R549). -/
def erasePos (ring pos : Nat) (s : State) : State :=
  onRec (setPos ring pos (fun p => { p with slots := [], saves := [], erases := p.erases + 1 })) s

/-- The spare sector that levelling has set aside for a position, with its erase count, while it is free and the status
sector can take its map record (R550, R555). -/
def levelSpare (ring pos : Nat) (r : RecorderSt) : Option (Nat × Nat) :=
  if 2048 ≤ r.status.length then none
  else ((r.levelling.find? (fun x => x.1 == ring && x.2.1 == pos)).bind (fun x =>
    (lookupNat x.2.2 r.spare).map (fun e => (x.2.2, e))))

/-- A position is no longer marked for levelling. -/
def unmark (ring pos : Nat) (l : List (Nat × Nat × Nat)) : List (Nat × Nat × Nat) :=
  l.filter (fun x => !(x.1 == ring && x.2.1 == pos))

/-- The erase-ahead of a position (R549): its sector is erased, or, where levelling waits on it, the spare sector is
mapped into it and the worn sector returns to the pool (R555). -/
def eraseAhead (ring pos : Nat) (s : State) : State :=
  match levelSpare ring pos s.recorder, (ringOf s.recorder ring)[pos]? with
  | some (spare, e), some p =>
    mapSector ring pos spare e (onRec (fun r =>
      { r with levelling := unmark ring pos r.levelling, spare := insertNat p.sector p.erases (eraseNat spare r.spare) }) s)
  | _, _ => erasePos ring pos s

/-- The position a ring is being written at. -/
def writePos (r : RecorderSt) (ring : Nat) : Nat := if ring = 0 then r.circPos else r.savePos

/-- The failed position of a ring is left at once where it was being written: the next good position is erased and
written from now on (R553, R556). -/
def leavePos (ring pos : Nat) (s : State) : State :=
  if writePos s.recorder ring = pos then
    match nextPos (ringOf s.recorder ring) pos with
    | some q => onRec (fun r => if ring = 0 then { r with circPos := q } else { r with savePos := q }) (eraseAhead ring q s)
    | none => s
  else s

/-- The write point is at a usable position of a ring. -/
def atUsable (ring : Nat) (r : RecorderSt) : Bool :=
  match (ringOf r ring)[writePos r ring]? with | some p => posUsable p | none => false

/-- A write point that had no good position to go to goes to the next one there is now (R553). -/
def seekPos (ring : Nat) (s : State) : State :=
  if atUsable ring s.recorder then s else leavePos ring (writePos s.recorder ring) s

/-- The next slot of the circulating area is programmed (R549): at the write position; when that position's last slot is
programmed the next good position is erased ahead. -/
def circPut (x : Slot) (s : State) : State :=
  if s.recorder.ramOnly then s
  else
    let s := seekPos 0 s
    let pos := s.recorder.circPos
    let s := onRec (setPos 0 pos (fun p => { p with slots := p.slots ++ [x] })) s
    match s.recorder.circ[pos]? with
    | none => s
    | some p =>
      if p.slots.length < 2048 then s
      else match nextPos s.recorder.circ pos with
        | none => s
        | some q => onRec (fun r => { r with circPos := q }) (eraseAhead 0 q s)

/-- The next slot of the permanent area is programmed until that is full; what fills slot 8,191 is followed by
EV_RECORDER_PERM_FULL (R548). -/
def permPut (x : Slot) (s : State) : State :=
  if s.recorder.perm.length < 8192 then
    let s := onRec (fun r => { r with perm := r.perm ++ [x] }) s
    if s.recorder.perm.length = 8192 then recRaise 0x1216 55 (s.recorder.seqAon % 2 ^ 32) 0 0 s else s
  else s

/-- A record enters the permanent area until that is full; a pinned one then goes to the status sector (R548, R551). -/
def permAppend (x : Rec) (s : State) : State :=
  if s.recorder.perm.length < 8192 then permPut (.record x) s
  else if bit x.flags 0 then statusWrite x s
  else s

/-- One record is programmed into NOR (R546, R548, R549); in RAM-only operation the circulating area takes none (R554). -/
def programRec (x : Rec) (s : State) : State :=
  onRec (fun r => { r with flushEnd := x.seq + 1 }) (circPut (.record x) (permAppend x s))

/-- REC_SEQ_AON [63:32] is written to the status sector when it has changed (R550). -/
def seqHighCheck (s : State) : State :=
  let h := s.recorder.seqAon / 2 ^ 32
  if h = s.recorder.seqHigh then s
  else statusWrite (statusRec s 0x1222 h 0 0) (onRec (fun r => { r with seqHigh := h }) s)

/-- With slots free again, the writer first records the overflow (R545). -/
def overflowReport (s : State) : State :=
  match s.recorder.ovfOpen with
  | none => s
  | some (n, t) => raise 0x1214 54 n t 0 (onRec (fun r => { r with ovfOpen := none }) s)

/-- The unflushed records; in RAM-only operation the buffer also keeps flushed ones (R545, R554). -/
def unflushed (r : RecorderSt) : List Rec :=
  if r.ramOnly then r.buf.filter (fun x => decide (r.flushEnd ≤ x.seq)) else r.buf

/-- A flushed record leaves the buffer, whose slot keeps it until it is written again; in RAM-only operation the buffer
stays as it is (R545, R554). -/
def bufTake (l : List Rec) (r : RecorderSt) : RecorderSt :=
  if r.ramOnly then r else { r with buf := [], kept := (l.reverse ++ r.kept).take 2048 }

/-- A flush (R546): every unflushed record is programmed, in SEQ order, each once, after the rebuild (R547). The slots
being free, the writer first records an overflow (R545). While every position of the circulating area has failed and
awaits its spare sector, the records wait (log 32). -/
def flush (s : State) : State :=
  if !s.recorder.rebuilt || !(s.recorder.ramOnly || s.recorder.circ.any posUsable) then s
  else
    let l := unflushed s.recorder
    l.foldl (fun s x => programRec x s) (overflowReport (onRec (bufTake l) (seqHighCheck s)))

/-- A flush is due (R546): the unflushed count has reached REC_FLUSH_FILL, or the oldest unflushed record is older than
REC_FLUSH_AGE. -/
def flushDue (s : State) : Bool :=
  match unflushed s.recorder with
  | [] => false
  | x :: l => decide (parN s 0x1201 ≤ l.length + 1) || elapsed (some x.ont) (parN s 0x1200 * 1000000 + 1) s

/-- RECORDER_FLUSH (R546): Malor, or the boot ROM in MINIMAL, flushes the buffer when that is due. -/
def execRecorderFlush (s : State) : Out := .next (if (served s || s.power.saveCycle) && flushDue s then flush s else s)

/-- The part stops writing the circulating area when fewer than 4 positions are left (R554). -/
def ramOnlyCheck (pos sector : Nat) (s : State) : State :=
  if goodCount s.recorder.circ < 4 && !s.recorder.ramOnly then
    raise 0x1211 52 pos sector (goodCount s.recorder.circ) (overflowReport (onRec (fun r => { r with
      ramOnly := true, kept := [], buf := (r.kept.reverse ++ r.buf).drop (r.kept.length + r.buf.length - 2048) }) s))
  else s

/-- A record enters the save ring; the sector that it fills is followed by the erase-ahead of the next (R556). -/
def savePut (b : Bytes) (s : State) : State :=
  let s := seekPos 1 s
  let pos := s.recorder.savePos
  let s := onRec (setPos 1 pos (fun p => { p with saves := p.saves ++ [b] })) s
  match s.recorder.save[pos]? with
  | none => s
  | some p =>
    if p.saves.length < 128 then s
    else match nextPos s.recorder.save pos with
      | none => s
      | some q => onRec (fun r => { r with savePos := q }) (eraseAhead 1 q s)

/-- The write point lies on another position than `pos`. -/
def movedFrom (ring pos : Nat) (r : RecorderSt) : Bool := writePos r ring != pos

/-- The slot that was being programmed at a failed position of the circulating area is damaged, and its record is
written again at the write point (R543, R553). -/
def rewriteRec (pos : Nat) (s : State) : State :=
  match (s.recorder.circ[pos]?).bind (fun p => p.slots.getLast?) with
  | some (.record x) => circPut (.record x) (onRec (setPos 0 pos (fun p => { p with slots := p.slots.dropLast ++ [.damaged] })) s)
  | _ => s

/-- A failed save write raises EV_METER_SAVE_FAIL, and the save is written at once to the next good position (R556). -/
def rewriteSave (pos sector : Nat) (s : State) : State :=
  match (s.recorder.save[pos]?).bind (fun p => p.saves.getLast?) with
  | some b =>
    let s := raise 0x0E11 88 (byteField b 8 4) sector 0x1210 (onRec (setPos 1 pos (fun p => { p with saves := p.saves.dropLast })) s)
    if movedFrom 1 pos s.recorder then savePut b s else s
  | none => s

/-- A NOR program, erase or read-back fails at a ring position, with the cause 0, 1 or 2 (R553, R556). -/
def sectorFail (ring pos cause : Nat) (s : State) : State :=
  match (ringOf s.recorder ring)[pos]? with
  | none => s
  | some p =>
    if !posUsable p then s
    else
      let s := onRec (setPos ring pos (fun p => { p with good := false, relocPending := true })) s
      let s := statusWrite (statusRec s 0x1221 (mapP1 ring pos p.sector) cause 0) s
      let s := leavePos ring pos (recRaise 0x1212 53 ring pos p.sector s)
      if cause = 1 then s
      else if ring = 0 then (if movedFrom 0 pos s.recorder then rewriteRec pos s else s)
      else rewriteSave pos p.sector s

/-- NOR_SECTOR_FAIL (R553). -/
def execNorSectorFail (ring pos cause : Nat) (s : State) : Out := .next (sectorFail ring pos cause s)

/-- The lowest-numbered free spare sector (R553). -/
def lowestSpare (r : RecorderSt) : Option (Nat × Nat) := r.spare.head?

/-- The failed positions of both rings, circulating first. -/
def failedPos (r : RecorderSt) : List (Nat × Nat) :=
  ((upTo r.circ.length).filter (fun i => match r.circ[i]? with | some p => p.relocPending | none => false)).map (fun i => (0, i)) ++
  ((upTo r.save.length).filter (fun i => match r.save[i]? with | some p => p.relocPending | none => false)).map (fun i => (1, i))

/-- Relocation of one failed position (R553, R554, R556). -/
def relocate (ring pos : Nat) (s : State) : State :=
  match (ringOf s.recorder ring)[pos]? with
  | none => s
  | some p =>
    match lowestSpare s.recorder with
    | some (sec, e) =>
      let s := onRec (fun r => { r with
        spare := eraseNat sec r.spare, bad := insertNat p.sector p.erases r.bad
        levelling := r.levelling.filter (fun x => x.2.2 != sec) }) s
      raise 0x1213 53 ring pos sec (mapSector ring pos sec e s)
    | none =>
      let s := onRec (setPos ring pos (fun p => { p with relocPending := false, dropped := true })) s
      if ring = 0 then
        ramOnlyCheck pos p.sector (raise 0x1210 52 pos p.sector (goodCount s.recorder.circ) s)
      else raise 0x1218 52 pos p.sector (goodCount s.recorder.save) s

/-- Wear work runs only under Malor, below shed level 3, and while the status sector can take a map record
(R110, R111, R550, R552). -/
def wearWorks (s : State) : Bool := malorWorks s && s.mgmt.shed < 3 && s.recorder.status.length < 2048

/-- RELOCATION (R553): the first failed position is given a spare sector, or dropped. -/
def execRelocation (s : State) : Out :=
  .next (if wearWorks s then
    match failedPos s.recorder with
    | [] => s
    | (ring, pos) :: _ => relocate ring pos s
  else s)

/-- The least-worn free spare sector (R555). -/
def leastWorn : List (Nat × Nat) → Option (Nat × Nat)
  | [] => none
  | (a, e) :: r =>
    match leastWorn r with
    | none => some (a, e)
    | some (b, f) => if f < e then some (b, f) else some (a, e)

/-- The free spare sectors that levelling has not set aside. -/
def freeSpares (r : RecorderSt) : List (Nat × Nat) :=
  r.spare.filter (fun x => !(r.levelling.any (fun y => y.2.2 == x.1)))

/-- STATIC_LEVELLING (R555): a mapped sector that exceeds the least-worn free spare by 20,000 erases is exchanged for it
at its next erase-ahead. -/
def execStaticLevelling (ring pos : Nat) (s : State) : Out :=
  .next (if wearWorks s && !(s.recorder.levelling.any (fun x => x.1 == ring && x.2.1 == pos)) then
    match (ringOf s.recorder ring)[pos]?, leastWorn (freeSpares s.recorder) with
    | some p, some (sp, e) =>
      if posUsable p ∧ e + 20000 ≤ p.erases then onRec (fun r => { r with levelling := r.levelling ++ [(ring, pos, sp)] }) s
      else s
    | _, _ => s
  else s)

/-- The records of a list of slots that verify. -/
def slotRecs (l : List Slot) : List Rec :=
  l.filterMap (fun x => match x with | .record r => some r | .damaged => none)

/-- The circulating area from its oldest position on, in writing order; a dropped position holds none (R554). -/
def circRecs (r : RecorderSt) : List Rec :=
  ((upTo r.circ.length).map (fun k => (r.circPos + 1 + k) % r.circ.length)).flatMap (fun i =>
    match r.circ[i]? with | some p => if p.dropped then [] else slotRecs p.slots | none => [])

/-- Every record of the main log, from NOR and from the buffer, in SEQ order (R557); one that both hold counts once. -/
def allRecs (r : RecorderSt) : List Rec :=
  (match r.buf with
   | [] => circRecs r
   | x :: _ => (circRecs r).filter (fun y => decide (y.seq < x.seq))) ++ r.buf

/-- NEWEST: the SEQ before the next. -/
def newest (r : RecorderSt) : Nat := toBits 32 ((r.seqAon : Int) - 1)

/-- OLDEST: the lowest SEQ still held. -/
def oldest (r : RecorderSt) : Nat :=
  match allRecs r with | x :: _ => x.seq % 2 ^ 32 | [] => r.seqAon % 2 ^ 32

/-- The records whose SEQ is not before `start`, at most `n`. -/
def recsFrom (r : RecorderSt) (start n : Nat) : List Rec :=
  ((allRecs r).filter (fun x => 0 ≤ signedDiff 32 (x.seq % 2 ^ 32) start)).take n

/-- Slots `start` on of an area as stored, empty slots as 0xFF. -/
def slotsFrom (area : List Slot) (size start n : Nat) : List Bytes :=
  (upTo (min n (size - start))).map (fun k =>
    match area[start + k]? with | some x => slotBytes x | none => List.replicate 32 0xFF)

/-- The seal over a REC_READ response (R557). -/
def recSeal (s : State) (body : Bytes) : Bytes :=
  (Config.hmac384 (slotKey s 1 5) (uidBytes s ++ body)).take 16

/-- The body of a REC_READ response. -/
def recResponse (s : State) (sealed : Bool) (recs : List Bytes) (fill : Nat) : Bytes :=
  let h := leBytes 4 (oldest s.recorder) ++ leBytes 4 (newest s.recorder) ++ leBytes 2 recs.length ++
    leBytes 2 (b2n s.recorder.ramOnly + 2 * b2n sealed) ++ leBytes 4 fill
  let b := h ++ recs.flatten
  if sealed then b ++ recSeal s b else b

/-- The effect of REC_READ (R557, R560). -/
def recRead (p : Bytes) (s : State) : Answer :=
  let area := byteField p 0 1
  let n := byteField p 1 1
  let fl := byteField p 2 1
  let start := byteField p 4 4
  let sealed := bit fl 0
  if p.length ≠ 8 ∨ 1 < fl ∨ byteField p 3 1 ≠ 0 then refuse s 0x120A
  else if 2 < area ∨ n = 0 ∨ (if sealed then 29 else 30) < n then refuse s 0x1205
  else if sealed && !s.sec.rootOk then refuse s 0x1206
  else if area = 0 then
    if 1 < signedDiff 32 start (newest s.recorder) then refuse s 0x1205
    else
      let st := if signedDiff 32 start (oldest s.recorder) < 0 then oldest s.recorder else start
      done s (recResponse s sealed ((recsFrom s.recorder st n).map recBytes) (unflushed s.recorder).length)
  else
    let size := if area = 1 then 8192 else 2048
    let l := if area = 1 then s.recorder.perm else s.recorder.status
    if size ≤ start then refuse s 0x1205
    else done s (recResponse s sealed (slotsFrom l size start n) l.length)

/-- REC_READ (0x1210). -/
def execRecRead (m : Mail) (s : State) : Out := mailOut 0x1210 m (recRead m.payload) s

/-- The effect of REC_VERIFY (R559): 1 where the tag of a sealed export matches. -/
def recVerify (p : Bytes) (s : State) : Answer :=
  if p.length < 32 ∨ p.length ≠ 32 + 32 * byteField p 8 2 then refuse s 0x120A
  else if !s.sec.rootOk then refuse s 0x1206
  else
    let b := p.take (p.length - 16)
    done s [if recSeal s b = p.drop (p.length - 16) then 1 else 0]

/-- REC_VERIFY (0x1211). -/
def execRecVerify (m : Mail) (s : State) : Out := mailOut 0x1211 m (recVerify m.payload) s

/-- NOR_SPARE_FREE (R117, R553). -/
def spareFree (r : RecorderSt) : Nat := r.spare.length

/-- NOR_ERASE_MAX: the highest erase count of the ring and spare sectors, failed ones too (R117, R555). -/
def eraseMax (r : RecorderSt) : Nat :=
  ((r.circ ++ r.save).map (·.erases) ++ (r.spare ++ r.bad).map (·.2)).foldl max 0

/-- REC_FLUSHED: the SEQ of the last record programmed into NOR (R561). -/
def recFlushed (r : RecorderSt) : Nat := if r.flushEnd = 0 then 0 else (r.flushEnd - 1) % 2 ^ 32

/-- REC_STATUS (R562). -/
def recStatus (r : RecorderSt) : Nat :=
  goodCount r.circ + 256 * goodCount r.save + 2 ^ 16 * b2n r.ramOnly + 2 ^ 17 * b2n (8192 ≤ r.perm.length) +
    2 ^ 18 * b2n (2048 ≤ r.status.length) + 2 ^ 19 * b2n r.flushing + 2 ^ 20 * b2n (!(failedPos r).isEmpty)

/-- A register that Malor writes reads 0 from a MGMT reset to start step 8 (R117, R561). -/
def malorWord (r : RecorderSt) (v : Nat) : Nat := if r.regsValid then v else 0

/-- A recorder register of the management core region (R561). -/
def recReg (s : State) (off : Nat) : Nat :=
  let r := s.recorder
  match off with
  | 0x2200 => malorWord r (recStatus r)
  | 0x2204 => r.seqAon % 2 ^ 32
  | 0x2208 => malorWord r (oldest r)
  | 0x220C => malorWord r (recFlushed r)
  | 0x2210 => (unflushed r).length
  | 0x2214 => malorWord r r.perm.length
  | 0x2218 => malorWord r r.status.length
  | 0x221C => r.ovfCnt
  | 0x2220 => malorWord r r.tornCnt
  | _ => 0

/-- The twelve values of REC_STATUS_GET (R560). -/
def recStatusWords (s : State) : List Nat :=
  let r := s.recorder
  [recReg s 0x2200, recReg s 0x2204, recReg s 0x2208, newest r, recReg s 0x220C, recReg s 0x2210, recReg s 0x2214,
   recReg s 0x2218, malorWord r (spareFree r), malorWord r (eraseMax r), r.ovfCnt, r.dropCnt]

/-- The effect of REC_STATUS_GET (R560). -/
def recStatusGet (p : Bytes) (s : State) : Answer :=
  if p ≠ [] then refuse s 0x120A
  else done s ((recStatusWords s).flatMap (leBytes 4))

/-- REC_STATUS_GET (0x1200). -/
def execRecStatusGet (m : Mail) (s : State) : Out := mailOut 0x1200 m (recStatusGet m.payload) s

/-- The records found in NOR. -/
def norRecs (r : RecorderSt) : List Rec := circRecs r ++ slotRecs r.perm ++ slotRecs r.status

/-- The highest sequence number found in NOR. -/
def highestNor (r : RecorderSt) : Nat := (norRecs r).foldl (fun a x => max a x.seq) 0

/-- The base of the rebuild: the highest sequence number in NOR plus 2,049; with no record in NOR the spec states none,
and it is free (R547, log 32). -/
def rebuildBase (s : State) : Nat :=
  if norRecs s.recorder = [] then Config.freeNat s.free % 2 ^ 62 else highestNor s.recorder + 2049

/-- A list without the elements at some places; `i` is the place of its head. -/
def dropPlaces {α : Type} (bad : List Nat) : Nat → List α → List α
  | _, [] => []
  | i, a :: l => if bad.contains i then dropPlaces bad (i + 1) l else a :: dropPlaces bad (i + 1) l

/-- A torn record at the write point of an area: the damaged slot is counted and reported, and writing goes on at the
next (R552). -/
def tornSlot (area : Nat) (s : State) : State :=
  let r := s.recorder
  let slot := match area with
    | 0 => 2048 * r.circPos + ((r.circ[r.circPos]?).map (·.slots.length)).getD 0
    | 1 => r.perm.length
    | _ => r.status.length
  let s := match area with
    | 0 => circPut .damaged s
    | 1 => permPut .damaged s
    | _ => statusPut .damaged s
  recRaise 0x1215 54 slot (ontLo s) 0 (onRec (fun r => { r with tornCnt := satInc 32 r.tornCnt }) s)

/-- The rebuild at start step 8 or MINIMAL entry (R547, R552): the records that the buffer lost to a failing CRC-32C are
dropped (R109), erases that were cut short are made again, and the buffer is flushed. -/
def rebuild (x : StartIn) (s : State) : State :=
  let s := if s.recorder.rebuilt then s
    else
      let base := rebuildBase s
      onRec (fun r => { r with buf := renumber base r.buf, seqAon := base + r.buf.length, rebuilt := true }) s.drawn
  let keep := dropPlaces x.badRecs 0 s.recorder.buf
  let s := onRec (fun r =>
    { r with buf := keep, dropCnt := min (r.dropCnt + (r.buf.length - keep.length)) (2 ^ 32 - 1), regsValid := true }) s
  flush (x.torn.foldl (fun s a => tornSlot a s) (x.cut.foldl (fun s p => erasePos p.1 p.2 s) s))

/-- A MGMT reset: Malor's recorder registers read 0 until start step 8 (R561); its counter clears (R117). -/
def recMgmtReset (r : RecorderSt) : RecorderSt := { r with regsValid := false, dropCnt := 0, tornCnt := 0 }

/-- MGMT's supply is lost: the buffer is lost (R547). -/
def recSupplyLost (r : RecorderSt) : RecorderSt :=
  { recMgmtReset r with buf := [], kept := [], ovfOpen := none, ovfCnt := 0, flushing := false }

/-- POR_N: REC_SEQ_AON restarts at 0 (R47, R547). -/
def recPor (r : RecorderSt) : RecorderSt := { recSupplyLost r with seqAon := 0, rebuilt := false }

end Sys2Proof.Machine
end

