-- ==== Sys2Proof/Machine/Meter.lean ====
section
/-! DEFINITION. Energy metering and billed quantities (R447 to R471). -/

namespace Sys2Proof.Machine

/-- The metering state changed. -/
def onMeter (f : MeterSt → MeterSt) (s : State) : State := { s with meter := f s.meter }

/-- One meter. -/
def meterOf (s : State) (m : Nat) : MeterUnit := nth {} s.meter.units m

/-- One meter changed. -/
def onUnit (m : Nat) (f : MeterUnit → MeterUnit) (s : State) : State :=
  onMeter (fun x => { x with units := modNth x.units m f }) s

/-- One pulse output changed. -/
def onPulse (n : Nat) (f : Pulse → Pulse) (s : State) : State :=
  onMeter (fun x => { x with pulses := modNth x.pulses n f }) s

/-- The IDs of a meter's and of a pulse output's parameters (R470). -/
def meterId (m j : Nat) : Nat := 0x4000 + 0x100 * m + j
def pulseId (n j : Nat) : Nat := 0x4600 + 0x10 * n + j

/-- The parameters that a step boundary commits (R447). -/
def meterParams (id : Nat) : Bool := (0x4000 ≤ id && id < 0x4680) || (0x0E00 ≤ id && id < 0x0F00)

/-- The number of an accumulator in snapshot order (R468). -/
def accIx (m q : Nat) : Nat := if m < 2 then 5 * m + q else 10 + 4 * (m - 2) + q

/-- How many quantities a meter has (R458). -/
def meterQty (m : Nat) : Nat := if m < 2 then 5 else 4

/-- The pair mirrors an item: PAIR_MIRROR_LIST names it (R526). -/
def mirrorListed (s : State) (kind index : Nat) : Bool :=
  (upTo 2048).any (fun k => tabN s 0x7000 (4 * k) 1 == kind && tabN s 0x7000 (4 * k + 2) 2 == index)

/-- A meter that the standby takes from the mirror integrates nothing (R528). -/
def meterMirrored (s : State) (m : Nat) : Bool := standby s && mirrorListed s 8 m

/-- A free output with a backlog starts a pulse (R461). -/
def pulseKick (n : Nat) (s : State) : State :=
  let p := nth {} s.meter.pulses n
  if plantRuns s && isl s 6 == .on && p.phase == 0 && p.backlog != 0 && !(standby s && mirrorListed s 8 (actN s (pulseId n 0))) then
    onPulse n (fun p => { p with backlog := p.backlog - 1, phase := 1, used := true }) s
  else s

/-- An increment in 2^-32 of the LSB reaches a pulse output (R461). -/
def pulseAdd (n m q inc : Nat) (s : State) : State :=
  if actN s (pulseId n 0) ≠ m ∨ actN s (pulseId n 1) ≠ q then s
  else
    let p := nth {} s.meter.pulses n
    let per := actN s (pulseId n 2) * 2 ^ 32
    let k := (p.e + inc) / per
    let lost := decide (65535 < p.backlog + k)
    let s := onPulse n (fun p => { p with e := (p.e + inc) % per, backlog := min 65535 (p.backlog + k), ovf := p.ovf || lost }) s
    if lost then raise 0x0E14 91 n m q s else s

/-- Energy is added to an accumulator, with its residue, and to the outputs that follow it (R458, R461). -/
def addEnergy (m q : Nat) (e : Rat) (s : State) : State :=
  let x := accIx m q
  let inc := (ratRound (e * 4294967296)).toNat
  let tot := nth 0 s.meter.res x + inc
  let s := onMeter (fun t => { t with
    acc := modNth t.acc x (fun a => (a + tot / 2 ^ 32) % 2 ^ 64), res := t.res.set x (tot % 2 ^ 32) }) s
  (upTo 8).foldl (fun s n => pulseAdd n m q inc s) s

/-- Flags join QUAL; the first setting of each in a save interval raises EV_METER_QUALITY (R455). -/
def meterFlag (m fl : Nat) (s : State) : State :=
  let old := (meterOf s m).qual
  let new := Nat.lor old fl
  let s := onUnit m (fun u => { u with qual := new }) s
  if new = old then s else raise 0x0E13 90 m new (ontLo s) s

/-- The QUAL flags that channel flags give (R455): OVR, REF, CAL_FAIL. -/
def channelQual (fl : Nat) : Nat := b2n (bit fl 4) + 2 * b2n (bit fl 1 || bit fl 2) + 8 * b2n (bit fl 6)

/-- A free rational value for a sample mean the spec does not state. -/
def freeRat (k : Nat) : Rat := (Config.freeNat k : Rat)

/-- A point of METER_I_SEG: I_k in mA, G_k, Φ_k in µrad (R449). -/
def segPoint (s : State) (f p k : Nat) : Nat × Rat × Rat :=
  let o := 108 * p + 12 * k
  let t := meterId f 4
  (tabN s t o 4, (tabN s t (o + 4) 4 : Rat) / 1073741824, (tabS s t (o + 8) 4 : Rat))

/-- Gain, phase and segment of a current channel at the previous step's Irms (R449). -/
def segAt (s : State) (f p : Nat) (irms : Option Rat) : Rat × Rat × Nat :=
  let pt := segPoint s f p
  match irms with
  | none => ((pt 0).2.1, (pt 0).2.2, 0)
  | some i =>
    if i ≤ (pt 0).1 then ((pt 0).2.1, (pt 0).2.2, 0)
    else match (upTo 8).find? (fun k => decide (i < ((pt (k + 1)).1 : Rat))) with
      | none => ((pt 8).2.1, (pt 8).2.2, 7)
      | some k =>
        let (i0, g0, f0) := pt k
        let (i1, g1, f1) := pt (k + 1)
        let x := (i - (i0 : Rat)) / ((i1 : Rat) - (i0 : Rat))
        (g0 + (g1 - g0) * x, f0 + (f1 - f0) * x, k)

/-- The sample pairs of a step that both channels published. -/
def goodPairs (v i : List (Option Int)) : List (Int × Int) :=
  (v.zip i).filterMap (fun p => match p with | (some a, some b) => some (a, b) | _ => none)

/-- A sum over sample pairs. -/
def pairSum (f : Int × Int → Int) (l : List (Int × Int)) : Rat := ((l.foldl (fun a p => a + f p) 0 : Int) : Rat)

/-- The mean of a step with `miss` of `n` samples replaced by the previous complete step's mean (R455). -/
def fillMean (sum prev : Rat) (n miss : Nat) : Rat := if n = 0 then prev else (sum + (miss : Rat) * prev) / (n : Rat)

/-- One phase of a feeder over one step (R448 to R450): its new values, and whether samples were missing. -/
def phaseStep (s : State) (f p : Nat) : FeederPhase × Bool :=
  let x := nth {} (meterOf s f).phases p
  let cv := adcCh s (6 * f + p)
  let ci := adcCh s (6 * f + 3 + p)
  let (gI, phI, seg) := segAt s f p x.prevI
  let gV : Rat := (tabN s (meterId f 3) (8 * p) 4 : Rat) / 1073741824
  let phV : Rat := (tabS s (meterId f 3) (8 * p + 4) 4 : Rat)
  let kv := gV * (act s (meterId f 0) : Rat) / 8388608
  let ki := gI * (act s (meterId f 1) : Rat) / 8388608 * (if bit (actN s (meterId f 2)) p then -1 else 1)
  let good := goodPairs cv.step ci.step
  let n := min cv.step.length ci.step.length
  let miss := n - good.length
  let b := s.free + 32 * f + 4 * p
  let (p0, p1, p2, p3) := x.means.getD (freeRat b, freeRat (b + 1), freeRat (b + 2), freeRat (b + 3))
  let m0 := fillMean (pairSum (fun y => y.1 * y.2) good * kv * ki) p0 n miss
  let m1 := fillMean (Config.quadMean cv.hist cv.step ci.hist ci.step * (good.length : Rat) * kv * ki) p1 n miss
  let m2 := fillMean (pairSum (fun y => y.1 * y.1) good * kv * kv) p2 n miss
  let m3 := fillMean (pairSum (fun y => y.2 * y.2) good * ki * ki) p3 n miss
  let c := Config.cosMicro (phI - phV)
  let sn := Config.sinMicro (phI - phV)
  let i := Config.sqrtRat m3
  ({ prevI := some i, vrms := Config.sqrtRat m2, irms := i, p := (m0 * c + m1 * sn) / 1000000
     q := (m1 * c - m0 * sn) / 1000000, seg := seg, means := if miss = 0 ∧ n ≠ 0 then some (m0, m1, m2, m3) else x.means },
   decide (miss ≠ 0) || n == 0)

/-- The statistics of the save interval take a step power (R463). -/
def intervalAdd (m : Nat) (p : Rat) (s : State) : State :=
  onUnit m (fun u => { u with
    sum := u.sum + p, cnt := u.cnt + 1, peak := max u.peak (min (2 ^ 31 - 1) (ratRound (ratAbs p)).toNat) }) s

/-- One step of a feeder (R448 to R451). -/
def feederStep (f : Nat) (s : State) : State :=
  let r := (upTo 3).map (phaseStep s f)
  let ph := r.map (fun x => x.1)
  let fl := (upTo 6).foldl (fun a k => Nat.lor a (channelQual (adcCh s (6 * f + k)).stepFlags)) 0
  let p := ratSum (ph.map (fun x => x.p))
  let q := ratSum (ph.map (fun x => x.q))
  let a := ratSum (ph.map (fun x => x.vrms * x.irms / 1000000))
  let s := onUnit f (fun u => { u with
    phases := ph, power := p, second := q, third := a, ts := ontLo s, valAt := some s.time.ont }) s
  let s := if p < 0 then addEnergy f 1 (-p / 360) s else addEnergy f 0 (p / 360) s
  let s := if q < 0 then addEnergy f 3 (-q / 360) s else addEnergy f 2 (q / 360) s
  let s := intervalAdd f p (addEnergy f 4 (a / 360) s)
  meterFlag f (Nat.lor fl (4 * b2n (r.any (fun x => x.2)))) s

/-- One input of a thermal meter over a step (R452, R455): its value, its channel's step mean to keep, and QUAL flags.
`j` is the offset of its SRC parameter, `i` its number. -/
def thermalInput (s : State) (m i j : Nat) : Rat × Option Rat × Nat :=
  let index := actN s (meterId m (j + 1))
  let prev := nth none (meterOf s m).inMeans i
  if act s (meterId m j) = 3 then
    match canSignal s index (actN s (meterId m (j + 2))) with
    | some (v, ts) => ((v : Rat), prev, if ts + actN s 0x0E01 * 1000000 < s.time.ont then 16 else 0)
    | none => (freeRat (s.free + 32 * m + i), prev, 16)
  else
    let c := adcCh s index
    let good := c.step.filterMap id
    let n := c.step.length
    let miss := n - good.length
    let mean := fillMean ((good.foldl (· + ·) 0 : Int) : Rat) (prev.getD (freeRat (s.free + 32 * m + i))) n miss
    (mean, if miss = 0 ∧ n ≠ 0 then some mean else prev,
     channelQual c.stepFlags + (if miss ≠ 0 ∨ n = 0 then 4 else 0))

/-- The temperature of a thermal input in °C (R452). -/
def inputTemp (s : State) (m j : Nat) (x : Rat) : Rat :=
  if act s (meterId m j) = 3 then x / 100
  else
    let v := x * 3 / 4 / 8388608
    let r := (act s (meterId m 12) : Rat) * v / (5 / 4 - v)
    ratClamp (some (-50)) (some 250) (Config.rtdTemp (r / (act s (meterId m 13) : Rat)))

/-- One step of a thermal meter (R452, R453). -/
def thermalStep (m : Nat) (s : State) : State :=
  let (xf, pf, qf) := thermalInput s m 0 0
  let (xs, ps, qs) := thermalInput s m 1 6
  let (xr, pr, qr) := thermalInput s m 2 9
  let flow := satS 32 (ratRound (xf * (act s (meterId m 3) : Rat) / 65536 + (act s (meterId m 4) : Rat)))
  let ts := inputTemp s m 6 xs
  let tr := inputTemp s m 9 xr
  let rho := waterExact (fun r => r.1) (if act s (meterId m 5) = 0 then ts else tr) / 10
  let k := rho * waterExact (fun r => r.2.1) ((ts + tr) / 2)
  let pth := k * (flow : Rat) / 1000000 * (ts - tr)
  let out := decide (ts < 0) || decide (200 < ts) || decide (tr < 0) || decide (200 < tr)
  let fl := Nat.lor (Nat.lor qf qs) (Nat.lor qr (32 * b2n out + 64 * b2n (decide (flow < 0))))
  let s := holdSample 2 m s
  let s := onUnit m (fun u => { u with
    flow := flow, tSup := satS 32 (ratRound (ts * 100)), tRet := satS 32 (ratRound (tr * 100)), power := pth, second := k
    inMeans := [pf, ps, pr], ts := ontLo s, valAt := some s.time.ont }) s
  let s := if 0 < pth then addEnergy m 0 (pth / 360) s else if pth < 0 then addEnergy m 1 (-pth / 360) s else s
  let s := if flow < 0 then addEnergy m 3 (-(flow : Rat) / 100) s else addEnergy m 2 ((flow : Rat) / 100) s
  meterFlag m fl (intervalAdd m pth s)

/-- The mirrored values of a meter enter it (R526 KIND 8). -/
def meterMirror (m : Nat) (b : Bytes) (s : State) : State :=
  (upTo (meterQty m)).foldl (fun s q => onMeter (fun t => { t with
    acc := t.acc.set (accIx m q) (byteField b (8 * q) 8)
    res := t.res.set (accIx m q) (byteField b (8 * meterQty m + 4 * q) 4) }) s) s

/-- One meter at a step boundary (R447, R459, R466, R467). -/
def unitStep (m : Nat) (s : State) : State :=
  let u := meterOf s m
  if !u.run then s
  else if meterMirrored s m then
    let s := onUnit m (fun u => { u with skip := true }) s
    let s := match mirrorTake 8 m s with
      | (some b, s) => meterMirror m b s
      | (none, s) => s
    if u.stopDue then onUnit m (fun u => { u with run := false, stopDue := false }) s else s
  else
    let s := if u.skip then onUnit m (fun u => { u with skip := false }) s
      else if m < 2 then feederStep m s else thermalStep m s
    if u.stopDue || u.cfgBad then onUnit m (fun u => { u with run := false, stopDue := false }) s else s

/-- A save record's CRC and magic are right (R463). -/
def saveValid (b : Bytes) : Bool :=
  b.length == 512 && byteField b 0 4 == 0xD7425A7E && crc32cNat (b.take 0x1FC) == byteField b 0x1FC 4

/-- Every record of the save ring. -/
def saveRecords (s : State) : List Bytes := (s.recorder.save.flatMap (fun p => p.saves)).filter saveValid

/-- The record with the highest SEQ among those that satisfy `f`. -/
def latestSave (f : Bytes → Bool) (s : State) : Option Bytes :=
  ((saveRecords s).filter f).foldl (fun best b => match best with
    | none => some b
    | some x => if byteField x 8 4 < byteField b 8 4 then some b else some x) none

/-- The SEQ of the next record (R463). -/
def nextSaveSeq (s : State) : Nat :=
  match latestSave (fun _ => true) s with
  | none => 1
  | some b => (byteField b 8 4 + 1) % 2 ^ 32

/-- A record of the save ring from its fields (R463). -/
def saveBytes (kind seq interval ont : Nat) (mid tail : Bytes) : Bytes :=
  let b := leBytes 4 0xD7425A7E ++ leBytes 2 kind ++ leBytes 2 1 ++ leBytes 4 seq ++ leBytes 4 interval ++ leBytes 8 ont ++
    padTo 0x138 mid ++ padTo 0xAC tail
  b ++ leBytes 4 (crc32cNat b)

/-- Bytes 0x018 to 0x14F from the present accumulators, with the statistics given (R463). -/
def saveMid (s : State) (stats : Bytes) (qual : Bytes) : Bytes :=
  leBytes 1 (flagsNat ((upTo 6).map (fun m => enabled s 14 m))) ++ zeros 7 ++
    s.meter.acc.flatMap (leBytes 8) ++ stats ++ s.meter.pulses.flatMap (fun p => leBytes 4 p.backlog) ++ qual

/-- P_MEAN and P_PEAK of every meter (R463). -/
def saveStats (s : State) : Bytes :=
  s.meter.units.flatMap (fun u => leIntBytes 4 (if u.cnt = 0 then 0 else satS 32 (ratRound (u.sum / (u.cnt : Rat))))) ++
    s.meter.units.flatMap (fun u => leBytes 4 u.peak)

/-- A record is written to the ring; with fewer than two good positions it is not (R556). -/
def saveWrite (kind ont : Nat) (mid tail : Bytes) (s : State) : State × Bool :=
  let seq := nextSaveSeq s
  if (s.recorder.save.filter posUsable).length < 2 then (raise 0x0E11 88 seq 0 0x1211 s, false)
  else
    let s := savePut (saveBytes kind seq (parN s 0x0E00 * 60) ont mid tail) s
    (onMeter (fun t => { t with last := (seq, ont) }) s, true)

/-- A KIND 1 save of the values as they stand (R462); QUAL, PLS_OVF and the statistics start anew. -/
def meterSave (s : State) : State :=
  let mid := saveMid s (saveStats s) (s.meter.units.flatMap (fun u => leBytes 2 u.qual))
  match saveWrite 1 s.time.ont mid [] s with
  | (s, false) => onMeter (fun t => { t with saveDue := false }) s
  | (s, true) => onMeter (fun t => { t with
      saveDue := false, units := t.units.map (fun u => { u with qual := 0, sum := 0, cnt := 0, peak := 0 })
      pulses := t.pulses.map (fun p => { p with ovf := false }) }) s

/-- Bytes 0x150 on of a KIND 2 record (R463). -/
def lossTail (saveOnt saveSeq latch pfOnt now flags : Nat) : Bytes :=
  leBytes 8 saveOnt ++ leBytes 4 saveSeq ++ leBytes 4 latch ++ leBytes 8 pfOnt ++ leBytes 8 now ++ leBytes 4 flags

/-- A loss-window record is written and reported (R464). -/
def lossWrite (ont : Nat) (mid : Bytes) (saveOnt saveSeq latch pfOnt : Nat) (pfValid : Bool) (s : State) : State :=
  let flags := b2n pfValid + 2 * b2n s.time.valid
  let seq := nextSaveSeq s
  match saveWrite 2 ont mid (lossTail saveOnt saveSeq latch pfOnt s.time.ont flags) s with
  | (s, false) => s
  | (s, true) => raise 0x0E12 89 seq (saveOnt % 2 ^ 32) (pfOnt % 2 ^ 32) s

/-- The KIND 2 record after a memory error at `ont` (R459). -/
def lossAfterError (s : State) (ont : Nat) : State :=
  let b := (latestSave (fun _ => true) s).getD (zeros 512)
  let mid := saveMid s ((b.drop 0xF0).take 48) ((b.drop 0x140).take 12)
  lossWrite s.time.ont mid (byteField b 0x10 8) (byteField b 8 4) 0 ont true s

/-- Malor writes the records that memory errors made due (R459). -/
def meterLosses (s : State) : State :=
  if malorWorks s then s.meter.lossDue.foldl lossAfterError (onMeter (fun t => { t with lossDue := [] }) s) else s

/-- Malor writes what is due at a step boundary (R459, R462). -/
def meterWrites (s : State) : State :=
  let s := meterLosses s
  if malorWorks s && s.meter.saveDue then meterSave s else s

/-- The values of a snapshot response (R460). -/
def snapBytes (s : State) : Bytes :=
  leBytes 4 s.meter.snapSeq ++ zeros 4 ++ leBytes 8 s.meter.snapOnt ++ s.meter.snap.flatMap (leBytes 8)

/-- The accumulators are captured (R460). -/
def snapTake (s : State) : State :=
  onMeter (fun t => { t with snapSeq := wrapInc 32 t.snapSeq, snapOnt := s.time.ont, snap := t.acc }) s

/-- Waiting snapshots are captured and answered (R460). -/
def snapAnswer (s : State) : State :=
  s.snapWait.foldl (fun s m =>
    let s := snapTake s
    respond s 0x0E10 m (done s (snapBytes s))) { s with snapWait := [] }

/-- The channels' step buffers start anew. -/
def stepTurn (s : State) : State :=
  onAdc (fun a => { a with ch := a.ch.map (fun c => { c with
    hist := (c.hist ++ c.step).drop ((c.hist ++ c.step).length - 64), step := [], stepFlags := 0 }) }) s

/-- A mirrored pulse output takes its values (R526 KIND 9). -/
def pulseMirror (n : Nat) (s : State) : State :=
  if !standby s then s
  else match mirrorTake 9 n s with
    | (some b, s) => onPulse n (fun p => { p with backlog := byteField b 0 4, e := byteField b 8 8 }) s
    | (none, s) => s

/-- The NET tick count is at a step boundary (R447): every tenth instant of the 1 kS/s grid. -/
def stepInstant (s : State) : Bool := onInstant s.adc.grid 1250000 s

/-- A metering step boundary (R447). -/
def meterStep (s : State) : State :=
  if !(meterRuns s && isl s 6 == .on && stepInstant s) then s
  else
    let s := (upTo 6).foldl (fun s m => unitStep m s) (parCommit meterParams s)
    let s := (upTo 8).foldl (fun s n => pulseMirror n s) s
    let s := stepTurn (onMeter (fun t => { t with steps := wrapInc 32 t.steps }) { s with free := s.free + 256 })
    let s := meterWrites (snapAnswer s)
    (upTo 8).foldl (fun s n => pulseKick n s) s

/-- METER_STEP (R447). -/
def execMeterStep (s : State) : Out := .next (meterStep s)

/-- PULSE_TIMER (R461): a width ends and the gap begins, or a gap ends. -/
def pulseTimer (n : Nat) (s : State) : State :=
  if !plantRuns s then s
  else match (nth {} s.meter.pulses n).phase with
    | 1 => onPulse n (fun p => { p with phase := 2 }) s
    | 2 => pulseKick n (onPulse n (fun p => { p with phase := 0 }) s)
    | _ => s

/-- PULSE_TIMER (R461). -/
def execPulseTimer (n : Nat) (s : State) : Out := .next (pulseTimer n s)

/-- METER_MEMORY_ECC (R459): kind 0 accumulator, 1 residue, 2 backlog, 3 counter e, 4 segment table or configuration;
the number of the word, or the meter. -/
def meterEcc (kind index : Nat) (s : State) : State :=
  if !plantRuns s then s
  else
    let b := (latestSave (fun _ => true) s).getD (zeros 512)
    let due := fun s => meterLosses (onMeter (fun t => { t with lossDue := t.lossDue ++ [s.time.ont] }) s)
    let accMeter := if index < 10 then index / 5 else 2 + (index - 10) / 4
    let mark := fun s => if actN s (pulseId index 0) < 6 then meterFlag (actN s (pulseId index 0)) 128 s else s
    match kind with
    | 0 =>
      let s := onMeter (fun t => { t with acc := t.acc.set index (byteField b (0x20 + 8 * index) 8), res := t.res.set index 0 }) s
      due (meterFlag accMeter 128 s)
    | 1 => due (meterFlag accMeter 128 (onMeter (fun t => { t with res := t.res.set index 0 }) s))
    | 2 => due (mark (onPulse index (fun p => { p with backlog := byteField b (0x120 + 4 * index) 4, e := 0 }) s))
    | 3 => due (mark (onPulse index (fun p => { p with e := 0 }) s))
    | _ => meterFlag index 128 (onUnit index (fun u => { u with cfgBad := true }) s)

/-- METER_MEMORY_ECC (R459). -/
def execMeterMemoryEcc (kind index : Nat) (s : State) : Out := .next (meterEcc kind index s)

/-- METER_CONFIG_REWRITE_DONE (R459): the meter resumes at its next complete step: where it has not stopped yet, the stop at the
boundary ahead leaves no step out. -/
def execMeterConfigRewriteDone (m : Nat) (s : State) : Out :=
  .next (if malorWorks s && (meterOf s m).cfgBad then
      onUnit m (fun u => { u with cfgBad := false, run := enabled s 14 m || u.run, skip := u.skip || !u.run }) s
    else s)

/-- The effect of METER_SNAPSHOT: the response comes with the next step boundary (R460). -/
def meterSnapshot (m : Mail) (s : State) : Answer :=
  if m.payload.length ≠ 0 then refuse s 0x0E0A else later { s with snapWait := s.snapWait ++ [m] }

/-- METER_SNAPSHOT (0x0E10). -/
def execMeterSnapshot (m : Mail) (s : State) : Out := mailOut 0x0E10 m (meterSnapshot m) s

/-- The effect of METER_LOSS_GET (R464). -/
def meterLossGet (p : Bytes) (s : State) : Answer :=
  if p.length ≠ 0 then refuse s 0x0E0A
  else done s ((latestSave (fun b => byteField b 4 2 == 2) s).getD (zeros 512))

/-- METER_LOSS_GET (0x0E11). -/
def execMeterLossGet (m : Mail) (s : State) : Out := mailOut 0x0E11 m (meterLossGet m.payload) s

/-- The effect of METER_ACC_SET (R465); the session is checked before (R139 step 7). -/
def meterAccSet (p : Bytes) (s : State) : Answer :=
  let m := byteField p 0 1
  let q := byteField p 1 1
  if p.length ≠ 16 ∨ byteField p 2 6 ≠ 0 then refuse s 0x0E0A
  else if 5 < m ∨ meterQty m ≤ q then refuse s 0x0E05
  else if unitActive s 14 m then refuse s 0x0E06
  else
    let old := nth 0 s.meter.acc (accIx m q)
    let s := onMeter (fun t => { t with acc := t.acc.set (accIx m q) (byteField p 8 8), res := t.res.set (accIx m q) 0 }) s
    done (raise 0x0E15 92 m q (old % 2 ^ 32) s) []

/-- METER_ACC_SET (0x0E12). -/
def execMeterAccSet (m : Mail) (s : State) : Out := mailOut 0x0E12 m (meterAccSet m.payload) s

/-- The channels that enabled feeders use (R452). -/
def feederChannels (s : State) : List Nat :=
  (if enabled s 14 0 then upTo 6 else []) ++ (if enabled s 14 1 then (upTo 6).map (fun k => 6 + k) else [])

/-- The rate item of a feeder (R466 item 2). -/
def feederRate (s : State) (f : Nat) : CheckFail :=
  let r := fun k => parN s (adcId (6 * f + k) 0)
  match (upTo 6).find? (fun k => r k != r 0) with
  | some k => some (0x0E12, adcId (6 * f + k) 0)
  | none => if r 0 = 2 ∨ r 0 = 3 then none else some (0x0E12, adcId (6 * f) 0)

/-- METER_I_SEG is well formed (R466 item 3). -/
def segOk (s : State) (f : Nat) : Bool :=
  (upTo 3).all (fun p => (upTo 8).all (fun k => decide ((segPoint s f p k).1 < (segPoint s f p (k + 1)).1)) &&
    (upTo 9).all (fun k => tabN s (meterId f 4) (108 * p + 12 * k + 4) 4 != 0))

/-- The SRC parameters of a thermal meter. -/
def thermalSrcs : List Nat := [0, 6, 9]

/-- One source of a thermal meter is valid (R466 item 4). -/
def thermalSrcOk (s : State) (m j : Nat) : Bool :=
  let src := parN s (meterId m j)
  let index := parN s (meterId m (j + 1))
  let sub := parN s (meterId m (j + 2))
  (src == 1 || src == 3) && sourceValid s src index sub && !(src == 1 && (feederChannels s).contains index)

/-- The consistency check of METER unit m (R466). -/
def meterCheck (m : Nat) (s : State) : CheckFail :=
  let src := fun j => parN s (meterId m j)
  let index := fun j => parN s (meterId m (j + 1))
  let pulses := ((upTo 8).filter (fun n => parN s (pulseId n 0) == m)).map (fun n =>
    (decide (parN s (pulseId n 1) < meterQty m), 0x0E13, pulseId n 1))
  if m < 2 then
    match firstFail [((upTo 6).all (fun k => enabled s 13 (6 * m + k)), 0x0E0D, 0)] with
    | some f => some f
    | none => match feederRate s m with
      | some f => some f
      | none => firstFail ((segOk s m, 0x0E10, meterId m 4) :: pulses)
  else
    firstFail
      ([(thermalSrcs.all (fun j => src j != 1 || decide (24 ≤ index j) || enabled s 13 (index j)), 0x0E0D, 0)] ++
       thermalSrcs.map (fun j => (thermalSrcOk s m j, 0x0E11, meterId m (j + 1))) ++
       [(thermalSrcs.all (fun j => src j != 3 || enabled s 15 (index j / 128)), 0x0E0D, 0)] ++ pulses)

/-- A meter starts; its first step is the next complete one (R449, R466). -/
def meterStart (m : Nat) (s : State) : State :=
  let s := onUnit m (fun u => { u with
    run := true, skip := true, stopDue := false, cfgBad := false, phases := List.replicate 3 {}, inMeans := [none, none, none] })
    (parCommit meterParams s)
  (upTo 8).foldl (fun s n => if actN s (pulseId n 0) = m then onPulse n (fun p => { p with used := true }) s else s) s

/-- The meter stop begins (R467). -/
def meterStop (m : Nat) (s : State) : State := onUnit m (fun u => { u with stopDue := u.run }) s

/-- The meter stop ends. -/
def meterStopEnd (m : Nat) (s : State) : State := onUnit m (fun u => { u with run := false, stopDue := false }) s

/-- Entry step 4 of R76 stops the meters while they stay ENABLED, and the pulses (R461, R467). -/
def meterDeep (s : State) : State :=
  onMeter (fun t => { t with
    units := t.units.map (fun u => { u with run := false, stopDue := false })
    pulses := t.pulses.map (fun p => { p with phase := 0 }) }) s

/-- Exit from DEEP: the meters resume at the first complete step (R467). -/
def meterResume (s : State) : State :=
  (upTo 6).foldl (fun s m => onUnit m (fun u => { u with run := enabled s 14 m && !u.cfgBad, skip := true }) s) s

/-- Restores every accumulator and backlog at a full start, and writes the loss-window record (R464). -/
def meterRestore (s : State) : State :=
  let zero := onMeter (fun t => { t with
    acc := List.replicate 26 0, res := List.replicate 26 0, pulses := List.replicate 8 {} }) s
  match latestSave (fun _ => true) s with
  | none => raise 0x0E16 93 0 0 0 zero
  | some b =>
    let s := onMeter (fun t => { t with
      acc := (upTo 26).map (fun x => byteField b (0x20 + 8 * x) 8)
      pulses := (upTo 8).map (fun n => { backlog := byteField b (0x120 + 4 * n) 4 }) }) zero
    let latch := s.power.pfCause + 16 * s.power.pfFirst + 256 * b2n s.power.pfOvf + 512 * b2n s.power.pgTimeout
    lossWrite (byteField b 0x10 8) ((b.drop 0x18).take 0x138) (byteField b 0x10 8) (byteField b 8 4) latch s.power.pfOnt
      (s.power.pfFirst != 0) s

/-- RETAIN keeps the accumulators with their residues, the backlogs and e, and the segment tables and configuration registers,
which the parameters stand for (R69, R461; log 31); what Malor holds of a save or loss window stays in MGMT SRAM. -/
def meterRetain (s : State) : State :=
  onMeter (fun t =>
    { acc := t.acc, res := t.res, saveDue := t.saveDue, lossDue := t.lossDue
      units := t.units.map (fun u => { cfgBad := u.cfgBad })
      pulses := t.pulses.map (fun p => { backlog := p.backlog, e := p.e, used := p.used }) }) s

/-- METER_STATUS (R468). -/
def meterStatus (s : State) : Nat :=
  flagsNat ((upTo 6).map (fun m => enabled s 14 m)) + 256 * flagsNat (s.meter.units.map (fun u => u.run)) + 65536 * b2n s.meter.saveDue

/-- A rational value in a signed register (R12). -/
def ratReg (x : Rat) : Nat := toBits 32 (satS 32 (ratRound x))

/-- A rational value in an unsigned register (R12). -/
def ratRegU (x : Rat) : Nat := (clamp 0 (2 ^ 32 - 1) (ratRound x)).toNat

/-- A register of a feeder's block (R468). -/
def feederReg (u : MeterUnit) (off : Nat) : Nat :=
  let ph := fun (o : Nat) => nth {} u.phases ((off - o) / 4)
  if off < 0x10 then
    match off with
    | 0x00 => u.qual
    | 0x04 => ratReg u.power
    | 0x08 => ratReg u.second
    | _ => ratRegU u.third
  else if off < 0x1C then ratRegU (ph 0x10).vrms
  else if off < 0x28 then ratRegU (ph 0x1C).irms
  else if off < 0x34 then ratReg (ph 0x28).p
  else if off < 0x40 then ratReg (ph 0x34).q
  else if off < 0x4C then (ph 0x40).seg
  else if off = 0x4C then u.ts
  else 0

/-- A register of a thermal meter's block (R468). -/
def thermalReg (u : MeterUnit) (off : Nat) : Nat :=
  match off with
  | 0x00 => u.qual
  | 0x04 => toBits 32 u.flow
  | 0x08 => toBits 32 u.tSup
  | 0x0C => toBits 32 u.tRet
  | 0x10 => ratReg u.power
  | 0x14 => ratRegU u.second
  | 0x18 => u.ts
  | _ => 0

/-- A snapshot value in its two words (R460, R468): bits [47:0], then W, both as the accumulator's own bits. -/
def snapReg (s : State) (off : Nat) : Nat := nth 0 s.meter.snap (off / 8) / 2 ^ (8 * (off % 8)) % 2 ^ 32

/-- A register of the metering part of the region (R468). -/
def meterReg (s : State) (off : Nat) : Nat :=
  let t := s.meter
  if 0x820 ≤ off ∧ off < 0x840 then (nth {} t.pulses ((off - 0x820) / 4)).backlog
  else if 0x900 ≤ off ∧ off < 0xA00 then feederReg (meterOf s ((off - 0x900) / 128)) (off % 128)
  else if 0xA00 ≤ off ∧ off < 0xB00 then thermalReg (meterOf s (2 + (off - 0xA00) / 64)) (off % 64)
  else if 0xC10 ≤ off ∧ off < 0xCE0 then snapReg s (off - 0xC10)
  else match off with
    | 0x800 => meterStatus s
    | 0x804 => t.steps
    | 0x808 => t.last.1
    | 0x80C => t.last.2 % 2 ^ 32
    | 0x810 => t.last.2 / 2 ^ 32
    | 0x814 => flagsNat (t.pulses.map (fun p => p.phase == 1)) + 256 * flagsNat (t.pulses.map (fun p => p.ovf))
    | 0xC00 => t.snapSeq
    | 0xC04 => t.snapOnt % 2 ^ 32
    | 0xC08 => t.snapOnt / 2 ^ 32
    | _ => 0

end Sys2Proof.Machine
end

