-- ==== Sys2Proof/Machine/Frames.lean ====
section
/-! DEFINITION. What a frame received on an Ethernet port is to the part (R495 to R497). The places of the headers' fields and the
checksums are those of IEEE 802.3, IEEE 802.1Q and the Internet standards (PRESUMED, log 44). -/

namespace Sys2Proof.Machine

/-- The ID of a port's parameter (R511). -/
def portId (p j : Nat) : Nat := 0x6000 + 0x40 * p + j

/-- The address bytes of an IPv4 parameter, in network order; none for 0. -/
def ipv4Of (v : Nat) : Option Bytes := if v = 0 then none else some (leBytes 4 v).reverse

/-- The address bytes of an IPv6 parameter; none for 0. -/
def ipv6Of (b : Bytes) : Option Bytes := if allZero b then none else some b

/-- The six octets of a port's MAC address, first octet first. -/
def portMac (s : State) (p : Nat) : Bytes := (leBytes 6 (actN s (portId p 3))).reverse

/-- The link-local address with the EUI-64 identifier of a MAC address (R495). -/
def linkLocal (mac : Nat) : Bytes :=
  let b := fun i => BitVec.ofNat 8 (mac / 256 ^ (5 - i))
  [0xFE, 0x80] ++ zeros 6 ++ [b 0 ^^^ 0x02, b 1, b 2, 0xFF, 0xFE, b 3, b 4, b 5]

/-- The IPv6 addresses of a port: the static one, where it has one, and the link-local one (R495). -/
def ipv6Own (s : State) (p : Nat) : List Bytes :=
  (match ipv6Of (tab s (portId p 6)) with | some a => [a] | none => []) ++ [linkLocal (actN s (portId p 3))]

/-- The address a request asks for is one of the port's (R495): kinds 0 and 1 are IPv4, 2 and 3 IPv6. -/
def addressMine (s : State) (p kind : Nat) (target : Bytes) : Bool :=
  if kind < 2 then ipv4Of (actN s (portId p 4)) == some target else (ipv6Own s p).contains target

/-- Two octets in network order at an offset. -/
def be16 (b : Bytes) (off : Nat) : Nat := beNat ((b.drop off).take 2)

/-- The sum of the 16-bit words of the Internet checksum. -/
def inetSum : Bytes → Nat
  | a :: b :: l => 256 * a.toNat + b.toNat + inetSum l
  | [a] => 256 * a.toNat
  | [] => 0

/-- Octets that hold their own Internet checksum are right. -/
def inetOk (b : Bytes) : Bool := let n := inetSum b; n != 0 && n % 65535 == 0

/-- The destination addresses that a port's receive filter passes (R495). -/
def filterPasses (s : State) (p : Nat) (dst : Bytes) : Bool :=
  dst == portMac s p || dst == List.replicate 6 0xFF ||
    [[0x01, 0x1B, 0x19, 0, 0, 0], [0x01, 0x80, 0xC2, 0, 0, 0x0E], [0x01, 0, 0x5E, 0, 0x01, 0x81], [0x01, 0, 0x5E, 0, 0, 0x6B],
     [0x33, 0x33, 0, 0, 0x01, 0x81], [0x33, 0x33, 0, 0, 0, 0x6B], [0x33, 0x33, 0, 0, 0, 0x01]].contains dst ||
    (ipv6Own s p).any (fun a => dst == [0x33, 0x33, 0xFF] ++ a.drop 13)

/-- EtherType and payload of a frame without its FCS, untagged or behind one IEEE 802.1Q tag (R495). -/
def etherPayload (f : Bytes) : Nat × Bytes := if be16 f 12 = 0x8100 then (be16 f 16, f.drop 18) else (be16 f 12, f.drop 14)

/-- What a received frame is. -/
inductive FrameKind where
  /-- Above 1,522 bytes. -/
  | long
  | badFcs
  /-- Too short, or for another address. -/
  | ignored
  | ptp
  /-- ARP 0, ICMP echo 1, Neighbor Solicitation 2, ICMPv6 echo 3 for an address of the port. -/
  | address (kind : Nat) (target : Bytes)
  /-- The UDP payload of a telemetry datagram. -/
  | telemetry (d : Bytes)
  /-- Passed the filter and is nothing the part serves (R496). -/
  | unserved
  deriving DecidableEq, Repr

/-- A UDP datagram to an address of the port (R497): `pseudo` is the pseudo-header, and a checksum of 0 is accepted over IPv4. -/
def udpKind (s : State) (v4 mine : Bool) (pseudo u : Bytes) : FrameKind :=
  let n := be16 u 4
  let port := be16 u 2
  if n < 8 ∨ u.length < n then .unserved
  else if port = 319 ∨ port = 320 then .ptp
  else if !mine || port != actN s 0x1000 then .unserved
  else if (v4 && be16 u 6 == 0) || (be16 u 6 != 0 && inetOk (pseudo ++ u.take n)) then .telemetry ((u.take n).drop 8)
  else .unserved

/-- An IPv4 packet (R495): options ignored, fragments discarded. -/
def ipv4Kind (s : State) (p : Nat) (b : Bytes) : FrameKind :=
  let ihl := 4 * ((nth 0 b 0).toNat % 16)
  let n := be16 b 2
  let dst := (b.drop 16).take 4
  let mine := addressMine s p 1 dst
  let body := (b.take n).drop ihl
  if (nth 0 b 0).toNat / 16 ≠ 4 ∨ ihl < 20 ∨ n < ihl ∨ b.length < n ∨ !inetOk (b.take ihl) ∨ be16 b 6 % 0x4000 ≠ 0 then .unserved
  else match (nth 0 b 9).toNat with
    | 1 => if mine && body.take 2 == [8, 0] && inetOk body then .address 1 dst else .unserved
    | 17 => udpKind s true mine ((b.drop 12).take 8 ++ [0, 17] ++ (body.drop 4).take 2) body
    | _ => .unserved

/-- An IPv6 packet (R495): any extension header is discarded. -/
def ipv6Kind (s : State) (p : Nat) (b : Bytes) : FrameKind :=
  let n := be16 b 4
  let dst := (b.drop 24).take 16
  let body := (b.drop 40).take n
  let pseudo := fun (next : Byte) => (b.drop 8).take 32 ++ [0, 0] ++ (b.drop 4).take 2 ++ [0, 0, 0, next]
  let mine := addressMine s p 3 dst
  if (nth 0 b 0).toNat / 16 ≠ 6 ∨ b.length < 40 + n then .unserved
  else match (nth 0 b 6).toNat with
    | 17 => udpKind s false mine (pseudo 17) body
    | 58 =>
      let target := (body.drop 8).take 16
      if !inetOk (pseudo 58 ++ body) then .unserved
      else if body.take 2 = [135, 0] ∧ addressMine s p 2 target = true then .address 2 target
      else if body.take 2 = [128, 0] ∧ mine = true then .address 3 dst
      else .unserved
    | _ => .unserved

/-- What a frame, FCS included, is to a port (R495 to R497). -/
def frameKind (s : State) (p : Nat) (f : Bytes) : FrameKind :=
  let body := f.take (f.length - 4)
  if 1522 < f.length then .long
  else if f.length < 64 then .ignored
  else if fcsOf body != f.drop (f.length - 4) then .badFcs
  else if !filterPasses s p (f.take 6) then .ignored
  else
    let e := etherPayload body
    if e.1 = 0x88F7 then .ptp
    else if e.1 = 0x0806 then
      let target := (e.2.drop 24).take 4
      if be16 e.2 0 = 1 ∧ be16 e.2 2 = 0x0800 ∧ be16 e.2 6 = 1 ∧ addressMine s p 0 target = true then .address 0 target else .unserved
    else if e.1 = 0x0800 then ipv4Kind s p e.2
    else if e.1 = 0x86DD then ipv6Kind s p e.2
    else .unserved

end Sys2Proof.Machine
end

