-- ==== Sys2Proof/Machine/Net.lean ====
section
/-! DEFINITION. Ethernet ports, ingest of sub-station datagrams, and the cluster-limit broadcast (R495 to R512). -/

namespace Sys2Proof.Machine

/-- The port takes part in the network: enabled, with link, in RUN or IDLE (R72, R496). -/
def portUp (s : State) (p : Nat) : Bool := inRun s && enabled s 16 p && (portOf s p).link

/-- ETH_LINK_CHANGE (R510, R512): the in-band speed holds for SGMII, the parameter for RGMII (R495). -/
def linkChange (p : Nat) (up : Bool) (speed : Nat) (s : State) : State :=
  if !(plantRuns s && enabled s 16 p) then s
  else
    let v := if act s (portId p 0) = 1 then speed else actN s (portId p 1)
    raise 0x1010 104 p (b2n up) v (onPort p (fun x => { x with link := up, speed := v }) s)

/-- ETH_LINK_CHANGE (R512). -/
def execEthLinkChange (p : Nat) (up : Bool) (speed : Nat) (s : State) : Out := .next (linkChange p up speed s)

/-- The position whose epoch a datagram names; position 0 where both match (R501). -/
def epochPos (s : State) (epoch : Nat) : Option Nat :=
  (upTo 2).find? (fun p => (nth {} s.sec.slots (20 + p)).type != 0 && nth 0 s.sec.epochs p == epoch)

/-- The group key of a position (R157). -/
def groupKey (s : State) (pos group epoch : Nat) : Bytes :=
  kdf (slotKey s (20 + pos) 0) (ascii "DN-GRP") (leBytes 2 group ++ leBytes 4 epoch) 256

/-- A datagram fails a step: its counter, and the event at most once per second per step (R501, R512). -/
def ingestReject (step index : Nat) (s : State) : State :=
  let n := satInc 32 (nth 0 s.net.rej (step - 1))
  let s := onNet (fun x => { x with rej := x.rej.set (step - 1) n }) s
  if elapsed (nth none s.net.lastRej (step - 1)) 1000000000 s then
    raise 0x1011 105 step index n (onNet (fun x => { x with lastRej := x.lastRej.set (step - 1) (some s.time.ont) }) s)
  else s

/-- A datagram whose tag verified is refused: the entry counts it too (R501, R208). -/
def entryReject (step index : Nat) (s : State) : State :=
  let e := entry s index
  ingestReject step index (setEntry index { e with rejectCnt := satInc 32 e.rejectCnt } s)

/-- An accepted datagram enters its entry (R502). -/
def ingestCommit (port index epoch pos : Nat) (h pt : Bytes) (s : State) : State :=
  let e := entry s index
  let e := withMeas (byteField pt 0 2) (byteFieldS pt 4 2) (byteFieldS pt 6 2) (byteFieldS pt 8 4) (byteFieldS pt 12 4)
    (byteField pt 16 2) (byteFieldS pt 20 4) e
  let s := acceptEntry index { e with
    gen := wrapInc 32 e.gen, tMeas := byteField h 0x10 8, tAcc := s.time.ont, seq := byteField h 0x0C 4
    keyEpoch := epoch, srcHost := false, port := port } s
  let s := onNet (fun x => { x with accept := satInc 32 x.accept }) s
  if s.net.epochs.contains epoch then s
  else raise 0x1012 106 epoch pos index (onNet (fun x => { x with epochs := epoch :: x.epochs }) s)

/-- Steps 5 to 8 of R501 and the commit, for a datagram whose tag verified. -/
def ingestOpened (port index epoch pos : Nat) (h pt : Bytes) (s : State) : State :=
  let e := entry s index
  let t := byteField h 0x10 8
  let seq := byteField h 0x0C 4
  let mp := byteField pt 0 2
  if e.source = 1 then entryReject 5 index s
  else if !(s.time.valid && decide (s.time.ont ≤ t + actN s 0x1001 * 1000000) &&
      decide (t ≤ s.time.ont + actN s 0x1002 * 1000000)) then entryReject 6 index s
  else if !(decide (e.tMeas < t) && (decide (e.keyEpoch < epoch) || decide (e.seq < seq))) then entryReject 7 index s
  else if !(decide (mp < 64) && byteField pt 2 2 == 0 && byteField pt 0x12 2 == 0 &&
      tempOk (bit mp 0) (byteFieldS pt 4 2) && tempOk (bit mp 1) (byteFieldS pt 6 2)) then entryReject 8 index s
  else ingestCommit port index epoch pos h pt s

/-- A datagram that was admitted to the queue is checked (R499, R501). -/
def ingest (port : Nat) (d : Bytes) (s : State) : State :=
  let h := d.take 24
  let index := byteField h 4 2
  let group := byteField h 6 1
  let epoch := byteField h 8 4
  if d.length ≠ 64 ∨ byteField h 0 2 ≠ 0xD742 ∨ byteField h 2 1 ≠ 1 ∨ byteField h 3 1 ≠ 1 ∨ byteField h 7 1 ≠ 0 then
    ingestReject 1 index s
  else if !modelHere s || decide (attrN s ≤ index) || (entry s index).group != group then ingestReject 2 index s
  else match epochPos s epoch with
    | none => ingestReject 3 index s
    | some pos =>
      let s := slotAsk (20 + pos) 0 s
      let iv := (h.drop 4).take 4 ++ (h.drop 0x0C).take 4 ++ zeros 4
      match Config.gcmOpen (groupKey s pos group epoch) iv h (d.drop 24) with
      | none => ingestReject 4 index s
      | some pt => ingestOpened port index epoch pos h pt s

/-- A telemetry datagram on a port, while ingest is enabled (R497, R500). -/
def telemetry (port : Nat) (d : Bytes) (s : State) : State :=
  if !enabled s 16 2 then s
  else
    let sec := s.time.ont / 1000000000
    let n := if (portOf s port).second = sec then (portOf s port).admitted else 0
    if n < actN s (portId port 9) then
      ingest port d (onPort port (fun x => { x with second := sec, admitted := n + 1 }) s)
    else
      let s := onNet (fun x => { x with rejRate := satInc 32 x.rejRate }) s
      if elapsed (portOf s port).lastRate 1000000000 s then
        raise 0x1013 107 port s.net.rejRate 0 (onPort port (fun x => { x with lastRate := some s.time.ont }) s)
      else s

/-- A frame is received on a port (R495, R496, R509). What PTP messages hold reaches the part through rows of their own, which
count them. -/
def frameIn (p : Nat) (f : Bytes) (s : State) : State :=
  if !portUp s p then s
  else match frameKind s p f with
    | .long => onPort p (fun x => { x with long := satInc 32 x.long }) s
    | .badFcs => onPort p (fun x => { x with fcsErr := satInc 32 x.fcsErr }) s
    | .ignored => s
    | .ptp => s
    | .address kind target =>
      let mac := actN s (portId p 3)
      portSend p (.eth p (Config.addressReply kind mac (actN s (portId p 8)) target f)) (portRx p s)
    | .telemetry d => telemetry p d (portRx p s)
    | .unserved => onPort p (fun x => { x with drop := satInc 32 x.drop }) (portRx p s)

/-- TELEMETRY_DATAGRAM (R497, R501): a frame that carries a datagram. -/
def execTelemetryDatagram (p : Nat) (f : Bytes) (s : State) : Out := .next (frameIn p f s)

/-- NET_ADDRESS_REQUEST (R495): a frame that asks for an address, in its three parts. -/
def execNetAddressRequest (p : Nat) (header payload fcs : Bytes) (s : State) : Out := .next (frameIn p (header ++ payload ++ fcs) s)

/-- FRAME_DISCARDED (R496): a frame that the part does not serve. -/
def execFrameDiscarded (p : Nat) (f : Bytes) (s : State) : Out := .next (frameIn p f s)

/-- The key groups with a PRESENT entry whose SOURCE is 0 or 2 (R504). -/
def bcastGroups (s : State) : List Nat :=
  (s.model.table.filter (fun e => e.2.present && (e.2.source == 0 || e.2.source == 2))).foldl
    (fun l e => if l.contains e.2.group then l else l ++ [e.2.group]) []

/-- The position with the higher of the non-empty epochs (R504). -/
def bcastPos (s : State) : Option Nat :=
  let has := fun p => (nth {} s.sec.slots (20 + p)).type != 0
  if has 0 && has 1 then some (if nth 0 s.sec.epochs 0 < nth 0 s.sec.epochs 1 then 1 else 0)
  else if has 0 then some 0 else if has 1 then some 1 else none

/-- One datagram goes out of one port, to each broadcast address the port can send to (R505). -/
def bcastSend (payload : Bytes) (s : State) (p : Nat) : State :=
  if !(bit (actN s 0x1003) p && portUp s p) then s
  else
    let out := fun (own dst : Option Bytes) (s : State) => match own, dst with
      | some a, some d =>
        onNet (fun n => { n with sent := satInc 32 n.sent })
          (portSend p (.eth p (Config.udpFrame (actN s (portId p 3)) (actN s (portId p 8)) a d (actN s 0x1000) (actN s 0x1006)
            payload)) s)
      | _, _ => s
    let s := out (ipv4Of (actN s (portId p 4))) (ipv4Of (actN s 0x1004)) s
    out (ipv6Of (tab s (portId p 6))) (ipv6Of (tab s 0x1005)) s

/-- The datagram of one group is sealed and sent (R499, R504, R505). -/
def bcastGroup (pos : Nat) (pt : Bytes) (s : State) (g : Nat) : State :=
  let t := max s.time.ont (s.net.tLast + 1)
  let epoch := nth 0 s.sec.epochs pos
  let h := leBytes 2 0xD742 ++ leBytes 1 1 ++ leBytes 1 2 ++ leBytes 2 0xFFFF ++ leBytes 1 g ++ leBytes 1 (b2n s.power.unitB) ++
    leBytes 4 epoch ++ leBytes 4 0 ++ leBytes 8 t
  let sealed := Config.gcmSeal (groupKey s pos g epoch) ((h.drop 4).take 4 ++ leBytes 8 t) h pt
  (upTo 2).foldl (bcastSend (h ++ sealed)) (onNet (fun n => { n with tLast := t }) s)

/-- Why the broadcast may not be sent now (R506, R512). -/
def bcastBlocked (s : State) : Option Nat :=
  if !s.time.valid then some 0
  else if (bcastPos s).isNone then some 1
  else if !grant s then some 2
  else if holdLine s then some 3
  else none

/-- A broadcast set is sent, or missed and counted (R504 to R506). -/
def broadcast (pub : Nat) (pt : Bytes) (s : State) : State :=
  if !enabled s 16 2 then s
  else match bcastBlocked s, bcastPos s with
    | some c, _ => raise 0x1014 108 c pub 0 (onNet (fun n => { n with skip := satInc 32 n.skip }) s)
    | none, some pos => (bcastGroups s).foldl (bcastGroup pos pt) s
    | none, none => s

/-- The plaintext of a cluster-limit broadcast (R504): limits with none for a cluster that no map entry names. -/
def bcastPlain (pub : Nat) (shifted fill : Bool) (limits : List (Option Int)) : Bytes :=
  leBytes 4 pub ++ leBytes 2 (b2n shifted + 2 * b2n fill) ++ leBytes 2 limits.length ++
    limits.flatMap (fun l => match l with | some v => leIntBytes 2 (satS 16 v) | none => leBytes 2 0x8000)

/-- A hand-off's broadcast set becomes the last one and is sent (R504, R506). -/
def bcastNew (pub : Nat) (pt : Bytes) (s : State) : State :=
  if enabled s 16 2 then broadcast pub pt (onNet (fun n => { n with last := some (pub, pt) }) s) else s

/-- The last broadcast set is sent again (R506). -/
def bcastAgain (s : State) : State :=
  match s.net.last with
  | some (pub, pt) => if inRun s then broadcast pub pt s else s
  | none => s

/-- BCAST_REPEAT_TIMER (R506). -/
def execBcastRepeatTimer (s : State) : Out := .next (bcastAgain s)

/-- The broadcast address of a version is a group address, or for IPv4 all ones (R507). -/
def bcastAddrOk (s : State) : CheckFail :=
  let v4 := parN s 0x1004
  let v6 := tab s 0x1005
  let top := v4 / 2 ^ 24
  firstFail
    [(v4 == 0 || (decide (224 ≤ top) && decide (top < 240)) || v4 == 0xFFFFFFFF, 0x1011, 0x1004),
     (allZero v6 || nth 0 v6 0 == 0xFF, 0x1011, 0x1005),
     (parN s 0x1003 == 0 || v4 != 0 || !allZero v6, 0x1011, 0x1004)]

/-- The consistency check of NET unit u (R507). -/
def netCheck (u : Nat) (s : State) : CheckFail :=
  if u = 2 then
    match firstFail [(enabled s 16 0 || enabled s 16 1, 0x100D, 0)] with
    | some f => some f
    | none => bcastAddrOk s
  else
    let mac := parN s (portId u 3)
    let v6 := tab s (portId u 6)
    firstFail
      [(mac != 0 && !bit mac 40, 0x1010, portId u 3),
       (parN s (portId u 4) != 0 || !allZero v6, 0x1010, portId u 4),
       (nth 0 v6 0 != 0xFF, 0x1010, portId u 6)]

/-- The parameters of a NET unit. -/
def netParams (u id : Nat) : Bool :=
  if u = 2 then 0x1000 ≤ id && id < 0x1100 else portId u 0 ≤ id && id < portId u 0x40

/-- A NET unit starts with its counters clear (R509). -/
def netStart (u : Nat) (s : State) : State :=
  let s := parCommit (netParams u) s
  if u = 2 then
    onNet (fun n => { n with
      accept := 0, rej := List.replicate 8 0, rejRate := 0, loss := 0, sent := 0, skip := 0, epochs := []
      lastRej := List.replicate 8 none }) s
  else onPort u (fun x => { link := x.link, speed := x.speed, lastRate := x.lastRate }) s

/-- The stop of a NET unit ends (R508). -/
def netStopEnd (u : Nat) (s : State) : State := if u < 2 then onPort u (fun x => { x with link := false, speed := 0 }) s else s

/-- NET in OFF keeps of ingest and the ports nothing but BCAST_T_LAST, which AON holds (R67, R505; log 31). -/
def netLost (s : State) : State := onNet (fun n => { tLast := n.tLast }) s

/-- ING_STATUS (R510); datagrams are checked as they arrive, so none is queued (log 43). -/
def ingStatus (s : State) : Nat :=
  256 * b2n (modelHere s) + 512 * b2n ((nth {} s.sec.slots 20).type != 0) + 1024 * b2n ((nth {} s.sec.slots 21).type != 0)

/-- A register of a port's block (R509, R510). -/
def portReg (s : State) (p off : Nat) : Nat :=
  let x := portOf s p
  match off with
  | 0x00 => b2n x.link + 2 * x.speed + 8 * b2n (act s (portId p 0) == 1) + 16 * b2n (enabled s 16 p)
  | 0x04 => x.rxFrames
  | 0x08 => x.txFrames
  | 0x0C => x.fcsErr
  | 0x10 => x.drop
  | 0x14 => x.long
  | _ => 0

/-- A register of the Ethernet and ingest region (R509). -/
def netReg (s : State) (off : Nat) : Nat :=
  let n := s.net
  if 0x1000 ≤ off ∧ off < 0x1200 then portReg s ((off - 0x1000) / 256) (off % 256)
  else if 0x108 ≤ off ∧ off < 0x128 then nth 0 n.rej ((off - 0x108) / 4)
  else match off with
    | 0x000 => 2
    | 0x004 => flagsNat ((upTo 3).map (fun u => enabled s 16 u))
    | 0x100 => ingStatus s
    | 0x104 => n.accept
    | 0x128 => n.rejRate
    | 0x12C => n.loss
    | 0x130 => n.sent
    | 0x134 => n.skip
    | 0x138 => n.tLast % 2 ^ 32
    | 0x13C => n.tLast / 2 ^ 32
    | _ => 0

end Sys2Proof.Machine
end

