-- ==== Sys2Proof/Machine/Pair.lean ====
section
/-! DEFINITION. The redundant pair: roles, heartbeat, strait, mirroring, bulk objects and commands (R513 to R541). -/

namespace Sys2Proof.Machine

/-- ROLE: 0 stand-alone, 1 ACTIVE, 2 STANDBY, 3 HOLD (R514, R538). -/
def pairRole (s : State) : Nat :=
  if !s.pair.running then 0 else if s.pair.hold then 3 else if s.pair.grant then 1 else 2

/-- PAIR_STATUS (R538). -/
def pairStatus (s : State) : Nat :=
  let p := s.pair
  pairRole s + 4 * b2n p.grant + 8 * b2n p.hold + 16 * b2n p.fail + 32 * b2n p.straitUp + 64 * b2n p.sync + 128 * b2n p.dual
    + 256 * b2n s.power.unitB + 512 * b2n p.failsafe + 4096 * p.mismatch + 65536 * p.cause

/-- The health word (R518). -/
def healthWord (s : State) : Nat :=
  let p := s.pair
  let plant := (upTo 32).any (fun n => enabled s 10 n && (loopOf s n).state == 6) ||
    (upTo 16).any (fun n => enabled s 11 n && (axisOf s n).state == 8)
  b2n p.fail + 2 * b2n (s.host.ready && s.mgmt.malorRuns) + 4 * b2n p.grant + 8 * b2n p.hold + 16 * b2n p.straitUp + 32 * b2n p.sync
    + 64 * b2n (s.power.cur == .sleep) + 128 * b2n s.time.locked + 256 * s.mgmt.shed + 2048 * b2n plant
    + 2 ^ 16 * p.count + 2 ^ 24 * p.cause

/-- The tick count is at a heartbeat edge of the unit's letter (R517). -/
def beatInstant (s : State) : Bool := onInstant (625000 * b2n s.power.unitB) 1250000 s

/-- A heartbeat edge, followed by a health frame (R517, R518): it needs the clocks of NET and PLANT. -/
def heartbeat (s : State) : State :=
  if s.pair.running && plantRuns s && isl s 5 == .on && !s.mgmt.minimal && beatInstant s then
    let w := healthWord s
    send (.health w (crc8 (leBytes 4 w)).toNat)
      (onPair (fun p => { p with hb := !p.hb, health := w, count := (p.count + 1) % 256 }) s)
  else s

/-- HEARTBEAT_TOGGLE (R517). -/
def execHeartbeatToggle (s : State) : Out := .next (heartbeat s)

/-- The used entries of PAIR_MIRROR_LIST: KIND and INDEX (R526). -/
def mirrorList (s : State) : List (Nat × Nat) :=
  let t := tab s 0x7000
  ((upTo 2048).map (fun k => (byteField t (4 * k) 1, byteField t (4 * k + 2) 2))).filter (fun e => e.1 != 0)

/-- The bytes of an entry of a KIND (R526). -/
def kindBytes (k : Nat) : Nat := nth 0 [0, 44, 36, 88, 4, 16, 8, 4, 64, 16, 64, 8] k

/-- PAIR_LIST_BYTES and PAIR_LIST_CRC (R537). -/
def listBytes (s : State) : Nat := (mirrorList s).foldl (fun a e => a + kindBytes e.1) 0
def listCrc (s : State) : Nat := crc32cNat (tab s 0x7000)

/-- A captured loop (KIND 1). -/
def captureLoop (x : LoopSt) : Bytes :=
  leIntBytes 4 x.target ++ leIntBytes 8 x.p ++ leIntBytes 8 x.v ++ leIntBytes 8 x.a ++ leIntBytes 4 x.s1 ++ leIntBytes 4 x.s2 ++
    leIntBytes 4 x.s3 ++ leIntBytes 4 x.out

/-- A captured axis (KIND 2). -/
def captureAxis (s : State) (n : Nat) : Bytes :=
  let x := axisOf s n
  let fl := b2n x.pend.isSome + 2 * b2n x.uncertain + (if big s then 0 else 2 ^ 16 * (x.idx % 1024))
  leIntBytes 4 x.pos ++ leIntBytes 4 x.target ++ leIntBytes 4 (x.pend.getD 0) ++ leIntBytes 4 (axisVel s n) ++
    leIntBytes 4 (if ap s n 0 = 1 then x.backlog else axisLag s n) ++ leBytes 4 x.ma ++ leIntBytes 4 x.sa ++ leIntBytes 2 x.num ++
    leBytes 2 x.den ++ leBytes 4 fl

/-- A captured timer (KIND 5) and counter (KIND 6), in the layout of R417. -/
def timerBytes (x : Tmr) : Bytes := leBytes 8 x.start ++ leBytes 1 (b2n x.q + 2 * b2n x.run + 4 * b2n x.inPrev) ++ zeros 7
def counterBytes (x : Ctr) : Bytes := leIntBytes 4 x.count ++ leBytes 1 (b2n x.up + 2 * b2n x.down) ++ zeros 3

/-- A captured meter (KIND 8). -/
def captureMeter (s : State) (m : Nat) : Bytes :=
  let ix := (upTo (meterQty m)).map (accIx m)
  padTo 64 (ix.flatMap (fun i => leBytes 8 (nth 0 s.meter.acc i)) ++ ix.flatMap (fun i => leBytes 4 (nth 0 s.meter.res i)))

/-- The data of an entry (R526). -/
def captureEntry (s : State) (kind index : Nat) : Bytes :=
  let l := s.logic
  match kind with
  | 1 => captureLoop (loopOf s index)
  | 2 => captureAxis s index
  | 3 => leBytes 4 l.img.q.toNat ++ leBytes 72 l.img.p.toNat ++ leBytes 8 l.lt ++ leBytes 4 l.cmd
  | 4 => leBytes 4 (bits l.img.r.toNat (32 * index) 32)
  | 5 => timerBytes (nth {} l.timers index)
  | 6 => counterBytes (nth {} l.counters index)
  | 7 => leBytes 4 (bits l.img.h.toNat (32 * index) 32)
  | 8 => captureMeter s index
  | 9 => let p := nth {} s.meter.pulses index; leBytes 4 p.backlog ++ zeros 4 ++ leBytes 8 p.e
  | 10 => padTo 64 (canObj (canOf s (index / 128)) (index % 128)).data
  | _ => leIntBytes 8 (par s index)

/-- The strait position that seals: of the non-empty ones the one with the higher epoch (R522). -/
def straitPos (s : State) : Option Nat :=
  let live := fun k => (nth {} s.sec.slots (22 + k)).type != 0
  let e := fun k => nth 0 s.sec.epochs (2 + k)
  if live 0 && live 1 then some (if e 0 < e 1 then 1 else 0) else if live 0 then some 0 else if live 1 then some 1 else none

/-- The header of a strait frame (R521). -/
def straitHead (type linkId seq epoch len flags : Nat) : Bytes :=
  leBytes 2 0xD742 ++ leBytes 1 1 ++ leBytes 1 type ++ leBytes 4 linkId ++ leBytes 8 seq ++ leBytes 4 epoch ++ leBytes 2 len ++
    leBytes 2 flags

/-- A strait frame is sealed and sent on the current link (R521, R522). -/
def straitSend (type : Nat) (last : Bool) (payload : Bytes) (s : State) : State :=
  match s.pair.link, straitPos s with
  | some (id, seq), some k =>
    let s := slotAsk (22 + k) 1 s
    let h := straitHead type id seq (nth 0 s.sec.epochs (2 + k)) payload.length (b2n last + 2 * k)
    let c := Config.gcmSeal (slotKey s (22 + k) 1) (leBytes 4 id ++ leBytes 8 seq) h payload
    send (.strait (h ++ c)) (onPair (fun p => { p with link := some (id, seq + 1) }) s)
  | _, _ => s

/-- The payload cut into frames of at most 2,048 bytes; the last one carries LAST. -/
def straitFrames (type : Nat) : Nat → Bytes → State → State
  | 0, _, s => s
  | n + 1, b, s =>
    if b.length ≤ 2048 then straitSend type true b s
    else straitFrames type n (b.drop 2048) (straitSend type false (b.take 2048) s)

/-- The first 8 bytes of the M_APLAR measurement (R177, R524). -/
def aplarPrefix (s : State) : Bytes := (headerDigest s.logic.image).take 8

/-- The payload of a CTRL frame (R524). -/
def ctrlPayload (s : State) (role : Nat) : Bytes :=
  leBytes 4 (healthWord s) ++ leBytes 1 role ++ leBytes 1 (bits (otpWord s 1) 0 4) ++ leBytes 1 (parN s 0x1100) ++ zeros 1 ++
    leBytes 8 s.host.modelSig ++ padTo 8 (aplarPrefix s) ++ leBytes 4 (listCrc s) ++ zeros 4

/-- A link starts with a fresh LINK_ID; the ACTIVE unit queues its latest objects again (R522, R525, R531). -/
def linkStart (s : State) : State :=
  if s.sec.drbgOk && s.pair.running then
    let id := leNat (drbg s 0 4) % 2 ^ 31 + b2n s.power.unitB * 2 ^ 31
    onPair (fun p => { p with link := some (id, 0), queue := if pairRole s = 1 then p.own.map (·.2) else p.queue }) s.drawn
  else onPair (fun p => { p with link := none }) s

/-- SYNC clears; the coding of the event's cause is open (R531, R541). -/
def syncClear (s : State) : State :=
  if s.pair.sync then
    raise 0x1114 116 0 (Config.freeNat s.free) s.pair.periodSeq (onPair (fun p => { p with sync := false }) s).drawn
  else s

/-- SYNC is set on a unit without grant once the conditions of R531 hold; no object being under way stands for the
receipt of the latest objects. -/
def syncCheck (s : State) : State :=
  let p := s.pair
  if !p.grant && p.straitUp && p.mismatch == 0 && p.applied && p.bulkAcc.isNone && !p.sync then
    raise 0x1114 116 1 0 p.periodSeq (onPair (fun p => { p with sync := true }) s)
  else s

/-- STRAIT_UP clears: 0 timeout, 1 tag limit, 2 pair stop; a new link starts (R525, R531, R541). -/
def straitDown (cause : Nat) (s : State) : State :=
  let id := match s.pair.link with | some l => l.1 | none => 0
  let s := if s.pair.straitUp then raise 0x1113 115 0 cause id (onPair (fun p => { p with straitUp := false }) s) else s
  linkStart (syncClear (onPair (fun p => { p with
    applied := false, listAcc := none, bulkAcc := none, listBad := false, bulkBad := false, tagRun := 0 }) s))

/-- STRAIT_TIMEOUT (R525). -/
def execStraitTimeout (s : State) : Out :=
  .next (if s.pair.running && plantRuns s && s.pair.straitUp then straitDown 0 s else s)

/-- CTRL_FRAME_TIMER (R524): SEC seals it, so it is sent in RUN and IDLE (R71, R72). -/
def execCtrlFrameTimer (s : State) : Out :=
  .next (if s.pair.running && inRun s then
    let s := if s.pair.link.isNone then linkStart s else s
    straitSend 1 false (ctrlPayload s (pairRole s)) s
  else s)

/-- A BULK object with its 32-byte header (R529). -/
def bulkBytes (o : Bulk) : Bytes :=
  leBytes 1 o.obj ++ zeros 3 ++ leBytes 4 o.body.length ++ leBytes 8 o.sig ++ leBytes 8 o.tag ++ leBytes 4 o.aux ++ leBytes 4 o.rangeId ++
    o.body

/-- A new object of a kind: it replaces a queued one and is queued while this unit drives the plant (R529). -/
def bulkNew (o : Bulk) (s : State) : State :=
  if !s.pair.running then s
  else onPair (fun p => { p with
    own := insertNat o.obj o p.own, queue := p.queue.filter (fun x => x.obj != o.obj) ++ [o] }) s

/-- The queued objects are sent (R529). -/
def bulkSendAll (s : State) : State :=
  s.pair.queue.foldl (fun s o =>
    let b := bulkBytes o
    onPair (fun p => { p with bulkTx := satInc 32 p.bulkTx }) (straitFrames 3 b.length b s)) (onPair (fun p => { p with queue := [] }) s)

/-- The tick count is at a mirror boundary (R527). -/
def mirrorInstant (s : State) : Bool := onInstant 0 (125000 * actN s 0x1100) s

/-- A mirror boundary: the sender captures every listed entry and sends the period, then its objects (R527). -/
def mirrorCapture (s : State) : State :=
  if mirrorInstant s && s.pair.running && inRun s && pairRole s == 1 && s.pair.link.isSome && (straitPos s).isSome then
    let n := wrapInc 32 s.pair.periodSeq
    let s := onPair (fun p => { p with periodSeq := n }) s
    let b := leBytes 4 n ++ leBytes 8 s.time.ont ++ leBytes 4 (listCrc s) ++ (mirrorList s).flatMap (fun e => captureEntry s e.1 e.2)
    bulkSendAll (straitFrames 2 b.length b s)
  else s

/-- MIRROR_CAPTURE (R527). -/
def execMirrorCapture (s : State) : Out := .next (mirrorCapture s)

/-- The entries of a period's data, in list order (R527). -/
def periodItems : List (Nat × Nat) → Bytes → List (Nat × Nat × Bytes)
  | [], _ => []
  | (k, i) :: l, b => (k, i, b.take (kindBytes k)) :: periodItems l (b.drop (kindBytes k))

/-- Malor applies mirrored parameters as LIVE writes once it runs (R526 KIND 11, R528). -/
def mirrorParams (s : State) : State :=
  match s.pair.period with
  | none => s
  | some p =>
    if !malorWorks s || pairRole s != 2 then s
    else
      let ps := p.items.filter (fun x => x.1 == 11)
      let s := onPair (fun q => { q with period := some { p with items := p.items.filter (fun x => x.1 != 11) } }) s
      ps.foldl (fun s x =>
        let es := [(x.2.1, x.2.2)]
        if writeFail s (viewAfter s es) es = none then es.foldl writeOne s else s) s

/-- A period was lost (R528, R531). -/
def periodLost (s : State) : State :=
  let s := onPair (fun p => { p with lostCnt := satInc 32 p.lostCnt, lostRun := p.lostRun + 1 }) s
  if 10 ≤ s.pair.lostRun then syncClear s else s

/-- A period has arrived whole (R528). -/
def periodDone (b : Bytes) (s : State) : State :=
  if byteField b 12 4 ≠ listCrc s then s
  else
    let x : Period := { number := byteField b 0 4, ont := byteField b 4 8, items := periodItems (mirrorList s) (b.drop 16) }
    syncCheck (mirrorParams (onPair (fun p => { p with
      period := some x, periodSeq := x.number, lostRun := 0, applied := true }) s))

/-- A LIST frame on a unit in STANDBY (R527, R528). -/
def listFrame (gap last : Bool) (b : Bytes) (s : State) : State :=
  let bad := s.pair.listBad || gap
  let acc := s.pair.listAcc.getD [] ++ b
  if !last then onPair (fun p => { p with listAcc := some acc, listBad := bad }) s
  else
    let s := onPair (fun p => { p with listAcc := none, listBad := false }) s
    if bad || acc.length != 16 + listBytes s then periodLost s else periodDone acc s

/-- EV_PAIR_BULK (R530, R541). -/
def bulkRefuse (o : Bulk) (why : Nat) (s : State) : State := raise 0x1117 119 o.obj why (o.tag % 2 ^ 32) s

/-- The vector of a warm-start body (R529). -/
def warmVec (b : Bytes) : List Int := (upTo (b.length / 4)).map (fun k => byteFieldS b (4 * k) 4)

/-- A completed object is taken up or discarded (R530). -/
def bulkTake (o : Bulk) (s : State) : State :=
  let keep := fun s => onPair (fun p => { p with peer := insertNat o.obj o p.peer }) s
  match o.obj with
  | 1 => keep { s with dsp := { s.dsp with
      peer := some { sig := o.sig, step0 := o.tag, rangeId := o.rangeId, rhoK := signExtend 8 o.aux, vec := warmVec o.body } } }
  | 2 =>
    if o.sig ≠ s.host.modelSig then bulkRefuse o 0 s
    else if s.est.droveValid && decide (o.tag < s.est.t0Prev) then bulkRefuse o 1 s
    else onPair (fun p => { p with droveDue := true }) (keep s)
  | 3 => { keep s with net := { s.net with last := some (o.aux, o.body) } }
  | _ => s

/-- A BULK frame on a unit in STANDBY (R529, R530). -/
def bulkFrame (gap last : Bool) (b : Bytes) (s : State) : State :=
  let bad := s.pair.bulkBad || gap
  let acc := s.pair.bulkAcc.getD [] ++ b
  if !last then onPair (fun p => { p with bulkAcc := some acc, bulkBad := bad }) s
  else
    let s := onPair (fun p => { p with bulkAcc := none, bulkBad := false }) s
    let o : Bulk := { obj := byteField acc 0 1, sig := byteField acc 8 8, tag := byteField acc 16 8, aux := byteField acc 24 4
                      rangeId := byteField acc 28 4, body := acc.drop 32 }
    if bad || acc.length < 32 || o.body.length != byteField acc 4 4 then s
    else syncCheck (bulkTake o (onPair (fun p => { p with bulkRx := satInc 32 p.bulkRx }) s))

/-- The first differing item between this unit and a CTRL payload: item, own and peer value (R527, R538). -/
def mismatchItem (s : State) (b : Bytes) : Nat × Nat × Nat :=
  let own := ctrlPayload s 0
  let f := fun off n => (byteField own off n, byteField b off n)
  match [(2, f 5 1), (3, f 8 8), (4, f 16 8), (5, f 24 4), (6, f 6 1)].find? (fun x => x.2.1 != x.2.2) with
  | some (k, x, y) => (k, x, y)
  | none => (0, 0, 0)

/-- The mismatch item is set; a new item is raised and clears SYNC (R527, R531). -/
def mismatchSet (m : Nat × Nat × Nat) (s : State) : State :=
  if m.1 = s.pair.mismatch then s
  else
    let s := onPair (fun p => { p with mismatch := m.1 }) s
    if m.1 = 0 then s else syncClear (raise 0x1115 117 m.1 m.2.1 m.2.2 s)

/-- A CTRL frame (R524, R525, R527, R534). -/
def ctrlFrame (first : Bool) (b : Bytes) (s : State) : State :=
  let w := byteField b 0 4
  let s := onPair (fun p => { p with peerHealth := w }) s
  if byteField b 4 1 = 0 then straitDown 2 s
  else
    let id := match s.pair.link with | some l => l.1 | none => 0
    let s := if !s.pair.straitUp && (first || bit w 4) then
        raise 0x1113 115 1 0 id (onPair (fun p => { p with straitUp := true, applied := false }) s)
      else s
    let dual := s.pair.grant && bit w 2
    let s := if dual && !s.pair.dual then
        raise 0x1110 112 1 1 (ontLo s) (onPair (fun p => { p with dual := true }) s)
      else onPair (fun p => { p with dual := dual }) s
    syncCheck (mismatchSet (mismatchItem s b) s)

/-- The length and the fixed fields of a frame are those of R521. -/
def straitFormOk (f : Bytes) : Bool :=
  let type := byteField f 3 1
  let len := byteField f 0x14 2
  byteField f 0 2 == 0xD742 && byteField f 2 1 == 1 && decide (1 ≤ type) && decide (type ≤ 3) && decide (len ≤ 2048) &&
    f.length == 24 + len + 16 && (type != 1 || len == 32)

/-- The unit bit of a frame's LINK_ID differs from the own unit. -/
def straitUnitOk (s : State) (f : Bytes) : Bool := bit (byteField f 4 4) 31 != s.power.unitB

/-- The non-empty position under a frame's epoch (R523 step 2). -/
def straitKey (s : State) (f : Bytes) : Option Nat :=
  [0, 1].find? (fun k => (nth {} s.sec.slots (22 + k)).type != 0 && nth 0 s.sec.epochs (2 + k) == byteField f 0x10 4)

/-- A frame that passed steps 1 to 3 (R523 step 4). -/
def straitAccept (f pt : Bytes) (s : State) : State :=
  let id := byteField f 4 4
  let seq := byteField f 8 8
  let prev := lookupNat id s.pair.peerLinks
  if (match prev with | some q => decide (seq ≤ q) | none => false) then onPair (fun p => { p with rxSeq := satInc 32 p.rxSeq }) s
  else
    let gap := match prev with | some q => seq != q + 1 | none => seq != 0
    let s := onPair (fun p => { p with tagRun := 0, peerLinks := insertNat id seq p.peerLinks }) s
    let s := if prev.isNone then onPair (fun p => { p with listAcc := none, bulkAcc := none, listBad := false, bulkBad := false }) s else s
    let last := bit (byteField f 0x16 2) 0
    match byteField f 3 1 with
    | 1 => ctrlFrame prev.isNone pt (if gap then onPair (fun p => { p with
        listBad := p.listAcc.isSome, bulkBad := p.bulkAcc.isSome }) s else s)
    | 2 => if pairRole s = 2 then listFrame gap last pt s else s
    | _ => if pairRole s = 2 then bulkFrame gap last pt s else s

/-- A strait frame arrives (R523). -/
def straitFrame (f : Bytes) (s : State) : State :=
  if !(s.pair.running && inRun s) then s
  else if !straitFormOk f || !straitUnitOk s f then
    let s := onPair (fun p => { p with rxFormat := satInc 32 p.rxFormat }) s
    if straitFormOk f then mismatchSet (1, b2n s.power.unitB, b2n (bit (byteField f 4 4) 31)) s else s
  else match straitKey s f with
    | none => onPair (fun p => { p with rxEpoch := satInc 32 p.rxEpoch }) s
    | some k =>
      let s := slotAsk (22 + k) 1 s
      match Config.gcmOpen (slotKey s (22 + k) 1) ((f.drop 4).take 12) (f.take 24) (f.drop 24) with
      | none =>
        let s := onPair (fun p => { p with rxTag := satInc 32 p.rxTag, tagRun := p.tagRun + 1 }) s
        if s.pair.straitUp && decide (parN s 0x1103 ≤ s.pair.tagRun) then straitDown 1 s else s
      | some pt => straitAccept f pt s

/-- STRAIT_FRAME_RECEIVED (R523). -/
def execStraitFrameReceived (f : Bytes) (s : State) : Out := .next (straitFrame f s)

/-- The unit drives the plant anew: CAN objects in NORMAL become pending (R481, R533). -/
def canReassertAll (s : State) : State := (upTo 4).foldl (fun s c => canReassert c s) s

/-- A unit in STANDBY gains grant: the mirrored values are driven, objects pending, the broadcast resent (R533). -/
def pairTakeOver (s : State) : State :=
  let s := onPair (fun p => { p with period := none, droveDue := false }) s
  let s := (upTo 32).foldl (fun s n => loopGrant n s) s
  let s := (upTo 16).foldl (fun s n => axisGrant n s) s
  bcastAgain (canReassertAll (logicGrant s))

/-- EV_PAIR_HOLD at the end of a hold (R541). -/
def holdEnd (s : State) : State :=
  raise 0x1111 113 0 s.pair.holdWhy 0 (onPair (fun p => { p with hold := false }) s)

/-- A filtered edge of PAIR_GRANT (R514, R515). -/
def grantEdge (level : Bool) (s : State) : State :=
  if level == s.pair.grant then s
  else
    let role := pairRole s
    let s := latchWake 2 s
    let s := onPair (fun p => { p with grant := level }) s
    if !(s.pair.running && plantRuns s) then s
    else
      let s := onPair (fun p => { p with grantCnt := satInc 32 p.grantCnt, grantT := s.time.ont, dual := p.dual && level }) s
      let s := raise 0x1110 112 (b2n level) (b2n s.pair.dual) (ontLo s) s
      if level then
        if role = 2 then pairTakeOver s
        else if s.pair.hold && s.pair.holdWhy == 0 && !s.pair.fail then canReassertAll (holdEnd s)
        else s
      else if role = 1 then holdStart 0 s
      else s

/-- PAIR_GRANT_EDGE (R514, R56): the filtered level. -/
def execPairGrantEdge (level : Bool) (s : State) : Out := .next (grantEdge level s)

/-- Loops, logic and axes stop with their units ENABLED (R76 step 4, R107, R516). -/
def plantStop (s : State) : State :=
  oneCycle (fun s =>
    let s := (upTo 32).foldl (fun s n => loopPark n s) s
    (upTo 16).foldl (fun s n => axisPark n s) (logicPark s)) s

/-- PAIR_HOLD_TIME has passed since the hold line was asserted (R515). -/
def holdOver (s : State) : Bool := decide (s.pair.holdTick + 125000 * actN s 0x1101 ≤ s.power.netTick)

/-- A hold drops on a failed unit that still has grant (R516). -/
def failsafeStop (s : State) : State :=
  let s := canPendingGone (plantStop (onPair (fun p => { p with failsafe := true }) s))
  raise 0x1112 114 s.pair.cause (ontLo s) 0 s

/-- HOLD_EXPIRY (R515, R516). -/
def holdExpiry (s : State) : State :=
  if s.pair.running && s.pair.hold && plantRuns s && holdOver s then
    oneCycle (fun s =>
      let s := holdEnd s
      if s.pair.fail && s.pair.grant && !s.pair.failsafe then failsafeStop s else s) s
  else s

/-- HOLD_EXPIRY (R515). -/
def execHoldExpiry (s : State) : Out := .next (holdExpiry s)

/-- TAG_T and signature of the latest object of a kind. -/
def latestBulk (s : State) (k : Nat) : Bytes :=
  match lookupNat k (if pairRole s = 2 then s.pair.peer else s.pair.own) with
  | some o => leBytes 8 o.tag ++ leBytes 8 o.sig
  | none => zeros 16

/-- The effect of PAIR_STATUS_GET (R540). -/
def pairStatusGet (p : Bytes) (s : State) : Answer :=
  if p ≠ [] then refuse s 0x110A
  else done s (leBytes 4 (pairStatus s) ++ leBytes 4 s.pair.health ++ leBytes 4 s.pair.peerHealth ++ leBytes 4 s.pair.periodSeq ++
    [1, 2, 3].flatMap (latestBulk s))

/-- PAIR_STATUS_GET (0x1110). -/
def execPairStatusGet (m : Mail) (s : State) : Out := mailOut 0x1110 m (pairStatusGet m.payload) s

/-- The effect of PAIR_FAIL_SET (R519, R540). -/
def pairFailSet (p : Bytes) (s : State) : Answer :=
  if p ≠ zeros 4 then refuse s 0x110A
  else if !enabled s 0x11 0 then refuse s 0x1103
  else done (failLatch 1 s) []

/-- PAIR_FAIL_SET (0x1111). -/
def execPairFailSet (m : Mail) (s : State) : Out := mailOut 0x1111 m (pairFailSet m.payload) s

/-- The effect of PAIR_RESYNC (R540). How the request reaches the ACTIVE unit is not given. -/
def pairResync (p : Bytes) (s : State) : Answer :=
  if p ≠ [] then refuse s 0x110A
  else if !enabled s 0x11 0 then refuse s 0x1103
  else if pairRole s ≠ 2 ∨ s.pair.straitUp = false then refuse s 0x1106
  else done s []

/-- PAIR_RESYNC (0x1112). -/
def execPairResync (m : Mail) (s : State) : Out := mailOut 0x1112 m (pairResync m.payload) s

/-- The INDEX of an entry lies within the running variant (R526). -/
def mirrorIndexOk (s : State) (kind index : Nat) : Bool :=
  match kind with
  | 1 => decide (index < (unitCount s 10).1)
  | 2 => decide (index < (unitCount s 11).1)
  | 3 => index == 0
  | 4 => decide (index < 32)
  | 5 | 6 => decide (index < 256)
  | 7 | 9 => decide (index < 8)
  | 8 => decide (index < 6)
  | 10 => decide (index < 512)
  | 11 => match pInfo index with
    | some i => i.live && !isTable i && i.owner != 0x11
    | none => false
  | _ => false

/-- No element of a list of pairs is repeated. -/
def noRepeat : List (Nat × Nat) → Bool
  | [] => true
  | x :: l => !l.contains x && noRepeat l

/-- PAIR_MIRROR_LIST passes item 1 of R535. -/
def mirrorListOk (s : State) : Bool :=
  let t := tab s 0x7000
  (upTo 2048).all (fun k => byteField t (4 * k) 1 == 0 || byteField t (4 * k + 1) 1 == 0) &&
    (mirrorList s).all (fun e => mirrorIndexOk s e.1 e.2) && noRepeat (mirrorList s) && decide (listBytes s ≤ 30000)

/-- The consistency check of PAIR unit 0 (R535). -/
def pairCheck (s : State) : CheckFail :=
  firstFail [(mirrorListOk s, 0x1110, 0x7000), ((straitPos s).isSome, 0x1111, 0), (s.sec.drbgOk, 0x1112, 0)]

/-- The parameters that the pair unit commits. -/
def pairParams (id : Nat) : Bool := (0x1100 ≤ id && id < 0x1200) || id == 0x7000

/-- PAIR unit 0 starts: heartbeats, health frames and the link (R517, R518, R525, R535, R537). -/
def pairStart (s : State) : State :=
  let s := onPair (fun p => {
    grant := p.grant, fail := p.fail, cause := p.cause, failsafe := p.failsafe, wdt := p.wdt, running := true }) (padLoadOwner 0x11 s)
  let s := linkStart s
  if s.pair.grant then s else canPendingGone s

/-- The pair stop begins: a CTRL frame with role 0 reports it, and the link ends (R536). -/
def pairStop (s : State) : State :=
  let s := if inRun s then straitSend 1 false (ctrlPayload s 0) s else s
  onPair (fun p => { p with link := none }) s

/-- The pair stop ends: the unit is stand-alone and has grant (R513, R536). -/
def pairStopEnd (s : State) : State :=
  let role := pairRole s
  let s := onPair (fun p => {
    grant := p.grant, fail := p.fail, cause := p.cause, failsafe := p.failsafe, wdt := p.wdt, health := p.health
    peerHealth := p.peerHealth, periodSeq := p.periodSeq, lostCnt := p.lostCnt, rxFormat := p.rxFormat, rxEpoch := p.rxEpoch
    rxTag := p.rxTag, rxSeq := p.rxSeq, grantCnt := p.grantCnt, grantT := p.grantT, bulkTx := p.bulkTx, bulkRx := p.bulkRx }) s
  if role = 2 ∨ role = 3 then canReassertAll s else s

/-- A DRAM error in the mirror staging (R28): queued objects and the rest of the one being received are discarded. -/
def stagingLost (s : State) : State :=
  onPair (fun p => { p with queue := [], bulkAcc := p.bulkAcc.map (fun _ => []), bulkBad := p.bulkBad || p.bulkAcc.isSome }) s

/-- NET in OFF ends the strait and keeps no counters (R67); the grant, the hold line, FAIL and the objects in DRAM stay (R29, R519;
log 31). -/
def pairLost (s : State) : State :=
  let s := if s.pair.straitUp then straitDown 0 s else s
  onPair (fun p => {
    grant := p.grant, hold := p.hold, holdTick := p.holdTick, holdWhy := p.holdWhy, fail := p.fail, cause := p.cause
    failsafe := p.failsafe, running := p.running, wdt := p.wdt, own := p.own, peer := p.peer, droveDue := p.droveDue }) s

/-- A register of the pair link and mirror engine (R537). -/
def pairReg (s : State) (off : Nat) : Nat :=
  let p := s.pair
  match off with
  | 0x00 => pairStatus s
  | 0x04 => p.health
  | 0x08 => p.peerHealth
  | 0x0C => holdRemain s
  | 0x10 => p.periodSeq
  | 0x14 => p.lostCnt
  | 0x18 => listBytes s
  | 0x1C => listCrc s
  | 0x20 => p.rxFormat
  | 0x24 => p.rxEpoch
  | 0x28 => p.rxTag
  | 0x2C => p.rxSeq
  | 0x30 => p.grantCnt
  | 0x34 => p.grantT % 2 ^ 32
  | 0x38 => p.grantT / 2 ^ 32
  | 0x3C => p.bulkTx
  | 0x40 => p.bulkRx
  | _ => 0

end Sys2Proof.Machine
end

