-- ==== Sys2Proof/Machine/Cycle.lean ====
section
/-! DEFINITION. How the cycle hangs together: what the result unit does at the end of a job, the publication of the
pair, and the hand-off (R22, R226, R261, R268, R288, R300, R303, R529). -/

namespace Sys2Proof.Machine

/-- The result unit takes the outcome of the period's jobs that have ended (R226, R261, R300). -/
def oxHear (s : State) : State :=
  let x := oxq s 0
  let s := if s.est.phase = 2 ∧ s.est.job = x.job ∧ x.state = 0 then newtonCause x.outcome s else s
  let y := oxq s 1
  if s.dsp.phase = 2 ∧ y.state = 0 ∧ y.arm.bench = false ∧ s.dsp.jobCause = none then
    let s := dispatchJobEnd y.outcome s
    if s.dsp.phase = 3 ∧ s.dsp.cause = 0 then
      match s.dsp.own with
      | some w => bulkNew { obj := 1, sig := w.sig, tag := w.step0, aux := toBits 8 w.rhoK, rangeId := w.rangeId
                            body := w.vec.flatMap (leIntBytes 4) } s
      | none => s
    else s
  else s

/-- OX_BLOCK_END (R223): `h` is the block's header, and `calls` program calls ended in it. -/
def execOxBlockEnd (q : Nat) (h : BlockHead) (calls : Nat) (s : State) : Out := .next (oxHear (oxBlockEnd q h calls s))

/-- BLOCK_OVERRUN (R223). -/
def execBlockOverrun (q : Nat) (s : State) : Out := .next (oxHear (oxOverrun q s))

/-- OX_JOB_END (R226). -/
def execOxJobEnd (q dramNs : Nat) (s : State) : Out := .next (oxHear (oxJobEnd q dramNs s))

/-- A deadline is reached (R226): the job is stopped, or ended at once where it has not started; the result unit ends the
Newton part at once. -/
def oxDeadline (q : Nat) (s : State) : State :=
  let x := oxq s q
  let nextDue := x.next.any (fun a => x.lateNext || deadlineReached s a.1.deadline)
  let due := (x.state == 1 || x.state == 2 || x.state == 3) && jobLate s q
  let own := (nextDue || due) && q == 0 && s.est.phase == 2 && s.est.job == x.job
  let s := if own then newtonCause 2 s else s
  let s := if nextDue then nextTimeout q s else s
  oxHear (if due then oxTimeout q s else s)

/-- OX_DEADLINE_REACHED (R226). -/
def execOxDeadlineReached (q : Nat) (s : State) : Out := .next (oxDeadline q s)

/-- SOLVER_ABORT_END (R227). -/
def execSolverAbortEnd (q : Nat) (s : State) : Out := .next (oxHear (oxAbortEnd q s))

/-- The Drove object of a publication is queued for the peer (R529). -/
def bulkDrove (s : State) : State :=
  if parN s 0x1105 = 1 then
    bulkNew { obj := 2, sig := s.host.modelSig, tag := s.est.t0, aux := 0, rangeId := 0, body := droveBody s } s
  else s

/-- The pair is published, and what follows from it (R268, R281, R288, R529). -/
def pairPublish (s : State) : State :=
  let s := estPublish s
  let s := if malorWorks s then storeCharge s else s
  pairSeen (bulkDrove s)

/-- The Drove advance ends (R268). -/
def droveEnd (s : State) : State := if inRun s && s.est.phase == 3 then pairPublish s else s

/-- DROVE_ADVANCE_END (R268). -/
def execDroveAdvanceEnd (s : State) : Out := .next (droveEnd s)

/-- te is reached: the pair is published, STALE if need be (R268). -/
def estLast (s : State) : State :=
  if !inRun s || s.est.phase == 0 || decide (s.time.ont < s.est.t0 + actN s 0x0721 * 1000000) then s
  else
    let s := if s.est.phase = 2 then oxTimeout 0 (newtonCause 2 s) else s
    pairPublish s

/-- EST_PUBLISH_DEADLINE (R268). -/
def execEstPublishDeadline (s : State) : Out := .next (estLast s)

/-- The schedule value that a hand-off entry takes, in the units of R282 (R303). -/
def handValue (img : Bytes) (p : Pub) (e : HandMap) : Int :=
  match e.qty with
  | 1 => nth 0 p.sched (ixPlant img 0 e.object 1)
  | 2 => nth 0 p.sched (ixPlant img 0 e.object 0)
  | 3 => nth 0 p.sched (ixPlant img 0 e.object 2)
  | 4 => nth 0 p.sched (ixStore img 0 e.object 0)
  | 5 => nth 0 p.sched (ixPump img 0 e.object)
  | _ => nth 0 p.bcast e.object

/-- The value an entry applies: schedule value x GAIN + OFFSET, rounded and saturated under R12. -/
def handApplied (img : Bytes) (p : Pub) (e : HandMap) : Int :=
  satS 32 (divRound (handValue img p e * e.gain + e.offset * 65536) 65536)

/-- One entry reaches its destination; a broadcast entry is sent with the datagrams (R303). -/
def handEntry (p : Pub) (i : Nat) (s : State) : State :=
  let e := handMap s i
  let v := handApplied s.model.image p e
  match e.dest with
  | 1 => loopHand e.index v s
  | 2 => axisHand e.index v s
  | 3 => canHand (e.index / 128) (e.index % 128) e.sub v s
  | _ => s

/-- The limit that the map computes for a cluster; none for one with no DEST 4 entry (R504). -/
def handLimit (s : State) (p : Pub) (c : Nat) : Option Int :=
  ((usedHand s).filter (fun i => (handMap s i).dest == 4 && (handMap s i).index == c)).getLast?.map
    (fun i => handApplied s.model.image p (handMap s i))

/-- BCAST_FILL of the current period's publication stands in its header's FLAGS. -/
def curFill (s : State) (p : Pub) : Bool := bit (byteField (nth [] s.dsp.buf (p.number % 3)) 0x30 4) 10

/-- Step 0 of a publication is applied (R303, R304, R504, R529), and kept for the next build (R287). -/
def handApply (p : Pub) (s : State) : State :=
  let img := s.model.image
  let es := usedHand s
  let pt := bcastPlain p.number p.shifted (curFill s p) ((upTo (nCluster img)).map (handLimit s p))
  let s := es.foldl (fun s i => handEntry p i s) s
  let s := bcastNew p.number pt s
  let s := bulkNew { obj := 3, sig := p.sig, tag := s.dsp.ta, aux := p.number, rangeId := 0, body := pt } s
  let watts := ratSum ((upTo (nPlant img)).map (fun k => (nth 0 p.sched (ixPlant img 0 k 2) : Rat))) -
    ratSum ((upTo (nPump img)).map (fun k => ePwr s k * (nth 0 p.sched (ixPump img 0 k) : Rat)))
  onDsp (fun d => { d with
    lastTc := (upTo (nCluster img)).map (fun c => (c, nth 0 p.bcast c))
    lastD := (upTo (nPump img)).map (fun k => (k, nth 0 p.sched (ixPump img 0 k)))
    appliedW := watts, handoffs := satInc 32 d.handoffs, entries := es.length, skipped := false, lastShifted := p.shifted }) s

/-- ta is reached (R303): nothing is applied where the publication of td is EMPTY, stopped or missing. -/
def dispatchApply (s : State) : State :=
  if !(inRun s && enabled s 9 0 && s.dsp.taDue && (s.dsp.taHit || deadlineReached s s.dsp.ta)) then s
  else
    let s := onDsp (fun d => { d with taDue := false }) s
    match s.dsp.cur with
    | some p => if p.empty ∨ s.dsp.stopped then onDsp (fun d => { d with skipped := true, entries := 0 }) s else handApply p s
    | none => onDsp (fun d => { d with skipped := true, entries := 0 }) s

/-- DISPATCH_APPLY (R303). -/
def execDispatchApply (s : State) : Out := .next (dispatchApply s)

end Sys2Proof.Machine
end

