-- ==== Sys2Proof/Machine/Display.lean ====
section
/-! DEFINITION. The bistable status panel: images, updates, temperature bands, rails and discharge (R565 to R585). -/

namespace Sys2Proof.Machine

/-- The display controller's state changed. -/
def onDisp (f : DispSt → DispSt) (s : State) : State := { s with disp := f s.disp }

/-- DISPLAY unit 0 is enabled. -/
def dispOn (s : State) : Bool := enabled s 0x13 0

/-- The line and frame times in ns (R566). -/
def lineTime (s : State) : Nat := parN s 0x1303 * 40
def frameTime (s : State) : Nat := (parN s 0x1301 + parN s 0x1304) * lineTime s

/-- The byte of an image at an offset (R567). -/
def imgByte (l : List (Nat × Nat)) (o : Nat) : Nat := (lookupNat o l).getD 0xFF

/-- One byte of an image written. -/
def imgPut (o v : Nat) (l : List (Nat × Nat)) : List (Nat × Nat) := if v = 0xFF then eraseNat o l else insertNat o v l

/-- The byte offset of pixel pair x, y (R567). -/
def imgOff (s : State) (x y : Nat) : Nat := y * (parN s 0x1300 / 2) + x / 2

/-- The level of a pixel: the left one of a pair in the low nibble (R567). -/
def level (s : State) (l : List (Nat × Nat)) (x y : Nat) : Nat := bits (imgByte l (imgOff s x y)) (4 * (x % 2)) 4

/-- A full start sets both images to 15; SHOWN is unknown (R567). -/
def dispFullStart (d : DispSt) : DispSt := { d with pend := [], shown := [], shownKnown := false }

/-- The panel temperature in 0.01 °C with the ONT of its value (R571). -/
def panelTemp (s : State) : Option (Int × Nat) :=
  if par s 0x130A = 0 then s.disp.hostTemp
  else (sourceValue s 1 (parN s 0x130B) 0).map
    (fun v => (satS 16 (shiftRound (v.1 * par s 0x130C + par s 0x130D * 65536) 16), v.2))

/-- T while it is no older than DISP_TEMP_MAX_AGE (R571). -/
def tempValid (s : State) : Option Int :=
  match panelTemp s with
  | some (t, at0) => if s.time.ont ≤ at0 + parN s 0x130E * 1000000000 then some t else none
  | none => none

/-- The band for a temperature, with TEMP_HIGH and NO_TEMP (R571). -/
def bandNow (s : State) : Nat × Bool × Bool :=
  let n := parN s 0x130F
  match tempValid s with
  | none => (parN s 0x1310, false, true)
  | some t => match (upTo n).find? (fun b => decide (t ≤ tabS s 0x7800 (2 * b) 2)) with
    | some b => (b, false, false)
    | none => (n - 1, true, false)

/-- F_FULL and F_PART of band `b` (R584). -/
def fFull (s : State) (b : Nat) : Nat := tabN s (0x7810 + b) 0 1
def fPart (s : State) (b : Nat) : Nat := tabN s (0x7810 + b) 1 1

/-- The band's table for a mode, as it is loaded into waveform RAM (R570, R584). -/
def wfTable (s : State) (b : Nat) (full : Bool) : Bytes :=
  let t := tab s (0x7810 + b)
  if full then (t.drop 8).take (4 * fFull s b) else (t.drop (8 + 4 * fFull s b)).take (64 * fPart s b)

/-- The 2-bit code at entry `i` of frame `f`, of frames of `size` bytes (R584). -/
def wfCode (wf : Bytes) (size f i : Nat) : Nat := bits (byteField wf (size * f + i / 4) 1) (2 * (i % 4)) 2

/-- The code that pixel (x, y) receives in the current frame (R566, R570, R574, R577, R578). -/
def pixelCode (s : State) (x y : Nat) : Nat :=
  let d := s.disp
  match d.cur with
  | none => 0
  | some u =>
    if d.state ≠ 3 ∨ d.frameLost ∨ d.railFail.isSome ∨ x < u.x0 ∨ u.x0 + u.w ≤ x ∨ y < u.y0 ∨ u.y0 + u.h ≤ y then 0
    else
      let target := if u.clearing then 15 else level s d.pend x y
      if u.full || d.asFull then wfCode d.wf 4 d.frame target
      else wfCode d.wf 64 d.frame (16 * level s d.shown x y + target)

/-- What SD_D0 to 15 carry at clock `c` of line `y`: the codes of eight pixels, two bits each (R565). -/
def sdWord (s : State) (y c : Nat) : Nat :=
  (upTo 8).foldl (fun a i => a + pixelCode s (8 * c + i) y * 4 ^ i) 0

/-- DISP_UPD_FLAG while an update runs (R582). -/
def updFlag (u : DispUpd) (band frame : Nat) : Nat :=
  1 + 2 * b2n u.clearing + 16 * band + 256 * (frame % 256) + 65536 * (u.num % 65536)

/-- A frame boundary of the update, which is where one of its frames starts (DEDUCED, log 45): the band is evaluated, and a
first difference flagged and raised (R572); the frame begins. -/
def frameStart (u : DispUpd) (s : State) : State :=
  let b := (bandNow s).1
  let d := s.disp
  let s := if b != d.band && !d.bandChanged then
      raise 0x1313 123 u.num d.band b (onDisp (fun d => { d with bandChanged := true }) s)
    else s
  send (.panelFrame u.num s.disp.frame false)
    (onDisp (fun d => { d with state := 3, frameLost := false, flag := updFlag u d.band d.frame }) s)

/-- An update starts (R570, R571): band, table and flag are latched; with the rails down the power-up runs (R573). -/
def updStart (u : DispUpd) (s : State) : State :=
  let (b, hi, no) := bandNow s
  let asFull := !u.full && (fPart s b == 0 || !s.disp.shownKnown)
  let full := u.full || asFull
  let railsUp := s.disp.state == 3 || s.disp.state == 4
  let s := onDisp (fun d => { d with
    cur := some u, updNum := u.num, rect := (u.x0, u.y0, u.w, u.h), band := b, noTemp := no, tempHigh := hi, asFull := asFull
    bandChanged := false, frame := 0, frames := if full then fFull s b else fPart s b, driven := 0, wf := wfTable s b full
    frameLost := false, updLost := false, railFail := none, flag := updFlag u b 0 }) s
  if railsUp then frameStart u s
  else onDisp (fun d => { d with state := if d.state = 6 then 6 else 2, powerStep := 2, vcomSet := 0, dsc := 0 }) s

/-- The whole panel to level 15 (R578). -/
def clearUpd (s : State) : DispUpd :=
  { num := (s.disp.lastNum + 1) % 2 ^ 32, full := true, x0 := 0, y0 := 0, w := parN s 0x1300, h := parN s 0x1301, clearing := true }

/-- The clearing update starts (R578). -/
def clearStart (s : State) : State :=
  let u := clearUpd s
  updStart u (onDisp (fun d => { d with lastNum := u.num }) s)

/-- The next update starts: a clearing update that is due goes before the one that waits (R570, R578). -/
def nextStart (s : State) : State :=
  match s.disp.queued with
  | none => s
  | some u => if s.disp.clearDue then clearStart s else updStart u (onDisp (fun d => { d with queued := none }) s)

/-- DISP_UPD_RESULT (R583). -/
def dispResult (d : DispSt) (u : DispUpd) (outcome : Nat) : Nat :=
  outcome + 8 * b2n d.bandChanged + 16 * b2n d.noTemp + 32 * b2n d.tempHigh + 64 * b2n d.asFull + 128 * b2n u.clearing
    + 256 * d.band + 65536 * d.driven

/-- The running update ends with an outcome, and EV_DISPLAY_UPDATE is raised (R570). -/
def updEnd (u : DispUpd) (outcome : Nat) (s : State) : State :=
  let r := dispResult s.disp u outcome
  raise 0x1310 120 u.num r (ontLo s) (onDisp (fun d => { d with cur := none, result := r }) s)

/-- The offsets of the bytes of a rectangle. -/
def rectOffs (s : State) (u : DispUpd) : List Nat :=
  (upTo u.h).flatMap (fun j => (upTo (u.w / 2)).map (fun i => imgOff s (u.x0 + 2 * i) (u.y0 + j)))

/-- SHOWN takes the rectangle of PENDING, or the cleared panel (R570, R578). -/
def shownTake (s : State) (u : DispUpd) : List (Nat × Nat) :=
  if u.clearing then []
  else (rectOffs s u).foldl (fun l o => imgPut o (imgByte s.disp.pend o) l) s.disp.shown

/-- The rectangle is the whole panel. -/
def wholePanel (s : State) (u : DispUpd) : Bool := u.x0 == 0 && u.y0 == 0 && u.w == parN s 0x1300 && u.h == parN s 0x1301

/-- The discharge sequence begins with its frame (R576). -/
def dischargeStart (s : State) : State :=
  send (.panelFrame s.disp.updNum 0 true) (onDisp (fun d => { d with state := 5, dscStep := 1 }) s)

/-- After the last frame (R570, R575, R577). -/
def lastFrame (u : DispUpd) (s : State) : State :=
  let lost := s.disp.updLost
  let s := onDisp (fun d => { d with
    shown := shownTake s u
    shownKnown := if lost then false else d.shownKnown || (u.full && wholePanel s u)
    clearDue := d.clearDue && !(u.clearing && !lost)
    flag := d.flag / 2 * 2 }) s
  let s := updEnd u (if lost then 2 else 0) s
  if s.disp.queued.isSome then nextStart s
  else if s.disp.stop ≠ 0 ∨ parN s 0x1307 = 0 then dischargeStart s
  else onDisp (fun d => { d with state := 4 }) s

/-- A panel frame ends (R570, R574). -/
def frameEnd (s : State) : State :=
  match s.disp.cur with
  | none => s
  | some u =>
    if s.disp.state ≠ 3 then s
    else
      let s := onDisp (fun d => { d with frameCnt := satInc 32 d.frameCnt, driven := d.driven + 1 }) s
      if s.disp.railFail.isSome then dischargeStart s
      else if s.disp.frame + 1 < s.disp.frames then frameStart u (onDisp (fun d => { d with frame := d.frame + 1 }) s)
      else lastFrame u s

/-- DISPLAY_FRAME_END (R570). -/
def execDisplayFrameEnd (s : State) : Out := .next (frameEnd s)

/-- The fetch of the current frame fails (R577). -/
def frameFetchLost (s : State) : State :=
  match s.disp.cur with
  | some u =>
    if s.disp.state ≠ 3 ∨ s.disp.frameLost then s
    else raise 0x1314 124 u.num s.disp.frame 0 (onDisp (fun d => { d with
      frameLost := true, updLost := true, lostCnt := satInc 32 d.lostCnt, shownKnown := false }) s)
  | none => s

/-- The rail that a power-up step waits for becomes good (R573); DISP_VCOM_SET is -DISP_VCOM / 2 to 1 mV, rounded by R12. -/
def railGood (s : State) : State :=
  let k := s.disp.powerStep
  if k < 2 ∨ 5 < k then s
  else onDisp (fun d => { d with
    good := d.good ||| 2 ^ (k - 2), powerStep := k + 1
    vcomSet := if k = 5 then ((1 - par s 0x1308) / 2).toNat else d.vcomSet }) s

/-- RAIL_GOOD (R573). -/
def execRailGood (s : State) : Out := .next (railGood s)

/-- VCOM_SETTLE_DONE (R573): the power-up has succeeded and the first frame starts. -/
def vcomSettled (s : State) : State :=
  match s.disp.cur with
  | some u => if s.disp.powerStep = 6 then frameStart u (onDisp (fun d => { d with powerStep := 0 }) s) else s
  | none => s

/-- VCOM_SETTLE_DONE (R573). -/
def execVcomSettleDone (s : State) : Out := .next (vcomSettled s)

/-- The rail of a discharge step (R576). -/
def dscRail (step : Nat) : Nat := 6 - step

/-- A discharge step begins: VCOM to 0 V, or a rail's drive stops and its discharge engages (R576). -/
def dscEnter (step : Nat) (s : State) : State :=
  onDisp (fun d =>
    if step = 2 then { d with dscStep := 2, vcomSet := 0 }
    else if step < 7 then { d with
      dscStep := step, good := d.good &&& (15 - 2 ^ dscRail step), dsc := d.dsc ||| 2 ^ dscRail step }
    else { d with dscStep := 7 }) s

/-- The discharge is over: an update under a rail failure ends and the controller enters FAULT (R574), a stopping
controller waits for the end of its sequence (R581), and an update that waits starts (R570). -/
def dscOver (s : State) : State :=
  let s := onDisp (fun d => { d with dscStep := 0, dsc := 0xF, good := 0 }) s
  let s := match s.disp.railFail, s.disp.cur with
    | some (rail, cause, fb), some u =>
      let s := updEnd u 1 s
      raise 0x1312 122 rail cause fb
        (onDisp (fun d => { d with state := 6, railFail := none, shownKnown := if cause = 1 then false else d.shownKnown }) s)
    | _, _ => onDisp (fun d => { d with state := 1 }) s
  if s.disp.stop ≠ 0 then onDisp (fun d => { d with dscStep := 7 }) s else nextStart s

/-- The discharge moves on (R576). -/
def dscNext (s : State) : State :=
  let k := s.disp.dscStep
  if k = 0 ∨ 7 ≤ k then s
  else if k = 6 then dscOver s
  else dscEnter (k + 1) s

/-- DISCHARGE_STEP_DONE (R576). -/
def execDischargeStepDone (s : State) : Out := .next (dscNext s)

/-- A rail is still above 5 % after 10 ms: the next rail follows (R576). -/
def dscTimeout (fb : Nat) (s : State) : State :=
  let k := s.disp.dscStep
  if 3 ≤ k ∧ k ≤ 6 then
    dscNext (raise 0x1312 122 (dscRail k) 2 fb (onDisp (fun d => { d with dscSlow := true }) s))
  else s

/-- DISCHARGE_RAIL_TIMEOUT (R576). -/
def execDischargeRailTimeout (fb : Nat) (s : State) : Out := .next (dscTimeout fb s)

/-- A rail is not good in time: the rails started collapse without the frame (R574). -/
def railTimeout (fb : Nat) (s : State) : State :=
  let k := s.disp.powerStep
  if k < 2 ∨ 5 < k then s
  else dscEnter (8 - k) (onDisp (fun d => { d with
    state := 5, powerStep := 0, vcomSet := 0, railFail := some (k - 2, 0, fb) }) s)

/-- RAIL_TIMEOUT (R574). -/
def execRailTimeout (fb : Nat) (s : State) : Out := .next (railTimeout fb s)

/-- A rail leaves its good window for more than 100 µs (R574). During an update its frame completes with every code 0; where
the power-up has driven none yet, the discharge sequence runs at once (DEDUCED, log 45). Outside an update the rail is only no
longer good. -/
def railLost (rail fb : Nat) (s : State) : State :=
  let d := s.disp
  if 4 ≤ rail ∨ !bit d.good rail then s
  else
    let s := onDisp (fun d => { d with good := d.good &&& (15 - 2 ^ rail) }) s
    if d.cur.isNone ∨ d.railFail.isSome then s
    else
      let s := onDisp (fun d => { d with railFail := some (rail, 1, fb), powerStep := 0 }) s
      if d.powerStep = 0 then s else dischargeStart s

/-- RAIL_LOST (R574). -/
def execRailLost (rail fb : Nat) (s : State) : Out := .next (railLost rail fb s)

/-- RAIL_HOLD_EXPIRY (R575). -/
def execRailHoldExpiry (s : State) : Out := .next (if s.disp.state = 4 then dischargeStart s else s)

/-- A run of pixels overlaps a rectangle. -/
def runOverlaps (x y n : Nat) (u : DispUpd) : Bool :=
  decide (u.y0 ≤ y) && decide (y < u.y0 + u.h) && decide (x < u.x0 + u.w) && decide (u.x0 < x + n)

/-- The effect of DISP_IMAGE_WRITE (R568). -/
def imageWrite (p : Bytes) (s : State) : Answer :=
  let x := byteField p 0 2
  let y := byteField p 2 2
  let n := byteField p 4 2
  if p.length < 8 ∨ p.length ≠ 8 + n / 2 ∨ byteField p 6 2 ≠ 0 then refuse s 0x130A
  else if !dispOn s then refuse s 0x1303
  else if x % 2 = 1 ∨ n % 2 = 1 ∨ n < 2 ∨ 1920 < n ∨ parN s 0x1300 < x + n ∨ parN s 0x1301 ≤ y then refuse s 0x1305
  else if (match s.disp.cur with | some u => runOverlaps x y n u | none => false) then refuse s 0x1301
  else
    let o := imgOff s x y
    done (onDisp (fun d => { d with
      pend := (upTo (n / 2)).foldl (fun l i => imgPut (o + i) (byteField p (8 + i) 1) l) d.pend }) s) []

/-- DISP_IMAGE_WRITE (0x1310). -/
def execDispImageWrite (m : Mail) (s : State) : Out := mailOut 0x1310 m (imageWrite m.payload) s

/-- The rate of the fetch is within the reservation (R569). -/
def rateOk (s : State) (full : Bool) (w h : Nat) : Bool :=
  decide (w * h * (if full then 1 else 2) * 1000 ≤ 128 * frameTime s)

/-- The payload of DISP_UPDATE is within the panel and its fields are as R569 has them. -/
def updFieldsOk (s : State) (p : Bytes) : Bool :=
  let x0 := byteField p 4 2
  let y0 := byteField p 6 2
  let w := byteField p 8 2
  let h := byteField p 10 2
  decide (8 ≤ w) && decide (8 ≤ h) && decide (x0 + w ≤ parN s 0x1300) && decide (y0 + h ≤ parN s 0x1301) &&
    x0 % 8 == 0 && w % 8 == 0 && decide (byteField p 0 1 ≤ 1) && byteField p 1 3 == 0

/-- An accepted update: it starts at once in IDLE, HOLDING and, as nothing is in progress there, FAULT; else it waits (R570,
R574). One accepted while the controller stops for a device-state entry waits for the exit (DESIGN CHOICE, log 45). -/
def updAccept (u : DispUpd) (s : State) : State :=
  let s := onDisp (fun d => { d with lastNum := u.num, queued := some u }) s
  if s.disp.stop == 0 && s.disp.cur.isNone && (s.disp.state == 1 || s.disp.state == 4 || s.disp.state == 6) then nextStart s else s

/-- The effect of DISP_UPDATE (R569, R578). -/
def dispUpdate (p : Bytes) (s : State) : Answer :=
  let full := byteField p 0 1 == 0
  let w := byteField p 8 2
  let h := byteField p 10 2
  if p.length ≠ 12 then refuse s 0x130A
  else if !dispOn s then refuse s 0x1303
  else if !updFieldsOk s p then refuse s 0x1305
  else if !full && (!s.disp.shownKnown || s.disp.clearDue) then refuse s 0x1306
  else if !rateOk s full w h then refuse s 0x1313
  else if s.disp.queued.isSome then refuse s 0x1301
  else
    let u : DispUpd := { num := (s.disp.lastNum + 1) % 2 ^ 32, full, x0 := byteField p 4 2, y0 := byteField p 6 2, w, h }
    let s := updAccept u s
    done s (leBytes 4 u.num ++ [if s.disp.queued.isSome then 1 else 0])

/-- DISP_UPDATE (0x1311). -/
def execDispUpdate (m : Mail) (s : State) : Out := mailOut 0x1311 m (dispUpdate m.payload) s

/-- The effect of DISP_TEMP_SET (R571). -/
def dispTempSet (p : Bytes) (s : State) : Answer :=
  if p.length ≠ 4 ∨ byteField p 2 2 ≠ 0 then refuse s 0x130A
  else if !dispOn s then refuse s 0x1303
  else if par s 0x130A = 1 then refuse s 0x1306
  else done (onDisp (fun d => { d with hostTemp := some (byteFieldS p 0 2, s.time.ont) }) s) []

/-- DISP_TEMP_SET (0x1312). -/
def execDispTempSet (m : Mail) (s : State) : Out := mailOut 0x1312 m (dispTempSet m.payload) s

/-- The consistency check of DISPLAY unit 0 (R580). -/
def dispCheck (s : State) : CheckFail :=
  let n := parN s 0x130F
  let wfOk := fun b => decide (1 ≤ fFull s b) && (tab s (0x7810 + b)).length == 8 + 4 * fFull s b + 64 * fPart s b
  firstFail (
    [(decide (parN s 0x1300 / 8 * parN s 0x1302 + 4 ≤ parN s 0x1303), 0x1310, 0x1303),
     ((upTo (n - 1)).all (fun b => decide (tabS s 0x7800 (2 * b) 2 < tabS s 0x7800 (2 * b + 2) 2)), 0x1311, 0x7800),
     (decide (parN s 0x1310 < n), 0x1311, 0x1310)] ++
    (upTo n).map (fun b => (wfOk b, 0x1312, 0x7810 + b)) ++
    [(par s 0x130A == 0 || enabled s 13 (parN s 0x130B), 0x130D, 0)])

/-- The first enable reserves the images at a place of DRAM that the spec does not give (R580); it is free, on a multiple of
4 KiB below 64 GiB (R582). -/
def imagesPlace (s : State) : State :=
  if s.disp.fbBase ≠ 0 then s
  else State.drawn (onDisp (fun d => { d with fbBase := Config.freeNat s.free % 2 ^ 24 * 4096 }) s)

/-- DISPLAY unit 0 starts (R578, R580). -/
def dispStart (s : State) : State :=
  let s := imagesPlace s
  let s := onDisp (fun d => { d with state := 1, stop := 0, dscStep := 0, frameCnt := 0 }) (padLoadOwner 0x13 s)
  if s.disp.interrupted then
    let s := raise 0x1311 121 s.disp.flag 0 0 s
    clearStart (onDisp (fun d => { d with interrupted := false, clearDue := true }) s)
  else s

/-- The display stop begins (R581): the update that waits is cancelled; the rails discharge. -/
def dispStop (kind : Nat) (s : State) : State :=
  let s := match s.disp.queued with
    | some u => raise 0x1310 120 u.num 3 (ontLo s) (onDisp (fun d => { d with queued := none }) s)
    | none => s
  let s := onDisp (fun d => { d with stop := kind }) s
  if s.disp.cur.isSome then s
  else if s.disp.state = 4 then dischargeStart s
  else if s.disp.state = 5 then s
  else onDisp (fun d => { d with dscStep := 7 }) s

/-- The display stop has reached its last step (R581). -/
def dispStopped (s : State) : Bool := s.disp.stop != 0 && s.disp.dscStep == 7 && s.disp.cur.isNone

/-- The display stop ends in OFF (R581). -/
def dispStopEnd (s : State) : State := onDisp (fun d => { d with state := 0, stop := 0, dscStep := 0 }) s

/-- At exit the unit returns IDLE with its images and SHOWN_KNOWN kept (R581); an update accepted since the stop began starts. -/
def dispResume (s : State) : State :=
  if dispOn s then nextStart (onDisp (fun d => { d with state := 1, stop := 0, dscStep := 0 }) s) else s

/-- Main reset: only what DRAM and AON hold is kept (R567, R578). -/
def dispReset (d : DispSt) : DispSt :=
  { flag := d.flag, pend := d.pend, shown := d.shown, shownKnown := d.shownKnown, interrupted := d.interrupted }

/-- DISP_STATUS (R583). -/
def dispStatus (d : DispSt) : Nat :=
  d.state + 8 * b2n d.queued.isSome + 16 * b2n d.bandChanged + 256 * d.band + 4096 * b2n d.shownKnown + 8192 * b2n d.clearDue

/-- DISP_RAIL_STATUS (R582). -/
def dispRails (d : DispSt) : Nat := d.good + 16 * d.dsc + 256 * b2n d.dscSlow

/-- DISP goes OFF and loses its registers (R67); the images, and what Malor keeps of the updates, stay (R567, R581). -/
def dispLost (s : State) : State :=
  onDisp (fun d => { dispReset d with
    lastNum := d.lastNum, queued := d.queued, clearDue := d.clearDue, fbBase := d.fbBase }) s

/-- A register or byte group of the display region (R582). -/
def dispReg (s : State) (off : Nat) : Nat :=
  let d := s.disp
  if 0x80000 ≤ off then (if off < 0x85000 then byteField d.wf (off - 0x80000) 4 else 0)
  else match off with
  | 0x00 => dispStatus d
  | 0x04 => dispRails d
  | 0x08 => d.updNum
  | 0x0C => d.result
  | 0x10 => d.frame % 256 + 256 * d.frames
  | 0x14 => match tempValid s with | some t => toBits 16 t + 2 ^ 31 | none => ((panelTemp s).map (fun x => toBits 16 x.1)).getD 0
  | 0x18 => d.rect.1 + 65536 * d.rect.2.1
  | 0x1C => d.rect.2.2.1 + 65536 * d.rect.2.2.2
  | 0x20 => d.fbBase % 2 ^ 32
  | 0x24 => d.fbBase / 2 ^ 32
  | 0x28 => d.frameCnt
  | 0x2C => d.lostCnt
  | _ => 0

end Sys2Proof.Machine
end

