-- ==== Sys2Proof/Machine/Units.lean ====
section
/-! DEFINITION. Enable units: the consistency check, the start, shut-down sequences, pending enables and the SUBSYS
commands (R148 to R151, R484). -/

namespace Sys2Proof.Machine

/-- The islands' power state changed. -/
def onPower (f : PowerSt → PowerSt) (s : State) : State := { s with power := f s.power }

/-- The PLL `k` is locked at its start or relock; SYS and OX take their field of CLK_SPREAD, 3 acting as 0 (R87, R91). -/
def spreadOf (v k : Nat) : Nat := let x := bits v (2 * k) 2; if x = 3 then 0 else x

/-- A PLL locks (R87): 0 SYS, 1 OX, 2 NET, 3 DDR, 4 ADC. -/
def pllStart (k : Nat) (p : PowerSt) : PowerSt :=
  { p with
    clkLock := p.clkLock ||| 2 ^ k
    spreadNow := if k < 2 then p.spreadNow - bits p.spreadNow (2 * k) 2 * 4 ^ k + spreadOf p.clkSpread k * 4 ^ k else p.spreadNow }

/-- An island that needs PLL `k` is ON or GATED (R87). -/
def pllNeeded (s : State) (k : Nat) : Bool :=
  let l := match k with
    | 0 => [1, 2, 4, 5, 11]
    | 1 => [8]
    | 2 => [3]
    | 3 => [10]
    | _ => [6]
  l.any (fun n => isl s n == .on || isl s n == .gated)

/-- A PLL stops when the last island that needs it leaves ON (R87). -/
def pllsFollow (s : State) : State :=
  onPower (fun p => { p with clkLock := bitsFrom 0 5 (fun k => bit p.clkLock k && pllNeeded s k) }) s

/-- What an island in OFF loses (R67), beside what its own chapter keeps: OX holds only the lanes' state between two solves,
its registers lie with OXMEM and stay (DEDUCED, log 31). -/
def islandLost (n : Nat) (s : State) : State :=
  match n with
  | 3 => timeLost (netLost (pairLost s))
  | 4 => canLost s
  | 7 => wavLost s
  | 11 => dispLost s
  | _ => s

/-- RETAIN keeps exactly what R69 lists of PLANT and METER. -/
def retainOnly (s : State) : State := adcRetain <| meterRetain (logicRetain (axesRetain (loopsRetain s)))

/-- Malor's requests in PWR_ISL_REQ follow the units (R70, R91, R92): FIELD, WAVE, OX and DISP. -/
def islReqFollow (s : State) : State :=
  let want := fun (l : List (Nat × Nat)) => l.any (fun u => unitActive s u.1 u.2 || (unitSt s u.1 u.2).pend.isSome)
  let f := fun (n : Nat) (l : List (Nat × Nat)) => if want l then 3 * 4 ^ n else 0
  let r := 0x003C3CFF + f 4 ((upTo 4).map (fun c => (15, c))) + f 7 [(13, 24), (13, 25)] + f 8 [(7, 0)] + f 11 [(0x13, 0)]
  onPower (fun p => { p with islReq := r }) s

/-- Item 1 of R149: the written values of the unit's parameters lie within their ranges, in ascending ID.
Of the tables only DISP_RAIL_REF has a range (R584). -/
def unitRange (sub unit : Nat) (s : State) : CheckFail :=
  let mine := s.host.params.filter (fun x => match pInfo x.1 with
    | some i => i.owner == sub && (i.unit == unit || i.unit == anyUnit) && !isTable i
    | none => false)
  let own := mine.map (fun x => (match pInfo x.1 with
    | some i => paramInRange s (par s) x.1 i x.2
    | none => true, rc sub 0x05, x.1))
  let extra : List (Bool × Nat × Nat) :=
    match sub with
    | 0x13 => [((upTo 4).all (fun k => decide (100 ≤ tabN s 0x1311 (2 * k) 2) && decide (tabN s 0x1311 (2 * k) 2 ≤ 1700)), 0x1305, 0x1311)]
    | _ => []
  firstFail (own ++ extra)

/-- Item 2 of R149 and the dependencies, as the owning chapter lists them, against a model image. -/
def unitXref (img : Bytes) (sub unit : Nat) (s : State) : CheckFail :=
  match sub with
  | 0x05 => timeCheck s
  | 0x07 => oxCheck img s
  | 0x09 => dispatchCheck img s
  | 0x0A => loopCheck unit s
  | 0x0B => axisCheck unit s
  | 0x0C => logicCheck s
  | 0x0D => adcCheck unit s
  | 0x0E => meterCheck unit s
  | 0x0F => canCheck unit s
  | 0x10 => netCheck unit s
  | 0x11 => pairCheck s
  | 0x13 => dispCheck s
  | _ => none

/-- The consistency check of a unit (R149). -/
def unitCheck (sub unit : Nat) (s : State) : CheckFail :=
  match unitRange sub unit s with
  | some f => some f
  | none => unitXref s.model.image sub unit s

/-- The units that an enabled unit needs enabled (R149, R150): sources, destinations, references, cascades, permits. -/
def unitNeeds (s : State) (sub unit : Nat) : List (Nat × Nat) :=
  match sub with
  | 0x05 => ((upTo 2).filter (fun p => par s (0x0520 + 8 * p) == 1)).map (fun p => (0x10, p))
  | 0x07 => (usedInputs s).map (fun i => sourceUnit (inputMap s i).src (inputMap s i).index)
  | 0x09 => (7, 0) :: (usedHand s).map (fun i => destUnit (handMap s i).dest (handMap s i).index)
  | 0x0A =>
    sourceUnit (parN s (loopId unit 1)) (parN s (loopId unit 2)) ::
      ((if parN s (loopId unit 0x30) = 1 then [(10, parN s (loopId unit 0x31))] else []) ++
       (if parN s (loopId unit 0x3A) = 1 then [(12, 0)] else []))
  | 0x0B => if parN s (axisId unit 0x19) = 1 then [(12, 0)] else []
  | 0x0D => if unit = 26 then [] else [(13, 26)]
  | 0x0E =>
    if unit < 2 then (upTo 6).map (fun k => (13, 6 * unit + k))
    else thermalSrcs.map (fun j => sourceUnit (parN s (meterId unit j)) (parN s (meterId unit (j + 1))))
  | 0x0F => if (objsUsed s unit).any (fun o => bit (parN s (canObjId unit o 7)) 0) then [(12, 0)] else []
  | 0x10 => if unit = 2 ∧ ¬ (enabled s 16 0 = true ∧ enabled s 16 1 = true) then [(16, 0), (16, 1)] else []
  | 0x13 => if parN s 0x130A = 1 then [(13, parN s 0x130B)] else []
  | _ => []

/-- The first enabled unit, in ascending subsystem and unit, that depends on a unit (R150). -/
def dependent (s : State) (sub unit : Nat) : Option (Nat × Nat) :=
  (enabledUnits s).find? (fun u => u != (sub, unit) && (unitNeeds s u.1 u.2).contains (sub, unit))

/-- The start of a unit, by subsystem. -/
def unitStart (sub unit : Nat) (s : State) : State :=
  match sub with
  | 0x05 => timeStart s
  | 0x07 => oxStart s
  | 0x09 => dispatchStart s
  | 0x0A => loopStart unit s
  | 0x0B => axisStart unit s
  | 0x0C => logicStart s
  | 0x0D => adcStart unit s
  | 0x0E => meterStart unit s
  | 0x0F => canStart unit s
  | 0x10 => netStart unit s
  | 0x11 => pairStart s
  | 0x13 => dispStart s
  | _ => s

/-- The shut-down sequence of a unit begins. -/
def unitStop (sub unit : Nat) (s : State) : State :=
  match sub with
  | 0x05 => timeStop s
  | 0x07 => oxStop s
  | 0x09 => dispatchStop s
  | 0x0A => loopStop unit s
  | 0x0B => axisStop unit s
  | 0x0C => logicStop s
  | 0x0D => adcStop unit s
  | 0x0E => meterStop unit s
  | 0x0F => canStop unit s
  | 0x11 => pairStop s
  | 0x13 => dispStop 1 s
  | _ => s

/-- The shut-down sequence of a unit ends. -/
def unitStopEnd (sub unit : Nat) (s : State) : State :=
  match sub with
  | 0x05 => timeStopEnd s
  | 0x07 => oxStopEnd s
  | 0x09 => dispatchStopEnd s
  | 0x0A => loopStopEnd unit s
  | 0x0B => axisStopEnd unit s
  | 0x0C => logicStopEnd s
  | 0x0D => adcStopEnd unit s
  | 0x0E => meterStopEnd unit s
  | 0x0F => canStopEnd unit s
  | 0x10 => netStopEnd unit s
  | 0x11 => pairStopEnd s
  | 0x13 => dispStopEnd s
  | _ => s

/-- The sequence may end now: the converter's capture, the meter's step, the frame in progress or the discharge is over; a bus-off recovery has
its own ends (R440, R467, R484, R486, R581). -/
def stopOver (s : State) (sub unit : Nat) : Bool :=
  match sub with
  | 0x0D => unit != 24 && unit != 25 || wavStopped s (unit - 24)
  | 0x0E => !(nth {} s.meter.units unit).stopDue
  | 0x0F => (canOf s unit).state != 5 && (canOf s unit).cur.isNone
  | 0x13 => dispStopped s
  | _ => true

/-- The units that an island follows (R70): FIELD, WAVE and DISP. -/
def islandUnits (n : Nat) : List (Nat × Nat) :=
  match n with
  | 4 => (upTo 4).map (fun c => (15, c))
  | 7 => [(13, 24), (13, 25)]
  | 11 => [(0x13, 0)]
  | _ => []

/-- An island none of whose units is enabled, STOPPING or pending starts its power-down (R68, R70). -/
def islandIdle (n : Nat) (s : State) : State :=
  let busy := (islandUnits n).any (fun u => unitActive s u.1 u.2 || (unitSt s u.1 u.2).pend.isSome)
  if islandUnits n ≠ [] ∧ busy = false ∧ isl s n = .on ∧ !s.power.islDown.contains n then
    onPower (fun p => { p with islDown := n :: p.islDown }) s
  else s

/-- The island that follows a unit is ON by the end of the unit's start (R70, R150). -/
def islandFor (sub unit : Nat) (s : State) : State :=
  match unitIsland sub unit with
  | some n => if islandUnits n = [] then s else setIsl n .on s
  | none => s

/-- A unit's start is completed and the unit is ENABLED (R150): the pad groups are written at each enable that leaves
the owner with an enabled unit where it had none (R143). -/
def unitEnable (sub unit : Nat) (s : State) : State :=
  let first := (unitsOf s.host.units sub).all (fun u => !u.enabled)
  let s := if first then padLoadOwner sub s else s
  islReqFollow (unitStart sub unit (setUnit sub unit { enabled := true } (islandFor sub unit s)))

/-- EV_HOST_PENDING_DONE of a unit (R151). -/
def pendingDone (sub unit reason seq : Nat) (s : State) : State := raise 0x0210 9 (sub * 65536 + unit) reason seq s

/-- The last sequence a pending enable waits on has ended: Malor checks again and carries it out (R151 step 6). -/
def pendingRun (sub unit : Nat) (s : State) : State :=
  let u := unitSt s sub unit
  match u.pend with
  | none => s
  | some seq =>
    let s := setUnit sub unit { u with pend := none } s
    match unitXref s.model.image sub unit s with
    | some (r, _) => pendingDone sub unit r seq s
    | none => pendingDone sub unit 0 seq (unitEnable sub unit s)

/-- A pending enable is cancelled with a reason (R151 steps 4 and 7). -/
def pendingCancel (sub unit reason : Nat) (s : State) : State :=
  let u := unitSt s sub unit
  match u.pend with
  | none => s
  | some seq => pendingDone sub unit reason seq (setUnit sub unit { u with pend := none } s)

/-- The island a unit needs is in power-down (R68, R151). -/
def islandFalling (s : State) (sub unit : Nat) : Bool :=
  match unitIsland sub unit with
  | some n => s.power.islDown.contains n
  | none => false

/-- The units that have an enable pending. -/
def pendingUnits (s : State) : List (Nat × Nat) :=
  unitSubs.flatMap (fun sub =>
    ((upTo (unitsOf s.host.units sub).length).filter (fun u => (unitSt s sub u).pend.isSome)).map (fun u => (sub, u)))

/-- A unit's shut-down sequence has ended: the unit is DISABLED, its island follows, a pending enable is carried out. -/
def sequenceEnd (sub unit : Nat) (s : State) : State :=
  let s := unitStopEnd sub unit s
  let s := islReqFollow (setUnit sub unit { unitSt s sub unit with enabled := false, stopping := false } s)
  let s := if islandFalling s sub unit then s else pendingRun sub unit s
  match unitIsland sub unit with
  | some n => islandIdle n s
  | none => s

/-- SHUTDOWN_SEQUENCE_END (R151): the sequence of a STOPPING unit ends. -/
def execShutdownSequenceEnd (sub unit : Nat) (s : State) : Out :=
  .next (if inRun s && stopping s sub unit && stopOver s sub unit then sequenceEnd sub unit s else s)

/-- The unit of a SUBSYS payload, or the reason for which it is refused (R148). -/
def subsysUnit (p : Bytes) (s : State) : Except Nat (Nat × Nat) :=
  let sub := byteField p 0 1
  let unit := byteField p 2 2
  let (have_, most) := unitCount s sub
  if p.length ≠ 4 ∨ byteField p 1 1 ≠ 0 then .error 0x020A
  else if !unitSubs.contains sub then .error 0x0205
  else if most ≤ unit then .error (rc sub 0x05)
  else if have_ ≤ unit then .error (rc sub 0x08)
  else .ok (sub, unit)

/-- In the condition of R516 a stopped plant block is not enabled again. -/
def failsafeBars (s : State) (sub : Nat) : Bool := s.pair.failsafe && [0x0A, 0x0B, 0x0C, 0x0F].contains sub

/-- SUBSYS_ENABLE of a unit (R150, R151). -/
def subsysEnable (seq sub unit : Nat) (s : State) : Answer :=
  let u := unitSt s sub unit
  if u.pend.isSome then pendingAns (setUnit sub unit { u with pend := some seq } s) (rc sub 0x02)
  else if u.enabled then done s []
  else if failsafeBars s sub then refuse s (rc sub 0x06)
  else match unitCheck sub unit s with
    | some (r, p) => refuse s r p
    | none =>
      if u.stopping ∨ islandFalling s sub unit then pendingAns (setUnit sub unit { u with pend := some seq } s) (rc sub 0x02)
      else done (unitEnable sub unit s) []

/-- The effect of SUBSYS_ENABLE. -/
def subsysEnableCmd (m : Mail) (s : State) : Answer :=
  match subsysUnit m.payload s with
  | .error r => refuse s r
  | .ok (sub, unit) => subsysEnable m.seq sub unit s

/-- SUBSYS_ENABLE (0x0201). -/
def execSubsysEnable (m : Mail) (s : State) : Out := mailOut 0x0201 m (subsysEnableCmd m) s

/-- PAIR unit 0 may not be disabled while a standby's plant units are enabled (R536). -/
def pairBars (s : State) (sub : Nat) : Bool :=
  sub == 0x11 && !s.pair.grant && [0x0A, 0x0B, 0x0C, 0x0F].any (fun k => (unitsOf s.host.units k).any (fun u => u.enabled))

/-- SUBSYS_DISABLE of a unit (R150, R151). -/
def subsysDisable (sub unit : Nat) (s : State) : Answer :=
  let u := unitSt s sub unit
  if u.pend.isSome then
    let s := pendingCancel sub unit (rc sub 0x0C) s
    done (match unitIsland sub unit with | some n => islandIdle n s | none => s) []
  else if !u.enabled then done s []
  else match dependent s sub unit with
    | some (a, b) => refuse s (rc sub 0x0D) 0 (leBytes 1 a ++ leBytes 1 0 ++ leBytes 2 b)
    | none =>
      if pairBars s sub then refuse s 0x1106
      else done (unitStop sub unit (setUnit sub unit { u with enabled := false, stopping := true } s)) []

/-- The effect of SUBSYS_DISABLE. -/
def subsysDisableCmd (p : Bytes) (s : State) : Answer :=
  match subsysUnit p s with
  | .error r => refuse s r
  | .ok (sub, unit) => subsysDisable sub unit s

/-- SUBSYS_DISABLE (0x0202). -/
def execSubsysDisable (m : Mail) (s : State) : Out := mailOut 0x0202 m (subsysDisableCmd m.payload) s

/-- The state of a unit (R148): 0 DISABLED, 1 ENABLED, 2 STOPPING, 3 enable pending. -/
def unitCode (u : UnitSt) : Nat := if u.pend.isSome then 3 else if u.stopping then 2 else if u.enabled then 1 else 0

/-- The effect of SUBSYS_STATE_GET. -/
def subsysStateGet (p : Bytes) (s : State) : Answer :=
  match subsysUnit p s with
  | .error r => refuse s r
  | .ok (sub, unit) => done s (leBytes 1 (unitCode (unitSt s sub unit)))

/-- SUBSYS_STATE_GET (0x0203). -/
def execSubsysStateGet (m : Mail) (s : State) : Out := mailOut 0x0203 m (subsysStateGet m.payload) s

/-- The effect of SUBSYS_CHECK: the check without the enable. -/
def subsysCheck (p : Bytes) (s : State) : Answer :=
  match subsysUnit p s with
  | .error r => refuse s r
  | .ok (sub, unit) => match unitCheck sub unit s with
    | some (r, q) => refuse s r q
    | none => done s []

/-- SUBSYS_CHECK (0x0204). -/
def execSubsysCheck (m : Mail) (s : State) : Out := mailOut 0x0204 m (subsysCheck m.payload) s

/-- The bus-off recovery has counted its 128 sequences (R484): the controller is OFF, a pending enable is carried out. -/
def recoveryDone (c : Nat) (s : State) : State :=
  if c < 4 ∧ (canOf s c).state = 5 ∧ inRun s = true then sequenceEnd 15 c (canRecovered c 128 0 s) else s

/-- CAN_RECOVERY_DONE (R484). -/
def execCanRecoveryDone (c : Nat) (s : State) : Out := .next (recoveryDone c s)

/-- The recovery ends unsuccessfully (R484): a pending enable fails with RC_CAN_TIMEOUT. -/
def recoveryTimeout (c seqs : Nat) (s : State) : State :=
  if c < 4 ∧ (canOf s c).state = 5 ∧ inRun s = true then
    sequenceEnd 15 c (pendingCancel 15 c 0x0F0E (canRecovered c (min seqs 127) 1 s))
  else s

/-- CAN_RECOVERY_TIMEOUT (R484). -/
def execCanRecoveryTimeout (c seqs : Nat) (s : State) : Out := .next (recoveryTimeout c seqs s)

end Sys2Proof.Machine
end

