-- ==== Sys2Proof/Machine/ModelSwitch.lean ====
section
/-! DEFINITION. Replacing the model in a running part: staging, the switch, its deferral and the trial's revert (R199 to
R203, R299). -/

namespace Sys2Proof.Machine

/-- Parameter `k` of an event whose rule lists values but not how they are packed: an open function of the values. -/
def openParam (code : Nat) (vals : List Int) (k : Nat) : Nat := byteField (Config.layout code vals) (4 * k) 4

/-- An event with parameters packed in a way that the spec leaves open. -/
def raiseOpen (code src : Nat) (vals : List Int) (s : State) : State :=
  raise code src (openParam code vals 0) (openParam code vals 1) (openParam code vals 2) s

/-- The first enabled unit whose cross-references fail against a staged model (R199 step 2). -/
def stagedRefs (img : Bytes) (s : State) : List (Nat × Nat) → CheckFail
  | [] => none
  | (sub, unit) :: l => match unitXref img sub unit s with
    | some f => some f
    | none => stagedRefs img s l

/-- Steps 1 and 2 of R199 for a slot's image: the refusing reason, PARAM_ID and response payload, which after a failed load
holds the section TYPE and the record index (R198), or none. -/
def stageFail (img : Bytes) (s : State) : Option (Nat × Nat × Bytes) :=
  match loadFail s img with
  | some (r, t, i) => some (r, 0, leBytes 2 t ++ leBytes 4 i)
  | none => (stagedRefs img s (enabledUnits s)).map (fun f => (f.1, f.2, []))

/-- The next boundary of a trigger unit: its target, or the next multiple of its period (R199). -/
def boundaryNext (s : State) (unit perNs : Nat) : Nat :=
  match s.time.trg[unit]? with
  | some t => if t.armed && decide (s.time.ont < t.target) then t.target else nextBoundary s perNs
  | none => nextBoundary s perNs

/-- The kind of tsw and tsw itself (R199). -/
def switchTime (s : State) : Nat × Nat :=
  if enabled s 9 0 then (0, boundaryNext s 15 (parN s 0x0900 * 1000000000))
  else if enabled s 7 0 then (1, boundaryNext s 14 (parN s 0x0720 * 1000000))
  else (2, s.time.ont + 10000000)

/-- The staged model's switch is fixed (R199 step 4); its signature and tsw are reported. -/
def stageSet (img : Bytes) (slot : Bool) (s : State) : State :=
  let (kind, tsw) := switchTime s
  raiseOpen 0x0810 48 [(tsw : Int), (modelSig img : Int)] (onModel (fun m => { m with
    staged := img, stagedSlot := slot, switching := true, tsw := tsw, tswKind := kind, passDone := false }) s)

/-- A mantissa vector at exponents `old` is brought to exponents `new`; none where a component saturates (R299). -/
def convertVec (old new : Nat → Int) : Nat → List Int → Option (List Int)
  | _, [] => some []
  | i, m :: l =>
    let (v, sat) := satFlag 32 (ratRound ((m : Rat) * twoPow (old i - new i)))
    if sat then none else (convertVec old new (i + 1) l).map (fun r => v :: r)

/-- The KKT column of component `i` of a warm-start vector x, zb, yb, za, ya (R296, R299). -/
def warmColumn (img : Bytes) (i : Nat) : Nat :=
  let nv := horizon img * nVar img
  let nc := horizon img * nCon img
  if i < 3 * nv then i % nv else nv + (i - 3 * nv) % nc

/-- Malor's conversion of its own candidate at a switch that keeps the signature but changes RANGE (R299). -/
def convertOwn (old new : Bytes) (s : State) : State :=
  match s.dsp.own with
  | none => s
  | some w =>
    if modelSig old ≠ modelSig new ∨ w.sig ≠ modelSig new ∨ rangeId old = rangeId new then s
    else
      let v := convertVec (fun i => exOf old (warmColumn old i)) (fun i => exOf new (warmColumn new i)) 0 w.vec
      onDsp (fun d => { d with own := v.map (fun v => { w with vec := v, rangeId := rangeId new }) }) s

/-- The staged model comes into effect (R200, R201, R228, R255, R266, R288, R305). -/
def switchNow (s : State) : State :=
  let old := s.model.image
  let new := s.model.staged
  let a := s.host.modelSig
  let s := modelEffect new s.model.stagedSlot s
  let s := onModel (fun m => { m with staged := [], switching := false, passDone := false }) s
  let s := factorsInvalid s
  let s := oxAbortStart 1 s
  let s := onEst (fun e => { e with droveValid := false, lastFresh := [], lastFlow := [], mix := [] }) s
  let same := a == s.host.modelSig
  let s := convertOwn old new (onDsp (fun d => { d with
    rebuild := true, log := [], lastTc := (if same then d.lastTc else []), lastD := (if same then d.lastD else []) }) s)
  let s := if enabled s 9 0 then chargeGuess s else s
  raiseOpen 0x0811 48 [(a : Int), (s.host.modelSig : Int)] s

/-- The first multiple of a period after now that lies after `t` by whole periods. -/
def boundaryAfter (s : State) (t per : Nat) : Nat :=
  if per = 0 then t else t + (if s.time.ont < t then 1 else (s.time.ont - t) / per + 1) * per

/-- The switch is put off (R200): to the next boundary of its kind, or by 10 ms with the pass starting again. -/
def switchDefer (s : State) : State :=
  let t := s.model.tsw
  let next : Nat := match s.model.tswKind with
    | 0 => boundaryAfter s t (parN s 0x0900 * 1000000000)
    | 1 => boundaryAfter s t (parN s 0x0720 * 1000000)
    | _ => s.time.ont + 10000000
  raiseOpen 0x0812 49 [(next : Int)] (onModel (fun m => { m with tsw := next, passDone := false }) s)

/-- tsw is reached (R200, R203). -/
def modelSwitch (s : State) : State :=
  if !(inRun s && s.model.switching && decide (s.model.tsw ≤ s.time.ont)) then s
  else if s.model.passDone && s.host.ready then switchNow s
  else switchDefer s

/-- MODEL_SWITCH (R200). -/
def execModelSwitch (s : State) : Out := .next (modelSwitch s)

/-- A switch whose tsw lies at or before the boundary that is due takes place, or is put off, before that boundary (R200). -/
def switchFirst (unit : Nat) (s : State) : State :=
  match dueBoundary unit s with
  | some t => if s.model.tsw ≤ t then modelSwitch s else s
  | none => s

/-- ESTIMATION_BOUNDARY (R19, R200). -/
def execEstimationBoundary (s : State) : Out := .next (estBoundary (switchFirst 14 s))

/-- DISPATCH_BOUNDARY (R278, R200). -/
def execDispatchBoundary (s : State) : Out := .next (dspBoundary (switchFirst 15 s))

/-- After READY of a warm start and after an exit from SLEEP or DEEP, a switch whose tsw has passed takes place at the next
boundary of its kind (R203). -/
def switchResume (s : State) : State :=
  if s.model.switching && decide (s.model.tsw < s.time.ont) then switchDefer s else s

/-- The boot record with the fallback model slot active and no trial (R202). -/
def modelFallback (s : State) : State :=
  bootWrite (fun r => { r with modelActive := !r.modelActive, modelTrial := false }) s

/-- A pending switch is cancelled; entries that its attribute pass has rewritten are rewritten for the model that stays in
effect, since PRESENT, GROUP and SOURCE are those of that model (R202, R206, R207; DEDUCED, log 28). -/
def switchCancel (s : State) : State :=
  let s := if s.model.passDone then attributePass s.model.image s else s
  onModel (fun m => { m with staged := [], switching := false, passDone := false }) s

/-- The effect of MODEL_TRIAL_REVERT (R202): a pending switch is cancelled; one that took place is followed by the
staging of the fallback slot. -/
def modelTrialRevert (p : Bytes) (s : State) : Answer :=
  if p ≠ [] then refuse s 0x080A
  else if (bootRec s).modelTrial = false then refuse s 0x0806
  else
    let pendingSwitch := s.model.switching
    let s := raise 0x0813 49 0 0 0 (modelFallback s)
    if pendingSwitch then done (switchCancel s) []
    else
      let slot := (bootRec s).modelActive
      let img := slotImage s 2 slot
      match stageFail img s with
      | some (r, q, b) => refuse s r q b
      | none => done (stageSet img slot s) []

/-- MODEL_TRIAL_REVERT (0x0802). -/
def execModelTrialRevert (m : Mail) (s : State) : Out := mailOut 0x0802 m (modelTrialRevert m.payload) s

/-- UPDATE_ACTIVATE of a model slot (R199): load checks, cross-references, the boot record, then the switch time. -/
def modelActivate (slot : Bool) (s : State) : Answer :=
  let img := slotImage s 2 slot
  match stageFail img s with
  | some (r, q, b) => refuse s r q b
  | none => done (stageSet img slot (bootWrite (fun r => { r with modelActive := slot, modelTrial := true }) s)) []

end Sys2Proof.Machine
end

