-- ==== Sys2Proof/Machine/Boot.lean ====
section
/-! DEFINITION. Supplies, resets, the starts of R100, MINIMAL, the boot counter, the ready timer and the watchdog
(R47, R51 to R53, R88 to R110, R601, R603). -/

namespace Sys2Proof.Machine

/-- The management subsystem's state changed. -/
def onMgmt (f : MgmtSt → MgmtSt) (s : State) : State := { s with mgmt := f s.mgmt }

/-! ### Resets -/

/-- The power controller after a reset of every island but AON: the entry records, wake items, token, power-fail latch
and tick count stay (R53, R91, R601). -/
def powerReset (p : PowerSt) : PowerSt :=
  { ({} : PowerSt) with
    phase := p.phase, pwrEn := p.pwrEn, pmicPg := p.pmicPg, pfailN := p.pfailN, norOctal := p.norOctal, unitB := p.unitB
    cur := p.cur, wakeEn := p.wakeEn, wakeLatch := p.wakeLatch, wakeFirst := p.wakeFirst, wakeTick := p.wakeTick
    pfCause := p.pfCause, pfFirst := p.pfFirst, pfOvf := p.pfOvf, pgTimeout := p.pgTimeout, pfOnt := p.pfOnt
    pfIncident := p.pfIncident, xtal32 := p.xtal32, wakeToken := p.wakeToken, entOnt := p.entOnt, entTick := p.entTick
    entTarget := p.entTarget, entNet := p.entNet, entDigest := p.entDigest, aonTick := p.aonTick, tickPhase := p.tickPhase
    entryUnreported := p.entryUnreported, wakeDuringEntry := p.wakeDuringEntry }

/-- The management state after such a reset: what AON and NOR hold stays, the telemetry registers clear (R115, R117). -/
def mgmtIslandReset (m : MgmtSt) : MgmtSt :=
  { ({} : MgmtSt) with
    cnt := m.cnt, inStart := m.inStart, pfSeen := m.pfSeen, therm := m.therm, stage := m.stage, malorSlot := m.malorSlot
    warm := m.warm, minReq := m.minReq, failReason := m.failReason, failStage := m.failStage, failWritten := m.failWritten
    wdtCount := m.wdtCount, wdtReport := m.wdtReport, revertReport := m.revertReport
    thermReport := m.thermReport
    bootA := m.bootA, bootB := m.bootB, storeA := m.storeA, storeB := m.storeB, malorA := m.malorA, malorB := m.malorB
    modelA := m.modelA, modelB := m.modelB, aplarA := m.aplarA, aplarB := m.aplarB }

/-- Every island except AON is reset; `rails` tells whether the supplies go too, which loses MGMT SRAM (R53, R547,
R601). The pair grant is a pin; the display flag, the RTC, BCAST_T_LAST and the recorder's sequence number are AON's. -/
def islandReset (rails : Bool) (s : State) : State :=
  { s with
    host := { ({} : HostSt) with sent := s.host.sent }
    recorder := if rails then recSupplyLost s.recorder else recMgmtReset s.recorder
    power := powerReset s.power
    mgmt := mgmtIslandReset s.mgmt
    sec := { secReset s.sec with romMeasured := false, staged := [{}, {}] }
    time := {}, rtc := rtcMgmtReset s.rtc, model := {}, ox := {}, est := {}, dsp := {}, logic := {}
    loops := List.replicate 32 {}
    axes := s.axes.map (fun a => { ({} : AxisSt) with idx := a.idx })
    enc := [0, 0], can := List.replicate 4 {}, adc := {}, meter := {}, snapWait := []
    net := { ({} : NetSt) with tLast := s.net.tLast }
    pair := { ({} : PairSt) with grant := s.pair.grant }
    disp := dispReset s.disp }

/-- POR_N falls: the whole part is reset, AON included; NOR and OTP keep their content (R47). -/
def porAssert (s : State) : State :=
  { State.reset with
    pending := s.pending, free := s.free
    host := { ({} : HostSt) with sent := s.host.sent }
    recorder := recPor s.recorder
    power := { ({} : PowerSt) with pfailN := s.power.pfailN }
    mgmt := { ({} : MgmtSt) with
      bootA := s.mgmt.bootA, bootB := s.mgmt.bootB, storeA := s.mgmt.storeA, storeB := s.mgmt.storeB
      malorA := s.mgmt.malorA, malorB := s.mgmt.malorB, modelA := s.mgmt.modelA, modelB := s.mgmt.modelB
      aplarA := s.mgmt.aplarA, aplarB := s.mgmt.aplarB }
    sec := { ({} : SecSt) with
      helper0 := s.sec.helper0, helper1 := s.sec.helper1, provA := s.sec.provA, provB := s.sec.provB
      otp := s.sec.otp, retiredErased := s.sec.retiredErased }
    pair := { ({} : PairSt) with grant := s.pair.grant } }

/-- POR_N_ASSERT (R47). -/
def execPorNAssert (s : State) : Out := .next (porAssert s)

/-- POR_N_RELEASE (R51): AON starts and asserts PWR_EN. -/
def execPorNRelease (s : State) : Out :=
  .next (if s.power.phase = .porLow then onPower (fun p => { p with phase := .waitPg, pwrEn := true }) s else s)

/-- PMIC_PG_RISE (R51). -/
def execPmicPgRise (s : State) : Out :=
  .next (if s.power.phase = .waitPg then onPower (fun p => { p with phase := .waitXtal, pmicPg := true }) s else s)

/-- PG_TIMEOUT (R52): AON drops PWR_EN and tries again after 1 s; no power-fail cause (R90). -/
def execPgTimeout (s : State) : Out :=
  .next (if s.power.phase = .waitPg then
      onPower (fun p => { p with phase := .waitRetry 1, pwrEn := false, pgTimeout := true }) s
    else s)

/-- PWR_EN is asserted again. -/
def pwrEnReassert (s : State) : State :=
  match s.power.phase with
  | .waitRetry _ => onPower (fun p => { p with phase := .waitPg, pwrEn := true }) s
  | _ => s

/-- PWR_EN_REASSERT (R53, R114). -/
def execPwrEnReassert (s : State) : Out := .next (pwrEnReassert s)

/-! ### The power-fail latch -/

/-- A cause is latched (R89, R90): 0 PFAIL_N, 1 PMIC_PG, 2 XTAL25. -/
def latchCause (b : Nat) (s : State) : State :=
  let ont := ontAon s
  onPower (fun p =>
    let q := { p with pfCause := if bit p.pfCause b then p.pfCause else p.pfCause + 2 ^ b, pfIncident := true }
    if p.pfIncident then q
    else if p.pfFirst ≠ 0 then { q with pfOvf := true }
    else { q with pfFirst := b + 1, pfOnt := ont }) s

/-- A write of 0 to FIRST (R92), which ends the incident (R90). -/
def latchClear (s : State) : State :=
  onPower (fun p => { p with pfCause := 0, pfFirst := 0, pfOvf := false, pgTimeout := false, pfIncident := false }) s

/-- PFAIL_LATCH (R92). -/
def pfailLatch (p : PowerSt) : Nat := p.pfCause + 16 * p.pfFirst + 256 * b2n p.pfOvf + 512 * b2n p.pgTimeout

/-- The rails are cut: every island but AON is reset, PWR_EN drops and is asserted again later (R53, R114). -/
def railsCut (seconds : Nat) (s : State) : State :=
  onPower (fun p => { p with
    phase := .waitRetry seconds, pwrEn := false, pmicPg := false, cur := .run, entryUnreported := none
    wakeDuringEntry := false }) (islandReset true s)

/-- PMIC_PG falls (R53); while PWR_EN is low the fall is the rails' own. -/
def pgFall (s : State) : State :=
  if s.power.pwrEn && s.power.pmicPg then railsCut 1 (latchCause 1 s) else onPower (fun p => { p with pmicPg := false }) s

/-- PMIC_PG_FALL (R53). -/
def execPmicPgFall (s : State) : Out := .next (pgFall s)

/-- A 25 MHz failure, once the oscillator had been stable: as a fall of PMIC_PG, with its own cause (R88). -/
def xtalFail (s : State) : State :=
  if s.power.phase = .up ∨ s.power.phase = .mainReset then railsCut 1 (latchCause 2 s) else s

/-- XTAL25_FAIL (R88). -/
def execXtal25Fail (s : State) : Out := .next (xtalFail s)

/-- A falling edge on PFAIL_N (R89). -/
def pfailFall (s : State) : State :=
  if s.power.phase = .porLow ∨ s.power.pfailN = false then onPower (fun p => { p with pfailN := false }) s
  else latchCause 0 (onPower (fun p => { p with pfailN := false }) s)

/-- PFAIL_N_FALL (R89). -/
def execPfailNFall (s : State) : Out := .next (pfailFall s)

/-- PFAIL_N_RISE (R90). -/
def execPfailNRise (s : State) : Out := .next (onPower (fun p => { p with pfailN := true }) s)

/-- PFAIL_N has been high for 100 ms and no other cause is latched: EV_POWER_PFAIL with the latch and PFAIL_ONT, then the
latch is cleared (R90). -/
def pfailQuiet (s : State) : State :=
  if malorWorks s && s.power.pfailN && s.power.pfCause == 1 then
    latchClear (raise 0x0412 17 (pfailLatch s.power) (s.power.pfOnt % 2 ^ 32) (s.power.pfOnt / 2 ^ 32) s)
  else s

/-- PFAIL_QUIET_TIMEOUT (R90). -/
def execPfailQuietTimeout (s : State) : Out := .next (pfailQuiet s)

/-- PFAIL_LATCH_CLEAR (R92): Malor writes 0 to FIRST. -/
def execPfailLatchClear (s : State) : Out := .next (if malorWorks s then latchClear s else s)

/-! ### Main reset at a request, and the reset of MGMT alone -/

/-- A requested main reset begins (R601): it is held for 1 ms with the rails up. -/
def mainResetRequest (s : State) : State :=
  onPower (fun p => { p with phase := .mainReset, cur := .run }) (islandReset false s)

/-- BOOT_FAIL is written (R105, R108). -/
def bootFailWrite (reason : Nat) (s : State) : State :=
  onMgmt (fun m => { m with failReason := reason, failStage := m.stage, failWritten := true }) s

/-- The units with a pending enable and its SEQ. -/
def pendingSeqs (s : State) : List (Nat × Nat × Nat) :=
  (pendingUnits s).filterMap (fun u => (unitSt s u.1 u.2).pend.map (fun q => (u.1, u.2, q)))

/-- Pending enables are forgotten without an event. -/
def pendingForget (s : State) : State :=
  (pendingUnits s).foldl (fun s u => setUnit u.1 u.2 { unitSt s u.1 u.2 with pend := none } s) s

/-- Every session ends at a MGMT reset (R109, R164), an open one with EV_HOST_SESSION_END (R137); staged data are lost. -/
def sessionsGone (s : State) : State :=
  let s := (upTo 4).foldl (fun s k => endSession k s) s
  onSec (fun c => { c with staged := [{}, {}] }) s

/-- A reset of MGMT alone (R32, R109, R117, R129, R135, R151, R353, R561). -/
def mgmtReset (s : State) : State :=
  let owed := pendingSeqs s
  let s := sessionsGone (pendingForget s)
  { s with
    host := { s.host with
      ready := false, hostif := 0, sessionRequired := false, stored := List.replicate 8 none, waiting := [], retry := [] }
    recorder := recMgmtReset s.recorder
    rtc := rtcMgmtReset s.rtc
    snapWait := []
    dsp := { s.dsp with building := false }
    mgmt := { s.mgmt with
      malorRuns := false, readyTimer := false, restart := none, update := none, cancelled := s.mgmt.cancelled ++ owed
      tsens := List.replicate 6 none, oxLowered := false, vmon := List.replicate 8 {}, load := 0, loadMax := 0, shed := 0
      busyCnt := 0, shedSecs := 0, busErrCnt := 0, busErrAddr := 0, sramCorr := 0, sramUncorr := 0, wdtMs := 0 } }

/-! ### MINIMAL -/

/-- A MINIMAL entered from a warm start stops the plant side (R107). -/
def minimalPlant (s : State) : State :=
  let s := meterSave (onPower (fun p => { p with padHold := true }) (plantStop s))
  let s := (upTo 4).foldl (fun s c => canOffline c s) s
  let s := wavDark (adcDeep (meterDeep s))
  let s := oxAbortEnd 1 (oxAbortEnd 0 (oxAbortStart 1 (oxAbortStart 0 s)))
  let s := onDsp (fun d => { d with phase := 0, tdlDue := false, taDue := false, building := false }) s
  let s := onEst (fun e => { e with phase := 0 }) s
  let s := [4, 5, 6, 7, 8].foldl (fun s n => islandLost n (setIsl n .off s)) s
  pllsFollow (onPower (fun p => { p with islDown := [], islWake := [], oxArmWaits := false, oxRelockDue := false }) s)

/-- MINIMAL offers attestation, sessions and updates (R107), which need SEC: one entered at step 1 of a full start brings SEC
ON as step 2 would have; RETIRED offers none of them (R172; DEDUCED, log 29). -/
def minimalSec (s : State) : State :=
  if isl s 2 = .on ∨ lifecycle s = 3 then s
  else onSec (fun c => { c with romMeasured := true }) (regenerate (setIsl 2 .on s))

/-- A held command is answered with RC_MGMT_RESTARTED and is not executed (R81, R109). -/
def answerRestarted (s : State) : State :=
  (upTo 8).foldl (fun s mb =>
    if s.host.owner.getLsbD mb then
      deliver mb (respBytes s (boxCmd s mb) { boxMail s mb with flags := 0 } (refuse s 0x0110)) s
    else s) s

/-- MINIMAL entry (R105, R106, R109, R513): the boot ROM serves the part and answers the commands that a warm start found
in the mailboxes, FAIL latches, the record is written. EV_MGMT_MINIMAL carries BOOT_FAIL in P1, as R106 states, the reason
in P2 and 0 in P3 (DESIGN CHOICE, log 29). -/
def enterMinimal (x : StartIn) (reason : Nat) (s : State) : State :=
  let s := if s.mgmt.warm then answerRestarted (minimalPlant s) else minimalSec s
  let s := onMgmt (fun m => { m with minimal := true, minReason := reason, readyTimer := false, malorRuns := false }) s
  let s := onHost (fun h => { h with minimal := true, ready := false, hostif := 0x0100 }) s
  let s := raiseBy true 0x0130 6 (bootFail s.mgmt) reason 0 (failLatch 3 s)
  rebuild x s

/-! ### The steps of a start -/

/-- The boot ROM or Malor gets on with step `code`: the part is up, not in MINIMAL, and the start does not stall before
the step ends. -/
def startGoes (x : StartIn) (code : Nat) (s : State) : Bool :=
  decide (code ≤ x.stall) && s.power.phase == .up && !s.mgmt.minimal

/-- A step of a start; it ends by writing its stage code (R100). Step 1 also ends where it enters MINIMAL, its action
being done; step 2 or 4 that enters MINIMAL has failed and does not end (log 29). -/
def startStep (x : StartIn) (code : Nat) (f : State → State) (s : State) : State :=
  if startGoes x code s then
    let s := f s
    if s.power.phase == .up && (!s.mgmt.minimal || code == 1) then onMgmt (fun m => { m with stage := code }) s else s
  else s

/-- The trial revert (R121): every type on trial goes back to its fallback in one boot record. -/
def trialRevert (s : State) : State :=
  let r := bootRec s
  let mask := b2n r.malorTrial + 2 * b2n r.modelTrial + 4 * b2n r.aplarTrial
  if mask = 0 then s
  else
    let s := bootWrite (fun r => { r with
      malorActive := r.malorActive != r.malorTrial, malorTrial := false
      modelActive := r.modelActive != r.modelTrial, modelTrial := false
      aplarActive := r.aplarActive != r.aplarTrial, aplarTrial := false }) s
    onMgmt (fun m => { m with revertReport := m.revertReport ++ [(0x0144, bootFail m, mask)] }) s

/-- The boot counter rule of R104. -/
def bootCounter (s : State) : State :=
  let s := if s.mgmt.inStart then
      let counted := !(!s.mgmt.pfSeen && s.power.pfFirst != 0) && !s.mgmt.therm
      trialRevert (if counted then onMgmt (fun m => { m with cnt := min (m.cnt + 1) 3 }) s else s)
    else s
  onMgmt (fun m => { m with pfSeen := s.power.pfFirst != 0, therm := false, inStart := true }) s

/-- Why step 1 enters MINIMAL, if it does (R104, R106, R172). -/
def minimalWanted (s : State) : Option Nat :=
  if lifecycle s = 3 then some 0x0312
  else if s.mgmt.cnt = 3 then some 0x0120
  else if s.mgmt.minReq then some 0x0122
  else none

/-- Step 1. -/
def start1 (x : StartIn) (s : State) : State :=
  let s := bootCounter s
  let why := minimalWanted s
  let s := onMgmt (fun m => { m with
    minReq := false, failWritten := false, readyTimer := true, wdtMs := 0, minReason := 0 }) s
  let s := if lifecycle s = 3 then retireErase s else s
  match why with
  | some r => enterMinimal x r s
  | none => s

/-- Step 2 of a full start: SEC comes ON; without a root the part enters MINIMAL (R154, R155). -/
def start2 (x : StartIn) (s : State) : State :=
  let s := onSec (fun c => { c with romMeasured := true }) (regenerate (setIsl 2 .on s))
  if s.sec.rootOk then s else enterMinimal x 0x0310 s

/-- Step 2 of a warm start is skipped, SEC being kept; a root that could not be regenerated is still a cause of MINIMAL
(R108). -/
def start2Warm (x : StartIn) (s : State) : State := if s.sec.rootOk then s else enterMinimal x 0x0310 s

/-- Step 3 of a full start: DRAM training (R105). -/
def start3 (x : StartIn) (s : State) : State :=
  if x.dramOk then onPower (fun p => { p with clkLock := p.clkLock ||| 8 }) (setIsl 10 .on s)
  else mainResetRequest (bootFailWrite 0x0113 s)

/-- A copy of an image part as DRAM gives it back. -/
def withLost (lost : List (Nat × Byte)) (b : Bytes) : Bytes :=
  lost.foldl (fun c x => if x.1 < c.length then overwrite c x.1 [x.2] else c) b

/-- A Malor slot boots (R93, R94, R100): its resident section goes to the code region; its resource section to DRAM, in a warm
start only where the copy there fails the body digest. -/
def malorTake (x : StartIn) (slot : Bool) (s : State) : State :=
  let img := slotImage s 1 slot
  let code := (imgBody img).take (hdr img 0x1C 4)
  let copy := withLost x.resLost s.mgmt.resource
  onMgmt (fun m => { m with
    malorSlot := slot, code := code
    resource := if m.warm ∧ bodyOk img (code ++ copy) = true then copy else (imgBody img).drop (hdr img 0x1C 4) }) s

/-- Step 4: the active Malor slot, then the other (R101). -/
def start4 (x : StartIn) (s : State) : State :=
  let r := bootRec s
  match imgFail s 1 (slotImage s 1 r.malorActive) with
  | none => malorTake x r.malorActive s
  | some why =>
    match imgFail s 1 (slotImage s 1 (!r.malorActive)) with
    | some _ => enterMinimal x 0x0121 s
    | none =>
      let s := malorTake x (!r.malorActive) s
      if r.malorTrial then s else onMgmt (fun m => { m with revertReport := m.revertReport ++ [(why, 0, 1)] }) s

/-- The tick of a wake as ONT (R79): while the time unit ran on, AON ticks back from now; after an entry to OFF, which reset
it, AON ticks from the record of that entry (R78). -/
def wakeOnt (s : State) : Nat :=
  if s.power.entryUnreported = some .off then
    ((s.power.entOnt : Int) + ((s.power.wakeTick : Int) - (s.power.entTick : Int)) * 1953125 / 64).toNat
  else s.time.ont - (s.power.aonTick - s.power.wakeTick) * 1953125 / 64

/-- Malor clears the wake bits it has reported (R79). -/
def latchDone (mask : Nat) (p : PowerSt) : PowerSt :=
  let l := (upTo 13).foldl (fun a k => if bit p.wakeLatch k && !bit mask k then a + 2 ^ k else a) 0
  if l = 0 then { p with wakeLatch := 0, wakeFirst := none, wakeTick := 0 } else { p with wakeLatch := l }

/-- EV_POWER_WAKE_DURING_ENTRY (R79). -/
def wakeEntryEvent (s : State) : State :=
  raise 0x0411 16 s.power.wakeLatch (s.power.wakeFirst.getD 0) (wakeOnt s % 2 ^ 32) s

/-- The events of an entry and the exit that followed it, and of a wake during the entry to OFF (R79, R80). -/
def stateEvents (s : State) : State :=
  match s.power.entryUnreported with
  | none => s
  | some d =>
    let s := raise 0x0410 16 0 (devCode d) 0 s
    let s := if s.power.wakeDuringEntry then wakeEntryEvent s else s
    let s := raise 0x0410 16 (devCode d) 0 s.power.wakeLatch s
    onPower (fun p => { latchDone p.wakeLatch p with entryUnreported := none, wakeDuringEntry := false }) s

/-- What Malor reports once it runs (R80, R101, R108, R114, R121, R351). PG_TIMEOUT has no event: the loss-window
record shows it with the rest of the latch (R52, R464). -/
def reportOwed (s : State) : State :=
  let s := if s.mgmt.wdtReport then
      raise 0x0111 1 s.mgmt.wdtCount (bootFail s.mgmt) 0 (onMgmt (fun m => { m with wdtReport := false }) s) else s
  let s := s.mgmt.revertReport.foldl (fun s r => raise 0x0131 6 r.1 r.2.1 r.2.2 s)
    (onMgmt (fun m => { m with revertReport := [] }) s)
  let s := if s.mgmt.thermReport then raise 0x0122 4 0 0 0 (onMgmt (fun m => { m with thermReport := false }) s) else s
  almRecord 1 (almRecord 0 (stateEvents s))

/-- The VERSION field of the Malor image that boots, as ID_MALOR_VER shows it (R97, R128). -/
def malorVersion (s : State) : Nat := imgVersion (slotImage s 1 s.mgmt.malorSlot)

/-- The parameter store in use (R99): the valid copy with the higher sequence; of equal ones A when it is even. -/
def storeInUse (s : State) : Option Store :=
  match s.mgmt.storeA, s.mgmt.storeB with
  | none, b => b
  | a, none => a
  | some a, some b => if a.seq < b.seq ∨ (a.seq = b.seq ∧ a.seq % 2 = 1) then some b else some a

/-- A parameter's value in the saved configuration. -/
def savedPar (s : State) (id : Nat) : Int :=
  match storeInUse s with
  | some st => (lookupNat id st.params).getD (pDefault id)
  | none => pDefault id

/-- Step 5: Malor runs. The watchdog takes parameter 0x0100, in a full start from the saved configuration. -/
def start5 (s : State) : State :=
  let wdt := if s.mgmt.warm then par s 0x0100 else savedPar s 0x0100
  let s := onMgmt (fun m => { m with malorRuns := true, wdtTimeout := wdt.toNat, wdtMs := 0 }) s
  let ver := malorVersion s
  reportOwed (onHost (fun h => { h with hostif := 0x0100, malorVer := ver }) s)

/-- Step 7: the Aplar program of the boot record is checked, and in a full start loaded (R103, R412). -/
def start7 (s : State) : State :=
  let slot := (bootRec s).aplarActive
  let img := slotImage s 3 slot
  match logicLoadFail s img with
  | some (r, i) => raise 0x0C12 74 r i (b2n slot) s
  | none => if s.mgmt.warm then s
    else onLogic (fun l => { l with initDue := true, initKeep := true, next := none }) (progTake img slot s)

/-- A warm start verifies the staged copy too; a failing one is loaded again from its slot (R203; DEDUCED, log 29). -/
def stagedVerify (x : StartIn) (s : State) : State :=
  let copy := withLost x.stagedLost s.model.staged
  if !s.model.switching || bodyOk copy (imgBody copy) then s
  else onModel (fun m => { m with staged := slotImage s 2 m.stagedSlot }) s

/-- Step 6: a full start loads the active model slot; a warm start checks the digest of the DRAM copy, which is loaded again
from the slot in effect where it fails (as R214 does; DEDUCED, log 29); with no model in effect the slot's failing check is
reported again (R100, R103; log 29). -/
def start6 (x : StartIn) (s : State) : State :=
  let s := if s.mgmt.warm then stagedVerify x s else s
  if !s.mgmt.warm then modelLoad s
  else if modelHere s then
    let copy := withLost x.modelLost s.model.image
    if bodyOk copy (imgBody copy) then s else onModel (fun m => { m with image := slotImage s 2 m.slot }) s
  else
    let slot := (bootRec s).modelActive
    match loadFail s (slotImage s 2 slot) with
    | some (r, t, i) => raise 0x0814 49 (r + 65536 * t) i (b2n slot) s
    | none => s

/-- One pass over the enables that are left: those whose check passes are issued. -/
def enablePass (l : List (Nat × Nat)) (s : State) : List (Nat × Nat) × State :=
  l.foldl (fun a u => match unitCheck u.1 u.2 a.2 with
    | none => (a.1, unitEnable u.1 u.2 a.2)
    | some _ => (a.1 ++ [u], a.2)) ([], s)

/-- Saved enables are issued in passes until none passes any more (DESIGN CHOICE, log 27). -/
def enablePasses : Nat → List (Nat × Nat) → State → List (Nat × Nat) × State
  | 0, l, s => (l, s)
  | n + 1, l, s => let (left, s) := enablePass l s
    if left = [] then ([], s) else enablePasses n left s

/-- A refused saved enable is reported (R103). -/
def enableRefused (s : State) (u : Nat × Nat) : State :=
  match unitCheck u.1 u.2 s with
  | some (r, p) => raise 0x0113 3 r p (u.1 * 65536 + u.2) s
  | none => s

/-- The saved configuration is applied and its enables are issued (R99, R100, R103). -/
def applySaved (s : State) : State :=
  match storeInUse s with
  | none => s
  | some st =>
    let l := st.enables.filter (fun u => decide (u.2 < (unitCount s u.1).1))
    let (left, s) := enablePasses (l.length + 1) l s
    left.foldl enableRefused s

/-- The saved parameter values stand in for the defaults. -/
def loadSaved (s : State) : State :=
  match storeInUse s with
  | none => s
  | some st => onHost (fun h => { h with params := st.params, tables := st.tables, uncommitted := [], tabUncommitted := [] }) s

/-- Pad parameters that are written at step 8: HOST, MGMT and TIME (R143). -/
def startPads (s : State) : State := padLoadOwner 5 (padLoadOwner 1 (padLoadOwner 2 s))

/-- SESSION_REQUIRED shows what R138 asks for. -/
def sessionFlag (s : State) : State :=
  onHost (fun h => { h with sessionRequired := lifecycle s == 2 && par s 0x0200 == 1 }) s

/-- The loss-window record shows the latch, which Malor then clears (R90, R464). -/
def restoreMeters (s : State) : State :=
  let before := nextSaveSeq s
  let s := meterRestore s
  if nextSaveSeq s = before then s else latchClear s

/-- Step 8 of a full start. -/
def start8Full (x : StartIn) (s : State) : State :=
  let s := startOnt (loadSaved s)
  let s := rebuild x (helperRepair (unwrapAll s))
  let s := restoreMeters (logicFullStart (onDisp dispFullStart s))
  sessionFlag (applySaved (startPads s))

/-- Pending enables that a MGMT reset cancelled are reported (R151 step 7). -/
def reportCancelled (s : State) : State :=
  onMgmt (fun m => { m with cancelled := [] })
    (s.mgmt.cancelled.foldl (fun s u => pendingDone u.1 u.2.1 0x0110 u.2.2 s) s)

/-- The committed configuration is read back from the blocks (R100): a write that no block had committed is gone. -/
def readBack (s : State) : State :=
  onHost (fun h => { h with
    params := h.uncommitted.foldl (fun l p => insertNat p.1 p.2 l) h.params, uncommitted := []
    tables := h.tabUncommitted.foldl (fun l p => insertNat p.1 p.2 l) h.tables, tabUncommitted := [] }) s

/-- Step 8 of a warm start (R100, R109). -/
def start8Warm (x : StartIn) (s : State) : State :=
  let s := rebuild x (readBack s)
  calTry (mirrorParams (sessionFlag (reportCancelled (answerRestarted s))))

/-- Step 9: READY (R100). -/
def start9 (x : StartIn) (s : State) : State :=
  let s := raise 0x0110 0 (bootState s.mgmt) (bootFail s.mgmt) x.ms (onHost (fun h => { h with ready := true }) s)
  let s := if s.mgmt.warm then switchResume s else s
  onMgmt (fun m => { m with cnt := 0, inStart := false, readyTimer := false }) s

/-- The steps that both starts share from step 4 on, and those of one kind. -/
def startLate (x : StartIn) (s : State) : State :=
  let s := startStep x 5 start5 (startStep x 4 (start4 x) s)
  let s := startStep x 6 (start6 x) s
  let s := startStep x 7 start7 s
  let s := startStep x 8 (fun s => if s.mgmt.warm then start8Warm x s else start8Full x s) s
  startStep x 15 (start9 x) s

/-- A full start (R100). -/
def startFull (x : StartIn) (s : State) : State :=
  let s := startStep x 1 (start1 x) (onMgmt (fun m => { m with warm := false, minimal := false }) s)
  startLate x (startStep x 3 (start3 x) (startStep x 2 (start2 x) s))

/-- A warm start (R100). -/
def startWarm (x : StartIn) (s : State) : State :=
  let s := onHost (fun h => { h with minimal := false }) (onMgmt (fun m => { m with warm := true, minimal := false }) s)
  startLate x (startStep x 2 (start2Warm x) (startStep x 1 (start1 x) s))

/-- Main reset is released: the straps are sampled, the incident ends, the watchdog is armed and the islands that need no
unit come ON (R45, R51, R70, R78, R90, R108). -/
def afterRelease (x : StartIn) (s : State) : State :=
  let s := onPower (fun p => { p with
    phase := .up, norOctal := x.octal, unitB := x.unitB, cur := .run, pfIncident := false, xtal25 := true
    isl := [.on, .on, .off, .on, .off, .on, .on, .off, .off, .on, .off, .off], clkLock := 0x15 }) s
  let s := onMgmt (fun m => { m with
    wdtTimeout := 2000, wdtEn := true, wdtMs := 0
    tsens := (upTo 6).map (fun k => x.temps[k]?)
    vmon := (upTo 8).map (fun k => { mv := nth 0 x.mvs k % 65536 }) }) s
  onDisp (fun d => { d with interrupted := d.interrupted || bit d.flag 0 }) (gridStart s)

/-- With main reset released the boot ROM starts (R51, R100). -/
def mainRelease (x : StartIn) (s : State) : State :=
  if s.power.phase = .waitXtal ∨ s.power.phase = .mainReset then startFull x (afterRelease x s) else s

/-- MAIN_RESET_RELEASE (R100). -/
def execMainResetRelease (x : StartIn) (s : State) : Out := .next (mainRelease x s)

/-! ### How a start ends without READY, and restarts -/

/-- MGMT is reset alone and a warm start follows. -/
def warmAgain (x : StartIn) (s : State) : State := startWarm x (mgmtReset s)

/-- A watchdog expiry counts towards FAIL (R519 cause 4). -/
def pairWdt (s : State) : State :=
  let s := onPair (fun p => { p with wdt := s.time.ont :: p.wdt.filter (fun t => decide (s.time.ont < t + 600000000000)) }) s
  let n := parN s 0x1104
  if n ≠ 0 ∧ n ≤ s.pair.wdt.length then failLatch 4 s else s

/-- BOOT_FAIL is written once for a start (R108). -/
def bootFailOnce (reason : Nat) (s : State) : State := if s.mgmt.failWritten then s else bootFailWrite reason s

/-- The AON watchdog expires (R108). -/
def watchdogExpiry (x : StartIn) (s : State) : State :=
  if inRun s && s.mgmt.wdtEn then
    let s := pairWdt (bootFailOnce 0x0111 (onMgmt (fun m => { m with wdtCount := satInc 16 m.wdtCount, wdtReport := true }) s))
    warmAgain x s
  else s

/-- WATCHDOG_EXPIRY (R108). -/
def execWatchdogExpiry (x : StartIn) (s : State) : Out := .next (watchdogExpiry x s)

/-- The ready timer expires (R105). -/
def readyTimeout (x : StartIn) (s : State) : State :=
  if inRun s && s.mgmt.readyTimer then warmAgain x (bootFailWrite 0x0112 s) else s

/-- READY_TIMER_EXPIRY (R105). -/
def execReadyTimerExpiry (x : StartIn) (s : State) : Out := .next (readyTimeout x s)

/-- An address of the Malor code region of MGMT SRAM (R93). -/
def inCode (addr : Nat) : Bool := 0x01000000 ≤ addr && addr < 0x01060000

/-- An instruction fetch from an address (R94): outside the code region, or with an uncorrectable error there, the start ends
with RC_MGMT_CODE_ECC as a watchdog expiry ends it; the watchdog itself has not expired. -/
def codeFault (addr : Nat) (ecc : Bool) (x : StartIn) (s : State) : State :=
  if malorWorks s && (!inCode addr || ecc) then warmAgain x (bootFailOnce 0x0114 s) else s

/-- MGMT_CODE_FAULT (R94). -/
def execMgmtCodeFault (x : FetchIn) (s : State) : Out := .next (codeFault x.addr x.ecc x.start s)

/-- The 10 ms after the response have passed (R603, R107, R121): mode 1 is a main reset, modes 0 and 2 reset MGMT alone. -/
def restartNow (x : StartIn) (s : State) : State :=
  match s.mgmt.restart with
  | none => s
  | some mode =>
    if !inRun s then s
    else if mode = 1 then mainResetRequest s
    else warmAgain x s

/-- RESTART_DELAY_EXPIRY (R603). -/
def execRestartDelayExpiry (x : StartIn) (s : State) : Out := .next (restartNow x s)

/-- WDT_KICK (R108): only the key value restarts the count. -/
def execWdtKick (value : Nat) (s : State) : Out :=
  .next (if inRun s && value == 0x00005A17 then onMgmt (fun m => { m with wdtMs := 0 }) s else s)

end Sys2Proof.Machine
end

