-- ==== Sys2Proof/Machine/Bus.lean ====
section
/-! DEFINITION. The 36-bit system address map of the management core and the DMA channels (R35 to R37). -/

namespace Sys2Proof.Machine

/-- The ranges of the system address map (R35). -/
inductive Region where
  | bootRom
  | sram
  /-- Block region `n` in the order of R37: 0 always-on controller, 1 management core local, 2 host interface, 3 security,
  4 Ethernet, 5 network time, 6 pair link, 7 field bus, 8 loop, 9 motion, 10 logic, 11 acquisition and metering, 12 Ox,
  13 DRAM controller, 14 display. -/
  | block (n : Nat)
  | oxmem
  | nor
  | dram
  deriving DecidableEq, Repr

/-- The fitted NOR in bytes: 64 to 512 MiB, as the board has it (R36, R95). -/
def norFitted : Nat := (64 + Config.norMiB % 449) * 2 ^ 20

/-- The fitted DRAM in bytes: 1 to 4 GiB, as the board has it (R35). -/
def dramFitted : Nat := (1024 + Config.dramMiB % 3073) * 2 ^ 20

/-- The OXMEM of the running variant in bytes (R3, R35). -/
def oxmemSize (s : State) : Nat := if big s then 24 * 2 ^ 20 else 12 * 2 ^ 20

/-- A system address's range and the offset in it; none where no fitted memory or block answers (R35, R36). -/
def decodeAddr (s : State) (a : Nat) : Option (Region × Nat) :=
  let a := a % 2 ^ 36
  let in_ := fun (base size : Nat) => decide (base ≤ a) && decide (a < base + size)
  if in_ 0 0x40000 then some (.bootRom, a)
  else if in_ 0x01000000 0x80000 then some (.sram, a - 0x01000000)
  else if in_ 0x04000000 0xF00000 then some (.block ((a - 0x04000000) / 0x100000), a % 0x100000)
  else if in_ 0x10000000 (oxmemSize s) then some (.oxmem, a - 0x10000000)
  else if in_ 0x20000000 (min norFitted 0x20000000) then some (.nor, a - 0x20000000)
  else if in_ 0x100000000 (min dramFitted 0x100000000) then some (.dram, a - 0x100000000)
  else none

/-- An access to an address ends with a bus error (R36). -/
def busFaults (s : State) (a : Nat) : Bool := (decodeAddr s a).isNone

/-- An offset of a block region lies in its register file, not in its local memories (R37). -/
def inRegFile (off : Nat) : Bool := decide (off < 0x80000)

end Sys2Proof.Machine
end

