-- ==== Sys2Proof/Machine/Power.lean ====
section
/-! DEFINITION. Device states, wakes, islands, operating points and clocks (R67 to R88). -/

namespace Sys2Proof.Machine

/-! ### Islands -/

/-- An island reaches ON (R68, R82, R87, R154, R155): SEC regenerates its root and loads its slots, the wrapped secrets among
them (R154), and a failure requests a main reset (R155);
OX starts at OPP-H the first time and takes up its jobs. -/
def islandOn (n : Nat) (s : State) : State :=
  let was := isl s n
  let s := onPower (fun p => { p with islWake := p.islWake.filter (· != n) }) (setIsl n .on s)
  match n with
  | 2 => let s := regenerate s
    if s.sec.rootOk then unwrapAll s else mainResetRequest s
  | 3 => onPower (pllStart 2) s
  | 6 => onPower (pllStart 4) (if was = .on then s else gridStart s)
  | 8 => oxKick (onPower (fun p => pllStart 1 { p with
      oxSeen := true, oxRelockDue := false
      oppOx := if p.oxSeen then p.oppOx else 2, voltOx := if p.oxSeen then p.voltOx else 2 }) s)
  | 10 => onPower (pllStart 3) s
  | _ => s

/-- ISLAND_WAKE_DONE (R68). -/
def execIslandWakeDone (n : Nat) (s : State) : Out :=
  .next (if s.power.phase == .up && s.power.islWake.contains n then islandOn n s else s)

/-- The power-down of an island ends (R68, R70, R151): enables that waited for it are carried out; OX that an arm waits
for wakes again. -/
def islandDown (n : Nat) (s : State) : State :=
  let s := pllsFollow (islandLost n (onPower (fun p => { p with islDown := p.islDown.filter (· != n) }) (setIsl n .off s)))
  let waits := (pendingUnits s).filter (fun u => unitIsland u.1 u.2 == some n && !stopping s u.1 u.2)
  let s := islandIdle n (waits.foldl (fun s u => pendingRun u.1 u.2 s) s)
  if n = 8 then
    let due := s.power.oxArmWaits || (oxq s 0).state == 1 || (oxq s 1).state == 1
    let s := onPower (fun p => { p with oxArmWaits := false, oxRelockDue := false }) s
    if due then oxNeed s else s
  else s

/-- ISLAND_POWERDOWN_DONE (R68). -/
def execIslandPowerdownDone (n : Nat) (s : State) : Out :=
  .next (if s.power.phase == .up && s.power.islDown.contains n then islandDown n s else s)

/-- OX_IDLE_HOLD_EXPIRY (R70): Ox has been idle with nothing armed, so OX starts its power-down. -/
def execOxIdleHoldExpiry (s : State) : Out :=
  .next (if inRun s && isl s 8 == .on && !s.power.islDown.contains 8 && (oxq s 0).state == 0 && (oxq s 1).state == 0 then
    onPower (fun p => { p with islDown := 8 :: p.islDown }) s
  else s)

/-- OX_WAKE_LEAD (R70): OX is returned to ON ahead of an estimation boundary. -/
def execOxWakeLead (s : State) : Out := .next (if solving s && enabled s 7 0 then oxNeed s else s)

/-! ### Operating points and clocks -/

/-- The current point of a rail: false VDD_SOC, true VDD_OX. -/
def oppPoint (p : PowerSt) (ox : Bool) : Nat := if ox then p.oppOx else p.oppSoc

/-- A relock of a rail's PLL is ordered (R86): the SYS PLL relocks at once, while PLANT and FIELD run on from the NET PLL;
the OX PLL at the next schedule-block boundary. -/
def relock (ox : Bool) (p : PowerSt) : PowerSt :=
  if ox then { p with oxRelockDue := true } else { p with clkLock := p.clkLock &&& 0x1E }

/-- A change of one rail starts (R83): raising asks the PMIC first, lowering relocks the PLL first. -/
def oppStart (ox : Bool) (new : Nat) (p : PowerSt) : PowerSt :=
  let old := oppPoint p ox
  if old = new then p
  else if old < new then { p with opp := some ⟨ox, old, new, true, false⟩, pmicVreq := true }
  else relock ox { p with opp := some ⟨ox, old, new, false, false⟩ }

/-- A change is over; the second change of the same request follows (R84), after a PMIC timeout of the first too: R85
does not say that it is dropped (DESIGN CHOICE, log 31). -/
def oppOver (p : PowerSt) : PowerSt :=
  match p.oppNext with
  | some c => oppStart c.ox c.new { p with opp := none, oppNext := none, pmicVreq := false }
  | none => { p with opp := none, pmicVreq := false }

/-- A rail's PLL goes to a point. Hardware refuses one above what the voltage last acknowledged allows (R84). -/
def setPoint (ox : Bool) (n : Nat) (p : PowerSt) : PowerSt :=
  if n ≤ (if ox then p.voltOx else p.voltSoc) then (if ox then { p with oppOx := n } else { p with oppSoc := n })
  else { p with oppRc := 0x0410 }

/-- A rail's voltage is acknowledged for a point. Hardware refuses one below what the current frequency needs (R84). -/
def setVolt (ox : Bool) (n : Nat) (p : PowerSt) : PowerSt :=
  if oppPoint p ox ≤ n then (if ox then { p with voltOx := n } else { p with voltSoc := n })
  else { p with oppRc := 0x0410 }

/-- PMIC_VACK rises (R83, R85): a raise goes on with the relock, a lowering is complete, and so is the return to the
previous voltage. -/
def vackRise (p : PowerSt) : PowerSt :=
  match p.opp with
  | none => p
  | some c =>
    if !c.awaitAck then p
    else if c.retry then oppOver (setVolt c.ox c.old p)
    else
      let p := { setVolt c.ox c.new p with pmicVreq := false }
      if c.old < c.new then relock c.ox { p with opp := some { c with awaitAck := false } } else oppOver p

/-- PMIC_VACK_RISE (R83). -/
def execPmicVackRise (s : State) : Out := .next (if s.power.phase == .up then oxRelock (onPower vackRise s) else s)

/-- PMIC_VACK has not risen within 2 ms (R85): the lower frequency stays and the previous voltage is requested again, once. -/
def vackTimeout (s : State) : State :=
  match s.power.opp with
  | none => s
  | some c =>
    if !c.awaitAck then s
    else
      let s := raise 0x0416 19 0 0 0 (onPower (fun p => { p with oppRc := 0x0413, pmicVreq := false }) s)
      if c.retry then oxRelock (onPower oppOver s)
      else onPower (fun p => { p with opp := some { c with retry := true }, pmicVreq := true }) s

/-- PMIC_VACK_TIMEOUT (R85). -/
def execPmicVackTimeout (s : State) : Out := .next (if s.power.phase == .up then vackTimeout s else s)

/-- A PLL locks (R83, R86 to R88): 0 SYS, 1 OX, 2 NET, 3 DDR, 4 ADC. SYS and OX take the spread of CLK_SPREAD; a change
that waits for the lock takes its new frequency; a lowering then asks for the voltage. A relock of OX that still waits
for its block boundary has not begun. -/
def pllLocked (pll : Nat) (p : PowerSt) : PowerSt :=
  let p := pllStart pll p
  match p.opp with
  | some c =>
    if (if c.ox then pll = 1 else pll = 0) ∧ c.awaitAck = false ∧ ¬ (c.ox = true ∧ p.oxRelockDue = true) then
      if c.old < c.new then oppOver (setPoint c.ox c.new p)
      else { setPoint c.ox c.new p with opp := some { c with awaitAck := true }, pmicVreq := true }
    else p
  | none => p

/-- PLL_RELOCK_DONE (R86): jobs that waited for the OX PLL go on. -/
def execPllRelockDone (pll : Nat) (s : State) : Out :=
  .next (if s.power.phase == .up && pll < 5 then oxKick (oxRelock (onPower (pllLocked pll) s)) else s)

/-- A PLL loses lock for more than 1 µs (R88): it is relocked and reported; a second loss within 1 s is a 25 MHz
failure. -/
def pllUnlock (pll : Nat) (s : State) : State :=
  if s.power.phase != .up || 5 ≤ pll || !bit s.power.clkLock pll then s
  else if (match nth none s.power.pllLoss pll with
      | some t => decide (ontAon s < t + 1000000000)
      | none => false) then xtalFail s
  else
    let t := ontAon s
    raise 0x0415 18 pll 0 0 (onPower (fun p => { p with
      clkLock := p.clkLock - 2 ^ pll, pllLoss := p.pllLoss.set pll (some t) }) s)

/-- PLL_UNLOCK (R88). -/
def execPllUnlock (pll : Nat) (s : State) : Out := .next (pllUnlock pll s)

/-- XTAL32_FAIL (R88): the RTC stands still and XTAL_SLIP is set (R342). -/
def execXtal32Fail (s : State) : Out :=
  .next (if s.power.phase == .porLow then s
    else raise 0x0417 18 0 0 0 (onRtc (fun r => { r with xtalSlip := true }) (onPower (fun p => { p with xtal32 := false }) s)))

/-- A refused operating-point request leaves its reason in PWR_OPP.LAST_RC (R92). -/
def oppRefuse (s : State) (r : Nat) : Answer := refuse (onPower (fun p => { p with oppRc := r }) s) r

/-- The effect of POWER_OPP_SET (R82 to R84, R114). The payload is an image of PWR_OPP (DESIGN CHOICE, log 30). -/
def powerOppSet (b : Bytes) (s : State) : Answer :=
  let v := byteField b 0 4
  let soc := bits v 0 2
  let ox := bits v 4 2
  if b.length ≠ 4 then refuse s 0x040A
  else if soc = 3 ∨ ox = 3 ∨ v ≠ soc + 16 * ox then oppRefuse s 0x0405
  else if s.power.opp.isSome then oppRefuse s 0x0401
  else if s.mgmt.hotHold ∧ ox ≠ s.power.oppOx then oppRefuse s 0x0406
  else
    let s := onMgmt (fun m => { m with hostOx := ox }) s
    done (oxRelock (onPower (fun p =>
      if p.oppSoc = soc then oppStart true ox p
      else
        let q := oppStart false soc p
        if p.oppOx = ox then q else { q with oppNext := some ⟨true, p.oppOx, ox, false, false⟩ }) s)) []

/-- POWER_OPP_SET (0x0411). -/
def execPowerOppSet (m : Mail) (s : State) : Out := mailOut 0x0411 m (powerOppSet m.payload) s

/-- CLK_SPREAD is written: each of the two PLLs that runs and has another spread in effect is relocked (R87). -/
def spreadSet (v : Nat) (p : PowerSt) : PowerSt :=
  let p := { p with clkSpread := v }
  let p := if bit p.clkLock 0 && spreadOf v 0 != bits p.spreadNow 0 2 then relock false p else p
  if bit p.clkLock 1 && spreadOf v 1 != bits p.spreadNow 2 2 then relock true p else p

/-- The effect of POWER_CLK_SPREAD_SET (R87, R91). The payload is an image of CLK_SPREAD (DESIGN CHOICE, log 30). -/
def powerSpreadSet (b : Bytes) (s : State) : Answer :=
  if b.length ≠ 4 then refuse s 0x040A
  else if 16 ≤ byteField b 0 4 then refuse s 0x0405
  else done (oxRelock (onPower (spreadSet (byteField b 0 4)) s)) []

/-- POWER_CLK_SPREAD_SET (0x0414). -/
def execPowerClkSpreadSet (m : Mail) (s : State) : Out := mailOut 0x0414 m (powerSpreadSet m.payload) s

/-- The effect of POWER_WAKE_TOKEN_SET (R75). -/
def powerTokenSet (b : Bytes) (s : State) : Answer :=
  if b.length ≠ 16 then refuse s 0x040A else done (onPower (fun p => { p with wakeToken := b }) s) []

/-- POWER_WAKE_TOKEN_SET (0x0413). -/
def execPowerWakeTokenSet (m : Mail) (s : State) : Out := mailOut 0x0413 m (powerTokenSet m.payload) s

/-! ### Device states: entry -/

/-- MALOR_IDLE_ENTER (R72): the management core stops its clock. RUN to IDLE and back raise no EV_POWER_STATE: R80 names the
device-state transitions that the host asks for, and Malor enters and leaves IDLE on its own (DESIGN CHOICE, log 31). -/
def execMalorIdleEnter (s : State) : Out :=
  .next (if malorWorks s && s.power.cur == .run && !s.power.busy then
    onPower (fun p => { p with cur := .idle }) (setIsl 1 .gated s)
  else s)

/-- MALOR_IDLE_EXIT (R77). -/
def execMalorIdleExit (s : State) : Out := .next (idleExit s)

/-- The steps an entry passes through (R76). -/
def entrySteps : Dev → List Nat
  | .sleep => [1, 2, 3, 5, 6, 7]
  | .deep => [1, 2, 3, 4, 5, 6, 7, 8]
  | .off => [1, 2, 3, 4, 5, 7, 8]
  | .run => []
  | .idle => []

/-- What begins with a step: pending enables and wake bits go, armed solves are aborted without publication; the display
stop starts; the CAN controllers start no frame; captures are stopped and a save of DEEP or OFF falls due (R76, R79, R151, R438, R462). -/
def entryBegin (n : Nat) (s : State) : State :=
  match n with
  | 2 => (upTo 4).foldl (fun s c => canOffline c s) s
  | 1 =>
    let s := (pendingUnits s).foldl (fun s u => pendingCancel u.1 u.2 (rc u.1 0x0C) s) s
    let s := onPower (fun p => { p with wakeLatch := 0, wakeFirst := none, wakeTick := 0 }) s
    let s := onEst (fun e => { e with phase := 0, pend := none, found := none }) (oxAbortStart 1 (oxAbortStart 0 s))
    onDsp (fun d => { d with phase := 0, building := false, tdlDue := false }) s
  | 3 => if dispOn s then dispStop 2 s else s
  | 5 =>
    let s := captureStop 1 (captureStop 0 s)
    if s.power.target ≠ .sleep ∧ isl s 6 = .on then onMeter (fun t => { t with saveDue := true }) s else s
  | _ => s

/-- The step in progress has reached its end: no CAN frame is in progress, the panel is discharged, captures are completed, and a save of DEEP or OFF is
written, which the next step boundary captures (R76, R438, R462, R487). -/
def entryReady (s : State) : Bool :=
  match s.power.step with
  | 2 => canQuiet s
  | 3 => !unitActive s 0x13 0 || (dispOn s && dispStopped s)
  | 5 => wavStopped s 0 && wavStopped s 1 && (s.power.target == .sleep || !s.meter.saveDue)
  | _ => true

/-- The islands of a state (R71), in island order. -/
def islandsOf : Dev → List IslSt
  | .sleep => [.on, .gated, .off, .on, .off, .on, .on, .off, .off, .retain, .retain, .off]
  | .deep => [.on, .retain, .off, .off, .off, .retain, .retain, .off, .off, .retain, .retain, .off]
  | .off => .on :: List.replicate 11 .off
  | .run => .on :: List.replicate 11 .off
  | .idle => .on :: List.replicate 11 .off

/-- The NET PLL runs on in DEEP for the wake detector of a port in SGMII mode (R76 step 7). -/
def netPllKept (s : State) : Bool :=
  (upTo 2).any (fun p => bit s.power.wakeEn (5 + p) && par s (portId p 0) == 1)

/-- Entry step 7: the islands go to their target states (R76, R71, R87): sessions end with SEC, the servo holds, and for
DEEP and OFF the PCI Express link goes down (R81). -/
def entryIslands (s : State) : State :=
  let t := s.power.target
  let s := wavDark (clearSlots (if t = .sleep then s else linkDown s))
  let s := { s with sec := secReset s.sec }
  let s := if (s.time.servo = 2 ∨ s.time.servo = 3 ∨ s.time.servo = 4) then holdover s else s
  let s := if t = .sleep then onTime (fun x => { x with sleepHold := true }) s else clearLocked s
  let kept := if t = .deep ∧ netPllKept s = true then s.power.clkLock &&& 4 else 0
  let digest := if t = .deep then codeDigest s.mgmt else s.power.entDigest
  let s := onPower (fun p => { p with
    isl := islandsOf t, islDown := [], islWake := [], oxArmWaits := false, oxRelockDue := false, entDigest := digest }) s
  let s := [4, 7, 8, 11].foldl (fun s n => islandLost n s) (if t = .deep then islandLost 3 s else s)
  let s := if t = .deep then retainOnly s else s
  onPower (fun p => { p with clkLock := p.clkLock ||| kept }) (pllsFollow s)

/-- What a step has done at its end (R76). -/
def entryEnd (n : Nat) (s : State) : State :=
  match n with
  | 1 => oxAbortEnd 1 (oxAbortEnd 0 s)
  | 2 => onPower (fun p => { p with canStandby := true }) (canStandbyAll s)
  | 4 => onPower (fun p => { p with padHold := true }) (adcDeep (meterDeep (plantStop s)))
  | 5 => flush s
  | 6 => pllsFollow (setIsl 10 .retain s)
  | 7 => entryIslands s
  | 8 =>
    let ont := s.time.ont
    onPower (fun p => { p with
      entOnt := ont, entTick := p.aonTick, entTarget := p.target
      entNet := if p.target = .deep then p.netTick else p.entNet }) s
  | _ => s

/-- The entry is complete (R76, R80): for OFF, AON has dropped PWR_EN; a wake during it acts as a wake from OFF (R79). -/
def entryComplete (s : State) : State :=
  let t := s.power.target
  let report := if s.power.saveCycle then s.power.entryUnreported else some t
  let s := onPower (fun p => { p with
    cur := t, busy := false, step := 0, target := .run, entryUnreported := report, saveCycle := false }) s
  if t = .off then
    let woke := s.power.wakeLatch != 0
    let s := onPower (fun p => { p with phase := .asleep, pwrEn := false, pmicPg := false, wakeDuringEntry := woke }) (islandReset true s)
    if woke then onPower wakeAct s else s
  else s

/-- A wake fired during the entry: the completed steps are to be reversed (R79). -/
def entryReverse (s : State) : State :=
  onPower (fun p => { p with
    exiting := true, wakeDuringEntry := true
    islWake := if p.doneSteps.contains 7 then [10, 9, 3, 5, 6, 1, 2] else p.islWake }) s

/-- The step in progress ends (R76, R79). -/
def entryStepDone (s : State) : State :=
  let n := s.power.step
  if !(s.power.phase == .up && s.power.busy && !s.power.exiting && entryReady s) then s
  else
    let s := onPower (fun p => { p with doneSteps := n :: p.doneSteps }) (entryEnd n s)
    let next := (entrySteps s.power.target).find? (fun k => decide (n < k))
    if s.power.wakeLatch ≠ 0 ∧ ¬ (s.power.target = .off ∧ next = none) then entryReverse s
    else match next with
      | none => entryComplete s
      | some k => entryBegin k (onPower (fun p => { p with step := k }) s)

/-- ENTRY_STEP_DONE (R76). -/
def execEntryStepDone (s : State) : Out := .next (entryStepDone s)

/-- An entry starts with step 1. -/
def entryStart (t : Dev) (s : State) : State :=
  entryBegin 1 (onPower (fun p => { p with
    busy := true, exiting := false, target := t, step := 1, doneSteps := [], wakeDuringEntry := false }) (idleExit s))

/-- An axis is in motion (R73). -/
def axisMoving (s : State) (n : Nat) : Bool :=
  let x := axisOf s n
  x.v != 0 || x.doing == 1 || x.doing == 3 || (x.doing == 2 && axisLag s n != 0)

/-- A state code of R80 as the command takes it (R73). -/
def devOf : Nat → Option Dev
  | 0 => some .run
  | 2 => some .sleep
  | 3 => some .deep
  | 4 => some .off
  | _ => none

/-- Why a state may not be entered, if so (R73), in the order of its table. -/
def entryRefused (t : Dev) (wake : Nat) (s : State) : Option Nat :=
  let deep := t = .deep ∨ t = .off
  if deep ∧ s.pair.running = true ∧ s.pair.grant = true then some 0x0411
  else if deep ∧ (upTo 16).any (axisMoving s) = true then some 0x0412
  else if (upTo 13).all (fun k => !(bit wake k && bit (wakeMask t) k)) then some 0x0414
  else if s.mgmt.minimal = true ∧ t ≠ .off then some 0x0406
  else none

/-- The effect of POWER_STATE_SET (R73). -/
def powerStateSet (b : Bytes) (s : State) : Answer :=
  let flags := byteField b 1 1
  let wake := if bit flags 0 then byteField b 4 4 else s.power.wakeEn
  if b.length ≠ 8 then refuse s 0x040A
  else match devOf (byteField b 0 1) with
    | none => refuse s 0x0405
    | some t =>
      if 2 ≤ flags ∨ byteField b 2 2 ≠ 0 ∨ 2 ^ 13 ≤ wake then refuse s 0x0405
      else if s.power.busy then refuse s 0x0401
      else
        let s' := onPower (fun p => { p with wakeEn := wake }) s
        if t = .run then done s' []
        else match entryRefused t wake s with
          | some r => refuse s r
          | none => done (entryStart t s') []

/-- POWER_STATE_SET (0x0410). -/
def execPowerStateSet (m : Mail) (s : State) : Out := mailOut 0x0410 m (powerStateSet m.payload) s

/-! ### Device states: exit -/

/-- An island that follows its units is ON where one of them is enabled or STOPPING (R70). -/
def islandsFollow (s : State) : State :=
  [4, 7, 11].foldl (fun s n => if (islandUnits n).any (fun u => unitActive s u.1 u.2) then setIsl n .on s else s) s

/-- The islands of step 7 return, SEC last; without a root the part resets instead (R77, R155). -/
def exitIslands (s : State) : State :=
  let s := s.power.islWake.foldl (fun s k => islandOn k s) (onPower (pllStart 0) s)
  if s.power.phase != .up then s
  else wavResume (onTime (fun t => { t with sleepHold := false }) (islandsFollow s))

/-- A completed step is undone (R77, R79), unless the part is being reset. -/
def exitUndo (s : State) (n : Nat) : State :=
  if s.power.phase != .up then s
  else match n with
  | 7 => exitIslands s
  | 6 => islandOn 10 s
  | 4 =>
    let s := (upTo 32).foldl (fun s k => loopResume k s) (logicResume s)
    adcResume (meterResume ((upTo 16).foldl (fun s k => axisResume k s) s))
  | 3 => dispResume s
  | 2 => onPower (fun p => { p with canStandby := false }) ((upTo 4).foldl (fun s c => canOnline c s) s)
  | 1 => onTime (fun t => { t with pulse14 := none, pulse15 := none }) s
  | _ => s

/-- ONT after DEEP (R78): a forward step to the entry ONT plus the elapsed ticks. -/
def deepOnt (s : State) : State :=
  let new := ontAfter s.power.entOnt (s.power.aonTick - s.power.entTick)
  stepOnt (max new s.time.ont) (onPower (fun p => { p with netTick := p.entNet }) s)

/-- The events of an exit: a reversed entry reports the wake, any other exit the entry and itself (R79, R80). -/
def exitEvents (s : State) : State :=
  if s.power.entryUnreported.isNone then
    let s := wakeEntryEvent s
    onPower (fun p => { latchDone p.wakeLatch p with wakeDuringEntry := false }) s
  else stateEvents s

/-- Malor runs again (R77): it reports and takes up what waited. After a wake from SLEEP by the save timer it saves and
flushes first, and goes back to SLEEP where no other source is latched by then. A command rung during an entry to DEEP or
OFF that a wake then reversed is answered as after an exit from DEEP, which R81 leaves open (DESIGN CHOICE, log 31). -/
def exitMalor (reversed deepTarget : Bool) (s : State) : State :=
  let slept := !reversed && s.power.entryUnreported == some .sleep
  let s := helperRepair s
  let s := if slept && bit s.power.wakeLatch 12 then flush (meterSave s) else s
  if slept && s.power.wakeLatch == 0x1000 then
    entryStart .sleep (onPower (fun p => { p with saveCycle := true }) s)
  else
    let s := almRecord 1 (almRecord 0 (exitEvents (onPower (fun p => { p with saveCycle := false }) s)))
    let s := if reversed then s else switchResume s
    calTry (mirrorParams (if deepTarget then answerRestarted s else s))

/-- The exit sequence ends with Malor running (R77, R79). `lost`: the bytes of the code region that MGMT SRAM did not retain
in DEEP, by offset; the boot ROM checks the region's digest against AON, and a mismatch gives a full start. -/
def exitComplete (lost : List (Nat × Byte)) (s : State) : State :=
  if !(s.power.phase == .up && s.power.busy && s.power.exiting) then s
  else
    let reversed := s.power.cur == .run || s.power.cur == .idle
    let fromDeep := s.power.cur == .deep
    let s := if fromDeep then onMgmt (fun m => { m with code := lost.foldl (fun c x => overwrite c x.1 [x.2]) m.code }) s else s
    if fromDeep && codeDigest s.mgmt != s.power.entDigest then mainResetRequest s
    else
      let steps := s.power.doneSteps
      let deepTarget := steps.contains 4 || deepEntry s
      let s := onPower (fun p => { p with cur := .run }) s
      let s := steps.foldl exitUndo (if fromDeep then deepOnt s else s)
      if s.power.phase != .up then s
      else
        let s := onPower (fun p => { p with busy := false, exiting := false, target := .run, step := 0, doneSteps := [] }) s
        exitMalor reversed deepTarget s

/-- EXIT_COMPLETE (R77). -/
def execExitComplete (lost : List (Nat × Byte)) (s : State) : Out := .next (exitComplete lost s)

/-! ### Wake sources -/

/-- WAKE_PIN_RISE (R74). -/
def execWakePinRise (s : State) : Out := .next (latchWake 0 s)

/-- ETH_LINK_WAKE (R74): bits 3 and 4 need the bank supply. -/
def execEthLinkWake (p : Nat) (s : State) : Out :=
  .next (if p < 2 ∧ s.power.phase = .up then latchWake (3 + p) s else s)

/-- CAN_WAKE (R74): the detector is armed while the transceiver is held in standby for an entry. -/
def execCanWake (c : Nat) (s : State) : Out :=
  .next (if c < 4 ∧ s.power.phase = .up ∧ s.power.canStandby = true then latchWake (7 + c) s else s)

/-- The payload of a frame with EtherType 0x88B5, untagged or behind one IEEE 802.1Q tag; the FCS stands last. -/
def wakePayload (f : Bytes) : Option Bytes :=
  if beNat ((f.drop 12).take 2) = 0x88B5 then some (f.drop 14)
  else if beNat ((f.drop 12).take 2) = 0x8100 ∧ beNat ((f.drop 16).take 2) = 0x88B5 then some (f.drop 18)
  else none

/-- A frame, FCS included, is a wake frame of a port (R75). -/
def wakeFrameOk (s : State) (p : Nat) (f : Bytes) : Bool :=
  let dst := f.take 6
  let body := f.take (f.length - 4)
  (dst == portMac s p || dst == List.replicate 6 0xFF) && fcsOf body == f.drop (f.length - 4) && !allZero s.power.wakeToken &&
    (match wakePayload body with
      | some b => b.take 16 == s.power.wakeToken
      | none => false)

/-- WAKE_FRAME (R75): a port's wake detector receives a frame. -/
def execWakeFrame (p : Nat) (frame : Bytes) (s : State) : Out :=
  .next (if p < 2 ∧ s.power.phase = .up ∧ (s.power.cur = .sleep ∨ s.power.cur = .deep) ∧ wakeFrameOk s p frame = true then
    latchWake (5 + p) s else s)

/-- DB_WAKE_WRITE (R74). -/
def execDbWakeWrite (s : State) : Out := .next (if hostServed s then doorbell s else s)

/-- WAKE_LATCH_CLEAR (R79): Malor writes 1 to bits. -/
def execWakeLatchClear (mask : Nat) (s : State) : Out := .next (if malorWorks s then onPower (latchDone mask) s else s)

/-- SAVE_TIMER_EXPIRY (R462): a save falls due, and wakes the part from SLEEP (R74, R77). -/
def execSaveTimerExpiry (s : State) : Out :=
  .next (if plantRuns s && isl s 6 == .on then latchWake 12 (onMeter (fun t => { t with saveDue := true }) s) else s)

end Sys2Proof.Machine
end

