-- ==== Sys2Proof/Machine/Errors.lean ====
section
/-! DEFINITION. Temperature, supply monitors, load and shedding, memory and bus errors, pad registers (R28, R34, R36, R59
to R63, R110 to R114). -/

namespace Sys2Proof.Machine

/-! ### Temperature -/

/-- Some sensor reads at least `c` °C; readings are Q9.7 (R114, R117). -/
def anyAbove (c : Int) (l : List (Option Int)) : Bool :=
  l.any (fun t => match t with | some v => decide (128 * c ≤ v) | none => false)

/-- OX is to go to a point: at once, or after the change in progress (R83, R84). -/
def oxPointTo (n : Nat) (s : State) : State :=
  oxRelock (onPower (fun p =>
    if p.opp.isSome then { p with oppNext := some ⟨true, p.oppOx, n, false, false⟩ } else oppStart true n p) s)

/-- Thermal shut-down (R114): as a fall of PMIC_PG with 60 s, no power-fail cause; AON sets THERM. -/
def thermShut (s : State) : State :=
  onMgmt (fun m => { m with therm := true, thermReport := true }) (railsCut 60 s)

/-- The sensors' readings cross a threshold (R113, R114). -/
def tempCross (temps : List Int) (s : State) : State :=
  if !awake s then s
  else
    let old := s.mgmt.tsens
    let new := (upTo 6).map (fun k => match temps[k]? with | some v => some v | none => nth none old k)
    let s := onMgmt (fun m => { m with tsens := new }) s
    let warn := parN s 0x0103
    if anyAbove 120 new then thermShut s
    else
      let s := if anyAbove warn new && !anyAbove warn old && malorWorks s then raise 0x0120 4 0 0 0 s else s
      if anyAbove 112 new then
        if anyAbove 112 old then s
        else raise 0x0121 4 0 0 0 (oxPointTo 0 (onMgmt (fun m => { m with
          hotHold := true, oxLowered := m.oxLowered || decide (0 < m.hostOx) }) s))
      else if anyAbove 100 new then s
      else onMgmt (fun m => { m with hotHold := false }) s

/-- TEMP_THRESHOLD_CROSS (R114). -/
def execTempThresholdCross (temps : List Int) (s : State) : Out := .next (tempCross temps s)

/-- Every 10 s Malor lowers or raises the OX point by one step (R114). -/
def oxPointStep (s : State) : State :=
  let warn := par s 0x0103
  if !malorWorks s || s.power.opp.isSome then s
  else if anyAbove warn s.mgmt.tsens then
    if s.power.oppOx = 0 then s
    else oxPointTo (s.power.oppOx - 1) (onMgmt (fun m => { m with oxLowered := true }) s)
  else if anyAbove (warn - 5) s.mgmt.tsens && !(s.mgmt.tsens.all (fun t => match t with
      | some v => decide (v ≤ 128 * (warn - 5)) | none => true)) then s
  else if s.mgmt.hotHold || decide (s.mgmt.hostOx ≤ s.power.oppOx) then s
  else
    let n := s.power.oppOx + 1
    oxPointTo n (onMgmt (fun m => { m with oxLowered := decide (n < m.hostOx) }) s)

/-- OX_POINT_STEP_TIMER (R114). -/
def execOxPointStepTimer (s : State) : Out := .next (oxPointStep s)

/-- TSENS_STAT (R117). -/
def tsensStat (s : State) : Nat :=
  let at_ := fun (c : Int) => bitsFrom 0 6 (fun k => anyAbove c [nth none s.mgmt.tsens k])
  at_ (par s 0x0103) + 256 * at_ 112 + 65536 * b2n s.mgmt.oxLowered

/-! ### Supplies and load -/

/-- A rail is out of range (R113, R519 cause 5): VDD_OX is not monitored while OX is OFF. -/
def supplyFault (n mv : Nat) (low : Bool) (s : State) : State :=
  if !awake s || decide (8 ≤ n) || (n == 1 && isl s 8 == .off) then s
  else
    let s := onMgmt (fun m => { m with vmon := modNth m.vmon n (fun v =>
      { mv := mv % 65536, low := v.low || low, high := v.high || !low }) }) s
    let s := raise 0x0123 5 0 0 0 s
    if n = 0 ∨ n = 2 then failLatch 5 s else s

/-- SUPPLY_MONITOR_FAULT (R113). -/
def execSupplyMonitorFault (n mv : Nat) (low : Bool) (s : State) : Out := .next (supplyFault n mv low s)

/-- The shed level after a window (R111). -/
def shedAfter (s : State) (load : Nat) : Nat :=
  if parN s 0x0101 ≤ load then min 4 (s.mgmt.shed + 1)
  else if load ≤ parN s 0x0102 then s.mgmt.shed - 1
  else s.mgmt.shed

/-- A load window ends (R111, R117); below level 2 a deferred calibration may start. -/
def loadWindow (load : Nat) (s : State) : State :=
  if !malorWorks s then s
  else
    let old := s.mgmt.shed
    let new := shedAfter s load
    let s := onMgmt (fun m => { m with
      load := min load 100, loadMax := max m.loadMax (min load 100), shed := new
      shedSecs := if old = 0 then m.shedSecs else satInc 32 m.shedSecs }) s
    if old = new then s else calTry (raise 0x0112 2 old new load s)

/-- LOAD_WINDOW_END (R111). -/
def execLoadWindowEnd (load : Nat) (s : State) : Out := .next (loadWindow load s)

/-- TELEMETRY_AGGREGATION (R110, R111): class 7 work; a shed window is marked absent. -/
def execTelemetryAggregation (s : State) : Out :=
  .next (if malorWorks s then onMgmt (fun m => { m with aggregates := decide (m.shed = 0) :: m.aggregates }) s else s)

/-! ### Memory and bus errors -/

/-- The address parameters of the error events (R589): P2 [31:0], P3 [35:32]. -/
def raiseAddr (code p1 addr : Nat) (s : State) : State := raise code 7 p1 (addr % 2 ^ 32) (addr / 2 ^ 32 % 16) s

/-- The block behind a DMA channel discards its data and counts the loss (R28). -/
def dramLost (ch : Nat) (s : State) : State :=
  let count := fun k => onMgmt (fun m => { m with dramLoss := modNth m.dramLoss k (satInc 32) })
  match ch with
  | 4 => count 0 (onNet (fun n => { n with loss := satInc 32 n.loss }) s)
  | 5 => count 2 (stagingLost s)
  | 6 => count 1 (captureStop 1 (captureStop 0 s))
  | 9 => count 3 (frameFetchLost s)
  | _ => s

/-- DRAM_ERROR (R28). -/
def execDramError (ch addr : Nat) (s : State) : Out :=
  .next (if inRun s && isl s 10 == .on then raiseAddr 0x0140 ch addr (dramLost ch s) else s)

/-- The scrubber corrected `n` single-bit errors of a store on its way (R34); OXMEM and MGMT SRAM count them (R117, R244). -/
def scrubCorrected (store n : Nat) (s : State) : State :=
  match store with
  | 0 => onOx (fun o => { o with eccCorr := satAdd 16 o.eccCorr n }) s
  | 1 => onMgmt (fun m => { m with sramCorr := satAdd 32 m.sramCorr n }) s
  | _ => s

/-- The words of a store at an address are bad from now on, and what reads them is told (R34): the MGMT code region ends the
start (R94); a sub-station entry and a stored factor wait for their reader (R214, R241), a parcel row is restarted (R266). -/
def scrubBad (store addr : Nat) (x : StartIn) (s : State) : State :=
  match store with
  | 1 => let s := onMgmt (fun m => { m with sramUncorr := satInc 32 m.sramUncorr }) s
    if inCode addr then codeFault addr true x s else s
  | 2 => storeBad addr (rowBad addr (entryBad addr s))
  | _ => s

/-- The scrubber finds an uncorrectable word (R34): store 0 OXMEM, 1 MGMT SRAM, 2 DRAM. -/
def scrubFound (store addr corr : Nat) (x : StartIn) (s : State) : State :=
  if awake s && store < 3 then scrubBad store addr x (raiseAddr 0x0141 store addr (scrubCorrected store corr s)) else s

/-- SCRUB_UNCORRECTABLE (R34). -/
def execScrubUncorrectable (store : Nat) (x : ScrubIn) (s : State) : Out := .next (scrubFound store x.addr x.corr x.start s)

/-- BUS_ERROR (R36, R117): an access that no fitted memory and no block answers; a read gives 0, a write has no effect. -/
def execBusError (addr : Nat) (s : State) : Out :=
  .next (if awake s && busFaults s addr then
    raiseAddr 0x0142 0 addr (onMgmt (fun m => { m with busErrCnt := satInc 32 m.busErrCnt, busErrAddr := addr % 2 ^ 36 }) s)
  else s)

/-- PAD_GRP_CFG_WRITE (R60, R63): Malor writes a pad group's register. -/
def execPadGrpCfgWrite (n value : Nat) (s : State) : Out :=
  .next (if malorWorks s && n < 20 then padWrite n value s else s)

end Sys2Proof.Machine
end

