-- ==== Sys2Proof/Machine/Update.lean ====
section
/-! DEFINITION. The MGMT and UPDATE commands (R99, R119 to R121, R413, R602, R603). -/

namespace Sys2Proof.Machine

/-! ### Status, restart and the saved configuration -/

/-- A slot is the one in effect (R602): the Malor that runs, the model in effect, the program in program RAM. -/
def slotInEffect (s : State) (type : Nat) (slot : Bool) : Bool :=
  match type with
  | 1 => s.mgmt.malorRuns && s.mgmt.malorSlot == slot
  | 2 => modelHere s && s.model.slot == slot
  | _ => s.logic.image != [] && s.logic.slot == slot

/-- A slot entry of MGMT_STATUS_GET (R602). -/
def slotEntry (s : State) (type : Nat) (slot : Bool) : Bytes :=
  let img := slotImage s type slot
  if imgFormOk type img then
    leBytes 8 (imgVersion img) ++ leBytes 2 (imgSvn img) ++ leBytes 1 (if slotInEffect s type slot then 2 else 1) ++ zeros 5
  else zeros 16

/-- The mode that MGMT_STATUS_GET reports (R602): 0 READY, 1 MINIMAL, 2 starting. -/
def mgmtMode (s : State) : Nat := if s.mgmt.minimal then 1 else if s.host.ready then 0 else 2

/-- The 128 bytes of MGMT_STATUS_GET (R602). -/
def mgmtStatus (s : State) : Bytes :=
  let r := bootRec s
  leBytes 4 (bootState s.mgmt) ++ leBytes 4 (bootFail s.mgmt) ++ leBytes 2 (if s.mgmt.minimal then s.mgmt.minReason else 0) ++
    leBytes 1 (mgmtMode s) ++ leBytes 1 (lifecycle s) ++ leBytes 4 r.seq ++
    ([r.malorActive, r.malorTrial, r.modelActive, r.modelTrial, r.aplarActive, r.aplarTrial].flatMap (fun b => leBytes 1 (b2n b))) ++
    zeros 2 ++ ([1, 2, 3].flatMap (fun t => slotEntry s t false ++ slotEntry s t true)) ++
    ([1, 2, 3].flatMap (fun t => leBytes 1 (rollback s t))) ++ zeros 1 ++ leBytes 4 s.mgmt.wdtCount

/-- The effect of MGMT_STATUS_GET. -/
def mgmtStatusGet (p : Bytes) (s : State) : Answer := if p ≠ [] then refuse s 0x010A else done s (mgmtStatus s)

/-- MGMT_STATUS_GET (0x0100). -/
def execMgmtStatusGet (m : Mail) (s : State) : Out := mailOut 0x0100 m (mgmtStatusGet m.payload) s

/-- The effect of MGMT_RESTART (R603, R107). -/
def mgmtRestart (p : Bytes) (s : State) : Answer :=
  let mode := byteField p 0 1
  if p.length ≠ 4 ∨ byteField p 1 3 ≠ 0 then refuse s 0x010A
  else if 2 < mode then refuse s 0x0105
  else if s.mgmt.minimal ∧ mode ≠ 1 then done s []
  else
    let s := onMgmt (fun m => { m with
      inStart := false, cnt := if mode = 1 then 0 else m.cnt, minReq := m.minReq || mode == 2, restart := some mode }) s
    done (flush s) []

/-- MGMT_RESTART (0x0102). -/
def execMgmtRestart (m : Mail) (s : State) : Out := mailOut 0x0102 m (mgmtRestart m.payload) s

/-- The configuration that MGMT_CONFIG_SAVE writes (R99): every value and table written, and the enabled units. -/
def currentStore (seq : Nat) (s : State) : Store :=
  { seq, params := s.host.params, tables := s.host.tables, enables := enabledUnits s }

/-- The effect of MGMT_CONFIG_SAVE (R98, R99): the next sequence goes to store A when it is even, else to B. -/
def configSave (p : Bytes) (s : State) : Answer :=
  if p ≠ [] then refuse s 0x010A
  else
    let n := wrapInc 32 (match storeInUse s with | some x => x.seq | none => 0)
    let st := some (currentStore n s)
    done (onMgmt (fun m => if n % 2 = 0 then { m with storeA := st } else { m with storeB := st }) s) []

/-- MGMT_CONFIG_SAVE (0x0104). -/
def execMgmtConfigSave (m : Mail) (s : State) : Out := mailOut 0x0104 m (configSave m.payload) s

/-! ### Updates -/

/-- The effect of UPDATE_BEGIN (R120): the inactive slot of the type is erased. The payload is TYPE in one byte, three
bytes of 0 and the total length in four; a TYPE outside 1 to 3, for which R120 names no reason, is refused with
RC_MGMT_RANGE (DESIGN CHOICE, log 30). -/
def updateBegin (p : Bytes) (s : State) : Answer :=
  let type := byteField p 0 1
  let total := byteField p 4 4
  if p.length ≠ 8 ∨ byteField p 1 3 ≠ 0 then refuse s 0x010A
  else if type = 0 ∨ 3 < type then refuse s 0x0105
  else
    let (active, trial) := bootSlot (bootRec s) type
    if s.mgmt.update.isSome ∨ trial then refuse s 0x0106
    else if slotSize type < total then refuse s 0x0105
    else done (onMgmt (fun m => { m with update := some { type, total, slot := !active } })
      (setSlotImage type (!active) [] s)) []

/-- UPDATE_BEGIN (0x0120). -/
def execUpdateBegin (m : Mail) (s : State) : Out := mailOut 0x0120 m (updateBegin m.payload) s

/-- A range shares a byte with one already programmed. -/
def rangeTaken (l : List (Nat × Nat)) (off n : Nat) : Bool :=
  l.any (fun r => decide (off < r.1 + r.2) && decide (r.1 < off + n))

/-- The effect of UPDATE_DATA (R119, R120). With no open update, for which R120 names no reason, it is refused with
RC_MGMT_STATE, and so are UPDATE_FINISH, UPDATE_ACTIVATE and UPDATE_ABORT (DESIGN CHOICE, log 30). -/
def updateData (p : Bytes) (s : State) : Answer :=
  let off := byteField p 0 4
  let n := byteField p 4 4
  if p.length < 8 ∨ p.length ≠ 8 + n then refuse s 0x010A
  else match s.mgmt.update with
    | none => refuse s 0x0106
    | some u =>
      if 960 < n ∨ u.total < off + n ∨ rangeTaken u.ranges off n = true then refuse s 0x0105
      else
        let img := overwrite (slotImage s u.type u.slot) off (p.drop 8)
        done (onMgmt (fun m => { m with update := some { u with ranges := u.ranges ++ [(off, n)], finished := false } })
          (setSlotImage u.type u.slot img s)) []

/-- UPDATE_DATA (0x0121). -/
def execUpdateData (m : Mail) (s : State) : Out := mailOut 0x0121 m (updateData m.payload) s

/-- Every byte of an update was programmed: ranges never overlap, so their lengths add up. -/
def updateFull (u : Update) : Bool := (u.ranges.map (fun r => r.2)).foldl (· + ·) 0 == u.total

/-- The effect of UPDATE_FINISH (R120): the checks in their order. -/
def updateFinish (p : Bytes) (s : State) : Answer :=
  if p ≠ [] then refuse s 0x010A
  else match s.mgmt.update with
    | none => refuse s 0x0106
    | some u =>
      if !updateFull u then refuse s 0x0142
      else match imgFail s u.type (slotImage s u.type u.slot) with
        | some r => refuse s r
        | none => done (onMgmt (fun m => { m with update := some { u with finished := true } }) s) []

/-- UPDATE_FINISH (0x0122). -/
def execUpdateFinish (m : Mail) (s : State) : Out := mailOut 0x0122 m (updateFinish m.payload) s

/-- The update is over. -/
def updateClose (s : State) : State := onMgmt (fun m => { m with update := none }) s

/-- A Malor image is activated (R121): CNT is cleared and the part restarts, from MINIMAL as a full start. -/
def malorActivate (slot : Bool) (s : State) : State :=
  let s := bootWrite (fun r => { r with malorActive := slot, malorTrial := true }) s
  flush (onMgmt (fun m => { m with cnt := 0, inStart := false, restart := some (if m.minimal then 1 else 0) }) s)

/-- In MINIMAL no model or program runs: the boot record is written and a full start follows (R107). -/
def minimalActivate (type : Nat) (slot : Bool) (s : State) : State :=
  let s := bootWrite (bootSet type slot true) s
  flush (onMgmt (fun m => { m with cnt := 0, inStart := false, restart := some 1 }) s)

/-- An Aplar slot is activated (R413): R412 first, then the boot record and the load. -/
def aplarActivate (slot : Bool) (s : State) : Answer :=
  let img := slotImage s 3 slot
  match logicLoadFail s img with
  | some (r, i) => refuse s r 0 (leBytes 4 i)
  | none =>
    let s := bootWrite (fun r => { r with aplarActive := slot, aplarTrial := true }) s
    done (updateClose (logicActivate img slot s)) []

/-- The effect of UPDATE_ACTIVATE (R121, R199, R413); every image is checked again at activation (R101). Before a successful
UPDATE_FINISH it is refused with RC_MGMT_STATE (DESIGN CHOICE, log 30). -/
def updateActivate (p : Bytes) (s : State) : Answer :=
  if p ≠ [] then refuse s 0x010A
  else match s.mgmt.update with
    | none => refuse s 0x0106
    | some u =>
      if !u.finished then refuse s 0x0106
      else match imgFail s u.type (slotImage s u.type u.slot) with
        | some r => refuse s r
        | none =>
          if u.type = 1 then done (updateClose (malorActivate u.slot s)) []
          else if s.mgmt.minimal then done (updateClose (minimalActivate u.type u.slot s)) []
          else if u.type = 2 then
            let a := modelActivate u.slot s
            if a.status = 0 then { a with st := updateClose a.st } else a
          else aplarActivate u.slot s

/-- UPDATE_ACTIVATE (0x0123). -/
def execUpdateActivate (m : Mail) (s : State) : Out := mailOut 0x0123 m (updateActivate m.payload) s

/-- A rollback counter rises to a value: bits 0 upward of its two words (R102, R169). -/
def counterRaise (type n : Nat) (s : State) : State :=
  let s := otpSet (2 + 2 * type) (2 ^ min n 32 - 1) s
  if n ≤ 32 then s else otpSet (3 + 2 * type) (2 ^ (min n 64 - 32) - 1) s

/-- The effect of UPDATE_COMMIT (R102, R121, R202). The payload is TYPE and three bytes of 0; a type that has no trial, for
which R121 names no reason, is refused with RC_MGMT_STATE (DESIGN CHOICE, log 30). -/
def updateCommit (p : Bytes) (s : State) : Answer :=
  let type := byteField p 0 1
  if p.length ≠ 4 ∨ byteField p 1 3 ≠ 0 then refuse s 0x010A
  else if type = 0 ∨ 3 < type then refuse s 0x0105
  else
    let (active, trial) := bootSlot (bootRec s) type
    if type = 2 ∧ s.model.switching = true then refuse s 0x0806
    else if trial = false then refuse s 0x0106
    else
      let svn := imgSvn (slotImage s type active)
      let s := bootWrite (bootSet type active false) s
      done (raise 0x0132 6 0 0 0 (if rollback s type < svn then counterRaise type svn s else s)) []

/-- UPDATE_COMMIT (0x0124). -/
def execUpdateCommit (m : Mail) (s : State) : Out := mailOut 0x0124 m (updateCommit m.payload) s

/-- The effect of UPDATE_ABORT (R119): the update is closed and the slot is left unbootable. -/
def updateAbort (p : Bytes) (s : State) : Answer :=
  if p ≠ [] then refuse s 0x010A
  else match s.mgmt.update with
    | none => refuse s 0x0106
    | some u => done (updateClose (setSlotImage u.type u.slot [] s)) []

/-- UPDATE_ABORT (0x0125). -/
def execUpdateAbort (m : Mail) (s : State) : Out := mailOut 0x0125 m (updateAbort m.payload) s

/-- The effect of LOGIC_TRIAL_REVERT (R413): the boot record names the fallback, then the fallback is loaded; a fallback
that fails its checks is refused with the reason and index a start would report, after the record was written, and the
program in program RAM stays (DEDUCED, log 25). -/
def logicTrialRevert (p : Bytes) (s : State) : Answer :=
  if p ≠ [] then refuse s 0x0C0A
  else if (bootRec s).aplarTrial = false then refuse s 0x0C06
  else
    let s := bootWrite (fun r => { r with aplarActive := !r.aplarActive, aplarTrial := false }) s
    let slot := (bootRec s).aplarActive
    let img := slotImage s 3 slot
    match logicLoadFail s img with
    | some (r, i) => refuse s r 0 (leBytes 4 i)
    | none => done (logicActivate img slot s) []

/-- LOGIC_TRIAL_REVERT (0x0C15). -/
def execLogicTrialRevert (m : Mail) (s : State) : Out := mailOut 0x0C15 m (logicTrialRevert m.payload) s

end Sys2Proof.Machine
end

