-- ==== Sys2Proof/Machine/RegMap.lean ====
section
/-! DEFINITION. The register map: the block regions, the host's BAR2 view and result area, reads of any size, and the frames
of the SPI host port (R8, R10, R35 to R39, R91, R92, R96, R115 to R117, R124, R126, R127, R179). -/

namespace Sys2Proof.Machine

/-! ### The always-on controller, management and security -/

/-- PWR_STATE (R92). -/
def pwrState (p : PowerSt) : Nat := devCode p.cur + 16 * devCode p.target + 256 * b2n p.busy + 4096 * p.step

/-- PWR_ISL_STATUS: the state of island n in bits [2n+1:2n] (R67, R92). -/
def islStatus (p : PowerSt) : Nat := (p.isl.map islCode).foldr (fun c a => c + 4 * a) 0

/-- PWR_OPP (R92). -/
def pwrOpp (p : PowerSt) : Nat :=
  p.oppSoc + 16 * p.oppOx + 256 * b2n (p.opp.isSome || p.oppNext.isSome) + 65536 * p.oppRc

/-- WAKE_FIRST (R91). -/
def wakeFirstReg (p : PowerSt) : Nat := match p.wakeFirst with | some n => n + 16 | none => 0

/-- CLK_STATUS (R91). -/
def clkStatus (p : PowerSt) : Nat := p.clkLock + 256 * b2n p.xtal25 + 512 * b2n p.xtal32

/-- WDT_CTRL (R115). -/
def wdtCtrl (m : MgmtSt) : Nat := m.wdtTimeout + 2 ^ 31 * b2n m.wdtEn

/-- A register of the always-on controller's region (R91, R115, R345, R392, R561, R582); a write-only one reads 0 (R9). -/
def aonReg (s : State) (off : Nat) : Nat :=
  let p := s.power
  if 0x200 ≤ off ∧ off < 0x300 then rtcReg s (off + 0x100)
  else if 0x300 ≤ off ∧ off < 0x320 then (if big s then 0 else (axisOf s ((off - 0x300) / 4)).idx)
  else match off with
    | 0x000 => pwrState p
    | 0x004 => islStatus p
    | 0x008 => p.islReq
    | 0x010 => pwrOpp p
    | 0x020 => p.wakeEn
    | 0x024 => p.wakeLatch
    | 0x028 => wakeFirstReg p
    | 0x030 => p.wakeTick % 2 ^ 32
    | 0x034 => p.wakeTick / 2 ^ 32
    | 0x040 => pfailLatch p
    | 0x044 => p.pfOnt % 2 ^ 32
    | 0x048 => p.pfOnt / 2 ^ 32
    | 0x050 => p.clkSpread
    | 0x054 => clkStatus p
    | 0x100 => bootState s.mgmt
    | 0x104 => bootFail s.mgmt
    | 0x110 => wdtCtrl s.mgmt
    | 0x118 => s.mgmt.wdtCount
    | 0x400 => s.recorder.seqAon % 2 ^ 32
    | 0x404 => s.recorder.seqAon / 2 ^ 32
    | 0x500 => s.disp.flag
    | _ => 0

/-- TSENSn (R117). -/
def tsensReg (t : Option Int) : Nat := match t with | some v => toBits 16 v + 2 ^ 31 | none => 0

/-- VMONn (R113, R117): VDD_OX reads 0 while OX is OFF. -/
def vmonReg (s : State) (n : Nat) : Nat :=
  let v := nth {} s.mgmt.vmon n
  (if n = 1 ∧ isl s 8 = .off then 0 else v.mv) + 65536 * b2n v.low + 131072 * b2n v.high

/-- A register of the management core's local region (R59, R117, R561). -/
def mgmtReg (s : State) (off : Nat) : Nat :=
  let m := s.mgmt
  if 0x2000 ≤ off ∧ off < 0x2018 then tsensReg (nth none m.tsens ((off - 0x2000) / 4))
  else if 0x2020 ≤ off ∧ off < 0x2040 then vmonReg s ((off - 0x2020) / 4)
  else if 0x2200 ≤ off ∧ off < 0x2300 then recReg s off
  else if 0x3000 ≤ off ∧ off < 0x3050 then nth 0 m.padCfg ((off - 0x3000) / 4)
  else match off with
    | 0x2018 => tsensStat s
    | 0x2100 => m.load + 256 * m.loadMax + 65536 * m.shed
    | 0x2104 => m.busyCnt
    | 0x2108 => m.shedSecs
    | 0x210C => m.busErrCnt
    | 0x2110 => m.busErrAddr % 2 ^ 32
    | 0x2114 => m.busErrAddr / 2 ^ 32
    | 0x2118 => m.sramCorr
    | 0x211C => m.sramUncorr
    | 0x2120 => malorWord s.recorder (eraseMax s.recorder)
    | 0x2124 => malorWord s.recorder (spareFree s.recorder)
    | 0x2128 => s.recorder.dropCnt
    | _ => 0

/-- A register of the security engine's region; it holds no key material (R37, R179, R180). -/
def secReg (s : State) (off : Nat) : Nat :=
  let c := s.sec
  if 0x010 ≤ off ∧ off < 0x020 then nth 0 c.epochs ((off - 0x010) / 4)
  else if 0x100 ≤ off ∧ off < 0x200 then slotAttr s ((off - 0x100) / 4)
  else if 0x800 ≤ off ∧ off < 0xC00 then otpWord s ((off - 0x800) / 4)
  else match off with
    | 0x00 => secStatus s
    | 0x04 => c.bindViol
    | 0x08 => c.drbgFail
    | 0x40 => c.cmd
    | 0x44 => c.cmdStat
    | _ => 0

/-! ### Block regions -/

/-- The island that holds a block's registers, in the order of R37: those of Ox, Drove and the result unit stay with OXMEM
while OX sleeps between solves (R17, R70; log 31). -/
def blockIsland (n : Nat) : Nat := nth 0 [0, 1, 1, 2, 3, 3, 3, 4, 5, 5, 5, 6, 9, 10, 11] n

/-- An island keeps its registers: ON or GATED (R67). -/
def islandKeeps (s : State) (n : Nat) : Bool := isl s n == .on || isl s n == .gated

/-- A register of the Ox region: Ox, estimation, dispatch (R244, R274, R308). -/
def oxRegion (s : State) (off : Nat) : Nat :=
  if 0x300 ≤ off then dspReg s off else if 0x200 ≤ off then estReg s off else oxReg s off

/-- A register of the acquisition and metering region (R442, R468): the fast converters lie in WAVE, and the contents of the
capture buffer are the converter's raw samples, which no rule lays out word by word (R435). -/
def adcRegion (s : State) (off : Nat) : Nat :=
  if 0x80000 ≤ off ∧ off < 0xC0000 then Config.openWord s.free off
  else if 0x400 ≤ off ∧ off < 0x500 ∧ islandKeeps s 7 = false then Config.openWord s.free off
  else if off < 0x800 then adcReg s off else meterReg s off

/-- The word at an aligned offset of block region `n` (R8, R10, R37): a reserved offset reads 0; that of an island that has
lost its registers is open. -/
def blockWord (s : State) (n off : Nat) : Nat :=
  if !islandKeeps s (blockIsland n) then Config.openWord s.free (0x100000 * n + off)
  else match n with
    | 0 => aonReg s off
    | 1 => mgmtReg s off
    | 3 => secReg s off
    | 4 => netReg s off
    | 5 => timeReg s off
    | 6 => pairReg s off
    | 7 => canReg s off
    | 8 => loopReg s off
    | 9 => motReg s off
    | 10 => logicReg s off
    | 11 => adcRegion s off
    | 12 => oxRegion s off
    | 14 => dispReg s off
    | _ => 0

/-! ### The NOR window and the system map -/

/-- A byte of a NOR range that holds bytes from its start, erased behind them. -/
def norPut (b : Bytes) (off : Nat) : Byte := nth 0xFF b off

/-- A byte of a sector of 2,048 slots (R543, R548 to R550). -/
def slotsByte (l : List Slot) (off : Nat) : Byte :=
  match l[off / 32]? with | some x => nth 0xFF (slotBytes x) (off % 32) | none => 0xFF

/-- A byte of the NOR (R96); what a provisioning record or parameter store looks like there, and what a spare sector still
holds, is open. -/
def norByte (s : State) (o : Nat) : Byte :=
  let m := s.mgmt
  let r := s.recorder
  let open_ := Config.dramByte s.free (0x20000000 + o)
  let sector := o / 0x10000 - 0x290
  if o < 0x10000 then norPut m.bootA o
  else if o < 0x20000 then norPut m.bootB (o - 0x10000)
  else if o < 0x20800 then norPut s.sec.helper0 (o - 0x20000)
  else if o < 0x21000 then norPut s.sec.helper1 (o - 0x20800)
  else if o < 0x30000 then 0xFF
  else if o < 0xC0000 then open_
  else if o < 0xE0000 then norPut m.aplarA (o - 0xC0000)
  else if o < 0x100000 then norPut m.aplarB (o - 0xE0000)
  else if o < 0x500000 then norPut m.malorA (o - 0x100000)
  else if o < 0x900000 then norPut m.malorB (o - 0x500000)
  else if o < 0x1900000 then norPut m.modelA (o - 0x900000)
  else if o < 0x2900000 then norPut m.modelB (o - 0x1900000)
  else if o < 0x2940000 then slotsByte r.perm (o - 0x2900000)
  else if o < 0x2950000 then slotsByte r.status (o - 0x2940000)
  else if o < 0x2DE0000 then
    match r.circ.find? (fun p => p.sector == sector), r.save.find? (fun p => p.sector == sector) with
    | some p, _ => slotsByte p.slots (o % 0x10000)
    | none, some p => norPut ((p.saves[o % 0x10000 / 512]?).getD []) (o % 512)
    | none, none => open_
  else 0xFF

/-- A byte of the result area, by its BAR2 offset (R38 to R40, R205, R247, R268, R302, R435): buffers, capture slots and the
sub-station table, whose part of the DN7424 alone reads 0 on a DN7421. What lies between them, and behind what a publication
wrote, is open, and so is all of it while DRAM is not served. -/
def resultByte (s : State) (o : Nat) : Byte :=
  let open_ := Config.dramByte s.free o
  let buf := fun (l : List Bytes) (base size : Nat) => nth open_ (nth [] l ((o - base) / size)) ((o - base) % size)
  if isl s 10 != .on then open_
  else if o < 0x1180000 then buf s.est.buf 0x1000000 0x80000
  else if o < 0x1200000 then open_
  else if o < 0x1500000 then buf s.dsp.buf 0x1200000 0x100000
  else if o < 0x1D00000 then slotByte s ((o - 0x1500000) / 0x200000) ((o - 0x1500000) % 0x200000)
  else if 0x1E00000 ≤ o ∧ o < 0x1E00300 then buf (oxq s 0).diag 0x1E00000 0x100
  else if 0x1E00400 ≤ o ∧ o < 0x1E00700 then buf (oxq s 1).diag 0x1E00400 0x100
  else if 0x1F00000 ≤ o ∧ o < 0x1F00000 + 64 * tableSize s then
    nth open_ (entryBytes (entry s ((o - 0x1F00000) / 64))) (o % 64)
  else if 0x1F00000 ≤ o ∧ o < 0x1F40000 then 0
  else open_

/-- The word at an aligned offset of BAR2 (R38, R39). -/
def bar2Word (s : State) (o : Nat) : Nat :=
  if o < 0xF00000 then blockWord s (o / 0x100000) (o % 0x100000)
  else if 0x1000000 ≤ o ∧ o < 0x2000000 then leNat ((upTo 4).map (fun k => resultByte s (o + k)))
  else 0

/-- A word that the management core or a DMA channel reads at an aligned system address: 0 where the access ends with a bus
error (R35, R36). The contents of the boot ROM, of OXMEM and of DRAM outside the resource section are open. -/
def sysWord (s : State) (a : Nat) : Nat :=
  match decodeAddr s a with
  | none => 0
  | some (.block n, off) => blockWord s n off
  | some (.sram, off) => if off < 0x60000 then byteField s.mgmt.code off 4 else Config.openWord s.free a
  | some (.nor, off) => leNat ((upTo 4).map (fun k => norByte s (off + k)))
  | some (.dram, off) => if off < 0x400000 then byteField s.mgmt.resource off 4 else Config.openWord s.free a
  | some (.bootRom, _) => Config.openWord 0 a
  | some (.oxmem, _) => Config.openWord s.free a

/-! ### Reads of any size, and the SPI host port -/

/-- A read of one aligned word, with the side effect that the RTC's time block alone has (R123, R347). -/
def wordRead (bar2 : Bool) (o : Nat) (s : State) : Nat × State :=
  if bar2 then (bar2Word s o, s)
  else (bar0Read s o, if o = 0x300 then rtcFreeze false s else if o = 0x304 then rtcUnfreeze false s else s)

/-- A read of `n` bytes is carried out word by word, lowest offset first (R124): the bytes read. -/
def barRead (bar2 : Bool) : Nat → Nat → Nat → State → Bytes × State
  | 0, _, _, s => ([], s)
  | k + 1, off, n, s =>
    if n = 0 then ([], s)
    else
      let t := min n (4 - off % 4)
      let (w, s) := wordRead bar2 (off / 4 * 4) s
      let (r, s) := barRead bar2 k (off + t) (n - t) s
      (((leBytes 4 w).drop (off % 4)).take t ++ r, s)

/-- A host read of `n` bytes from an offset of BAR0 or BAR2 (R123, R124). -/
def hostRead (bar2 : Bool) (off n : Nat) (s : State) : Bytes × State := barRead bar2 (n + 1) off n s

/-- The number of wait bytes of an SPI read, at most 32 (R127). -/
def spiWaits (s : State) : Nat := Config.spiWait s.free % 33

/-- FRAME_ERR sets (R127). -/
def frameErr (s : State) : State := onHost (fun h => { h with spiFrameErr := true }) s

/-- The words of an SPI write, to consecutive offsets (R126). -/
def spiWrites (bar2 : Bool) : Nat → Nat → Bytes → State → State
  | 0, _, _, s => s
  | k + 1, off, b, s => spiWrites bar2 k (off + 4) (b.drop 4) (registerWrite bar2 off ((b.take 4).map some) s)

/-- An SPI read answers, while the host clocks `n` bytes, with wait bytes, the marker and data words (R126, R127). -/
def spiRead (bar2 : Bool) (off n : Nat) (s : State) : State :=
  let w := spiWaits s
  let (b, s) := hostRead bar2 off (4 * ((n - (w + 1) + 3) / 4)) s.drawn
  send (.spi ((zeros w ++ [0xA5] ++ b).take n)) s

/-- The status byte is returned and FRAME_ERR starts anew (R126). -/
def spiStatus (s : State) : State := onHost (fun h => { h with spiFrameErr := false }) (send (.spi (leBytes 1 (spiStat s.host))) s)

/-- A frame of the SPI host port (R126, R127): an unknown opcode, a frame shorter than its address and a write that ends with a
partial word set FRAME_ERR; the words completed before a partial one are written. -/
def spiFrame (b : Bytes) (s : State) : State :=
  let a := byteField b 1 4
  let off := a % 2 ^ 25
  let bar2 := bit a 28
  match (b.headD 0).toNat with
  | 0x05 => spiStatus s
  | 0x02 =>
    if b.length < 5 then frameErr s
    else
      let n := b.length - 5
      let s := spiWrites bar2 (n / 4) off (b.drop 5) s
      if n % 4 = 0 then s else frameErr s
  | 0x0B => if b.length < 5 then frameErr s else spiRead bar2 off (b.length - 5) s
  | _ => frameErr s

/-- SPI_FRAME_ERROR (R127): a frame of the SPI host port, by its bytes. -/
def execSpiFrameError (s : State) (frame : Bytes := []) : Out := .next (if hostServed s then spiFrame frame s else s)

/-- SPI_STATUS_FRAME (R126). -/
def execSpiStatusFrame (s : State) : Out := .next (if hostServed s then spiStatus s else s)

end Sys2Proof.Machine
end

