-- ==== Sys2Proof/Machine/Dispatch.lean ====
section
/-! DEFINITION. Which command has which meaning: one arm per constructor of Instr, in the table's order. -/

namespace Sys2Proof.Machine

/-- The effect of a command on everything but the queue. -/
def exec (i : Instr) (s : State) : Host.Outcome State Fault Refusal :=
  match i with
  | .porNAssert => Sys2Proof.Machine.execPorNAssert s
  | .porNRelease => Sys2Proof.Machine.execPorNRelease s
  | .pmicPgRise => Sys2Proof.Machine.execPmicPgRise s
  | .mainResetRelease x => Sys2Proof.Machine.execMainResetRelease x s
  | .pgTimeout => Sys2Proof.Machine.execPgTimeout s
  | .pwrEnReassert => Sys2Proof.Machine.execPwrEnReassert s
  | .pmicPgFall => Sys2Proof.Machine.execPmicPgFall s
  | .pfailNFall => Sys2Proof.Machine.execPfailNFall s
  | .pfailQuietTimeout => Sys2Proof.Machine.execPfailQuietTimeout s
  | .xtal25Fail => Sys2Proof.Machine.execXtal25Fail s
  | .pllUnlock pll => Sys2Proof.Machine.execPllUnlock pll s
  | .xtal32Fail => Sys2Proof.Machine.execXtal32Fail s
  | .watchdogExpiry x => Sys2Proof.Machine.execWatchdogExpiry x s
  | .readyTimerExpiry x => Sys2Proof.Machine.execReadyTimerExpiry x s
  | .restartDelayExpiry x => Sys2Proof.Machine.execRestartDelayExpiry x s
  | .wdtKick value => Sys2Proof.Machine.execWdtKick value s
  | .tempThresholdCross temps => Sys2Proof.Machine.execTempThresholdCross temps s
  | .oxPointStepTimer => Sys2Proof.Machine.execOxPointStepTimer s
  | .supplyMonitorFault n mv low => Sys2Proof.Machine.execSupplyMonitorFault n mv low s
  | .loadWindowEnd load => Sys2Proof.Machine.execLoadWindowEnd load s
  | .telemetryAggregation => Sys2Proof.Machine.execTelemetryAggregation s
  | .malorIdleEnter => Sys2Proof.Machine.execMalorIdleEnter s
  | .malorIdleExit => Sys2Proof.Machine.execMalorIdleExit s
  | .powerStateSet m => Sys2Proof.Machine.execPowerStateSet m s
  | .entryStepDone => Sys2Proof.Machine.execEntryStepDone s
  | .wakePinRise => Sys2Proof.Machine.execWakePinRise s
  | .ethLinkWake p => Sys2Proof.Machine.execEthLinkWake p s
  | .canWake c => Sys2Proof.Machine.execCanWake c s
  | .wakeFrame p frame => Sys2Proof.Machine.execWakeFrame p frame s
  | .exitComplete lost => Sys2Proof.Machine.execExitComplete lost s
  | .saveTimerExpiry => Sys2Proof.Machine.execSaveTimerExpiry s
  | .powerOppSet m => Sys2Proof.Machine.execPowerOppSet m s
  | .pmicVackRise => Sys2Proof.Machine.execPmicVackRise s
  | .pmicVackTimeout => Sys2Proof.Machine.execPmicVackTimeout s
  | .pllRelockDone pll => Sys2Proof.Machine.execPllRelockDone pll s
  | .powerClkSpreadSet m => Sys2Proof.Machine.execPowerClkSpreadSet m s
  | .powerWakeTokenSet m => Sys2Proof.Machine.execPowerWakeTokenSet m s
  | .islandWakeDone n => Sys2Proof.Machine.execIslandWakeDone n s
  | .islandPowerdownDone n => Sys2Proof.Machine.execIslandPowerdownDone n s
  | .oxIdleHoldExpiry => Sys2Proof.Machine.execOxIdleHoldExpiry s
  | .oxWakeLead => Sys2Proof.Machine.execOxWakeLead s
  | .mgmtStatusGet m => Sys2Proof.Machine.execMgmtStatusGet m s
  | .mgmtRestart m => Sys2Proof.Machine.execMgmtRestart m s
  | .mgmtConfigSave m => Sys2Proof.Machine.execMgmtConfigSave m s
  | .updateBegin m => Sys2Proof.Machine.execUpdateBegin m s
  | .updateData m => Sys2Proof.Machine.execUpdateData m s
  | .updateFinish m => Sys2Proof.Machine.execUpdateFinish m s
  | .updateActivate m => Sys2Proof.Machine.execUpdateActivate m s
  | .updateCommit m => Sys2Proof.Machine.execUpdateCommit m s
  | .updateAbort m => Sys2Proof.Machine.execUpdateAbort m s
  | .paramRead m => Sys2Proof.Machine.execParamRead m s
  | .paramWrite m => Sys2Proof.Machine.execParamWrite m s
  | .paramTableRead m => Sys2Proof.Machine.execParamTableRead m s
  | .paramTableWrite m => Sys2Proof.Machine.execParamTableWrite m s
  | .paramInfo m => Sys2Proof.Machine.execParamInfo m s
  | .subsysEnable m => Sys2Proof.Machine.execSubsysEnable m s
  | .subsysDisable m => Sys2Proof.Machine.execSubsysDisable m s
  | .subsysStateGet m => Sys2Proof.Machine.execSubsysStateGet m s
  | .subsysCheck m => Sys2Proof.Machine.execSubsysCheck m s
  | .shutdownSequenceEnd sub unit => Sys2Proof.Machine.execShutdownSequenceEnd sub unit s
  | .dbWakeWrite => Sys2Proof.Machine.execDbWakeWrite s
  | .evtStatusWrite n value => Sys2Proof.Machine.execEvtStatusWrite n value s
  | .evtMaskWrite n value => Sys2Proof.Machine.execEvtMaskWrite n value s
  | .ontSnapReqWrite => Sys2Proof.Machine.execOntSnapReqWrite s
  | .spiStatusFrame => Sys2Proof.Machine.execSpiStatusFrame s
  | .pcieLinkDown => Sys2Proof.Machine.execPcieLinkDown s
  | .registerWrite bar2 offset data enables => Sys2Proof.Machine.execRegisterWrite bar2 offset data enables s
  | .wakeLatchClear mask => Sys2Proof.Machine.execWakeLatchClear mask s
  | .pfailLatchClear => Sys2Proof.Machine.execPfailLatchClear s
  | .padGrpCfgWrite n value => Sys2Proof.Machine.execPadGrpCfgWrite n value s
  | .secSessionOpen m => Sys2Proof.Machine.execSecSessionOpen m s
  | .secSessionConfirm m => Sys2Proof.Machine.execSecSessionConfirm m s
  | .secSessionClose m => Sys2Proof.Machine.execSecSessionClose m s
  | .sessionOpeningTimeout k => Sys2Proof.Machine.execSessionOpeningTimeout k s
  | .sessionIdleTimeout k => Sys2Proof.Machine.execSessionIdleTimeout k s
  | .secKeyImport m => Sys2Proof.Machine.execSecKeyImport m s
  | .secKeyClear m => Sys2Proof.Machine.execSecKeyClear m s
  | .secOtpKeySet m => Sys2Proof.Machine.execSecOtpKeySet m s
  | .secKeyRevoke m => Sys2Proof.Machine.execSecKeyRevoke m s
  | .secLifecycleAdvance m => Sys2Proof.Machine.execSecLifecycleAdvance m s
  | .secEnrol m => Sys2Proof.Machine.execSecEnrol m s
  | .secDikGet m => Sys2Proof.Machine.execSecDikGet m s
  | .secCertWrite m => Sys2Proof.Machine.execSecCertWrite m s
  | .secCertCommit m => Sys2Proof.Machine.execSecCertCommit m s
  | .secCertGet m => Sys2Proof.Machine.execSecCertGet m s
  | .secAttest m => Sys2Proof.Machine.execSecAttest m s
  | .drbgHealthFail => Sys2Proof.Machine.execDrbgHealthFail s
  | .modelInfoGet m => Sys2Proof.Machine.execModelInfoGet m s
  | .modelTrialRevert m => Sys2Proof.Machine.execModelTrialRevert m s
  | .modelSubstWrite m => Sys2Proof.Machine.execModelSubstWrite m s
  | .attributePass => Sys2Proof.Machine.execAttributePass s
  | .modelSwitch => Sys2Proof.Machine.execModelSwitch s
  | .modelCopyEcc sectType => Sys2Proof.Machine.execModelCopyEcc sectType s
  | .estimationBoundary => Sys2Proof.Machine.execEstimationBoundary s
  | .oxQqArm q prog iterLimit deadline bench => Sys2Proof.Machine.execOxQqArm q prog iterLimit deadline bench s
  | .oxQqAbort q => Sys2Proof.Machine.execOxQqAbort q s
  | .oxBlockEnd q h calls => Sys2Proof.Machine.execOxBlockEnd q h calls s
  | .blockOverrun q => Sys2Proof.Machine.execBlockOverrun q s
  | .oxJobEnd q dramNs => Sys2Proof.Machine.execOxJobEnd q dramNs s
  | .oxDeadlineReached q => Sys2Proof.Machine.execOxDeadlineReached q s
  | .solverAbortEnd q => Sys2Proof.Machine.execSolverAbortEnd q s
  | .oxDataEcc q kind => Sys2Proof.Machine.execOxDataEcc q kind s
  | .droveAdvanceEnd => Sys2Proof.Machine.execDroveAdvanceEnd s
  | .estPublishDeadline => Sys2Proof.Machine.execEstPublishDeadline s
  | .dispatchBoundary => Sys2Proof.Machine.execDispatchBoundary s
  | .dispatchArm => Sys2Proof.Machine.execDispatchArm s
  | .dispatchDeadline => Sys2Proof.Machine.execDispatchDeadline s
  | .dispatchApply => Sys2Proof.Machine.execDispatchApply s
  | .oxSolveArm m => Sys2Proof.Machine.execOxSolveArm m s
  | .oxAbort m => Sys2Proof.Machine.execOxAbort m s
  | .dispatchInputWrite m => Sys2Proof.Machine.execDispatchInputWrite m s
  | .dispatchInputCommit m => Sys2Proof.Machine.execDispatchInputCommit m s
  | .dispatchStoreSet m => Sys2Proof.Machine.execDispatchStoreSet m s
  | .dispatchStatusGet m => Sys2Proof.Machine.execDispatchStatusGet m s
  | .timeSet m => Sys2Proof.Machine.execTimeSet m s
  | .timeTrgArm m => Sys2Proof.Machine.execTimeTrgArm m s
  | .timeTrgStop m => Sys2Proof.Machine.execTimeTrgStop m s
  | .timeStatusGet m => Sys2Proof.Machine.execTimeStatusGet m s
  | .ptpSyncReceived port origin ingress corr => Sys2Proof.Machine.execPtpSyncReceived port origin ingress corr s
  | .ptpDelayResponse port receipt ingress corr => Sys2Proof.Machine.execPtpDelayResponse port receipt ingress corr s
  | .pdelayReqReceived port ingress req => Sys2Proof.Machine.execPdelayReqReceived port ingress req s
  | .ptpAnnounceReceived port a => Sys2Proof.Machine.execPtpAnnounceReceived port a s
  | .announceReceiptTimeout port => Sys2Proof.Machine.execAnnounceReceiptTimeout port s
  | .ptpMessageInterval port kind => Sys2Proof.Machine.execPtpMessageInterval port kind s
  | .servoHoldoverTimeout => Sys2Proof.Machine.execServoHoldoverTimeout s
  | .holdLockedExpiry => Sys2Proof.Machine.execHoldLockedExpiry s
  | .triggerFire unit => Sys2Proof.Machine.execTriggerFire unit s
  | .triggerPulseEnd unit => Sys2Proof.Machine.execTriggerPulseEnd unit s
  | .captureEdge unit e => Sys2Proof.Machine.execCaptureEdge unit e s
  | .rtcCtrlWrite value mgmt => Sys2Proof.Machine.execRtcCtrlWrite value mgmt s
  | .rtcTimeWrite reg value => Sys2Proof.Machine.execRtcTimeWrite reg value s
  | .rtcTime0Read mgmt => Sys2Proof.Machine.execRtcTime0Read mgmt s
  | .rtcTime1Read mgmt => Sys2Proof.Machine.execRtcTime1Read mgmt s
  | .rtcFreezeExpiry mgmt => Sys2Proof.Machine.execRtcFreezeExpiry mgmt s
  | .rtcAlmCtrlWrite n value => Sys2Proof.Machine.execRtcAlmCtrlWrite n value s
  | .rtcAlarm n => Sys2Proof.Machine.execRtcAlarm n s
  | .rtcEnd => Sys2Proof.Machine.execRtcEnd s
  | .rtcTrimCheck => Sys2Proof.Machine.execRtcTrimCheck s
  | .loopSample n => Sys2Proof.Machine.execLoopSample n s
  | .followingErrorTimeout n => Sys2Proof.Machine.execFollowingErrorTimeout n s
  | .loopStartTimeout n => Sys2Proof.Machine.execLoopStartTimeout n s
  | .loopMemoryEcc n off => Sys2Proof.Machine.execLoopMemoryEcc n off s
  | .loopSpSet m => Sys2Proof.Machine.execLoopSpSet m s
  | .loopClear m => Sys2Proof.Machine.execLoopClear m s
  | .axisTick n din => Sys2Proof.Machine.execAxisTick n din s
  | .homingDistFault n => Sys2Proof.Machine.execHomingDistFault n s
  | .standstillDelayExpiry n => Sys2Proof.Machine.execStandstillDelayExpiry n s
  | .standstillPowerupDone n => Sys2Proof.Machine.execStandstillPowerupDone n s
  | .coarseStepEdge k x => Sys2Proof.Machine.execCoarseStepEdge k x s
  | .encoderEdge e x => Sys2Proof.Machine.execEncoderEdge e x s
  | .axisMemoryEcc n => Sys2Proof.Machine.execAxisMemoryEcc n s
  | .motMove m => Sys2Proof.Machine.execMotMove m s
  | .motStop m => Sys2Proof.Machine.execMotStop m s
  | .motHome m => Sys2Proof.Machine.execMotHome m s
  | .motGearArm m => Sys2Proof.Machine.execMotGearArm m s
  | .motClear m => Sys2Proof.Machine.execMotClear m s
  | .logicScan din => Sys2Proof.Machine.execLogicScan din s
  | .logicMemoryEcc => Sys2Proof.Machine.execLogicMemoryEcc s
  | .logicModeSet m => Sys2Proof.Machine.execLogicModeSet m s
  | .logicStep m => Sys2Proof.Machine.execLogicStep m s
  | .logicHostBits m => Sys2Proof.Machine.execLogicHostBits m s
  | .logicTrialRevert m => Sys2Proof.Machine.execLogicTrialRevert m s
  | .sdOutputInstant k raw reset => Sys2Proof.Machine.execSdOutputInstant k raw reset s
  | .refSettleStep step => Sys2Proof.Machine.execRefSettleStep step s
  | .refFault => Sys2Proof.Machine.execRefFault s
  | .calibrationDue k => Sys2Proof.Machine.execCalibrationDue k s
  | .calStepDone a b => Sys2Proof.Machine.execCalStepDone a b s
  | .mismatchWindowEnd w loud est => Sys2Proof.Machine.execMismatchWindowEnd w loud est s
  | .waveCoefSave => Sys2Proof.Machine.execWaveCoefSave s
  | .captureTrigger w trigOnt pos x => Sys2Proof.Machine.execCaptureTrigger w trigOnt pos x s
  | .captureComplete w samples full => Sys2Proof.Machine.execCaptureComplete w samples full s
  | .adcWaveCapture m => Sys2Proof.Machine.execAdcWaveCapture m s
  | .adcWaveStop m => Sys2Proof.Machine.execAdcWaveStop m s
  | .adcCalNow m => Sys2Proof.Machine.execAdcCalNow m s
  | .adcClear m => Sys2Proof.Machine.execAdcClear m s
  | .meterStep => Sys2Proof.Machine.execMeterStep s
  | .pulseTimer n => Sys2Proof.Machine.execPulseTimer n s
  | .meterMemoryEcc kind index => Sys2Proof.Machine.execMeterMemoryEcc kind index s
  | .meterSnapshot m => Sys2Proof.Machine.execMeterSnapshot m s
  | .meterLossGet m => Sys2Proof.Machine.execMeterLossGet m s
  | .meterAccSet m => Sys2Proof.Machine.execMeterAccSet m s
  | .canFrameReceived c f => Sys2Proof.Machine.execCanFrameReceived c f s
  | .canFrameTransmitted c ts delay => Sys2Proof.Machine.execCanFrameTransmitted c ts delay s
  | .canBusError c kind dataPhase px tecInc recInc => Sys2Proof.Machine.execCanBusError c kind dataPhase px tecInc recInc s
  | .canPeriodicTrigger c o => Sys2Proof.Machine.execCanPeriodicTrigger c o s
  | .canIntegrationDone c => Sys2Proof.Machine.execCanIntegrationDone c s
  | .canRecoveryDone c => Sys2Proof.Machine.execCanRecoveryDone c s
  | .canRecoveryTimeout c seqs => Sys2Proof.Machine.execCanRecoveryTimeout c seqs s
  | .canStopCut c => Sys2Proof.Machine.execCanStopCut c s
  | .canObjectEcc c o => Sys2Proof.Machine.execCanObjectEcc c o s
  | .canObjWrite m => Sys2Proof.Machine.execCanObjWrite m s
  | .canRecover m => Sys2Proof.Machine.execCanRecover m s
  | .telemetryDatagram p frame => Sys2Proof.Machine.execTelemetryDatagram p frame s
  | .netAddressRequest p header payload fcs => Sys2Proof.Machine.execNetAddressRequest p header payload fcs s
  | .frameDiscarded p frame => Sys2Proof.Machine.execFrameDiscarded p frame s
  | .ethLinkChange p up speed => Sys2Proof.Machine.execEthLinkChange p up speed s
  | .bcastRepeatTimer => Sys2Proof.Machine.execBcastRepeatTimer s
  | .pairGrantEdge level => Sys2Proof.Machine.execPairGrantEdge level s
  | .holdExpiry => Sys2Proof.Machine.execHoldExpiry s
  | .heartbeatToggle => Sys2Proof.Machine.execHeartbeatToggle s
  | .ctrlFrameTimer => Sys2Proof.Machine.execCtrlFrameTimer s
  | .mirrorCapture => Sys2Proof.Machine.execMirrorCapture s
  | .straitFrameReceived f => Sys2Proof.Machine.execStraitFrameReceived f s
  | .straitTimeout => Sys2Proof.Machine.execStraitTimeout s
  | .pairStatusGet m => Sys2Proof.Machine.execPairStatusGet m s
  | .pairFailSet m => Sys2Proof.Machine.execPairFailSet m s
  | .pairResync m => Sys2Proof.Machine.execPairResync m s
  | .recorderFlush => Sys2Proof.Machine.execRecorderFlush s
  | .norSectorFail ring pos cause => Sys2Proof.Machine.execNorSectorFail ring pos cause s
  | .relocation => Sys2Proof.Machine.execRelocation s
  | .staticLevelling ring pos => Sys2Proof.Machine.execStaticLevelling ring pos s
  | .recRead m => Sys2Proof.Machine.execRecRead m s
  | .recVerify m => Sys2Proof.Machine.execRecVerify m s
  | .recStatusGet m => Sys2Proof.Machine.execRecStatusGet m s
  | .dispImageWrite m => Sys2Proof.Machine.execDispImageWrite m s
  | .dispUpdate m => Sys2Proof.Machine.execDispUpdate m s
  | .dispTempSet m => Sys2Proof.Machine.execDispTempSet m s
  | .railGood => Sys2Proof.Machine.execRailGood s
  | .vcomSettleDone => Sys2Proof.Machine.execVcomSettleDone s
  | .railTimeout fb => Sys2Proof.Machine.execRailTimeout fb s
  | .railLost rail fb => Sys2Proof.Machine.execRailLost rail fb s
  | .displayFrameEnd => Sys2Proof.Machine.execDisplayFrameEnd s
  | .railHoldExpiry => Sys2Proof.Machine.execRailHoldExpiry s
  | .dischargeStepDone => Sys2Proof.Machine.execDischargeStepDone s
  | .dischargeRailTimeout fb => Sys2Proof.Machine.execDischargeRailTimeout fb s
  | .dramError ch addr => Sys2Proof.Machine.execDramError ch addr s
  | .scrubUncorrectable store x => Sys2Proof.Machine.execScrubUncorrectable store x s
  | .busError addr => Sys2Proof.Machine.execBusError addr s
  | .xtal32Return => Sys2Proof.Machine.execXtal32Return s
  | .pfailNRise => Sys2Proof.Machine.execPfailNRise s
  | .ptpDelayReqReceived port ingress req => Sys2Proof.Machine.execPtpDelayReqReceived port ingress req s
  | .pcieLinkTrained => Sys2Proof.Machine.execPcieLinkTrained s
  | .pcieConfigWrite r value enables => Sys2Proof.Machine.execPcieConfigWrite r value enables s
  | .spiFrameError frame => Sys2Proof.Machine.execSpiFrameError s frame
  | .unknownCommand cmd m => Sys2Proof.Machine.execUnknownCommand cmd m s
  | .mgmtCodeFault x => Sys2Proof.Machine.execMgmtCodeFault x s
  | .keyCacheRefillDone pos => Sys2Proof.Machine.execKeyCacheRefillDone pos s
  | .oxScheduleReloadDone => Sys2Proof.Machine.execOxScheduleReloadDone s
  | .loopCoefRewriteDone n => Sys2Proof.Machine.execLoopCoefRewriteDone n s
  | .axisConfigRewriteDone n => Sys2Proof.Machine.execAxisConfigRewriteDone n s
  | .meterConfigRewriteDone m => Sys2Proof.Machine.execMeterConfigRewriteDone m s

end Sys2Proof.Machine
end

