-- ==== Sys2Proof/Machine/Tick.lean ====
section
/-! DEFINITION. What one idle step does: one period of the 125 MHz clock passes (log 2). -/

namespace Sys2Proof.Machine

/-- The 32.768 kHz crystal against the 125 MHz period: AON counts a tick and the RTC an edge whenever one falls in the
period (R78, R342). -/
def aonClock (s : State) : State :=
  let ph := s.power.tickPhase + 32768
  if ph < 125000000 then onPower (fun p => { p with tickPhase := ph }) s
  else rtcEdge (onPower (fun p => { p with tickPhase := ph - 125000000, aonTick := p.aonTick + 1 }) s)

/-- The state changes that EV_LOOP_STATE and EV_MOTION_STATE still owe are reported once their 100 ms are over
(R369, R400). -/
def changesReported (s : State) : State :=
  let s := (upTo 32).foldl (fun s n => loopEvent n s) s
  (upTo 16).foldl (fun s n => axisEvent n s) s

/-- The network time unit counts one period while its island has its clock (R313, R314). -/
def netClock (s : State) : State :=
  if plantRuns s then
    changesReported { s with time := ontTick s.time, power := { s.power with netTick := s.power.netTick + 1 } }
  else s

/-- One idle step: the clocks advance by one period; nothing runs while the part is held in reset (R47). -/
def idleTick (s : State) : State := if s.power.phase = .porLow then s else aonClock (netClock s)

end Sys2Proof.Machine
end

