-- ==== Sys2Proof/Machine/Serve.lean ====
section
/-! DEFINITION. The mailbox commands by their codes, and the service of those that stand rung in the mailboxes (R133, R134). -/

namespace Sys2Proof.Machine

/-- The effect of a mailbox command by its code (R141); no other code is known (R139). -/
def mailBody (cmd : Nat) (m : Mail) (s : State) : Answer :=
  match cmd with
  | 0x0100 => mgmtStatusGet m.payload s
  | 0x0102 => mgmtRestart m.payload s
  | 0x0104 => configSave m.payload s
  | 0x0120 => updateBegin m.payload s
  | 0x0121 => updateData m.payload s
  | 0x0122 => updateFinish m.payload s
  | 0x0123 => updateActivate m.payload s
  | 0x0124 => updateCommit m.payload s
  | 0x0125 => updateAbort m.payload s
  | 0x0201 => subsysEnableCmd m s
  | 0x0202 => subsysDisableCmd m.payload s
  | 0x0203 => subsysStateGet m.payload s
  | 0x0204 => subsysCheck m.payload s
  | 0x0210 => paramRead m.payload s
  | 0x0211 => paramWrite m.payload s
  | 0x0212 => paramTableRead m.payload s
  | 0x0213 => paramTableWrite m.payload s
  | 0x0214 => paramInfo m.payload s
  | 0x0310 => secBody 0x0310 (sessionOpen m.payload) s
  | 0x0311 => secBody 0x0311 (sessionConfirm m.payload) s
  | 0x0312 => secBody 0x0312 (sessionClose m) s
  | 0x0320 => secBody 0x0320 (lifecycleAdvance m.payload) s
  | 0x0321 => secBody 0x0321 (otpKeySet m.payload) s
  | 0x0322 => secBody 0x0322 (keyRevoke m.payload) s
  | 0x0323 => secBody 0x0323 (enrol m.payload) s
  | 0x0330 => secBody 0x0330 (keyImport m) s
  | 0x0331 => secBody 0x0331 (keyClear m.payload) s
  | 0x0340 => secBody 0x0340 (attest m.payload) s
  | 0x0341 => secBody 0x0341 (certGet m.payload) s
  | 0x0342 => secBody 0x0342 (certWrite m.payload) s
  | 0x0343 => secBody 0x0343 (certCommit m.payload) s
  | 0x0344 => secBody 0x0344 (dikGet m.payload) s
  | 0x0410 => powerStateSet m.payload s
  | 0x0411 => powerOppSet m.payload s
  | 0x0413 => powerTokenSet m.payload s
  | 0x0414 => powerSpreadSet m.payload s
  | 0x0500 => timeStatusGet m.payload s
  | 0x0510 => timeSet m.payload s
  | 0x0520 => trgArm m.payload s
  | 0x0521 => trgStop m.payload s
  | 0x0710 => oxSolveArm m.payload s
  | 0x0711 => oxAbort m.payload s
  | 0x0800 => modelInfoGet m.payload s
  | 0x0802 => modelTrialRevert m.payload s
  | 0x0810 => substWrite m.payload s
  | 0x0910 => inputWrite m.payload s
  | 0x0911 => inputCommit m.payload s
  | 0x0912 => storeSet m.payload s
  | 0x0913 => dispatchStatusGet m.payload s
  | 0x0A10 => loopSpSet m.payload s
  | 0x0A11 => loopClear m.payload s
  | 0x0B10 => motMove m.payload s
  | 0x0B11 => motStop m.payload s
  | 0x0B12 => motHome m.payload s
  | 0x0B13 => motGearArm m.payload s
  | 0x0B14 => motClear m.payload s
  | 0x0C10 => logicModeSet m.payload s
  | 0x0C11 => logicStep m.payload s
  | 0x0C12 => logicHostBits m.payload s
  | 0x0C15 => logicTrialRevert m.payload s
  | 0x0D10 => waveCapture m.payload s
  | 0x0D11 => waveStop m.payload s
  | 0x0D12 => calNow m.payload s
  | 0x0D13 => adcClear m.payload s
  | 0x0E10 => meterSnapshot m s
  | 0x0E11 => meterLossGet m.payload s
  | 0x0E12 => meterAccSet m.payload s
  | 0x0F10 => canObjWrite m.payload s
  | 0x0F11 => canRecover m.seq m.payload s
  | 0x1110 => pairStatusGet m.payload s
  | 0x1111 => pairFailSet m.payload s
  | 0x1112 => pairResync m.payload s
  | 0x1200 => recStatusGet m.payload s
  | 0x1210 => recRead m.payload s
  | 0x1211 => recVerify m.payload s
  | 0x1310 => imageWrite m.payload s
  | 0x1311 => dispUpdate m.payload s
  | 0x1312 => dispTempSet m.payload s
  | _ => refuse s 0x020B

/-- The command whose turn it is among those that the mailboxes hold rung, through DB_RING or since nothing served them
(R133, R134): its mailbox. -/
def mailDue (s : State) : Option Nat := if served s then mailNext s else none

/-- A step without a command from outside: Malor takes the mailbox command whose turn it is; where there is none, one tick
of the clocks passes (log 2, log 3). -/
def idleStep (s : State) : State :=
  match mailDue s with
  | some k => takeCmd (boxCmd s k) (boxMail s k) (mailBody (boxCmd s k) (boxMail s k)) s
  | none => idleTick s

end Sys2Proof.Machine
end

