-- ==== Sys2Proof/Safety.lean ====
section
/-! DEFINITION. What counts as a safe run of the block, and the words in which claims speak of commands: a command that is
let through, and the answer it then gets. -/

namespace Sys2Proof.Machine

/-- A step is safe when it answers a next state: nothing the outside does stops the block. -/
def SafeStep (s : State) : Prop := ∃ t, step s = .next t

/-- The state in which a rung command executes: of an authenticated command its session has accepted the SEQ (R137). -/
def takenState (cmd : Nat) (m : Mail) (s : State) : State :=
  match (if mailAuth m then sessionNo (ring cmd m s) m.session else none) with
  | some k => sessionAccept k m.seq (ring cmd m s)
  | none => ring cmd m s

/-- Steps 4 to 6 of R139 pass: no tag, or an open session, the right tag and a SEQ above those accepted. -/
def sessionPasses (cmd : Nat) (m : Mail) (r : State) : Bool :=
  !mailAuth m || match sessionNo r m.session with
    | none => false
    | some k =>
      slotOk r (12 + 2 * k) 2 && Config.gmac (sessionMac r k) (mailIv m 0) (headerBytes cmd m ++ m.payload) == m.tag &&
        decide (sessionSeq r k < m.seq)

/-- The block answers the command: it reaches Malor, steps 1 to 9 of R139 pass and no stored response matches (R135). -/
def taken (cmd : Nat) (m : Mail) (s : State) : Bool :=
  mailReaches cmd m s && mailFormOk m && knownCmds.contains cmd && (storedMatch cmd m (ring cmd m s)).isNone &&
    sessionPasses cmd m (ring cmd m s) && (mailAuth m || !needsSession (takenState cmd m s) cmd m.payload) &&
    !((takenState cmd m s).mgmt.minimal && !(minimalCmds (takenState cmd m s)).contains cmd) &&
    !mailShed (takenState cmd m s) cmd m.payload

/-- The outcome of a command that leaves the state `t` and is answered with STATUS 0 and a payload (R132, R133). -/
def answers (cmd : Nat) (m : Mail) (s t : State) (payload : Bytes) : Out :=
  .next (respond (ring cmd m s) cmd m (done t payload))

/-- The outcome of a command refused with a reason and PARAM_ID, which leaves the state `t` (R139). -/
def refuses (cmd : Nat) (m : Mail) (s t : State) (reason paramId : Nat) : Out :=
  .next (respond (ring cmd m s) cmd m (refuse t reason paramId))

/-- What left the part other than the MSI-X messages that any raised event may add, latest first. -/
def outSent (s : State) : List OutMsg :=
  s.host.sent.filter (fun m => match m with | .msix _ _ _ => false | _ => true)

/-- The frequency of either rail does not exceed what the voltage last acknowledged allows (R84). -/
def OppOrdered (s : State) : Prop := s.power.oppOx ≤ s.power.voltOx ∧ s.power.oppSoc ≤ s.power.voltSoc

/-- The record buffer holds at most 2,048 records, and no mailbox is owned by the part and done at once
(R133, R544, R545). -/
def HostRecOk (s : State) : Prop := s.recorder.buf.length ≤ 2048 ∧ s.host.owner &&& s.host.done = 0

end Sys2Proof.Machine
end

