-- ==== Sys2Proof/Certificates/Slice0/Obligations.lean ====
section
/-! DEFINITION. The statements for the provers, over the commands of every family and every kind of state. -/

open Sys2Proof Sys2Proof.Machine

/-- With a command at the front of its queue, a step is exec of that command on the state with the queue's rest. On an empty queue Malor takes
the rung mailbox command whose turn it is, and where there is none one period of 125 MHz passes (the model's choice, logs 2 and 3): ONT, the AON tick and the RTC may move; while no state change of a loop
or axis waits to be reported, registers, parameters and outputs stand. -/
def Obligations.StepRunsFrontCommand : Prop :=
  (∀ (c : Instr) (s : State) (rest : List Instr), s.pending = c :: rest → step s = exec c { s with pending := rest }) ∧
  (∀ (s : State) (k : Nat), s.pending = [] → mailDue s = some k →
    step s = .next (takeCmd (boxCmd s k) (boxMail s k) (mailBody (boxCmd s k) (boxMail s k)) s)) ∧
  (∀ (s : State) (k : Nat), mailDue s = some k → served s = true ∧ k ∈ s.host.rung ∧ s.host.waiting.contains k = false) ∧
  (∀ s : State, s.pending = [] → mailDue s = none → s.power.phase = .porLow → step s = .next s) ∧
  (∀ s : State, s.pending = [] → mailDue s = none → s.power.phase ≠ .porLow → (∀ x ∈ s.loops, x.changes = 0) → (∀ x ∈ s.axes, x.changes = 0) → ∃ t, step s = .next t ∧ t.pending = [] ∧ t.loops = s.loops ∧
    t.axes = s.axes ∧ t.logic = s.logic ∧ t.can = s.can ∧ t.adc = s.adc ∧ t.meter = s.meter ∧ t.disp = s.disp ∧ t.sec = s.sec ∧
    t.host.params = s.host.params ∧ t.host.mbox = s.host.mbox ∧ t.power.netTick = s.power.netTick + b2n (plantRuns s) ∧
    (t.power.aonTick = s.power.aonTick ∨ t.power.aonTick = s.power.aonTick + 1))

/-- Reset. With POR_N low nothing waits, the supplies are off, the plant does not run and no command is served; the registers read what their tables give
as reset; no mailbox is owned or done, and the two invariants of every step hold. -/
def Obligations.ResetState : Prop :=
  State.reset.pending = [] ∧ State.reset.power.phase = .porLow ∧ State.reset.power.pwrEn = false ∧ plantRuns State.reset = false ∧
  served State.reset = false ∧ State.reset.host.evtStatus = 0 ∧ State.reset.host.evtMask = BitVec.allOnes 128 ∧ State.reset.host.owner = 0 ∧
  State.reset.host.done = 0 ∧ State.reset.host.ready = false ∧ State.reset.power.wakeEn = 1 ∧ State.reset.power.pfCause = 0 ∧
  timeStatus State.reset.time = 0 ∧ rtcTime0 State.reset.rtc.time = 0 ∧ rtcTime1 State.reset.rtc.time = 0x000101A0 ∧
  State.reset.rtc.halt = true ∧ rtcStat State.reset = 4 ∧ bootState State.reset.mgmt = 0 ∧ bootFail State.reset.mgmt = 0 ∧
  State.reset.recorder.seqAon = 0 ∧ State.reset.recorder.buf = [] ∧ State.reset.recorder.circ.length = 33 ∧
  State.reset.recorder.save.length = 8 ∧ State.reset.recorder.spare.length = 32 ∧ dispStatus State.reset.disp = 0 ∧
  dispRails State.reset.disp = 0xF0 ∧ State.reset.loops.length = 32 ∧ State.reset.axes.length = 16 ∧ State.reset.can.length = 4 ∧
  OppOrdered State.reset ∧ HostRecOk State.reset

/-- Every step of every state completes: no command of any kind stops the block. The step takes exactly the command at the front of the queue, so no
command reorders, drops or adds one. And where the frequencies of both rails did not exceed what the voltages acknowledged allow, they do not after it. -/
def Obligations.StepKeepsQueueAndRails : Prop :=
  ∀ s : State, ∃ t, step s = .next t ∧ t.pending = s.pending.tail ∧ (OppOrdered s → OppOrdered t)

/-- In every step the record buffer stays within its 2,048 slots, whichever command runs and however many events it raises, and no mailbox is at once
owned by the part and done. -/
def Obligations.StepKeepsRecordsAndMailboxes : Prop :=
  ∀ s t : State, HostRecOk s → step s = .next t → HostRecOk t

/-- The supply sequence of R51 to R53. POR_N low resets the part, AON included, and leaves NOR, OTP and the pair grant.
POR_N high asserts PWR_EN; PMIC_PG high lets main reset go; a timeout drops PWR_EN and sets PG_TIMEOUT, and PWR_EN is
asserted again. A fall of PMIC_PG while PWR_EN is high, or a 25 MHz failure once the oscillator was stable, latches its
cause, drops PWR_EN and resets every island but AON: the calendar and OTP are left, the event registers return to their
reset values. -/
def Obligations.SupplySequence : Prop :=
  (∀ s : State, ∃ t, exec .porNAssert s = .next t ∧ t.power.phase = .porLow ∧ t.power.pwrEn = false ∧ t.rtc = {} ∧
    t.power.wakeLatch = 0 ∧ t.power.pfCause = 0 ∧ bootState t.mgmt = 0 ∧ t.disp = {} ∧ t.sec.otp = s.sec.otp ∧
    t.mgmt.bootA = s.mgmt.bootA ∧ t.mgmt.bootB = s.mgmt.bootB ∧ t.mgmt.malorA = s.mgmt.malorA ∧
    t.pair.grant = s.pair.grant ∧ t.pending = s.pending) ∧
  (∀ s : State, s.power.phase = .porLow →
    exec .porNRelease s = .next { s with power := { s.power with phase := .waitPg, pwrEn := true } }) ∧
  (∀ s : State, s.power.phase = .waitPg →
    exec .pmicPgRise s = .next { s with power := { s.power with phase := .waitXtal, pmicPg := true } }) ∧
  (∀ s : State, s.power.phase = .waitPg →
    exec .pgTimeout s = .next { s with power := { s.power with phase := .waitRetry 1, pwrEn := false, pgTimeout := true } }) ∧
  (∀ (s : State) (n : Nat), s.power.phase = .waitRetry n →
    exec .pwrEnReassert s = .next { s with power := { s.power with phase := .waitPg, pwrEn := true } }) ∧
  (∀ s : State, s.power.pwrEn = true → s.power.pmicPg = true → ∃ t, exec .pmicPgFall s = .next t ∧
    t.power.phase = .waitRetry 1 ∧ t.power.pwrEn = false ∧ bit t.power.pfCause 1 = true ∧ t.rtc.time = s.rtc.time ∧
    t.rtc.alarms = s.rtc.alarms ∧ t.sec.otp = s.sec.otp ∧ t.host.evtStatus = 0 ∧ t.host.owner = 0 ∧
    t.mgmt.bootA = s.mgmt.bootA ∧ t.power.wakeEn = s.power.wakeEn ∧ t.power.wakeToken = s.power.wakeToken) ∧
  (∀ s : State, (s.power.phase = .up ∨ s.power.phase = .mainReset) → ∃ t, exec .xtal25Fail s = .next t ∧
    t.power.phase = .waitRetry 1 ∧ t.power.pwrEn = false ∧ bit t.power.pfCause 2 = true ∧ t.rtc.time = s.rtc.time ∧
    t.sec.otp = s.sec.otp ∧ t.host.evtStatus = 0)

/-- The power-fail latch. The first cause of an incident, here PFAIL_N, sets its CAUSE bit, FIRST and PFAIL_ONT; a later
cause of the incident sets its bit alone; a first cause while FIRST is still set adds OVF and leaves FIRST and PFAIL_ONT.
PFAIL_N back high for 100 ms with no other cause raises EV_POWER_PFAIL with the latch and clears it, as a write of 0 to
FIRST does. -/
def Obligations.PowerFailLatch : Prop :=
  (∀ s : State, s.power.phase ≠ .porLow → s.power.pfailN = true → ∃ t, exec .pfailNFall s = .next t ∧
    t.power.pfailN = false ∧ bit t.power.pfCause 0 = true ∧ t.power.pfIncident = true ∧
    (s.power.pfIncident = false → s.power.pfFirst = 0 → t.power.pfFirst = 1 ∧ t.power.pfOnt = ontAon s ∧
      t.power.pfOvf = s.power.pfOvf) ∧
    (s.power.pfIncident = true → t.power.pfFirst = s.power.pfFirst ∧ t.power.pfOnt = s.power.pfOnt ∧
      t.power.pfOvf = s.power.pfOvf) ∧
    (s.power.pfIncident = false → s.power.pfFirst ≠ 0 → t.power.pfOvf = true ∧ t.power.pfFirst = s.power.pfFirst ∧
      t.power.pfOnt = s.power.pfOnt) ∧
    t.host = s.host ∧ t.recorder = s.recorder ∧ t.meter = s.meter ∧ t.rtc = s.rtc) ∧
  (∀ s : State, exec .pfailNRise s = .next { s with power := { s.power with pfailN := true } }) ∧
  (∀ s : State, malorWorks s = true → s.power.pfailN = true → s.power.pfCause = 1 →
    exec .pfailQuietTimeout s = .next (latchClear (raise 0x0412 17 (pfailLatch s.power) (s.power.pfOnt % 2 ^ 32)
      (s.power.pfOnt / 2 ^ 32) s))) ∧
  (∀ s : State, malorWorks s = true → ∃ t, exec .pfailLatchClear s = .next t ∧ pfailLatch t.power = 0 ∧
    t.power.pfIncident = false ∧ t.power.pfOnt = s.power.pfOnt ∧ t.host = s.host ∧ t.mgmt = s.mgmt)

/-- The 32.768 kHz crystal. Its loss stops the RTC where it stands, sets XTAL_SLIP and raises EV_POWER_XTAL32_FAIL; when
it returns, an RTC that is not halted counts again from that value. An idle step that takes no command moves the reading
by no more than two ticks of a second, and by none while the crystal is absent. -/
def Obligations.Crystal32 : Prop :=
  (∀ s : State, s.power.phase ≠ .porLow → ∃ t, exec .xtal32Fail s = .next t ∧ rtcRunning t = false ∧
    t.rtc.time = s.rtc.time ∧ bit (rtcStat t) 3 = true ∧ t.rtc.alarms = s.rtc.alarms ∧ t.time = s.time ∧
    (writerRuns s = true → s.recorder.ramOnly = false → s.recorder.buf.length < 2048 →
      t.recorder.buf.length = s.recorder.buf.length + 1)) ∧
  (∀ s : State, exec .xtal32Return s = .next { s with power := { s.power with xtal32 := true } }) ∧
  (∀ s t : State, s.pending = [] → mailDue s = none → s.power.xtal32 = false → step s = .next t → t.rtc = s.rtc) ∧
  (∀ s t : State, s.pending = [] → mailDue s = none → step s = .next t → s.rtc.time.tick + 2 < 32768 →
    t.rtc.time = { s.rtc.time with tick := t.rtc.time.tick } ∧ s.rtc.time.tick ≤ t.rtc.time.tick ∧
      t.rtc.time.tick ≤ s.rtc.time.tick + 2)

/-- Main reset released: the straps are sampled, the power-fail incident ends, the watchdog is armed with 2,000 ms, and the
full start runs from there; a start with CNT already 3 enters MINIMAL, and step 9 makes the part READY and clears the boot
counter. A watchdog expiry counts in WDT_COUNT and BOOT_FAIL, the ready timer
and a code fault (a fetch outside the code region, or with an uncorrectable error in it) write their reasons, and each resets
MGMT alone and runs the warm start: with a start that stalls before its first step ends (StartIn.stall = 0), so that the
reset itself shows, the plant's loops, axes, logic and meters stand as they stood, and no command service runs.
MGMT_RESTART's delay ends in the same reset or, in mode 1, in a main reset. The watchdog's count restarts only on the key. -/
def Obligations.ResetsAndStarts : Prop :=
  (∀ (s : State) (x : StartIn), s.power.phase = .waitXtal ∨ s.power.phase = .mainReset →
    exec (.mainResetRelease x) s = .next (startFull x (afterRelease x s))) ∧
  (∀ (u : State) (x : StartIn), startGoes x 15 u = true → u.mgmt.warm = false →
    (startStep x 15 (start9 x) u).host.ready = true ∧ (startStep x 15 (start9 x) u).mgmt.cnt = 0 ∧
      (startStep x 15 (start9 x) u).mgmt.inStart = false ∧ (startStep x 15 (start9 x) u).mgmt.stage = 15 ∧
      (startStep x 15 (start9 x) u).mgmt.readyTimer = false) ∧
  (∀ (s : State) (x : StartIn), s.power.phase = .waitXtal ∨ s.power.phase = .mainReset → x.stall = 0 →
    ∃ t, exec (.mainResetRelease x) s = .next t ∧ t.power.phase = .up ∧ t.power.norOctal = x.octal ∧
      t.power.unitB = x.unitB ∧ t.power.pfIncident = false ∧ t.mgmt.wdtTimeout = 2000 ∧ t.mgmt.wdtEn = true ∧
      t.power.isl = [.on, .on, .off, .on, .off, .on, .on, .off, .off, .on, .off, .off] ∧ t.mgmt.warm = false ∧
      t.power.cur = .run ∧ t.time = s.time ∧ t.rtc = s.rtc ∧ t.host = s.host) ∧
  (∀ (s : State) (x : StartIn), s.power.phase = .waitXtal ∨ s.power.phase = .mainReset → 1 ≤ x.stall →
    lifecycle s ≠ 3 → s.mgmt.cnt = 3 →
    ∃ t, exec (.mainResetRelease x) s = .next t ∧ t.mgmt.minimal = true ∧ t.mgmt.minReason = 0x0120 ∧
      t.host.minimal = true ∧ t.host.ready = false ∧ t.mgmt.malorRuns = false ∧ t.host.hostif = 0x0100 ∧
      t.mgmt.readyTimer = false ∧ t.mgmt.cnt = 3) ∧
  (∀ (s : State) (x : StartIn), inRun s = true → s.mgmt.wdtEn = true →
    exec (.watchdogExpiry x) s = .next (startWarm x (mgmtReset (pairWdt (bootFailOnce 0x0111 { s with mgmt := { s.mgmt with
      wdtCount := satInc 16 s.mgmt.wdtCount, wdtReport := true } }))))) ∧
  (∀ (s : State) (x : StartIn), inRun s = true → s.mgmt.wdtEn = true → x.stall = 0 →
    ∃ t, exec (.watchdogExpiry x) s = .next t ∧ t.mgmt.wdtCount = satInc 16 s.mgmt.wdtCount ∧ t.mgmt.wdtReport = true ∧
      (s.mgmt.failWritten = false → bootFail t.mgmt = 0x0111 + 65536 * s.mgmt.stage) ∧
      (s.mgmt.failWritten = true → bootFail t.mgmt = bootFail s.mgmt) ∧
      t.mgmt.malorRuns = false ∧ t.host.ready = false ∧ t.host.hostif = 0 ∧ t.mgmt.warm = true ∧
      t.loops = s.loops ∧ t.axes = s.axes ∧ t.logic = s.logic ∧ t.meter = s.meter ∧ t.time = s.time ∧
      t.host.mbox = s.host.mbox ∧ t.host.owner = s.host.owner) ∧
  (∀ (s : State) (x : StartIn), inRun s = true → s.mgmt.readyTimer = true →
    exec (.readyTimerExpiry x) s = .next (startWarm x (mgmtReset (bootFailWrite 0x0112 s)))) ∧
  (∀ (s : State) (x : StartIn), inRun s = true → s.mgmt.readyTimer = true → x.stall = 0 →
    ∃ t, exec (.readyTimerExpiry x) s = .next t ∧ bootFail t.mgmt = 0x0112 + 65536 * s.mgmt.stage ∧
      t.mgmt.malorRuns = false ∧ t.host.ready = false ∧ t.mgmt.warm = true ∧ t.loops = s.loops ∧ t.axes = s.axes) ∧
  (∀ (s : State) (x : StartIn) (addr : Nat) (ecc : Bool), malorWorks s = true → inCode addr = false ∨ ecc = true →
    exec (.mgmtCodeFault ⟨addr, ecc, x⟩) s = .next (startWarm x (mgmtReset (bootFailOnce 0x0114 s)))) ∧
  (∀ (s : State) (x : StartIn) (addr : Nat) (ecc : Bool), malorWorks s = true → inCode addr = false ∨ ecc = true →
    s.mgmt.failWritten = false → x.stall = 0 →
    ∃ t, exec (.mgmtCodeFault ⟨addr, ecc, x⟩) s = .next t ∧ bootFail t.mgmt = 0x0114 + 65536 * s.mgmt.stage ∧
      t.mgmt.malorRuns = false ∧ t.host.ready = false ∧ t.mgmt.warm = true ∧ t.loops = s.loops ∧ t.axes = s.axes ∧
      t.mgmt.wdtCount = s.mgmt.wdtCount) ∧
  (∀ (s : State) (x : StartIn) (k : Nat), inRun s = true → s.mgmt.restart = some k → k ≠ 1 →
    exec (.restartDelayExpiry x) s = .next (startWarm x (mgmtReset s))) ∧
  (∀ (s : State) (x : StartIn) (k : Nat), inRun s = true → s.mgmt.restart = some k → k ≠ 1 → x.stall = 0 →
    ∃ t, exec (.restartDelayExpiry x) s = .next t ∧ t.mgmt.restart = none ∧ t.mgmt.malorRuns = false ∧
      t.mgmt.warm = true ∧ t.loops = s.loops ∧ t.axes = s.axes ∧ t.host.mbox = s.host.mbox) ∧
  (∀ (s : State) (x : StartIn), inRun s = true → s.mgmt.restart = some 1 →
    ∃ t, exec (.restartDelayExpiry x) s = .next t ∧ t.power.phase = .mainReset ∧ t.power.pwrEn = s.power.pwrEn ∧
      t.host.mbox = List.replicate 8 [] ∧ t.host.evtStatus = 0 ∧ t.power.pfCause = s.power.pfCause ∧ t.rtc.time = s.rtc.time) ∧
  (∀ (s : State) (v : Nat), inRun s = true →
    exec (.wdtKick v) s = .next (if v = 0x5A17 then { s with mgmt := { s.mgmt with wdtMs := 0 } } else s))

/-- Operating points. POWER_OPP_SET is let through to a valid change when none is in progress and HOT does not hold OX: a
raise asks the PMIC for the voltage first, a lowering orders the relock first, which begins at once where no job is inside a
schedule block and waits for the block's end otherwise; a point of 3 is RC_POWER_RANGE, a request during
a change RC_POWER_BUSY, both kept in LAST_RC. PMIC_VACK lets a raise go on to the relock, with the frequency still the old
one; the relock then gives the new frequency. A lowering takes its new frequency at the relock and asks for the voltage
then. A timeout of PMIC_VACK drops PMIC_VREQ, writes RC_POWER_PMIC_TIMEOUT, raises its event and asks again, once, with
both frequencies as they were. (The payload's layout is the model's choice, log 30.) -/
def Obligations.OperatingPoints : Prop :=
  (∀ (m : Mail) (s : State), taken 0x0411 m s = true → m.payload.length = 4 →
    byteField m.payload 0 4 = 0x22 → (takenState 0x0411 m s).power.opp = none →
    (takenState 0x0411 m s).power.oppSoc = 2 → (takenState 0x0411 m s).power.oppOx < 2 →
    (takenState 0x0411 m s).mgmt.hotHold = false →
    ∃ t, exec (.powerOppSet m) s = answers 0x0411 m s t [] ∧ t.power.pmicVreq = true ∧
      t.power.opp = some ⟨true, (takenState 0x0411 m s).power.oppOx, 2, true, false⟩ ∧ t.mgmt.hostOx = 2 ∧
      t.power.oppOx = s.power.oppOx ∧ t.power.voltOx = s.power.voltOx) ∧
  (∀ (m : Mail) (s : State), taken 0x0411 m s = true → m.payload.length = 4 →
    byteField m.payload 0 4 = 0x02 → (takenState 0x0411 m s).power.opp = none →
    (takenState 0x0411 m s).power.oppSoc = 2 → 0 < (takenState 0x0411 m s).power.oppOx →
    (takenState 0x0411 m s).mgmt.hotHold = false →
    ∃ t, exec (.powerOppSet m) s = answers 0x0411 m s t [] ∧
      (s.ox.q.all (fun q => q.state != 2 && q.state != 4 && q.state != 5) = true →
        bit t.power.clkLock 1 = false ∧ t.power.oxRelockDue = false) ∧
      (s.ox.q.all (fun q => q.state != 2 && q.state != 4 && q.state != 5) = false →
        t.power.clkLock = s.power.clkLock ∧ t.power.oxRelockDue = true) ∧
      t.power.opp = some ⟨true, (takenState 0x0411 m s).power.oppOx, 0, false, false⟩ ∧
      t.power.pmicVreq = (takenState 0x0411 m s).power.pmicVreq ∧ t.power.oppOx = s.power.oppOx ∧
      t.power.voltOx = s.power.voltOx) ∧
  (∀ (m : Mail) (s : State), taken 0x0411 m s = true → m.payload.length = 4 → bits (byteField m.payload 0 4) 4 2 = 3 →
    ∃ t, exec (.powerOppSet m) s = refuses 0x0411 m s t 0x0405 0 ∧ t.power.oppRc = 0x0405 ∧
      t.power.oppOx = s.power.oppOx ∧ t.power.oppSoc = s.power.oppSoc) ∧
  (∀ (m : Mail) (s : State), taken 0x0411 m s = true → m.payload.length = 4 → byteField m.payload 0 4 = 0x22 →
    (takenState 0x0411 m s).power.opp ≠ none →
    ∃ t, exec (.powerOppSet m) s = refuses 0x0411 m s t 0x0401 0 ∧ t.power.oppRc = 0x0401 ∧
      t.power.opp = (takenState 0x0411 m s).power.opp) ∧
  (∀ (s : State) (c : OppChange), s.power.phase = .up → s.power.opp = some c → c.awaitAck = true → c.retry = false →
    c.old < c.new → oppPoint s.power c.ox ≤ c.new → ∃ t, exec .pmicVackRise s = .next t ∧ t.power.pmicVreq = false ∧
      t.power.opp = some { c with awaitAck := false } ∧ (if c.ox then t.power.voltOx else t.power.voltSoc) = c.new ∧
      oppPoint t.power c.ox = oppPoint s.power c.ox ∧ t.host = s.host) ∧
  (∀ (s : State) (c : OppChange), s.power.phase = .up → s.power.opp = some c → c.awaitAck = false → c.old < c.new →
    c.new ≤ (if c.ox then s.power.voltOx else s.power.voltSoc) → s.power.oppNext = none → s.power.oxRelockDue = false →
    ∃ t, exec (.pllRelockDone (if c.ox then 1 else 0)) s = .next t ∧ oppPoint t.power c.ox = c.new ∧ t.power.opp = none ∧
      bit t.power.clkLock (if c.ox then 1 else 0) = true) ∧
  (∀ (s : State) (c : OppChange), s.power.phase = .up → s.power.opp = some c → c.awaitAck = false → c.new < c.old →
    c.new ≤ (if c.ox then s.power.voltOx else s.power.voltSoc) → s.power.oxRelockDue = false →
    ∃ t, exec (.pllRelockDone (if c.ox then 1 else 0)) s = .next t ∧ oppPoint t.power c.ox = c.new ∧
      t.power.opp = some { c with awaitAck := true } ∧ t.power.pmicVreq = true ∧ t.power.voltOx = s.power.voltOx ∧
      t.power.voltSoc = s.power.voltSoc) ∧
  (∀ (s : State) (c : OppChange), s.power.phase = .up → s.power.opp = some c → c.awaitAck = true → c.retry = false →
    ∃ t, exec .pmicVackTimeout s = .next t ∧ t.power.oppRc = 0x0413 ∧ t.power.opp = some { c with retry := true } ∧
      t.power.pmicVreq = true ∧ t.power.oppOx = s.power.oppOx ∧ t.power.oppSoc = s.power.oppSoc ∧
      t.power.voltOx = s.power.voltOx ∧ t.power.voltSoc = s.power.voltSoc)

/-- A PLL that loses lock is counted unlocked and reported; a second loss within 1 s acts as a 25 MHz failure, with its
cause. An island that wakes is ON with its PLL locked, an island that ends its power-down is OFF. OX starts its power-down
when both queues are idle, and is asked back ahead of an estimation boundary while estimation is enabled. -/
def Obligations.PllsAndIslands : Prop :=
  (∀ (s : State) (n : Nat), s.power.phase = .up → n < 5 → bit s.power.clkLock n = true →
    (∀ l, nth none s.power.pllLoss n = some l → l + 1000000000 ≤ ontAon s) →
    exec (.pllUnlock n) s = .next (raise 0x0415 18 n 0 0 { s with power := { s.power with
      clkLock := s.power.clkLock - 2 ^ n, pllLoss := s.power.pllLoss.set n (some (ontAon s)) } })) ∧
  (∀ (s : State) (n : Nat), s.power.phase = .up → n < 5 → s.power.pllLoss.length = 5 → bit s.power.clkLock n = true →
    nth none s.power.pllLoss n = none → ∃ t, exec (.pllUnlock n) s = .next t ∧ bit t.power.clkLock n = false ∧
      nth none t.power.pllLoss n = some (ontAon s) ∧ t.power.phase = .up ∧ t.power.isl = s.power.isl) ∧
  (∀ (s : State) (n l : Nat), s.power.phase = .up → n < 5 → bit s.power.clkLock n = true →
    nth none s.power.pllLoss n = some l → ontAon s < l + 1000000000 → ∃ t, exec (.pllUnlock n) s = .next t ∧
      t.power.phase = .waitRetry 1 ∧ t.power.pwrEn = false ∧ bit t.power.pfCause 2 = true ∧ t.rtc.time = s.rtc.time) ∧
  (∀ (s : State) (n : Nat), s.power.phase = .up → s.power.islWake.contains n = true → n = 3 ∨ n = 5 ∨ n = 6 ∨ n = 10 →
    s.power.isl.length = 12 → ∃ t, exec (.islandWakeDone n) s = .next t ∧ isl t n = .on ∧
      t.power.islWake = s.power.islWake.filter (· != n) ∧ t.host = s.host ∧ t.mgmt = s.mgmt ∧
      (n = 10 → bit t.power.clkLock 3 = true) ∧ (n = 3 → bit t.power.clkLock 2 = true) ∧
      (n = 6 → bit t.power.clkLock 4 = true)) ∧
  (∀ (s : State), s.power.phase = .up → s.power.islDown.contains 8 = true → s.power.isl.length = 12 →
    s.power.oxArmWaits = false → (oxq s 0).state ≠ 1 → (oxq s 1).state ≠ 1 → (∀ u ∈ pendingUnits s, u.1 ≠ 7) →
    ∃ t, exec (.islandPowerdownDone 8) s = .next t ∧ isl t 8 = .off ∧ bit t.power.clkLock 1 = false ∧
      t.power.islDown = s.power.islDown.filter (· != 8) ∧ t.host = s.host ∧ t.ox = s.ox) ∧
  (∀ s : State, inRun s = true → isl s 8 = .on → s.power.islDown.contains 8 = false → (oxq s 0).state = 0 →
    (oxq s 1).state = 0 →
    exec .oxIdleHoldExpiry s = .next { s with power := { s.power with islDown := 8 :: s.power.islDown } }) ∧
  (∀ s : State, solving s = true → enabled s 7 0 = true → isl s 8 = .off → s.power.islDown.contains 8 = false →
    ∃ t, exec .oxWakeLead s = .next t ∧ t.power.islWake.contains 8 = true ∧ t.power.isl = s.power.isl ∧ t.host = s.host)

/-- POWER_CLK_SPREAD_SET writes CLK_SPREAD; a SYS PLL whose spread in effect differs is relocked, no other, and each of the
two PLLs takes its spread when it locks. POWER_WAKE_TOKEN_SET writes the 16 octets of the token alone; a token of another
length is RC_POWER_FORMAT. In SLEEP and DEEP a frame to the broadcast address with EtherType 0x88B5, the token and a valid
FCS latches the port's wake bit where it is enabled, as every frame does that R75 describes; any other frame changes nothing,
and no frame wakes while the token is zeros. (The payload's layout of CLK_SPREAD is the model's choice, log 30.) -/
def Obligations.SpreadAndToken : Prop :=
  (∀ (m : Mail) (s : State), taken 0x0414 m s = true → m.payload.length = 4 → byteField m.payload 0 4 < 16 →
    ∃ t, exec (.powerClkSpreadSet m) s = answers 0x0414 m s t [] ∧ t.power.clkSpread = byteField m.payload 0 4 ∧
      t.power.spreadNow = s.power.spreadNow ∧ t.power.oppOx = s.power.oppOx ∧ t.power.oppSoc = s.power.oppSoc ∧
      (spreadOf (byteField m.payload 0 4) 0 ≠ bits s.power.spreadNow 0 2 → bit t.power.clkLock 0 = false) ∧
      (spreadOf (byteField m.payload 0 4) 0 = bits s.power.spreadNow 0 2 →
        bit t.power.clkLock 0 = bit s.power.clkLock 0)) ∧
  (∀ (s : State) (n : Nat), n < 2 → s.power.phase = .up → s.power.opp = none →
    ∃ t, exec (.pllRelockDone n) s = .next t ∧ bits t.power.spreadNow (2 * n) 2 = spreadOf s.power.clkSpread n ∧
      t.power.clkSpread = s.power.clkSpread) ∧
  (∀ (m : Mail) (s : State), taken 0x0413 m s = true → m.payload.length = 16 →
    exec (.powerWakeTokenSet m) s = answers 0x0413 m s { takenState 0x0413 m s with power :=
      { (takenState 0x0413 m s).power with wakeToken := m.payload } } []) ∧
  (∀ (m : Mail) (s : State), taken 0x0413 m s = true → m.payload.length ≠ 16 →
    exec (.powerWakeTokenSet m) s = refuses 0x0413 m s (takenState 0x0413 m s) 0x040A 0) ∧
  (∀ (s : State) (p : Nat) (f : Bytes), p < 2 → s.power.phase = .up → s.power.cur = .sleep ∨ s.power.cur = .deep →
    s.power.busy = false → wakeFrameOk s p f = true → bit s.power.wakeEn (5 + p) = true →
    bit s.power.wakeLatch (5 + p) = false →
    ∃ t, exec (.wakeFrame p f) s = .next t ∧ bit t.power.wakeLatch (5 + p) = true ∧
      t.power.exiting = true ∧ t.power.busy = true ∧ t.host = s.host) ∧
  (∀ (s : State) (p : Nat) (src pad : Bytes), src.length = 6 → s.power.wakeToken.length = 16 →
    allZero s.power.wakeToken = false →
    wakeFrameOk s p (List.replicate 6 0xFF ++ src ++ [0x88, 0xB5] ++ s.power.wakeToken ++ pad ++
      fcsOf (List.replicate 6 0xFF ++ src ++ [0x88, 0xB5] ++ s.power.wakeToken ++ pad)) = true) ∧
  (∀ (s : State) (p : Nat) (f : Bytes), wakeFrameOk s p f = false → exec (.wakeFrame p f) s = .next s) ∧
  (∀ (s : State) (p : Nat) (f : Bytes), wakeFrameOk s p f = true → allZero s.power.wakeToken = false ∧
    (f.take 6 = portMac s p ∨ f.take 6 = List.replicate 6 0xFF))

/-- A wake source enabled in WAKE_EN is latched; the first sets WAKE_FIRST and WAKE_TICK; in SLEEP it starts the exit to
RUN, in RUN it is only latched; a source not enabled is not; in IDLE any source interrupts Malor and ends IDLE. This holds of the WAKE pin, the link detectors, the CAN
detectors while their transceivers stand by, a doorbell write and the save timer. Malor's W1C write clears the bits it
names, and with the last of them WAKE_FIRST and WAKE_TICK. -/
def Obligations.WakeSources : Prop :=
  (∀ (s : State) (i : Instr) (n : Nat),
    (i = .wakePinRise ∧ n = 0) ∨ (∃ p, p < 2 ∧ i = .ethLinkWake p ∧ n = 3 + p) ∨
      (∃ c, c < 4 ∧ i = .canWake c ∧ n = 7 + c ∧ s.power.canStandby = true) ∨ (i = .dbWakeWrite ∧ n = 11) →
    s.power.phase = .up → s.power.cur = .sleep → s.power.busy = false → bit s.power.wakeEn n = true →
    s.power.wakeFirst = none → bit s.power.wakeLatch n = false →
    ∃ t, exec i s = .next t ∧ bit t.power.wakeLatch n = true ∧ t.power.wakeFirst = some n ∧
      t.power.wakeTick = s.power.aonTick % 2 ^ 48 ∧ t.power.exiting = true ∧ t.power.target = .run ∧ t.host = s.host ∧
      t.mgmt = s.mgmt ∧ t.recorder = s.recorder) ∧
  (∀ s : State, s.power.phase = .up → s.power.cur = .run → bit s.power.wakeEn 0 = true → s.power.wakeFirst = none →
    bit s.power.wakeLatch 0 = false → exec .wakePinRise s = .next { s with power := { s.power with
      wakeLatch := s.power.wakeLatch + 1, wakeFirst := some 0, wakeTick := s.power.aonTick % 2 ^ 48 } }) ∧
  (∀ s : State, bit s.power.wakeEn 0 = false → s.power.cur ≠ .idle → exec .wakePinRise s = .next s) ∧
  (∀ s : State, s.power.phase = .up → s.power.cur = .idle → bit s.power.wakeEn 0 = false → s.power.isl.length = 12 →
    ∃ t, exec .wakePinRise s = .next t ∧ t.power.cur = .run ∧ isl t 1 = .on ∧ t.power.wakeLatch = s.power.wakeLatch) ∧
  (∀ s : State, plantRuns s = true → s.power.cur ≠ .idle → isl s 6 = .on → bit s.power.wakeEn 12 = false →
    exec .saveTimerExpiry s = .next { s with meter := { s.meter with saveDue := true } }) ∧
  (∀ s : State, malorWorks s = true → s.power.wakeLatch < 2 ^ 13 → ∃ t, exec (.wakeLatchClear s.power.wakeLatch) s = .next t ∧
    t.power.wakeLatch = 0 ∧ t.power.wakeFirst = none ∧ t.power.wakeTick = 0 ∧ t.power.wakeEn = s.power.wakeEn ∧
    t.host = s.host)

/-- Device states. Malor's idle stops and restarts the core's clock. POWER_STATE_SET for a state other than RUN, let through
with a wake source that the state allows, and no other bar of R73, starts step 1 of the entry and writes WAKE_EN with
SET_WAKE; for RUN it only writes WAKE_EN; without such a wake source it is RC_POWER_NO_WAKE and changes nothing. An entry
step that ends without a wake goes on to the next step of its state; with a wake it turns the entry round. The exit's end
has the part in RUN. -/
def Obligations.DeviceStates : Prop :=
  (∀ s : State, malorWorks s = true → s.power.cur = .run → s.power.busy = false → s.power.isl.length = 12 →
    ∃ t, exec .malorIdleEnter s = .next t ∧ t.power.cur = .idle ∧ isl t 1 = .gated ∧ t.host = s.host ∧ t.mgmt = s.mgmt) ∧
  (∀ s : State, s.power.phase = .up → s.power.cur = .idle → s.power.isl.length = 12 →
    ∃ t, exec .malorIdleExit s = .next t ∧ t.power.cur = .run ∧ isl t 1 = .on ∧ t.host = s.host ∧ t.mgmt = s.mgmt) ∧
  (∀ (m : Mail) (s : State), taken 0x0410 m s = true → m.payload.length = 8 → byteField m.payload 0 1 = 2 →
    byteField m.payload 1 1 = 1 → byteField m.payload 2 2 = 0 → byteField m.payload 4 4 < 2 ^ 13 →
    byteField m.payload 4 4 ≠ 0 → (takenState 0x0410 m s).power.busy = false → (takenState 0x0410 m s).mgmt.minimal = false →
    ∃ t, exec (.powerStateSet m) s = answers 0x0410 m s t [] ∧ t.power.busy = true ∧ t.power.step = 1 ∧
      t.power.target = .sleep ∧ t.power.wakeEn = byteField m.payload 4 4 ∧ t.power.wakeLatch = 0) ∧
  (∀ (m : Mail) (s : State), taken 0x0410 m s = true → m.payload.length = 8 → byteField m.payload 0 1 = 0 →
    byteField m.payload 1 1 = 1 → byteField m.payload 2 2 = 0 → byteField m.payload 4 4 < 2 ^ 13 →
    (takenState 0x0410 m s).power.busy = false →
    exec (.powerStateSet m) s = answers 0x0410 m s { takenState 0x0410 m s with power :=
      { (takenState 0x0410 m s).power with wakeEn := byteField m.payload 4 4 } } []) ∧
  (∀ (m : Mail) (s : State), taken 0x0410 m s = true → m.payload.length = 8 → byteField m.payload 0 1 = 4 →
    byteField m.payload 1 1 = 1 → byteField m.payload 2 2 = 0 → byteField m.payload 4 4 = 0x1800 →
    (takenState 0x0410 m s).power.busy = false → (takenState 0x0410 m s).pair.running = false →
    (upTo 16).any (axisMoving (takenState 0x0410 m s)) = false →
    exec (.powerStateSet m) s = refuses 0x0410 m s (takenState 0x0410 m s) 0x0414 0) ∧
  (∀ s : State, s.power.phase = .up → s.power.busy = true → s.power.exiting = false → s.power.step = 6 →
    s.power.target = .sleep → s.power.wakeLatch = 0 → s.power.isl.length = 12 →
    ∃ t, exec .entryStepDone s = .next t ∧ t.power.step = 7 ∧ isl t 10 = .retain ∧ t.power.busy = true ∧
      t.power.doneSteps = 6 :: s.power.doneSteps ∧ t.host = s.host) ∧
  (∀ s : State, s.power.phase = .up → s.power.busy = true → s.power.exiting = false → s.power.step = 6 →
    s.power.target = .sleep → s.power.wakeLatch ≠ 0 →
    ∃ t, exec .entryStepDone s = .next t ∧ t.power.exiting = true ∧ t.power.busy = true ∧
      t.power.doneSteps = 6 :: s.power.doneSteps ∧ t.power.wakeDuringEntry = true) ∧
  (∀ (s : State) (lost : List (Nat × Byte)), s.power.phase = .up → s.power.busy = true → s.power.exiting = true → s.power.cur = .run →
    s.power.doneSteps = [6] → s.power.entryUnreported = none → s.power.isl.length = 12 → s.power.target = .sleep →
    ∃ t, exec (.exitComplete lost) s = .next t ∧ t.power.cur = .run ∧ t.power.busy = false ∧ t.power.exiting = false ∧
      isl t 10 = .on)

/-- Temperature, supplies and load. A sensor at 112 °C holds OX and, with no change in progress, starts its change to OPP-L;
one at 120 °C cuts the rails with THERM set and no power-fail cause; once every sensor is below 100 °C OX is free again. While
a sensor is at WARN the 10 s timer lowers the OX point by one step. A supply fault sets LOW or HIGH of its monitor and raises
its event. A load window at or above MGMT_SHED_HI raises the shed level by one, to at most 4, one at or below MGMT_SHED_LO
lowers it, and a change raises EV_MGMT_SHED. A telemetry window is marked absent where it is shed. -/
def Obligations.TemperatureSuppliesLoad : Prop :=
  (∀ (s : State) (l : List Int), plantRuns s = true → l.length = 6 → (∀ v ∈ l, v < 15360) → (∃ v ∈ l, 14336 ≤ v) →
    anyAbove 112 s.mgmt.tsens = false → s.power.opp = none → 0 < s.power.oppOx →
    ∃ t, exec (.tempThresholdCross l) s = .next t ∧ t.mgmt.hotHold = true ∧ t.mgmt.tsens = l.map some ∧
      t.power.opp = some ⟨true, s.power.oppOx, 0, false, false⟩ ∧ t.power.phase = s.power.phase) ∧
  (∀ (s : State) (l : List Int), plantRuns s = true → l.length = 6 → (∃ v ∈ l, 15360 ≤ v) →
    ∃ t, exec (.tempThresholdCross l) s = .next t ∧ t.power.phase = .waitRetry 60 ∧ t.power.pwrEn = false ∧
      t.mgmt.therm = true ∧ t.power.pfCause = s.power.pfCause ∧ t.power.pfFirst = s.power.pfFirst ∧ t.rtc.time = s.rtc.time) ∧
  (∀ (s : State) (l : List Int), plantRuns s = true → l.length = 6 → (∀ v ∈ l, v < 12800) → s.mgmt.hotHold = true →
    ∃ t, exec (.tempThresholdCross l) s = .next t ∧ t.mgmt.hotHold = false ∧ t.mgmt.tsens = l.map some) ∧
  (∀ s : State, malorWorks s = true → s.power.opp = none → anyAbove (par s 0x0103) s.mgmt.tsens = true →
    0 < s.power.oppOx → ∃ t, exec .oxPointStepTimer s = .next t ∧ t.mgmt.oxLowered = true ∧
      t.power.opp = some ⟨true, s.power.oppOx, s.power.oppOx - 1, false, false⟩ ∧ t.power.oppOx = s.power.oppOx ∧
      t.power.voltOx = s.power.voltOx) ∧
  (∀ (s : State) (n mv : Nat) (low : Bool), plantRuns s = true → n < 8 → n ≠ 0 → n ≠ 2 → n ≠ 1 ∨ isl s 8 ≠ .off →
    s.mgmt.vmon.length = 8 → ∃ t, exec (.supplyMonitorFault n mv low) s = .next t ∧
      (nth {} t.mgmt.vmon n).mv = mv % 65536 ∧ (if low then (nth {} t.mgmt.vmon n).low else (nth {} t.mgmt.vmon n).high) = true ∧
      (∀ k, k ≠ n → nth {} t.mgmt.vmon k = nth {} s.mgmt.vmon k) ∧ t.pair = s.pair ∧ t.power = s.power) ∧
  (∀ (s : State) (load : Nat), malorWorks s = true → parN s 0x0101 ≤ load → s.mgmt.shed < 4 →
    ∃ t, exec (.loadWindowEnd load) s = .next t ∧ t.mgmt.shed = s.mgmt.shed + 1 ∧ t.mgmt.load = min load 100 ∧
      t.power = s.power ∧ t.loops = s.loops) ∧
  (∀ (s : State) (load : Nat), malorWorks s = true → load < parN s 0x0101 → load ≤ parN s 0x0102 → 0 < s.mgmt.shed →
    ∃ t, exec (.loadWindowEnd load) s = .next t ∧ t.mgmt.shed = s.mgmt.shed - 1 ∧ t.mgmt.shedSecs = satInc 32 s.mgmt.shedSecs) ∧
  (∀ (s : State) (load : Nat), malorWorks s = true → load < parN s 0x0101 → parN s 0x0102 < load →
    ∃ t, exec (.loadWindowEnd load) s = .next t ∧ t.mgmt.shed = s.mgmt.shed ∧ t.host = s.host ∧ t.recorder = s.recorder) ∧
  (∀ s : State, malorWorks s = true → exec .telemetryAggregation s = .next { s with mgmt :=
    { s.mgmt with aggregates := decide (s.mgmt.shed = 0) :: s.mgmt.aggregates } })

/-- A raised event sets its source's bit and, while the writer runs and the buffer has room, appends one record with the next
sequence number, ONT and its parameters. An access that nothing answers, one past the fitted DRAM among them, counts as a bus
error and keeps its address; the scrubber counts the single-bit errors it corrected in OXMEM and MGMT SRAM, and an
uncorrectable word of MGMT SRAM counts and, in the code region, ends the start as a code fault; a DRAM error counts at the block
that lost its data, and the mirror's staging loses what it queued; each raises its event with the address in P2 and P3. Malor's
write of a pad group's register writes that group alone, and restarts the group's filters where FILTER changed. -/
def Obligations.ErrorsRecordsPads : Prop :=
  (∀ (s : State) (code src a b c : Nat), writerRuns s = true → s.recorder.ramOnly = false → s.recorder.buf.length < 2048 →
    ∃ x : Rec, (raise code src a b c s).recorder.buf = s.recorder.buf ++ [x] ∧ x.code = code ∧ x.source = src ∧
      x.seq = s.recorder.seqAon ∧ x.ont = s.time.ont ∧ x.p1 = a % 2 ^ 32 ∧ x.p2 = b % 2 ^ 32 ∧ x.p3 = c % 2 ^ 32 ∧
      (src < 128 → (raise code src a b c s).host.evtStatus.getLsbD src = true) ∧
      (raise code src a b c s).recorder.seqAon = (s.recorder.seqAon + 1) % 2 ^ 64 ∧
      (raise code src a b c s).host.mbox = s.host.mbox) ∧
  (∀ (s : State) (code src a b c : Nat), writerRuns s = true → s.recorder.ramOnly = false → 2048 ≤ s.recorder.buf.length →
    (raise code src a b c s).recorder.buf = s.recorder.buf ∧
      (raise code src a b c s).recorder.ovfCnt = satInc 32 s.recorder.ovfCnt ∧
      (raise code src a b c s).recorder.seqAon = s.recorder.seqAon) ∧
  (∀ (s : State) (a : Nat), plantRuns s = true → busFaults s a = true → exec (.busError a) s = .next (raise 0x0142 7 0 (a % 2 ^ 32) (a / 2 ^ 32 % 16)
    { s with mgmt := { s.mgmt with busErrCnt := satInc 32 s.mgmt.busErrCnt, busErrAddr := a % 2 ^ 36 } })) ∧
  (∀ (s : State) (a : Nat), a < 2 ^ 36 → 0x200000000 ≤ a → busFaults s a = true) ∧
  (∀ (s : State) (a c : Nat) (x : StartIn), plantRuns s = true → inCode a = false →
    exec (.scrubUncorrectable 1 ⟨a, c, x⟩) s = .next (raise 0x0141 7 1 (a % 2 ^ 32) (a / 2 ^ 32 % 16)
      { s with mgmt := { s.mgmt with sramCorr := satAdd 32 s.mgmt.sramCorr c, sramUncorr := satInc 32 s.mgmt.sramUncorr } })) ∧
  (∀ (s : State) (a c : Nat) (x : StartIn), malorWorks s = true → plantRuns s = true → inCode a = true →
    s.mgmt.failWritten = false → x.stall = 0 →
    ∃ t, exec (.scrubUncorrectable 1 ⟨a, c, x⟩) s = .next t ∧ bootFail t.mgmt = 0x0114 + 65536 * s.mgmt.stage ∧
      t.mgmt.malorRuns = false ∧ t.mgmt.warm = true ∧ t.loops = s.loops) ∧
  (∀ (s : State) (a c : Nat) (x : StartIn), plantRuns s = true →
    exec (.scrubUncorrectable 0 ⟨a, c, x⟩) s = .next (raise 0x0141 7 0 (a % 2 ^ 32) (a / 2 ^ 32 % 16)
      { s with ox := { s.ox with eccCorr := satAdd 16 s.ox.eccCorr c } })) ∧
  (∀ (s : State) (i c : Nat) (x : StartIn), plantRuns s = true → i < tableSize s →
    ∃ t, exec (.scrubUncorrectable 2 ⟨0x100000000 + Config.tableBase % 2 ^ 24 * 64 + 64 * i, c, x⟩) s = .next t ∧
      (entry t i).eccBad = true ∧ (∀ k, k ≠ i → entry t k = entry s k) ∧ t.mgmt = s.mgmt ∧ t.power = s.power) ∧
  (∀ (s : State) (a : Nat), inRun s = true → isl s 10 = .on →
    exec (.dramError 5 a) s = .next (raise 0x0140 7 5 (a % 2 ^ 32) (a / 2 ^ 32 % 16)
      { stagingLost s with mgmt := { s.mgmt with dramLoss := modNth s.mgmt.dramLoss 2 (satInc 32) } })) ∧
  (∀ s : State, (stagingLost s).pair.queue = [] ∧ stagingLost s = { s with pair := (stagingLost s).pair }) ∧
  (∀ (s : State) (n v : Nat), malorWorks s = true → n < 20 → s.mgmt.padCfg.length = 20 →
    ∃ t, exec (.padGrpCfgWrite n v) s = .next t ∧ nth 0 t.mgmt.padCfg n = padMask n v ∧
      (∀ k, k ≠ n → nth 0 t.mgmt.padCfg k = nth 0 s.mgmt.padCfg k) ∧ t.host = s.host ∧ t.power = s.power ∧
      t.pins = (if bits (padMask n v) 8 3 = bits (nth 0 s.mgmt.padCfg n) 8 3 then s.pins else s.pins.restart n))

/-- MGMT_STATUS_GET answers 128 bytes that begin with BOOT_STATE and BOOT_FAIL and changes nothing. MGMT_RESTART outside
MINIMAL clears IN_START (and CNT in mode 1, and sets MIN_REQ in mode 2) and schedules the restart; in MINIMAL modes 0 and 2
change nothing; a mode above 2 is RC_MGMT_RANGE. MGMT_CONFIG_SAVE writes one store with the next sequence, the parameter
values and the enabled units, and leaves the other store. -/
def Obligations.ManagementCommands : Prop :=
  (∀ (m : Mail) (s : State), taken 0x0100 m s = true → m.payload = [] →
    ∃ p, exec (.mgmtStatusGet m) s = answers 0x0100 m s (takenState 0x0100 m s) p ∧ p.length = 128 ∧
      p.take 4 = leBytes 4 (bootState (takenState 0x0100 m s).mgmt) ∧
      (p.drop 4).take 4 = leBytes 4 (bootFail (takenState 0x0100 m s).mgmt)) ∧
  (∀ (m : Mail) (s : State) (k : Nat), taken 0x0102 m s = true → k < 3 → m.payload = [BitVec.ofNat 8 k, 0, 0, 0] →
    (takenState 0x0102 m s).mgmt.minimal = false →
    ∃ t, exec (.mgmtRestart m) s = answers 0x0102 m s t [] ∧ t.mgmt.restart = some k ∧ t.mgmt.inStart = false ∧
      (k = 1 → t.mgmt.cnt = 0) ∧ (k ≠ 1 → t.mgmt.cnt = s.mgmt.cnt) ∧ (k = 2 → t.mgmt.minReq = true) ∧
      t.power = (takenState 0x0102 m s).power ∧ t.loops = s.loops ∧ t.axes = s.axes) ∧
  (∀ (m : Mail) (s : State), taken 0x0102 m s = true → m.payload = [0, 0, 0, 0] ∨ m.payload = [2, 0, 0, 0] →
    (takenState 0x0102 m s).mgmt.minimal = true →
    exec (.mgmtRestart m) s = answers 0x0102 m s (takenState 0x0102 m s) []) ∧
  (∀ (m : Mail) (s : State) (k : Nat), taken 0x0102 m s = true → 2 < k → k < 256 → m.payload = [BitVec.ofNat 8 k, 0, 0, 0] →
    exec (.mgmtRestart m) s = refuses 0x0102 m s (takenState 0x0102 m s) 0x0105 0) ∧
  (∀ (m : Mail) (s : State), taken 0x0104 m s = true → m.payload = [] → storeInUse (takenState 0x0104 m s) = none →
    ∃ t, exec (.mgmtConfigSave m) s = answers 0x0104 m s t [] ∧
      t.mgmt.storeB = some ⟨1, s.host.params, s.host.tables, enabledUnits (takenState 0x0104 m s)⟩ ∧
      t.mgmt.storeA = s.mgmt.storeA ∧ t.host = (takenState 0x0104 m s).host ∧ t.power = (takenState 0x0104 m s).power)

/-- Updates. UPDATE_BEGIN erases the inactive slot of its type and opens the update; while one is open it is RC_MGMT_STATE.
UPDATE_DATA programs its bytes at its offset; a range over bytes already programmed is RC_MGMT_RANGE. UPDATE_FINISH refuses an
incomplete image, then answers by the checks of R101. UPDATE_ACTIVATE of a finished Malor image that still passes them writes a
boot record with the slot on trial and schedules the warm start with CNT cleared. UPDATE_COMMIT of a type on trial writes TRIAL 0
and raises its event; without a trial it is RC_MGMT_STATE. UPDATE_ABORT closes the update and leaves the slot unbootable.
(The payload layouts of UPDATE_BEGIN and UPDATE_COMMIT are the model's choice, log 30.) -/
def Obligations.Updates : Prop :=
  (∀ (m : Mail) (s : State) (ty n : Nat), taken 0x0120 m s = true → 1 ≤ ty → ty ≤ 3 → n ≤ slotSize ty → n < 2 ^ 32 →
    m.payload = leBytes 1 ty ++ zeros 3 ++ leBytes 4 n → (takenState 0x0120 m s).mgmt.update = none →
    (bootSlot (bootRec (takenState 0x0120 m s)) ty).2 = false →
    ∃ t, exec (.updateBegin m) s = answers 0x0120 m s t [] ∧
      t.mgmt.update = some { type := ty, total := n, slot := !(bootSlot (bootRec (takenState 0x0120 m s)) ty).1 } ∧
      slotImage t ty (!(bootSlot (bootRec (takenState 0x0120 m s)) ty).1) = [] ∧
      slotImage t ty (bootSlot (bootRec (takenState 0x0120 m s)) ty).1 =
        slotImage s ty (bootSlot (bootRec (takenState 0x0120 m s)) ty).1 ∧ t.sec.otp = s.sec.otp) ∧
  (∀ (m : Mail) (s : State) (ty n : Nat) (u : Update), taken 0x0120 m s = true → 1 ≤ ty → ty ≤ 3 → n < 2 ^ 32 →
    m.payload = leBytes 1 ty ++ zeros 3 ++ leBytes 4 n → (takenState 0x0120 m s).mgmt.update = some u →
    exec (.updateBegin m) s = refuses 0x0120 m s (takenState 0x0120 m s) 0x0106 0) ∧
  (∀ (m : Mail) (s : State) (u : Update) (off : Nat) (d : Bytes), taken 0x0121 m s = true → off < 2 ^ 32 → d.length ≤ 960 →
    m.payload = leBytes 4 off ++ leBytes 4 d.length ++ d → (takenState 0x0121 m s).mgmt.update = some u →
    off + d.length ≤ u.total → rangeTaken u.ranges off d.length = false →
    ∃ t, exec (.updateData m) s = answers 0x0121 m s t [] ∧
      slotImage t u.type u.slot = overwrite (slotImage s u.type u.slot) off d ∧
      t.mgmt.update = some { u with ranges := u.ranges ++ [(off, d.length)], finished := false } ∧
      slotImage t u.type (!u.slot) = slotImage s u.type (!u.slot)) ∧
  (∀ (m : Mail) (s : State) (u : Update) (off : Nat) (d : Bytes), taken 0x0121 m s = true → off < 2 ^ 32 → d.length ≤ 960 →
    m.payload = leBytes 4 off ++ leBytes 4 d.length ++ d → (takenState 0x0121 m s).mgmt.update = some u →
    rangeTaken u.ranges off d.length = true →
    exec (.updateData m) s = refuses 0x0121 m s (takenState 0x0121 m s) 0x0105 0) ∧
  (∀ (m : Mail) (s : State) (u : Update), taken 0x0122 m s = true → m.payload = [] →
    (takenState 0x0122 m s).mgmt.update = some u →
    exec (.updateFinish m) s =
      (if updateFull u then
        (match imgFail (takenState 0x0122 m s) u.type (slotImage s u.type u.slot) with
         | none => answers 0x0122 m s { takenState 0x0122 m s with mgmt :=
             { (takenState 0x0122 m s).mgmt with update := some { u with finished := true } } } []
         | some r => refuses 0x0122 m s (takenState 0x0122 m s) r 0)
       else refuses 0x0122 m s (takenState 0x0122 m s) 0x0142 0)) ∧
  (∀ (m : Mail) (s : State) (u : Update), taken 0x0123 m s = true → m.payload = [] →
    (takenState 0x0123 m s).mgmt.update = some u → u.finished = true → u.type = 1 → (bootRec s).seq + 1 < 2 ^ 32 →
    (∃ r, imgFail (takenState 0x0123 m s) 1 (slotImage s 1 u.slot) = some r ∧
      exec (.updateActivate m) s = refuses 0x0123 m s (takenState 0x0123 m s) r 0) ∨
    (∃ t, exec (.updateActivate m) s = answers 0x0123 m s t [] ∧ (bootRec t).malorActive = u.slot ∧
      (bootRec t).malorTrial = true ∧ t.mgmt.cnt = 0 ∧ t.mgmt.inStart = false ∧ t.mgmt.update = none ∧
      t.mgmt.restart = some (if s.mgmt.minimal then 1 else 0))) ∧
  (∀ (m : Mail) (s : State), taken 0x0124 m s = true → m.payload = [1, 0, 0, 0] →
    (bootRec (takenState 0x0124 m s)).malorTrial = true → (bootRec s).seq + 1 < 2 ^ 32 →
    ∃ t, exec (.updateCommit m) s = answers 0x0124 m s t [] ∧ (bootRec t).malorTrial = false ∧
      (bootRec t).malorActive = (bootRec s).malorActive ∧ (bootRec t).seq = (bootRec s).seq + 1 ∧
      t.mgmt.malorA = s.mgmt.malorA ∧ t.mgmt.malorB = s.mgmt.malorB) ∧
  (∀ (m : Mail) (s : State), taken 0x0124 m s = true → m.payload = [1, 0, 0, 0] →
    (bootRec (takenState 0x0124 m s)).malorTrial = false →
    exec (.updateCommit m) s = refuses 0x0124 m s (takenState 0x0124 m s) 0x0106 0) ∧
  (∀ (m : Mail) (s : State) (u : Update), taken 0x0125 m s = true → m.payload = [] →
    (takenState 0x0125 m s).mgmt.update = some u →
    ∃ t, exec (.updateAbort m) s = answers 0x0125 m s t [] ∧ t.mgmt.update = none ∧ slotImage t u.type u.slot = [] ∧
      slotImage t u.type (!u.slot) = slotImage s u.type (!u.slot) ∧ bootRec t = bootRec s)

/-- The host interface. A W1C write clears the EVT_STATUS bits it names and a write to EVT_MASK sets that word's masks, each
leaving the rest of both; a configuration write changes the register it names. A write to BAR2, or a narrow one to a register, is
discarded and counted, as is a write into a mailbox the part owns; a write to a reserved offset is ignored; a write into the
host's own mailbox stores its bytes. A ring of DB_RING gives the named mailboxes to the part, in ascending order, and clears
their done bits; a ring of one the part owns already is counted. A read of part of a word gives its bytes. Loss of the link
resets the PCI Express side alone. An SPI status frame returns SPI_STAT and starts FRAME_ERR anew; a frame with an unknown
opcode, a short address or a partial word sets it; a write frame of one word writes as a host write does, and a read frame
answers with wait bytes, the marker and data, as many bytes as the host clocks. A snapshot request stores ONT, its fraction
and TIME_STATUS and counts. -/
def Obligations.HostRegisters : Prop :=
  (∀ (s : State) (n v : Nat), hostServed s = true → n < 4 → ∃ t, exec (.evtStatusWrite n v) s = .next t ∧
    t.host.evtStatus = s.host.evtStatus &&& ~~~(evtWord n v) ∧ t.host.evtMask = s.host.evtMask ∧
    t.host.owner = s.host.owner ∧ t.host.mbox = s.host.mbox ∧ t.recorder = s.recorder ∧ t.power = s.power) ∧
  (∀ (s : State) (n v : Nat), hostServed s = true → n < 4 → ∃ t, exec (.evtMaskWrite n v) s = .next t ∧
    t.host.evtMask = (s.host.evtMask &&& ~~~(evtWord n (2 ^ 32 - 1))) ||| evtWord n v ∧
    t.host.evtStatus = s.host.evtStatus ∧ t.host.owner = s.host.owner ∧ t.host.mbox = s.host.mbox ∧ t.power = s.power) ∧
  (∀ (s : State) (v e : Nat), hostServed s = true → s.host.linkUp = true →
    ∃ t, exec (.pcieConfigWrite .msix v e) s = .next t ∧ t.host.msixEn = (if bit e 1 then bit v 15 else s.host.msixEn) ∧
      t.host.msixFuncMask = (if bit e 1 then bit v 14 else s.host.msixFuncMask) ∧ t.host.msixVecMask = s.host.msixVecMask ∧ t.host.evtStatus = s.host.evtStatus ∧ t.host.mbox = s.host.mbox) ∧
  (∀ (s : State) (vm : Nat), hostServed s = true → s.host.linkUp = true →
    ∃ t, exec (.pcieConfigWrite .vecMask vm 3) s = .next t ∧ t.host.msixVecMask = BitVec.ofNat 16 vm ∧
      t.host.msixEn = s.host.msixEn ∧ t.host.evtStatus = s.host.evtStatus ∧ t.host.mbox = s.host.mbox) ∧
  (∀ (s : State) (r : CfgReg) (v e : Nat), hostServed s = true → s.host.linkUp = true → r ≠ .msix → r ≠ .vecMask →
    ∃ c, exec (.pcieConfigWrite r v e) s = .next { s with host := { s.host with pcie := c } } ∧
      (r = .bar0 → e % 16 = 15 → c = { s.host.pcie with bar0 := v % 2 ^ 32 / 2 ^ 16 * 2 ^ 16 }) ∧
      (r = .command → e % 4 = 3 → c = { s.host.pcie with command := v % 2 ^ 16 }) ∧
      (r = .power → bit e 0 = true → c = { s.host.pcie with d3hot := v % 4 == 3 })) ∧
  (∀ s : State, s.host.linkUp = true → ∃ t, exec .pcieLinkDown s = .next t ∧ t.host.linkUp = false ∧
    t.host.msixEn = false ∧ t.host.evtStatus = s.host.evtStatus ∧ t.host.mbox = s.host.mbox ∧ t.host.owner = s.host.owner ∧
    t.host.done = s.host.done ∧ t.loops = s.loops ∧ t.axes = s.axes ∧ t.logic = s.logic) ∧
  (∀ s : State, hostServed s = true → exec .pcieLinkTrained s = .next { s with host := { s.host with linkUp := true } }) ∧
  (∀ s : State, hostServed s = true → exec .spiStatusFrame s = .next { s with host := { s.host with
    sent := .spi (leBytes 1 (spiStat s.host)) :: s.host.sent, spiFrameErr := false } }) ∧
  (∀ (s : State) (op : Byte) (r : Bytes), hostServed s = true → op ≠ 0x05 → op ≠ 0x02 → op ≠ 0x0B →
    exec (.spiFrameError (op :: r)) s = .next { s with host := { s.host with spiFrameErr := true } }) ∧
  (∀ (s : State) (op : Byte) (r : Bytes), hostServed s = true → op = 0x02 ∨ op = 0x0B → r.length < 4 →
    exec (.spiFrameError (op :: r)) s = .next { s with host := { s.host with spiFrameErr := true } }) ∧
  (∀ (s : State) (a : Nat) (d : Bytes), hostServed s = true → a < 2 ^ 32 → d.length = 4 →
    exec (.spiFrameError (0x02 :: (leBytes 4 a ++ d))) s = exec (.registerWrite (bit a 28) (a % 2 ^ 25) d []) s) ∧
  (∀ (s : State) (a : Nat) (d : Bytes), hostServed s = true → a < 2 ^ 32 → 0 < d.length → d.length < 4 →
    exec (.spiFrameError (0x02 :: (leBytes 4 a ++ d))) s = .next { s with host := { s.host with spiFrameErr := true } }) ∧
  (∀ (s : State) (a : Nat) (d : Bytes), hostServed s = true → a < 2 ^ 32 →
    ∃ t b, exec (.spiFrameError (0x0B :: (leBytes 4 a ++ d))) s = .next t ∧ t.host.sent = .spi b :: s.host.sent ∧
      b.length = d.length ∧ b.take (spiWaits s + 1) = (zeros (spiWaits s) ++ [0xA5]).take d.length ∧
      t.host.spiFrameErr = s.host.spiFrameErr ∧ t.host.mbox = s.host.mbox) ∧
  (∀ (s : State) (o : Nat) (d : Bytes), hostServed s = true → o % 4 = 0 → d.length = 4 →
    exec (.registerWrite true o d []) s = .next (hostDrop s)) ∧
  (∀ (s : State) (o k : Nat) (d : Bytes), hostServed s = true → o % 4 = 0 → o < 0x1000 ∨ 0x3000 ≤ o → d ≠ [] →
    d.length < 4 → k + d.length ≤ 4 →
    exec (.registerWrite false (o + k) d []) s = .next (if bar0Mapped o then hostDrop s else s)) ∧
  (∀ (s : State) (o : Nat) (d : Bytes), hostServed s = true → o % 4 = 0 → o < 0x1000 ∨ 0x3000 ≤ o → bar0Mapped o = false →
    d.length = 4 → exec (.registerWrite false o d []) s = .next s) ∧
  (∀ (s : State) (k o : Nat) (d : Bytes), hostServed s = true → k < 8 → o < 0x100 → d.length = 4 →
    s.host.owner.getLsbD k = true →
    exec (.registerWrite false (0x1000 + 0x400 * k + 4 * o) d []) s = .next (hostDrop s)) ∧
  (∀ (s : State) (k o : Nat) (d : Bytes), hostServed s = true → k < 8 → o < 0x100 → d.length = 4 →
    s.host.owner.getLsbD k = false →
    exec (.registerWrite false (0x1000 + 0x400 * k + 4 * o) d []) s = .next { s with host := { s.host with
      mbox := modNth s.host.mbox k (fun b => overwrite b (4 * o) d) } }) ∧
  (∀ (s : State) (v : Nat), hostServed s = true →
    ∃ t, exec (.registerWrite false 0x100 (leBytes 4 v) []) s = .next t ∧
    t.host.owner = s.host.owner ||| BitVec.ofNat 8 v ∧
    t.host.done = s.host.done &&& ~~~(BitVec.ofNat 8 v &&& ~~~s.host.owner) ∧ t.host.mbox = s.host.mbox ∧
    t.host.rung = s.host.rung ++ (upTo 8).filter (fun k => bit v k && !s.host.owner.getLsbD k) ∧
    t.recorder = s.recorder ∧ t.mgmt = s.mgmt) ∧
  (∀ (s : State) (o k n : Nat), o % 4 = 0 → o ≠ 0x300 → o ≠ 0x304 → 0 < n → k + n ≤ 4 →
    hostRead false (o + k) n s = (((leBytes 4 (bar0Read s o)).drop k).take n, s)) ∧
  (∀ s : State, plantRuns s = true → exec .ontSnapReqWrite s = .next { s with time := { s.time with
    snapSeq := wrapInc 32 s.time.snapSeq, snapOnt := s.time.ont, snapFrac := ontFrac16 s.time,
    snapStat := timeStatus s.time } })

/-- What stands between a rung command and its execution, for every command code and every body: dark ports take nothing; a
command while nothing serves, or while another is to be taken first, is held in its mailbox; one into a mailbox that the part
owns is ignored and counted; a malformed one is RC_HOST_FORMAT; an unknown one RC_HOST_UNKNOWN, UNKNOWN_COMMAND among them; a repeated one is answered by the stored
response with DUP and not executed; one that needs a session and has none gets its subsystem's AUTH; one that MINIMAL does not
offer gets its reason; a non-urgent one at shed level 4, or
sent again before RETRY_AFTER is over, gets RC_MGMT_BUSY with RETRY_AFTER 1,000 and is counted. None of them
executes the command. -/
def Obligations.MailboxChecks : Prop :=
  (∀ (cmd : Nat) (m : Mail) (body : State → Answer) (s : State), hostServed s = false → mailOut cmd m body s = .next s) ∧
  (∀ (cmd : Nat) (m : Mail) (body : State → Answer) (s : State), hostServed s = true → m.mbox < 8 → mailMine cmd m s = true →
    served (ring cmd m s) = false ∨ mailNext (ring cmd m s) ≠ some m.mbox → mailOut cmd m body s = .next (ring cmd m s)) ∧
  (∀ (cmd : Nat) (m : Mail) (body : State → Answer) (s : State), hostServed s = true → m.mbox < 8 →
    mailMine cmd m s = false → ∃ t, mailOut cmd m body s = .next t ∧ t.host.ignoredCnt = satInc 32 s.host.ignoredCnt ∧
      t.host.mbox = s.host.mbox ∧ t.host.owner = s.host.owner ∧ t.mgmt = s.mgmt) ∧
  (∀ (cmd : Nat) (m : Mail) (body : State → Answer) (s : State), mailReaches cmd m s = true → mailFormOk m = false →
    mailOut cmd m body s = refuses cmd m s (ring cmd m s) 0x020A 0) ∧
  (∀ (cmd : Nat) (m : Mail) (s : State), mailReaches cmd m s = true → mailFormOk m = true → knownCmds.contains cmd = false →
    exec (.unknownCommand cmd m) s = refuses cmd m s (ring cmd m s) 0x020B 0) ∧
  (∀ (cmd : Nat) (m : Mail) (body : State → Answer) (s : State) (r : Bytes), mailReaches cmd m s = true →
    mailFormOk m = true → knownCmds.contains cmd = true →
    storedMatch cmd m (ring cmd m s) = some r →
    mailOut cmd m body s = .next (deliver m.mbox (dupResponse r) (ring cmd m s))) ∧
  (∀ (cmd : Nat) (m : Mail) (body : State → Answer) (s : State), mailReaches cmd m s = true → mailFormOk m = true → knownCmds.contains cmd = true →
    storedMatch cmd m (ring cmd m s) = none → mailAuth m = false → needsSession (ring cmd m s) cmd m.payload = true →
    mailOut cmd m body s = refuses cmd m s (ring cmd m s) (cmd / 256 * 256 + 4) 0) ∧
  (∀ (cmd : Nat) (m : Mail) (body : State → Answer) (s : State), mailReaches cmd m s = true → mailFormOk m = true → knownCmds.contains cmd = true →
    storedMatch cmd m (ring cmd m s) = none → mailAuth m = false → needsSession (ring cmd m s) cmd m.payload = false →
    s.mgmt.minimal = true → (minimalCmds (ring cmd m s)).contains cmd = false → lifecycle s ≠ 3 →
    mailOut cmd m body s = refuses cmd m s (ring cmd m s) 0x0106 0) ∧
  (∀ (cmd : Nat) (m : Mail) (body : State → Answer) (s : State), mailReaches cmd m s = true → mailFormOk m = true → knownCmds.contains cmd = true →
    storedMatch cmd m (ring cmd m s) = none → mailAuth m = false → needsSession (ring cmd m s) cmd m.payload = false →
    s.mgmt.minimal = false → mailShed (ring cmd m s) cmd m.payload = true →
    ∃ a, mailOut cmd m body s = .next (respond (ring cmd m s) cmd m a) ∧ a.status = 2 ∧ a.reason = 0x0101 ∧
      a.payload = leBytes 4 1000 ∧ a.st.mgmt = { s.mgmt with busyCnt := satInc 32 s.mgmt.busyCnt } ∧
      (cmd, m.payload, s.power.aonTick + 32768) ∈ a.st.host.retry) ∧
  (∀ (s : State) (cmd : Nat) (p : Bytes), urgent cmd p = false → s.mgmt.shed = 4 → mailShed s cmd p = true) ∧
  (∀ (s : State) (cmd : Nat) (p : Bytes) (t : Nat), urgent cmd p = false → (cmd, p, t) ∈ s.host.retry →
    s.power.aonTick < t → mailShed s cmd p = true) ∧
  (∀ (s : State) (cmd : Nat) (p : Bytes), urgent cmd p = true → mailShed s cmd p = false)

/-- A response. The mailbox that held the command holds the response, its owner bit is clear and its done bit set; the other
mailboxes, their owner and done bits and everything outside the host interface are left; source 8 is set where the done bit rose; the
response is kept with the command's header and tag. An untagged response carries CMD, FLAGS.RESP, the command's SEQ, its own LEN and
STATUS, REASON and PARAM_ID at their offsets, and then its payload. -/
def Obligations.MailboxResponse : Prop :=
  (∀ (k : State) (cmd : Nat) (m : Mail) (a : Answer), m.mbox < 8 → a.st.host.mbox.length = 8 → a.st.host.stored.length = 8 →
    (respond k cmd m a).host.owner.getLsbD m.mbox = false ∧ (respond k cmd m a).host.done.getLsbD m.mbox = true ∧
    nth [] (respond k cmd m a).host.mbox m.mbox = overwrite (nth [] a.st.host.mbox m.mbox) 0 (respBytes k cmd m a) ∧
    nth none (respond k cmd m a).host.stored m.mbox = some ⟨headerBytes cmd m ++ m.tag, respBytes k cmd m a⟩ ∧
    (∀ n, n ≠ m.mbox → n < 8 → nth [] (respond k cmd m a).host.mbox n = nth [] a.st.host.mbox n ∧
      (respond k cmd m a).host.owner.getLsbD n = a.st.host.owner.getLsbD n ∧
      (respond k cmd m a).host.done.getLsbD n = a.st.host.done.getLsbD n) ∧
    (a.st.host.done.getLsbD m.mbox = false → (respond k cmd m a).host.evtStatus.getLsbD 8 = true) ∧
    respond k cmd m a = { a.st with host := (respond k cmd m a).host }) ∧
  (∀ (k : State) (cmd : Nat) (m : Mail) (a : Answer), mailAuth m = false → cmd < 2 ^ 16 → m.seq < 2 ^ 32 → a.status < 3 →
    a.reason < 2 ^ 16 → a.paramId < 2 ^ 16 → a.payload.length ≤ 992 →
    byteField (respBytes k cmd m a) 0 2 = cmd ∧ byteField (respBytes k cmd m a) 2 2 = 2 ∧
    byteField (respBytes k cmd m a) 4 4 = m.seq ∧ byteField (respBytes k cmd m a) 8 2 = a.payload.length ∧
    byteField (respBytes k cmd m a) 0x10 2 = a.status ∧ byteField (respBytes k cmd m a) 0x12 2 = a.reason ∧
    byteField (respBytes k cmd m a) 0x14 2 = a.paramId ∧ (respBytes k cmd m a).drop 32 = a.payload)

/-- The parameter commands. PARAM_READ of one value answers its ID, flags and value and changes nothing. A PARAM_WRITE whose
entries all pass writes them in order, and one whose checks fail anywhere is refused with the first failing entry's reason and ID
and writes nothing; one entry with a value in range writes that parameter and no other. A table write stores its bytes at its
offset and leaves the other tables; beyond the table it is the owner's RANGE with the ID. PARAM_TABLE_READ and PARAM_INFO answer
and change nothing. -/
def Obligations.ParameterCommands : Prop :=
  (∀ (m : Mail) (s : State) (id : Nat) (i : PInfo), taken 0x0210 m s = true → id < 2 ^ 16 →
    m.payload = [1, 0, 0, 0] ++ leBytes 2 id → paramLookup (takenState 0x0210 m s) none id = .ok i → isTable i = false →
    exec (.paramRead m) s = answers 0x0210 m s (takenState 0x0210 m s) (leBytes 2 id ++
      leBytes 2 (b2n i.live + 4 * b2n (par s id == i.dflt)) ++ leIntBytes 8 (par s id))) ∧
  (∀ (m : Mail) (s : State) (n : Nat) (b : Bytes) (r id : Nat), taken 0x0211 m s = true → 1 ≤ n → n ≤ 80 →
    m.payload = leBytes 2 n ++ [0, 0] ++ b → b.length = 12 * n →
    (∀ k, k < n → byteField m.payload (6 + 12 * k) 2 = 0) →
    writeFail (takenState 0x0211 m s) (viewAfter (takenState 0x0211 m s) (writeEntries m.payload n))
      (writeEntries m.payload n) = some (r, id) →
    exec (.paramWrite m) s = refuses 0x0211 m s (takenState 0x0211 m s) r id) ∧
  (∀ (m : Mail) (s : State) (id v : Nat) (i : PInfo), taken 0x0211 m s = true → id < 2 ^ 16 → v < 2 ^ 8 →
    m.payload = [1, 0, 0, 0] ++ leBytes 2 id ++ [0, 0] ++ leBytes 8 v →
    id = 0x0101 ∨ id = 0x0201 ∨ id = 0x0100 → pInfo id = some i → i.lo ≤ v → (v : Int) ≤ i.hi →
    ∃ t, exec (.paramWrite m) s = answers 0x0211 m s t [] ∧ par t id = v ∧ act t id = v ∧
      (∀ j, j ≠ id → par t j = par s j) ∧ t.host.tables = s.host.tables ∧ t.mgmt = s.mgmt ∧
      t.power = (takenState 0x0211 m s).power ∧ t.loops = s.loops) ∧
  (∀ (m : Mail) (s : State) (id off : Nat) (d : Bytes) (i : PInfo), taken 0x0213 m s = true → id < 2 ^ 16 → off < 2 ^ 32 →
    1 ≤ d.length → d.length ≤ 960 → m.payload = leBytes 2 id ++ [0, 0] ++ leBytes 4 off ++ leBytes 4 d.length ++ d →
    paramLookup (takenState 0x0213 m s) (some true) id = .ok i → off + d.length ≤ pSize id →
    paramLocked (takenState 0x0213 m s) i = none →
    ∃ t, exec (.paramTableWrite m) s = answers 0x0213 m s t [] ∧ tab t id = overwrite (tab s id) off d ∧
      (∀ j, j ≠ id → tab t j = tab s j) ∧ t.host.params = s.host.params ∧ t.mgmt = s.mgmt) ∧
  (∀ (m : Mail) (s : State) (id off : Nat) (d : Bytes) (i : PInfo), taken 0x0213 m s = true → id < 2 ^ 16 → off < 2 ^ 32 →
    1 ≤ d.length → d.length ≤ 960 → m.payload = leBytes 2 id ++ [0, 0] ++ leBytes 4 off ++ leBytes 4 d.length ++ d →
    paramLookup (takenState 0x0213 m s) (some true) id = .ok i → pSize id < off + d.length →
    exec (.paramTableWrite m) s = refuses 0x0213 m s (takenState 0x0213 m s) (rc i.owner 0x05) id) ∧
  (∀ (m : Mail) (s : State) (id off n : Nat) (i : PInfo), taken 0x0212 m s = true → id < 2 ^ 16 → off < 2 ^ 32 → 1 ≤ n →
    n ≤ 960 → m.payload = leBytes 2 id ++ [0, 0] ++ leBytes 4 off ++ leBytes 4 n →
    paramLookup (takenState 0x0212 m s) (some true) id = .ok i → off + n ≤ pSize id →
    exec (.paramTableRead m) s = answers 0x0212 m s (takenState 0x0212 m s) (padTo n ((tab s id).drop off))) ∧
  (∀ (m : Mail) (s : State) (id : Nat) (i : PInfo), taken 0x0214 m s = true → id < 2 ^ 16 → m.payload = leBytes 2 id →
    paramLookup (takenState 0x0214 m s) none id = .ok i →
    exec (.paramInfo m) s = answers 0x0214 m s (takenState 0x0214 m s) (Config.layout 0x0214 (id :: infoValues (takenState 0x0214 m s) id i)))

/-- Units. SUBSYS_ENABLE of an ENABLED unit does nothing; of one that fails its check it is refused with the check's reason and
PARAM_ID and nothing is enabled; of one that passes while its sequence runs it is PENDING, and its SEQ is kept; otherwise the unit is
started and ENABLED. SUBSYS_DISABLE of an ENABLED unit that no enabled unit needs starts its sequence, and of one that is needed it
is refused with DEPENDS and changes nothing; with an enable pending it cancels that. SUBSYS_STATE_GET and SUBSYS_CHECK
change nothing. The end of a sequence leaves the unit DISABLED. -/
def Obligations.EnableUnits : Prop :=
  (∀ (m : Mail) (s : State) (a b : Nat), taken 0x0201 m s = true → subsysUnit m.payload (takenState 0x0201 m s) = .ok (a, b) →
    unitSt s a b = { enabled := true } → exec (.subsysEnable m) s = answers 0x0201 m s (takenState 0x0201 m s) []) ∧
  (∀ (m : Mail) (s : State) (a b r q : Nat), taken 0x0201 m s = true →
    subsysUnit m.payload (takenState 0x0201 m s) = .ok (a, b) → unitSt s a b = {} → s.pair.failsafe = false →
    unitCheck a b (takenState 0x0201 m s) = some (r, q) →
    exec (.subsysEnable m) s = refuses 0x0201 m s (takenState 0x0201 m s) r q) ∧
  (∀ (m : Mail) (s : State) (a b : Nat), taken 0x0201 m s = true → subsysUnit m.payload (takenState 0x0201 m s) = .ok (a, b) →
    unitSt s a b = { stopping := true } → s.pair.failsafe = false → unitCheck a b (takenState 0x0201 m s) = none →
    exec (.subsysEnable m) s = .next (respond (ring 0x0201 m s) 0x0201 m (pendingAns
      (setUnit a b { stopping := true, pend := some m.seq } (takenState 0x0201 m s)) (rc a 0x02)))) ∧
  (∀ (m : Mail) (s : State) (a b : Nat), taken 0x0201 m s = true → subsysUnit m.payload (takenState 0x0201 m s) = .ok (a, b) →
    unitSt s a b = {} → s.pair.failsafe = false → unitCheck a b (takenState 0x0201 m s) = none →
    islandFalling (takenState 0x0201 m s) a b = false → (unitsOf s.host.units a).length > b →
    ∃ t, exec (.subsysEnable m) s = answers 0x0201 m s t [] ∧ unitSt t a b = { enabled := true } ∧
      t.power.phase = s.power.phase ∧ t.host.params = s.host.params ∧ t.sec.otp = s.sec.otp) ∧
  (∀ (m : Mail) (s : State) (a b : Nat), taken 0x0202 m s = true → subsysUnit m.payload (takenState 0x0202 m s) = .ok (a, b) →
    unitSt s a b = { enabled := true } → dependent (takenState 0x0202 m s) a b = none →
    pairBars (takenState 0x0202 m s) a = false → (unitsOf s.host.units a).length > b →
    ∃ t, exec (.subsysDisable m) s = answers 0x0202 m s t [] ∧ unitSt t a b = { stopping := true } ∧
      t.host.params = s.host.params ∧ t.sec.otp = s.sec.otp) ∧
  (∀ (m : Mail) (s : State) (a b c d : Nat), taken 0x0202 m s = true →
    subsysUnit m.payload (takenState 0x0202 m s) = .ok (a, b) → unitSt s a b = { enabled := true } →
    dependent (takenState 0x0202 m s) a b = some (c, d) →
    exec (.subsysDisable m) s = .next (respond (ring 0x0202 m s) 0x0202 m (refuse (takenState 0x0202 m s) (rc a 0x0D) 0
      (leBytes 1 c ++ leBytes 1 0 ++ leBytes 2 d)))) ∧
  (∀ (m : Mail) (s : State) (a b q : Nat) (st : Bool), taken 0x0202 m s = true →
    subsysUnit m.payload (takenState 0x0202 m s) = .ok (a, b) → unitSt s a b = { stopping := st, pend := some q } →
    unitIsland a b = none →
    exec (.subsysDisable m) s = answers 0x0202 m s (raise 0x0210 9 (a * 65536 + b) (rc a 0x0C) q
      (setUnit a b { stopping := st } (takenState 0x0202 m s))) []) ∧
  (∀ (m : Mail) (s : State) (a b : Nat), taken 0x0203 m s = true → subsysUnit m.payload (takenState 0x0203 m s) = .ok (a, b) →
    exec (.subsysStateGet m) s = answers 0x0203 m s (takenState 0x0203 m s) (leBytes 1 (unitCode (unitSt s a b)))) ∧
  (∀ (m : Mail) (s : State) (a b : Nat), taken 0x0204 m s = true → subsysUnit m.payload (takenState 0x0204 m s) = .ok (a, b) →
    exec (.subsysCheck m) s = match unitCheck a b (takenState 0x0204 m s) with
      | none => answers 0x0204 m s (takenState 0x0204 m s) []
      | some (r, q) => refuses 0x0204 m s (takenState 0x0204 m s) r q) ∧
  (∀ (s : State) (a b : Nat), inRun s = true → unitSt s a b = { stopping := true } → stopOver s a b = true →
    a ∈ unitSubs → b < (unitsOf s.host.units a).length → ∃ t, exec (.shutdownSequenceEnd a b) s = .next t ∧ unitSt t a b = {} ∧
      t.host.params = s.host.params ∧ t.sec.otp = s.sec.otp)

/-- The calendar of R343. A year is a leap year when it is divisible by 4, except for 2100, 2200 and 2300; the months have their
lengths; day 0 is 2000-01-01, the day after a date has the next number, across months and years; the weekday of day D is
(5 + D) mod 7; the range runs to 2399-12-31 23:59:59; SEC runs to 59. -/
def Obligations.RtcCalendar : Prop :=
  (∀ y, y < 400 → leapYear y = (decide (y % 4 = 0) && !decide (y = 100 ∨ y = 200 ∨ y = 300))) ∧
  (∀ y, (upTo 12).map (fun m => monthDays y (m + 1)) =
    [31, if leapYear y then 29 else 28, 31, 30, 31, 30, 31, 31, 30, 31, 30, 31]) ∧
  dayNumber { year := 0, month := 1, day := 1 } = 0 ∧
  (∀ y m d, 1 ≤ m → m ≤ 12 → 1 ≤ d → d < monthDays y m →
    dayNumber { year := y, month := m, day := d + 1 } = dayNumber { year := y, month := m, day := d } + 1) ∧
  (∀ y m, 1 ≤ m → m < 12 →
    dayNumber { year := y, month := m + 1, day := 1 } = dayNumber { year := y, month := m, day := monthDays y m } + 1) ∧
  (∀ y, dayNumber { year := y + 1, month := 1, day := 1 } = dayNumber { year := y, month := 12, day := 31 } + 1) ∧
  (∀ d, weekday d = (5 + d) % 7) ∧ (∀ t : RtcTime, dateOk t = true → t.sec ≤ 59 ∧ rtcSeconds t < calendarEnd) ∧
  calendarEnd = rtcSeconds { year := 399, month := 12, day := 31, hour := 23, min := 59, sec := 59 } + 1

/-- On the tick after 2399-12-31 23:59:59 TICK 32,767 the RTC sets HALT and END, keeps that last value and raises EV_RTC_END: as the
event RTC_END, and at a crystal edge of an idle step that takes no
command. -/
def Obligations.RtcRangeEnd : Prop :=
  (∀ s : State, rtcRunning s = true → rtcEndReached s.rtc.time = true →
    exec .rtcEnd s = .next (raise 0x0613 22 (rtcTime0 s.rtc.time) (rtcTime1 s.rtc.time) 0 { s with rtc :=
      { s.rtc with halt := true, ended := true, haltReading := rtcReading s.rtc.time } })) ∧
  (∀ s : State, s.pending = [] → mailDue s = none → s.power.phase ≠ .porLow → rtcRunning s = true →
    rtcEndReached s.rtc.time = true → 125000000 ≤ s.power.tickPhase + 32768 →
    ∃ t, step s = .next t ∧ t.rtc.halt = true ∧ t.rtc.ended = true ∧ t.rtc.time = s.rtc.time)

/-- Setting and reading. HALT = 1 stops a running RTC and keeps its reading. While it is halted a write of RTC_TIME0 or RTC_TIME1 sets its
fields; while it runs the write is discarded and counted. HALT = 0 with an impossible date leaves it halted with DATE_INVALID and its
event; with a valid date it runs again from that date with WDAY computed and LOST and END clear. A read of RTC_TIME0 freezes
the reader's shadow, a read of RTC_TIME1 releases it, the expiry releases it and sets FRZ_EXP, and none of them moves the reading. -/
def Obligations.RtcSetAndRead : Prop :=
  (∀ (s : State) (v : Nat) (g : Bool), rtcReach g s = true → bit v 0 = true → s.rtc.halt = false →
    ∃ t, exec (.rtcCtrlWrite v g) s = .next t ∧ t.rtc.halt = true ∧ t.rtc.time = s.rtc.time ∧
      t.rtc.haltReading = rtcReading s.rtc.time ∧ (shadow g t).frozen = false ∧ shadow (!g) t = shadow (!g) s ∧
      t.rtc.alarms = s.rtc.alarms ∧ t.host = s.host ∧ t.power = s.power) ∧
  (∀ (s : State) (v : Nat) (g : Bool), rtcReach g s = true → bit v 0 = false → s.rtc.halt = true →
    dateOk s.rtc.time = false → ∃ t, exec (.rtcCtrlWrite v g) s = .next t ∧ t.rtc.halt = true ∧ t.rtc.dateInvalid = true ∧
      t.rtc.time = s.rtc.time ∧ t.rtc.alarms = s.rtc.alarms) ∧
  (∀ (s : State) (v : Nat) (g : Bool), rtcReach g s = true → bit v 0 = false → s.rtc.halt = true →
    dateOk s.rtc.time = true → ∃ t, exec (.rtcCtrlWrite v g) s = .next t ∧ t.rtc.halt = false ∧ t.rtc.dateInvalid = false ∧
      t.rtc.lost = false ∧ t.rtc.ended = false ∧ t.rtc.time = { s.rtc.time with wday := weekday (dayNumber s.rtc.time) }) ∧
  (∀ (s : State) (r v : Nat), rtcReach false s = true → rtcRunning s = true →
    exec (.rtcTimeWrite r v) s = .next (hostDrop s)) ∧
  (∀ (s : State) (v : Nat), rtcReach false s = true → rtcRunning s = false →
    exec (.rtcTimeWrite 0 v) s = .next { s with rtc := { s.rtc with time :=
      { s.rtc.time with tick := bits v 0 15, sec := bits v 16 6, min := bits v 24 6 } } }) ∧
  (∀ (s : State) (v : Nat), rtcReach false s = true → rtcRunning s = false →
    exec (.rtcTimeWrite 1 v) s = .next { s with rtc := { s.rtc with time :=
      { s.rtc.time with hour := bits v 0 5, day := bits v 8 5, month := bits v 16 4, year := bits v 23 9 } } }) ∧
  (∀ (s : State), rtcReach false s = true → s.rtc.hostShadow.frozen = false →
    ∃ t, exec (.rtcTime0Read false) s = .next t ∧ t.rtc = { s.rtc with hostShadow := { frozen := true, time := s.rtc.time } } ∧
      t.host.sent = .readAnswer 0x0300 (rtcTime0 s.rtc.time) :: s.host.sent ∧ t.power = s.power) ∧
  (∀ (s : State), rtcReach false s = true → s.rtc.hostShadow.frozen = true →
    ∃ t, exec (.rtcTime1Read false) s = .next t ∧
      t.rtc = { s.rtc with hostShadow := { s.rtc.hostShadow with frozen := false } } ∧
      t.host.sent = .readAnswer 0x0304 (rtcTime1 s.rtc.hostShadow.time) :: s.host.sent) ∧
  (∀ (s : State) (g : Bool), (shadow g s).frozen = true → ∃ t, exec (.rtcFreezeExpiry g) s = .next t ∧
    t.rtc.frzExp = true ∧ (shadow g t).frozen = false ∧ shadow (!g) t = shadow (!g) s ∧ t.rtc.time = s.rtc.time ∧ t.host = s.host)

/-- Alarms and trimming. An arm with a possible target arms the alarm and clears INVALID, with an impossible one it sets INVALID
and disarms; FIRED clears where written as 1. An armed alarm whose target second the running RTC has reached fires: FIRED, LATE
clear, a one-shot disarmed, a repeating one moved on by its period. The 64 s check of a locked, running RTC within 1 s of network
time writes a TRIM within ±30,000, clears MISMATCH and keeps the calendar; an error of 1 s or more sets MISMATCH and writes no
trim. -/
def Obligations.RtcAlarmsAndTrim : Prop :=
  (∀ (s : State) (n v : Nat) (a : Alarm), rtcReach false s = true → s.rtc.alarms[n]? = some a → bit v 0 = true →
    dateOk a.target = true → ∃ t b, exec (.rtcAlmCtrlWrite n v) s = .next t ∧ t.rtc.alarms[n]? = some b ∧ b.armed = true ∧
      b.invalid = false ∧ b.rep = bits v 1 2 ∧ b.late = a.late ∧ b.target = a.target ∧ (bit v 4 = true → b.fired = false) ∧
      (bit v 4 = false → b.fired = a.fired) ∧ t.rtc.time = s.rtc.time ∧ t.host = s.host) ∧
  (∀ (s : State) (n v : Nat) (a : Alarm), rtcReach false s = true → s.rtc.alarms[n]? = some a → bit v 0 = true →
    dateOk a.target = false → ∃ t b, exec (.rtcAlmCtrlWrite n v) s = .next t ∧ t.rtc.alarms[n]? = some b ∧
      b.armed = false ∧ b.invalid = true) ∧
  (∀ (s : State) (n v : Nat) (a : Alarm), rtcReach false s = true → s.rtc.alarms[n]? = some a → bit v 0 = false →
    ∃ t b, exec (.rtcAlmCtrlWrite n v) s = .next t ∧ t.rtc.alarms[n]? = some b ∧ b.armed = false ∧ b.invalid = a.invalid) ∧
  (∀ (s : State) (n : Nat) (a : Alarm), rtcRunning s = true → s.rtc.alarms[n]? = some a → a.armed = true →
    rtcSeconds a.target = rtcNow s → a.rep = 0 → ∃ t b, exec (.rtcAlarm n) s = .next t ∧ t.rtc.alarms[n]? = some b ∧
      b.fired = true ∧ b.late = false ∧ b.armed = false ∧ b.skip = 0 ∧ b.target = a.target ∧ t.rtc.time = s.rtc.time ∧
      (bit s.power.wakeEn 1 = true → s.power.cur = .run → s.power.phase ≠ .porLow → bit t.power.wakeLatch 1 = true)) ∧
  (∀ (s : State) (n : Nat) (a : Alarm), rtcRunning s = true → s.rtc.alarms[n]? = some a → a.armed = true →
    rtcSeconds a.target = rtcNow s → a.rep = 2 → rtcNow s + 86400 < calendarEnd →
    ∃ t b, exec (.rtcAlarm n) s = .next t ∧ t.rtc.alarms[n]? = some b ∧ b.fired = true ∧ b.armed = true ∧
      b.target = { ofSeconds (rtcNow s + 86400) with wday := 0 }) ∧
  (∀ s : State, s.time.valid = true → s.time.locked = true → rtcRunning s = true → malorWorks s = true →
    (rtcError s).natAbs < 1000000000 → ∃ t, exec .rtcTrimCheck s = .next t ∧ -30000 ≤ t.rtc.trim ∧ t.rtc.trim ≤ 30000 ∧
      t.rtc.mismatch = false ∧ t.rtc.time = s.rtc.time ∧ t.rtc.ePrev = some (rtcError s) ∧ t.host = s.host ∧
      t.time = s.time) ∧
  (∀ s : State, s.time.valid = true → s.time.locked = true → rtcRunning s = true → malorWorks s = true →
    1000000000 ≤ (rtcError s).natAbs → ∃ t, exec .rtcTrimCheck s = .next t ∧ t.rtc.mismatch = true ∧
      t.rtc.trim = s.rtc.trim ∧ t.rtc.time = s.rtc.time ∧ (s.rtc.mismatch = true → t = s))

/-- TIME_SET. In absolute mode ONT becomes the value, in relative mode it moves by it; VALID is set, the step is counted and its signed size
recorded, and the servo's state is unchanged. It is refused with RC_TIME_STATE while a port is in UNCALIBRATED or SLAVE and with
RC_TIME_RANGE for a result outside 0 to 2^64 - 1, and then changes nothing. Over a forward step an armed periodic unit whose target is
reached gives one late pulse: SKIP_LAST is the targets passed less one, the next target the first one above, COUNT falls by 1; a
unit that is not armed, or whose target is later, is unchanged, and over a backward step every unit is. TIME_STATUS_GET answers the status and changes nothing. -/
def Obligations.TimeSetAndStatus : Prop :=
  (∀ (m : Mail) (s : State) (v : Nat), taken 0x0510 m s = true → m.payload = [0] ++ zeros 7 ++ leBytes 8 v → v < 2 ^ 64 →
    8 ∉ s.time.portState → 9 ∉ s.time.portState → ∃ t, exec (.timeSet m) s = answers 0x0510 m s t [] ∧ t.time.ont = v ∧
      t.time.valid = true ∧ t.time.stepCnt = satInc 32 s.time.stepCnt ∧ t.time.lastStep = satS 32 ((v : Int) - s.time.ont) ∧
      t.time.servo = s.time.servo ∧ t.time.rate = s.time.rate ∧ t.time.frac = s.time.frac ∧ t.time.cap = s.time.cap ∧
      t.rtc = s.rtc ∧ t.host.params = s.host.params ∧ (v < s.time.ont → t.time.trg = s.time.trg) ∧
      (∀ (k : Nat) (g : Trigger), k < 16 → s.time.trg[k]? = some g → g.armed = true → g.periodic = true → 0 < g.period → g.target ≤ v →
        s.time.ont ≤ v → ∃ h, t.time.trg[k]? = some h ∧ h.skipLast = min ((v - g.target) / g.period) 65535 ∧
          h.lateLast = true ∧ h.remain = g.remain - 1 ∧ v < h.target ∧ h.target ≤ v + g.period ∧
          h.nominal + g.period = h.target ∧ h.armed = (g.remain != 1)) ∧
      (∀ (k : Nat) (g : Trigger), s.time.trg[k]? = some g → g.armed = false ∨ v < g.target → t.time.trg[k]? = some g)) ∧
  (∀ (m : Mail) (s : State) (d : Int), taken 0x0510 m s = true → m.payload = [1] ++ zeros 7 ++ leIntBytes 8 d →
    -(2 ^ 63) ≤ d → d < 2 ^ 63 → 8 ∉ s.time.portState → 9 ∉ s.time.portState → 0 ≤ s.time.ont + d →
    s.time.ont + d < 2 ^ 64 → ∃ t, exec (.timeSet m) s = answers 0x0510 m s t [] ∧ (t.time.ont : Int) = s.time.ont + d ∧
      t.time.valid = true ∧ t.time.lastStep = satS 32 d) ∧
  (∀ (m : Mail) (s : State) (d : Int), taken 0x0510 m s = true → m.payload = [1] ++ zeros 7 ++ leIntBytes 8 d →
    -(2 ^ 63) ≤ d → d < 2 ^ 63 → 8 ∉ s.time.portState → 9 ∉ s.time.portState →
    s.time.ont + d < 0 ∨ 2 ^ 64 ≤ s.time.ont + d →
    exec (.timeSet m) s = refuses 0x0510 m s (takenState 0x0510 m s) 0x0505 0) ∧
  (∀ (m : Mail) (s : State) (a v : Nat), taken 0x0510 m s = true → a ≤ 1 → m.payload = [BitVec.ofNat 8 a] ++ zeros 7 ++ leBytes 8 v →
    8 ∈ s.time.portState ∨ 9 ∈ s.time.portState →
    exec (.timeSet m) s = refuses 0x0510 m s (takenState 0x0510 m s) 0x0506 0) ∧
  (∀ (m : Mail) (s : State), taken 0x0500 m s = true → m.payload = [] → ∃ l,
    exec (.timeStatusGet m) s = answers 0x0500 m s (takenState 0x0500 m s) (Config.layout 0x0500 l) ∧
    l.take 4 = [(timeStatus s.time : Int), s.time.offset, divRound s.time.mpd 65536, s.time.rate])

/-- Triggers and captures. TIME_TRG_ARM arms its unit with the fields it gives, replaces an earlier arm and leaves every other unit; a target
at or before ONT gives the late pulse at once; units 14 and 15 are RESERVED, a target more than 2^47 - 1 ns ahead is RANGE.
TIME_TRG_STOP disarms and lets a pulse complete. An armed unit fires when its target is reached and not before; a periodic one moves on
by PERIOD and ends with its COUNT. The end of a pulse clears ACTIVE only. A selected edge stores its time stamp, less the filter's
delay, counts, and touches no other unit; an edge that is not selected, and one that the filter has not passed because fewer than
its N consecutive samples differ, move only the filter. -/
def Obligations.TriggersAndCaptures : Prop :=
  (∀ (m : Mail) (s : State) (u fl tg per w c : Nat), taken 0x0520 m s = true → u < 14 → fl < 8 → tg < 2 ^ 64 → per < 2 ^ 64 →
    c < 2 ^ 32 → m.payload = leBytes 1 u ++ leBytes 1 fl ++ zeros 2 ++ leBytes 8 tg ++ leBytes 8 per ++ leBytes 4 w ++ leBytes 4 c →
    (bit fl 0 = false → per = 0) → (bit fl 0 = true → 100 ≤ per ∧ per ≤ 86400000000000 ∧ w < per) → 8 ≤ w → w ≤ 1000000000 →
    tg ≤ s.time.ont + (2 ^ 47 - 1) → u < s.time.trg.length → ∃ t g, exec (.timeTrgArm m) s = answers 0x0520 m s t [] ∧
      t.time.trg[u]? = some g ∧ g.periodic = bit fl 0 ∧ g.pol = bit fl 1 ∧ g.evt = bit fl 2 ∧ g.period = per ∧ g.width = w ∧
      (∀ k, k ≠ u → t.time.trg[k]? = s.time.trg[k]?) ∧ t.time.ont = s.time.ont ∧ t.time.cap = s.time.cap ∧ t.rtc = s.rtc ∧
      (s.time.ont < tg → g.armed = true ∧ g.target = tg ∧ g.remain = if bit fl 0 then c else 1) ∧
      (tg ≤ s.time.ont → g.lateLast = true ∧ g.active = true ∧ g.armed = (bit fl 0 && c != 1) ∧
        (bit fl 0 = true → s.time.ont < g.target ∧ g.target ≤ s.time.ont + per))) ∧
  (∀ (m : Mail) (s : State) (u : Nat) (b : Bytes), taken 0x0520 m s = true → u = 14 ∨ u = 15 →
    m.payload = leBytes 1 u ++ [0] ++ zeros 2 ++ b → b.length = 24 →
    exec (.timeTrgArm m) s = refuses 0x0520 m s (takenState 0x0520 m s) 0x0510 0) ∧
  (∀ (m : Mail) (s : State) (u tg w c : Nat), taken 0x0520 m s = true → u < 14 → tg < 2 ^ 64 →
    m.payload = leBytes 1 u ++ zeros 3 ++ leBytes 8 tg ++ zeros 8 ++ leBytes 4 w ++ leBytes 4 c → 8 ≤ w → w ≤ 1000000000 →
    s.time.ont + (2 ^ 47 - 1) < tg → exec (.timeTrgArm m) s = refuses 0x0520 m s (takenState 0x0520 m s) 0x0505 0) ∧
  (∀ (m : Mail) (s : State) (u : Nat) (g : Trigger), taken 0x0521 m s = true → u < 14 → m.payload = leBytes 1 u ++ zeros 3 →
    s.time.trg[u]? = some g → ∃ t, exec (.timeTrgStop m) s = answers 0x0521 m s t [] ∧
      t.time.trg[u]? = some { g with armed := false, remain := 0 } ∧ (∀ k, k ≠ u → t.time.trg[k]? = s.time.trg[k]?) ∧
      t.time.ont = s.time.ont ∧ t.rtc = s.rtc) ∧
  (∀ (s : State) (u : Nat) (g : Trigger), plantRuns s = true → s.time.trg[u]? = some g → g.armed = true →
    g.target ≤ s.time.ont → s.time.ont < g.target + 2 ^ 47 → ∃ t h, exec (.triggerFire u) s = .next t ∧
      t.time.trg[u]? = some h ∧ h.active = true ∧ h.lateLast = false ∧ h.skipLast = 0 ∧ h.nominal = g.target ∧
      h.target = (if g.periodic then g.target + g.period else g.target) ∧ h.remain = g.remain - 1 ∧
      h.armed = (g.periodic && g.remain != 1) ∧ (∀ k, k ≠ u → t.time.trg[k]? = s.time.trg[k]?) ∧
      (u = 14 → t.time.pulse14 = some g.target) ∧ (u = 15 → t.time.pulse15 = some g.target) ∧ t.time.ont = s.time.ont ∧
      t.power = s.power ∧ t.rtc = s.rtc) ∧
  (∀ (s : State) (u : Nat) (g : Trigger), s.time.trg[u]? = some g →
    g.armed = false ∨ s.time.ont < g.target ∧ g.target < s.time.ont + 2 ^ 47 → exec (.triggerFire u) s = .next s) ∧
  (∀ (s : State) (u : Nat) (g : Trigger), s.time.trg[u]? = some g → ∃ t, exec (.triggerPulseEnd u) s = .next { s with
      time := { s.time with trg := t } } ∧ t[u]? = some { g with active := false } ∧ ∀ k, k ≠ u → t[k]? = s.time.trg[k]?) ∧
  (∀ (s : State) (u d n k : Nat) (lv : Bool) (c : Capture), plantRuns s = true → 0 < u → u < 16 → s.time.cap[u]? = some c →
    act s (0x6800 + 2 * u) = 2 ∨ act s (0x6800 + 2 * u) = (if lv then 0 else 1) → act s (0x6801 + 2 * u) = 0 →
    (8 ≤ u ∧ u ≤ 10 ∧ n = 0 ∧ d = 1000) ∨ (u < 8 ∧ n = filterN (bits (nth 0 s.mgmt.padCfg 6) 8 3) ∧
      d = if n = 0 then 0 else 40 * n - 16) →
    lv ≠ (nth {} s.pins.cap u).level → n ≤ (nth {} s.pins.cap u).run + k →
    ∃ t, exec (.captureEdge u ⟨lv, k⟩) s = .next { s with
      time := { s.time with cap := t }, pins := { s.pins with cap := s.pins.cap.set u { level := lv, run := 0 } } } ∧
      t[u]? = some { c with
        ts := s.time.ont - d, count := wrapInc 32 c.count, rising := lv, inSleep := s.power.cur == .sleep } ∧
      ∀ j, j ≠ u → t[j]? = s.time.cap[j]?) ∧
  (∀ (s : State) (u k : Nat) (lv : Bool), plantRuns s = true → u < 16 → act s (0x6800 + 2 * u) = (if lv then 1 else 0) →
    ∃ p, exec (.captureEdge u ⟨lv, k⟩) s = .next { s with pins := { s.pins with cap := p } }) ∧
  (∀ (s : State) (u k : Nat) (lv : Bool), plantRuns s = true → u < 8 → lv ≠ (nth {} s.pins.cap u).level →
    (nth {} s.pins.cap u).run + k < filterN (bits (nth 0 s.mgmt.padCfg 6) 8 3) →
    exec (.captureEdge u ⟨lv, k⟩) s = .next { s with pins := { s.pins with
      cap := s.pins.cap.set u { (nth {} s.pins.cap u) with run := (nth {} s.pins.cap u).run + k } } })

/-- The servo. A Sync of a port in UNCALIBRATED or SLAVE with a path delay yields its offset from master. Above TIME_STEP_THRESH a servo that is
not LOCKED steps ONT by it, keeps the integral and is ACQUIRING; one that is LOCKED discards and counts it, until the one that
completes TIME_STEP_CONFIRM is applied as a step and clears LOCKED. Otherwise y and I follow the update of R325 within 500,000 ppb
and ONT does not step; the measurement that completes TIME_LOCK_COUNT within TIME_LOCK_THRESH locks and sets VALID. A delay
response filters the path delay. HOLDOVER holds the mean of the last values of y in y and I and leaves LOCKED; at the end of
TIME_HOLD_LOCKED, LOCKED clears. -/
def Obligations.Servo : Prop :=
  (∀ (s : State) (p o i : Nat) (c x : Int), p < 2 → ptpRuns s p = true → s.time.portState[p]? = some 8 ∨ s.time.portState[p]? = some 9 →
    s.time.mpdKnown = true → s.time.bellwether = false → s.mgmt.malorRuns = true →
    x = divRound (((i : Int) - par s (0x0523 + 8 * p) - o - par s (0x0524 + 8 * p)) * 65536 - c - s.time.mpd) 65536 →
    ∃ t, exec (.ptpSyncReceived p o i c) s = .next t ∧ t.time.offset = satS 32 x ∧ t.time.portState[p]? = some 9 ∧
      t.time.mpd = s.time.mpd ∧ t.power = s.power ∧ t.host.params = s.host.params ∧
      (par s 0x050D < x.natAbs → s.time.servo ≠ 4 → t.time.ont = ((s.time.ont : Int) - x).toNat % 2 ^ 64 ∧ t.time.integ = s.time.integ ∧
        t.time.rate = s.time.rate ∧ t.time.servo = 3) ∧
      (par s 0x050D < x.natAbs → s.time.servo = 4 → s.time.confirm + 1 < par s 0x050E → t.time.ont = s.time.ont ∧
        t.time.outliers = satInc 32 s.time.outliers ∧ t.time.confirm = s.time.confirm + 1 ∧ t.time.integ = s.time.integ ∧
        t.time.rate = s.time.rate ∧ t.time.servo = 4 ∧ t.time.locked = s.time.locked) ∧
      (par s 0x050D < x.natAbs → s.time.servo = 4 → par s 0x050E ≤ s.time.confirm + 1 →
        t.time.ont = ((s.time.ont : Int) - x).toNat % 2 ^ 64 ∧ t.time.locked = false ∧ t.time.servo = 3) ∧
      (x.natAbs ≤ par s 0x050D → t.time.ont = s.time.ont ∧ t.time.confirm = 0 ∧ (-128000000 ≤ t.time.rate ∧ t.time.rate ≤ 128000000) ∧
        (-128000000 ≤ t.time.integ ∧ t.time.integ ≤ 128000000) ∧ t.time.lastUpdate = some s.time.ont) ∧
      (∀ u, x.natAbs ≤ par s 0x050D → s.time.lastUpdate = some u → u < s.time.ont →
        t.time.integ = clamp (-128000000) 128000000 (s.time.integ +
          divRound (par s 0x050C * x * 256000000000) (2 ^ 14 * (s.time.ont - u))) ∧
        t.time.rate = clamp (-128000000) 128000000 (divRound (par s 0x050B * x * 256000000000) (2 ^ 14 * (s.time.ont - u)) +
          t.time.integ)) ∧
      (x.natAbs ≤ par s 0x050D → (x.natAbs : Int) ≤ par s 0x050F → s.time.servo = 3 → par s 0x0510 ≤ s.time.lockRun + 1 →
        t.time.servo = 4 ∧ t.time.locked = true ∧ t.time.valid = true)) ∧
  (∀ (s : State) (p t3 r i : Nat) (c : Int), p < 2 → ptpRuns s p = true → s.time.reqSent[p]? = some (some t3) → act s 0x0501 = 1 →
    ∃ t, exec (.ptpDelayResponse p r i c) s = .next t ∧ t.time.mpdKnown = true ∧ t.time.ont = s.time.ont ∧
      t.time.servo = s.time.servo ∧ t.host = s.host ∧ t.power = s.power ∧ (s.time.mpdKnown = false →
        t.time.mpd = divRound (((i : Int) - act s (0x0523 + 8 * p) - t3) * 65536 - c - act s (0x0524 + 8 * p) * 65536) 2) ∧
      (s.time.mpdKnown = true → t.time.mpd = s.time.mpd + shiftRound
        (divRound (((i : Int) - act s (0x0523 + 8 * p) - t3) * 65536 - c - act s (0x0524 + 8 * p) * 65536) 2 - s.time.mpd)
        (actN s 0x0515))) ∧
  (∀ (s : State) (p t3 r i : Nat) (c d : Int), p < 2 → ptpRuns s p = true → s.time.reqSent[p]? = some (some t3) →
    act s 0x0501 = 0 → s.time.lastSync = some d → s.time.mpdKnown = false →
    ∃ t, exec (.ptpDelayResponse p r i c) s = .next t ∧ t.time.mpdKnown = true ∧ t.host = s.host ∧
      t.time.mpd = divRound (d - act s (0x0524 + 8 * p) * 65536 + ((r : Int) - t3) * 65536 - c) 2) ∧
  (∀ s : State, inRun s = true → enabled s 5 0 = true → s.time.servo = 3 ∨ s.time.servo = 4 → s.time.bellwether = false →
    s.time.yHist ≠ [] → ∃ t, exec .servoHoldoverTimeout s = .next t ∧ t.time.servo = 5 ∧ t.time.rate =
      divRound (s.time.yHist.foldl (· + ·) 0) s.time.yHist.length ∧ t.time.integ = t.time.rate ∧ t.time.locked = s.time.locked ∧
      t.time.ont = s.time.ont ∧ t.time.valid = s.time.valid ∧ t.time.trg = s.time.trg ∧ t.power = s.power) ∧
  (∀ s : State, s.time.locked = true → s.time.servo = 5 → ∃ t, exec .holdLockedExpiry s = .next t ∧ t.time =
    { s.time with locked := false } ∧ t.power = s.power ∧ t.rtc.time = s.rtc.time)

/-- PTP. A Pdelay_Req is answered with its turnaround added to its correctionField, a Delay_Req at a MASTER with its ingress time
and its own correctionField; every message carries its port's transport and tag. At its
interval a MASTER sends Sync with the egress time and Announce with its own dataset, and a port with a delay request to send sends
it and keeps its egress time; each takes the next sequenceId. A first better clock's Announce at a LISTENING port of a slave-only
part makes it UNCALIBRATED and the servo ACQUIRING, with that clock as the grandmaster; when the receipt timeout of a SLAVE port expires with no other clock it listens
and the servo is in HOLDOVER. -/
def Obligations.PtpMessages : Prop :=
  (∀ (s : State) (p i q : Nat) (c : Int), ptpRuns s p = true → act s 0x0501 = 1 →
    ∃ t, exec (.pdelayReqReceived p i ⟨q, c⟩) s = .next t ∧ t.time = s.time ∧ t.power = s.power ∧ t.host = { s.host with
      sent := .ptp p 3 q 0 (c + (((s.time.ont + actN s (0x0522 + 8 * p) : Nat) : Int) -
        ((i : Int) - act s (0x0523 + 8 * p))) * 65536 + (s.time.frac / 2 ^ 24 : Nat)) (carrier s p) :: s.host.sent } ∧
      (p < s.net.ports.length → (portOf t p).rxFrames = satInc 32 (portOf s p).rxFrames ∧
        (portOf t p).txFrames = satInc 32 (portOf s p).txFrames)) ∧
  (∀ (s : State) (p i q : Nat) (c : Int), ptpRuns s p = true → act s 0x0501 = 0 → s.time.portState[p]? = some 6 →
    act s (0x0523 + 8 * p) ≤ i → ∃ (t : State) (n : Nat), (n : Int) = i - act s (0x0523 + 8 * p) ∧
    exec (.ptpDelayReqReceived p i ⟨q, c⟩) s = .next t ∧ t.time = s.time ∧ t.power = s.power ∧
      t.host = { s.host with sent := .ptp p 9 q n c (carrier s p) :: s.host.sent }) ∧
  (∀ (s : State) (p q : Nat), ptpRuns s p = true → s.time.portState[p]? = some 6 → s.time.seqIds[3 * p]? = some q →
    ∃ t, exec (.ptpMessageInterval p 0) s = .next t ∧ t.power = s.power ∧
      t.time = { s.time with seqIds := s.time.seqIds.set (3 * p) ((q + 1) % 65536) } ∧ t.host = { s.host with
        sent := .ptp p 0 q (s.time.ont + actN s (0x0522 + 8 * p)) (s.time.frac / 2 ^ 24 : Nat) (carrier s p) :: s.host.sent }) ∧
  (∀ (s : State) (p q : Nat), ptpRuns s p = true → s.time.portState[p]? = some 8 ∨ s.time.portState[p]? = some 9 →
    act s 0x0501 = 0 → s.time.seqIds[3 * p + 1]? = some q →
    ∃ t, exec (.ptpMessageInterval p 1) s = .next t ∧ t.power = s.power ∧ t.time = { s.time with
        seqIds := s.time.seqIds.set (3 * p + 1) ((q + 1) % 65536)
        reqSent := s.time.reqSent.set p (some (s.time.ont + actN s (0x0522 + 8 * p))) } ∧
      t.host = { s.host with
        sent := .ptp p 1 q (s.time.ont + actN s (0x0522 + 8 * p))
          ((s.time.frac / 2 ^ 24 : Nat) - act s (0x0524 + 8 * p) * 65536) (carrier s p) :: s.host.sent }) ∧
  (∀ (s : State) (p q : Nat), ptpRuns s p = true → s.time.portState[p]? = some 6 → s.time.seqIds[3 * p + 2]? = some q →
    ∃ (t : State) (a : Announce), exec (.ptpMessageInterval p 2) s = .next t ∧ t.power = s.power ∧
      t.time = { s.time with seqIds := s.time.seqIds.set (3 * p + 2) ((q + 1) % 65536) } ∧
      t.host = { s.host with sent := .announce p q a (carrier s p) :: s.host.sent } ∧ a.gmPriority1 = actN s 0x0502 ∧
      a.gmPriority2 = actN s 0x0503 ∧ a.gmClass = actN s 0x0504 ∧ a.gmVariance = 0xFFFF ∧ a.utcOffset = act s 0x0514 ∧
      a.utcValid = s.time.valid ∧ a.leap61 = false ∧ a.leap59 = false ∧
      a.gmAccuracy = (if s.time.servo = 2 then 0x21 else 0xFE) ∧ a.timeSource = (if act s 0x0506 = 1 then 0x90 else 0xA0)) ∧
  (∀ (s : State) (a : Announce), ptpRuns s 0 = true → ptpPort s 1 = false → s.mgmt.malorRuns = true → a.srcId ≠ clockId s →
    a.stepsRemoved < 255 → act s 0x0505 = 1 → s.time.announce = [none, none] → s.time.portState = [4, 3] → s.time.servo = 1 →
    s.time.bellwether = false → ∃ t, exec (.ptpAnnounceReceived 0 a) s = .next t ∧ t.time.portState = [8, 3] ∧
      t.time.servo = 3 ∧ t.time.gmId = a.gmId ∧ t.time.announce = [some a, none] ∧ t.time.bellwether = false ∧
      t.time.ont = s.time.ont ∧ t.power = s.power) ∧
  (∀ (s : State) (a : Announce), ptpRuns s 0 = true → ptpPort s 1 = false → s.mgmt.malorRuns = true → act s 0x0505 = 1 →
    s.time.announce = [some a, none] → s.time.portState = [9, 3] → s.time.servo = 4 → s.time.bellwether = false →
    ∃ t, exec (.announceReceiptTimeout 0) s = .next t ∧ t.time.portState = [4, 3] ∧ t.time.servo = 5 ∧ t.time.gmId = 0 ∧
      t.time.announce = [none, none] ∧ t.time.locked = s.time.locked ∧ t.time.ont = s.time.ont)

/-- Sessions. SEC_SESSION_OPEN with a valid point makes the free session OPENING under a non-zero SESSION ID, which begins the response;
it is refused with RC_SEC_POINT, CAPACITY, DRBG or NO_ROOT, and then changes nothing but SEC_CMD and SEC_CMD_STAT. SEC_SESSION_CONFIRM with a right signature by the operator key opens the session with
SEQ 0 and its derived keys in its two slots, and with a wrong one discards it. SEC_SESSION_CLOSE under its tag and the idle timeout
end a session and clear its slots; the opening timeout discards an OPENING one. No other session changes. -/
def Obligations.Sessions : Prop :=
  (∀ (m : Mail) (s : State) (k : Nat), taken 0x0310 m s = true → m.payload.length = 128 → s.sec.rootOk = true →
    s.sec.drbgOk = true → freeSession (takenState 0x0310 m s) = some k → k < s.sec.sessions.length →
    ∃ t x p, exec (.secSessionOpen m) s = (if Config.p384Valid (m.payload.take 96) then answers 0x0310 m s t (leBytes 4 x.id ++ p)
        else refuses 0x0310 m s (secShown 0x0310 0x0318 (takenState 0x0310 m s)) 0x0318 0) ∧
      t.sec.sessions[k]? = some (some x) ∧ x.isOpen = false ∧ x.id ≠ 0 ∧ x.id < 2 ^ 32 ∧
      (∀ j, j ≠ k → t.sec.sessions[j]? = (takenState 0x0310 m s).sec.sessions[j]?) ∧ t.sec.slots = s.sec.slots ∧
      t.sec.otp = s.sec.otp ∧ t.host.params = s.host.params) ∧
  (∀ (m : Mail) (s : State), taken 0x0310 m s = true → m.payload.length = 128 → s.sec.rootOk = true → s.sec.drbgOk = true →
    freeSession (takenState 0x0310 m s) = none → exec (.secSessionOpen m) s = refuses 0x0310 m s
      (secShown 0x0310 (if Config.p384Valid (m.payload.take 96) then 0x0307 else 0x0318) (takenState 0x0310 m s))
      (if Config.p384Valid (m.payload.take 96) then 0x0307 else 0x0318) 0) ∧
  (∀ (m : Mail) (s : State), taken 0x0310 m s = true → m.payload.length = 128 → s.sec.rootOk = false ∨ s.sec.drbgOk = false →
    exec (.secSessionOpen m) s = refuses 0x0310 m s
      (secShown 0x0310 (if s.sec.rootOk then 0x0319 else 0x0313) (takenState 0x0310 m s)) (if s.sec.rootOk then 0x0319 else 0x0313) 0) ∧
  (∀ (m : Mail) (s : State) (id pos k : Nat) (x : Session) (sig : Bytes), taken 0x0311 m s = true → id < 2 ^ 32 → pos ≤ 1 →
    sig.length = 96 → m.payload = leBytes 4 id ++ leBytes 1 pos ++ zeros 3 ++ sig → s.sec.rootOk = true →
    openingNo (takenState 0x0311 m s) id = some k → (takenState 0x0311 m s).sec.sessions[k]? = some (some x) →
    s.sec.slots.length = 64 → ∃ t u, exec (.secSessionConfirm m) s = (
        if slotOk s (8 + pos) 2 = true ∧ Config.ecdsaVerify (nth {} s.sec.slots (8 + pos)).key
          (Config.sha384 (x.transcript ++ ascii "HOST")) sig = true then answers 0x0311 m s t []
        else refuses 0x0311 m s u 0x0314 0) ∧
      (∃ y, t.sec.sessions[k]? = some (some y) ∧ y.isOpen = true ∧ y.id = x.id ∧ y.seq = 0) ∧
      t.sec.slots[12 + 2 * k]? = some ⟨1, 4, 3, kdf x.z (ascii "DN-SMAC") x.transcript 256⟩ ∧
      t.sec.slots[13 + 2 * k]? = some ⟨1, 4, 3, kdf x.z (ascii "DN-SENC") x.transcript 256⟩ ∧
      (∀ j, j ≠ 12 + 2 * k → j ≠ 13 + 2 * k → t.sec.slots[j]? = s.sec.slots[j]?) ∧ u.sec.sessions[k]? = some none ∧
      u.sec.slots = s.sec.slots ∧ (∀ j, j ≠ k → t.sec.sessions[j]? = (takenState 0x0311 m s).sec.sessions[j]? ∧
        u.sec.sessions[j]? = (takenState 0x0311 m s).sec.sessions[j]?)) ∧
  (∀ (m : Mail) (s : State) (k : Nat), taken 0x0312 m s = true → mailAuth m = true → m.payload = [] →
    sessionNo (takenState 0x0312 m s) m.session = some k → s.sec.slots.length = 64 →
    ∃ t, exec (.secSessionClose m) s = answers 0x0312 m s t [] ∧ t.sec.sessions[k]? = some none ∧
      t.sec.slots[12 + 2 * k]? = some {} ∧ t.sec.slots[13 + 2 * k]? = some {} ∧
      (∀ j, j ≠ 12 + 2 * k → j ≠ 13 + 2 * k → t.sec.slots[j]? = s.sec.slots[j]?) ∧
      (∀ j, j ≠ k → t.sec.sessions[j]? = (takenState 0x0312 m s).sec.sessions[j]?)) ∧
  (∀ (s : State) (k : Nat) (x : Session), s.sec.sessions[k]? = some (some x) → x.isOpen = false →
    exec (.sessionOpeningTimeout k) s = .next { s with sec := { s.sec with sessions := s.sec.sessions.set k none } } ∧
    exec (.sessionIdleTimeout k) s = .next s) ∧
  (∀ (s : State) (k : Nat) (x : Session), s.sec.sessions[k]? = some (some x) → x.isOpen = true →
    exec (.sessionOpeningTimeout k) s = .next s ∧
    exec (.sessionIdleTimeout k) s = .next (raise 0x0211 10 x.id 0 0 { s with sec := { s.sec with
      sessions := s.sec.sessions.set k none, slots := (s.sec.slots.set (12 + 2 * k) {}).set (13 + 2 * k) {} } }))

/-- Keys and OTP. SEC_KEY_IMPORT under a session decrypts the secret with the session's K_enc; a failure is RC_SEC_SIG and changes no key, a secret
goes into its slot with its binding and epoch; SEC_KEY_CLEAR empties the position; both raise EV_SEC_KEY_CHANGED. SEC_OTP_KEY_SET programs
the 24 blank words of a valid point and no other word, and SEC_KEY_REVOKE sets the one bit and empties the slot while the other
position is alive, else it is refused; no OTP word loses a bit. A failed health test halts the DRBG and is counted; a
refilled cache is valid again. -/
def Obligations.KeysAndOtp : Prop :=
  (∀ (m : Mail) (s : State) (n cls pos e : Nat) (ct : Bytes), taken 0x0330 m s = true → mailAuth m = true →
    sessionNo (takenState 0x0330 m s) m.session = some n → cls = 1 ∨ cls = 2 → pos ≤ 1 → e < 2 ^ 32 → ct.length = 48 →
    m.payload = leBytes 1 cls ++ leBytes 1 pos ++ zeros 2 ++ leBytes 4 e ++ ct → s.sec.slots.length = 64 →
    s.sec.epochs.length = 4 → ∃ t : Bytes → State, exec (.secKeyImport m) s = (match Config.gcmOpen
          (slotKey s (13 + 2 * n) 2) (leBytes 4 m.session ++ leBytes 4 m.seq ++ leBytes 4 2) (m.payload.take 8) ct with
        | none => refuses 0x0330 m s (secShown 0x0330 0x0314 (slotAsk (13 + 2 * n) 2 (takenState 0x0330 m s))) 0x0314 0
        | some key => answers 0x0330 m s (t key) []) ∧
      ∀ key, (t key).sec.slots[20 + 2 * (cls - 1) + pos]? = some ⟨if cls = 1 then 5 else 1, if cls = 1 then 1 else 2, 3, key⟩ ∧
        (∀ j, j ≠ 20 + 2 * (cls - 1) + pos → (t key).sec.slots[j]? = s.sec.slots[j]?) ∧
        (t key).sec.epochs[2 * (cls - 1) + pos]? = some e ∧ (t key).sec.otp = s.sec.otp ∧
        (t key).recorder = (raise 0x0312 13 cls pos e (slotAsk (13 + 2 * n) 2 (takenState 0x0330 m s))).recorder) ∧
  (∀ (m : Mail) (s : State) (cls pos : Nat), taken 0x0331 m s = true → cls = 1 ∨ cls = 2 → pos ≤ 1 →
    m.payload = leBytes 1 cls ++ leBytes 1 pos ++ zeros 2 → s.sec.slots.length = 64 →
    ∃ t, exec (.secKeyClear m) s = answers 0x0331 m s t [] ∧ t.sec.slots[20 + 2 * (cls - 1) + pos]? = some {} ∧
      (∀ j, j ≠ 20 + 2 * (cls - 1) + pos → t.sec.slots[j]? = s.sec.slots[j]?) ∧ t.sec.otp = s.sec.otp ∧
      t.recorder = (raise 0x0312 13 cls pos (nth 0 s.sec.epochs (2 * (cls - 1) + pos)) (takenState 0x0331 m s)).recorder) ∧
  (∀ (m : Mail) (s : State) (key pos : Nat) (pt : Bytes), taken 0x0321 m s = true → key ≤ 2 → pos ≤ 1 → pt.length = 96 →
    m.payload = leBytes 1 key ++ leBytes 1 pos ++ zeros 2 ++ pt → lifecycle s = 1 ∨ (pos = 1 ∧ lifecycle s = 2) →
    (∀ k, k < 24 → otpWord s (12 + 24 * (2 * key + pos) + k) = 0) →
    ∃ t, exec (.secOtpKeySet m) s = (if Config.p384Valid pt then answers 0x0321 m s t []
        else refuses 0x0321 m s (secShown 0x0321 0x0318 (takenState 0x0321 m s)) 0x0318 0) ∧
      (∀ k, k < 24 → otpWord t (12 + 24 * (2 * key + pos) + k) = byteField pt (4 * k) 4) ∧
      (∀ w, w < 12 + 24 * (2 * key + pos) ∨ 36 + 24 * (2 * key + pos) ≤ w → otpWord t w = otpWord s w) ∧
      (∀ j, j ≠ 4 + 2 * key + pos → t.sec.slots[j]? = s.sec.slots[j]?) ∧ t.sec.provA = s.sec.provA) ∧
  (∀ (m : Mail) (s : State) (key pos : Nat), taken 0x0322 m s = true → key ≤ 2 → pos ≤ 1 →
    m.payload = leBytes 1 key ++ leBytes 1 pos ++ zeros 2 → otpKeyLive s key (1 - pos) = true → s.sec.slots.length = 64 →
    ∃ t, exec (.secKeyRevoke m) s = answers 0x0322 m s t [] ∧ bit (otpWord t 10) (4 * (key + 1) + pos) = true ∧
      (∀ b, b ≠ 4 * (key + 1) + pos → bit (otpWord t 10) b = bit (otpWord s 10) b) ∧ (∀ w, w ≠ 10 → otpWord t w = otpWord s w) ∧
      t.sec.slots[4 + 2 * key + pos]? = some {} ∧ (∀ j, j ≠ 4 + 2 * key + pos → t.sec.slots[j]? = s.sec.slots[j]?)) ∧
  (∀ (m : Mail) (s : State) (key pos : Nat), taken 0x0322 m s = true → key ≤ 2 → pos ≤ 1 →
    m.payload = leBytes 1 key ++ leBytes 1 pos ++ zeros 2 → otpKeyLive s key (1 - pos) = false →
    exec (.secKeyRevoke m) s = refuses 0x0322 m s (secShown 0x0322 0x0306 (takenState 0x0322 m s)) 0x0306 0) ∧
  (∀ s : State, s.sec.drbgOk = true → exec .drbgHealthFail s = .next (raise 0x0313 14 0 0 0 { s with sec := { s.sec with
    drbgOk := false, drbgFail := satInc 32 s.sec.drbgFail } })) ∧
  (∀ (s : State) (p : Nat), p < 2 → (nth {} s.sec.slots (20 + p)).type ≠ 0 → exec (.keyCacheRefillDone p) s = .next { s with
    sec := { s.sec with cacheValid := s.sec.cacheValid.set p true } })

/-- Lifecycle, enrolment and attestation. SEC_LIFECYCLE_ADVANCE with the right confirm word and the next state as its target advances by
one state when its preconditions hold, is refused otherwise, and on the way to RETIRED clears slots, records and helper data
and restarts. SEC_ENROL in MANUFACTURE without helper data writes both copies alike and answers by whether the root came up; with
helper data or later it is refused. SEC_DIK_GET, SEC_CERT_GET and SEC_ATTEST answer and change nothing but SEC_CMD and SEC_CMD_STAT (SEC_ATTEST also
counts a refused request for the identity key). SEC_CERT_WRITE keeps the
bytes of the one certificate, and SEC_CERT_COMMIT either names its first failing check or stores both certificates in both copies with the
key positions empty, each copy under its own HMAC. -/
def Obligations.LifecycleEnrolmentAttestation : Prop :=
  (∀ (m : Mail) (s : State) (n c v : Nat), taken 0x0320 m s = true → n < 2 ^ 8 → c < 2 ^ 32 →
    m.payload = leBytes 1 n ++ zeros 3 ++ leBytes 4 c → otpWord s 2 = v → c ≠ v ∨ n ≠ lifecycle s + 1 →
    exec (.secLifecycleAdvance m) s = refuses 0x0320 m s (secShown 0x0320 (if c ≠ v then 0x0317 else 0x0306) (takenState 0x0320 m s))
      (if c ≠ v then 0x0317 else 0x0306) 0) ∧
  (∀ (m : Mail) (s : State), taken 0x0320 m s = true → m.payload = leBytes 1 1 ++ zeros 3 ++ leBytes 4 (otpWord s 2) →
    otpWord s 2 < 2 ^ 32 → lifecycle s = 0 → s.sec.rootOk = true → certStored s = true →
    ∃ t, exec (.secLifecycleAdvance m) s = answers 0x0320 m s t [] ∧ lifecycle t = 1 ∧ t.sec.slots = s.sec.slots ∧
      (∀ w, w ≠ 0 → otpWord t w = otpWord s w) ∧ t.recorder = (raise 0x0311 12 0 0 0 (takenState 0x0320 m s)).recorder) ∧
  (∀ (m : Mail) (s : State), taken 0x0320 m s = true → m.payload = leBytes 1 2 ++ zeros 3 ++ leBytes 4 (otpWord s 2) →
    otpWord s 2 < 2 ^ 32 → lifecycle s = 1 → (∀ k, k < 3 → allZero (otpKey s k 0) = false) →
    ∃ t, exec (.secLifecycleAdvance m) s = answers 0x0320 m s t [] ∧ lifecycle t = 2 ∧ t.sec.slots = s.sec.slots ∧
      t.sec.sessions = (takenState 0x0320 m s).sec.sessions ∧ (t.host.sessionRequired = true ↔ par s 0x0200 = 1)) ∧
  (∀ (m : Mail) (s : State) (k : Nat), taken 0x0320 m s = true → m.payload = leBytes 1 2 ++ zeros 3 ++ leBytes 4 (otpWord s 2) →
    otpWord s 2 < 2 ^ 32 → lifecycle s = 1 → k < 3 → allZero (otpKey s k 0) = true →
    exec (.secLifecycleAdvance m) s = refuses 0x0320 m s (secShown 0x0320 0x0316 (takenState 0x0320 m s)) 0x0316 0) ∧
  (∀ (m : Mail) (s : State), taken 0x0320 m s = true → m.payload = leBytes 1 3 ++ zeros 3 ++ leBytes 4 (otpWord s 2) →
    otpWord s 2 < 2 ^ 32 → lifecycle s = 2 → ∃ t, exec (.secLifecycleAdvance m) s = answers 0x0320 m s t [] ∧ lifecycle t = 3 ∧
      (∀ (k : Nat) (x : KeySlot), t.sec.slots[k]? = some x → x = {}) ∧ (∀ x ∈ t.sec.sessions, x = none) ∧ t.sec.provA = none ∧
      t.sec.provB = none ∧ t.sec.helper0 = [] ∧ t.sec.helper1 = [] ∧ t.mgmt.restart = some 0) ∧
  (∀ (m : Mail) (s : State), taken 0x0323 m s = true → m.payload = [] → lifecycle s = 0 →
    helperPasses s s.sec.helper0 = false → helperPasses s s.sec.helper1 = false → s.sec.drbgOk = true → ∃ t h, exec (.secEnrol m) s = (if t.sec.rootOk then answers 0x0323 m s t []
        else refuses 0x0323 m s t 0x0310 0) ∧ t.sec.helper0 = h ∧ t.sec.helper1 = h ∧ helperPasses s h = true ∧ t.sec.otp = s.sec.otp ∧
      t.sec.provA = s.sec.provA ∧ t.host.params = s.host.params) ∧
  (∀ (m : Mail) (s : State), taken 0x0323 m s = true → m.payload = [] → lifecycle s ≠ 0 ∨ helperPasses s s.sec.helper0 = true ∨
      helperPasses s s.sec.helper1 = true →
    exec (.secEnrol m) s = refuses 0x0323 m s (secShown 0x0323 0x0306 (takenState 0x0323 m s)) 0x0306 0) ∧
  (∀ (m : Mail) (s : State), taken 0x0344 m s = true → m.payload = [] → lifecycle s = 0 → s.sec.rootOk = true →
    exec (.secDikGet m) s = answers 0x0344 m s (secShown 0x0344 0 (takenState 0x0344 m s))
      (leBytes 8 (otpWord s 2 + otpWord s 3 * 2 ^ 32) ++ Config.p384Public (nth {} s.sec.slots 0).key)) ∧
  (∀ (m : Mail) (s : State) (c n o : Nat) (b : Bytes) (x : Staged), taken 0x0342 m s = true → lifecycle s = 0 → s.sec.rootOk = true →
    c ≤ 1 → n ≤ 2048 → b.length ≤ 960 → o + b.length ≤ n →
    m.payload = leBytes 1 c ++ zeros 3 ++ leBytes 4 n ++ leBytes 4 o ++ leBytes 4 b.length ++ b → s.sec.staged[c]? = some x →
    ∃ t y, exec (.secCertWrite m) s = answers 0x0342 m s t [] ∧ t.sec.staged[c]? = some y ∧ y.total = n ∧ (o, b) ∈ y.ranges ∧
      (x.total = n → ∀ r ∈ x.ranges, r ∈ y.ranges) ∧ (∀ j, j ≠ c → t.sec.staged[j]? = s.sec.staged[j]?) ∧
      t.sec.provA = s.sec.provA ∧ t.sec.otp = s.sec.otp) ∧
  (∀ (m : Mail) (s : State), taken 0x0343 m s = true → m.payload = [] → lifecycle s = 0 → s.sec.rootOk = true →
    (∀ p, provision s = some p → p.seq + 2 < 2 ^ 32) →
    ∃ t a b, exec (.secCertCommit m) s = (if certChecks s = 0 then answers 0x0343 m s t [] else .next (respond (ring 0x0343 m s)
        0x0343 m (refuse (secShown 0x0343 0x031A (takenState 0x0343 m s)) 0x031A 0 (leBytes 1 (certChecks s))))) ∧ t.sec.provA = some a ∧
      t.sec.provB = some b ∧ a.devCert = b.devCert ∧ a.devCert = stagedBytes (nth {} s.sec.staged 0) ∧ a.caCert = b.caCert ∧
      a.caCert = stagedBytes (nth {} s.sec.staged 1) ∧ a.wrapped = [none, none, none, none] ∧ b.wrapped = a.wrapped ∧
      a.seq ≠ b.seq ∧
      (∀ p, p = a ∨ p = b → p.mac = provMac s.sec.storage p) ∧ t.sec.slots = s.sec.slots) ∧
  (∀ (m : Mail) (s : State) (c o n : Nat) (p : Provision), taken 0x0341 m s = true → c ≤ 1 → n ≤ 960 → o < 2 ^ 32 →
    m.payload = leBytes 1 c ++ zeros 3 ++ leBytes 4 o ++ leBytes 4 n → provision s = some p →
    o + n ≤ (if c = 0 then p.devCert else p.caCert).length → exec (.secCertGet m) s = answers 0x0341 m s (secShown 0x0341 0 (takenState 0x0341 m s))
      (((if c = 0 then p.devCert else p.caCert).drop o).take n)) ∧
  (∀ (m : Mail) (s : State), taken 0x0340 m s = true → m.payload.length = 32 → s.sec.rootOk = true →
    ∃ b r : Bytes, exec (.secAttest m) s = answers 0x0340 m s (secShown 0x0340 0 (slotAsk 0 3 (takenState 0x0340 m s)))
        (b ++ r ++ Config.ecdsaSign (slotKey s 0 3) (Config.sha384 (b ++ r))) ∧
      b = leBytes 4 0xD742A77E ++ leBytes 2 1 ++ leBytes 2 480 ++ uidBytes s ++ leBytes 4 (idVariant s) ++
        leBytes 1 (lifecycle s) ++ leBytes 1 (if s.host.minimal then 1 else if s.host.ready then 0 else 2)) ∧
  (∀ (m : Mail) (s : State), taken 0x0340 m s = true → m.payload.length = 32 → s.sec.rootOk = false →
    exec (.secAttest m) s = refuses 0x0340 m s (secShown 0x0340 0x0313 (takenState 0x0340 m s)) 0x0313 0)

/-- Replacing the model. MODEL_INFO_GET says whether a model is in effect or switching, its slot, trial and signature. The attribute pass
rewrites every entry of the running variant's table for the staged model as R212 says, and no other state of the model. At tsw, with the pass complete
and READY, the staged image comes into effect with its signature, Drove's state is discarded and the switch is no longer pending;
with the pass not complete it moves to a later boundary of its kind, or by 10 ms, and the old model stays. Before tsw nothing
happens. The pass waits until 5 ms before tsw. MODEL_TRIAL_REVERT without a trial is refused; with the switch pending it cancels it,
gives entries that the pass rewrote the attributes of the model in effect, and writes the boot record with the fallback slot active. After an uncorrectable error the copy is reloaded from the slot in effect. -/
def Obligations.ReplacingTheModel : Prop :=
  (∀ (m : Mail) (s : State), taken 0x0800 m s = true → m.payload = [] → ∃ b,
    exec (.modelInfoGet m) s = answers 0x0800 m s (takenState 0x0800 m s) b ∧
    b.take 3 = leBytes 1 (if s.model.image = [] then 0 else if s.model.switching then 2 else 1) ++ leBytes 1 (b2n s.model.slot) ++
      leBytes 1 (b2n (bootRec s).modelTrial) ∧ (b.drop 16).take 8 = leBytes 8 s.host.modelSig ∧ b.length = 128) ∧
  (∀ (m : Mail) (s : State), taken 0x0802 m s = true → m.payload = [] → (bootRec s).modelTrial = false →
    exec (.modelTrialRevert m) s = refuses 0x0802 m s (takenState 0x0802 m s) 0x0806 0) ∧
  (∀ (m : Mail) (s : State), taken 0x0802 m s = true → m.payload = [] → (bootRec s).modelTrial = true →
    s.model.switching = true → ∃ t, exec (.modelTrialRevert m) s = answers 0x0802 m s t [] ∧
      (s.model.passDone = false → t.model = { s.model with staged := [], switching := false, passDone := false }) ∧
      t.model.image = s.model.image ∧ t.model.staged = [] ∧ t.model.switching = false ∧ t.model.passDone = false ∧
      (s.model.passDone = true → ∀ k, k < tableSize s → entry t k = passEntry s.model.image k (entry s k)) ∧
      (bootRec t).modelActive = !(bootRec s).modelActive ∧ (bootRec t).modelTrial = false ∧
      (bootRec t).malorActive = (bootRec s).malorActive ∧ (bootRec t).aplarActive = (bootRec s).aplarActive ∧
      t.recorder = (raise 0x0813 49 0 0 0 (takenState 0x0802 m s)).recorder ∧ t.power = (takenState 0x0802 m s).power) ∧
  (∀ s : State, s.model.switching = true → malorWorks s = true → s.model.passDone = false →
    s.model.tswKind = 2 ∨ s.model.tsw ≤ s.time.ont + 5000000 → ∃ t, exec .attributePass s = .next t ∧ t.model.passDone = true ∧ t.model.image = s.model.image ∧
      t.model.staged = s.model.staged ∧ t.model.tsw = s.model.tsw ∧ t.host = s.host ∧ t.est = s.est ∧
      (∀ k, tableSize s ≤ k → entry t k = entry s k) ∧
      (∀ k, k < tableSize s → nSubst s.model.staged ≤ k → entry t k = { gen := wrapInc 32 (entry s k).gen }) ∧
      (∀ k g c, k < tableSize s → k < nSubst s.model.staged → g = recN s.model.staged 0x12 16 k 0 1 →
        c = recN s.model.staged 0x12 16 k 1 1 → entry t k =
          if (entry s k).present = false then { gen := wrapInc 32 (entry s k).gen, present := true, group := g, source := c }
          else if (entry s k).group = g then { entry s k with gen := wrapInc 32 (entry s k).gen, source := c }
          else { entry s k with gen := wrapInc 32 (entry s k).gen, group := g, source := c, seq := 0, keyEpoch := 0 })) ∧
  (∀ s : State, s.model.switching = true → s.model.tswKind ≠ 2 → s.time.ont + 5000000 < s.model.tsw →
    exec .attributePass s = .next s) ∧
  (∀ s : State, s.model.switching = false ∨ s.time.ont < s.model.tsw → exec .modelSwitch s = .next s) ∧
  (∀ s : State, inRun s = true → s.model.switching = true → s.model.tsw ≤ s.time.ont → s.model.passDone = true →
    s.host.ready = true → ∃ t, exec .modelSwitch s = .next t ∧ t.model.image = s.model.staged ∧ t.model.slot = s.model.stagedSlot ∧
      t.model.switching = false ∧ t.model.staged = [] ∧ t.model.table = s.model.table ∧ t.host.modelSig = modelSig s.model.staged ∧
      t.est.droveValid = false ∧ t.host.params = s.host.params ∧ t.power = s.power ∧ t.time = s.time) ∧
  (∀ s : State, inRun s = true → s.model.switching = true → s.model.tsw ≤ s.time.ont →
    s.model.passDone = false ∨ s.host.ready = false → ∃ t, exec .modelSwitch s = .next t ∧ t.model.image = s.model.image ∧
      t.model.switching = true ∧ t.model.staged = s.model.staged ∧ t.model.passDone = false ∧
      (s.model.tswKind = 2 → t.model.tsw = s.time.ont + 10000000) ∧ (∀ d, (s.model.tswKind = 1 ∧ d = parN s 0x0720 * 1000000) ∨
        (s.model.tswKind = 0 ∧ d = parN s 0x0900 * 1000000000) → 0 < d → s.time.ont < t.model.tsw ∧
        t.model.tsw ≤ s.time.ont + d ∧ (t.model.tsw - s.model.tsw) % d = 0) ∧
      t.host.modelSig = s.host.modelSig ∧ t.est = s.est) ∧
  (∀ (s : State) (ty : Nat), s.model.image ≠ [] → malorWorks s = true → exec (.modelCopyEcc ty) s =
    .next (raise 0x0816 51 ty 0 0 { s with model := { s.model with image := if s.model.slot then s.mgmt.modelB else s.mgmt.modelA } }))

/-- MODEL_SUBST_WRITE. A record that passes its checks and is later than the entry replaces the entry's measurements, absent ones by 0,
with its T_MEAS, the ONT of application, SRC_HOST 1, KEY_EPOCH 0 and the next GEN, keeps its SEQ, group and source, and changes no
other entry; at an ONT at which ingest has updated the entry only GEN moves (the model's reading of R18, log 23); a record that is not later is skipped and changes nothing, and the response counts both. The first failing record
refuses the whole command with its index and its check's reason, and nothing is written. -/
def Obligations.SubstationWrites : Prop :=
  (∀ (m : Mail) (s : State) (r : Bytes) (k mp : Nat) (e : Entry), taken 0x0810 m s = true → m.payload = [1, 0, 0, 0] ++ r →
    r.length = 40 → substFail s r = none → k = byteField r 0 2 → mp = byteField r 2 2 → e = entry s k → e.tMeas < byteField r 8 8 →
    e.tAcc ≠ s.time.ont ∨ e.srcHost = true →
    ∃ t, exec (.modelSubstWrite m) s = answers 0x0810 m s t [1, 0, 0, 0, 0, 0, 0, 0] ∧ entry t k = { e with
        gen := (e.gen + 1) % 2 ^ 32
        mPresent := mp
        valid := mp != 0
        tSup := if bit mp 0 then byteFieldS r 0x10 2 else 0
        tRet := if bit mp 1 then byteFieldS r 0x12 2 else 0
        flow := if bit mp 2 then byteFieldS r 0x14 4 else 0
        dp := if bit mp 3 then byteFieldS r 0x18 4 else 0
        valve := if bit mp 4 then byteField r 0x1C 2 else 0
        demand := if bit mp 5 then byteFieldS r 0x20 4 else 0
        tMeas := byteField r 8 8
        tAcc := s.time.ont
        srcHost := true
        keyEpoch := 0
        eccBad := false } ∧
      (∀ j, j ≠ k → entry t j = entry s j) ∧ t.model.image = s.model.image ∧ t.time = s.time ∧ t.recorder = s.recorder) ∧
  (∀ (m : Mail) (s : State) (r : Bytes) (k : Nat) (e : Entry), taken 0x0810 m s = true → m.payload = [1, 0, 0, 0] ++ r →
    r.length = 40 → substFail s r = none → k = byteField r 0 2 → e = entry s k → e.tMeas < byteField r 8 8 → 0 < e.tMeas →
    e.tAcc = s.time.ont → e.srcHost = false → ∃ t, exec (.modelSubstWrite m) s = answers 0x0810 m s t [1, 0, 0, 0, 0, 0, 0, 0] ∧
      entry t k = { e with gen := (e.gen + 1) % 2 ^ 32 } ∧ (∀ j, j ≠ k → entry t j = entry s j)) ∧
  (∀ (m : Mail) (s : State) (r : Bytes), taken 0x0810 m s = true → m.payload = [1, 0, 0, 0] ++ r → r.length = 40 →
    substFail s r = none → byteField r 8 8 ≤ (entry s (byteField r 0 2)).tMeas →
    exec (.modelSubstWrite m) s = answers 0x0810 m s (takenState 0x0810 m s) [0, 0, 1, 0, 1, 0, 0, 0]) ∧
  (∀ (m : Mail) (s : State) (n k r : Nat) (b : Bytes), taken 0x0810 m s = true → m.payload = leBytes 2 n ++ [0, 0] ++ b →
    1 ≤ n → n ≤ 24 → b.length = 40 * n → k < n → (∀ j, j < k → substFail s ((b.drop (40 * j)).take 40) = none) →
    substFail s ((b.drop (40 * k)).take 40) = some r → exec (.modelSubstWrite m) s =
      .next (respond (ring 0x0810 m s) 0x0810 m (refuse (takenState 0x0810 m s) r 0 (leBytes 2 k)))) ∧
  (∀ (s : State) (r : Bytes), byteField r 2 2 < 64 → byteField r 4 4 = 0 → byteField r 0x1E 2 = 0 → byteField r 0x24 4 = 0 →
    substFail s r = if s.model.image = [] then some 0x0803 else if attrN s ≤ byteField r 0 2 then some 0x0805
      else if (entry s (byteField r 0 2)).source = 0 then some 0x0814
      else if (bit (byteField r 2 2) 0 = true ∧ (byteFieldS r 0x10 2 < -5000 ∨ 20000 < byteFieldS r 0x10 2)) ∨
        (bit (byteField r 2 2) 1 = true ∧ (byteFieldS r 0x12 2 < -5000 ∨ 20000 < byteFieldS r 0x12 2)) then some 0x0805
      else if s.time.ont + parN s 0x0800 * 1000000 < byteField r 8 8 then some 0x0815 else none)

/-- Jobs. An arm of an idle queue starts its job with its registers anew, waits while the other queue's job runs, is refused on queue 1 while that is
not IDLE (or ABORTING with an arm that waits already), and ends at once with TIMEOUT where the deadline is past; on a running queue 0 it stops that job and waits with the new JOB and STICKY
in the registers, and on an ABORTING queue it waits for the abort. A block end of a running dispatch job suspends it for a waiting
estimation job, and ends a stopping one with TIMEOUT. A job that ends is COMPLETE, DEGRADED or TIMEOUT, publishes its diagnostic set
and frees the queue; an overrun block or an invalid header sets PROG_FAULT and ends it as DEGRADED. A reached deadline stops a running job
and ends a waiting or suspended one, and one not reached does nothing. An abort leads to ABORTED without a publication. The other
queue keeps its job throughout. -/
def Obligations.OxJobs : Prop :=
  (∀ (s : State) (q p n d : Nat) (b : Bool), q < 2 → s.ox.q.length = 2 → inRun s = true → oxCanRun s = true → (oxq s 0).state = 0 →
    (oxq s 1).state = 0 → deadlineReached s d = false → p < 2 ^ 8 → n < 2 ^ 16 →
    ∃ t, exec (.oxQqArm q p n d b) s = .next t ∧ (oxq t q).state = 2 ∧
      (oxq t q).sticky = 0 ∧ (oxq t q).job = wrapInc 32 (oxq s q).job ∧ (oxq t q).arm.prog = p ∧ (oxq t q).arm.iterLimit = n ∧
      (oxq t q).arm.deadline = d ∧ (oxq t q).bench = b ∧ (oxq t q).armOnt = s.time.ont ∧ (oxq t q).startOnt = s.time.ont ∧
      oxq t (1 - q) = oxq s (1 - q) ∧ t.host = s.host ∧ t.est = s.est ∧ t.dsp = s.dsp) ∧
  (∀ (s : State) (p n d : Nat) (b : Bool), s.ox.q.length = 2 → inRun s = true → (oxq s 0).state = 0 → (oxq s 1).state = 2 →
    deadlineReached s d = false → ∃ t, exec (.oxQqArm 0 p n d b) s = .next t ∧ (oxq t 0).state = 1 ∧ oxq t 1 = oxq s 1 ∧ t.est = s.est) ∧
  (∀ (s : State) (p n d : Nat) (b : Bool), (oxq s 1).state ≠ 0 → (oxq s 1).state ≠ 5 ∨ (oxq s 1).next.isSome = true →
    exec (.oxQqArm 1 p n d b) s = .next s) ∧
  (∀ (s : State) (p n d : Nat) (b : Bool), s.ox.q.length = 2 → inRun s = true → (oxq s 0).state = 0 → deadlineReached s d = true →
    ∃ t, exec (.oxQqArm 0 p n d b) s = .next t ∧ (oxq t 0).state = 0 ∧ (oxq t 0).outcome = 2 ∧
      t.host.resDiagEst = (s.host.resDiagEst + 1) % 2 ^ 32 ∧ oxq t 1 = oxq s 1) ∧
  (∀ (s : State) (q p n d : Nat) (b : Bool), q < 2 → s.ox.q.length = 2 → inRun s = true → (oxq s q).next = none →
    (oxq s q).prev = none → (q = 0 ∧ (oxq s 0).state = 2) ∨ (oxq s q).state = 5 → deadlineReached s d = false → p < 2 ^ 8 →
    ∃ t a, exec (.oxQqArm q p n d b) s = .next t ∧ (oxq t q).state = (if (oxq s q).state = 5 then 5 else 4) ∧
      (oxq t q).next = some (a, s.time.ont) ∧ a.prog = p ∧ a.deadline = d ∧ (oxq t q).sticky = 0 ∧
      (oxq t q).job = wrapInc 32 (oxq s q).job ∧ (oxq t q).prev = some ((oxq s q).sticky, (oxq s q).job) ∧
      oxq t (1 - q) = oxq s (1 - q)) ∧
  (∀ (s : State) (h : BlockHead), s.ox.q.length = 2 → oxCanRun s = true → blockOk s h = true → (oxq s 0).state = 1 →
    (oxq s 1).state = 2 → (oxq s 1).prev = none → jobLate s 1 = false → bit (oxq s 1).sticky 8 = false →
    bit (oxq s 1).sticky 9 = false → bit (oxq s 1).sticky 10 = false → ∃ t, exec (.oxBlockEnd 1 h 0) s = .next t ∧
      (oxq t 1).state = 3 ∧ (oxq t 1).susp = min 65535 ((oxq s 1).susp + 1) ∧ bit (oxq t 1).sticky 11 = true ∧
      (oxq t 1).block = (oxq s 1).block + 1 ∧ (oxq t 1).job = (oxq s 1).job ∧ (oxq t 0).state = 2 ∧ (oxq t 0).job = (oxq s 0).job) ∧
  (∀ (s : State) (q n : Nat) (h : BlockHead), q < 2 → s.ox.q.length = 2 → oxClock s = true → (oxq s q).state = 4 →
    (oxq s q).next = none → (oxq s q).prev = none →
    ∃ t, exec (.oxBlockEnd q h n) s = .next t ∧ (oxq t q).state = 0 ∧ (oxq t q).outcome = 2 ∧ (oxq t q).job = (oxq s q).job ∧
      (oxq t (1 - q)).job = (oxq s (1 - q)).job) ∧
  (∀ (s : State) (q n : Nat) (h : BlockHead), q < 2 → s.ox.q.length = 2 → oxClock s = true → (oxq s q).state = 2 →
    (oxq s q).next = none → (oxq s q).prev = none → blockOk s h = false → jobLate s q = false →
    ∃ t, exec (.oxBlockEnd q h n) s = .next t ∧ (oxq t q).state = 0 ∧ (oxq t q).outcome = 1 ∧ bit (oxq t q).sticky 9 = true) ∧
  (∀ (s : State) (q d : Nat), q < 2 → s.ox.q.length = 2 → oxClock s = true → (oxq s q).state = 2 → (oxq s q).next = none →
    (oxq s q).prev = none →
    ∃ t, exec (.oxJobEnd q d) s = .next t ∧ (oxq t q).state = 0 ∧ (oxq t q).outcome =
      (if jobLate s q = true then 2 else if isDegraded (oxq t q) then 1 else 0) ∧
      (oxq t q).mem = (oxq (jobCalls q (jobFuel (oxq s q)) s) q).mem ∧
      (oxq t q).job = (oxq s q).job ∧ (oxq t q).endOnt = s.time.ont ∧
      (q = 0 → t.host.resDiagEst = (s.host.resDiagEst + 1) % 2 ^ 32) ∧
      (q = 1 → t.host.resDiagDsp = (s.host.resDiagDsp + 1) % 2 ^ 32) ∧
      (s.power.oxRelockDue = false → t.power = s.power) ∧ t.time = s.time) ∧
  (∀ (s : State) (q : Nat), q < 2 → s.ox.q.length = 2 → oxClock s = true → (oxq s q).state = 2 → (oxq s q).next = none →
    (oxq s q).prev = none → ∃ t, exec (.blockOverrun q) s = .next t ∧ (oxq t q).state = 0 ∧
      (oxq t q).outcome = (if jobLate s q = true then 2 else 1) ∧ bit (oxq t q).sticky 9 = true) ∧
  (∀ (s : State) (q : Nat), q < 2 → s.ox.q.length = 2 → (oxq s q).state = 2 → (oxq s q).next = none → jobLate s q = true →
    ∃ t, exec (.oxDeadlineReached q) s = .next t ∧ oxq t q = { oxq s q with state := 4 } ∧ oxq t (1 - q) = oxq s (1 - q)) ∧
  (∀ (s : State) (q : Nat), q < 2 → s.ox.q.length = 2 → (oxq s q).state = 1 ∨ (oxq s q).state = 3 → (oxq s q).next = none →
    jobLate s q = true → ∃ t, exec (.oxDeadlineReached q) s = .next t ∧ (oxq t q).state = 0 ∧ (oxq t q).outcome = 2) ∧
  (∀ (s : State) (q : Nat), (oxq s q).next = none → jobLate s q = false ∨ (oxq s q).state = 0 →
    s.est.phase ≠ 2 ∨ (oxq s 0).state ≠ 0 → s.dsp.phase ≠ 2 ∨ (oxq s 1).state ≠ 0 → exec (.oxDeadlineReached q) s = .next s) ∧
  (∀ (s : State) (q : Nat), q < 2 → s.ox.q.length = 2 → (oxq s q).state ≠ 0 → ∃ t, exec (.oxQqAbort q) s = .next { s with
    ox := { s.ox with q := t } } ∧ t[q]? = some { oxq s q with
      state := 5, next := none
      suspNs := (oxq s q).suspNs + if (oxq s q).state = 3 then s.time.ont - (oxq s q).suspFrom else 0 } ∧
      t[1 - q]? = some (oxq s (1 - q))) ∧
  (∀ (s : State) (q : Nat), q < 2 → s.ox.q.length = 2 → (oxq s q).state = 5 → (oxq s q).next = none →
    ∃ t, exec (.solverAbortEnd q) s = .next t ∧ (oxq t q).state = 0 ∧ (oxq t q).outcome = 3 ∧
      t.host.resDiagEst = s.host.resDiagEst ∧ t.host.resDiagDsp = s.host.resDiagDsp ∧ (oxq t q).diag = (oxq s q).diag)

/-- Programs, errors and the bench job. The call of a block that ends while the estimation job factorises leaves in OXMEM the factor of the
held matrix, counts the pivots that were replaced, flags a count above the limit, and makes the factor VALID, VALID_DEGRADED or, after an
error in it or a model switch, INVALID; the call of a solve leaves the solution by that factor, and that of a residual its accumulators. A
pivot below the threshold or of the wrong sign is replaced by the threshold with the expected sign. The other queue keeps its registers
and its memory. An uncorrectable error sets DATA_ECC, or PROG_FAULT with a reload of the schedule set where it met a program, makes
the factor INVALID where it met the factor, is counted and raised, and leaves the job running until its block boundary; the end of the
reload lets waiting arms start. OX_SOLVE_ARM arms a bench job on an idle queue 1 with the deadline it gives, ends it at once as DEGRADED
where mode 1 finds no VALID factor, and is refused while DISPATCH is enabled, without a model, out of range, or while the queue is busy;
OX_ABORT starts the abort of a bench job, is answered when that has ended, and otherwise changes nothing. -/
def Obligations.OxErrorsAndBench : Prop :=
  (∀ (s : State) (q k : Nat), q < 2 → s.ox.q.length = 2 → (oxq s q).prev = none → k ≤ 2 → ∃ t, exec (.oxDataEcc q k) s = .next t ∧
      bit (oxq t q).sticky (if k = 2 then 9 else 8) = true ∧ (oxq t q).state = (oxq s q).state ∧ (oxq t q).job = (oxq s q).job ∧
      oxq t (1 - q) = oxq s (1 - q) ∧ t.ox.eccUncorr = min 65535 (s.ox.eccUncorr + 1) ∧
      (k = 2 → t.ox.reloading = true) ∧ (k ≠ 2 → t.ox.reloading = s.ox.reloading) ∧
      (k = 1 → t.ox.factor = s.ox.factor.set q 0 ∧ (oxq t q).facBad = true) ∧ (k ≠ 1 → t.ox.factor = s.ox.factor) ∧
      t.power = s.power ∧ t.est = s.est ∧
      t.recorder = (raise 0x0713 35 q (oxq t q).sticky (oxq s q).job s).recorder) ∧
  (∀ (s : State), s.ox.q.length = 2 → s.ox.reloading = true → malorWorks s = true → (oxq s 0).state = 1 → (oxq s 1).state = 0 →
    oxClock s = true → s.power.islDown.contains 8 = false → s.power.oxRelockDue = false →
    ∃ t, exec .oxScheduleReloadDone s = .next t ∧ t.ox.reloading = false ∧
      (oxq t 0).state = 2 ∧ oxq t 1 = oxq s 1 ∧ t.host = s.host) ∧
  (∀ (m : Mail) (s : State) (a n : Nat), taken 0x0710 m s = true → a ≤ 1 → 1 ≤ n → n ≤ 60000 →
    m.payload = leBytes 1 a ++ zeros 3 ++ leBytes 4 n → unitActive s 9 0 = false → s.model.image ≠ [] → (oxq s 1).state = 0 →
    (oxq s 0).state = 0 → s.ox.q.length = 2 → oxCanRun s = true → a = 0 ∨ nth 0 s.ox.factor 1 = 1 →
    ∃ t, exec (.oxSolveArm m) s = answers 0x0710 m s t [] ∧
      (oxq t 1).state = 2 ∧ (oxq t 1).bench = true ∧ (oxq t 1).arm.bench = true ∧ (oxq t 1).arm.prog = 0x0A ∧
      (oxq t 1).arm.refact = (a == 0) ∧
      (oxq t 1).arm.deadline = s.time.ont + n * 1000000 ∧ (oxq t 1).job = wrapInc 32 (oxq s 1).job ∧ oxq t 0 = oxq s 0 ∧
      t.est = s.est ∧ t.dsp = s.dsp) ∧
  (∀ (m : Mail) (s : State) (n : Nat), taken 0x0710 m s = true → 1 ≤ n → n ≤ 60000 →
    m.payload = leBytes 1 1 ++ zeros 3 ++ leBytes 4 n → unitActive s 9 0 = false → s.model.image ≠ [] → (oxq s 1).state = 0 →
    s.ox.q.length = 2 → nth 0 s.ox.factor 1 ≠ 1 →
    ∃ t, exec (.oxSolveArm m) s = answers 0x0710 m s t [] ∧ (oxq t 1).state = 0 ∧ (oxq t 1).outcome = 1 ∧
      bit (oxq t 1).sticky 10 = true ∧ oxq t 0 = oxq s 0) ∧
  (∀ (m : Mail) (s : State) (a n : Nat), taken 0x0710 m s = true → a < 256 → n < 2 ^ 32 →
    m.payload = leBytes 1 a ++ zeros 3 ++ leBytes 4 n → unitActive s 9 0 = true ∨ s.model.image = [] ∨ 1 < a ∨
      n = 0 ∨ 60000 < n ∨ ((oxq s 1).state ≠ 0 ∧ ((oxq s 1).state ≠ 5 ∨ (oxq s 1).next.isSome = true)) →
    exec (.oxSolveArm m) s = refuses 0x0710 m s (takenState 0x0710 m s)
      (if unitActive s 9 0 then 0x0706 else if s.model.image = [] then 0x0711 else if 1 < a ∨ n = 0 ∨ 60000 < n then 0x0705
        else 0x0701) 0) ∧
  (∀ (m : Mail) (s : State), taken 0x0711 m s = true → m.payload = [] → s.ox.q.length = 2 → (oxq s 1).state ≠ 0 →
    (oxq s 1).arm.bench = true → ∃ t, exec (.oxAbort m) s = .next t ∧ (oxq t 1).state = 5 ∧ (oxq t 1).next = none ∧
      t.host.waiting = s.host.waiting ++ [m.mbox] ∧ t.host.owner.getLsbD m.mbox = true ∧
      t.host.resDiagDsp = s.host.resDiagDsp ∧ t.est = s.est ∧ t.dsp = s.dsp) ∧
  (∀ (s : State) (k : Nat), s.ox.q.length = 2 → (oxq s 1).state = 5 → (oxq s 1).next = none → s.host.waiting = [k] → k < 8 →
    boxCmd s k = 0x0711 → ∃ t, exec (.solverAbortEnd 1) s = .next t ∧ (oxq t 1).state = 0 ∧ (oxq t 1).outcome = 3 ∧
      t.host.waiting = [] ∧ t.host.owner.getLsbD k = false ∧ t.host.done.getLsbD k = true) ∧
  (∀ (m : Mail) (s : State), taken 0x0711 m s = true → m.payload = [] → (oxq s 1).state = 0 ∨ (oxq s 1).arm.bench = false →
    exec (.oxAbort m) s = answers 0x0711 m s (takenState 0x0711 m s) []) ∧
  (∀ (s : State) (h : BlockHead) (x : OxQueue) (n : Nat), s.ox.q.length = 2 → s.ox.factor.length = 2 → jobRuns s 0 = true →
    x = oxq s 0 → x.state = 2 → x.prev = none → x.next = none → blockOk s h = true → jobLate s 0 = false →
    (∀ b, b = 8 ∨ b = 9 ∨ b = 10 → bit x.sticky b = false) → x.stage = .fact →
    n = ((factorise (oxFrame s 0) x.mem.mat x.tau x.delta).1.filter (fun k => k.bad)).length →
    ∃ t, exec (.oxBlockEnd 0 h 1) s = .next t ∧ (oxq t 0).mem =
        { x.mem with fac := (factorise (oxFrame s 0) x.mem.mat x.tau x.delta).1 } ∧ (oxq t 0).stage = .solve ∧
      (oxq t 0).nFact = x.nFact + 1 ∧ (oxq t 0).pivCur = n ∧ (x.pivLimit < n → bit (oxq t 0).sticky 5 = true) ∧
      (0 < n → bit (oxq t 0).sticky 4 = true) ∧ (oxq t 0).block = x.block + 1 ∧
      nth 0 t.ox.factor 0 = (if x.facBad || x.oldModel then 0 else if isDegraded (oxq t 0) then 2 else 1) ∧
      oxq t 1 = oxq s 1 ∧ nth 0 t.ox.factor 1 = nth 0 s.ox.factor 1) ∧
  (∀ (s : State) (h : BlockHead) (x : OxQueue), s.ox.q.length = 2 → jobRuns s 1 = true → x = oxq s 1 → x.state = 2 →
    x.prev = none → x.next = none → blockOk s h = true → jobLate s 1 = false → (oxq s 0).state = 0 →
    (∀ b, b = 8 ∨ b = 9 ∨ b = 10 → bit x.sticky b = false) → x.stage = .solve → x.fresh = false → x.arm.bench = true →
    s.ox.storeBad = false →
    ∃ t, exec (.oxBlockEnd 1 h 1) s = .next t ∧ (oxq t 1).mem =
        { x.mem with sol := (solveFactor (oxFrame s 1) x.mem.fac (rhsOps (oxFrame s 1) x.mem.rhs)).1 } ∧
      (oxq t 1).nSolve = x.nSolve + 1 ∧ (oxq t 1).stage = .over ∧ (oxq t 0).mem = (oxq s 0).mem) ∧
  (∀ (s : State) (h : BlockHead) (x : OxQueue), s.ox.q.length = 2 → jobRuns s 0 = true → x = oxq s 0 → x.state = 2 →
    x.prev = none → x.next = none → blockOk s h = true → jobLate s 0 = false →
    (∀ b, b = 8 ∨ b = 9 ∨ b = 10 → bit x.sticky b = false) → x.stage = .resid →
    refTol x < residualNorm (oxFrame s 0) (residualOf (oxFrame s 0) x.mem.mat x.mem.rhs x.mem.sol).1 → x.refDone < x.refSteps →
    ∃ t, exec (.oxBlockEnd 0 h 1) s = .next t ∧ (oxq t 0).mem =
        { x.mem with resid := (residualOf (oxFrame s 0) x.mem.mat x.mem.rhs x.mem.sol).1 } ∧
      (oxq t 0).resNow = [residualNorm (oxFrame s 0) (oxq t 0).mem.resid] ∧ (oxq t 0).stage = .corr ∧ oxq t 1 = oxq s 1) ∧
  (∀ (tau delta : Nat) (m : Int) (neg : Bool), (m = 0 ∨ m.natAbs < 2 ^ (31 - tau) ∨ (m < 0 ∧ neg = false) ∨ (0 < m ∧ neg = true) →
      pivotTake tau delta m neg = if neg then -(2 : Int) ^ (31 - delta) else (2 : Int) ^ (31 - delta)) ∧
    (2 ^ (31 - tau) ≤ m.natAbs → (m < 0 ↔ neg = true) → m ≠ 0 → pivotTake tau delta m neg = m))

/-- The estimation period. A boundary takes its pulse, takes of every entry of the sub-station table what was accepted at or before it and, where a model and every required input are
there, arms the Newton job for its own deadline; without a model it goes on to Drove with the cause that says so. It publishes
nothing. The end of the Drove advance, and te at the latest, publish the pair: the buffer of the next number first, then the index; a CONVERGED
period clears the run of STALE results and becomes the last state, any other lengthens it and keeps that state, and te meeting a running Newton job gives
TIMEOUT. Outside those moments nothing is published. A model switch that is due comes before the boundary's snapshot. -/
def Obligations.EstimationPeriod : Prop :=
  (∀ (s : State) (n : Nat), solving s = true → unitActive s 7 0 = true → s.time.pulse14 = some n →
    s.model.switching = false ∨ n < s.model.tsw →
    ∃ t, exec .estimationBoundary s = .next t ∧ t.est.t0 = n ∧ t.est.snap = snapTable n s ∧ t.model.prior = [] ∧
      ((∀ x ∈ s.model.table, x.2.tAcc ≤ n ∧ x.2 ≠ {}) → t.est.snap = s.model.table) ∧ t.time.pulse14 = none ∧
      t.model.table = s.model.table ∧ t.host.resEst = s.host.resEst ∧ t.est.buf = s.est.buf ∧ t.est.state = s.est.state ∧
      t.time.ont = s.time.ont ∧ (s.model.image = [] → t.est.phase = 3 ∧ t.est.pend = some 6) ∧
      (∀ d, s.model.image ≠ [] → stopping s 7 0 = false → (∀ k, k < 256 → (inputMap s k).kind = 0 ∨ 3 < (inputMap s k).kind) →
        s.ox.q.length = 2 → (oxq s 0).state = 0 → d = n + actN s 0x0721 * 1000000 - s.est.tdrove * 1000 →
        deadlineReached s d = false → t.est.phase = 2 ∧ t.est.pend = none ∧ (oxq t 0).arm.prog = 9 ∧ (oxq t 0).arm.deadline = d ∧
          (oxq t 0).arm.iterLimit = actN s 0x0722 ∧ (oxq t 0).job = wrapInc 32 (oxq s 0).job ∧ t.est.job = (oxq t 0).job)) ∧
  (∀ (s : State) (n : Nat), solving s = true → unitActive s 7 0 = true → s.time.pulse14 = some n → s.model.switching = true →
    s.model.tsw ≤ n → s.model.tsw ≤ s.time.ont → s.model.passDone = true → s.host.ready = true →
    ∃ t, exec .estimationBoundary s = .next t ∧ t.model.image = s.model.staged ∧ t.model.switching = false ∧ t.est.t0 = n ∧
      t.est.droveValid = false) ∧
  (∀ s : State, solving s = false ∨ unitActive s 7 0 = false → s.model.switching = false → exec .estimationBoundary s = .next s) ∧
  (∀ s : State, inRun s = true → s.est.phase = 3 → s.est.buf.length = 3 → ∃ t b, exec .droveAdvanceEnd s = .next t ∧
      t.est.phase = 0 ∧ t.est.pend = none ∧ t.host.resEst = (s.host.resEst + 1) % 2 ^ 32 ∧
      t.est.buf[t.host.resEst % 3]? = some b ∧ b.take 4 = leBytes 4 t.host.resEst ∧ t.est.cause = s.est.pend.getD 6 ∧
      (∀ k, k ≠ t.host.resEst % 3 → t.est.buf[k]? = s.est.buf[k]?) ∧
      (s.est.pend = some 0 → t.est.staleRun = 0 ∧ t.est.state = s.est.found ∧ t.est.stale = false) ∧
      (s.est.pend ≠ some 0 → t.est.staleRun = s.est.staleRun + 1 ∧ t.est.state = s.est.state ∧ t.est.stale = true) ∧
      t.host.resDsp = s.host.resDsp ∧ t.model = s.model ∧ t.time = s.time ∧ t.power = s.power) ∧
  (∀ s : State, inRun s = false ∨ s.est.phase ≠ 3 → exec .droveAdvanceEnd s = .next s) ∧
  (∀ s : State, inRun s = true → s.est.phase = 2 → s.est.t0 + actN s 0x0721 * 1000000 ≤ s.time.ont →
    ∃ t, exec .estPublishDeadline s = .next t ∧ t.est.phase = 0 ∧ t.host.resEst = (s.host.resEst + 1) % 2 ^ 32 ∧ t.est.cause = 4 ∧
      t.est.stale = true ∧ t.est.staleRun = s.est.staleRun + 1 ∧ t.est.state = s.est.state ∧
      ((oxq s 0).state = 2 → s.ox.q.length = 2 → (oxq t 0).state = 4)) ∧
  (∀ s : State, inRun s = false ∨ s.est.phase = 0 ∨ s.time.ont < s.est.t0 + actN s 0x0721 * 1000000 →
    exec .estPublishDeadline s = .next s)

/-- The dispatch period. A boundary takes its pulse and fixes td, tdl and ta. A finished build arms the ADMM job for tdl, cold where there is no
candidate. At a residual check the job keeps what it found and is over once it has converged or is at its limit. A job that has converged in time is published as its schedule, ends a run of SHIFTED results and becomes the own
candidate. At tdl without one the last publication of the model in effect is published shifted, or an EMPTY one of zeros, with the period's
cause, and the run lengthens. At ta an EMPTY, stopped or missing publication is skipped, and another is handed off. Nothing happens before its
time. -/
def Obligations.DispatchPeriod : Prop :=
  (∀ (s : State) (n : Nat), solving s = true → enabled s 9 0 = true → s.time.pulse15 = some n →
    s.model.switching = false ∨ n < s.model.tsw →
    ∃ t, exec .dispatchBoundary s = .next t ∧ t.dsp.phase = 1 ∧ t.dsp.td = n ∧ t.dsp.tdl = n + actN s 0x0902 * 1000000 ∧
      t.dsp.ta = n + actN s 0x0903 * 1000000 ∧ t.dsp.tdlDue = true ∧ t.dsp.taDue = true ∧ t.dsp.cur = none ∧
      t.dsp.armed = false ∧ t.time.pulse15 = none ∧ t.dsp.last = s.dsp.last ∧ t.dsp.own = s.dsp.own ∧ t.host = s.host ∧
      t.ox = s.ox ∧ t.est = s.est) ∧
  (∀ s : State, malorWorks s = true → enabled s 9 0 = true → s.dsp.building = true → s.model.image ≠ [] → s.ox.q.length = 2 →
    (oxq s 1).state = 0 → (oxq s 0).state = 0 → deadlineReached s s.dsp.tdl = false → ∃ t, exec .dispatchArm s = .next t ∧
      t.dsp.building = false ∧ t.dsp.armed = true ∧ t.dsp.phase = 2 ∧ t.dsp.jobCause = none ∧ (oxq t 1).arm.prog = 0x0A ∧
      (oxq t 1).arm.deadline = s.dsp.tdl ∧ (oxq t 1).arm.iterLimit = actN s 0x0904 ∧ (oxq t 1).job = wrapInc 32 (oxq s 1).job ∧
      (s.dsp.own = none → s.dsp.peer = none → t.dsp.cold = true ∧ t.dsp.problem.start = none) ∧ t.dsp.td = s.dsp.td ∧
      t.est = s.est ∧ t.host.resDsp = s.host.resDsp) ∧
  (∀ s : State, s.dsp.building = false → exec .dispatchArm s = .next s) ∧
  (∀ (s : State) (h : BlockHead), oxClock s = true → s.ox.q.length = 2 → (oxq s 1).state = 2 → (oxq s 1).prev = none →
    (oxq s 1).next = none → blockOk s h = true → jobLate s 1 = false → (oxq s 0).state = 0 →
    (∀ b, b = 8 ∨ b = 9 ∨ b = 10 → bit (oxq s 1).sticky b = false) → (oxq s 1).stage = .test →
    ∃ t, exec (.oxBlockEnd 1 h 1) s = .next t ∧ t.dsp.result = admmResult s ∧ t.host.resDsp = s.host.resDsp ∧ (oxq t 1).stage =
      if converged s (admmResult s) || decide ((oxq s 1).arm.iterLimit ≤ (oxq s 1).iter) then .over else .solve) ∧
  (∀ (s : State) (r : JobResult) (d : Nat), enabled s 9 0 = true → s.dsp.armed = true → s.dsp.tdlDue = true → s.dsp.phase = 2 →
    s.dsp.jobCause = none → s.ox.q.length = 2 → oxClock s = true → (oxq s 1).state = 2 → (oxq s 1).next = none →
    (oxq s 1).prev = none → (oxq s 1).stage = .over → (oxq s 1).arm.bench = false →
    jobLate s 1 = false → isDegraded (oxq s 1) = false → r = s.dsp.result → converged s r = true →
    ∃ t c w, exec (.oxJobEnd 1 d) s = .next t ∧ t.dsp.phase = 3 ∧ t.dsp.cause = 0 ∧ t.dsp.shiftRun = 0 ∧ t.dsp.tdlDue = false ∧
      t.host.resDsp = (s.host.resDsp + 1) % 2 ^ 32 ∧ t.dsp.cur = some c ∧ c.number = t.host.resDsp ∧ c.sched = r.x.map (satS 32) ∧
      c.shifted = false ∧ c.empty = false ∧ c.td = s.dsp.td ∧ t.dsp.last = some c ∧ t.dsp.own = some w ∧ w.vec = r.warm ∧
      w.sig = s.host.modelSig ∧ t.dsp.stopped = false) ∧
  (∀ s : State, plantRuns s = true → enabled s 9 0 = true → s.dsp.tdlDue = true →
    s.dsp.tdlHit = true ∨ deadlineReached s s.dsp.tdl = true →
    ∃ t c, exec .dispatchDeadline s = .next t ∧ t.dsp.phase = 3 ∧ t.dsp.tdlDue = false ∧ t.dsp.shiftRun = s.dsp.shiftRun + 1 ∧
      t.host.resDsp = (s.host.resDsp + 1) % 2 ^ 32 ∧ t.dsp.cur = some c ∧ c.number = t.host.resDsp ∧
      t.dsp.cause = (if s.dsp.noState then 5 else if s.dsp.armed then s.dsp.jobCause.getD 3 else 4) ∧
      (∀ p, s.dsp.last = some p → p.sig = s.host.modelSig → c.shifted = true ∧ c.empty = false ∧ c.tdSol = p.tdSol ∧
        c.sched = shiftVec (horizon s.model.image) (nVar s.model.image) (shiftOf s p.step0) p.sched ∧ t.dsp.last = some c) ∧
      ((∀ p, s.dsp.last = some p → p.sig ≠ s.host.modelSig) → c.empty = true ∧ c.sched =
        List.replicate (horizon s.model.image * nVar s.model.image) 0 ∧ t.dsp.last = s.dsp.last)) ∧
  (∀ s : State, s.dsp.tdlDue = false ∨ (s.dsp.tdlHit = false ∧ deadlineReached s s.dsp.tdl = false) → exec .dispatchDeadline s = .next s) ∧
  (∀ s : State, inRun s = true → enabled s 9 0 = true → s.dsp.taDue = true →
    s.dsp.taHit = true ∨ deadlineReached s s.dsp.ta = true → s.dsp.cur = none ∨ s.dsp.stopped = true ∨ (∃ p, s.dsp.cur = some p ∧ p.empty = true) → exec .dispatchApply s =
      .next { s with dsp := { s.dsp with taDue := false, skipped := true, entries := 0 } }) ∧
  (∀ (s : State) (p : Pub), inRun s = true → enabled s 9 0 = true → s.dsp.taDue = true →
    s.dsp.taHit = true ∨ deadlineReached s s.dsp.ta = true → s.dsp.cur = some p → p.empty = false → s.dsp.stopped = false → ∃ t, exec .dispatchApply s = .next t ∧ t.dsp.taDue = false ∧
      t.dsp.skipped = false ∧ t.dsp.lastShifted = p.shifted ∧ t.dsp.handoffs = satInc 32 s.dsp.handoffs ∧
      t.dsp.entries = (usedHand s).length ∧ t.host.resDsp = s.host.resDsp ∧ t.dsp.last = s.dsp.last) ∧
  (∀ s : State, s.dsp.taDue = false ∨ (s.dsp.taHit = false ∧ deadlineReached s s.dsp.ta = false) → exec .dispatchApply s = .next s)

/-- Dispatch inputs. DISPATCH_INPUT_WRITE stores its values in staging, leaves every other staged value and the active set, and is
refused with INPUT for an object or interval that does not exist; DISPATCH_INPUT_COMMIT makes the staged values the active set with their start,
count and ONT and empties staging; DISPATCH_STORE_SET sets one store's charge, which is no guess any more, and is refused beyond the
store's capacity; DISPATCH_STATUS_GET changes nothing. -/
def Obligations.DispatchInputs : Prop :=
  (∀ (m : Mail) (s : State) (b o f n : Nat) (v : Bytes), taken 0x0910 m s = true → b < 256 → o < 2 ^ 16 → f < 2 ^ 16 → 1 ≤ n →
    n ≤ 240 → v.length = 4 * n → m.payload = leBytes 1 b ++ [0] ++ leBytes 2 o ++ leBytes 2 f ++ leBytes 2 n ++ zeros 4 ++ v →
    inputTarget s.model.image b o f n = true → ∃ t, exec (.dispatchInputWrite m) s = answers 0x0910 m s t [] ∧
      (∀ k, k < n → lookupNat (inputKey b o (f + k)) t.dsp.staging = some (byteFieldS v (4 * k) 4)) ∧
      (∀ j, (∀ k, k < n → j ≠ inputKey b o (f + k)) → lookupNat j t.dsp.staging = lookupNat j s.dsp.staging) ∧
      t.dsp.active = s.dsp.active ∧ t.dsp.charge = s.dsp.charge ∧ t.host.params = s.host.params) ∧
  (∀ (m : Mail) (s : State) (b o f n : Nat) (v : Bytes), taken 0x0910 m s = true → b < 256 → o < 2 ^ 16 → f < 2 ^ 16 → 1 ≤ n →
    n ≤ 240 → v.length = 4 * n → m.payload = leBytes 1 b ++ [0] ++ leBytes 2 o ++ leBytes 2 f ++ leBytes 2 n ++ zeros 4 ++ v →
    inputTarget s.model.image b o f n = false →
    exec (.dispatchInputWrite m) s = refuses 0x0910 m s (takenState 0x0910 m s) 0x0916 0) ∧
  (∀ (m : Mail) (s : State) (a n : Nat), taken 0x0911 m s = true → a < 2 ^ 64 → 1 ≤ n → n ≤ 384 → a % stepNs s = 0 →
    m.payload = leBytes 8 a ++ leBytes 2 n ++ zeros 6 → ∃ t, exec (.dispatchInputCommit m) s = answers 0x0911 m s t [] ∧
      t.dsp = { s.dsp with active := some { tIn := a, nInt := n, commit := s.time.ont, vals := s.dsp.staging }, staging := [] } ∧
      t.ox = s.ox) ∧
  (∀ (m : Mail) (s : State) (a n : Nat), taken 0x0911 m s = true → a < 2 ^ 64 → n < 2 ^ 16 → n = 0 ∨ 384 < n ∨ a % stepNs s ≠ 0 →
    m.payload = leBytes 8 a ++ leBytes 2 n ++ zeros 6 →
    exec (.dispatchInputCommit m) s = refuses 0x0911 m s (takenState 0x0911 m s) 0x0905 0) ∧
  (∀ (m : Mail) (s : State) (k e : Nat), taken 0x0912 m s = true → k < nStore s.model.image → k < 256 → e < 2 ^ 32 →
    e ≤ storeN s k 0 4 → k < s.dsp.charge.length → m.payload = leBytes 1 k ++ zeros 3 ++ leBytes 4 e →
    ∃ t, exec (.dispatchStoreSet m) s = answers 0x0912 m s t [] ∧ t.dsp.charge[k]? = some ((e : Rat), false) ∧
      (∀ j, j ≠ k → t.dsp.charge[j]? = s.dsp.charge[j]?) ∧ t.dsp.staging = s.dsp.staging ∧ t.dsp.active = s.dsp.active) ∧
  (∀ (m : Mail) (s : State) (k e : Nat), taken 0x0912 m s = true → k < 256 → e < 2 ^ 32 →
    nStore s.model.image ≤ k ∨ storeN s k 0 4 < e → m.payload = leBytes 1 k ++ zeros 3 ++ leBytes 4 e →
    exec (.dispatchStoreSet m) s = refuses 0x0912 m s (takenState 0x0912 m s) 0x0905 0) ∧
  (∀ (m : Mail) (s : State), taken 0x0913 m s = true → m.payload = [] → ∃ l,
    exec (.dispatchStatusGet m) s = answers 0x0913 m s (takenState 0x0913 m s) (Config.layout 0x0913 l) ∧
    l.take 2 = [(dspStatus s.dsp : Int), dspShiftCnt s.dsp])

/-- One evaluation. A sample of a running loop, at its instant, commits its parameters, forms PV, error, scheduled gain and scaled error with their
saturations, runs the third-order filter with its clamped output, drives that output, counts, and leaves every other loop. With a
VMAX of 0 the set-point is the target. The gain is interpolated between the two table entries around the position. A loop's first source value sets
target and set-point to PV. -/
def Obligations.LoopEvaluation : Prop :=
  (∀ (s : State) (n : Nat) (c : Nat → Int) (x : LoopSt) (v : Int) (ts : Nat), (∀ k, c k = par s (0x2000 + 0x80 * n + k)) →
    plantRuns s = true → enabled s 10 n = true → stopping s 10 n = false → loopInstant s n = true → s.loops[n]? = some x → x.parked = false →
    x.waitScan = false → x.clearDue = 0 → x.eccDue = none → x.cause = 0 → x.started = true → x.realign = false →
    standby s = false → holdLine s = false → c 0x3A = 0 ∨ permitBit s n = true →
    sourceValue s (c 1).toNat (c 2).toNat (c 3).toNat = some (v, ts) → c 7 = 0 ∨ s.time.ont - ts ≤ (c 7).toNat * 1000000 →
    c 0x38 = 0 → ∃ t y w f, exec (.loopSample n) s = .next t ∧ t.loops[n]? = some y ∧ y.state = 2 ∧
      y.samples = wrapInc 32 x.samples ∧ y.pv = satS 32 (divRound (v * c 5 + c 6 * 65536) 65536) ∧
      (c 0x30 = 0 → y.target = x.target) ∧ ((c 0x34).toNat = 0 → y.p = y.target * 65536 ∧ y.v = 0 ∧ y.a = 0 ∧ y.atTarget = true) ∧
      y.err = satS 32 (shiftRound y.p 16 - y.pv) ∧ y.gain = loopGain (parCommit (loopParams n) s) n y.err ∧
      w = satS 32 (shiftRound (y.gain * y.err) (c 4).toNat) ∧
      y.out = clamp (c 0x21) (c 0x22) (satS 32 (shiftRound (c 8 * w) (c 0x10).toNat + x.s1)) ∧
      f = (if c 0x18 = 1 then y.out else satS 32 (shiftRound (c 8 * w) (c 0x10).toNat + x.s1)) ∧
      y.s1 = satS 32 (shiftRound (c 9 * w) (c 0x11).toNat - shiftRound (c 12 * f) (c 0x14).toNat + x.s2) ∧
      y.s2 = satS 32 (shiftRound (c 10 * w) (c 0x12).toNat - shiftRound (c 13 * f) (c 0x15).toNat + x.s3) ∧
      y.s3 = satS 32 (shiftRound (c 11 * w) (c 0x13).toNat - shiftRound (c 14 * f) (c 0x16).toNat) ∧ y.drive = y.out ∧
      (∀ m, m ≠ n → t.loops[m]? = s.loops[m]?) ∧ t.axes = s.axes ∧ t.power = s.power ∧ t.host.params = s.host.params) ∧
  (∀ (s : State) (n : Nat), loopInstant s n = false → exec (.loopSample n) s = .next s) ∧
  (∀ (s : State) (n p f : Nat) (e : Int) (g : Nat → Nat), lp s n 0x19 = 0 → p = e.natAbs / 2 ^ lpN s n 0x1A →
    f = e.natAbs * 65536 / 2 ^ lpN s n 0x1A % 65536 → (∀ k, g k = tabN s (0x2000 + 0x80 * n + 0x1B) (4 * k) 4) →
    (63 ≤ p → loopGain s n e = g 63) ∧ (p < 63 → (loopGain s n e : Int) = g p + ((g (p + 1) : Int) - g p) * f / 65536)) ∧
  (∀ (s : State) (n : Nat) (c : Nat → Int) (x : LoopSt) (v : Int) (ts : Nat), (∀ k, c k = par s (0x2000 + 0x80 * n + k)) →
    plantRuns s = true → enabled s 10 n = true → stopping s 10 n = false → loopInstant s n = true → s.loops[n]? = some x → x.parked = false →
    x.waitScan = false → x.clearDue = 0 → x.eccDue = none → x.cause = 0 → x.started = false → x.realign = false →
    standby s = false → holdLine s = false → c 0x3A = 0 ∨ permitBit s n = true → c 0x30 = 0 →
    sourceValue s (c 1).toNat (c 2).toNat (c 3).toNat = some (v, ts) → c 0x38 = 0 → ∃ t y, exec (.loopSample n) s = .next t ∧
      t.loops[n]? = some y ∧ y.state = 2 ∧ y.started = true ∧ y.target = y.pv ∧ y.p = y.pv * 65536 ∧
      (-(2 ^ 31) ≤ y.pv ∧ y.pv < 2 ^ 31 ∧ y.err = 0))

/-- States and commands. At a sample a stale source faults a running loop with INPUT and a memory error with MEMORY, both driving LOOP_SAFE_OUT; a
withdrawn permit inhibits it with filter state and profile frozen, and the hold line freezes its output too; the supervision and start timeouts
fault it. A memory error is kept for the next sample and, in state memory, sets FAIL; the rewrite ends the refusal of the clear.
LOOP_SP_SET sets the target unless a hand-off of the same period did, LOOP_CLEAR is kept for the sample, which then restarts a faulted loop; both
are refused beyond the variant, for a disabled loop, in a cascade, and while the rewrite lasts. -/
def Obligations.LoopStates : Prop :=
  (∀ (s : State) (n : Nat) (c : Nat → Int) (x : LoopSt), (∀ k, c k = par s (0x2000 + 0x80 * n + k)) → plantRuns s = true →
    enabled s 10 n = true → stopping s 10 n = false → loopInstant s n = true → s.loops[n]? = some x → x.parked = false → x.waitScan = false →
    x.clearDue = 0 → standby s = false → ∃ t y, exec (.loopSample n) s = .next t ∧ t.loops[n]? = some y ∧
      (holdLine s = true → x.eccDue = none → y.state = 4 ∧ y.drive = x.drive ∧ y.s1 = x.s1 ∧ y.s2 = x.s2 ∧ y.s3 = x.s3 ∧ y.p = x.p ∧
        y.target = x.target) ∧
      (holdLine s = false → (∃ o, x.eccDue = some o) → y.state = 6 ∧ y.cause = 3 ∧ y.drive = c 0x23 ∧ y.eccDue = none) ∧
      (holdLine s = false → x.eccDue = none → x.cause = 0 → c 0x3A ≠ 0 → permitBit s n = false → y.state = 3 ∧
        y.drive = (if c 0x25 = 0 then c 0x23 else x.drive) ∧ y.s1 = x.s1 ∧ y.s2 = x.s2 ∧ y.s3 = x.s3 ∧ y.p = x.p) ∧
      (∀ v ts, holdLine s = false → x.eccDue = none → x.cause = 0 → c 0x3A = 0 → x.started = true → c 7 ≠ 0 →
        sourceValue s (c 1).toNat (c 2).toNat (c 3).toNat = some (v, ts) → (c 7).toNat * 1000000 < s.time.ont - ts →
        y.state = 6 ∧ y.cause = 2 ∧ y.drive = c 0x23 ∧ y.s1 = x.s1) ∧
      (∀ m, m ≠ n → t.loops[m]? = s.loops[m]?) ∧ t.axes = s.axes ∧ t.host.params = s.host.params) ∧
  (∀ (s : State) (n : Nat) (x : LoopSt), plantRuns s = true → enabled s 10 n = true → stopping s 10 n = false → loopInstant s n = true →
    s.loops[n]? = some x → x.parked = false → x.waitScan = false → bit x.clearDue 1 = true → x.cause ≠ 0 → x.eccDue = none →
    standby s = false → holdLine s = false → par s (0x2000 + 0x80 * n + 0x3A) = 0 →
    sourceValue s (parN s (0x2000 + 0x80 * n + 1)) (parN s (0x2000 + 0x80 * n + 2)) (parN s (0x2000 + 0x80 * n + 3)) = none →
    ∃ t y, exec (.loopSample n) s = .next t ∧ t.loops[n]? = some y ∧ y.state = 1 ∧ y.cause = 0 ∧ y.sticky = 0 ∧ y.clearDue = 0 ∧
      y.s1 = par s (0x2000 + 0x80 * n + 0x24) ∧ y.s2 = 0 ∧ y.s3 = 0 ∧ y.drive = par s (0x2000 + 0x80 * n + 0x24) ∧
      y.started = false) ∧
  (∀ (s : State) (n : Nat) (x : LoopSt), plantRuns s = true → s.loops[n]? = some x → x.state = 2 → lp s n 0x38 ≠ 0 → x.feTmr ≠ 0 →
    lp s n 0x39 * 1000 ≤ x.feTmr * lp s n 0x00 → ∃ t y, exec (.followingErrorTimeout n) s = .next t ∧ t.loops[n]? = some y ∧
      y.state = 6 ∧ y.cause = 1 ∧ y.drive = lp s n 0x23 ∧ y.s1 = x.s1 ∧ y.target = x.target ∧
      (∀ m, m ≠ n → t.loops[m]? = s.loops[m]?)) ∧
  (∀ (s : State) (n : Nat) (x : LoopSt), plantRuns s = true → s.loops[n]? = some x → x.state = 1 → x.started = false →
    lp s n 0x07 ≠ 0 → (lp s n 0x07).toNat * 1000000 ≤ s.time.ont - x.since → ∃ t y, exec (.loopStartTimeout n) s = .next t ∧
      t.loops[n]? = some y ∧ y.state = 6 ∧ y.cause = 2 ∧ y.drive = lp s n 0x23 ∧ (∀ m, m ≠ n → t.loops[m]? = s.loops[m]?)) ∧
  (∀ (s : State) (n o : Nat) (x : LoopSt), plantRuns s = true → enabled s 10 n = true → s.loops[n]? = some x →
    ∃ t, exec (.loopMemoryEcc n o) s = .next t ∧ t.loops[n]? = some { x with eccDue := some o, rewriting := true } ∧
      (o < 0x80000 → t.pair.fail = true) ∧ (0x80000 ≤ o → t.pair = s.pair) ∧ (∀ m, m ≠ n → t.loops[m]? = s.loops[m]?)) ∧
  (∀ (s : State) (n : Nat) (x : LoopSt), malorWorks s = true → s.loops[n]? = some x → ∃ t,
    exec (.loopCoefRewriteDone n) s = .next { s with loops := t } ∧ t[n]? = some { x with rewriting := false } ∧
    ∀ m, m ≠ n → t[m]? = s.loops[m]?) ∧
  (∀ (m : Mail) (s : State) (n : Nat) (v : Int) (x : LoopSt), taken 0x0A10 m s = true → n < (unitCount s 10).1 →
    enabled s 10 n = true → lp s n 0x30 ≠ 1 → s.loops[n]? = some x → -(2 ^ 31) ≤ v → v < 2 ^ 31 →
    m.payload = leBytes 1 n ++ zeros 3 ++ leIntBytes 4 v → ∃ t, exec (.loopSpSet m) s = answers 0x0A10 m s t [] ∧
      t.loops[n]? = some { x with target := if x.handed then x.target else v } ∧ (∀ k, k ≠ n → t.loops[k]? = s.loops[k]?) ∧
      t.host.params = s.host.params) ∧
  (∀ (m : Mail) (s : State) (n : Nat) (v : Int), taken 0x0A10 m s = true → n < 256 →
    m.payload = leBytes 1 n ++ zeros 3 ++ leIntBytes 4 v → (unitCount s 10).1 ≤ n ∨ enabled s 10 n = false ∨ lp s n 0x30 = 1 →
    exec (.loopSpSet m) s = refuses 0x0A10 m s (takenState 0x0A10 m s) (if 32 ≤ n then 0x0A05
      else if (unitCount s 10).1 ≤ n then 0x0A08 else if enabled s 10 n = false then 0x0A03 else 0x0A06) 0) ∧
  (∀ (m : Mail) (s : State) (n k : Nat) (x : LoopSt), taken 0x0A11 m s = true → n < (unitCount s 10).1 → enabled s 10 n = true →
    k ≤ 3 → s.loops[n]? = some x → m.payload = leBytes 1 n ++ leBytes 1 k ++ zeros 2 → s.pair.failsafe = false →
    if bit k 1 = true ∧ (x.cause = 3 ∨ x.eccDue.isSome = true) ∧ x.rewriting = true then
      exec (.loopClear m) s = refuses 0x0A11 m s (takenState 0x0A11 m s) 0x0A01 0
    else ∃ t, exec (.loopClear m) s = answers 0x0A11 m s t [] ∧
      t.loops[n]? = some { x with clearDue := x.clearDue ||| k } ∧ (∀ j, j ≠ n → t.loops[j]? = s.loops[j]?))

/-- Axis ticks. A tick of an axis changes no other axis. Without its permit the axis inhibits: no motion, its position kept, uncertain if it
moved, its waiting target kept if it rested. A waiting target starts a move towards it; a move never leaves the way to its target and ends exactly
there, counted. A following axis stays within its limits and follows or faults. A search that sees its level takes the home position and is certain. A
coarse step adds to the backlog and an encoder edge moves the count, at which an armed ratio fires with its position continuous; neither
moves an axis, and a level that the filter does not pass does neither. Search distance and memory errors fault the axis; standstill powers the driver down, and its power-up ends it. -/
def Obligations.AxisTicks : Prop :=
  (∀ (s : State) (n : Nat) (d : List (Nat × Nat)) (c : Nat → Int) (x : AxisSt), (∀ k, c k = par s (0x3000 + 0x80 * n + k)) → plantRuns s = true →
    enabled s 11 n = true → stopping s 11 n = false → s.axes[n]? = some x → x.parked = false → x.waitScan = false →
    standby s = false → holdLine s = false → ∃ t y, exec (.axisTick n d) s = .next t ∧ t.axes[n]? = some y ∧
      y.ticks = wrapInc 32 x.ticks ∧ (∀ m, m ≠ n → t.axes[m]? = s.axes[m]?) ∧ t.loops = s.loops ∧ t.enc = s.enc ∧
      t.pins = (dinFeed d s).pins ∧ t.host.params = s.host.params ∧
      (x.cause ≠ 0 ∨ x.memFault = true → y.state = 8 ∧ y.pos = x.pos) ∧
      (x.cause = 0 → x.memFault = false → c 0x19 ≠ 0 → permitBit s (32 + n) = false → y.state = 5 ∧ y.doing = 0 ∧ y.pos = x.pos ∧
        (x.doing ≠ 0 → x.v ≠ 0 → y.uncertain = true ∧ y.v = 0) ∧ (x.doing = 0 → y.pend = x.pend ∧ y.uncertain = x.uncertain)) ∧
      (x.cause = 0 → x.memFault = false → c 0x19 = 0 → c 0 = 0 → x.doing = 0 → x.pend = none → y.state = 1 ∧ y.pos = x.pos ∧
        y.uncertain = x.uncertain) ∧
      (∀ g, x.cause = 0 → x.memFault = false → c 0x19 = 0 → c 0 = 0 → x.doing = 0 → x.pend = some g → g ≠ x.pos → x.down = false →
        x.uncertain = false → -(2 ^ 31) ≤ g → g < 2 ^ 31 → -(2 ^ 31) ≤ x.pos → x.pos < 2 ^ 31 → y.state = 2 ∧ y.target = g ∧
        y.pend = none ∧ y.dir = decide (x.pos < g) ∧ min x.pos g ≤ y.pos ∧ y.pos ≤ max x.pos g) ∧
      (x.cause = 0 → x.memFault = false → c 0x19 = 0 → c 0 = 0 → x.doing = 1 → x.target ≠ x.pos → x.frac < 2 ^ 32 →
        x.dir = decide (x.pos < x.target) → -(2 ^ 31) ≤ x.target → x.target < 2 ^ 31 → -(2 ^ 31) ≤ x.pos → x.pos < 2 ^ 31 →
        y.target = x.target ∧ min x.pos x.target ≤ y.pos ∧ y.pos ≤ max x.pos x.target ∧ (y.pos = x.target ↔ y.doing = 0) ∧
        (y.doing = 0 → y.state = 1 ∧ y.v = 0 ∧ y.moves = wrapInc 32 x.moves) ∧
        (y.doing ≠ 0 → y.state = 2 ∧ (c 5).toNat * 65536 ≤ y.v ∧ y.moves = x.moves) ∧ y.uncertain = x.uncertain) ∧
      (x.cause = 0 → x.memFault = false → c 0x19 = 0 → c 0 ≠ 0 → -(2 ^ 31) ≤ c 9 → c 9 ≤ x.pos → x.pos ≤ c 10 → c 10 < 2 ^ 31 →
        (y.state = 3 ∨ y.state = 8) ∧ c 9 ≤ y.pos ∧ y.pos ≤ c 10) ∧
      (x.cause = 0 → x.memFault = false → c 0x19 = 0 → c 0 = 0 → x.doing = 3 → b2n (bit (dinLevels (dinFeed d s)) (c 0x10).toNat) = (c 0x11).toNat →
        y.state = 1 ∧ y.doing = 0 ∧ y.pos = c 0x13 ∧ y.uncertain = false ∧ y.idx = x.idx)) ∧
  (∀ (s : State) (k n i : Nat) (up : Bool) (x : AxisSt), plantRuns s = true → k < 4 → n < 16 → s.axes[n]? = some x →
    (nth {} s.pins.step k).level = false → padFilter s 15 ≤ (nth {} s.pins.step k).run + i →
    ∃ t y, exec (.coarseStepEdge k ⟨true, i, up⟩) s = .next t ∧ t.axes[n]? = some y ∧ y.pos = x.pos ∧ t.enc = s.enc ∧
      (x.doing = 2 → ap s n 0 = 1 → apN s n 1 = k → y.backlog = x.backlog + (if up then (apN s n 0x0B : Int) else -(apN s n 0x0B : Int)) ∧
        (2 * apN s n 0x0B < y.backlog.natAbs → y.interpOvr = true)) ∧
      (x.doing ≠ 2 ∨ ap s n 0 ≠ 1 ∨ apN s n 1 ≠ k → y = x)) ∧
  (∀ (s : State) (k i : Nat) (l up : Bool), plantRuns s = true → k < 4 → l = false ∨ (nth {} s.pins.step k).level = true ∨
    (nth {} s.pins.step k).run + i < padFilter s 15 →
    ∃ p, exec (.coarseStepEdge k ⟨l, i, up⟩) s = .next { s with pins := { s.pins with step := p } }) ∧
  (∀ (s : State) (e m n i : Nat) (b l up : Bool) (x : AxisSt) (f : Filt), plantRuns s = true → e < 2 → s.enc[e]? = some m →
    m < 2 ^ 32 → n < 16 → s.axes[n]? = some x → f = nth {} (if b then s.pins.encB else s.pins.encA) e → l ≠ f.level →
    padFilter s 15 ≤ f.run + i →
    up = (if b then (nth {} s.pins.encA e).level == l else l != (nth {} s.pins.encB e).level) → s.pins.encA.length = 2 →
    s.pins.encB.length = 2 → ∃ t y, exec (.encoderEdge e ⟨b, l, i⟩) s = .next t ∧
      (nth {} (if b then t.pins.encB else t.pins.encA) e).level = l ∧ t.enc[e]? = some (if up then (m + 1) % 2 ^ 32 else
        if m = 0 then 2 ^ 32 - 1 else m - 1) ∧ (∀ j, j ≠ e → t.enc[j]? = s.enc[j]?) ∧ t.axes[n]? = some y ∧ y.pos = x.pos ∧
      (x.armed = true → ap s n 0 = 2 → apN s n 1 = e → t.enc[e]? = some x.armPos → y.armed = false ∧ y.num = x.armNum ∧
        y.den = x.armDen ∧ y.ma = x.armPos ∧ y.sa = x.sa + Int.fdiv (x.num * signedDiff 32 x.armPos x.ma) x.den) ∧
      (x.armed = false → y = x)) ∧
  (∀ (s : State) (e i : Nat) (b l : Bool) (f : Filt), plantRuns s = true → e < 2 →
    f = nth {} (if b then s.pins.encB else s.pins.encA) e → l = f.level ∨ f.run + i < padFilter s 15 →
    ∃ p, exec (.encoderEdge e ⟨b, l, i⟩) s = .next { s with pins := p }) ∧
  (∀ (s : State) (n : Nat) (x : AxisSt), plantRuns s = true → s.axes[n]? = some x → x.doing = 3 →
    apN s n 0x14 * 4294967296 < x.travel → ∃ t y, exec (.homingDistFault n) s = .next t ∧ t.axes[n]? = some y ∧
      y.state = (if x.state = 6 ∨ x.state = 7 ∨ x.state = 9 then x.state else 8) ∧
      y.cause = 3 ∧ y.doing = 0 ∧ y.pos = x.pos ∧ (∀ m, m ≠ n → t.axes[m]? = s.axes[m]?)) ∧
  (∀ (s : State) (n : Nat) (x : AxisSt), plantRuns s = true → s.axes[n]? = some x → x.state = 1 ∨ x.state = 5 →
    ap s n 0x16 ≠ 0 → x.doing = 0 → x.waking = false → ∃ t y, exec (.standstillDelayExpiry n) s = .next { s with axes := t } ∧
      t[n]? = some y ∧ y.down = true ∧ y.pos = x.pos ∧ y.idx = x.idx ∧ y.pend = x.pend ∧ (∀ m, m ≠ n → t[m]? = s.axes[m]?)) ∧
  (∀ (s : State) (n : Nat) (x : AxisSt), plantRuns s = true → s.axes[n]? = some x → x.waking = true →
    ∃ t y, exec (.standstillPowerupDone n) s = .next { s with axes := t } ∧ t[n]? = some y ∧ y.down = false ∧ y.waking = false ∧
      y.pos = x.pos ∧ y.idx = x.idx ∧ y.pend = x.pend ∧ (∀ m, m ≠ n → t[m]? = s.axes[m]?)) ∧
  (∀ (s : State) (n : Nat) (x : AxisSt), plantRuns s = true → n < (unitCount s 11).1 → enabled s 11 n = true →
    s.axes[n]? = some x → ∃ t y, exec (.axisMemoryEcc n) s = .next t ∧ t.axes[n]? = some y ∧
      y.state = (if x.state = 6 ∨ x.state = 7 ∨ x.state = 9 then x.state else 8) ∧ y.memFault = true ∧
      y.uncertain = true ∧ y.cause = 0 ∧ y.doing = 0 ∧ y.pos = x.pos ∧ y.idx = x.idx ∧ y.rewriting = true ∧
      t.pair.fail = true ∧ (∀ m, m ≠ n → t.axes[m]? = s.axes[m]?)) ∧
  (∀ (s : State) (n : Nat) (x : AxisSt), malorWorks s = true → s.axes[n]? = some x → ∃ t,
    exec (.axisConfigRewriteDone n) s = .next { s with axes := t } ∧ t[n]? = some { x with rewriting := false } ∧
    ∀ m, m ≠ n → t[m]? = s.axes[m]?)

/-- The motion commands. MOT_MOVE to an axis at rest makes its target waiting, to a moving or inhibited one holds it pending and says so, and elsewhere
it is discarded and counted; it is refused for another source, beyond the soft limits, and while the position is uncertain. MOT_STOP stops
pulses where the axis is, loses the waiting target of a move, and is no action at rest. MOT_HOME sets the position or starts the search. MOT_GEAR_ARM
arms the ratio, or takes it at once at its count. MOT_CLEAR clears the flags named and a fault. Beyond the variant or disabled they are refused, and
none changes another axis. -/
def Obligations.MotionCommands : Prop :=
  (∀ (m : Mail) (s : State) (n : Nat) (g : Int) (x : AxisSt), taken 0x0B10 m s = true → n < (unitCount s 11).1 →
    enabled s 11 n = true → s.axes[n]? = some x → -(2 ^ 31) ≤ g → g < 2 ^ 31 → m.payload = leBytes 1 n ++ zeros 3 ++ leIntBytes 4 g →
    s.pair.failsafe = false → ap s n 0 = 0 → ap s n 9 ≤ g → g ≤ ap s n 10 → x.uncertain = false → x.handed = false →
    ∃ t y b, exec (.motMove m) s = answers 0x0B10 m s t (leBytes 1 (b2n b)) ∧ t.axes[n]? = some y ∧ y.pos = x.pos ∧
      y.state = x.state ∧ y.doing = x.doing ∧ (∀ k, k ≠ n → t.axes[k]? = s.axes[k]?) ∧
      (x.state = 1 → b = false ∧ y.pend = (if g = x.pos then none else some g)) ∧
      (x.state = 2 ∨ x.state = 5 → b = true ∧ y.pend = some g) ∧
      (x.state ≠ 1 → x.state ≠ 2 → x.state ≠ 5 → b = false ∧ y.pend = x.pend ∧ y.discard = satInc 32 x.discard)) ∧
  (∀ (m : Mail) (s : State) (n : Nat) (g : Int), taken 0x0B10 m s = true → n < (unitCount s 11).1 → enabled s 11 n = true →
    -(2 ^ 31) ≤ g → g < 2 ^ 31 → m.payload = leBytes 1 n ++ zeros 3 ++ leIntBytes 4 g →
    s.pair.failsafe = true ∨ ap s n 0 ≠ 0 ∨ g < ap s n 9 ∨ ap s n 10 < g ∨ (axisOf s n).uncertain = true →
    exec (.motMove m) s = refuses 0x0B10 m s (takenState 0x0B10 m s) (if s.pair.failsafe = true ∨ ap s n 0 ≠ 0 then 0x0B06
      else if g < ap s n 9 ∨ ap s n 10 < g then 0x0B05 else 0x0B10) 0) ∧
  (∀ (m : Mail) (s : State) (n : Nat), taken 0x0B11 m s = true → n < 256 → m.payload = leBytes 1 n ++ zeros 3 →
    (unitCount s 11).1 ≤ n ∨ enabled s 11 n = false → exec (.motStop m) s = refuses 0x0B11 m s (takenState 0x0B11 m s)
      (if 16 ≤ n then 0x0B05 else if (unitCount s 11).1 ≤ n then 0x0B08 else 0x0B03) 0) ∧
  (∀ (m : Mail) (s : State) (n : Nat) (x : AxisSt), taken 0x0B11 m s = true → n < (unitCount s 11).1 → enabled s 11 n = true →
    s.axes[n]? = some x → m.payload = leBytes 1 n ++ zeros 3 → x.doing ≠ 0 → ∃ t y, exec (.motStop m) s = answers 0x0B11 m s t [] ∧
      t.axes[n]? = some y ∧ y.doing = 0 ∧ y.v = 0 ∧ y.backlog = 0 ∧ y.pos = x.pos ∧ (x.v ≠ 0 → y.uncertain = true) ∧
      (x.doing = 1 → y.pend = none) ∧ (x.state = 2 ∨ x.state = 4 → y.state = 1) ∧ (∀ k, k ≠ n → t.axes[k]? = s.axes[k]?)) ∧
  (∀ (m : Mail) (s : State) (n : Nat), taken 0x0B11 m s = true → n < (unitCount s 11).1 → enabled s 11 n = true →
    m.payload = leBytes 1 n ++ zeros 3 → (axisOf s n).doing = 0 →
    exec (.motStop m) s = answers 0x0B11 m s (takenState 0x0B11 m s) []) ∧
  (∀ (m : Mail) (s : State) (n a : Nat) (p : Int) (x : AxisSt), taken 0x0B12 m s = true → n < (unitCount s 11).1 →
    enabled s 11 n = true → s.axes[n]? = some x → a ≤ 1 → -(2 ^ 31) ≤ p → p < 2 ^ 31 →
    m.payload = leBytes 1 n ++ leBytes 1 a ++ zeros 2 ++ leIntBytes 4 p → s.pair.failsafe = false →
    x.state = 1 ∨ (x.state = 8 ∧ x.cause = 3) → ∃ t y, exec (.motHome m) s = answers 0x0B12 m s t [] ∧ t.axes[n]? = some y ∧
      y.idx = x.idx ∧ y.cause = 0 ∧ (∀ k, k ≠ n → t.axes[k]? = s.axes[k]?) ∧
      (a = 0 → y.pos = p ∧ y.uncertain = false ∧ y.state = 1) ∧
      (a = 1 → y.pos = x.pos ∧ y.uncertain = x.uncertain ∧ y.state = 4 ∧ y.doing = 3 ∧ y.pend = none ∧ y.travel = 0)) ∧
  (∀ (m : Mail) (s : State) (n a : Nat) (p : Int), taken 0x0B12 m s = true → n < (unitCount s 11).1 → enabled s 11 n = true →
    a ≤ 1 → -(2 ^ 31) ≤ p → p < 2 ^ 31 → m.payload = leBytes 1 n ++ leBytes 1 a ++ zeros 2 ++ leIntBytes 4 p →
    s.pair.failsafe = true ∨ (axisOf s n).state ≠ 1 ∧ (axisOf s n).state ≠ 8 →
    exec (.motHome m) s = refuses 0x0B12 m s (takenState 0x0B12 m s) 0x0B06 0) ∧
  (∀ (m : Mail) (s : State) (n den at_ : Nat) (num : Int) (x : AxisSt), taken 0x0B13 m s = true → n < (unitCount s 11).1 →
    enabled s 11 n = true → s.axes[n]? = some x → 1 ≤ den → den < 2 ^ 16 → -(2 ^ 15) ≤ num → num < 2 ^ 15 → at_ < 2 ^ 32 →
    m.payload = leBytes 1 n ++ [0] ++ leBytes 2 den ++ leIntBytes 2 num ++ zeros 2 ++ leBytes 4 at_ → s.pair.failsafe = false →
    ap s n 0 = 2 → x.uncertain = false → x.state ≠ 6 → x.state ≠ 7 → ∃ t y, exec (.motGearArm m) s = answers 0x0B13 m s t [] ∧
      t.axes[n]? = some y ∧ y.pos = x.pos ∧ y.armPos = at_ ∧ y.armNum = num ∧ y.armDen = den ∧
      (∀ k, k ≠ n → t.axes[k]? = s.axes[k]?) ∧
      (nth 0 s.enc (apN s n 1) ≠ at_ → y.armed = true ∧ y.num = x.num ∧ y.den = x.den) ∧
      (nth 0 s.enc (apN s n 1) = at_ → y.armed = false ∧ y.num = num ∧ y.den = den ∧ y.ma = at_)) ∧
  (∀ (m : Mail) (s : State) (n k : Nat) (x : AxisSt), taken 0x0B14 m s = true → n < (unitCount s 11).1 → enabled s 11 n = true →
    s.axes[n]? = some x → k ≤ 3 → m.payload = leBytes 1 n ++ leBytes 1 k ++ zeros 2 →
    if bit k 1 = true ∧ x.memFault = true ∧ x.rewriting = true then
      exec (.motClear m) s = refuses 0x0B14 m s (takenState 0x0B14 m s) 0x0B01 0
    else ∃ t y, exec (.motClear m) s = answers 0x0B14 m s t [] ∧ t.axes[n]? = some y ∧ y.pos = x.pos ∧
      (bit k 0 = true → y.decelKept = false ∧ y.interpOvr = false) ∧ (bit k 0 = false → y.decelKept = x.decelKept) ∧
      (bit k 1 = true → x.cause ≠ 0 ∨ x.memFault = true → y.cause = 0 ∧ y.memFault = false ∧ y.uncertain = true ∧
        (x.state = 8 → y.state = if ap s n 0 = 0 then 1 else 3)) ∧
      (bit k 1 = false → y.cause = x.cause ∧ y.state = x.state ∧ y.uncertain = x.uncertain) ∧
      (∀ j, j ≠ n → t.axes[j]? = s.axes[j]?))

/-- Scans and modes. A scan in RUN advances logic time, latches inputs, status and waiting host bits, runs the program once from its first instruction
and transfers its image: DOUT, permits and previous-state image. An initialising scan clears the flags, the unretained timers and the stored counter
inputs and sees no edge. The hold line and HOLD keep everything, STOP and FAULT drive LOGIC_DOUT_SAFE with no permit, STANDBY runs nothing. A
stepping runs its scans and ends when cut. A program switch skips scans, then runs the new program as an initialising scan. With the unit disabled the
instant only drives the safe outputs, and between instants only the inputs' filters move; every instant releases the pad hold. (How many scans a switch skips is open.) -/
def Obligations.LogicScans : Prop :=
  (∀ (s : State) (d : List (Nat × Nat)) (l : LogicSt), l = s.logic → plantRuns s = true → isl s 5 = .on → scanInstant s = true → enabled s 12 0 = true → standby s = false →
    holdLine s = false → l.faulted = false → l.eccDue = false → l.cmd = 0 → l.mode = 1 → l.stepping = false → l.next = none →
    ∃ t L x, exec (.logicScan d) s = .next t ∧ L.lt = (l.lt + parN s 0x0C00) % 2 ^ 64 ∧ L.img.i = BitVec.ofNat 24 (dinLevels (dinFeed d s)) ∧
      L.img.h = l.hostBits.foldl wordPut l.img.h ∧ L.img.s.getLsbD 0 = l.initDue ∧ L.img.s.getLsbD 1 = (l.initDue && l.changeDue) ∧
      L.img.s.getLsbD 2 = grant s ∧ L.img.s.getLsbD 4 = s.time.valid ∧ L.img.r = l.img.r ∧ L.evtOn = l.evtOn ∧
      (l.initDue = false → L.img.q = l.img.q ∧ L.img.p = l.img.p ∧ L.img.m = l.img.m ∧ L.img.t = l.img.t ∧ L.img.c = l.img.c ∧
        L.timers = l.timers ∧ L.counters = l.counters ∧ L.prev = l.prev) ∧
      (l.initDue = true → L.prev = L.img ∧ L.img.m = 0 ∧ L.img.q = (if l.initKeep then l.img.q else 0) ∧
        L.img.p = (if l.initKeep then l.img.p else 0) ∧
        L.counters = l.counters.map (fun c => { c with up := false, down := false }) ∧
        (∀ k y, k < 256 → l.timers[k]? = some y → L.timers[k]? = some (if tmrRetained (parCommit logicParams s) k then y
          else { y with q := false, run := false, inPrev := false }))) ∧
      x = runProg (presets (parCommit logicParams s)) (progWords l.image) 0 0 { l := L } ∧ t.logic.img = x.l.img ∧
      t.logic.timers = x.l.timers ∧ t.logic.counters = x.l.counters ∧ t.logic.prev = x.l.img ∧ t.logic.dout = x.l.img.q ∧
      t.logic.permit = x.l.img.p ∧ t.logic.lt = L.lt ∧ t.logic.scanCnt = wrapInc 32 l.scanCnt ∧ t.logic.mode = 1 ∧
      t.logic.image = l.image ∧ t.logic.firstScan = l.initDue ∧ t.logic.initDue = false ∧ t.logic.hostBits = [] ∧
      t.power.padHold = false ∧ t.host.params = s.host.params ∧ t.meter = s.meter ∧ t.adc = s.adc) ∧
  (∀ (s : State) (d : List (Nat × Nat)) (l : LogicSt), l = s.logic → plantRuns s = true → isl s 5 = .on → scanInstant s = true → enabled s 12 0 = true →
    l.stepping = false → l.next = none → l.mode ≠ 5 → ∃ t, exec (.logicScan d) s = .next t ∧
      (standby s = true → s.pair.period = none → t.logic = { l with mode := 5, eccDue := false, faulted := l.faulted || l.eccDue }) ∧
      (standby s = false → holdLine s = true →
        t.logic = { l with mode := 4, eccDue := false, faulted := l.faulted || l.eccDue }) ∧
      (standby s = false → holdLine s = false → l.faulted = false → l.eccDue = false → l.cmd = 2 → t.logic = { l with mode := 3 }) ∧
      (standby s = false → holdLine s = false → l.faulted = true ∨ l.eccDue = true ∨ l.cmd = 1 →
        t.logic.mode = (if l.faulted = true ∨ l.eccDue = true then 6 else 2) ∧ t.logic.faulted = (l.faulted || l.eccDue) ∧
        t.logic.dout = BitVec.ofNat 24 (parN s 0x0C02) ∧ t.logic.lt = l.lt ∧ t.logic.timers = l.timers ∧
        t.logic.counters = l.counters ∧ t.logic.scanCnt = l.scanCnt ∧ t.logic.image = l.image ∧
        (l.mode = t.logic.mode → t.logic.permit = l.permit ∧ t.logic.img = l.img) ∧
        (l.mode ≠ t.logic.mode → t.logic.permit = 0 ∧ t.logic.img = { l.img with q := 0, p := 0 } ∧ t.logic.initDue = true)) ∧
      t.power.padHold = false ∧ t.host.params = s.host.params) ∧
  (∀ (s : State) (d : List (Nat × Nat)) (k : Nat) (l : LogicSt), l = s.logic → plantRuns s = true → isl s 5 = .on → scanInstant s = true → enabled s 12 0 = true → standby s = false →
    holdLine s = false → l.faulted = false → l.eccDue = false → l.cmd = 2 → l.mode = 3 → l.stepping = true → l.next = none →
    ∃ t, exec (.logicScan d) s = .next t ∧ t.logic.mode = 3 ∧
      (l.stepCut = true → t.logic.stepping = false ∧ t.logic.steps = 0 ∧ t.logic.lt = l.lt ∧ t.logic.scanCnt = l.scanCnt ∧
        t.logic.img = l.img) ∧
      (l.stepCut = false → l.steps = k + 1 → t.logic.steps = k ∧ t.logic.stepping = decide (k ≠ 0) ∧
        t.logic.lt = (l.lt + parN s 0x0C00) % 2 ^ 64 ∧ t.logic.scanCnt = wrapInc 32 l.scanCnt ∧ t.logic.img.i = BitVec.ofNat 24 (dinLevels (dinFeed d s)))) ∧
  (∀ (s : State) (d : List (Nat × Nat)) (g : Bytes) (b : Bool) (l : LogicSt), l = s.logic → plantRuns s = true → isl s 5 = .on → scanInstant s = true → enabled s 12 0 = true →
    standby s = false → holdLine s = false → l.faulted = false → l.eccDue = false → l.cmd = 0 → l.mode = 1 → l.stepping = false →
    l.next = some (g, b) → ∃ t, exec (.logicScan d) s = .next t ∧
      (l.skipLeft = 0 → 1 ≤ t.logic.skipLeft ∧ t.logic.next = l.next ∧ t.logic.dout = l.dout ∧ t.logic.permit = l.permit ∧
        t.logic.lt = l.lt ∧ t.logic.img = l.img ∧ t.logic.scanCnt = l.scanCnt ∧ t.logic.skipCnt = satInc 32 l.skipCnt) ∧
      (1 < l.skipLeft → t.logic = { l with skipLeft := l.skipLeft - 1, skipped := l.skipped + 1, skipCnt := satInc 32 l.skipCnt }) ∧
      (l.skipLeft = 1 → t.logic.image = g ∧ t.logic.slot = b ∧ t.logic.next = none ∧ t.logic.firstScan = true ∧
        t.logic.progChanged = true ∧ t.logic.scanCnt = wrapInc 32 l.scanCnt ∧ t.logic.skipCnt = l.skipCnt)) ∧
  (∀ (s : State) (d : List (Nat × Nat)), plantRuns s = true → scanInstant s = false → exec (.logicScan d) s = .next (dinFeed d s)) ∧
  (∀ (s : State) (d : List (Nat × Nat)), plantRuns s = true → isl s 5 = .on → scanInstant s = true → enabled s 12 0 = false → s.logic.mode = 0 →
    ∃ t, exec (.logicScan d) s = .next t ∧ t.logic = (if s.power.padHold = true ∨ s.logic.doutOn = true then
        { s.logic with dout := BitVec.ofNat 24 (actN s 0x0C02), doutOn := true } else s.logic) ∧ t.power.padHold = false ∧
      (∀ j : Nat, t.loops[j]? = s.loops[j]?.map (fun y => { y with waitScan := false })) ∧
      (∀ j : Nat, t.axes[j]? = s.axes[j]?.map (fun y => { y with waitScan := false })) ∧ t.host = s.host ∧ t.time = s.time)

/-- The instructions. Loads, logic and edges act on ACC, stores and SET and RST on their one bit, the stack operations on ACC and stack, NOT, ONE
and ZERO on ACC, jumps and END on where execution goes on, each and nothing else. TON, TOF and TP follow R406 and leave the timer's Q in ACC and area
T; the counter instructions follow R407 and leave count ≥ preset in ACC. EVT notes a rising edge, at most 16 a scan, and counts the rest. An
instruction before the place execution goes on at is passed over. -/
def Obligations.LogicInstructions : Prop :=
  (∀ (ps : Presets) (a i : Nat) (x : Exec), a < 2 ^ 16 → let b := imgBit x.l.img a; let u := edge x.l a; let f := fall x.l a
    let run := fun op => execOne ps (op * 2 ^ 24 + a) i x; let acc := fun v => (({ x with acc := v }, i + 1) : Exec × Nat)
    run 0x01 = acc b ∧ run 0x02 = acc (!b) ∧ run 0x03 = acc (x.acc && b) ∧ run 0x04 = acc (x.acc && !b) ∧ run 0x05 = acc (x.acc || b) ∧
    run 0x06 = acc (x.acc || !b) ∧ run 0x07 = acc (x.acc != b) ∧ run 0x08 = acc (x.acc != !b) ∧ run 0x09 = acc u ∧ run 0x0A = acc f ∧
    run 0x0B = acc (x.acc && u) ∧ run 0x0C = acc (x.acc && f) ∧ run 0x0D = acc (x.acc || u) ∧ run 0x0E = acc (x.acc || f) ∧
    u = (b && !imgBit x.l.prev a) ∧ f = (!b && imgBit x.l.prev a)) ∧
  (∀ (ps : Presets) (op a i : Nat) (x : Exec), 0x10 ≤ op → op ≤ 0x13 → 1 ≤ a / 4096 → a / 4096 ≤ 4 → a % 4096 < areaBits (a / 4096) →
    ∃ y, execOne ps (op * 2 ^ 24 + a) i x = ({ x with l := { x.l with img := y } }, i + 1) ∧
      imgBit y a = (if op = 0x10 then x.acc else if op = 0x11 then !x.acc else if x.acc = true then decide (op = 0x12)
        else imgBit x.l.img a) ∧ ∀ k, k ≠ a → imgBit y k = imgBit x.l.img k) ∧
  (∀ (ps : Presets) (i : Nat) (x : Exec) (b : Bool) (st : List Bool), let run := fun op => execOne ps (op * 2 ^ 24) i
    run 0 x = (x, i + 1) ∧ run 0x18 x = ({ x with stack := x.acc :: x.stack }, i + 1) ∧
    run 0x20 x = ({ x with acc := !x.acc }, i + 1) ∧ run 0x21 x = ({ x with acc := true }, i + 1) ∧
    run 0x22 x = ({ x with acc := false }, i + 1) ∧ (run 0x48 x).1 = x ∧ 0x4000 < (run 0x48 x).2 ∧
    run 0x19 { x with stack := b :: st } = ({ x with acc := b, stack := st }, i + 1) ∧
    run 0x1A { x with stack := b :: st } = ({ x with acc := b && x.acc, stack := st }, i + 1) ∧
    run 0x1B { x with stack := b :: st } = ({ x with acc := b || x.acc, stack := st }, i + 1) ∧
    run 0x1C { x with stack := b :: st } = ({ x with acc := b, stack := b :: st }, i + 1)) ∧
  (∀ (ps : Presets) (j i : Nat) (x : Exec), j < 2 ^ 15 → execOne ps (0x40 * 2 ^ 24 + j) i x = (x, j) ∧
    execOne ps (0x41 * 2 ^ 24 + j) i x = (x, if x.acc then j else i + 1) ∧
    execOne ps (0x42 * 2 ^ 24 + j) i x = (x, if x.acc then i + 1 else j)) ∧
  (∀ (ps : Presets) (w i j : Nat) (ws : List Nat) (x : Exec), runProg ps [] i j x = x ∧
    (i < j → runProg ps (w :: ws) i j x = runProg ps ws (i + 1) j x) ∧
    (j ≤ i → runProg ps (w :: ws) i j x = runProg ps ws (i + 1) (execOne ps w i x).2 (execOne ps w i x).1)) ∧
  (∀ (ps : Presets) (op k i : Nat) (x : Exec) (y : Tmr), 0x30 ≤ op → op ≤ 0x32 → k < 256 → x.l.timers[k]? = some y →
    ∃ z v, execOne ps (op * 2 ^ 24 + k) i x = ({ x with acc := z.q, l := v }, i + 1) ∧ v.timers = x.l.timers.set k z ∧
      v.img.t.getLsbD k = z.q ∧ (∀ j, j ≠ k → v.img.t.getLsbD j = x.l.img.t.getLsbD j) ∧ v.counters = x.l.counters ∧
      v.img.q = x.l.img.q ∧ v.img.m = x.l.img.m ∧ z.inPrev = x.acc ∧
      (op = 0x30 → x.acc = false → z.run = false ∧ z.q = false) ∧
      (op = 0x30 → x.acc = true → z.run = true ∧ z.start = (if y.run then y.start else x.l.lt) ∧
        z.q = decide (ps.tmr k ≤ x.l.lt - z.start)) ∧
      (op = 0x31 → x.acc = true → z.run = false ∧ z.q = true) ∧
      (op = 0x31 → x.acc = false → y.q = false → z.q = false ∧ z.run = y.run ∧ z.start = y.start) ∧
      (op = 0x31 → x.acc = false → y.q = true → z.start = (if y.run then y.start else x.l.lt) ∧
        z.q = decide (x.l.lt - z.start < ps.tmr k) ∧ z.run = z.q) ∧
      (op = 0x32 → x.acc = true → y.inPrev = false → y.run = false → z.start = x.l.lt ∧ z.run = decide (0 < ps.tmr k) ∧
        z.q = decide (0 < ps.tmr k)) ∧
      (op = 0x32 → y.run = true → z.start = y.start ∧ (ps.tmr k ≤ x.l.lt - y.start → z.q = false ∧ z.run = false) ∧
        (x.l.lt - y.start < ps.tmr k → z.q = y.q ∧ z.run = true)) ∧
      (op = 0x32 → y.run = false → x.acc = false ∨ y.inPrev = true → z.q = y.q ∧ z.run = false ∧ z.start = y.start)) ∧
  (∀ (ps : Presets) (op c i : Nat) (x : Exec) (y : Ctr), 0x38 ≤ op → op ≤ 0x3B → c < 256 → x.l.counters[c]? = some y →
    ∃ z v, execOne ps (op * 2 ^ 24 + c) i x = ({ x with acc := decide (ps.ctr c ≤ z.count), l := v }, i + 1) ∧
      v.counters = x.l.counters.set c z ∧ v.img.c.getLsbD c = decide (ps.ctr c ≤ z.count) ∧
      v.img.c.getLsbD (256 + c) = decide (z.count ≤ 0) ∧
      (∀ j, j ≠ c → j ≠ 256 + c → v.img.c.getLsbD j = x.l.img.c.getLsbD j) ∧ v.timers = x.l.timers ∧ v.img.q = x.l.img.q ∧
      (op = 0x38 → z.up = x.acc ∧ z.down = y.down ∧ z.count = (if x.acc && !y.up then satS 32 (y.count + 1) else y.count)) ∧
      (op = 0x39 → z.down = x.acc ∧ z.up = y.up ∧ z.count = (if x.acc && !y.down then satS 32 (y.count - 1) else y.count)) ∧
      (op = 0x3A → z.up = y.up ∧ z.down = y.down ∧ z.count = (if x.acc then 0 else y.count)) ∧
      (op = 0x3B → z.up = y.up ∧ z.down = y.down ∧ z.count = (if x.acc then ps.ctr c else y.count))) ∧
  (∀ (ps : Presets) (k i : Nat) (x : Exec), k < 256 → ∃ y, execOne ps (0x50 * 2 ^ 24 + k) i x = (y, i + 1) ∧ y.acc = x.acc ∧
    y.stack = x.stack ∧ y.l.img = x.l.img ∧ (y.l.evtOn.contains i = x.acc) ∧
    (∀ j, j ≠ i → y.l.evtOn.contains j = x.l.evtOn.contains j) ∧
    (x.acc = false ∨ x.l.evtOn.contains i = true → y.evts = x.evts ∧ y.l.evtDrop = x.l.evtDrop) ∧
    (x.acc = true → x.l.evtOn.contains i = false → (x.evts.length < 16 → y.evts = (k, i) :: x.evts ∧ y.l.evtDrop = x.l.evtDrop) ∧
      (16 ≤ x.evts.length → y.evts = x.evts ∧ y.l.evtDrop = satInc 32 x.l.evtDrop)))

/-- The logic commands. LOGIC_MODE_SET gives the commanded mode, ends a FAULT and cuts a stepping; LOGIC_STEP in HOLD begins a stepping;
LOGIC_HOST_BITS waits for the next latch; LOGIC_TRIAL_REVERT writes the boot record with the fallback slot and loads it, at once while the engine is
off. The first three are refused for a disabled unit and fields out of range, LOGIC_STEP outside HOLD, the revert without a trial. An uncorrectable
error is kept for the next scan instant and latches FAIL at once. -/
def Obligations.LogicCommands : Prop :=
  (∀ (s : State), plantRuns s = true → enabled s 12 0 = true → ∃ t, exec .logicMemoryEcc s = .next t ∧
    t.logic = { s.logic with eccDue := true } ∧ t.pair.fail = true ∧ (s.pair.fail = false → t.pair.cause = 2) ∧
    (s.pair.fail = true → t.pair = s.pair) ∧ t.loops = s.loops ∧ t.axes = s.axes ∧ t.host.params = s.host.params) ∧
  (∀ (m : Mail) (s : State) (k : Nat), taken 0x0C10 m s = true → k < 256 → m.payload = leBytes 1 k ++ zeros 3 →
    enabled s 12 0 = true → k ≤ 2 → s.pair.failsafe = false ∨ k = 1 → ∃ t, exec (.logicModeSet m) s = answers 0x0C10 m s t [] ∧
      t = { takenState 0x0C10 m s with logic := { s.logic with cmd := k, faulted := false, stepCut := s.logic.stepping } }) ∧
  (∀ (m : Mail) (s : State) (k : Nat), taken 0x0C10 m s = true → k < 256 → m.payload = leBytes 1 k ++ zeros 3 →
    enabled s 12 0 = false ∨ 2 < k ∨ s.pair.failsafe = true ∧ k ≠ 1 → exec (.logicModeSet m) s =
      refuses 0x0C10 m s (takenState 0x0C10 m s) (if enabled s 12 0 = false then 0x0C03 else if 2 < k then 0x0C05 else 0x0C06) 0) ∧
  (∀ (m : Mail) (s : State) (n : Nat), taken 0x0C11 m s = true → 1 ≤ n → n < 256 → m.payload = leBytes 1 n ++ zeros 3 →
    enabled s 12 0 = true → s.logic.mode = 3 → s.pair.failsafe = false → ∃ t, exec (.logicStep m) s = answers 0x0C11 m s t [] ∧
      t = { takenState 0x0C11 m s with logic := { s.logic with stepping := true, stepCut := false, steps := n } }) ∧
  (∀ (m : Mail) (s : State) (n : Nat), taken 0x0C11 m s = true → n < 256 → m.payload = leBytes 1 n ++ zeros 3 →
    enabled s 12 0 = false ∨ n = 0 ∨ s.logic.mode ≠ 3 → exec (.logicStep m) s = refuses 0x0C11 m s (takenState 0x0C11 m s)
      (if enabled s 12 0 = false then 0x0C03 else if n = 0 then 0x0C05 else 0x0C06) 0) ∧
  (∀ (m : Mail) (s : State) (w k v : Nat), taken 0x0C12 m s = true → w < 256 → k < 2 ^ 32 → v < 2 ^ 32 →
    m.payload = leBytes 1 w ++ zeros 3 ++ leBytes 4 k ++ leBytes 4 v → enabled s 12 0 = true → w ≤ 7 →
    ∃ t, exec (.logicHostBits m) s = answers 0x0C12 m s t [] ∧
      t = { takenState 0x0C12 m s with logic := { s.logic with hostBits := s.logic.hostBits ++ [(w, k, v)] } }) ∧
  (∀ (m : Mail) (s : State) (w k v : Nat), taken 0x0C12 m s = true → w < 256 → k < 2 ^ 32 → v < 2 ^ 32 →
    m.payload = leBytes 1 w ++ zeros 3 ++ leBytes 4 k ++ leBytes 4 v → enabled s 12 0 = false ∨ 7 < w →
    exec (.logicHostBits m) s = refuses 0x0C12 m s (takenState 0x0C12 m s) (if enabled s 12 0 = false then 0x0C03 else 0x0C05) 0) ∧
  (∀ (h : BitVec 256) (w k v i : Nat), w < 8 → k < 2 ^ 32 → v < 2 ^ 32 → (wordPut h (w, k, v)).getLsbD i =
    if 32 * w ≤ i ∧ i < 32 * w + 32 ∧ bit k (i - 32 * w) = true then bit v (i - 32 * w) else h.getLsbD i) ∧
  (∀ (m : Mail) (s : State) (b : Bool) (g : Bytes), taken 0x0C15 m s = true → m.payload = [] → (bootRec s).aplarTrial = true →
    b = (bootRec s).aplarActive → g = slotImage s 3 (!b) → ∃ t, (bootRec t).aplarActive = !b ∧ (bootRec t).aplarTrial = false ∧
      t.mgmt.aplarA = s.mgmt.aplarA ∧ t.mgmt.aplarB = s.mgmt.aplarB ∧
      match logicLoadFail (takenState 0x0C15 m s) g with
      | none => exec (.logicTrialRevert m) s = answers 0x0C15 m s t [] ∧
        (s.logic.mode = 0 → t.logic.image = g ∧ t.logic.slot = !b ∧ t.logic.initDue = true ∧ t.logic.img = s.logic.img) ∧
        (s.logic.mode ≠ 0 → t.logic = { s.logic with next := some (g, !b), skipLeft := 0 })
      | some (r, i) => exec (.logicTrialRevert m) s = .next (respond (ring 0x0C15 m s) 0x0C15 m (refuse t r 0 (leBytes 4 i))) ∧
        t.logic = s.logic) ∧
  (∀ (m : Mail) (s : State), taken 0x0C15 m s = true → m.payload = [] → (bootRec s).aplarTrial = false →
    exec (.logicTrialRevert m) s = refuses 0x0C15 m s (takenState 0x0C15 m s) 0x0C06 0)

/-- Channels, reference and calibration. A running channel counts its output instants, publishes nothing before the 18th, discards 18 results from one
that contains a modulator reset, and publishes the corrected, saturated code with its timestamp and flags; other channels keep theirs. The reference
becomes OK and SETTLED, and a fault lasts until it has held. A due channel joins the round and, where a calibration may run, starts; ADC_CAL_NOW
puts it at the head. The sequence goes through its six steps: the spare takes over, the new offset and gain come in if the difference
keeps the limit, are refused after one repeat, and the channel returns. ADC_CLEAR clears ADC_OVR. -/
def Obligations.AcquisitionChannels : Prop :=
  (∀ (s : State) (k : Nat) (raw v : Int) (reset : Bool) (c : AdcCh), meterRuns s = true → k < 24 → s.adc.ch[k]? = some c →
    c.running = true → sdInstant s k = true → ¬(c.count = 0 ∧ c.startTick = s.power.netTick) → v = shiftRound ((raw - c.offset) * c.gain) 30 → ∃ t y, exec (.sdOutputInstant k raw reset) s = .next t ∧
      t.adc.ch[k]? = some y ∧ y.count = min (c.count + 1) 18 ∧ y.offset = c.offset ∧ y.gain = c.gain ∧
      (∀ j, j ≠ k → t.adc.ch[j]? = s.adc.ch[j]?) ∧ t.adc.ref = s.adc.ref ∧ t.adc.cal = s.adc.cal ∧ t.adc.wav = s.adc.wav ∧
      t.meter = s.meter ∧ t.loops = s.loops ∧ t.host.params = s.host.params ∧
      (reset = true ∨ 0 < c.discard ∨ c.count < 17 → y.result = c.result ∧ y.seq = c.seq ∧ y.ts = c.ts ∧ y.flags = c.flags ∧
        y.step = c.step ++ [none] ∧ t.adc.ovr = s.adc.ovr) ∧
      (reset = true → y.discard = 17 ∧ y.afterReset = true) ∧
      (reset = false → 0 < c.discard → y.discard = c.discard - 1 ∧ y.afterReset = true) ∧
      (reset = false → c.discard = 0 → c.count < 17 → y.discard = 0 ∧ y.afterReset = c.afterReset) ∧
      (reset = false → c.discard = 0 → 17 ≤ c.count → c.subst = false → parN s (0x3800 + 0x20 * k) < 4 →
        y.result = clamp (-8388607) 8388607 v ∧ y.seq = wrapInc 32 c.seq ∧ y.afterReset = false ∧
        y.step = c.step ++ [some y.result] ∧ y.stepFlags = Nat.lor c.stepFlags y.flags ∧
        y.ts = s.time.ont - nth 0 [8499756, 4249756, 2124756, 1062256] (parN s (0x3800 + 0x20 * k)) ∧ bit y.flags 0 = true ∧
        bit y.flags 1 = decide (y.ts < s.adc.ref.t + 5000000) ∧ bit y.flags 2 = s.adc.ref.fault ∧ bit y.flags 3 = false ∧
        bit y.flags 4 = decide (y.result ≠ v) ∧ bit y.flags 5 = c.afterReset ∧ bit y.flags 6 = c.calFail ∧
        bits y.flags 8 2 = parN s (0x3800 + 0x20 * k) ∧
        (∀ j : Nat, t.adc.ovr.getLsbD j = (s.adc.ovr.getLsbD j || (decide (j = k) && decide (y.result ≠ v)))))) ∧
  (∀ (s : State) (n : Nat), plantRuns s = true → s.adc.ref.on = true → ∃ t, exec (.refSettleStep n) s = .next t ∧
    t.adc.ch = s.adc.ch ∧ t.adc.cal = s.adc.cal ∧ (n = 4 → t.adc.ref = { s.adc.ref with ok := true }) ∧
    (n = 5 → t.adc.ref = { s.adc.ref with settled := true }) ∧ (n = 2 ∨ n = 3 → t = s) ∧
    (n = 6 → t.adc.ref = (if s.adc.ref.ok then { s.adc.ref with fault := false, faultEnd := s.time.ont } else s.adc.ref))) ∧
  (∀ (s : State), plantRuns s = true → s.adc.ref.on = true → ∃ t, exec .refFault s = .next t ∧
    t.adc = { s.adc with ref := { s.adc.ref with fault := true, ok := false } } ∧ t.time = s.time) ∧
  (∀ (s : State) (k : Nat) (c : AdcCh) (q : CalSt), malorWorks s = true → enabled s 13 k = true → k < 24 → s.adc.ch[k]? = some c →
    c.running = true → q = s.adc.cal → par s (0x3801 + 0x20 * k) = 1 → calDue s c = true → ∃ x, exec (.calibrationDue k) s =
      .next { s with adc := { s.adc with cal := x } } ∧ (q.busy = true → q.queue.contains k = true ∨ q.channel = k → x = q) ∧
      (q.busy = true → q.queue.contains k = false → q.channel ≠ k → x = { q with queue := q.queue ++ [k] }) ∧
      (q.busy = false → s.power.cur ≠ .run ∨ 2 ≤ s.mgmt.shed → q.queue.contains k = false → x = { q with queue := q.queue ++ [k] }) ∧
      (q.busy = false → s.power.cur = .run → s.mgmt.shed < 2 → q.queue = [] →
        x = { q with busy := true, channel := k, step := 1, again := false })) ∧
  (∀ (s : State) (k : Nat) (c : AdcCh), malorWorks s = true → s.adc.ch[k]? = some c →
    par s (0x3801 + 0x20 * k) ≠ 1 ∨ calDue s c = false → exec (.calibrationDue k) s = .next s) ∧
  (∀ (s : State) (a b d : Int) (k : Nat) (q : CalSt) (c : AdcCh), meterRuns s = true → q = s.adc.cal → q.busy = true → k = q.channel →
    s.adc.ch[k]? = some c → d = divRound (5 * 2 ^ 53) (6 * (b - a)).toNat → ∃ t x y, exec (.calStepDone a b) s = .next t ∧ t.adc.cal = x ∧
      t.adc.ch[k]? = some y ∧ (∀ j, j ≠ k → t.adc.ch[j]? = s.adc.ch[j]?) ∧ y.result = c.result ∧ y.seq = c.seq ∧
      t.host.params = s.host.params ∧ (1 ≤ q.step → q.step < 6 → x.queue = q.queue ∧ x.busy = true ∧ x.channel = k) ∧
      (q.step = 1 → x.step = 2 ∧ x.spareO = a ∧ (0 < b - a → d < 2 ^ 32 → (x.spareG : Int) = d) ∧ y = c) ∧
      (q.step = 2 → x = { q with step := 3 } ∧ y = c) ∧
      (q.step = 3 → x = { q with step := 4 } ∧ y = { c with subst := true }) ∧
      (q.step = 4 → x.step = 5 ∧ x.newO = a ∧ (0 < b - a → d < 2 ^ 32 → (x.newG : Int) = d) ∧ y = c) ∧
      (q.step = 5 → a ≤ parN s 0x0D01 → x.step = 6 ∧ x.lastFail = false ∧ y = { c with
        offset := q.newO, gain := q.newG, calFail := false, calT := s.time.ont / 1000000000, calAt := some s.time.ont,
        calTemp := calSensor s } ∧
        t.adc.calCnt = satInc 32 s.adc.calCnt) ∧
      (q.step = 5 → (parN s 0x0D01 : Int) < a → q.again = false → x = { q with step := 4, again := true } ∧ y = c) ∧
      (q.step = 5 → (parN s 0x0D01 : Int) < a → q.again = true → x = { q with step := 6, lastFail := true } ∧
        y = { c with calFail := true, calAt := some s.time.ont, calTemp := calSensor s } ∧ t.adc.calCnt = s.adc.calCnt) ∧
      (q.step = 6 → y = { c with subst := false } ∧ (q.queue = [] → x = { q with busy := false, step := 0 }))) ∧
  (∀ (m : Mail) (s : State) (k : Nat) (q : CalSt) (c : AdcCh), taken 0x0D12 m s = true → m.payload = leBytes 1 k ++ zeros 3 → k < 24 →
    enabled s 13 k = true → q = s.adc.cal → s.adc.ch[k]? = some c → c.running = true → ∃ x, exec (.adcCalNow m) s =
      answers 0x0D12 m s { takenState 0x0D12 m s with adc := { s.adc with cal := x } } [] ∧
      (q.queue.contains k = true → x = q) ∧ (q.queue.contains k = false → q.busy = true → x = { q with queue := k :: q.queue }) ∧
      (q.queue.contains k = false → q.busy = false → malorWorks (takenState 0x0D12 m s) = true →
        (takenState 0x0D12 m s).power.cur = .run → s.mgmt.shed < 2 →
        x = { q with busy := true, channel := k, step := 1, again := false })) ∧
  (∀ (m : Mail) (s : State) (k : Nat), taken 0x0D12 m s = true → m.payload = leBytes 1 k ++ zeros 3 → k < 256 →
    24 ≤ k ∨ enabled s 13 k = false → exec (.adcCalNow m) s =
      refuses 0x0D12 m s (takenState 0x0D12 m s) (if 24 ≤ k then 0x0D05 else 0x0D03) 0) ∧
  (∀ (m : Mail) (s : State), taken 0x0D13 m s = true → m.payload = [] → ∃ t, exec (.adcClear m) s = answers 0x0D13 m s t [] ∧
    t = { takenState 0x0D13 m s with adc := { s.adc with ovr := 0 } })

/-- Fast converters and captures. At the end of a loud window every slice's coefficients move by an eighth of the difference and the window counts;
the eighth converges; a quiet one holds, and with the correction off nothing moves. The coefficients are copied for the next enable. ADC_WAVE_CAPTURE
arms the capture it describes, is refused out of range, disabled, ganged or busy; the trigger places the pre-trigger history before the window of
the trigger sample; completion writes the record with its number, times and flags into the slot and frees the converter. ADC_WAVE_STOP discards an
armed capture, truncates a running one, and is no action at rest. -/
def Obligations.FastCaptures : Prop :=
  (∀ (s : State) (w : Nat) (loud : Bool) (est : List (Int × Nat × Int)) (x : WavSt), plantRuns s = true → w < 2 →
    s.adc.wav[w]? = some x → x.on = true → ∃ t y, exec (.mismatchWindowEnd w loud est) s = .next t ∧ t.adc.wav[w]? = some y ∧
      t.adc.ch = s.adc.ch ∧ y.saved = x.saved ∧ y.cap = x.cap ∧ t.host.params = s.host.params ∧
      (x.ganged = false → ∀ j, j ≠ w → t.adc.wav[j]? = s.adc.wav[j]?) ∧
      (par s (0x3B01 + 0x20 * w) ≠ 1 → t.adc = s.adc) ∧
      (par s (0x3B01 + 0x20 * w) = 1 → loud = false → y = { x with hold := true } ∧ t.adc.slots = s.adc.slots) ∧
      (par s (0x3B01 + 0x20 * w) = 1 → loud = true → y.hold = false ∧ y.winCnt = satInc 32 x.winCnt ∧
        (y.converged = (x.converged || decide (7 ≤ x.winCnt))) ∧ (x.converged = false → 7 ≤ x.winCnt → y.convAt = s.time.ont) ∧
        (∀ (j : Nat) a g k a' g' k', j < 4 → (w = 0 ∨ x.ganged = false) → x.coefs[j]? = some (a, g, k) → est[j]? = some (a', g', k') →
          y.coefs[j]? = some (clamp (-(2 ^ 15)) (2 ^ 15 - 1) (a + divRound (a' - a) 8),
            (clamp 0 65535 ((g : Int) + divRound ((g' : Int) - g) 8)).toNat, clamp (-(2 ^ 15)) (2 ^ 15 - 1) (k + divRound (k' - k) 8))) ∧
        (∀ (z : WavSt) (j : Nat) a g k a' g' k', w = 0 → x.ganged = true → s.adc.wav[1]? = some z → z.coefs[j]? = some (a, g, k) →
          est[4 + j]? = some (a', g', k') → ∃ v, t.adc.wav[1]? = some v ∧ v.coefs[j]? =
            some (clamp (-(2 ^ 15)) (2 ^ 15 - 1) (a + divRound (a' - a) 8), (clamp 0 65535 ((g : Int) + divRound ((g' : Int) - g) 8)).toNat,
              clamp (-(2 ^ 15)) (2 ^ 15 - 1) (k + divRound (k' - k) 8))))) ∧
  (∀ (s : State) (x z : WavSt), malorWorks s = true → s.adc.wav = [x, z] → exec .waveCoefSave s = .next { s with adc := { s.adc with
    wav := [if x.on then { x with saved := x.coefs } else x,
      if z.on || (x.on && x.ganged) then { z with saved := z.coefs } else z] } }) ∧
  (∀ (s : State) (w g pos got p0 g0 : Nat) (prev cur : Int) (x : WavSt) (c : Capt), plantRuns s = true → s.adc.wav[w]? = some x →
    x.on = true → c = x.cap → c.state = 1 → (c.start = 0 ∨ c.start = 1 ∧ c.pulse ≠ none ∨ c.start = 2 ∧ prev < c.level ∧ c.level ≤ cur ∨
      c.start = 3 ∧ c.level < prev ∧ cur ≤ c.level) → p0 = (if c.start = 0 then 0 else pos) → g0 = (if c.start = 0 then 0 else got) →
    ∃ v y, exec (.captureTrigger w g pos ⟨got, prev, cur⟩) s = .next { s with adc := { s.adc with wav := v } } ∧
      v[w]? = some { x with cap := y } ∧ (∀ j, j ≠ w → v[j]? = s.adc.wav[j]?) ∧ y.state = 2 ∧ y.n = c.n ∧ y.slot = c.slot ∧ y.k = c.k ∧
      y.trigOnt = g ∧ y.preUsed = min c.pre g0 ∧ y.shortPre = decide (g0 < c.pre) ∧ y.firstOnt = divRound ((g : Int) * 1000 -
        ((if x.ganged then 12500 else 25000) * (p0 + y.preUsed * 2 ^ c.k) : Nat)) 1000 ∧ y.trunc = c.trunc ∧
      (y.late = (c.pulse == some true))) ∧
  (∀ (s : State) (w g pos got : Nat) (prev cur : Int) (x : WavSt), s.adc.wav[w]? = some x → x.cap.start = 1 ∧ x.cap.pulse = none ∨
    x.cap.start = 2 ∧ ¬(prev < x.cap.level ∧ x.cap.level ≤ cur) ∨ x.cap.start = 3 ∧ ¬(x.cap.level < prev ∧ cur ≤ x.cap.level) →
    exec (.captureTrigger w g pos ⟨got, prev, cur⟩) s = .next s) ∧
  (∀ (s : State) (w : Nat) (d : List Int) (full : Bool) (x : WavSt) (c : Capt), plantRuns s = true → s.adc.wav[w]? = some x →
    c = x.cap → c.state = 2 → c.slot < s.adc.slots.length → ∃ t r, exec (.captureComplete w d full) s = .next t ∧
      t.adc.slots[c.slot]? = some (some r) ∧ (∀ j, j ≠ c.slot → t.adc.slots[j]? = s.adc.slots[j]?) ∧
      t.adc.wav[w]? = some { x with cap := { c with state := 0 } } ∧ (∀ j, j ≠ w → t.adc.wav[j]? = s.adc.wav[j]?) ∧
      t.adc.capSeq = r.seq ∧ (s.adc.capSeq + 1 < 0xFFFFFFFF → r.seq = s.adc.capSeq + 1) ∧ (s.adc.capSeq = 0xFFFFFFFE → r.seq = 0) ∧ r.seq ≠ 0xFFFFFFFF ∧
      r.samples = d.take c.n ∧ r.len = 0x40 + 2 * r.samples.length + 4 ∧ r.firstOnt = c.firstOnt ∧ r.trigOnt = c.trigOnt ∧
      r.pre = c.preUsed ∧ r.k = c.k ∧ r.converter = w ∧ r.period = (if x.ganged then 12500 else 25000) * 2 ^ c.k ∧
      bit r.flags 0 = (c.trunc || decide (r.samples.length < c.n)) ∧ bit r.flags 3 = full ∧ bit r.flags 4 = c.shortPre ∧
      bit r.flags 5 = c.late ∧ bit r.flags 6 = decide (c.steps ≠ s.time.stepCnt) ∧ bit r.flags 7 = x.ganged ∧
      t.host.params = s.host.params) ∧
  (∀ (m : Mail) (s : State) (w st u k pre n sl : Nat) (lv : Int) (g : Bool), taken 0x0D10 m s = true → w < 256 → st < 256 → u < 256 →
    k < 256 → -(2 ^ 15) ≤ lv → lv < 2 ^ 15 → pre < 2 ^ 32 → n < 2 ^ 32 → sl < 256 → m.payload = leBytes 1 w ++ leBytes 1 st ++
      leBytes 1 u ++ leBytes 1 k ++ leIntBytes 2 lv ++ zeros 2 ++ leBytes 4 pre ++ leBytes 4 n ++ leBytes 1 sl ++ zeros 3 →
    g = (enabled s 13 24 && act s 0x3B00 == 1) → ∃ r t, exec (.adcWaveCapture m) s = (if r = 0 then answers 0x0D10 m s t [] else
        refuses 0x0D10 m s (takenState 0x0D10 m s) r 0) ∧
      r = (if 1 < w then 0x0D05 else if w = 1 ∧ g = true then 0x0D06 else if enabled s 13 (24 + w) = false then 0x0D03
        else if st ≤ 3 ∧ 8 ≤ u ∧ u ≤ 13 ∧ k ≤ 8 ∧ pre ≤ (if g then 126976 else 61440) ∧ pre + 1 ≤ n ∧ n ≤ 1048512 ∧ sl ≤ 3 then
          (if (wavOf s w).cap.state ≠ 0 ∨ (wavOf s (1 - w)).cap.state ≠ 0 ∧ (wavOf s (1 - w)).cap.slot = sl then 0x0D01 else 0)
        else 0x0D05) ∧
      (∀ x, r = 0 → s.adc.wav[w]? = some x → t.adc.wav[w]? = some { x with cap := {
          state := 1, start := st, unit := u, k := k, level := lv, pre := pre, n := n, slot := sl } }) ∧
      (r = 0 → ∀ j, j ≠ w → t.adc.wav[j]? = s.adc.wav[j]?) ∧ (r = 0 → t.adc.slots = s.adc.slots ∧ t.adc.ch = s.adc.ch)) ∧
  (∀ (m : Mail) (s : State) (w : Nat), taken 0x0D11 m s = true → w < 256 → m.payload = leBytes 1 w ++ zeros 3 →
    1 < w ∨ enabled s 13 (24 + w) = false → exec (.adcWaveStop m) s =
      refuses 0x0D11 m s (takenState 0x0D11 m s) (if 1 < w then 0x0D05 else 0x0D03) 0) ∧
  (∀ (m : Mail) (s : State) (w : Nat) (x : WavSt), taken 0x0D11 m s = true → w < 2 → m.payload = leBytes 1 w ++ zeros 3 →
    enabled s 13 (24 + w) = true → s.adc.wav[w]? = some x → ∃ v y, exec (.adcWaveStop m) s =
      answers 0x0D11 m s { takenState 0x0D11 m s with adc := { s.adc with wav := v } } [] ∧ v[w]? = some { x with cap := y } ∧
      (∀ j, j ≠ w → v[j]? = s.adc.wav[j]?) ∧ (x.cap.state = 1 → y = { x.cap with state := 0 }) ∧
      (x.cap.state = 2 → y = { x.cap with trunc := true }) ∧ (x.cap.state = 0 → y = x.cap))

/-- A metering step. It counts, leaves every stopped meter and its accumulators, and restarts a skipped one without integrating. A feeder takes each
phase's corrected power from its four means, sums the phases, and adds a 360th of each power to the accumulator its sign names, residues included. A
thermal meter takes flow and temperatures, K from the water table and the power from both, and adds heat or cold and volume. Flags join QUAL. A
waiting snapshot captures the accumulators and is answered. A configuration error or a stop ends the meter after this step. -/
def Obligations.MeterStep : Prop :=
  (∀ (s : State), meterRuns s = true → isl s 6 = .on → stepInstant s = true → standby s = false → s.meter.lossDue = [] → s.meter.saveDue = false →
    ∃ t, exec .meterStep s = .next t ∧ t.meter.steps = wrapInc 32 s.meter.steps ∧ t.loops = s.loops ∧ t.power = s.power ∧
      t.host.params = s.host.params ∧ t.snapWait = [] ∧ (s.snapWait = [] → t.meter.snap = s.meter.snap ∧ t.meter.snapSeq = s.meter.snapSeq) ∧
      (∀ m, s.snapWait = [m] → t.meter.snap = t.meter.acc ∧ t.meter.snapOnt = s.time.ont ∧
        t.meter.snapSeq = wrapInc 32 s.meter.snapSeq) ∧
      (∀ (k : Nat) (c : AdcCh), s.adc.ch[k]? = some c → ∃ d, t.adc.ch[k]? = some d ∧ d.step = [] ∧ d.stepFlags = 0 ∧
        d.result = c.result ∧ (c.hist.length + c.step.length = 64 → d.hist = c.hist ++ c.step)) ∧
      (∀ (m q : Nat) (u : MeterUnit), m < 6 → q < meterQty m → s.meter.units[m]? = some u → u.run = false ∨ u.skip = true →
        t.meter.acc[accIx m q]? = s.meter.acc[accIx m q]? ∧ t.meter.res[accIx m q]? = s.meter.res[accIx m q]? ∧
        (u.run = false → t.meter.units[m]? = some u) ∧
        (u.run = true → t.meter.units[m]? = some { u with
          skip := false, run := !(u.stopDue || u.cfgBad), stopDue := false }))) ∧
  (∀ (s : State) (f : Nat) (u : MeterUnit), meterRuns s = true → isl s 6 = .on → stepInstant s = true → standby s = false → s.meter.lossDue = [] →
    s.meter.saveDue = false → f < 2 → s.meter.units[f]? = some u → u.run = true → u.skip = false → s.meter.acc.length = 26 →
    s.meter.res.length = 26 → ∃ t y, exec .meterStep s = .next t ∧ t.meter.units[f]? = some y ∧ y.phases.length = 3 ∧
      y.power = ratSum (y.phases.map (·.p)) ∧ y.second = ratSum (y.phases.map (·.q)) ∧
      y.third = ratSum (y.phases.map (fun z => z.vrms * z.irms / 1000000)) ∧ y.ts = s.time.ont % 2 ^ 32 ∧
      (y.run = !(u.stopDue || u.cfgBad)) ∧
      (∀ q, q < 5 → let e := (if q = 0 then max y.power 0 else if q = 1 then max (-y.power) 0 else if q = 2 then max y.second 0
          else if q = 3 then max (-y.second) 0 else y.third) / 360
        let w := nth 0 s.meter.res (5 * f + q) + (ratRound (e * 4294967296)).toNat
        t.meter.acc[5 * f + q]? = some ((nth 0 s.meter.acc (5 * f + q) + w / 2 ^ 32) % 2 ^ 64) ∨ t.meter.acc[5 * f + q]? = s.meter.acc[5 * f + q]? ∧ e = 0) ∧
      (∀ (p : Nat) (a b : List Int), p < 3 → (adcCh s (6 * f + p)).step = a.map some → (adcCh s (6 * f + 3 + p)).step = b.map some →
        a.length = b.length → a ≠ [] → ∃ z m0 m1 m2 m3 kv ki c n, y.phases[p]? = some z ∧ z.means = some (m0, m1, m2, m3) ∧
          kv = (tabN (parCommit meterParams s) (0x4003 + 0x100 * f) (8 * p) 4 : Rat) / 1073741824 *
            (par s (0x4000 + 0x100 * f) : Rat) / 8388608 ∧
          ki = (segAt (parCommit meterParams s) f p (nth {} u.phases p).prevI).1 * (par s (0x4001 + 0x100 * f) : Rat) / 8388608 *
            (if bit (parN s (0x4002 + 0x100 * f)) p then -1 else 1) ∧
          m0 = (((a.zip b).foldl (fun w x => w + x.1 * x.2) 0 : Int) : Rat) * kv * ki / (a.length : Rat) ∧
          m2 = (((a.zip b).foldl (fun w x => w + x.1 * x.1) 0 : Int) : Rat) * kv * kv / (a.length : Rat) ∧
          m3 = (((a.zip b).foldl (fun w x => w + x.2 * x.2) 0 : Int) : Rat) * ki * ki / (a.length : Rat) ∧
          c = Config.cosMicro ((segAt (parCommit meterParams s) f p (nth {} u.phases p).prevI).2.1 -
            (tabS (parCommit meterParams s) (0x4003 + 0x100 * f) (8 * p + 4) 4 : Rat)) ∧
          n = Config.sinMicro ((segAt (parCommit meterParams s) f p (nth {} u.phases p).prevI).2.1 -
            (tabS (parCommit meterParams s) (0x4003 + 0x100 * f) (8 * p + 4) 4 : Rat)) ∧
          z.vrms = Config.sqrtRat m2 ∧ z.irms = Config.sqrtRat m3 ∧ z.p = (m0 * c + m1 * n) / 1000000 ∧
          z.q = (m1 * c - m0 * n) / 1000000 ∧ z.prevI = some z.irms)) ∧
  (∀ (s : State) (m : Nat) (u : MeterUnit) (a : List Int), meterRuns s = true → isl s 6 = .on → stepInstant s = true → standby s = false →
    s.meter.lossDue = [] → s.meter.saveDue = false → 2 ≤ m → m < 6 → s.meter.units[m]? = some u → u.run = true → u.skip = false →
    s.meter.acc.length = 26 → s.meter.res.length = 26 → par s (0x4000 + 0x100 * m) = 1 →
    (adcCh s (parN s (0x4001 + 0x100 * m))).step = a.map some → a ≠ [] →
    ∃ t y ts tr r, exec .meterStep s = .next t ∧ t.meter.units[m]? = some y ∧
      y.flow = satS 32 (ratRound (((a.foldl (· + ·) 0 : Int) : Rat) / (a.length : Rat) * (par s (0x4003 + 0x100 * m) : Rat) / 65536 +
        (par s (0x4004 + 0x100 * m) : Rat))) ∧
      y.tSup = satS 32 (ratRound (ts * 100)) ∧ y.tRet = satS 32 (ratRound (tr * 100)) ∧
      r = waterExact (fun r => r.1) (if par s (0x4005 + 0x100 * m) = 0 then ts else tr) / 10 ∧
      y.second = r * waterExact (fun r => r.2.1) ((ts + tr) / 2) ∧ y.power = y.second * (y.flow : Rat) / 1000000 * (ts - tr) ∧
      (y.run = !(u.stopDue || u.cfgBad)) ∧ bit y.qual 6 = (bit u.qual 6 || decide (y.flow < 0)) ∧
      bit y.qual 5 = (bit u.qual 5 || decide (ts < 0 ∨ 200 < ts ∨ tr < 0 ∨ 200 < tr)) ∧
      (∀ q, q < 4 → let e := (if q = 0 then max y.power 0 / 360 else if q = 1 then max (-y.power) 0 / 360
          else if q = 2 then max (y.flow : Rat) 0 / 100 else max (-(y.flow : Rat)) 0 / 100)
        let w := nth 0 s.meter.res (2 + 4 * m + q) + (ratRound (e * 4294967296)).toNat
        t.meter.acc[2 + 4 * m + q]? = some ((nth 0 s.meter.acc (2 + 4 * m + q) + w / 2 ^ 32) % 2 ^ 64) ∨
          t.meter.acc[2 + 4 * m + q]? = s.meter.acc[2 + 4 * m + q]? ∧ e = 0)) ∧
  (∀ (s : State), stepInstant s = false → exec .meterStep s = .next s) ∧
  (∀ (m : Mail) (s : State), taken 0x0E10 m s = true → m.payload = [] → exec (.meterSnapshot m) s =
    .next { takenState 0x0E10 m s with
      snapWait := s.snapWait ++ [m]
      host := { (takenState 0x0E10 m s).host with waiting := s.host.waiting ++ [m.mbox] } }) ∧
  (∀ (s : State) (n m q inc : Nat) (p : Pulse), s.meter.pulses[n]? = some p → actN s (0x4600 + 0x10 * n) = m →
    actN s (0x4601 + 0x10 * n) = q → 0 < actN s (0x4602 + 0x10 * n) → ∃ k y, (pulseAdd n m q inc s).meter.pulses[n]? = some y ∧
      y.e < actN s (0x4602 + 0x10 * n) * 2 ^ 32 ∧ y.e + k * (actN s (0x4602 + 0x10 * n) * 2 ^ 32) = p.e + inc ∧
      y.backlog = min 65535 (p.backlog + k) ∧ (y.ovf = (p.ovf || decide (65535 < p.backlog + k))) ∧ y.phase = p.phase)

/-- Pulses, memory errors and records. When a pulse's width ends its gap begins, and when the gap ends the output is free or starts the next pulse of
its backlog. A memory error gives its word the value of the latest save record, clears its residue or counter, sets MEM and makes a loss record due;
in the configuration it only marks the meter, which the rewrite resumes at its next complete step. A save at a step records and starts the interval
anew. METER_LOSS_GET answers the latest loss record, METER_ACC_SET sets the value of a disabled meter and clears its residue, and is refused
otherwise. -/
def Obligations.MeterRecords : Prop :=
  (∀ (s : State) (n : Nat) (p : Pulse), plantRuns s = true → isl s 6 = .on → standby s = false → s.meter.pulses[n]? = some p →
    ∃ t y, exec (.pulseTimer n) s = .next { s with meter := { s.meter with pulses := t } } ∧ t[n]? = some y ∧
      (∀ j, j ≠ n → t[j]? = s.meter.pulses[j]?) ∧ y.e = p.e ∧ y.ovf = p.ovf ∧ (p.phase = 0 → y = p) ∧
      (p.phase = 1 → y = { p with phase := 2 }) ∧ (p.phase = 2 → p.backlog = 0 → y = { p with phase := 0 }) ∧
      (p.phase = 2 → p.backlog ≠ 0 → y.phase = 1 ∧ y.backlog = p.backlog - 1)) ∧
  (∀ (s : State) (k i o : Nat) (b : Bytes), plantRuns s = true → malorWorks s = false → b = (latestSave (fun _ => true) s).getD (zeros 512) →
    s.meter.acc.length = 26 → s.meter.res.length = 26 → s.meter.pulses.length = 8 → o = (if i < 10 then i / 5 else 2 + (i - 10) / 4) →
    ∃ t, exec (.meterMemoryEcc k i) s = .next t ∧ t.host.params = s.host.params ∧ t.meter.steps = s.meter.steps ∧
      (k < 4 → t.meter.lossDue = s.meter.lossDue ++ [s.time.ont]) ∧ (k = 4 → t.meter.lossDue = s.meter.lossDue) ∧
      (k = 0 ∨ k = 1 → i < 26 → t.meter.res = s.meter.res.set i 0 ∧ t.meter.pulses = s.meter.pulses ∧
        t.meter.acc = (if k = 0 then s.meter.acc.set i (byteField b (0x20 + 8 * i) 8) else s.meter.acc) ∧
        (∀ u, s.meter.units[o]? = some u → t.meter.units[o]? = some { u with qual := Nat.lor u.qual 128 }) ∧
        (∀ j, j ≠ o → t.meter.units[j]? = s.meter.units[j]?)) ∧
      (k = 2 ∨ k = 3 → i < 8 → t.meter.acc = s.meter.acc ∧ t.meter.res = s.meter.res ∧
        (∀ j, j ≠ i → t.meter.pulses[j]? = s.meter.pulses[j]?) ∧ (∀ p, s.meter.pulses[i]? = some p → t.meter.pulses[i]? =
          some { p with e := 0, backlog := if k = 2 then byteField b (0x120 + 4 * i) 4 else p.backlog })) ∧
      (k = 4 → t.meter.acc = s.meter.acc ∧ t.meter.pulses = s.meter.pulses ∧
        (∀ u, s.meter.units[i]? = some u → t.meter.units[i]? = some { u with qual := Nat.lor u.qual 128, cfgBad := true }) ∧
        (∀ j, j ≠ i → t.meter.units[j]? = s.meter.units[j]?))) ∧
  (∀ (s : State) (k i : Nat), plantRuns s = true → malorWorks s = true → s.meter.lossDue = [] → k < 4 →
    2 ≤ (s.recorder.save.filter posUsable).length → ∃ t, exec (.meterMemoryEcc k i) s = .next t ∧ t.meter.lossDue = [] ∧
      t.meter.last = (nextSaveSeq s, s.time.ont) ∧ t.meter.saveDue = s.meter.saveDue) ∧
  (∀ (s : State) (m : Nat) (u : MeterUnit), malorWorks s = true → s.meter.units[m]? = some u → u.cfgBad = true →
    ∃ t, exec (.meterConfigRewriteDone m) s = .next { s with meter := { s.meter with units := t } } ∧
      t[m]? = some { u with cfgBad := false, run := enabled s 14 m || u.run, skip := u.skip || !u.run } ∧ ∀ j, j ≠ m → t[j]? = s.meter.units[j]?) ∧
  (∀ (s : State), meterRuns s = true → malorWorks s = true → isl s 6 = .on → stepInstant s = true → standby s = false →
    s.meter.lossDue = [] →
    s.snapWait = [] → (∀ u ∈ s.meter.units, u.run = false) → s.meter.saveDue = true → 2 ≤ (s.recorder.save.filter posUsable).length →
    ∃ t, exec .meterStep s = .next t ∧ t.meter.saveDue = false ∧ t.meter.last = (nextSaveSeq s, s.time.ont) ∧
      t.meter.acc = s.meter.acc ∧ t.meter.res = s.meter.res ∧ t.meter.units.length = s.meter.units.length ∧
      ∀ u ∈ t.meter.units, u.qual = 0 ∧ u.sum = 0 ∧ u.cnt = 0 ∧ u.peak = 0) ∧
  (∀ (m : Mail) (s : State), taken 0x0E11 m s = true → m.payload = [] → exec (.meterLossGet m) s =
    answers 0x0E11 m s (takenState 0x0E11 m s) ((latestSave (fun b => byteField b 4 2 == 2) s).getD (zeros 512))) ∧
  (∀ (m : Mail) (s : State) (n q v : Nat), taken 0x0E12 m s = true → n < 256 → q < 256 → v < 2 ^ 64 →
    m.payload = leBytes 1 n ++ leBytes 1 q ++ zeros 6 ++ leBytes 8 v → n ≤ 5 → q < meterQty n → unitActive s 14 n = false →
    ∃ t, exec (.meterAccSet m) s = answers 0x0E12 m s t [] ∧ t.meter = { s.meter with
      acc := s.meter.acc.set (accIx n q) v, res := s.meter.res.set (accIx n q) 0 } ∧ t.host.params = s.host.params) ∧
  (∀ (m : Mail) (s : State) (n q v : Nat), taken 0x0E12 m s = true → n < 256 → q < 256 → v < 2 ^ 64 →
    m.payload = leBytes 1 n ++ leBytes 1 q ++ zeros 6 ++ leBytes 8 v → 5 < n ∨ meterQty n ≤ q ∨ unitActive s 14 n = true →
    exec (.meterAccSet m) s = refuses 0x0E12 m s (takenState 0x0E12 m s) (if 5 < n ∨ meterQty n ≤ q then 0x0E05 else 0x0E06) 0)

/-- CAN frames. A received frame goes whole into the lowest receive object that accepts it, and is counted; a remote frame and one that none accepts
are only counted. A transmitted frame leaves the part, clears its pending state unless it was written meanwhile, and is recorded; a measured delay
above 63 quanta ends it with a bit error. An error counts, gives the error state, and above 255 takes the controller off with its pending frames
kept; a protocol exception only integrates anew. A periodic trigger makes an idle object pending and counts a late one. The frame offered is a
pending one of highest priority. Other controllers keep everything. (REC after a success from above 127 is open.) -/
def Obligations.CanFrames : Prop :=
  (∀ (s : State) (c : Nat) (f : CanFrame) (x : CanSt), canOnBus s c = true → s.can[c]? = some x → ∃ t y,
    exec (.canFrameReceived c f) s = .next t ∧ t.can[c]? = some y ∧ (∀ j, j ≠ c → t.can[j]? = s.can[j]?) ∧ t.loops = s.loops ∧
    t.host.params = s.host.params ∧ y.tec = x.tec ∧ (x.rec_ ≤ 127 → y.rec_ = x.rec_ - 1) ∧ y.errCnt = x.errCnt ∧
    (∀ o, f.remote = true ∨ (objAccepts s c o f = false ∨ ∃ j, j < o ∧ objAccepts s c j f = true) → let a := canObj x o
      let b := canObj y o; b.seq = a.seq ∧ b.ident = a.ident ∧ b.ts = a.ts ∧ b.frames = a.frames ∧ b.pending = a.pending ∧
      (standby s = false → b.data = a.data)) ∧
    (f.remote = true → y.rtr = satInc 32 x.rtr ∧ y.noMatch = x.noMatch ∧ y.rxCnt = x.rxCnt) ∧
    (f.remote = false → (∀ o, o < 128 → objAccepts s c o f = false) → y.noMatch = satInc 32 x.noMatch ∧ y.rxCnt = x.rxCnt) ∧
    (∀ o n, f.remote = false → o < 128 → objAccepts s c o f = true → (∀ j, j < o → objAccepts s c j f = false) →
      n = dlcLen f.fdf f.dlc → let a := canObj x o; let b := canObj y o; y.rxCnt = satInc 32 x.rxCnt ∧ y.noMatch = x.noMatch ∧
      b.seq = wrapInc 32 a.seq ∧ b.ident = f.ident % 2 ^ 29 + 2 ^ 30 * b2n f.ide ∧ b.ts = f.ts ∧
      b.form = formWord f.dlc f.fdf f.brs f.esi n ∧ b.frames.head? = some (n, f.ts, padTo n f.data))) ∧
  (∀ (s : State) (c o : Nat) (f : CanFrame), objAccepts s c o f = true ↔ op s c o 0 = 1 ∧ (canObj (canOf s c) o).stopped = false ∧
    bit (op s c o 1) 30 = f.ide ∧ Nat.land (Nat.xor f.ident (op s c o 1)) (op s c o 2) % 2 ^ (if f.ide then 29 else 11) = 0 ∧
    (op s c o 3 / 4 = 0 ∨ op s c o 3 / 4 = 1 ∧ f.fdf = false ∨ op s c o 3 / 4 = 2 ∧ f.fdf = true)) ∧
  (∀ (s : State) (c o ts n : Nat) (d : Bytes) (x : CanSt) (g : Bool), canOnBus s c = true → s.can[c]? = some x → x.cur = some (o, d) →
    g = (act s (0x4808 + 0x40 * c) == 1 && bit (op s c o 3) 0 && bit (op s c o 3) 1) →
    ∃ t y, exec (.canFrameTransmitted c ts n) s = .next t ∧ t.can[c]? = some y ∧ (∀ j, j ≠ c → t.can[j]? = s.can[j]?) ∧
      t.host.params = s.host.params ∧ let a := canObj x o; let b := canObj y o
      (g = true → y.tdc = (n % 128, (n + actN s (0x4809 + 0x40 * c)) % 128)) ∧
      (g = false ∨ n ≤ 63 → outSent t = .can c o (op s c o 1) d :: outSent s ∧ b.pending = a.again ∧ b.seq = wrapInc 32 a.seq ∧
        b.ts = ts ∧ (standby s = false → b.data = a.data) ∧ y.txCnt = satInc 32 x.txCnt ∧ y.tec = x.tec - 1 ∧ y.rec_ = x.rec_ ∧
        ∀ j, j ≠ o → (canObj y j).pending = (canObj x j).pending ∧ (canObj y j).seq = (canObj x j).seq) ∧
      (g = true → 63 < n → outSent t = outSent s ∧ b.pending = a.pending ∧ b.seq = a.seq ∧ y.txCnt = x.txCnt ∧
        y.tec = min 511 (x.tec + 8) ∧ (y.lec = 12 ∨ y.lec = 13) ∧ y.errCnt = satInc 32 x.errCnt)) ∧
  (∀ (s : State) (c k p q : Nat) (dp px : Bool) (x : CanSt), canOnBus s c = true → s.can[c]? = some x → ∃ t y,
    exec (.canBusError c k dp px p q) s = .next t ∧ t.can[c]? = some y ∧ (∀ j, j ≠ c → t.can[j]? = s.can[j]?) ∧
    t.host.params = s.host.params ∧ outSent t = outSent s ∧ (∀ o, (canObj y o).pending = (canObj x o).pending ∧
      (canObj y o).seq = (canObj x o).seq ∧ (canObj y o).data = (canObj x o).data ∨ standby s = true) ∧
    (px = true → act s (0x480B + 0x40 * c) = 1 → y.tec = x.tec ∧ y.rec_ = x.rec_ ∧ y.errCnt = x.errCnt ∧ y.cur = none ∧
      y.state = (if x.state = 6 ∨ x.state = 7 then x.state else 1)) ∧
    (px = false → y.tec = min 511 (x.tec + p) ∧ y.rec_ = min 255 (x.rec_ + q) ∧ y.errCnt = satInc 32 x.errCnt ∧
      y.lec = k % 8 + 8 * b2n dp ∧ (255 < x.tec + p → y.state = (if x.state = 7 then 7 else 4) ∧ y.offKept = decide (x.state = 7) ∧ y.cur = none ∧ y.busoffCnt = satInc 32 x.busoffCnt) ∧
      (x.tec + p ≤ 255 → x.state = 2 ∨ x.state = 3 → y.busoffCnt = x.busoffCnt ∧
        y.state = if 128 ≤ x.tec + p ∨ 128 ≤ x.rec_ + q then 3 else 2))) ∧
  (∀ (s : State) (c o : Nat) (x : CanSt), canRuns s = true → canInstant s c o = true → s.can[c]? = some x → o < 128 → op s c o 0 = 2 →
    op s c o 5 ≠ 0 →
    (canObj x o).stopped = false → objState s c o = 1 ∨ objState s c o = 2 ∧ objSafe s c o = true →
    ∃ t y, exec (.canPeriodicTrigger c o) s = .next t ∧ t.can[c]? = some y ∧ (∀ j, j ≠ c → t.can[j]? = s.can[j]?) ∧
      t.host.params = s.host.params ∧ (canObj y o).pending = true ∧ (canObj y o).data = (canObj x o).data ∧
      (canObj y o).late = (if (canObj x o).pending then satInc 32 (canObj x o).late else (canObj x o).late) ∧
      ∀ j, j ≠ o → (canObj y j).pending = (canObj x j).pending ∧ (canObj y j).data = (canObj x j).data) ∧
  (∀ (s : State) (c o : Nat), objState s c o ≠ 1 ∧ (objState s c o ≠ 2 ∨ objSafe s c o = false) ∨ canInstant s c o = false →
    exec (.canPeriodicTrigger c o) s = .next s) ∧
  (∀ (s : State) (c o : Nat), canBest s c = some o → ∃ z, (o, z) ∈ (canOf s c).objs ∧ z.pending = true ∧ z.stopped = false ∧
    op s c o 0 = 2 ∧ ∀ j w, (j, w) ∈ (canOf s c).objs → w.pending = true → w.stopped = false → op s c j 0 = 2 →
      arbField (op s c o 1) ≤ arbField (op s c j 1))

/-- CAN states and commands. Integration ends in ACTIVE, PASSIVE or the kept BUS_OFF. A frame not ended in time is cut and counted. A memory error
stops its object. CAN_RECOVER of a bus-off controller starts the recovery and is PENDING; its end takes the controller OFF with its objects kept, the
timeout fails the pending enable. CAN_OBJ_WRITE writes the bytes named, makes the object pending where its trigger says so, is discarded and counted
under the hold line and left to the mirror in STANDBY; it is refused beyond range, disabled, or for another kind of object. -/
def Obligations.CanControl : Prop :=
  (∀ (s : State) (c : Nat) (x : CanSt), canRuns s = true → s.can[c]? = some x → x.state = 1 → ∃ t y,
    exec (.canIntegrationDone c) s = .next t ∧ t.can[c]? = some y ∧ (∀ j, j ≠ c → t.can[j]? = s.can[j]?) ∧ t.host.params = s.host.params ∧
    y.state = (if x.offKept then 4 else if 128 ≤ x.tec ∨ 128 ≤ x.rec_ then 3 else 2) ∧ y.offKept = false ∧ y.tec = x.tec ∧
    y.rec_ = x.rec_ ∧ ∀ o, (canObj y o).pending = (canObj x o).pending ∧ (canObj y o).data = (canObj x o).data) ∧
  (∀ (s : State) (c o : Nat) (d : Bytes) (x : CanSt), canRuns s = true → s.can[c]? = some x → x.state = 6 ∨ x.state = 7 → x.cur = some (o, d) →
    ∃ t, exec (.canStopCut c) s = .next t ∧ t.can[c]? = some { x with cur := none, stopCut := satInc 32 x.stopCut } ∧
      (∀ j, j ≠ c → t.can[j]? = s.can[j]?) ∧ outSent t = outSent s ∧ t.host.params = s.host.params) ∧
  (∀ (s : State) (c o : Nat) (x : CanSt), plantRuns s = true → enabled s 15 c = true → s.can[c]? = some x → ∃ t y,
    exec (.canObjectEcc c o) s = .next t ∧ t.can[c]? = some y ∧ (∀ j, j ≠ c → t.can[j]? = s.can[j]?) ∧
    y.eccCnt = satInc 32 x.eccCnt ∧ canObj y o = { canObj x o with stopped := true, pending := false } ∧
    (∀ j, j ≠ o → canObj y j = canObj x j) ∧ y.state = x.state ∧ t.host.params = s.host.params) ∧
  (∀ (s : State) (c : Nat) (x : CanSt), inRun s = true → c < 4 → s.can[c]? = some x → x.state = 5 →
    unitSt s 15 c = { stopping := true } → ∃ t y, exec (.canRecoveryDone c) s = .next t ∧ t.can[c]? = some y ∧ y.state = 0 ∧
      y.recov = 128 ∧ y.objs = x.objs ∧ y.recovered = true ∧ y.stb = true ∧ (∀ j, j ≠ c → t.can[j]? = s.can[j]?) ∧
      unitSt t 15 c = {} ∧ t.host.params = s.host.params) ∧
  (∀ (s : State) (c n : Nat) (x : CanSt) (p : Option Nat), inRun s = true → c < 4 → s.can[c]? = some x → x.state = 5 →
    unitSt s 15 c = { stopping := true, pend := p } → ∃ t y, exec (.canRecoveryTimeout c n) s = .next t ∧ t.can[c]? = some y ∧
      y.state = 0 ∧ y.recov = min n 127 ∧ y.objs = x.objs ∧ (∀ j, j ≠ c → t.can[j]? = s.can[j]?) ∧ unitSt t 15 c = {} ∧
      t.host.params = s.host.params) ∧
  (∀ (m : Mail) (s : State) (c : Nat) (x : CanSt), taken 0x0F11 m s = true → m.payload = leBytes 1 c ++ zeros 3 → c ≤ 3 →
    enabled s 15 c = true → s.can[c]? = some x → ∃ t, exec (.canRecover m) s = (if x.state = 4 then .next (respond (ring 0x0F11 m s)
        0x0F11 m (pendingAns t 0x0F02)) else refuses 0x0F11 m s (takenState 0x0F11 m s) 0x0F06 0) ∧
      t.can[c]? = some { x with state := 5, recov := 0 } ∧ (∀ j, j ≠ c → t.can[j]? = s.can[j]?) ∧
      unitSt t 15 c = { stopping := true, pend := some m.seq } ∧ t.host.params = s.host.params) ∧
  (∀ (m : Mail) (s : State) (c : Nat), taken 0x0F11 m s = true → m.payload = leBytes 1 c ++ zeros 3 → c < 256 →
    3 < c ∨ enabled s 15 c = false → exec (.canRecover m) s =
      refuses 0x0F11 m s (takenState 0x0F11 m s) (if 3 < c then 0x0F05 else 0x0F03) 0) ∧
  (∀ (m : Mail) (s : State) (c o off : Nat) (d : Bytes) (x : CanSt), taken 0x0F10 m s = true → c ≤ 3 → o ≤ 127 → off < 256 →
    1 ≤ d.length → d.length ≤ 64 → m.payload = leBytes 1 c ++ leBytes 1 o ++ leBytes 1 off ++ leBytes 1 d.length ++ d →
    enabled s 15 c = true → op s c o 0 = 2 → off + d.length ≤ objLen s c o → s.can[c]? = some x →
    (canObj x o).handed = [] → (canObj x o).stopped = false → ∃ t y, exec (.canObjWrite m) s = answers 0x0F10 m s t [] ∧
      t.can[c]? = some y ∧ (∀ j, j ≠ c → t.can[j]? = s.can[j]?) ∧ t.host.params = s.host.params ∧ y.state = x.state ∧
      (objState s c o = 4 → y = x) ∧ (objState s c o = 3 → y = { x with discard := satInc 32 x.discard }) ∧
      (objState s c o = 1 ∨ objState s c o = 2 → (canObj y o).data = overwrite (canObj x o).data off d ∧ y.discard = x.discard ∧
        (canObj y o).pending = ((canObj x o).pending || (objState s c o == 1 && op s c o 5 != 1)) ∧
        ∀ j, j ≠ o → (canObj y j).data = (canObj x j).data ∧ (canObj y j).pending = (canObj x j).pending)) ∧
  (∀ (m : Mail) (s : State) (c o off : Nat) (d : Bytes), taken 0x0F10 m s = true → c < 256 → o < 256 → off < 256 → 1 ≤ d.length →
    d.length ≤ 64 → m.payload = leBytes 1 c ++ leBytes 1 o ++ leBytes 1 off ++ leBytes 1 d.length ++ d →
    3 < c ∨ enabled s 15 c = false ∨ 127 < o ∨ op s c o 0 ≠ 2 ∨ objLen s c o < off + d.length →
    exec (.canObjWrite m) s = refuses 0x0F10 m s (takenState 0x0F10 m s) (if 3 < c then 0x0F05 else if enabled s 15 c = false then
      0x0F03 else if 127 < o then 0x0F05 else if op s c o 0 ≠ 2 then 0x0F11 else 0x0F05) 0)

/-- Ingest and broadcast. An admitted datagram is checked in the eight steps: the first that fails counts, from step 5 on in its entry too, and one
that passes them all is committed whole to its entry and to no other. Above the rate limit it is dropped and counted. A request for an
address of the port is answered, another frame it does not serve is dropped; discarded frames are counted by kind; a link change is recorded with its speed. The repeat timer
sends the last broadcast set again with rising send times, or counts why it may not. (The tag check and frame bytes are opaque.) -/
def Obligations.NetworkIngest : Prop :=
  (∀ (s : State) (p : Nat) (f d h pt : Bytes) (x : PortSt) (k i ep q sec : Nat), portUp s p = true → frameKind s p f = .telemetry d → enabled s 16 2 = true →
    s.net.ports[p]? = some x → s.net.rej.length = 8 → sec = s.time.ont / 1000000000 →
    (if x.second = sec then x.admitted else 0) < parN s (0x6009 + 0x40 * p) → h = d.take 24 → i = byteField h 4 2 →
    ep = byteField h 8 4 → q = (epochPos s ep).getD 0 →
    pt = (Config.gcmOpen (groupKey s q (byteField h 6 1) ep) ((h.drop 4).take 4 ++ (h.drop 12).take 4 ++ zeros 4) h (d.drop 24)).getD [] →
    k = (if d.length ≠ 64 ∨ byteField h 0 2 ≠ 0xD742 ∨ byteField h 2 1 ≠ 1 ∨ byteField h 3 1 ≠ 1 ∨ byteField h 7 1 ≠ 0 then 1
      else if modelHere s = false ∨ attrN s ≤ i ∨ (entry s i).group ≠ byteField h 6 1 then 2
      else if epochPos s ep = none then 3
      else if Config.gcmOpen (groupKey s q (byteField h 6 1) ep) ((h.drop 4).take 4 ++ (h.drop 12).take 4 ++ zeros 4) h
        (d.drop 24) = none then 4
      else if (entry s i).source = 1 then 5
      else if s.time.valid = false ∨ byteField h 16 8 + parN s 0x1001 * 1000000 < s.time.ont ∨
        s.time.ont + parN s 0x1002 * 1000000 < byteField h 16 8 then 6
      else if byteField h 16 8 ≤ (entry s i).tMeas ∨ (ep ≤ (entry s i).keyEpoch ∧ byteField h 12 4 ≤ (entry s i).seq) then 7
      else if 64 ≤ byteField pt 0 2 ∨ byteField pt 2 2 ≠ 0 ∨ byteField pt 18 2 ≠ 0 ∨
        (bit (byteField pt 0 2) 0 = true ∧ (byteFieldS pt 4 2 < -5000 ∨ 20000 < byteFieldS pt 4 2)) ∨
        (bit (byteField pt 0 2) 1 = true ∧ (byteFieldS pt 6 2 < -5000 ∨ 20000 < byteFieldS pt 6 2)) then 8 else 0) →
    ∃ t, exec (.telemetryDatagram p f) s = .next t ∧ t.host.params = s.host.params ∧ t.model.image = s.model.image ∧
      t.net.ports[p]? = some { x with
        rxFrames := satInc 32 x.rxFrames, second := sec, admitted := (if x.second = sec then x.admitted else 0) + 1 } ∧
      (∀ j, j ≠ p → t.net.ports[j]? = s.net.ports[j]?) ∧ (∀ j, j ≠ i → entry t j = entry s j) ∧
      (k ≠ 0 → t.net.rej = s.net.rej.set (k - 1) (satInc 32 (nth 0 s.net.rej (k - 1))) ∧ t.net.accept = s.net.accept) ∧
      (1 ≤ k → k ≤ 4 → entry t i = entry s i) ∧
      (5 ≤ k → entry t i = { entry s i with rejectCnt := satInc 32 (entry s i).rejectCnt }) ∧
      (k = 0 → t.net.rej = s.net.rej ∧ t.net.accept = satInc 32 s.net.accept ∧ entry t i = { entry s i with
        gen := wrapInc 32 (entry s i).gen
        mPresent := byteField pt 0 2
        valid := byteField pt 0 2 != 0
        tSup := if bit (byteField pt 0 2) 0 then byteFieldS pt 4 2 else 0
        tRet := if bit (byteField pt 0 2) 1 then byteFieldS pt 6 2 else 0
        flow := if bit (byteField pt 0 2) 2 then byteFieldS pt 8 4 else 0
        dp := if bit (byteField pt 0 2) 3 then byteFieldS pt 12 4 else 0
        valve := if bit (byteField pt 0 2) 4 then byteField pt 16 2 else 0
        demand := if bit (byteField pt 0 2) 5 then byteFieldS pt 20 4 else 0
        tMeas := byteField h 16 8
        tAcc := s.time.ont
        seq := byteField h 12 4
        keyEpoch := ep
        srcHost := false
        port := p
        eccBad := false })) ∧
  (∀ (s : State) (p sec : Nat) (f d : Bytes) (x : PortSt), portUp s p = true → frameKind s p f = .telemetry d → enabled s 16 2 = true → s.net.ports[p]? = some x →
    sec = s.time.ont / 1000000000 → parN s (0x6009 + 0x40 * p) ≤ (if x.second = sec then x.admitted else 0) →
    ∃ t, exec (.telemetryDatagram p f) s = .next t ∧ t.net.rejRate = satInc 32 s.net.rejRate ∧ t.net.rej = s.net.rej ∧
      t.net.accept = s.net.accept ∧ t.model = s.model ∧ t.host.params = s.host.params) ∧
  (∀ (s : State) (p k : Nat) (a r h d f : Bytes) (x : PortSt), portUp s p = true → s.net.ports[p]? = some x → r = h ++ d ++ f →
    frameKind s p r = .address k a → ∃ t y, exec (.netAddressRequest p h d f) s = .next t ∧ t.net.ports[p]? = some y ∧
      y.rxFrames = satInc 32 x.rxFrames ∧ (∀ j, j ≠ p → t.net.ports[j]? = s.net.ports[j]?) ∧ t.model = s.model ∧
      t.host.params = s.host.params ∧ y.txFrames = satInc 32 x.txFrames ∧ y.drop = x.drop ∧ t.host.sent = .eth p
        (Config.addressReply k (actN s (0x6003 + 0x40 * p)) (actN s (0x6008 + 0x40 * p)) a r) :: s.host.sent) ∧
  (∀ (s : State) (p k : Nat) (a r : Bytes), frameKind s p r = .address k a → addressMine s p k a = true) ∧
  (∀ (s : State) (p : Nat) (f : Bytes) (x : PortSt), portUp s p = true → s.net.ports[p]? = some x →
    frameKind s p f = .unserved ∨ frameKind s p f = .badFcs ∨ frameKind s p f = .long → ∃ t, exec (.frameDiscarded p f) s =
    .next { s with net := { s.net with ports := t } } ∧ (∀ j, j ≠ p → t[j]? = s.net.ports[j]?) ∧ t[p]? = some (
      if frameKind s p f = .unserved then { x with rxFrames := satInc 32 x.rxFrames, drop := satInc 32 x.drop }
      else if frameKind s p f = .badFcs then { x with fcsErr := satInc 32 x.fcsErr } else { x with long := satInc 32 x.long })) ∧
  (∀ (s : State) (p : Nat) (f : Bytes), (1522 < f.length → frameKind s p f = .long) ∧
    (64 ≤ f.length → f.length ≤ 1522 → fcsOf (f.take (f.length - 4)) ≠ f.drop (f.length - 4) → frameKind s p f = .badFcs) ∧
    (portUp s p = false → exec (.frameDiscarded p f) s = .next s ∧ exec (.telemetryDatagram p f) s = .next s ∧
      ∀ h d, exec (.netAddressRequest p h d f) s = .next s)) ∧
  (∀ (s : State) (p v : Nat) (up : Bool) (x : PortSt), plantRuns s = true → enabled s 16 p = true → s.net.ports[p]? = some x →
    ∃ t, exec (.ethLinkChange p up v) s = .next t ∧ t.net.ports[p]? = some { x with
      link := up, speed := if act s (0x6000 + 0x40 * p) = 1 then v else actN s (0x6001 + 0x40 * p) } ∧
      (∀ j, j ≠ p → t.net.ports[j]? = s.net.ports[j]?) ∧ t.net.rej = s.net.rej ∧ t.host.params = s.host.params) ∧
  (∀ (s : State), s.net.last = none ∨ inRun s = false ∨ enabled s 16 2 = false → exec .bcastRepeatTimer s = .next s) ∧
  (∀ (s : State) (n : Nat) (b : Bytes), s.net.last = some (n, b) → inRun s = true → enabled s 16 2 = true →
    s.time.valid = false ∨ bcastPos s = none ∨ grant s = false ∨ holdLine s = true → ∃ t, exec .bcastRepeatTimer s = .next t ∧
      t.net = { s.net with skip := satInc 32 s.net.skip } ∧ outSent t = outSent s) ∧
  (∀ (s : State) (n p : Nat) (b : Bytes), s.net.last = some (n, b) → inRun s = true → enabled s 16 2 = true → s.time.valid = true →
    bcastPos s = some p → grant s = true → holdLine s = false → ∃ t, exec .bcastRepeatTimer s = .next t ∧ t.net.skip = s.net.skip ∧
      t.net.last = s.net.last ∧ t.model = s.model ∧ t.host.params = s.host.params ∧ t.net.tLast = (if bcastGroups s = [] then
        s.net.tLast else max s.time.ont (s.net.tLast + 1) + ((bcastGroups s).length - 1)) ∧
      (∀ (g e T v w : Nat) (h : Bytes), bcastGroups s = [g] → e = nth 0 s.sec.epochs p → T = max s.time.ont (s.net.tLast + 1) →
        h = [0x42, 0xD7, 1, 2, 0xFF, 0xFF] ++ leBytes 1 g ++ leBytes 1 (b2n s.power.unitB) ++ leBytes 4 e ++ zeros 4 ++ leBytes 8 T →
        actN s 0x1003 = 1 → portUp s 0 = true → v = actN s 0x6004 → v ≠ 0 → w = actN s 0x1004 → w ≠ 0 →
        allZero (tab s 0x1005) = true → t.host.sent = .eth 0 (Config.udpFrame (actN s 0x6003) (actN s 0x6008) (leBytes 4 v).reverse
          (leBytes 4 w).reverse (actN s 0x1000) (actN s 0x1006)
          (h ++ Config.gcmSeal (groupKey s p g e) ((h.drop 4).take 4 ++ leBytes 8 T) h b)) :: s.host.sent))

/-- Roles. A grant edge sets the filtered grant and nothing more while the unit does not run. Falling on the ACTIVE unit it asserts the hold line and
clears every pending CAN frame; a hold is never extended. Rising in STANDBY it drives the mirrored outputs and no hold; in a hold that a grant loss
began it drops the hold, unless FAIL is set. A hold that expires drops, and on a failed unit with grant the plant stops for good. Each heartbeat
toggles, sends the health word and counts. PAIR_FAIL_SET latches FAIL with cause 1 and asserts the hold line; status and resync answer as R540 says. -/
def Obligations.PairRoles : Prop :=
  (∀ (s : State), exec (.pairGrantEdge s.pair.grant) s = .next s) ∧
  (∀ (s : State) (b : Bool), b ≠ s.pair.grant → ∃ t, exec (.pairGrantEdge b) s = .next t ∧ t.pair.grant = b ∧
    t.meter = s.meter ∧ t.adc = s.adc ∧ t.host.params = s.host.params ∧ t.time = s.time ∧ t.pair.fail = s.pair.fail ∧
    (s.pair.running = false ∨ plantRuns s = false → t.pair = { s.pair with grant := b } ∧ t.loops = s.loops ∧ t.axes = s.axes ∧
      t.logic = s.logic ∧ t.can = s.can) ∧
    (s.pair.running = true → plantRuns s = true → t.pair.grantCnt = satInc 32 s.pair.grantCnt ∧ t.pair.grantT = s.time.ont ∧
      (b = false → s.pair.hold = false → t.pair.hold = true ∧ t.pair.holdWhy = 0 ∧ t.pair.holdTick = s.power.netTick ∧
        t.loops = s.loops ∧ t.axes = s.axes ∧ t.logic = s.logic ∧ ∀ x ∈ t.can, ∀ p ∈ x.objs, p.2.pending = false) ∧
      (b = false → s.pair.hold = true → t.pair.hold = true ∧ t.pair.holdTick = s.pair.holdTick ∧ t.can = s.can) ∧
      (b = true → s.pair.hold = false → t.pair.hold = false ∧ t.pair.period = none ∧ (s.logic.mode = 5 →
        t.logic.dout = s.logic.img.q ∧ t.logic.permit = s.logic.img.p ∧ t.logic.img = s.logic.img)) ∧
      (b = true → s.pair.hold = true → t.logic = s.logic ∧ t.loops = s.loops ∧ t.axes = s.axes ∧
        (t.pair.hold = false ↔ s.pair.holdWhy = 0 ∧ s.pair.fail = false)))) ∧
  (∀ (s : State), s.pair.running = false ∨ s.pair.hold = false ∨ plantRuns s = false ∨ holdOver s = false →
    exec .holdExpiry s = .next s) ∧
  (∀ (s : State), s.pair.running = true → s.pair.hold = true → plantRuns s = true → holdOver s = true → ∃ t, exec .holdExpiry s = .next t ∧
    t.pair.hold = false ∧ t.pair.fail = s.pair.fail ∧ t.pair.grant = s.pair.grant ∧ t.host.params = s.host.params ∧ t.meter = s.meter ∧
    (s.pair.fail = false ∨ s.pair.grant = false ∨ s.pair.failsafe = true → t.pair = { s.pair with hold := false } ∧
      t.loops = s.loops ∧ t.axes = s.axes ∧ t.logic = s.logic ∧ t.can = s.can) ∧
    (s.pair.fail = true → s.pair.grant = true → s.pair.failsafe = false → t.pair = { s.pair with hold := false, failsafe := true } ∧
      (∀ x ∈ t.can, ∀ p ∈ x.objs, p.2.pending = false) ∧ (enabled s 12 0 = true → s.logic.mode ≠ 2 → t.logic.mode = 2 ∧
        t.logic.dout = BitVec.ofNat 24 (actN s 0x0C02) ∧ t.logic.permit = 0 ∧ t.logic.cmdSaved = some s.logic.cmd) ∧
      (∀ (n : Nat) (x : AxisSt), n < 16 → enabled s 11 n = true → s.axes[n]? = some x → ∃ y, t.axes[n]? = some y ∧
        y.parked = true ∧ y.state = 0 ∧ y.doing = 0 ∧ y.pos = x.pos) ∧
      (∀ (n : Nat) (x : LoopSt), n < 32 → enabled s 10 n = true → s.loops[n]? = some x → ∃ y, t.loops[n]? = some y ∧
        y.parked = true))) ∧
  (∀ (s : State), exec .heartbeatToggle s = .next (if s.pair.running = true ∧ plantRuns s = true ∧ isl s 5 = .on ∧
      s.mgmt.minimal = false ∧ beatInstant s = true then
      { s with
        host := { s.host with sent := .health (healthWord s) (crc8 (leBytes 4 (healthWord s))).toNat :: s.host.sent }
        pair := { s.pair with hb := !s.pair.hb, health := healthWord s, count := (s.pair.count + 1) % 256 } } else s)) ∧
  (∀ (s : State), s.mgmt.shed < 8 → s.pair.count < 256 → s.pair.cause < 16 → let w := healthWord s
    bit w 0 = s.pair.fail ∧ bit w 1 = (s.host.ready && s.mgmt.malorRuns) ∧ bit w 2 = s.pair.grant ∧ bit w 3 = s.pair.hold ∧
    bit w 4 = s.pair.straitUp ∧ bit w 5 = s.pair.sync ∧ bit w 6 = (s.power.cur == .sleep) ∧ bit w 7 = s.time.locked ∧
    bits w 8 3 = s.mgmt.shed ∧ bits w 12 4 = 0 ∧ bits w 16 8 = s.pair.count ∧ bits w 24 4 = s.pair.cause ∧ w < 2 ^ 28) ∧
  (∀ (m : Mail) (s : State), taken 0x1111 m s = true → m.payload = zeros 4 → enabled s 0x11 0 = true → ∃ t,
    exec (.pairFailSet m) s = answers 0x1111 m s t [] ∧ t.pair.fail = true ∧ (s.pair.fail = true → t.pair = s.pair) ∧
    (s.pair.fail = false → t.pair.cause = 1 ∧ (s.pair.running = true → t.pair.hold = true)) ∧ t.loops = s.loops ∧
    t.host.params = s.host.params) ∧
  (∀ (m : Mail) (s : State), taken 0x1111 m s = true → m.payload = zeros 4 → enabled s 0x11 0 = false →
    exec (.pairFailSet m) s = refuses 0x1111 m s (takenState 0x1111 m s) 0x1103 0) ∧
  (∀ (m : Mail) (s : State), taken 0x1110 m s = true → m.payload = [] → exec (.pairStatusGet m) s =
    answers 0x1110 m s (takenState 0x1110 m s) (leBytes 4 (pairStatus s) ++ leBytes 4 s.pair.health ++ leBytes 4 s.pair.peerHealth ++
      leBytes 4 s.pair.periodSeq ++ [1, 2, 3].flatMap (fun k => match lookupNat k (if pairRole s = 2 then s.pair.peer else s.pair.own) with
        | some o => leBytes 8 o.tag ++ leBytes 8 o.sig
        | none => zeros 16))) ∧
  (∀ (m : Mail) (s : State), taken 0x1112 m s = true → m.payload = [] → exec (.pairResync m) s =
    (if enabled s 0x11 0 = false then refuses 0x1112 m s (takenState 0x1112 m s) 0x1103 0
     else if s.pair.running = true ∧ s.pair.hold = false ∧ s.pair.grant = false ∧ s.pair.straitUp = true then
       answers 0x1112 m s (takenState 0x1112 m s) []
     else refuses 0x1112 m s (takenState 0x1112 m s) 0x1106 0))

/-- The strait. A CTRL frame is sealed under the link's next SEQ and sent every period; without a link a fresh one starts, with a halted DRBG none.
The ACTIVE unit captures the period it numbers and sends it; any other unit sends nothing. A received frame fails the first step it fails, with its
counter, and the tag limit takes the strait down; an accepted CTRL frame gives the peer's health and STRAIT_UP; a complete matching period in
STANDBY is applied, an incomplete one is lost; a unit with grant or in hold applies nothing. A timeout takes the strait down and SYNC with it. -/
def Obligations.PairStrait : Prop :=
  (∀ (s : State) (i q k e : Nat) (h : Bytes), s.pair.running = true → inRun s = true → s.pair.link = some (i, q) →
    straitPos s = some k → e = nth 0 s.sec.epochs (2 + k) → h = straitHead 1 i q e (ctrlPayload s (pairRole s)).length (2 * k) →
    ∃ t, exec .ctrlFrameTimer s = .next t ∧ t.host.sent = .strait (h ++ Config.gcmSeal (slotKey s (22 + k) 1)
      (leBytes 4 i ++ leBytes 8 q) h (ctrlPayload s (pairRole s))) :: (slotAsk (22 + k) 1 s).host.sent ∧ t.pair = { s.pair with link := some (i, q + 1) } ∧
      t.loops = s.loops ∧ t.logic = s.logic ∧ (slotOk s (22 + k) 1 = true → t = { s with
        host := { s.host with sent := t.host.sent }, pair := t.pair })) ∧
  (∀ (s : State), s.pair.running = true → inRun s = true → s.pair.link = none → ∃ t, exec .ctrlFrameTimer s = .next t ∧
    (s.sec.drbgOk = false → t.pair.link = none ∧ t.host.sent = s.host.sent) ∧ (s.sec.drbgOk = true → ∃ i, i / 2 ^ 31 = b2n s.power.unitB ∧
      (straitPos s = none → t.pair.link = some (i, 0)) ∧ (straitPos s ≠ none → t.pair.link = some (i, 1))) ∧
    t.loops = s.loops ∧ t.logic = s.logic ∧ t.host.params = s.host.params) ∧
  (∀ (s : State) (i q k e n : Nat) (b h : Bytes), mirrorInstant s = true → s.pair.running = true → inRun s = true → s.pair.grant = true → s.pair.hold = false →
    s.pair.link = some (i, q) → straitPos s = some k → s.pair.queue = [] → n = wrapInc 32 s.pair.periodSeq →
    e = nth 0 s.sec.epochs (2 + k) → b = leBytes 4 n ++ leBytes 8 s.time.ont ++ leBytes 4 (listCrc s) ++
      (mirrorList s).flatMap (fun x => captureEntry s x.1 x.2) → b.length ≤ 2048 → h = straitHead 2 i q e b.length (1 + 2 * k) →
    ∃ t, exec .mirrorCapture s = .next t ∧ t.host.sent = .strait (h ++ Config.gcmSeal (slotKey s (22 + k) 1)
      (leBytes 4 i ++ leBytes 8 q) h b) :: (slotAsk (22 + k) 1 s).host.sent ∧ t.pair = { s.pair with link := some (i, q + 1), periodSeq := n } ∧
      t.loops = s.loops ∧ t.logic = s.logic ∧ (slotOk s (22 + k) 1 = true → t = { s with
        host := { s.host with sent := t.host.sent }, pair := t.pair })) ∧
  (∀ (s : State) (k : Nat), straitPos s = some k → slotKey s (22 + k) 1 =
    (if bit (nth {} s.sec.slots (22 + k)).bind 1 then (nth {} s.sec.slots (22 + k)).key else [])) ∧
  (∀ (s : State), mirrorInstant s = false ∨ s.pair.running = false ∨ s.pair.grant = false ∨ s.pair.hold = true ∨ s.pair.link = none ∨ inRun s = false →
    exec .mirrorCapture s = .next s) ∧
  (∀ (s : State) (f : Bytes), s.pair.running = true → inRun s = true → straitFormOk f = false ∨ straitUnitOk s f = false →
    ∃ t, exec (.straitFrameReceived f) s = .next t ∧ t.pair.rxFormat = satInc 32 s.pair.rxFormat ∧ t.pair.rxTag = s.pair.rxTag ∧
      t.pair.straitUp = s.pair.straitUp ∧ t.pair.peerLinks = s.pair.peerLinks ∧ t.pair.period = s.pair.period ∧
      (straitFormOk f = false → t.pair = { s.pair with rxFormat := satInc 32 s.pair.rxFormat }) ∧
      (straitFormOk f = true → t.pair.mismatch = 1)) ∧
  (∀ (s : State) (f : Bytes), s.pair.running = true → inRun s = true → straitFormOk f = true → straitUnitOk s f = true →
    straitKey s f = none → exec (.straitFrameReceived f) s =
      .next { s with pair := { s.pair with rxEpoch := satInc 32 s.pair.rxEpoch } }) ∧
  (∀ (s : State) (f : Bytes) (k i q : Nat), s.pair.running = true → inRun s = true → straitFormOk f = true → straitUnitOk s f = true →
    straitKey s f = some k → i = byteField f 4 4 → q = byteField f 8 8 → ∃ t, exec (.straitFrameReceived f) s = .next t ∧
      match Config.gcmOpen (slotKey s (22 + k) 1) ((f.drop 4).take 12) (f.take 24) (f.drop 24) with
      | none => t.pair.rxTag = satInc 32 s.pair.rxTag ∧ t.pair.peerLinks = s.pair.peerLinks ∧ t.pair.period = s.pair.period ∧
        (t.pair.straitUp = (s.pair.straitUp && decide (s.pair.tagRun + 1 < parN s 0x1103))) ∧
        (t.pair.straitUp = true → t.pair.tagRun = s.pair.tagRun + 1 ∧ t.pair.sync = s.pair.sync) ∧
        (s.pair.straitUp = true → t.pair.straitUp = false → t.pair.sync = false ∧ t.pair.tagRun = 0)
      | some pt => ((∃ p, lookupNat i s.pair.peerLinks = some p ∧ q ≤ p) → t.pair =
            { s.pair with rxSeq := satInc 32 s.pair.rxSeq } ∧ t.loops = s.loops ∧ t.logic = s.logic) ∧
        ((∀ p, lookupNat i s.pair.peerLinks = some p → p < q) → t.pair.rxSeq = s.pair.rxSeq ∧ t.pair.tagRun = 0 ∧
          lookupNat i t.pair.peerLinks = some q ∧
          (byteField f 3 1 = 1 → byteField pt 4 1 ≠ 0 → t.pair.peerHealth = byteField pt 0 4 ∧ t.pair.period = s.pair.period ∧
            (t.pair.straitUp = (s.pair.straitUp || decide (lookupNat i s.pair.peerLinks = none) || bit (byteField pt 0 4) 4)) ∧
            (t.pair.dual = (s.pair.grant && bit (byteField pt 0 4) 2))) ∧
          (byteField f 3 1 = 1 → byteField pt 4 1 = 0 → t.pair.straitUp = false ∧ t.pair.sync = false) ∧
          (byteField f 3 1 ≠ 1 → s.pair.grant = true ∨ s.pair.hold = true → t.pair.period = s.pair.period ∧
            t.pair.applied = s.pair.applied ∧ t.pair.periodSeq = s.pair.periodSeq ∧ t.pair.peer = s.pair.peer) ∧
          (byteField f 3 1 = 2 → s.pair.grant = false → s.pair.hold = false → lookupNat i s.pair.peerLinks = some (q - 1) →
            s.pair.listAcc = none → s.pair.listBad = false → bit (byteField f 0x16 2) 0 = true →
            (pt.length = 16 + listBytes s → byteField pt 12 4 = listCrc s → t.pair.applied = true ∧ t.pair.lostRun = 0 ∧
              t.pair.periodSeq = byteField pt 0 4 ∧ ∃ x, t.pair.period = some x ∧ x.number = byteField pt 0 4 ∧
              x.ont = byteField pt 4 8 ∧ ∀ y ∈ x.items, y ∈ periodItems (mirrorList s) (pt.drop 16)) ∧
            (pt.length ≠ 16 + listBytes s → t.pair.period = s.pair.period ∧ t.pair.lostCnt = satInc 32 s.pair.lostCnt ∧
              t.pair.lostRun = s.pair.lostRun + 1)))) ∧
  (∀ (s : State), s.pair.running = false ∨ plantRuns s = false ∨ s.pair.straitUp = false → exec .straitTimeout s = .next s) ∧
  (∀ (s : State), s.pair.running = true → plantRuns s = true → s.pair.straitUp = true → ∃ t, exec .straitTimeout s = .next t ∧
    t.pair.straitUp = false ∧ t.pair.sync = false ∧ t.pair.applied = false ∧ t.pair.grant = s.pair.grant ∧ t.pair.hold = s.pair.hold ∧
    t.loops = s.loops ∧ t.axes = s.axes ∧ t.logic = s.logic ∧ t.host.params = s.host.params)

/-- Flushing and wear. A flush programs every unflushed record in order into the permanent area while it has room and into the circulating area; the
record that fills a position moves the write point to the next good position, erased. With the permanent area full only a pinned record still goes to
the status sector. A failed position is recorded, skipped and left at once, the record being written again. Relocation maps the lowest-numbered spare
or drops the position and, below 4 positions, ends in RAM-only operation. Levelling takes the least-worn spare where the wear differs by 20,000. -/
def Obligations.RecorderWriting : Prop :=
  (∀ (s : State), (served s = false ∧ s.power.saveCycle = false) ∨ s.recorder.rebuilt = false ∨ flushDue s = false → exec .recorderFlush s = .next s) ∧
  (∀ (s : State) (r : RecorderSt) (p : RingPos), r = s.recorder → served s = true → r.rebuilt = true → r.ramOnly = false →
    r.ovfOpen = none → r.seqHigh = r.seqAon / 2 ^ 32 → r.perm.length + r.buf.length < 8192 → r.circ[r.circPos]? = some p →
    p.slots.length + r.buf.length < 2048 → posUsable p = true → flushDue s = true → exec .recorderFlush s = .next { s with recorder := { r with
      buf := []
      kept := (r.buf.reverse ++ r.kept).take 2048
      perm := r.perm ++ r.buf.map .record
      circ := r.circ.set r.circPos { p with slots := p.slots ++ r.buf.map .record }
      flushEnd := match r.buf.getLast? with | some x => x.seq + 1 | none => r.flushEnd } }) ∧
  (∀ (s : State) (r : RecorderSt) (p z : RingPos) (x : Rec) (q : Nat), r = s.recorder → served s = true → r.rebuilt = true →
    r.ramOnly = false → r.ovfOpen = none → r.seqHigh = r.seqAon / 2 ^ 32 → r.buf = [x] → r.perm.length < 8191 →
    r.circ[r.circPos]? = some p → p.slots.length = 2047 → nextPos r.circ r.circPos = some q → q ≠ r.circPos → r.circ[q]? = some z →
    r.levelling = [] → posUsable p = true → flushDue s = true → ∃ t, exec .recorderFlush s = .next t ∧ t.recorder.circPos = q ∧ t.recorder.buf = [] ∧
      t.recorder.circ[r.circPos]? = some { p with slots := p.slots ++ [.record x] } ∧
      t.recorder.circ[q]? = some { z with slots := [], saves := [], erases := z.erases + 1 } ∧
      (∀ j, j ≠ q → j ≠ r.circPos → t.recorder.circ[j]? = r.circ[j]?) ∧ t.recorder.status = r.status ∧ t.host = s.host) ∧
  (∀ (s : State) (r : RecorderSt) (p : RingPos) (x : Rec), r = s.recorder → served s = true → r.rebuilt = true → r.ramOnly = false →
    r.ovfOpen = none → r.seqHigh = r.seqAon / 2 ^ 32 → r.buf = [x] → r.circ[r.circPos]? = some p → p.slots.length < 2047 →
    posUsable p = true → flushDue s = true → ∃ t, exec .recorderFlush s = .next t ∧ t.recorder.flushEnd = x.seq + 1 ∧
      t.recorder.circ[r.circPos]? = some { p with slots := p.slots ++ [.record x] } ∧
      (r.perm.length = 8191 → t.recorder.perm = r.perm ++ [.record x] ∧ ∃ y : Rec, t.recorder.buf = [y] ∧ y.code = 0x1216 ∧
        y.source = 55 ∧ bit y.flags 0 = true ∧ y.p1 = r.seqAon % 2 ^ 32) ∧
      (r.perm.length = 8192 → t.recorder.perm = r.perm ∧ (bit x.flags 0 = false → t.recorder.status = r.status ∧ t.recorder.buf = []) ∧
        (bit x.flags 0 = true → r.status.length < 2047 → t.recorder.status = r.status ++ [.record x] ∧ t.recorder.buf = []) ∧
        (bit x.flags 0 = true → r.status.length = 2047 → r.statusFullRaised = false → t.recorder.status = r.status ++ [.record x] ∧
          ∃ y : Rec, t.recorder.buf = [y] ∧ y.code = 0x1217 ∧ y.source = 55) ∧
        (r.status.length = 2048 → t.recorder.status = r.status))) ∧
  (∀ (s : State) (ring pos cause : Nat), (∀ p, (ringOf s.recorder ring)[pos]? = some p → posUsable p = false) →
    exec (.norSectorFail ring pos cause) s = .next s) ∧
  (∀ (s : State) (r : RecorderSt) (pos cause : Nat) (p : RingPos), r = s.recorder → r.circ[pos]? = some p → posUsable p = true →
    r.status.length < 2047 → r.levelling = [] → r.buf.length < 2048 → writerRuns s = true →
    ∃ t y, exec (.norSectorFail 0 pos cause) s = .next t ∧
      t.recorder.status = r.status ++ [.record (statusRec s 0x1221 (pos * 256 + p.sector * 65536) cause 0)] ∧
      (∃ x : Rec, t.recorder.buf = r.buf ++ [x] ∧ x.code = 0x1212 ∧ x.source = 53 ∧ x.seq = r.seqAon ∧ x.ont = s.time.ont ∧
        x.p1 = 0 ∧ x.p2 = pos % 2 ^ 32 ∧ x.p3 = p.sector % 2 ^ 32) ∧
      t.recorder.circ[pos]? = some y ∧ y.good = false ∧ y.relocPending = true ∧ y.dropped = false ∧ y.sector = p.sector ∧
      t.recorder.perm = r.perm ∧ t.recorder.save = r.save ∧ t.host.mbox = s.host.mbox ∧ (cause = 1 → y.slots = p.slots) ∧
      (cause = 1 → r.circPos ≠ pos → t.recorder.circPos = r.circPos ∧ ∀ j, j ≠ pos → t.recorder.circ[j]? = r.circ[j]?) ∧
      (∀ (q : Nat) (z : RingPos), r.ramOnly = false → r.circPos = pos → nextPos r.circ pos = some q → q ≠ pos → r.circ[q]? = some z →
        t.recorder.circPos = q ∧ (cause = 1 → t.recorder.circ[q]? = some { z with slots := [], saves := [], erases := z.erases + 1 }) ∧
        (∀ x, cause ≠ 1 → p.slots.getLast? = some (.record x) → y.slots = p.slots.dropLast ++ [.damaged] ∧
          t.recorder.circ[q]? = some { z with slots := [.record x], saves := [], erases := z.erases + 1 }))) ∧
  (∀ (s : State), wearWorks s = false ∨ failedPos s.recorder = [] → exec .relocation s = .next s) ∧
  (∀ (s : State) (r : RecorderSt) (l : List (Nat × Nat)) (ring pos sec e : Nat) (p : RingPos), r = s.recorder → wearWorks s = true →
    failedPos r = (ring, pos) :: l → (ringOf r ring)[pos]? = some p → r.status.length < 2047 →
    (r.spare.head? = some (sec, e) → ∃ t, exec .relocation s = .next t ∧ t.recorder.spare = eraseNat sec r.spare ∧
      (ringOf t.recorder ring)[pos]? = some { p with
        sector := sec, erases := e + 1, slots := [], saves := [], good := true, relocPending := false } ∧
      (∀ j, j ≠ pos → (ringOf t.recorder ring)[j]? = (ringOf r ring)[j]?) ∧
      t.recorder.status = r.status ++ [.record (statusRec s 0x1220 (ring + 256 * pos + 65536 * sec) e
        (if ring = 0 then r.seqAon / 2048 else ringSaveSeq r / 128))] ∧
      t.recorder.ramOnly = r.ramOnly ∧ t.recorder.perm = r.perm ∧ t.recorder.bad = insertNat p.sector p.erases r.bad) ∧
    (r.spare = [] → p.dropped = false → ∃ t, exec .relocation s = .next t ∧
      (ringOf t.recorder ring)[pos]? = some { p with relocPending := false, dropped := true } ∧ t.recorder.status = r.status ∧
      (ring = 0 → goodCount t.recorder.circ + 1 = goodCount r.circ ∧
        t.recorder.ramOnly = (r.ramOnly || decide (goodCount r.circ < 5))) ∧
      (ring ≠ 0 → goodCount t.recorder.save + 1 = goodCount r.save ∧ t.recorder.ramOnly = r.ramOnly ∧ t.recorder.circ = r.circ))) ∧
  (∀ (s : State) (ring pos sp e : Nat) (p : RingPos), wearWorks s = true → (ringOf s.recorder ring)[pos]? = some p →
    posUsable p = true → (∀ x ∈ s.recorder.levelling, ¬(x.1 = ring ∧ x.2.1 = pos)) → (sp, e) ∈ freeSpares s.recorder →
    e + 20000 ≤ p.erases → ∃ a b, (a, b) ∈ freeSpares s.recorder ∧ (∀ x ∈ freeSpares s.recorder, b ≤ x.2) ∧
      exec (.staticLevelling ring pos) s =
        .next { s with recorder := { s.recorder with levelling := s.recorder.levelling ++ [(ring, pos, a)] } }) ∧
  (∀ (r : RecorderSt) (x : Nat × Nat), x ∈ freeSpares r ↔ x ∈ r.spare ∧ ∀ y ∈ r.levelling, y.2.2 ≠ x.1) ∧
  (∀ (s : State) (ring pos : Nat), (∀ p, (ringOf s.recorder ring)[pos]? = some p → ∀ x ∈ freeSpares s.recorder, p.erases < x.2 + 20000) →
    exec (.staticLevelling ring pos) s = .next s)

/-- Reading. REC_READ of area 0 answers the held records from start on in SEQ order, or from OLDEST where start lies before it, and refuses a start
beyond NEWEST + 1, a count outside its range and, sealed, an unusable root; areas 1 and 2 answer slots as stored, empty ones as 0xFF. A sealed answer
ends in the tag over UID, header and records, and REC_VERIFY confirms exactly that tag. REC_STATUS_GET answers twelve values, of which those that
Malor writes are 0 until start step 8. None of the three changes the recorder. -/
def Obligations.RecorderReading : Prop :=
  (∀ (m : Mail) (s : State) (n fl start : Nat) (r : RecorderSt), taken 0x1210 m s = true → r = s.recorder → n < 256 → fl < 2 →
    start < 2 ^ 32 → m.payload = leBytes 1 0 ++ leBytes 1 n ++ leBytes 1 fl ++ zeros 1 ++ leBytes 4 start →
    (n = 0 ∨ 30 - fl < n → exec (.recRead m) s = refuses 0x1210 m s (takenState 0x1210 m s) 0x1205 0) ∧
    (0 < n → n ≤ 30 - fl → fl = 1 → s.sec.rootOk = false →
      exec (.recRead m) s = refuses 0x1210 m s (takenState 0x1210 m s) 0x1206 0) ∧
    (0 < n → n ≤ 30 - fl → s.sec.rootOk = true ∨ fl = 0 → 1 < signedDiff 32 start (newest r) →
      exec (.recRead m) s = refuses 0x1210 m s (takenState 0x1210 m s) 0x1205 0) ∧
    (0 < n → n ≤ 30 - fl → s.sec.rootOk = true ∨ fl = 0 → signedDiff 32 start (newest r) ≤ 1 → ∃ l : List Rec, ∃ b : Bytes,
      (∀ f : Nat, f = (if signedDiff 32 start (oldest r) < 0 then oldest r else start) →
        l = ((allRecs r).filter (fun x => 0 ≤ signedDiff 32 (x.seq % 2 ^ 32) f)).take n) ∧
      b = leBytes 4 (oldest r) ++ leBytes 4 (newest r) ++ leBytes 2 l.length ++ leBytes 2 (b2n r.ramOnly + 2 * fl) ++
        leBytes 4 (unflushed r).length ++ l.flatMap recBytes ∧
      exec (.recRead m) s = answers 0x1210 m s (takenState 0x1210 m s)
        (b ++ if fl = 1 then (Config.hmac384 (slotKey s 1 5) (uidBytes s ++ b)).take 16 else []))) ∧
  (∀ (m : Mail) (s : State) (area n start : Nat) (r : RecorderSt), taken 0x1210 m s = true → r = s.recorder → area = 1 ∨ area = 2 →
    0 < n → n ≤ 30 → start < 2 ^ 32 → m.payload = leBytes 1 area ++ leBytes 1 n ++ zeros 2 ++ leBytes 4 start →
    (2048 * (if area = 1 then 4 else 1) ≤ start → exec (.recRead m) s =
      refuses 0x1210 m s (takenState 0x1210 m s) 0x1205 0) ∧
    (start < 2048 * (if area = 1 then 4 else 1) → ∃ l : List Bytes, l.length = min n (2048 * (if area = 1 then 4 else 1) - start) ∧
      (∀ k < l.length, l[k]? = some (match (if area = 1 then r.perm else r.status)[start + k]? with
        | some (.record x) => recBytes x
        | some .damaged => Config.damagedSlot
        | none => List.replicate 32 0xFF)) ∧
      exec (.recRead m) s = answers 0x1210 m s (takenState 0x1210 m s) (leBytes 4 (oldest r) ++ leBytes 4 (newest r) ++
        leBytes 2 l.length ++ leBytes 2 (b2n r.ramOnly) ++
        leBytes 4 (if area = 1 then r.perm else r.status).length ++ l.flatten))) ∧
  (∀ (m : Mail) (s : State), taken 0x1210 m s = true → m.payload.length ≠ 8 ∨ 2 ≤ byteField m.payload 2 1 ∨ byteField m.payload 3 1 ≠ 0 →
    exec (.recRead m) s = refuses 0x1210 m s (takenState 0x1210 m s) 0x120A 0) ∧
  (∀ (m : Mail) (s : State) (b tag : Bytes), taken 0x1211 m s = true → m.payload = b ++ tag → tag.length = 16 → 16 ≤ b.length →
    b.length = 16 + 32 * byteField b 8 2 →
    (s.sec.rootOk = false → exec (.recVerify m) s = refuses 0x1211 m s (takenState 0x1211 m s) 0x1206 0) ∧
    (s.sec.rootOk = true → ∃ ok : Bool, (ok = true ↔ (Config.hmac384 (slotKey s 1 5) (uidBytes s ++ b)).take 16 = tag) ∧
      exec (.recVerify m) s = answers 0x1211 m s (takenState 0x1211 m s) [if ok then 1 else 0])) ∧
  (∀ (m : Mail) (s : State), taken 0x1211 m s = true → m.payload.length < 32 ∨ m.payload.length ≠ 32 + 32 * byteField m.payload 8 2 →
    exec (.recVerify m) s = refuses 0x1211 m s (takenState 0x1211 m s) 0x120A 0) ∧
  (∀ (m : Mail) (s : State) (r : RecorderSt) (st : Nat), taken 0x1200 m s = true → m.payload = [] → r = s.recorder →
    goodCount r.circ < 64 → goodCount r.save < 16 → ∃ w, w < 2 ^ 21 ∧ bits w 0 6 = goodCount r.circ ∧ bits w 8 4 = goodCount r.save ∧
      bits w 6 2 = 0 ∧ bits w 12 4 = 0 ∧ bit w 16 = r.ramOnly ∧ bit w 17 = decide (8192 ≤ r.perm.length) ∧
      bit w 18 = decide (2048 ≤ r.status.length) ∧ bit w 19 = r.flushing ∧ bit w 20 = !(failedPos r).isEmpty ∧
      (st = (if r.regsValid then 1 else 0) → exec (.recStatusGet m) s = answers 0x1200 m s (takenState 0x1200 m s)
        ([st * w, r.seqAon % 2 ^ 32, st * oldest r, newest r, if r.flushEnd = 0 then 0 else st * ((r.flushEnd - 1) % 2 ^ 32),
          (unflushed r).length, st * r.perm.length, st * r.status.length, st * r.spare.length, st * eraseMax r, r.ovfCnt, r.dropCnt].flatMap (leBytes 4)))) ∧
  (∀ (m : Mail) (s : State), taken 0x1200 m s = true → m.payload ≠ [] → exec (.recStatusGet m) s =
    refuses 0x1200 m s (takenState 0x1200 m s) 0x120A 0)

/-- Display commands. While the unit is disabled each is refused. DISP_IMAGE_WRITE changes exactly the run's bytes of PENDING, unless it leaves the panel
or overlaps the running rectangle. DISP_TEMP_SET gives the temperature, unless a channel does. DISP_UPDATE is checked in R569's order and numbered; it
waits while an update or a discharge runs; from IDLE it starts with the power-up, from HOLDING with its first frame, latching the band, the table's
frame count and the flag; a PARTIAL one runs as FULL where the band has no partial table. A due clearing update goes first. -/
def Obligations.DisplayCommands : Prop :=
  (∀ (m : Mail) (s : State), enabled s 0x13 0 = false →
    (taken 0x1310 m s = true → 8 ≤ m.payload.length → m.payload.length = 8 + byteField m.payload 4 2 / 2 → byteField m.payload 6 2 = 0 →
      exec (.dispImageWrite m) s = refuses 0x1310 m s (takenState 0x1310 m s) 0x1303 0) ∧
    (taken 0x1311 m s = true → m.payload.length = 12 → exec (.dispUpdate m) s = refuses 0x1311 m s (takenState 0x1311 m s) 0x1303 0) ∧
    (taken 0x1312 m s = true → m.payload.length = 4 → byteField m.payload 2 2 = 0 →
      exec (.dispTempSet m) s = refuses 0x1312 m s (takenState 0x1312 m s) 0x1303 0)) ∧
  (∀ (m : Mail) (s : State) (x y n o : Nat) (d : Bytes), taken 0x1310 m s = true → enabled s 0x13 0 = true → x < 65536 → y < 65536 →
    n < 65536 → m.payload = leBytes 2 x ++ leBytes 2 y ++ leBytes 2 n ++ zeros 2 ++ d → d.length = n / 2 →
    o = y * (parN s 0x1300 / 2) + x / 2 →
    (x % 2 = 1 ∨ n % 2 = 1 ∨ n < 2 ∨ 1920 < n ∨ parN s 0x1300 < x + n ∨ parN s 0x1301 ≤ y → exec (.dispImageWrite m) s =
      refuses 0x1310 m s (takenState 0x1310 m s) 0x1305 0) ∧
    (x % 2 = 0 → n % 2 = 0 → 2 ≤ n → n ≤ 1920 → x + n ≤ parN s 0x1300 → y < parN s 0x1301 →
      ((∃ u, s.disp.cur = some u ∧ u.y0 ≤ y ∧ y < u.y0 + u.h ∧ x < u.x0 + u.w ∧ u.x0 < x + n) → exec (.dispImageWrite m) s =
        refuses 0x1310 m s (takenState 0x1310 m s) 0x1301 0) ∧
      ((∀ u, s.disp.cur = some u → y < u.y0 ∨ u.y0 + u.h ≤ y ∨ u.x0 + u.w ≤ x ∨ x + n ≤ u.x0) → ∃ l, exec (.dispImageWrite m) s =
        answers 0x1310 m s { takenState 0x1310 m s with disp := { s.disp with pend := l } } [] ∧
        ∀ j : Nat, imgByte l j = if o ≤ j ∧ j < o + n / 2 then (nth 0 d (j - o)).toNat else imgByte s.disp.pend j))) ∧
  (∀ (m : Mail) (s : State) (v : Int), taken 0x1312 m s = true → enabled s 0x13 0 = true → -32768 ≤ v → v < 32768 →
    m.payload = leIntBytes 2 v ++ zeros 2 →
    (par s 0x130A = 1 → exec (.dispTempSet m) s = refuses 0x1312 m s (takenState 0x1312 m s) 0x1306 0) ∧
    (par s 0x130A ≠ 1 → exec (.dispTempSet m) s = answers 0x1312 m s { takenState 0x1312 m s with
      disp := { s.disp with hostTemp := some (v, s.time.ont) } } [])) ∧
  (∀ (s : State) (n : Nat), n = parN s 0x130F → (tempValid s = none → bandNow s = (parN s 0x1310, false, true)) ∧
    (∀ (v : Int) (b : Nat), tempValid s = some v → b < n → v ≤ tabS s 0x7800 (2 * b) 2 → (∀ j < b, tabS s 0x7800 (2 * j) 2 < v) →
      bandNow s = (b, false, false)) ∧
    (∀ v : Int, tempValid s = some v → (∀ j < n, tabS s 0x7800 (2 * j) 2 < v) → bandNow s = (n - 1, true, false))) ∧
  (∀ (s : State) (v : Int) (a : Nat), par s 0x130A = 0 → s.disp.hostTemp = some (v, a) →
    tempValid s = if s.time.ont ≤ a + parN s 0x130E * 1000000000 then some v else none) ∧
  (∀ (m : Mail) (s : State) (mode x0 y0 w h : Nat), taken 0x1311 m s = true → enabled s 0x13 0 = true → mode < 256 → x0 < 65536 →
    y0 < 65536 → w < 65536 → h < 65536 →
    m.payload = leBytes 1 mode ++ zeros 3 ++ leBytes 2 x0 ++ leBytes 2 y0 ++ leBytes 2 w ++ leBytes 2 h →
    (w < 8 ∨ h < 8 ∨ parN s 0x1300 < x0 + w ∨ parN s 0x1301 < y0 + h ∨ x0 % 8 ≠ 0 ∨ w % 8 ≠ 0 ∨ 1 < mode →
      exec (.dispUpdate m) s = refuses 0x1311 m s (takenState 0x1311 m s) 0x1305 0) ∧
    (8 ≤ w → 8 ≤ h → x0 + w ≤ parN s 0x1300 → y0 + h ≤ parN s 0x1301 → x0 % 8 = 0 → w % 8 = 0 → mode ≤ 1 →
      (mode = 1 → s.disp.shownKnown = false ∨ s.disp.clearDue = true → exec (.dispUpdate m) s =
        refuses 0x1311 m s (takenState 0x1311 m s) 0x1306 0) ∧
      (mode = 1 → s.disp.shownKnown = true → s.disp.clearDue = false → 64 * frameTime s < w * h * 1000 → exec (.dispUpdate m) s =
        refuses 0x1311 m s (takenState 0x1311 m s) 0x1313 0) ∧
      (mode = 0 → 128 * frameTime s < w * h * 1000 → exec (.dispUpdate m) s = refuses 0x1311 m s (takenState 0x1311 m s) 0x1313 0) ∧
      (mode = 0 ∨ s.disp.shownKnown = true ∧ s.disp.clearDue = false → (mode + 1) * (w * h * 1000) ≤ 128 * frameTime s →
        ∀ u : DispUpd, u = { num := (s.disp.lastNum + 1) % 2 ^ 32, full := decide (mode = 0), x0, y0, w, h } →
        (∀ v, s.disp.queued = some v → exec (.dispUpdate m) s = refuses 0x1311 m s (takenState 0x1311 m s) 0x1301 0) ∧
        (s.disp.queued = none → s.disp.cur.isSome = true ∨ s.disp.state = 5 ∨ s.disp.state = 2 ∨ s.disp.stop ≠ 0 → exec (.dispUpdate m) s =
          answers 0x1311 m s { takenState 0x1311 m s with disp := { s.disp with lastNum := u.num, queued := some u } }
            (leBytes 4 u.num ++ [1])) ∧
        (∀ (b : Nat) (hi no : Bool), s.disp.stop = 0 → s.disp.queued = none → s.disp.cur = none → s.disp.clearDue = false → bandNow s = (b, hi, no) →
          ∀ af : Bool, af = (decide (mode = 1) && decide (fPart s b = 0)) → s.disp.state = 1 ∨ s.disp.state = 4 ∨ s.disp.state = 6 →
          ∃ t, exec (.dispUpdate m) s = answers 0x1311 m s t (leBytes 4 u.num ++ [0]) ∧ t.disp.cur = some u ∧ t.disp.queued = none ∧
            t.disp.updNum = u.num ∧ t.disp.rect = (x0, y0, w, h) ∧ t.disp.band = b ∧ t.disp.tempHigh = hi ∧ t.disp.noTemp = no ∧
            t.disp.asFull = af ∧ t.disp.frame = 0 ∧ t.disp.driven = 0 ∧ bit t.disp.flag 0 = true ∧ bit t.disp.flag 1 = false ∧
            t.disp.frames = (if mode = 0 ∨ af = true then fFull s b else fPart s b) ∧ t.disp.pend = s.disp.pend ∧
            t.disp.shown = s.disp.shown ∧ t.disp.shownKnown = s.disp.shownKnown ∧ t.host.params = s.host.params ∧
            (s.disp.state ≠ 4 → t.disp.powerStep = 2 ∧ t.disp.vcomSet = 0 ∧ t.disp.dsc = 0 ∧ t.host.sent = (takenState 0x1311 m s).host.sent ∧
              t.disp.state = (if s.disp.state = 6 then 6 else 2)) ∧
            (s.disp.state = 4 → t.disp.state = 3 ∧ t.host.sent = .panelFrame u.num 0 false :: (takenState 0x1311 m s).host.sent)) ∧
        (s.disp.stop = 0 → s.disp.queued = none → s.disp.cur = none → s.disp.clearDue = true → s.disp.state = 1 → ∃ t v, exec (.dispUpdate m) s =
          answers 0x1311 m s t (leBytes 4 u.num ++ [1]) ∧ t.disp.queued = some u ∧ t.disp.cur = some v ∧ v.clearing = true ∧
          v.full = true ∧ v.x0 = 0 ∧ v.y0 = 0 ∧ v.w = parN s 0x1300 ∧ v.h = parN s 0x1301))))

/-- Frames and rails. An ended frame counts and, with frames left, the next begins, flagging the first band difference; after the last one SHOWN takes the
rectangle, the result and the event are written and the rails hold or discharge; a rail failure discharges instead. Rails come up in order, VCOM after
VGH; a timeout drops those started, without a frame; a lost rail ends the update with RAIL_FAULT, in FAULT. The discharge sends its frame, sets VCOM to
0 V, drops VGH, VPOS, VGL and VNEG and ends in IDLE; a slow rail is reported and passed. A lost fetch makes SHOWN unknown. -/
def Obligations.DisplayEngine : Prop :=
  (∀ s : State, s.disp.cur = none ∨ s.disp.state ≠ 3 → exec .displayFrameEnd s = .next s) ∧
  (∀ (s : State) (u : DispUpd) (d : DispSt), d = s.disp → d.cur = some u → d.state = 3 → d.railFail = none → d.frame + 1 < d.frames →
    ∃ t, exec .displayFrameEnd s = .next t ∧ t.disp = { d with
        frame := d.frame + 1, driven := d.driven + 1, frameCnt := satInc 32 d.frameCnt, frameLost := false
        flag := updFlag u d.band (d.frame + 1), bandChanged := d.bandChanged || decide ((bandNow s).1 ≠ d.band) } ∧
      outSent t = .panelFrame u.num (d.frame + 1) false :: outSent s ∧ t.recorder = (if d.bandChanged = false ∧ (bandNow s).1 ≠ d.band then
        (raise 0x1313 123 u.num d.band (bandNow s).1 s).recorder else s.recorder)) ∧
  (∀ (s : State) (u : DispUpd), s.disp.cur = some u → s.disp.state = 3 → s.disp.railFail.isSome = true → exec .displayFrameEnd s =
    .next { s with
      host := { s.host with sent := .panelFrame s.disp.updNum 0 true :: s.host.sent }
      disp := { s.disp with state := 5, dscStep := 1, driven := s.disp.driven + 1, frameCnt := satInc 32 s.disp.frameCnt } }) ∧
  (∀ (s : State) (u : DispUpd) (d : DispSt), d = s.disp → d.cur = some u → d.state = 3 → d.railFail = none → d.frames = d.frame + 1 →
    d.queued = none → d.stop = 0 → d.band < 16 → d.driven < 255 → ∃ t, exec .displayFrameEnd s = .next t ∧ t.disp.cur = none ∧
      t.disp.pend = d.pend ∧ bit t.disp.flag 0 = false ∧ t.disp.driven = d.driven + 1 ∧
      (u.clearing = true → ∀ o, imgByte t.disp.shown o = 255) ∧
      (u.clearing = false → (∀ i j : Nat, i < u.w / 2 → j < u.h → imgByte t.disp.shown ((u.y0 + j) * (parN s 0x1300 / 2) +
          (u.x0 + 2 * i) / 2) = imgByte d.pend ((u.y0 + j) * (parN s 0x1300 / 2) + (u.x0 + 2 * i) / 2)) ∧
        (∀ o : Nat, (∀ i j, i < u.w / 2 → j < u.h → o ≠ (u.y0 + j) * (parN s 0x1300 / 2) + (u.x0 + 2 * i) / 2) →
          imgByte t.disp.shown o = imgByte d.shown o)) ∧
      (t.disp.shownKnown = (!d.updLost && (d.shownKnown || (u.full && wholePanel s u)))) ∧
      (t.disp.clearDue = (d.clearDue && (d.updLost || !u.clearing))) ∧
      t.disp.state = (if parN s 0x1307 = 0 then 5 else 4) ∧ t.disp.dscStep = (if parN s 0x1307 = 0 then 1 else d.dscStep) ∧
      bits t.disp.result 0 3 = (if d.updLost then 2 else 0) ∧ bit t.disp.result 3 = d.bandChanged ∧ bit t.disp.result 4 = d.noTemp ∧
      bit t.disp.result 5 = d.tempHigh ∧ bit t.disp.result 6 = d.asFull ∧ bit t.disp.result 7 = u.clearing ∧
      bits t.disp.result 8 4 = d.band ∧ bits t.disp.result 16 8 = d.driven + 1 ∧
      t.recorder = (raise 0x1310 120 u.num t.disp.result (ontLo s) s).recorder) ∧
  (∀ s : State, s.disp.powerStep < 2 ∨ 5 < s.disp.powerStep → exec .railGood s = .next s ∧
    ∀ fb, exec (.railTimeout fb) s = .next s) ∧
  (∀ (s : State) (k : Nat), s.disp.powerStep = k → 2 ≤ k → k ≤ 5 → exec .railGood s = .next { s with disp := { s.disp with
    good := s.disp.good ||| 2 ^ (k - 2)
    powerStep := k + 1
    vcomSet := if k = 5 then ((1 - par s 0x1308) / 2).toNat else s.disp.vcomSet } }) ∧
  (∀ s : State, s.disp.powerStep ≠ 6 ∨ s.disp.cur = none → exec .vcomSettleDone s = .next s) ∧
  (∀ (s : State) (u : DispUpd), s.disp.powerStep = 6 → s.disp.cur = some u → ∃ t, exec .vcomSettleDone s = .next t ∧
    t.disp = { s.disp with
      state := 3, powerStep := 0, frameLost := false, flag := updFlag u s.disp.band s.disp.frame
      bandChanged := s.disp.bandChanged || decide ((bandNow s).1 ≠ s.disp.band) } ∧
    outSent t = .panelFrame u.num s.disp.frame false :: outSent s) ∧
  (∀ (s : State) (k fb : Nat), s.disp.powerStep = k → 2 ≤ k → k ≤ 5 → ∃ t, exec (.railTimeout fb) s = .next t ∧
    t = { s with disp := { s.disp with
      state := 5, powerStep := 0, vcomSet := 0, railFail := some (k - 2, 0, fb), dscStep := 8 - k
      good := s.disp.good &&& (15 - 2 ^ (k - 2)), dsc := s.disp.dsc ||| 2 ^ (k - 2) } }) ∧
  (∀ (s : State) (r fb : Nat), (4 ≤ r ∨ bit s.disp.good r = false → exec (.railLost r fb) s = .next s) ∧
    (r < 4 → bit s.disp.good r = true → s.disp.cur = none ∨ s.disp.railFail ≠ none → exec (.railLost r fb) s =
      .next { s with disp := { s.disp with good := s.disp.good &&& (15 - 2 ^ r) } }) ∧
    (r < 4 → bit s.disp.good r = true → s.disp.cur ≠ none → s.disp.railFail = none → s.disp.powerStep = 0 →
      exec (.railLost r fb) s = .next { s with disp := { s.disp with
        railFail := some (r, 1, fb), good := s.disp.good &&& (15 - 2 ^ r) } }) ∧
    (r < 4 → bit s.disp.good r = true → s.disp.cur ≠ none → s.disp.railFail = none → s.disp.powerStep ≠ 0 →
      exec (.railLost r fb) s = .next { s with
        host := { s.host with sent := .panelFrame s.disp.updNum 0 true :: s.host.sent }
        disp := { s.disp with
          railFail := some (r, 1, fb), good := s.disp.good &&& (15 - 2 ^ r), powerStep := 0, state := 5, dscStep := 1 } })) ∧
  (∀ s : State, exec .railHoldExpiry s = .next (if s.disp.state = 4 then { s with
    host := { s.host with sent := .panelFrame s.disp.updNum 0 true :: s.host.sent }
    disp := { s.disp with state := 5, dscStep := 1 } } else s)) ∧
  (∀ s : State, (s.disp.dscStep = 0 ∨ 7 ≤ s.disp.dscStep → exec .dischargeStepDone s = .next s) ∧
    (s.disp.dscStep = 1 → exec .dischargeStepDone s = .next { s with disp := { s.disp with dscStep := 2, vcomSet := 0 } }) ∧
    (∀ k r, s.disp.dscStep = k → 2 ≤ k → k ≤ 5 → k + r = 5 → exec .dischargeStepDone s = .next { s with disp := { s.disp with
      dscStep := k + 1, good := s.disp.good &&& (15 - 2 ^ r), dsc := s.disp.dsc ||| 2 ^ r } }) ∧
    (s.disp.dscStep = 6 → s.disp.railFail = none → s.disp.stop = 0 → s.disp.queued = none → exec .dischargeStepDone s =
      .next { s with disp := { s.disp with state := 1, dscStep := 0, dsc := 15, good := 0 } }) ∧
    (s.disp.dscStep = 6 → s.disp.railFail = none → s.disp.stop ≠ 0 → exec .dischargeStepDone s =
      .next { s with disp := { s.disp with state := 1, dscStep := 7, dsc := 15, good := 0 } })) ∧
  (∀ (s : State) (u : DispUpd) (r c fb : Nat), s.disp.dscStep = 6 → s.disp.railFail = some (r, c, fb) → s.disp.cur = some u →
    s.disp.stop = 0 → s.disp.queued = none → ∃ t, exec .dischargeStepDone s = .next t ∧ t.disp.state = 6 ∧ t.disp.cur = none ∧
      t.disp.railFail = none ∧ t.disp.dsc = 15 ∧ t.disp.good = 0 ∧ bits t.disp.result 0 3 = 1 ∧ t.disp.shown = s.disp.shown ∧
      (t.disp.shownKnown = (s.disp.shownKnown && decide (c ≠ 1))) ∧
      t.recorder = (raise 0x1312 122 r c fb (raise 0x1310 120 u.num t.disp.result (ontLo s) s)).recorder) ∧
  (∀ (s : State) (fb : Nat), (s.disp.dscStep < 3 ∨ 6 < s.disp.dscStep → exec (.dischargeRailTimeout fb) s = .next s) ∧
    (3 ≤ s.disp.dscStep → s.disp.dscStep ≤ 6 → exec (.dischargeRailTimeout fb) s = exec .dischargeStepDone
      (raise 0x1312 122 (6 - s.disp.dscStep) 2 fb { s with disp := { s.disp with dscSlow := true } }))) ∧
  (∀ (s : State) (u : DispUpd) (a : Nat), inRun s = true → isl s 10 = .on → s.disp.cur = some u → s.disp.state = 3 →
    s.disp.frameLost = false → ∃ t, exec (.dramError 9 a) s = .next t ∧ t.disp = { s.disp with
      frameLost := true, updLost := true, lostCnt := satInc 32 s.disp.lostCnt, shownKnown := false })
end

