-- ==== Sys2Proof/Laws/Lists.lean ====
section
/-! SUPPORT. Lists, bits and little-endian fields: the laws of the helpers that registers and payloads are written with. -/

namespace Sys2Proof.Machine

@[simp] theorem length_modNth {α : Type} (l : List α) (i : Nat) (f : α → α) : (modNth l i f).length = l.length := by
  induction l generalizing i with
  | nil => rfl
  | cons a l ih => cases i <;> simp [modNth, ih]

/-- Only element `i` of a list changes. -/
theorem getElem?_modNth {α : Type} (l : List α) (i j : Nat) (f : α → α) :
    (modNth l i f)[j]? = if j = i then l[j]?.map f else l[j]? := by
  induction l generalizing i j with
  | nil => simp [modNth]
  | cons a l ih => cases i <;> cases j <;> simp [modNth, ih]

@[simp] theorem getElem?_modNth_same {α : Type} (l : List α) (i : Nat) (f : α → α) : (modNth l i f)[i]? = l[i]?.map f := by
  simp [getElem?_modNth]

theorem getElem?_modNth_other {α : Type} (l : List α) (i j : Nat) (f : α → α) (h : j ≠ i) : (modNth l i f)[j]? = l[j]? := by
  simp [getElem?_modNth, h]

/-- `nth` and the optional element say the same. -/
theorem nth_eq {α : Type} (d : α) (l : List α) (i : Nat) : nth d l i = l[i]?.getD d := by
  simp [nth, List.getD_eq_getElem?_getD]

theorem nth_of_getElem? {α : Type} {d a : α} {l : List α} {i : Nat} (h : l[i]? = some a) : nth d l i = a := by
  simp [nth_eq, h]

theorem nth_modNth_same {α : Type} {d a : α} {l : List α} {i : Nat} (f : α → α) (h : l[i]? = some a) :
    nth d (modNth l i f) i = f a := by
  simp [nth_eq, h]

theorem nth_modNth_other {α : Type} (d : α) (l : List α) (i j : Nat) (f : α → α) (h : j ≠ i) :
    nth d (modNth l i f) j = nth d l j := by
  simp [nth_eq, getElem?_modNth_other l i j f h]

@[simp] theorem length_leBytes (n v : Nat) : (leBytes n v).length = n := by
  induction n generalizing v with
  | zero => rfl
  | succ n ih => simp [leBytes, ih]

@[simp] theorem length_zeros (n : Nat) : (zeros n).length = n := by simp [zeros]

/-- Little-endian bytes spell the number they were made of, cut to their width (R7). -/
@[simp] theorem leNat_leBytes (n v : Nat) : leNat (leBytes n v) = v % 256 ^ n := by
  induction n generalizing v with
  | zero => simp [leBytes, leNat, Nat.mod_one]
  | succ n ih =>
    have e : 256 ^ (n + 1) = 256 * 256 ^ n := by rw [Nat.pow_succ, Nat.mul_comm]
    have m := Nat.mod_mul (x := v) (a := 256) (b := 256 ^ n)
    simp only [leBytes, leNat, ih, BitVec.toNat_ofNat, e, m]

/-- A field that the first `n` bytes hold. -/
theorem byteField_front (n v : Nat) (r : Bytes) : byteField (leBytes n v ++ r) 0 n = v % 256 ^ n := by
  simp [byteField]

/-- A field behind a prefix of known length. -/
theorem byteField_skip (p r : Bytes) (off n : Nat) (h : p.length ≤ off) : byteField (p ++ r) off n = byteField r (off - p.length) n := by
  simp [byteField, List.drop_append, List.drop_eq_nil_of_le h]

/-- Adding a bit that is clear sets it. -/
theorem bit_add (x n : Nat) (h : bit x n = false) : bit (x + 2 ^ n) n = true := by
  have hp : 0 < 2 ^ n := Nat.two_pow_pos n
  have e : (x + 2 ^ n) / 2 ^ n = x / 2 ^ n + 1 := by
    simp [hp]
  simp only [bit, beq_eq_false_iff_ne, ne_eq, beq_iff_eq, e] at h ⊢
  omega

end Sys2Proof.Machine
end

