-- ==== Sys2Proof/Laws/Mail.lean ====
section
/-! SUPPORT. What a mailbox command answers, once for all commands. -/

namespace Sys2Proof.Machine

/-- Steps 7 to 9 of R139 let a command through to its own execution. -/
theorem mailLate_body {cmd : Nat} {m : Mail} {body : State → Answer} {w : State}
    (a : (mailAuth m || !needsSession w cmd m.payload) = true) (b : (w.mgmt.minimal && !(minimalCmds w).contains cmd) = false)
    (c : mailShed w cmd m.payload = false) : mailLate cmd m body w = body w := by
  have a' : (needsSession w cmd m.payload && !mailAuth m) = false := by
    cases ha : mailAuth m <;> simp_all
  simp only [mailLate, a', b, c, Bool.false_eq_true, if_false]

/-- A command that is let through is executed by its own body and answered. One that its body holds keeps its mailbox and
waits on hardware (R133, R134). -/
theorem mailOut_taken {cmd : Nat} {m : Mail} {body : State → Answer} {s : State} (h : taken cmd m s = true) :
    mailOut cmd m body s = .next (if (body (takenState cmd m s)).held then
        { (body (takenState cmd m s)).st with host := { (body (takenState cmd m s)).st.host with
            waiting := (body (takenState cmd m s)).st.host.waiting ++ [m.mbox] } }
      else respond (ring cmd m s) cmd m (body (takenState cmd m s))) := by
  simp only [taken, Bool.and_eq_true, Bool.not_eq_true', Option.isNone_iff_eq_none] at h
  obtain ⟨⟨⟨⟨⟨⟨⟨h1, h2⟩, h3⟩, h4⟩, h5⟩, h6⟩, h7⟩, h8⟩ := h
  have key : mailSession cmd m body (ring cmd m s) = body (takenState cmd m s) := by
    unfold mailSession
    cases ha : mailAuth m
    · have e : takenState cmd m s = ring cmd m s := by simp [takenState, ha]
      rw [e] at h6 h7 h8 ⊢
      simpa using mailLate_body h6 h7 h8
    · simp only [sessionPasses, ha, Bool.not_true, Bool.false_or] at h5
      cases hk : sessionNo (ring cmd m s) m.session with
      | none => simp [hk] at h5
      | some k =>
        simp only [hk, Bool.and_eq_true, decide_eq_true_eq, beq_iff_eq] at h5
        have e : takenState cmd m s = sessionAccept k m.seq (ring cmd m s) := by simp [takenState, ha, hk]
        rw [e] at h6 h7 h8 ⊢
        simp only [if_true]
        rw [if_neg (by simp [h5.1.1, h5.1.2]), if_neg (by have := h5.2; omega)]
        exact mailLate_body h6 h7 h8
  simp only [mailOut, mailStep, takeCmd, h1, h2, h3, h4, key, Bool.not_true, Bool.false_eq_true, if_false, if_true]

/-- A command that is let through and done is answered with STATUS 0 and its payload. -/
theorem mailOut_answers {cmd : Nat} {m : Mail} {body : State → Answer} {s t : State} {p : Bytes}
    (h : taken cmd m s = true) (hb : body (takenState cmd m s) = done t p) :
    mailOut cmd m body s = answers cmd m s t p := by
  rw [mailOut_taken h, hb]; rfl

/-- A command that is let through and refused is answered with STATUS 2 and its reason. -/
theorem mailOut_refuses {cmd : Nat} {m : Mail} {body : State → Answer} {s t : State} {r q : Nat}
    (h : taken cmd m s = true) (hb : body (takenState cmd m s) = refuse t r q) :
    mailOut cmd m body s = refuses cmd m s t r q := by
  rw [mailOut_taken h, hb]; rfl

end Sys2Proof.Machine
end

