-- ==== Sys2Proof/Laws/State.lean ====
section
/-! SUPPORT. What the updates of the state change and what they leave, one lemma per field and update. -/

namespace Sys2Proof.Machine

@[simp] theorem onHost_pending (f : HostSt → HostSt) (s : State) : (onHost f s).pending = s.pending := rfl
@[simp] theorem onHost_free (f : HostSt → HostSt) (s : State) : (onHost f s).free = s.free := rfl
@[simp] theorem onHost_host (f : HostSt → HostSt) (s : State) : (onHost f s).host = f s.host := rfl
@[simp] theorem onHost_recorder (f : HostSt → HostSt) (s : State) : (onHost f s).recorder = s.recorder := rfl
@[simp] theorem onHost_power (f : HostSt → HostSt) (s : State) : (onHost f s).power = s.power := rfl
@[simp] theorem onHost_mgmt (f : HostSt → HostSt) (s : State) : (onHost f s).mgmt = s.mgmt := rfl
@[simp] theorem onHost_sec (f : HostSt → HostSt) (s : State) : (onHost f s).sec = s.sec := rfl
@[simp] theorem onHost_time (f : HostSt → HostSt) (s : State) : (onHost f s).time = s.time := rfl
@[simp] theorem onHost_rtc (f : HostSt → HostSt) (s : State) : (onHost f s).rtc = s.rtc := rfl
@[simp] theorem onHost_model (f : HostSt → HostSt) (s : State) : (onHost f s).model = s.model := rfl
@[simp] theorem onHost_ox (f : HostSt → HostSt) (s : State) : (onHost f s).ox = s.ox := rfl
@[simp] theorem onHost_est (f : HostSt → HostSt) (s : State) : (onHost f s).est = s.est := rfl
@[simp] theorem onHost_dsp (f : HostSt → HostSt) (s : State) : (onHost f s).dsp = s.dsp := rfl
@[simp] theorem onHost_logic (f : HostSt → HostSt) (s : State) : (onHost f s).logic = s.logic := rfl
@[simp] theorem onHost_loops (f : HostSt → HostSt) (s : State) : (onHost f s).loops = s.loops := rfl
@[simp] theorem onHost_axes (f : HostSt → HostSt) (s : State) : (onHost f s).axes = s.axes := rfl
@[simp] theorem onHost_enc (f : HostSt → HostSt) (s : State) : (onHost f s).enc = s.enc := rfl
@[simp] theorem onHost_can (f : HostSt → HostSt) (s : State) : (onHost f s).can = s.can := rfl
@[simp] theorem onHost_adc (f : HostSt → HostSt) (s : State) : (onHost f s).adc = s.adc := rfl
@[simp] theorem onHost_meter (f : HostSt → HostSt) (s : State) : (onHost f s).meter = s.meter := rfl
@[simp] theorem onHost_snapWait (f : HostSt → HostSt) (s : State) : (onHost f s).snapWait = s.snapWait := rfl
@[simp] theorem onHost_net (f : HostSt → HostSt) (s : State) : (onHost f s).net = s.net := rfl
@[simp] theorem onHost_pair (f : HostSt → HostSt) (s : State) : (onHost f s).pair = s.pair := rfl
@[simp] theorem onHost_disp (f : HostSt → HostSt) (s : State) : (onHost f s).disp = s.disp := rfl
@[simp] theorem onHost_pins (f : HostSt → HostSt) (s : State) : (onHost f s).pins = s.pins := rfl

@[simp] theorem onRec_pending (f : RecorderSt → RecorderSt) (s : State) : (onRec f s).pending = s.pending := rfl
@[simp] theorem onRec_free (f : RecorderSt → RecorderSt) (s : State) : (onRec f s).free = s.free := rfl
@[simp] theorem onRec_host (f : RecorderSt → RecorderSt) (s : State) : (onRec f s).host = s.host := rfl
@[simp] theorem onRec_recorder (f : RecorderSt → RecorderSt) (s : State) : (onRec f s).recorder = f s.recorder := rfl
@[simp] theorem onRec_power (f : RecorderSt → RecorderSt) (s : State) : (onRec f s).power = s.power := rfl
@[simp] theorem onRec_mgmt (f : RecorderSt → RecorderSt) (s : State) : (onRec f s).mgmt = s.mgmt := rfl
@[simp] theorem onRec_sec (f : RecorderSt → RecorderSt) (s : State) : (onRec f s).sec = s.sec := rfl
@[simp] theorem onRec_time (f : RecorderSt → RecorderSt) (s : State) : (onRec f s).time = s.time := rfl
@[simp] theorem onRec_rtc (f : RecorderSt → RecorderSt) (s : State) : (onRec f s).rtc = s.rtc := rfl
@[simp] theorem onRec_model (f : RecorderSt → RecorderSt) (s : State) : (onRec f s).model = s.model := rfl
@[simp] theorem onRec_ox (f : RecorderSt → RecorderSt) (s : State) : (onRec f s).ox = s.ox := rfl
@[simp] theorem onRec_est (f : RecorderSt → RecorderSt) (s : State) : (onRec f s).est = s.est := rfl
@[simp] theorem onRec_dsp (f : RecorderSt → RecorderSt) (s : State) : (onRec f s).dsp = s.dsp := rfl
@[simp] theorem onRec_logic (f : RecorderSt → RecorderSt) (s : State) : (onRec f s).logic = s.logic := rfl
@[simp] theorem onRec_loops (f : RecorderSt → RecorderSt) (s : State) : (onRec f s).loops = s.loops := rfl
@[simp] theorem onRec_axes (f : RecorderSt → RecorderSt) (s : State) : (onRec f s).axes = s.axes := rfl
@[simp] theorem onRec_enc (f : RecorderSt → RecorderSt) (s : State) : (onRec f s).enc = s.enc := rfl
@[simp] theorem onRec_can (f : RecorderSt → RecorderSt) (s : State) : (onRec f s).can = s.can := rfl
@[simp] theorem onRec_adc (f : RecorderSt → RecorderSt) (s : State) : (onRec f s).adc = s.adc := rfl
@[simp] theorem onRec_meter (f : RecorderSt → RecorderSt) (s : State) : (onRec f s).meter = s.meter := rfl
@[simp] theorem onRec_snapWait (f : RecorderSt → RecorderSt) (s : State) : (onRec f s).snapWait = s.snapWait := rfl
@[simp] theorem onRec_net (f : RecorderSt → RecorderSt) (s : State) : (onRec f s).net = s.net := rfl
@[simp] theorem onRec_pair (f : RecorderSt → RecorderSt) (s : State) : (onRec f s).pair = s.pair := rfl
@[simp] theorem onRec_disp (f : RecorderSt → RecorderSt) (s : State) : (onRec f s).disp = s.disp := rfl
@[simp] theorem onRec_pins (f : RecorderSt → RecorderSt) (s : State) : (onRec f s).pins = s.pins := rfl

@[simp] theorem onPower_pending (f : PowerSt → PowerSt) (s : State) : (onPower f s).pending = s.pending := rfl
@[simp] theorem onPower_free (f : PowerSt → PowerSt) (s : State) : (onPower f s).free = s.free := rfl
@[simp] theorem onPower_host (f : PowerSt → PowerSt) (s : State) : (onPower f s).host = s.host := rfl
@[simp] theorem onPower_recorder (f : PowerSt → PowerSt) (s : State) : (onPower f s).recorder = s.recorder := rfl
@[simp] theorem onPower_power (f : PowerSt → PowerSt) (s : State) : (onPower f s).power = f s.power := rfl
@[simp] theorem onPower_mgmt (f : PowerSt → PowerSt) (s : State) : (onPower f s).mgmt = s.mgmt := rfl
@[simp] theorem onPower_sec (f : PowerSt → PowerSt) (s : State) : (onPower f s).sec = s.sec := rfl
@[simp] theorem onPower_time (f : PowerSt → PowerSt) (s : State) : (onPower f s).time = s.time := rfl
@[simp] theorem onPower_rtc (f : PowerSt → PowerSt) (s : State) : (onPower f s).rtc = s.rtc := rfl
@[simp] theorem onPower_model (f : PowerSt → PowerSt) (s : State) : (onPower f s).model = s.model := rfl
@[simp] theorem onPower_ox (f : PowerSt → PowerSt) (s : State) : (onPower f s).ox = s.ox := rfl
@[simp] theorem onPower_est (f : PowerSt → PowerSt) (s : State) : (onPower f s).est = s.est := rfl
@[simp] theorem onPower_dsp (f : PowerSt → PowerSt) (s : State) : (onPower f s).dsp = s.dsp := rfl
@[simp] theorem onPower_logic (f : PowerSt → PowerSt) (s : State) : (onPower f s).logic = s.logic := rfl
@[simp] theorem onPower_loops (f : PowerSt → PowerSt) (s : State) : (onPower f s).loops = s.loops := rfl
@[simp] theorem onPower_axes (f : PowerSt → PowerSt) (s : State) : (onPower f s).axes = s.axes := rfl
@[simp] theorem onPower_enc (f : PowerSt → PowerSt) (s : State) : (onPower f s).enc = s.enc := rfl
@[simp] theorem onPower_can (f : PowerSt → PowerSt) (s : State) : (onPower f s).can = s.can := rfl
@[simp] theorem onPower_adc (f : PowerSt → PowerSt) (s : State) : (onPower f s).adc = s.adc := rfl
@[simp] theorem onPower_meter (f : PowerSt → PowerSt) (s : State) : (onPower f s).meter = s.meter := rfl
@[simp] theorem onPower_snapWait (f : PowerSt → PowerSt) (s : State) : (onPower f s).snapWait = s.snapWait := rfl
@[simp] theorem onPower_net (f : PowerSt → PowerSt) (s : State) : (onPower f s).net = s.net := rfl
@[simp] theorem onPower_pair (f : PowerSt → PowerSt) (s : State) : (onPower f s).pair = s.pair := rfl
@[simp] theorem onPower_disp (f : PowerSt → PowerSt) (s : State) : (onPower f s).disp = s.disp := rfl
@[simp] theorem onPower_pins (f : PowerSt → PowerSt) (s : State) : (onPower f s).pins = s.pins := rfl

@[simp] theorem onMgmt_pending (f : MgmtSt → MgmtSt) (s : State) : (onMgmt f s).pending = s.pending := rfl
@[simp] theorem onMgmt_free (f : MgmtSt → MgmtSt) (s : State) : (onMgmt f s).free = s.free := rfl
@[simp] theorem onMgmt_host (f : MgmtSt → MgmtSt) (s : State) : (onMgmt f s).host = s.host := rfl
@[simp] theorem onMgmt_recorder (f : MgmtSt → MgmtSt) (s : State) : (onMgmt f s).recorder = s.recorder := rfl
@[simp] theorem onMgmt_power (f : MgmtSt → MgmtSt) (s : State) : (onMgmt f s).power = s.power := rfl
@[simp] theorem onMgmt_mgmt (f : MgmtSt → MgmtSt) (s : State) : (onMgmt f s).mgmt = f s.mgmt := rfl
@[simp] theorem onMgmt_sec (f : MgmtSt → MgmtSt) (s : State) : (onMgmt f s).sec = s.sec := rfl
@[simp] theorem onMgmt_time (f : MgmtSt → MgmtSt) (s : State) : (onMgmt f s).time = s.time := rfl
@[simp] theorem onMgmt_rtc (f : MgmtSt → MgmtSt) (s : State) : (onMgmt f s).rtc = s.rtc := rfl
@[simp] theorem onMgmt_model (f : MgmtSt → MgmtSt) (s : State) : (onMgmt f s).model = s.model := rfl
@[simp] theorem onMgmt_ox (f : MgmtSt → MgmtSt) (s : State) : (onMgmt f s).ox = s.ox := rfl
@[simp] theorem onMgmt_est (f : MgmtSt → MgmtSt) (s : State) : (onMgmt f s).est = s.est := rfl
@[simp] theorem onMgmt_dsp (f : MgmtSt → MgmtSt) (s : State) : (onMgmt f s).dsp = s.dsp := rfl
@[simp] theorem onMgmt_logic (f : MgmtSt → MgmtSt) (s : State) : (onMgmt f s).logic = s.logic := rfl
@[simp] theorem onMgmt_loops (f : MgmtSt → MgmtSt) (s : State) : (onMgmt f s).loops = s.loops := rfl
@[simp] theorem onMgmt_axes (f : MgmtSt → MgmtSt) (s : State) : (onMgmt f s).axes = s.axes := rfl
@[simp] theorem onMgmt_enc (f : MgmtSt → MgmtSt) (s : State) : (onMgmt f s).enc = s.enc := rfl
@[simp] theorem onMgmt_can (f : MgmtSt → MgmtSt) (s : State) : (onMgmt f s).can = s.can := rfl
@[simp] theorem onMgmt_adc (f : MgmtSt → MgmtSt) (s : State) : (onMgmt f s).adc = s.adc := rfl
@[simp] theorem onMgmt_meter (f : MgmtSt → MgmtSt) (s : State) : (onMgmt f s).meter = s.meter := rfl
@[simp] theorem onMgmt_snapWait (f : MgmtSt → MgmtSt) (s : State) : (onMgmt f s).snapWait = s.snapWait := rfl
@[simp] theorem onMgmt_net (f : MgmtSt → MgmtSt) (s : State) : (onMgmt f s).net = s.net := rfl
@[simp] theorem onMgmt_pair (f : MgmtSt → MgmtSt) (s : State) : (onMgmt f s).pair = s.pair := rfl
@[simp] theorem onMgmt_disp (f : MgmtSt → MgmtSt) (s : State) : (onMgmt f s).disp = s.disp := rfl
@[simp] theorem onMgmt_pins (f : MgmtSt → MgmtSt) (s : State) : (onMgmt f s).pins = s.pins := rfl

@[simp] theorem onSec_pending (f : SecSt → SecSt) (s : State) : (onSec f s).pending = s.pending := rfl
@[simp] theorem onSec_free (f : SecSt → SecSt) (s : State) : (onSec f s).free = s.free := rfl
@[simp] theorem onSec_host (f : SecSt → SecSt) (s : State) : (onSec f s).host = s.host := rfl
@[simp] theorem onSec_recorder (f : SecSt → SecSt) (s : State) : (onSec f s).recorder = s.recorder := rfl
@[simp] theorem onSec_power (f : SecSt → SecSt) (s : State) : (onSec f s).power = s.power := rfl
@[simp] theorem onSec_mgmt (f : SecSt → SecSt) (s : State) : (onSec f s).mgmt = s.mgmt := rfl
@[simp] theorem onSec_sec (f : SecSt → SecSt) (s : State) : (onSec f s).sec = f s.sec := rfl
@[simp] theorem onSec_time (f : SecSt → SecSt) (s : State) : (onSec f s).time = s.time := rfl
@[simp] theorem onSec_rtc (f : SecSt → SecSt) (s : State) : (onSec f s).rtc = s.rtc := rfl
@[simp] theorem onSec_model (f : SecSt → SecSt) (s : State) : (onSec f s).model = s.model := rfl
@[simp] theorem onSec_ox (f : SecSt → SecSt) (s : State) : (onSec f s).ox = s.ox := rfl
@[simp] theorem onSec_est (f : SecSt → SecSt) (s : State) : (onSec f s).est = s.est := rfl
@[simp] theorem onSec_dsp (f : SecSt → SecSt) (s : State) : (onSec f s).dsp = s.dsp := rfl
@[simp] theorem onSec_logic (f : SecSt → SecSt) (s : State) : (onSec f s).logic = s.logic := rfl
@[simp] theorem onSec_loops (f : SecSt → SecSt) (s : State) : (onSec f s).loops = s.loops := rfl
@[simp] theorem onSec_axes (f : SecSt → SecSt) (s : State) : (onSec f s).axes = s.axes := rfl
@[simp] theorem onSec_enc (f : SecSt → SecSt) (s : State) : (onSec f s).enc = s.enc := rfl
@[simp] theorem onSec_can (f : SecSt → SecSt) (s : State) : (onSec f s).can = s.can := rfl
@[simp] theorem onSec_adc (f : SecSt → SecSt) (s : State) : (onSec f s).adc = s.adc := rfl
@[simp] theorem onSec_meter (f : SecSt → SecSt) (s : State) : (onSec f s).meter = s.meter := rfl
@[simp] theorem onSec_snapWait (f : SecSt → SecSt) (s : State) : (onSec f s).snapWait = s.snapWait := rfl
@[simp] theorem onSec_net (f : SecSt → SecSt) (s : State) : (onSec f s).net = s.net := rfl
@[simp] theorem onSec_pair (f : SecSt → SecSt) (s : State) : (onSec f s).pair = s.pair := rfl
@[simp] theorem onSec_disp (f : SecSt → SecSt) (s : State) : (onSec f s).disp = s.disp := rfl
@[simp] theorem onSec_pins (f : SecSt → SecSt) (s : State) : (onSec f s).pins = s.pins := rfl

@[simp] theorem onTime_pending (f : TimeSt → TimeSt) (s : State) : (onTime f s).pending = s.pending := rfl
@[simp] theorem onTime_free (f : TimeSt → TimeSt) (s : State) : (onTime f s).free = s.free := rfl
@[simp] theorem onTime_host (f : TimeSt → TimeSt) (s : State) : (onTime f s).host = s.host := rfl
@[simp] theorem onTime_recorder (f : TimeSt → TimeSt) (s : State) : (onTime f s).recorder = s.recorder := rfl
@[simp] theorem onTime_power (f : TimeSt → TimeSt) (s : State) : (onTime f s).power = s.power := rfl
@[simp] theorem onTime_mgmt (f : TimeSt → TimeSt) (s : State) : (onTime f s).mgmt = s.mgmt := rfl
@[simp] theorem onTime_sec (f : TimeSt → TimeSt) (s : State) : (onTime f s).sec = s.sec := rfl
@[simp] theorem onTime_time (f : TimeSt → TimeSt) (s : State) : (onTime f s).time = f s.time := rfl
@[simp] theorem onTime_rtc (f : TimeSt → TimeSt) (s : State) : (onTime f s).rtc = s.rtc := rfl
@[simp] theorem onTime_model (f : TimeSt → TimeSt) (s : State) : (onTime f s).model = s.model := rfl
@[simp] theorem onTime_ox (f : TimeSt → TimeSt) (s : State) : (onTime f s).ox = s.ox := rfl
@[simp] theorem onTime_est (f : TimeSt → TimeSt) (s : State) : (onTime f s).est = s.est := rfl
@[simp] theorem onTime_dsp (f : TimeSt → TimeSt) (s : State) : (onTime f s).dsp = s.dsp := rfl
@[simp] theorem onTime_logic (f : TimeSt → TimeSt) (s : State) : (onTime f s).logic = s.logic := rfl
@[simp] theorem onTime_loops (f : TimeSt → TimeSt) (s : State) : (onTime f s).loops = s.loops := rfl
@[simp] theorem onTime_axes (f : TimeSt → TimeSt) (s : State) : (onTime f s).axes = s.axes := rfl
@[simp] theorem onTime_enc (f : TimeSt → TimeSt) (s : State) : (onTime f s).enc = s.enc := rfl
@[simp] theorem onTime_can (f : TimeSt → TimeSt) (s : State) : (onTime f s).can = s.can := rfl
@[simp] theorem onTime_adc (f : TimeSt → TimeSt) (s : State) : (onTime f s).adc = s.adc := rfl
@[simp] theorem onTime_meter (f : TimeSt → TimeSt) (s : State) : (onTime f s).meter = s.meter := rfl
@[simp] theorem onTime_snapWait (f : TimeSt → TimeSt) (s : State) : (onTime f s).snapWait = s.snapWait := rfl
@[simp] theorem onTime_net (f : TimeSt → TimeSt) (s : State) : (onTime f s).net = s.net := rfl
@[simp] theorem onTime_pair (f : TimeSt → TimeSt) (s : State) : (onTime f s).pair = s.pair := rfl
@[simp] theorem onTime_disp (f : TimeSt → TimeSt) (s : State) : (onTime f s).disp = s.disp := rfl
@[simp] theorem onTime_pins (f : TimeSt → TimeSt) (s : State) : (onTime f s).pins = s.pins := rfl

@[simp] theorem onRtc_pending (f : RtcSt → RtcSt) (s : State) : (onRtc f s).pending = s.pending := rfl
@[simp] theorem onRtc_free (f : RtcSt → RtcSt) (s : State) : (onRtc f s).free = s.free := rfl
@[simp] theorem onRtc_host (f : RtcSt → RtcSt) (s : State) : (onRtc f s).host = s.host := rfl
@[simp] theorem onRtc_recorder (f : RtcSt → RtcSt) (s : State) : (onRtc f s).recorder = s.recorder := rfl
@[simp] theorem onRtc_power (f : RtcSt → RtcSt) (s : State) : (onRtc f s).power = s.power := rfl
@[simp] theorem onRtc_mgmt (f : RtcSt → RtcSt) (s : State) : (onRtc f s).mgmt = s.mgmt := rfl
@[simp] theorem onRtc_sec (f : RtcSt → RtcSt) (s : State) : (onRtc f s).sec = s.sec := rfl
@[simp] theorem onRtc_time (f : RtcSt → RtcSt) (s : State) : (onRtc f s).time = s.time := rfl
@[simp] theorem onRtc_rtc (f : RtcSt → RtcSt) (s : State) : (onRtc f s).rtc = f s.rtc := rfl
@[simp] theorem onRtc_model (f : RtcSt → RtcSt) (s : State) : (onRtc f s).model = s.model := rfl
@[simp] theorem onRtc_ox (f : RtcSt → RtcSt) (s : State) : (onRtc f s).ox = s.ox := rfl
@[simp] theorem onRtc_est (f : RtcSt → RtcSt) (s : State) : (onRtc f s).est = s.est := rfl
@[simp] theorem onRtc_dsp (f : RtcSt → RtcSt) (s : State) : (onRtc f s).dsp = s.dsp := rfl
@[simp] theorem onRtc_logic (f : RtcSt → RtcSt) (s : State) : (onRtc f s).logic = s.logic := rfl
@[simp] theorem onRtc_loops (f : RtcSt → RtcSt) (s : State) : (onRtc f s).loops = s.loops := rfl
@[simp] theorem onRtc_axes (f : RtcSt → RtcSt) (s : State) : (onRtc f s).axes = s.axes := rfl
@[simp] theorem onRtc_enc (f : RtcSt → RtcSt) (s : State) : (onRtc f s).enc = s.enc := rfl
@[simp] theorem onRtc_can (f : RtcSt → RtcSt) (s : State) : (onRtc f s).can = s.can := rfl
@[simp] theorem onRtc_adc (f : RtcSt → RtcSt) (s : State) : (onRtc f s).adc = s.adc := rfl
@[simp] theorem onRtc_meter (f : RtcSt → RtcSt) (s : State) : (onRtc f s).meter = s.meter := rfl
@[simp] theorem onRtc_snapWait (f : RtcSt → RtcSt) (s : State) : (onRtc f s).snapWait = s.snapWait := rfl
@[simp] theorem onRtc_net (f : RtcSt → RtcSt) (s : State) : (onRtc f s).net = s.net := rfl
@[simp] theorem onRtc_pair (f : RtcSt → RtcSt) (s : State) : (onRtc f s).pair = s.pair := rfl
@[simp] theorem onRtc_disp (f : RtcSt → RtcSt) (s : State) : (onRtc f s).disp = s.disp := rfl
@[simp] theorem onRtc_pins (f : RtcSt → RtcSt) (s : State) : (onRtc f s).pins = s.pins := rfl

@[simp] theorem onModel_pending (f : ModelSt → ModelSt) (s : State) : (onModel f s).pending = s.pending := rfl
@[simp] theorem onModel_free (f : ModelSt → ModelSt) (s : State) : (onModel f s).free = s.free := rfl
@[simp] theorem onModel_host (f : ModelSt → ModelSt) (s : State) : (onModel f s).host = s.host := rfl
@[simp] theorem onModel_recorder (f : ModelSt → ModelSt) (s : State) : (onModel f s).recorder = s.recorder := rfl
@[simp] theorem onModel_power (f : ModelSt → ModelSt) (s : State) : (onModel f s).power = s.power := rfl
@[simp] theorem onModel_mgmt (f : ModelSt → ModelSt) (s : State) : (onModel f s).mgmt = s.mgmt := rfl
@[simp] theorem onModel_sec (f : ModelSt → ModelSt) (s : State) : (onModel f s).sec = s.sec := rfl
@[simp] theorem onModel_time (f : ModelSt → ModelSt) (s : State) : (onModel f s).time = s.time := rfl
@[simp] theorem onModel_rtc (f : ModelSt → ModelSt) (s : State) : (onModel f s).rtc = s.rtc := rfl
@[simp] theorem onModel_model (f : ModelSt → ModelSt) (s : State) : (onModel f s).model = f s.model := rfl
@[simp] theorem onModel_ox (f : ModelSt → ModelSt) (s : State) : (onModel f s).ox = s.ox := rfl
@[simp] theorem onModel_est (f : ModelSt → ModelSt) (s : State) : (onModel f s).est = s.est := rfl
@[simp] theorem onModel_dsp (f : ModelSt → ModelSt) (s : State) : (onModel f s).dsp = s.dsp := rfl
@[simp] theorem onModel_logic (f : ModelSt → ModelSt) (s : State) : (onModel f s).logic = s.logic := rfl
@[simp] theorem onModel_loops (f : ModelSt → ModelSt) (s : State) : (onModel f s).loops = s.loops := rfl
@[simp] theorem onModel_axes (f : ModelSt → ModelSt) (s : State) : (onModel f s).axes = s.axes := rfl
@[simp] theorem onModel_enc (f : ModelSt → ModelSt) (s : State) : (onModel f s).enc = s.enc := rfl
@[simp] theorem onModel_can (f : ModelSt → ModelSt) (s : State) : (onModel f s).can = s.can := rfl
@[simp] theorem onModel_adc (f : ModelSt → ModelSt) (s : State) : (onModel f s).adc = s.adc := rfl
@[simp] theorem onModel_meter (f : ModelSt → ModelSt) (s : State) : (onModel f s).meter = s.meter := rfl
@[simp] theorem onModel_snapWait (f : ModelSt → ModelSt) (s : State) : (onModel f s).snapWait = s.snapWait := rfl
@[simp] theorem onModel_net (f : ModelSt → ModelSt) (s : State) : (onModel f s).net = s.net := rfl
@[simp] theorem onModel_pair (f : ModelSt → ModelSt) (s : State) : (onModel f s).pair = s.pair := rfl
@[simp] theorem onModel_disp (f : ModelSt → ModelSt) (s : State) : (onModel f s).disp = s.disp := rfl
@[simp] theorem onModel_pins (f : ModelSt → ModelSt) (s : State) : (onModel f s).pins = s.pins := rfl

@[simp] theorem onOx_pending (f : OxSt → OxSt) (s : State) : (onOx f s).pending = s.pending := rfl
@[simp] theorem onOx_free (f : OxSt → OxSt) (s : State) : (onOx f s).free = s.free := rfl
@[simp] theorem onOx_host (f : OxSt → OxSt) (s : State) : (onOx f s).host = s.host := rfl
@[simp] theorem onOx_recorder (f : OxSt → OxSt) (s : State) : (onOx f s).recorder = s.recorder := rfl
@[simp] theorem onOx_power (f : OxSt → OxSt) (s : State) : (onOx f s).power = s.power := rfl
@[simp] theorem onOx_mgmt (f : OxSt → OxSt) (s : State) : (onOx f s).mgmt = s.mgmt := rfl
@[simp] theorem onOx_sec (f : OxSt → OxSt) (s : State) : (onOx f s).sec = s.sec := rfl
@[simp] theorem onOx_time (f : OxSt → OxSt) (s : State) : (onOx f s).time = s.time := rfl
@[simp] theorem onOx_rtc (f : OxSt → OxSt) (s : State) : (onOx f s).rtc = s.rtc := rfl
@[simp] theorem onOx_model (f : OxSt → OxSt) (s : State) : (onOx f s).model = s.model := rfl
@[simp] theorem onOx_ox (f : OxSt → OxSt) (s : State) : (onOx f s).ox = f s.ox := rfl
@[simp] theorem onOx_est (f : OxSt → OxSt) (s : State) : (onOx f s).est = s.est := rfl
@[simp] theorem onOx_dsp (f : OxSt → OxSt) (s : State) : (onOx f s).dsp = s.dsp := rfl
@[simp] theorem onOx_logic (f : OxSt → OxSt) (s : State) : (onOx f s).logic = s.logic := rfl
@[simp] theorem onOx_loops (f : OxSt → OxSt) (s : State) : (onOx f s).loops = s.loops := rfl
@[simp] theorem onOx_axes (f : OxSt → OxSt) (s : State) : (onOx f s).axes = s.axes := rfl
@[simp] theorem onOx_enc (f : OxSt → OxSt) (s : State) : (onOx f s).enc = s.enc := rfl
@[simp] theorem onOx_can (f : OxSt → OxSt) (s : State) : (onOx f s).can = s.can := rfl
@[simp] theorem onOx_adc (f : OxSt → OxSt) (s : State) : (onOx f s).adc = s.adc := rfl
@[simp] theorem onOx_meter (f : OxSt → OxSt) (s : State) : (onOx f s).meter = s.meter := rfl
@[simp] theorem onOx_snapWait (f : OxSt → OxSt) (s : State) : (onOx f s).snapWait = s.snapWait := rfl
@[simp] theorem onOx_net (f : OxSt → OxSt) (s : State) : (onOx f s).net = s.net := rfl
@[simp] theorem onOx_pair (f : OxSt → OxSt) (s : State) : (onOx f s).pair = s.pair := rfl
@[simp] theorem onOx_disp (f : OxSt → OxSt) (s : State) : (onOx f s).disp = s.disp := rfl
@[simp] theorem onOx_pins (f : OxSt → OxSt) (s : State) : (onOx f s).pins = s.pins := rfl

@[simp] theorem onEst_pending (f : EstSt → EstSt) (s : State) : (onEst f s).pending = s.pending := rfl
@[simp] theorem onEst_free (f : EstSt → EstSt) (s : State) : (onEst f s).free = s.free := rfl
@[simp] theorem onEst_host (f : EstSt → EstSt) (s : State) : (onEst f s).host = s.host := rfl
@[simp] theorem onEst_recorder (f : EstSt → EstSt) (s : State) : (onEst f s).recorder = s.recorder := rfl
@[simp] theorem onEst_power (f : EstSt → EstSt) (s : State) : (onEst f s).power = s.power := rfl
@[simp] theorem onEst_mgmt (f : EstSt → EstSt) (s : State) : (onEst f s).mgmt = s.mgmt := rfl
@[simp] theorem onEst_sec (f : EstSt → EstSt) (s : State) : (onEst f s).sec = s.sec := rfl
@[simp] theorem onEst_time (f : EstSt → EstSt) (s : State) : (onEst f s).time = s.time := rfl
@[simp] theorem onEst_rtc (f : EstSt → EstSt) (s : State) : (onEst f s).rtc = s.rtc := rfl
@[simp] theorem onEst_model (f : EstSt → EstSt) (s : State) : (onEst f s).model = s.model := rfl
@[simp] theorem onEst_ox (f : EstSt → EstSt) (s : State) : (onEst f s).ox = s.ox := rfl
@[simp] theorem onEst_est (f : EstSt → EstSt) (s : State) : (onEst f s).est = f s.est := rfl
@[simp] theorem onEst_dsp (f : EstSt → EstSt) (s : State) : (onEst f s).dsp = s.dsp := rfl
@[simp] theorem onEst_logic (f : EstSt → EstSt) (s : State) : (onEst f s).logic = s.logic := rfl
@[simp] theorem onEst_loops (f : EstSt → EstSt) (s : State) : (onEst f s).loops = s.loops := rfl
@[simp] theorem onEst_axes (f : EstSt → EstSt) (s : State) : (onEst f s).axes = s.axes := rfl
@[simp] theorem onEst_enc (f : EstSt → EstSt) (s : State) : (onEst f s).enc = s.enc := rfl
@[simp] theorem onEst_can (f : EstSt → EstSt) (s : State) : (onEst f s).can = s.can := rfl
@[simp] theorem onEst_adc (f : EstSt → EstSt) (s : State) : (onEst f s).adc = s.adc := rfl
@[simp] theorem onEst_meter (f : EstSt → EstSt) (s : State) : (onEst f s).meter = s.meter := rfl
@[simp] theorem onEst_snapWait (f : EstSt → EstSt) (s : State) : (onEst f s).snapWait = s.snapWait := rfl
@[simp] theorem onEst_net (f : EstSt → EstSt) (s : State) : (onEst f s).net = s.net := rfl
@[simp] theorem onEst_pair (f : EstSt → EstSt) (s : State) : (onEst f s).pair = s.pair := rfl
@[simp] theorem onEst_disp (f : EstSt → EstSt) (s : State) : (onEst f s).disp = s.disp := rfl
@[simp] theorem onEst_pins (f : EstSt → EstSt) (s : State) : (onEst f s).pins = s.pins := rfl

@[simp] theorem onDsp_pending (f : DspSt → DspSt) (s : State) : (onDsp f s).pending = s.pending := rfl
@[simp] theorem onDsp_free (f : DspSt → DspSt) (s : State) : (onDsp f s).free = s.free := rfl
@[simp] theorem onDsp_host (f : DspSt → DspSt) (s : State) : (onDsp f s).host = s.host := rfl
@[simp] theorem onDsp_recorder (f : DspSt → DspSt) (s : State) : (onDsp f s).recorder = s.recorder := rfl
@[simp] theorem onDsp_power (f : DspSt → DspSt) (s : State) : (onDsp f s).power = s.power := rfl
@[simp] theorem onDsp_mgmt (f : DspSt → DspSt) (s : State) : (onDsp f s).mgmt = s.mgmt := rfl
@[simp] theorem onDsp_sec (f : DspSt → DspSt) (s : State) : (onDsp f s).sec = s.sec := rfl
@[simp] theorem onDsp_time (f : DspSt → DspSt) (s : State) : (onDsp f s).time = s.time := rfl
@[simp] theorem onDsp_rtc (f : DspSt → DspSt) (s : State) : (onDsp f s).rtc = s.rtc := rfl
@[simp] theorem onDsp_model (f : DspSt → DspSt) (s : State) : (onDsp f s).model = s.model := rfl
@[simp] theorem onDsp_ox (f : DspSt → DspSt) (s : State) : (onDsp f s).ox = s.ox := rfl
@[simp] theorem onDsp_est (f : DspSt → DspSt) (s : State) : (onDsp f s).est = s.est := rfl
@[simp] theorem onDsp_dsp (f : DspSt → DspSt) (s : State) : (onDsp f s).dsp = f s.dsp := rfl
@[simp] theorem onDsp_logic (f : DspSt → DspSt) (s : State) : (onDsp f s).logic = s.logic := rfl
@[simp] theorem onDsp_loops (f : DspSt → DspSt) (s : State) : (onDsp f s).loops = s.loops := rfl
@[simp] theorem onDsp_axes (f : DspSt → DspSt) (s : State) : (onDsp f s).axes = s.axes := rfl
@[simp] theorem onDsp_enc (f : DspSt → DspSt) (s : State) : (onDsp f s).enc = s.enc := rfl
@[simp] theorem onDsp_can (f : DspSt → DspSt) (s : State) : (onDsp f s).can = s.can := rfl
@[simp] theorem onDsp_adc (f : DspSt → DspSt) (s : State) : (onDsp f s).adc = s.adc := rfl
@[simp] theorem onDsp_meter (f : DspSt → DspSt) (s : State) : (onDsp f s).meter = s.meter := rfl
@[simp] theorem onDsp_snapWait (f : DspSt → DspSt) (s : State) : (onDsp f s).snapWait = s.snapWait := rfl
@[simp] theorem onDsp_net (f : DspSt → DspSt) (s : State) : (onDsp f s).net = s.net := rfl
@[simp] theorem onDsp_pair (f : DspSt → DspSt) (s : State) : (onDsp f s).pair = s.pair := rfl
@[simp] theorem onDsp_disp (f : DspSt → DspSt) (s : State) : (onDsp f s).disp = s.disp := rfl
@[simp] theorem onDsp_pins (f : DspSt → DspSt) (s : State) : (onDsp f s).pins = s.pins := rfl

@[simp] theorem onLogic_pending (f : LogicSt → LogicSt) (s : State) : (onLogic f s).pending = s.pending := rfl
@[simp] theorem onLogic_free (f : LogicSt → LogicSt) (s : State) : (onLogic f s).free = s.free := rfl
@[simp] theorem onLogic_host (f : LogicSt → LogicSt) (s : State) : (onLogic f s).host = s.host := rfl
@[simp] theorem onLogic_recorder (f : LogicSt → LogicSt) (s : State) : (onLogic f s).recorder = s.recorder := rfl
@[simp] theorem onLogic_power (f : LogicSt → LogicSt) (s : State) : (onLogic f s).power = s.power := rfl
@[simp] theorem onLogic_mgmt (f : LogicSt → LogicSt) (s : State) : (onLogic f s).mgmt = s.mgmt := rfl
@[simp] theorem onLogic_sec (f : LogicSt → LogicSt) (s : State) : (onLogic f s).sec = s.sec := rfl
@[simp] theorem onLogic_time (f : LogicSt → LogicSt) (s : State) : (onLogic f s).time = s.time := rfl
@[simp] theorem onLogic_rtc (f : LogicSt → LogicSt) (s : State) : (onLogic f s).rtc = s.rtc := rfl
@[simp] theorem onLogic_model (f : LogicSt → LogicSt) (s : State) : (onLogic f s).model = s.model := rfl
@[simp] theorem onLogic_ox (f : LogicSt → LogicSt) (s : State) : (onLogic f s).ox = s.ox := rfl
@[simp] theorem onLogic_est (f : LogicSt → LogicSt) (s : State) : (onLogic f s).est = s.est := rfl
@[simp] theorem onLogic_dsp (f : LogicSt → LogicSt) (s : State) : (onLogic f s).dsp = s.dsp := rfl
@[simp] theorem onLogic_logic (f : LogicSt → LogicSt) (s : State) : (onLogic f s).logic = f s.logic := rfl
@[simp] theorem onLogic_loops (f : LogicSt → LogicSt) (s : State) : (onLogic f s).loops = s.loops := rfl
@[simp] theorem onLogic_axes (f : LogicSt → LogicSt) (s : State) : (onLogic f s).axes = s.axes := rfl
@[simp] theorem onLogic_enc (f : LogicSt → LogicSt) (s : State) : (onLogic f s).enc = s.enc := rfl
@[simp] theorem onLogic_can (f : LogicSt → LogicSt) (s : State) : (onLogic f s).can = s.can := rfl
@[simp] theorem onLogic_adc (f : LogicSt → LogicSt) (s : State) : (onLogic f s).adc = s.adc := rfl
@[simp] theorem onLogic_meter (f : LogicSt → LogicSt) (s : State) : (onLogic f s).meter = s.meter := rfl
@[simp] theorem onLogic_snapWait (f : LogicSt → LogicSt) (s : State) : (onLogic f s).snapWait = s.snapWait := rfl
@[simp] theorem onLogic_net (f : LogicSt → LogicSt) (s : State) : (onLogic f s).net = s.net := rfl
@[simp] theorem onLogic_pair (f : LogicSt → LogicSt) (s : State) : (onLogic f s).pair = s.pair := rfl
@[simp] theorem onLogic_disp (f : LogicSt → LogicSt) (s : State) : (onLogic f s).disp = s.disp := rfl
@[simp] theorem onLogic_pins (f : LogicSt → LogicSt) (s : State) : (onLogic f s).pins = s.pins := rfl

@[simp] theorem onLoop_pending (n : Nat) (f : LoopSt → LoopSt) (s : State) : (onLoop n f s).pending = s.pending := rfl
@[simp] theorem onLoop_free (n : Nat) (f : LoopSt → LoopSt) (s : State) : (onLoop n f s).free = s.free := rfl
@[simp] theorem onLoop_host (n : Nat) (f : LoopSt → LoopSt) (s : State) : (onLoop n f s).host = s.host := rfl
@[simp] theorem onLoop_recorder (n : Nat) (f : LoopSt → LoopSt) (s : State) : (onLoop n f s).recorder = s.recorder := rfl
@[simp] theorem onLoop_power (n : Nat) (f : LoopSt → LoopSt) (s : State) : (onLoop n f s).power = s.power := rfl
@[simp] theorem onLoop_mgmt (n : Nat) (f : LoopSt → LoopSt) (s : State) : (onLoop n f s).mgmt = s.mgmt := rfl
@[simp] theorem onLoop_sec (n : Nat) (f : LoopSt → LoopSt) (s : State) : (onLoop n f s).sec = s.sec := rfl
@[simp] theorem onLoop_time (n : Nat) (f : LoopSt → LoopSt) (s : State) : (onLoop n f s).time = s.time := rfl
@[simp] theorem onLoop_rtc (n : Nat) (f : LoopSt → LoopSt) (s : State) : (onLoop n f s).rtc = s.rtc := rfl
@[simp] theorem onLoop_model (n : Nat) (f : LoopSt → LoopSt) (s : State) : (onLoop n f s).model = s.model := rfl
@[simp] theorem onLoop_ox (n : Nat) (f : LoopSt → LoopSt) (s : State) : (onLoop n f s).ox = s.ox := rfl
@[simp] theorem onLoop_est (n : Nat) (f : LoopSt → LoopSt) (s : State) : (onLoop n f s).est = s.est := rfl
@[simp] theorem onLoop_dsp (n : Nat) (f : LoopSt → LoopSt) (s : State) : (onLoop n f s).dsp = s.dsp := rfl
@[simp] theorem onLoop_logic (n : Nat) (f : LoopSt → LoopSt) (s : State) : (onLoop n f s).logic = s.logic := rfl
@[simp] theorem onLoop_loops (n : Nat) (f : LoopSt → LoopSt) (s : State) : (onLoop n f s).loops = modNth s.loops n f := rfl
@[simp] theorem onLoop_axes (n : Nat) (f : LoopSt → LoopSt) (s : State) : (onLoop n f s).axes = s.axes := rfl
@[simp] theorem onLoop_enc (n : Nat) (f : LoopSt → LoopSt) (s : State) : (onLoop n f s).enc = s.enc := rfl
@[simp] theorem onLoop_can (n : Nat) (f : LoopSt → LoopSt) (s : State) : (onLoop n f s).can = s.can := rfl
@[simp] theorem onLoop_adc (n : Nat) (f : LoopSt → LoopSt) (s : State) : (onLoop n f s).adc = s.adc := rfl
@[simp] theorem onLoop_meter (n : Nat) (f : LoopSt → LoopSt) (s : State) : (onLoop n f s).meter = s.meter := rfl
@[simp] theorem onLoop_snapWait (n : Nat) (f : LoopSt → LoopSt) (s : State) : (onLoop n f s).snapWait = s.snapWait := rfl
@[simp] theorem onLoop_net (n : Nat) (f : LoopSt → LoopSt) (s : State) : (onLoop n f s).net = s.net := rfl
@[simp] theorem onLoop_pair (n : Nat) (f : LoopSt → LoopSt) (s : State) : (onLoop n f s).pair = s.pair := rfl
@[simp] theorem onLoop_disp (n : Nat) (f : LoopSt → LoopSt) (s : State) : (onLoop n f s).disp = s.disp := rfl
@[simp] theorem onLoop_pins (n : Nat) (f : LoopSt → LoopSt) (s : State) : (onLoop n f s).pins = s.pins := rfl

@[simp] theorem onAxis_pending (n : Nat) (f : AxisSt → AxisSt) (s : State) : (onAxis n f s).pending = s.pending := rfl
@[simp] theorem onAxis_free (n : Nat) (f : AxisSt → AxisSt) (s : State) : (onAxis n f s).free = s.free := rfl
@[simp] theorem onAxis_host (n : Nat) (f : AxisSt → AxisSt) (s : State) : (onAxis n f s).host = s.host := rfl
@[simp] theorem onAxis_recorder (n : Nat) (f : AxisSt → AxisSt) (s : State) : (onAxis n f s).recorder = s.recorder := rfl
@[simp] theorem onAxis_power (n : Nat) (f : AxisSt → AxisSt) (s : State) : (onAxis n f s).power = s.power := rfl
@[simp] theorem onAxis_mgmt (n : Nat) (f : AxisSt → AxisSt) (s : State) : (onAxis n f s).mgmt = s.mgmt := rfl
@[simp] theorem onAxis_sec (n : Nat) (f : AxisSt → AxisSt) (s : State) : (onAxis n f s).sec = s.sec := rfl
@[simp] theorem onAxis_time (n : Nat) (f : AxisSt → AxisSt) (s : State) : (onAxis n f s).time = s.time := rfl
@[simp] theorem onAxis_rtc (n : Nat) (f : AxisSt → AxisSt) (s : State) : (onAxis n f s).rtc = s.rtc := rfl
@[simp] theorem onAxis_model (n : Nat) (f : AxisSt → AxisSt) (s : State) : (onAxis n f s).model = s.model := rfl
@[simp] theorem onAxis_ox (n : Nat) (f : AxisSt → AxisSt) (s : State) : (onAxis n f s).ox = s.ox := rfl
@[simp] theorem onAxis_est (n : Nat) (f : AxisSt → AxisSt) (s : State) : (onAxis n f s).est = s.est := rfl
@[simp] theorem onAxis_dsp (n : Nat) (f : AxisSt → AxisSt) (s : State) : (onAxis n f s).dsp = s.dsp := rfl
@[simp] theorem onAxis_logic (n : Nat) (f : AxisSt → AxisSt) (s : State) : (onAxis n f s).logic = s.logic := rfl
@[simp] theorem onAxis_loops (n : Nat) (f : AxisSt → AxisSt) (s : State) : (onAxis n f s).loops = s.loops := rfl
@[simp] theorem onAxis_axes (n : Nat) (f : AxisSt → AxisSt) (s : State) : (onAxis n f s).axes = modNth s.axes n f := rfl
@[simp] theorem onAxis_enc (n : Nat) (f : AxisSt → AxisSt) (s : State) : (onAxis n f s).enc = s.enc := rfl
@[simp] theorem onAxis_can (n : Nat) (f : AxisSt → AxisSt) (s : State) : (onAxis n f s).can = s.can := rfl
@[simp] theorem onAxis_adc (n : Nat) (f : AxisSt → AxisSt) (s : State) : (onAxis n f s).adc = s.adc := rfl
@[simp] theorem onAxis_meter (n : Nat) (f : AxisSt → AxisSt) (s : State) : (onAxis n f s).meter = s.meter := rfl
@[simp] theorem onAxis_snapWait (n : Nat) (f : AxisSt → AxisSt) (s : State) : (onAxis n f s).snapWait = s.snapWait := rfl
@[simp] theorem onAxis_net (n : Nat) (f : AxisSt → AxisSt) (s : State) : (onAxis n f s).net = s.net := rfl
@[simp] theorem onAxis_pair (n : Nat) (f : AxisSt → AxisSt) (s : State) : (onAxis n f s).pair = s.pair := rfl
@[simp] theorem onAxis_disp (n : Nat) (f : AxisSt → AxisSt) (s : State) : (onAxis n f s).disp = s.disp := rfl
@[simp] theorem onAxis_pins (n : Nat) (f : AxisSt → AxisSt) (s : State) : (onAxis n f s).pins = s.pins := rfl

@[simp] theorem onCan_pending (n : Nat) (f : CanSt → CanSt) (s : State) : (onCan n f s).pending = s.pending := rfl
@[simp] theorem onCan_free (n : Nat) (f : CanSt → CanSt) (s : State) : (onCan n f s).free = s.free := rfl
@[simp] theorem onCan_host (n : Nat) (f : CanSt → CanSt) (s : State) : (onCan n f s).host = s.host := rfl
@[simp] theorem onCan_recorder (n : Nat) (f : CanSt → CanSt) (s : State) : (onCan n f s).recorder = s.recorder := rfl
@[simp] theorem onCan_power (n : Nat) (f : CanSt → CanSt) (s : State) : (onCan n f s).power = s.power := rfl
@[simp] theorem onCan_mgmt (n : Nat) (f : CanSt → CanSt) (s : State) : (onCan n f s).mgmt = s.mgmt := rfl
@[simp] theorem onCan_sec (n : Nat) (f : CanSt → CanSt) (s : State) : (onCan n f s).sec = s.sec := rfl
@[simp] theorem onCan_time (n : Nat) (f : CanSt → CanSt) (s : State) : (onCan n f s).time = s.time := rfl
@[simp] theorem onCan_rtc (n : Nat) (f : CanSt → CanSt) (s : State) : (onCan n f s).rtc = s.rtc := rfl
@[simp] theorem onCan_model (n : Nat) (f : CanSt → CanSt) (s : State) : (onCan n f s).model = s.model := rfl
@[simp] theorem onCan_ox (n : Nat) (f : CanSt → CanSt) (s : State) : (onCan n f s).ox = s.ox := rfl
@[simp] theorem onCan_est (n : Nat) (f : CanSt → CanSt) (s : State) : (onCan n f s).est = s.est := rfl
@[simp] theorem onCan_dsp (n : Nat) (f : CanSt → CanSt) (s : State) : (onCan n f s).dsp = s.dsp := rfl
@[simp] theorem onCan_logic (n : Nat) (f : CanSt → CanSt) (s : State) : (onCan n f s).logic = s.logic := rfl
@[simp] theorem onCan_loops (n : Nat) (f : CanSt → CanSt) (s : State) : (onCan n f s).loops = s.loops := rfl
@[simp] theorem onCan_axes (n : Nat) (f : CanSt → CanSt) (s : State) : (onCan n f s).axes = s.axes := rfl
@[simp] theorem onCan_enc (n : Nat) (f : CanSt → CanSt) (s : State) : (onCan n f s).enc = s.enc := rfl
@[simp] theorem onCan_can (n : Nat) (f : CanSt → CanSt) (s : State) : (onCan n f s).can = modNth s.can n f := rfl
@[simp] theorem onCan_adc (n : Nat) (f : CanSt → CanSt) (s : State) : (onCan n f s).adc = s.adc := rfl
@[simp] theorem onCan_meter (n : Nat) (f : CanSt → CanSt) (s : State) : (onCan n f s).meter = s.meter := rfl
@[simp] theorem onCan_snapWait (n : Nat) (f : CanSt → CanSt) (s : State) : (onCan n f s).snapWait = s.snapWait := rfl
@[simp] theorem onCan_net (n : Nat) (f : CanSt → CanSt) (s : State) : (onCan n f s).net = s.net := rfl
@[simp] theorem onCan_pair (n : Nat) (f : CanSt → CanSt) (s : State) : (onCan n f s).pair = s.pair := rfl
@[simp] theorem onCan_disp (n : Nat) (f : CanSt → CanSt) (s : State) : (onCan n f s).disp = s.disp := rfl
@[simp] theorem onCan_pins (n : Nat) (f : CanSt → CanSt) (s : State) : (onCan n f s).pins = s.pins := rfl

@[simp] theorem onAdc_pending (f : AdcSt → AdcSt) (s : State) : (onAdc f s).pending = s.pending := rfl
@[simp] theorem onAdc_free (f : AdcSt → AdcSt) (s : State) : (onAdc f s).free = s.free := rfl
@[simp] theorem onAdc_host (f : AdcSt → AdcSt) (s : State) : (onAdc f s).host = s.host := rfl
@[simp] theorem onAdc_recorder (f : AdcSt → AdcSt) (s : State) : (onAdc f s).recorder = s.recorder := rfl
@[simp] theorem onAdc_power (f : AdcSt → AdcSt) (s : State) : (onAdc f s).power = s.power := rfl
@[simp] theorem onAdc_mgmt (f : AdcSt → AdcSt) (s : State) : (onAdc f s).mgmt = s.mgmt := rfl
@[simp] theorem onAdc_sec (f : AdcSt → AdcSt) (s : State) : (onAdc f s).sec = s.sec := rfl
@[simp] theorem onAdc_time (f : AdcSt → AdcSt) (s : State) : (onAdc f s).time = s.time := rfl
@[simp] theorem onAdc_rtc (f : AdcSt → AdcSt) (s : State) : (onAdc f s).rtc = s.rtc := rfl
@[simp] theorem onAdc_model (f : AdcSt → AdcSt) (s : State) : (onAdc f s).model = s.model := rfl
@[simp] theorem onAdc_ox (f : AdcSt → AdcSt) (s : State) : (onAdc f s).ox = s.ox := rfl
@[simp] theorem onAdc_est (f : AdcSt → AdcSt) (s : State) : (onAdc f s).est = s.est := rfl
@[simp] theorem onAdc_dsp (f : AdcSt → AdcSt) (s : State) : (onAdc f s).dsp = s.dsp := rfl
@[simp] theorem onAdc_logic (f : AdcSt → AdcSt) (s : State) : (onAdc f s).logic = s.logic := rfl
@[simp] theorem onAdc_loops (f : AdcSt → AdcSt) (s : State) : (onAdc f s).loops = s.loops := rfl
@[simp] theorem onAdc_axes (f : AdcSt → AdcSt) (s : State) : (onAdc f s).axes = s.axes := rfl
@[simp] theorem onAdc_enc (f : AdcSt → AdcSt) (s : State) : (onAdc f s).enc = s.enc := rfl
@[simp] theorem onAdc_can (f : AdcSt → AdcSt) (s : State) : (onAdc f s).can = s.can := rfl
@[simp] theorem onAdc_adc (f : AdcSt → AdcSt) (s : State) : (onAdc f s).adc = f s.adc := rfl
@[simp] theorem onAdc_meter (f : AdcSt → AdcSt) (s : State) : (onAdc f s).meter = s.meter := rfl
@[simp] theorem onAdc_snapWait (f : AdcSt → AdcSt) (s : State) : (onAdc f s).snapWait = s.snapWait := rfl
@[simp] theorem onAdc_net (f : AdcSt → AdcSt) (s : State) : (onAdc f s).net = s.net := rfl
@[simp] theorem onAdc_pair (f : AdcSt → AdcSt) (s : State) : (onAdc f s).pair = s.pair := rfl
@[simp] theorem onAdc_disp (f : AdcSt → AdcSt) (s : State) : (onAdc f s).disp = s.disp := rfl
@[simp] theorem onAdc_pins (f : AdcSt → AdcSt) (s : State) : (onAdc f s).pins = s.pins := rfl

@[simp] theorem onMeter_pending (f : MeterSt → MeterSt) (s : State) : (onMeter f s).pending = s.pending := rfl
@[simp] theorem onMeter_free (f : MeterSt → MeterSt) (s : State) : (onMeter f s).free = s.free := rfl
@[simp] theorem onMeter_host (f : MeterSt → MeterSt) (s : State) : (onMeter f s).host = s.host := rfl
@[simp] theorem onMeter_recorder (f : MeterSt → MeterSt) (s : State) : (onMeter f s).recorder = s.recorder := rfl
@[simp] theorem onMeter_power (f : MeterSt → MeterSt) (s : State) : (onMeter f s).power = s.power := rfl
@[simp] theorem onMeter_mgmt (f : MeterSt → MeterSt) (s : State) : (onMeter f s).mgmt = s.mgmt := rfl
@[simp] theorem onMeter_sec (f : MeterSt → MeterSt) (s : State) : (onMeter f s).sec = s.sec := rfl
@[simp] theorem onMeter_time (f : MeterSt → MeterSt) (s : State) : (onMeter f s).time = s.time := rfl
@[simp] theorem onMeter_rtc (f : MeterSt → MeterSt) (s : State) : (onMeter f s).rtc = s.rtc := rfl
@[simp] theorem onMeter_model (f : MeterSt → MeterSt) (s : State) : (onMeter f s).model = s.model := rfl
@[simp] theorem onMeter_ox (f : MeterSt → MeterSt) (s : State) : (onMeter f s).ox = s.ox := rfl
@[simp] theorem onMeter_est (f : MeterSt → MeterSt) (s : State) : (onMeter f s).est = s.est := rfl
@[simp] theorem onMeter_dsp (f : MeterSt → MeterSt) (s : State) : (onMeter f s).dsp = s.dsp := rfl
@[simp] theorem onMeter_logic (f : MeterSt → MeterSt) (s : State) : (onMeter f s).logic = s.logic := rfl
@[simp] theorem onMeter_loops (f : MeterSt → MeterSt) (s : State) : (onMeter f s).loops = s.loops := rfl
@[simp] theorem onMeter_axes (f : MeterSt → MeterSt) (s : State) : (onMeter f s).axes = s.axes := rfl
@[simp] theorem onMeter_enc (f : MeterSt → MeterSt) (s : State) : (onMeter f s).enc = s.enc := rfl
@[simp] theorem onMeter_can (f : MeterSt → MeterSt) (s : State) : (onMeter f s).can = s.can := rfl
@[simp] theorem onMeter_adc (f : MeterSt → MeterSt) (s : State) : (onMeter f s).adc = s.adc := rfl
@[simp] theorem onMeter_meter (f : MeterSt → MeterSt) (s : State) : (onMeter f s).meter = f s.meter := rfl
@[simp] theorem onMeter_snapWait (f : MeterSt → MeterSt) (s : State) : (onMeter f s).snapWait = s.snapWait := rfl
@[simp] theorem onMeter_net (f : MeterSt → MeterSt) (s : State) : (onMeter f s).net = s.net := rfl
@[simp] theorem onMeter_pair (f : MeterSt → MeterSt) (s : State) : (onMeter f s).pair = s.pair := rfl
@[simp] theorem onMeter_disp (f : MeterSt → MeterSt) (s : State) : (onMeter f s).disp = s.disp := rfl
@[simp] theorem onMeter_pins (f : MeterSt → MeterSt) (s : State) : (onMeter f s).pins = s.pins := rfl

@[simp] theorem onNet_pending (f : NetSt → NetSt) (s : State) : (onNet f s).pending = s.pending := rfl
@[simp] theorem onNet_free (f : NetSt → NetSt) (s : State) : (onNet f s).free = s.free := rfl
@[simp] theorem onNet_host (f : NetSt → NetSt) (s : State) : (onNet f s).host = s.host := rfl
@[simp] theorem onNet_recorder (f : NetSt → NetSt) (s : State) : (onNet f s).recorder = s.recorder := rfl
@[simp] theorem onNet_power (f : NetSt → NetSt) (s : State) : (onNet f s).power = s.power := rfl
@[simp] theorem onNet_mgmt (f : NetSt → NetSt) (s : State) : (onNet f s).mgmt = s.mgmt := rfl
@[simp] theorem onNet_sec (f : NetSt → NetSt) (s : State) : (onNet f s).sec = s.sec := rfl
@[simp] theorem onNet_time (f : NetSt → NetSt) (s : State) : (onNet f s).time = s.time := rfl
@[simp] theorem onNet_rtc (f : NetSt → NetSt) (s : State) : (onNet f s).rtc = s.rtc := rfl
@[simp] theorem onNet_model (f : NetSt → NetSt) (s : State) : (onNet f s).model = s.model := rfl
@[simp] theorem onNet_ox (f : NetSt → NetSt) (s : State) : (onNet f s).ox = s.ox := rfl
@[simp] theorem onNet_est (f : NetSt → NetSt) (s : State) : (onNet f s).est = s.est := rfl
@[simp] theorem onNet_dsp (f : NetSt → NetSt) (s : State) : (onNet f s).dsp = s.dsp := rfl
@[simp] theorem onNet_logic (f : NetSt → NetSt) (s : State) : (onNet f s).logic = s.logic := rfl
@[simp] theorem onNet_loops (f : NetSt → NetSt) (s : State) : (onNet f s).loops = s.loops := rfl
@[simp] theorem onNet_axes (f : NetSt → NetSt) (s : State) : (onNet f s).axes = s.axes := rfl
@[simp] theorem onNet_enc (f : NetSt → NetSt) (s : State) : (onNet f s).enc = s.enc := rfl
@[simp] theorem onNet_can (f : NetSt → NetSt) (s : State) : (onNet f s).can = s.can := rfl
@[simp] theorem onNet_adc (f : NetSt → NetSt) (s : State) : (onNet f s).adc = s.adc := rfl
@[simp] theorem onNet_meter (f : NetSt → NetSt) (s : State) : (onNet f s).meter = s.meter := rfl
@[simp] theorem onNet_snapWait (f : NetSt → NetSt) (s : State) : (onNet f s).snapWait = s.snapWait := rfl
@[simp] theorem onNet_net (f : NetSt → NetSt) (s : State) : (onNet f s).net = f s.net := rfl
@[simp] theorem onNet_pair (f : NetSt → NetSt) (s : State) : (onNet f s).pair = s.pair := rfl
@[simp] theorem onNet_disp (f : NetSt → NetSt) (s : State) : (onNet f s).disp = s.disp := rfl
@[simp] theorem onNet_pins (f : NetSt → NetSt) (s : State) : (onNet f s).pins = s.pins := rfl

@[simp] theorem onPair_pending (f : PairSt → PairSt) (s : State) : (onPair f s).pending = s.pending := rfl
@[simp] theorem onPair_free (f : PairSt → PairSt) (s : State) : (onPair f s).free = s.free := rfl
@[simp] theorem onPair_host (f : PairSt → PairSt) (s : State) : (onPair f s).host = s.host := rfl
@[simp] theorem onPair_recorder (f : PairSt → PairSt) (s : State) : (onPair f s).recorder = s.recorder := rfl
@[simp] theorem onPair_power (f : PairSt → PairSt) (s : State) : (onPair f s).power = s.power := rfl
@[simp] theorem onPair_mgmt (f : PairSt → PairSt) (s : State) : (onPair f s).mgmt = s.mgmt := rfl
@[simp] theorem onPair_sec (f : PairSt → PairSt) (s : State) : (onPair f s).sec = s.sec := rfl
@[simp] theorem onPair_time (f : PairSt → PairSt) (s : State) : (onPair f s).time = s.time := rfl
@[simp] theorem onPair_rtc (f : PairSt → PairSt) (s : State) : (onPair f s).rtc = s.rtc := rfl
@[simp] theorem onPair_model (f : PairSt → PairSt) (s : State) : (onPair f s).model = s.model := rfl
@[simp] theorem onPair_ox (f : PairSt → PairSt) (s : State) : (onPair f s).ox = s.ox := rfl
@[simp] theorem onPair_est (f : PairSt → PairSt) (s : State) : (onPair f s).est = s.est := rfl
@[simp] theorem onPair_dsp (f : PairSt → PairSt) (s : State) : (onPair f s).dsp = s.dsp := rfl
@[simp] theorem onPair_logic (f : PairSt → PairSt) (s : State) : (onPair f s).logic = s.logic := rfl
@[simp] theorem onPair_loops (f : PairSt → PairSt) (s : State) : (onPair f s).loops = s.loops := rfl
@[simp] theorem onPair_axes (f : PairSt → PairSt) (s : State) : (onPair f s).axes = s.axes := rfl
@[simp] theorem onPair_enc (f : PairSt → PairSt) (s : State) : (onPair f s).enc = s.enc := rfl
@[simp] theorem onPair_can (f : PairSt → PairSt) (s : State) : (onPair f s).can = s.can := rfl
@[simp] theorem onPair_adc (f : PairSt → PairSt) (s : State) : (onPair f s).adc = s.adc := rfl
@[simp] theorem onPair_meter (f : PairSt → PairSt) (s : State) : (onPair f s).meter = s.meter := rfl
@[simp] theorem onPair_snapWait (f : PairSt → PairSt) (s : State) : (onPair f s).snapWait = s.snapWait := rfl
@[simp] theorem onPair_net (f : PairSt → PairSt) (s : State) : (onPair f s).net = s.net := rfl
@[simp] theorem onPair_pair (f : PairSt → PairSt) (s : State) : (onPair f s).pair = f s.pair := rfl
@[simp] theorem onPair_disp (f : PairSt → PairSt) (s : State) : (onPair f s).disp = s.disp := rfl
@[simp] theorem onPair_pins (f : PairSt → PairSt) (s : State) : (onPair f s).pins = s.pins := rfl

@[simp] theorem onDisp_pending (f : DispSt → DispSt) (s : State) : (onDisp f s).pending = s.pending := rfl
@[simp] theorem onDisp_free (f : DispSt → DispSt) (s : State) : (onDisp f s).free = s.free := rfl
@[simp] theorem onDisp_host (f : DispSt → DispSt) (s : State) : (onDisp f s).host = s.host := rfl
@[simp] theorem onDisp_recorder (f : DispSt → DispSt) (s : State) : (onDisp f s).recorder = s.recorder := rfl
@[simp] theorem onDisp_power (f : DispSt → DispSt) (s : State) : (onDisp f s).power = s.power := rfl
@[simp] theorem onDisp_mgmt (f : DispSt → DispSt) (s : State) : (onDisp f s).mgmt = s.mgmt := rfl
@[simp] theorem onDisp_sec (f : DispSt → DispSt) (s : State) : (onDisp f s).sec = s.sec := rfl
@[simp] theorem onDisp_time (f : DispSt → DispSt) (s : State) : (onDisp f s).time = s.time := rfl
@[simp] theorem onDisp_rtc (f : DispSt → DispSt) (s : State) : (onDisp f s).rtc = s.rtc := rfl
@[simp] theorem onDisp_model (f : DispSt → DispSt) (s : State) : (onDisp f s).model = s.model := rfl
@[simp] theorem onDisp_ox (f : DispSt → DispSt) (s : State) : (onDisp f s).ox = s.ox := rfl
@[simp] theorem onDisp_est (f : DispSt → DispSt) (s : State) : (onDisp f s).est = s.est := rfl
@[simp] theorem onDisp_dsp (f : DispSt → DispSt) (s : State) : (onDisp f s).dsp = s.dsp := rfl
@[simp] theorem onDisp_logic (f : DispSt → DispSt) (s : State) : (onDisp f s).logic = s.logic := rfl
@[simp] theorem onDisp_loops (f : DispSt → DispSt) (s : State) : (onDisp f s).loops = s.loops := rfl
@[simp] theorem onDisp_axes (f : DispSt → DispSt) (s : State) : (onDisp f s).axes = s.axes := rfl
@[simp] theorem onDisp_enc (f : DispSt → DispSt) (s : State) : (onDisp f s).enc = s.enc := rfl
@[simp] theorem onDisp_can (f : DispSt → DispSt) (s : State) : (onDisp f s).can = s.can := rfl
@[simp] theorem onDisp_adc (f : DispSt → DispSt) (s : State) : (onDisp f s).adc = s.adc := rfl
@[simp] theorem onDisp_meter (f : DispSt → DispSt) (s : State) : (onDisp f s).meter = s.meter := rfl
@[simp] theorem onDisp_snapWait (f : DispSt → DispSt) (s : State) : (onDisp f s).snapWait = s.snapWait := rfl
@[simp] theorem onDisp_net (f : DispSt → DispSt) (s : State) : (onDisp f s).net = s.net := rfl
@[simp] theorem onDisp_pair (f : DispSt → DispSt) (s : State) : (onDisp f s).pair = s.pair := rfl
@[simp] theorem onDisp_disp (f : DispSt → DispSt) (s : State) : (onDisp f s).disp = f s.disp := rfl
@[simp] theorem onDisp_pins (f : DispSt → DispSt) (s : State) : (onDisp f s).pins = s.pins := rfl

@[simp] theorem drawn_pending (s : State) : s.drawn.pending = s.pending := rfl
@[simp] theorem drawn_free (s : State) : s.drawn.free = s.free + 1 := rfl
@[simp] theorem drawn_host (s : State) : s.drawn.host = s.host := rfl
@[simp] theorem drawn_recorder (s : State) : s.drawn.recorder = s.recorder := rfl
@[simp] theorem drawn_power (s : State) : s.drawn.power = s.power := rfl
@[simp] theorem drawn_mgmt (s : State) : s.drawn.mgmt = s.mgmt := rfl
@[simp] theorem drawn_sec (s : State) : s.drawn.sec = s.sec := rfl
@[simp] theorem drawn_time (s : State) : s.drawn.time = s.time := rfl
@[simp] theorem drawn_rtc (s : State) : s.drawn.rtc = s.rtc := rfl
@[simp] theorem drawn_model (s : State) : s.drawn.model = s.model := rfl
@[simp] theorem drawn_ox (s : State) : s.drawn.ox = s.ox := rfl
@[simp] theorem drawn_est (s : State) : s.drawn.est = s.est := rfl
@[simp] theorem drawn_dsp (s : State) : s.drawn.dsp = s.dsp := rfl
@[simp] theorem drawn_logic (s : State) : s.drawn.logic = s.logic := rfl
@[simp] theorem drawn_loops (s : State) : s.drawn.loops = s.loops := rfl
@[simp] theorem drawn_axes (s : State) : s.drawn.axes = s.axes := rfl
@[simp] theorem drawn_enc (s : State) : s.drawn.enc = s.enc := rfl
@[simp] theorem drawn_can (s : State) : s.drawn.can = s.can := rfl
@[simp] theorem drawn_adc (s : State) : s.drawn.adc = s.adc := rfl
@[simp] theorem drawn_meter (s : State) : s.drawn.meter = s.meter := rfl
@[simp] theorem drawn_snapWait (s : State) : s.drawn.snapWait = s.snapWait := rfl
@[simp] theorem drawn_net (s : State) : s.drawn.net = s.net := rfl
@[simp] theorem drawn_pair (s : State) : s.drawn.pair = s.pair := rfl
@[simp] theorem drawn_disp (s : State) : s.drawn.disp = s.disp := rfl
@[simp] theorem drawn_pins (s : State) : s.drawn.pins = s.pins := rfl

@[simp] theorem raiseBy_pending (rom : Bool) (c k p q r : Nat) (s : State) : (raiseBy rom c k p q r s).pending = s.pending := by
  unfold raiseBy; split <;> rfl
@[simp] theorem raiseBy_free (rom : Bool) (c k p q r : Nat) (s : State) : (raiseBy rom c k p q r s).free = s.free := by
  unfold raiseBy; split <;> rfl
@[simp] theorem raiseBy_power (rom : Bool) (c k p q r : Nat) (s : State) : (raiseBy rom c k p q r s).power = s.power := by
  unfold raiseBy; split <;> rfl
@[simp] theorem raiseBy_mgmt (rom : Bool) (c k p q r : Nat) (s : State) : (raiseBy rom c k p q r s).mgmt = s.mgmt := by
  unfold raiseBy; split <;> rfl
@[simp] theorem raiseBy_sec (rom : Bool) (c k p q r : Nat) (s : State) : (raiseBy rom c k p q r s).sec = s.sec := by
  unfold raiseBy; split <;> rfl
@[simp] theorem raiseBy_time (rom : Bool) (c k p q r : Nat) (s : State) : (raiseBy rom c k p q r s).time = s.time := by
  unfold raiseBy; split <;> rfl
@[simp] theorem raiseBy_rtc (rom : Bool) (c k p q r : Nat) (s : State) : (raiseBy rom c k p q r s).rtc = s.rtc := by
  unfold raiseBy; split <;> rfl
@[simp] theorem raiseBy_model (rom : Bool) (c k p q r : Nat) (s : State) : (raiseBy rom c k p q r s).model = s.model := by
  unfold raiseBy; split <;> rfl
@[simp] theorem raiseBy_ox (rom : Bool) (c k p q r : Nat) (s : State) : (raiseBy rom c k p q r s).ox = s.ox := by
  unfold raiseBy; split <;> rfl
@[simp] theorem raiseBy_est (rom : Bool) (c k p q r : Nat) (s : State) : (raiseBy rom c k p q r s).est = s.est := by
  unfold raiseBy; split <;> rfl
@[simp] theorem raiseBy_dsp (rom : Bool) (c k p q r : Nat) (s : State) : (raiseBy rom c k p q r s).dsp = s.dsp := by
  unfold raiseBy; split <;> rfl
@[simp] theorem raiseBy_logic (rom : Bool) (c k p q r : Nat) (s : State) : (raiseBy rom c k p q r s).logic = s.logic := by
  unfold raiseBy; split <;> rfl
@[simp] theorem raiseBy_loops (rom : Bool) (c k p q r : Nat) (s : State) : (raiseBy rom c k p q r s).loops = s.loops := by
  unfold raiseBy; split <;> rfl
@[simp] theorem raiseBy_axes (rom : Bool) (c k p q r : Nat) (s : State) : (raiseBy rom c k p q r s).axes = s.axes := by
  unfold raiseBy; split <;> rfl
@[simp] theorem raiseBy_enc (rom : Bool) (c k p q r : Nat) (s : State) : (raiseBy rom c k p q r s).enc = s.enc := by
  unfold raiseBy; split <;> rfl
@[simp] theorem raiseBy_can (rom : Bool) (c k p q r : Nat) (s : State) : (raiseBy rom c k p q r s).can = s.can := by
  unfold raiseBy; split <;> rfl
@[simp] theorem raiseBy_adc (rom : Bool) (c k p q r : Nat) (s : State) : (raiseBy rom c k p q r s).adc = s.adc := by
  unfold raiseBy; split <;> rfl
@[simp] theorem raiseBy_meter (rom : Bool) (c k p q r : Nat) (s : State) : (raiseBy rom c k p q r s).meter = s.meter := by
  unfold raiseBy; split <;> rfl
@[simp] theorem raiseBy_snapWait (rom : Bool) (c k p q r : Nat) (s : State) : (raiseBy rom c k p q r s).snapWait = s.snapWait := by
  unfold raiseBy; split <;> rfl
@[simp] theorem raiseBy_net (rom : Bool) (c k p q r : Nat) (s : State) : (raiseBy rom c k p q r s).net = s.net := by
  unfold raiseBy; split <;> rfl
@[simp] theorem raiseBy_pair (rom : Bool) (c k p q r : Nat) (s : State) : (raiseBy rom c k p q r s).pair = s.pair := by
  unfold raiseBy; split <;> rfl
@[simp] theorem raiseBy_disp (rom : Bool) (c k p q r : Nat) (s : State) : (raiseBy rom c k p q r s).disp = s.disp := by
  unfold raiseBy; split <;> rfl
@[simp] theorem raiseBy_pins (rom : Bool) (c k p q r : Nat) (s : State) : (raiseBy rom c k p q r s).pins = s.pins := by
  unfold raiseBy; split <;> rfl

@[simp] theorem raise_pending (c k p q r : Nat) (s : State) : (raise c k p q r s).pending = s.pending := raiseBy_pending _ _ _ _ _ _ _
@[simp] theorem raise_free (c k p q r : Nat) (s : State) : (raise c k p q r s).free = s.free := raiseBy_free _ _ _ _ _ _ _
@[simp] theorem raise_power (c k p q r : Nat) (s : State) : (raise c k p q r s).power = s.power := raiseBy_power _ _ _ _ _ _ _
@[simp] theorem raise_mgmt (c k p q r : Nat) (s : State) : (raise c k p q r s).mgmt = s.mgmt := raiseBy_mgmt _ _ _ _ _ _ _
@[simp] theorem raise_sec (c k p q r : Nat) (s : State) : (raise c k p q r s).sec = s.sec := raiseBy_sec _ _ _ _ _ _ _
@[simp] theorem raise_time (c k p q r : Nat) (s : State) : (raise c k p q r s).time = s.time := raiseBy_time _ _ _ _ _ _ _
@[simp] theorem raise_rtc (c k p q r : Nat) (s : State) : (raise c k p q r s).rtc = s.rtc := raiseBy_rtc _ _ _ _ _ _ _
@[simp] theorem raise_model (c k p q r : Nat) (s : State) : (raise c k p q r s).model = s.model := raiseBy_model _ _ _ _ _ _ _
@[simp] theorem raise_ox (c k p q r : Nat) (s : State) : (raise c k p q r s).ox = s.ox := raiseBy_ox _ _ _ _ _ _ _
@[simp] theorem raise_est (c k p q r : Nat) (s : State) : (raise c k p q r s).est = s.est := raiseBy_est _ _ _ _ _ _ _
@[simp] theorem raise_dsp (c k p q r : Nat) (s : State) : (raise c k p q r s).dsp = s.dsp := raiseBy_dsp _ _ _ _ _ _ _
@[simp] theorem raise_logic (c k p q r : Nat) (s : State) : (raise c k p q r s).logic = s.logic := raiseBy_logic _ _ _ _ _ _ _
@[simp] theorem raise_loops (c k p q r : Nat) (s : State) : (raise c k p q r s).loops = s.loops := raiseBy_loops _ _ _ _ _ _ _
@[simp] theorem raise_axes (c k p q r : Nat) (s : State) : (raise c k p q r s).axes = s.axes := raiseBy_axes _ _ _ _ _ _ _
@[simp] theorem raise_enc (c k p q r : Nat) (s : State) : (raise c k p q r s).enc = s.enc := raiseBy_enc _ _ _ _ _ _ _
@[simp] theorem raise_can (c k p q r : Nat) (s : State) : (raise c k p q r s).can = s.can := raiseBy_can _ _ _ _ _ _ _
@[simp] theorem raise_adc (c k p q r : Nat) (s : State) : (raise c k p q r s).adc = s.adc := raiseBy_adc _ _ _ _ _ _ _
@[simp] theorem raise_meter (c k p q r : Nat) (s : State) : (raise c k p q r s).meter = s.meter := raiseBy_meter _ _ _ _ _ _ _
@[simp] theorem raise_snapWait (c k p q r : Nat) (s : State) : (raise c k p q r s).snapWait = s.snapWait := raiseBy_snapWait _ _ _ _ _ _ _
@[simp] theorem raise_net (c k p q r : Nat) (s : State) : (raise c k p q r s).net = s.net := raiseBy_net _ _ _ _ _ _ _
@[simp] theorem raise_pair (c k p q r : Nat) (s : State) : (raise c k p q r s).pair = s.pair := raiseBy_pair _ _ _ _ _ _ _
@[simp] theorem raise_disp (c k p q r : Nat) (s : State) : (raise c k p q r s).disp = s.disp := raiseBy_disp _ _ _ _ _ _ _
@[simp] theorem raise_pins (c k p q r : Nat) (s : State) : (raise c k p q r s).pins = s.pins := raiseBy_pins _ _ _ _ _ _ _

@[simp] theorem setIsl_pending (n : Nat) (x : IslSt) (s : State) : (setIsl n x s).pending = s.pending := rfl
@[simp] theorem setIsl_free (n : Nat) (x : IslSt) (s : State) : (setIsl n x s).free = s.free := rfl
@[simp] theorem setIsl_host (n : Nat) (x : IslSt) (s : State) : (setIsl n x s).host = s.host := rfl
@[simp] theorem setIsl_recorder (n : Nat) (x : IslSt) (s : State) : (setIsl n x s).recorder = s.recorder := rfl
@[simp] theorem setIsl_mgmt (n : Nat) (x : IslSt) (s : State) : (setIsl n x s).mgmt = s.mgmt := rfl
@[simp] theorem setIsl_sec (n : Nat) (x : IslSt) (s : State) : (setIsl n x s).sec = s.sec := rfl
@[simp] theorem setIsl_time (n : Nat) (x : IslSt) (s : State) : (setIsl n x s).time = s.time := rfl
@[simp] theorem setIsl_rtc (n : Nat) (x : IslSt) (s : State) : (setIsl n x s).rtc = s.rtc := rfl
@[simp] theorem setIsl_model (n : Nat) (x : IslSt) (s : State) : (setIsl n x s).model = s.model := rfl
@[simp] theorem setIsl_ox (n : Nat) (x : IslSt) (s : State) : (setIsl n x s).ox = s.ox := rfl
@[simp] theorem setIsl_est (n : Nat) (x : IslSt) (s : State) : (setIsl n x s).est = s.est := rfl
@[simp] theorem setIsl_dsp (n : Nat) (x : IslSt) (s : State) : (setIsl n x s).dsp = s.dsp := rfl
@[simp] theorem setIsl_logic (n : Nat) (x : IslSt) (s : State) : (setIsl n x s).logic = s.logic := rfl
@[simp] theorem setIsl_loops (n : Nat) (x : IslSt) (s : State) : (setIsl n x s).loops = s.loops := rfl
@[simp] theorem setIsl_axes (n : Nat) (x : IslSt) (s : State) : (setIsl n x s).axes = s.axes := rfl
@[simp] theorem setIsl_enc (n : Nat) (x : IslSt) (s : State) : (setIsl n x s).enc = s.enc := rfl
@[simp] theorem setIsl_can (n : Nat) (x : IslSt) (s : State) : (setIsl n x s).can = s.can := rfl
@[simp] theorem setIsl_adc (n : Nat) (x : IslSt) (s : State) : (setIsl n x s).adc = s.adc := rfl
@[simp] theorem setIsl_meter (n : Nat) (x : IslSt) (s : State) : (setIsl n x s).meter = s.meter := rfl
@[simp] theorem setIsl_snapWait (n : Nat) (x : IslSt) (s : State) : (setIsl n x s).snapWait = s.snapWait := rfl
@[simp] theorem setIsl_net (n : Nat) (x : IslSt) (s : State) : (setIsl n x s).net = s.net := rfl
@[simp] theorem setIsl_pair (n : Nat) (x : IslSt) (s : State) : (setIsl n x s).pair = s.pair := rfl
@[simp] theorem setIsl_disp (n : Nat) (x : IslSt) (s : State) : (setIsl n x s).disp = s.disp := rfl
@[simp] theorem setIsl_pins (n : Nat) (x : IslSt) (s : State) : (setIsl n x s).pins = s.pins := rfl

@[simp] theorem setUnit_pending (a b : Nat) (x : UnitSt) (s : State) : (setUnit a b x s).pending = s.pending := rfl
@[simp] theorem setUnit_free (a b : Nat) (x : UnitSt) (s : State) : (setUnit a b x s).free = s.free := rfl
@[simp] theorem setUnit_recorder (a b : Nat) (x : UnitSt) (s : State) : (setUnit a b x s).recorder = s.recorder := rfl
@[simp] theorem setUnit_power (a b : Nat) (x : UnitSt) (s : State) : (setUnit a b x s).power = s.power := rfl
@[simp] theorem setUnit_mgmt (a b : Nat) (x : UnitSt) (s : State) : (setUnit a b x s).mgmt = s.mgmt := rfl
@[simp] theorem setUnit_sec (a b : Nat) (x : UnitSt) (s : State) : (setUnit a b x s).sec = s.sec := rfl
@[simp] theorem setUnit_time (a b : Nat) (x : UnitSt) (s : State) : (setUnit a b x s).time = s.time := rfl
@[simp] theorem setUnit_rtc (a b : Nat) (x : UnitSt) (s : State) : (setUnit a b x s).rtc = s.rtc := rfl
@[simp] theorem setUnit_model (a b : Nat) (x : UnitSt) (s : State) : (setUnit a b x s).model = s.model := rfl
@[simp] theorem setUnit_ox (a b : Nat) (x : UnitSt) (s : State) : (setUnit a b x s).ox = s.ox := rfl
@[simp] theorem setUnit_est (a b : Nat) (x : UnitSt) (s : State) : (setUnit a b x s).est = s.est := rfl
@[simp] theorem setUnit_dsp (a b : Nat) (x : UnitSt) (s : State) : (setUnit a b x s).dsp = s.dsp := rfl
@[simp] theorem setUnit_logic (a b : Nat) (x : UnitSt) (s : State) : (setUnit a b x s).logic = s.logic := rfl
@[simp] theorem setUnit_loops (a b : Nat) (x : UnitSt) (s : State) : (setUnit a b x s).loops = s.loops := rfl
@[simp] theorem setUnit_axes (a b : Nat) (x : UnitSt) (s : State) : (setUnit a b x s).axes = s.axes := rfl
@[simp] theorem setUnit_enc (a b : Nat) (x : UnitSt) (s : State) : (setUnit a b x s).enc = s.enc := rfl
@[simp] theorem setUnit_can (a b : Nat) (x : UnitSt) (s : State) : (setUnit a b x s).can = s.can := rfl
@[simp] theorem setUnit_adc (a b : Nat) (x : UnitSt) (s : State) : (setUnit a b x s).adc = s.adc := rfl
@[simp] theorem setUnit_meter (a b : Nat) (x : UnitSt) (s : State) : (setUnit a b x s).meter = s.meter := rfl
@[simp] theorem setUnit_snapWait (a b : Nat) (x : UnitSt) (s : State) : (setUnit a b x s).snapWait = s.snapWait := rfl
@[simp] theorem setUnit_net (a b : Nat) (x : UnitSt) (s : State) : (setUnit a b x s).net = s.net := rfl
@[simp] theorem setUnit_pair (a b : Nat) (x : UnitSt) (s : State) : (setUnit a b x s).pair = s.pair := rfl
@[simp] theorem setUnit_disp (a b : Nat) (x : UnitSt) (s : State) : (setUnit a b x s).disp = s.disp := rfl
@[simp] theorem setUnit_pins (a b : Nat) (x : UnitSt) (s : State) : (setUnit a b x s).pins = s.pins := rfl

@[simp] theorem hostDrop_pending (s : State) : (hostDrop s).pending = s.pending := rfl
@[simp] theorem hostDrop_free (s : State) : (hostDrop s).free = s.free := rfl
@[simp] theorem hostDrop_recorder (s : State) : (hostDrop s).recorder = s.recorder := rfl
@[simp] theorem hostDrop_power (s : State) : (hostDrop s).power = s.power := rfl
@[simp] theorem hostDrop_mgmt (s : State) : (hostDrop s).mgmt = s.mgmt := rfl
@[simp] theorem hostDrop_sec (s : State) : (hostDrop s).sec = s.sec := rfl
@[simp] theorem hostDrop_time (s : State) : (hostDrop s).time = s.time := rfl
@[simp] theorem hostDrop_rtc (s : State) : (hostDrop s).rtc = s.rtc := rfl
@[simp] theorem hostDrop_model (s : State) : (hostDrop s).model = s.model := rfl
@[simp] theorem hostDrop_ox (s : State) : (hostDrop s).ox = s.ox := rfl
@[simp] theorem hostDrop_est (s : State) : (hostDrop s).est = s.est := rfl
@[simp] theorem hostDrop_dsp (s : State) : (hostDrop s).dsp = s.dsp := rfl
@[simp] theorem hostDrop_logic (s : State) : (hostDrop s).logic = s.logic := rfl
@[simp] theorem hostDrop_loops (s : State) : (hostDrop s).loops = s.loops := rfl
@[simp] theorem hostDrop_axes (s : State) : (hostDrop s).axes = s.axes := rfl
@[simp] theorem hostDrop_enc (s : State) : (hostDrop s).enc = s.enc := rfl
@[simp] theorem hostDrop_can (s : State) : (hostDrop s).can = s.can := rfl
@[simp] theorem hostDrop_adc (s : State) : (hostDrop s).adc = s.adc := rfl
@[simp] theorem hostDrop_meter (s : State) : (hostDrop s).meter = s.meter := rfl
@[simp] theorem hostDrop_snapWait (s : State) : (hostDrop s).snapWait = s.snapWait := rfl
@[simp] theorem hostDrop_net (s : State) : (hostDrop s).net = s.net := rfl
@[simp] theorem hostDrop_pair (s : State) : (hostDrop s).pair = s.pair := rfl
@[simp] theorem hostDrop_disp (s : State) : (hostDrop s).disp = s.disp := rfl
@[simp] theorem hostDrop_pins (s : State) : (hostDrop s).pins = s.pins := rfl

@[simp] theorem send_pending (m : OutMsg) (s : State) : (send m s).pending = s.pending := rfl
@[simp] theorem send_free (m : OutMsg) (s : State) : (send m s).free = s.free := rfl
@[simp] theorem send_recorder (m : OutMsg) (s : State) : (send m s).recorder = s.recorder := rfl
@[simp] theorem send_power (m : OutMsg) (s : State) : (send m s).power = s.power := rfl
@[simp] theorem send_mgmt (m : OutMsg) (s : State) : (send m s).mgmt = s.mgmt := rfl
@[simp] theorem send_sec (m : OutMsg) (s : State) : (send m s).sec = s.sec := rfl
@[simp] theorem send_time (m : OutMsg) (s : State) : (send m s).time = s.time := rfl
@[simp] theorem send_rtc (m : OutMsg) (s : State) : (send m s).rtc = s.rtc := rfl
@[simp] theorem send_model (m : OutMsg) (s : State) : (send m s).model = s.model := rfl
@[simp] theorem send_ox (m : OutMsg) (s : State) : (send m s).ox = s.ox := rfl
@[simp] theorem send_est (m : OutMsg) (s : State) : (send m s).est = s.est := rfl
@[simp] theorem send_dsp (m : OutMsg) (s : State) : (send m s).dsp = s.dsp := rfl
@[simp] theorem send_logic (m : OutMsg) (s : State) : (send m s).logic = s.logic := rfl
@[simp] theorem send_loops (m : OutMsg) (s : State) : (send m s).loops = s.loops := rfl
@[simp] theorem send_axes (m : OutMsg) (s : State) : (send m s).axes = s.axes := rfl
@[simp] theorem send_enc (m : OutMsg) (s : State) : (send m s).enc = s.enc := rfl
@[simp] theorem send_can (m : OutMsg) (s : State) : (send m s).can = s.can := rfl
@[simp] theorem send_adc (m : OutMsg) (s : State) : (send m s).adc = s.adc := rfl
@[simp] theorem send_meter (m : OutMsg) (s : State) : (send m s).meter = s.meter := rfl
@[simp] theorem send_snapWait (m : OutMsg) (s : State) : (send m s).snapWait = s.snapWait := rfl
@[simp] theorem send_net (m : OutMsg) (s : State) : (send m s).net = s.net := rfl
@[simp] theorem send_pair (m : OutMsg) (s : State) : (send m s).pair = s.pair := rfl
@[simp] theorem send_disp (m : OutMsg) (s : State) : (send m s).disp = s.disp := rfl
@[simp] theorem send_pins (m : OutMsg) (s : State) : (send m s).pins = s.pins := rfl

@[simp] theorem idleExit_pending (s : State) : (idleExit s).pending = s.pending := by
  unfold idleExit; split <;> rfl
@[simp] theorem idleExit_free (s : State) : (idleExit s).free = s.free := by
  unfold idleExit; split <;> rfl
@[simp] theorem idleExit_host (s : State) : (idleExit s).host = s.host := by
  unfold idleExit; split <;> rfl
@[simp] theorem idleExit_recorder (s : State) : (idleExit s).recorder = s.recorder := by
  unfold idleExit; split <;> rfl
@[simp] theorem idleExit_mgmt (s : State) : (idleExit s).mgmt = s.mgmt := by
  unfold idleExit; split <;> rfl
@[simp] theorem idleExit_sec (s : State) : (idleExit s).sec = s.sec := by
  unfold idleExit; split <;> rfl
@[simp] theorem idleExit_time (s : State) : (idleExit s).time = s.time := by
  unfold idleExit; split <;> rfl
@[simp] theorem idleExit_rtc (s : State) : (idleExit s).rtc = s.rtc := by
  unfold idleExit; split <;> rfl
@[simp] theorem idleExit_model (s : State) : (idleExit s).model = s.model := by
  unfold idleExit; split <;> rfl
@[simp] theorem idleExit_ox (s : State) : (idleExit s).ox = s.ox := by
  unfold idleExit; split <;> rfl
@[simp] theorem idleExit_est (s : State) : (idleExit s).est = s.est := by
  unfold idleExit; split <;> rfl
@[simp] theorem idleExit_dsp (s : State) : (idleExit s).dsp = s.dsp := by
  unfold idleExit; split <;> rfl
@[simp] theorem idleExit_logic (s : State) : (idleExit s).logic = s.logic := by
  unfold idleExit; split <;> rfl
@[simp] theorem idleExit_loops (s : State) : (idleExit s).loops = s.loops := by
  unfold idleExit; split <;> rfl
@[simp] theorem idleExit_axes (s : State) : (idleExit s).axes = s.axes := by
  unfold idleExit; split <;> rfl
@[simp] theorem idleExit_enc (s : State) : (idleExit s).enc = s.enc := by
  unfold idleExit; split <;> rfl
@[simp] theorem idleExit_can (s : State) : (idleExit s).can = s.can := by
  unfold idleExit; split <;> rfl
@[simp] theorem idleExit_adc (s : State) : (idleExit s).adc = s.adc := by
  unfold idleExit; split <;> rfl
@[simp] theorem idleExit_meter (s : State) : (idleExit s).meter = s.meter := by
  unfold idleExit; split <;> rfl
@[simp] theorem idleExit_snapWait (s : State) : (idleExit s).snapWait = s.snapWait := by
  unfold idleExit; split <;> rfl
@[simp] theorem idleExit_net (s : State) : (idleExit s).net = s.net := by
  unfold idleExit; split <;> rfl
@[simp] theorem idleExit_pair (s : State) : (idleExit s).pair = s.pair := by
  unfold idleExit; split <;> rfl
@[simp] theorem idleExit_disp (s : State) : (idleExit s).disp = s.disp := by
  unfold idleExit; split <;> rfl
@[simp] theorem idleExit_pins (s : State) : (idleExit s).pins = s.pins := by
  unfold idleExit; split <;> rfl

@[simp] theorem latchWake_pending (n : Nat) (s : State) : (latchWake n s).pending = s.pending := by
  simp only [latchWake]; split <;> simp
@[simp] theorem latchWake_free (n : Nat) (s : State) : (latchWake n s).free = s.free := by
  simp only [latchWake]; split <;> simp
@[simp] theorem latchWake_host (n : Nat) (s : State) : (latchWake n s).host = s.host := by
  simp only [latchWake]; split <;> simp
@[simp] theorem latchWake_recorder (n : Nat) (s : State) : (latchWake n s).recorder = s.recorder := by
  simp only [latchWake]; split <;> simp
@[simp] theorem latchWake_mgmt (n : Nat) (s : State) : (latchWake n s).mgmt = s.mgmt := by
  simp only [latchWake]; split <;> simp
@[simp] theorem latchWake_sec (n : Nat) (s : State) : (latchWake n s).sec = s.sec := by
  simp only [latchWake]; split <;> simp
@[simp] theorem latchWake_time (n : Nat) (s : State) : (latchWake n s).time = s.time := by
  simp only [latchWake]; split <;> simp
@[simp] theorem latchWake_rtc (n : Nat) (s : State) : (latchWake n s).rtc = s.rtc := by
  simp only [latchWake]; split <;> simp
@[simp] theorem latchWake_model (n : Nat) (s : State) : (latchWake n s).model = s.model := by
  simp only [latchWake]; split <;> simp
@[simp] theorem latchWake_ox (n : Nat) (s : State) : (latchWake n s).ox = s.ox := by
  simp only [latchWake]; split <;> simp
@[simp] theorem latchWake_est (n : Nat) (s : State) : (latchWake n s).est = s.est := by
  simp only [latchWake]; split <;> simp
@[simp] theorem latchWake_dsp (n : Nat) (s : State) : (latchWake n s).dsp = s.dsp := by
  simp only [latchWake]; split <;> simp
@[simp] theorem latchWake_logic (n : Nat) (s : State) : (latchWake n s).logic = s.logic := by
  simp only [latchWake]; split <;> simp
@[simp] theorem latchWake_loops (n : Nat) (s : State) : (latchWake n s).loops = s.loops := by
  simp only [latchWake]; split <;> simp
@[simp] theorem latchWake_axes (n : Nat) (s : State) : (latchWake n s).axes = s.axes := by
  simp only [latchWake]; split <;> simp
@[simp] theorem latchWake_enc (n : Nat) (s : State) : (latchWake n s).enc = s.enc := by
  simp only [latchWake]; split <;> simp
@[simp] theorem latchWake_can (n : Nat) (s : State) : (latchWake n s).can = s.can := by
  simp only [latchWake]; split <;> simp
@[simp] theorem latchWake_adc (n : Nat) (s : State) : (latchWake n s).adc = s.adc := by
  simp only [latchWake]; split <;> simp
@[simp] theorem latchWake_meter (n : Nat) (s : State) : (latchWake n s).meter = s.meter := by
  simp only [latchWake]; split <;> simp
@[simp] theorem latchWake_snapWait (n : Nat) (s : State) : (latchWake n s).snapWait = s.snapWait := by
  simp only [latchWake]; split <;> simp
@[simp] theorem latchWake_net (n : Nat) (s : State) : (latchWake n s).net = s.net := by
  simp only [latchWake]; split <;> simp
@[simp] theorem latchWake_pair (n : Nat) (s : State) : (latchWake n s).pair = s.pair := by
  simp only [latchWake]; split <;> simp
@[simp] theorem latchWake_disp (n : Nat) (s : State) : (latchWake n s).disp = s.disp := by
  simp only [latchWake]; split <;> simp
@[simp] theorem latchWake_pins (n : Nat) (s : State) : (latchWake n s).pins = s.pins := by
  simp only [latchWake]; split <;> simp

end Sys2Proof.Machine
end

