-- ==== Sys2Proof/Laws/Ops.lean ====
section
/-! SUPPORT. What the shared operations can do, once for each: setting a source, raising an event, the events of one cycle,
ringing and answering. -/

namespace Sys2Proof.Machine

/-- The message of a vector changes only the pending-bit array and what was sent (R131). -/
theorem msixDue_frame (v : Nat) (h : HostSt) :
    msixDue v h = { h with sent := (msixDue v h).sent, pba := (msixDue v h).pba } := by
  unfold msixDue; repeat' split
  all_goals rfl

/-- Setting a source sets its EVT_STATUS bit and may send its vector's message; nothing else of the host interface changes
(R130, R131). -/
theorem setSource_frame (n : Nat) (h : HostSt) :
    setSource n h = { h with
      evtStatus := if n < 128 then h.evtStatus ||| (1#128 <<< n) else h.evtStatus
      sent := (setSource n h).sent, pba := (setSource n h).pba } := by
  by_cases hn : n < 128
  · simp only [setSource, hn, if_true]
    split
    · rw [msixDue_frame]
    · rfl
  · simp [setSource, hn]

theorem setSource_evtStatus (n : Nat) (h : HostSt) (hn : n < 128) : (setSource n h).evtStatus = h.evtStatus ||| (1#128 <<< n) := by
  rw [setSource_frame, if_pos hn]

/-- The bit of the source is set afterwards, and every bit that was set stays set (R130). -/
theorem setSource_bit (n : Nat) (h : HostSt) (hn : n < 128) : (setSource n h).evtStatus.getLsbD n = true := by
  simp [setSource_evtStatus n h hn, hn]

theorem setSource_keeps (n k : Nat) (h : HostSt) (hk : h.evtStatus.getLsbD k = true) : (setSource n h).evtStatus.getLsbD k = true := by
  by_cases hn : n < 128
  · simp [setSource_evtStatus n h hn, hk]
  · simpa [setSource, hn] using hk

@[simp] theorem setSource_hostif (n : Nat) (h : HostSt) : (setSource n h).hostif = h.hostif := by rw [setSource_frame]
@[simp] theorem setSource_ready (n : Nat) (h : HostSt) : (setSource n h).ready = h.ready := by rw [setSource_frame]
@[simp] theorem setSource_minimal (n : Nat) (h : HostSt) : (setSource n h).minimal = h.minimal := by rw [setSource_frame]
@[simp] theorem setSource_sessionRequired (n : Nat) (h : HostSt) : (setSource n h).sessionRequired = h.sessionRequired := by rw [setSource_frame]
@[simp] theorem setSource_malorVer (n : Nat) (h : HostSt) : (setSource n h).malorVer = h.malorVer := by rw [setSource_frame]
@[simp] theorem setSource_modelSig (n : Nat) (h : HostSt) : (setSource n h).modelSig = h.modelSig := by rw [setSource_frame]
@[simp] theorem setSource_owner (n : Nat) (h : HostSt) : (setSource n h).owner = h.owner := by rw [setSource_frame]
@[simp] theorem setSource_done (n : Nat) (h : HostSt) : (setSource n h).done = h.done := by rw [setSource_frame]
@[simp] theorem setSource_dropCnt (n : Nat) (h : HostSt) : (setSource n h).dropCnt = h.dropCnt := by rw [setSource_frame]
@[simp] theorem setSource_ignoredCnt (n : Nat) (h : HostSt) : (setSource n h).ignoredCnt = h.ignoredCnt := by rw [setSource_frame]
@[simp] theorem setSource_mbox (n : Nat) (h : HostSt) : (setSource n h).mbox = h.mbox := by rw [setSource_frame]
@[simp] theorem setSource_stored (n : Nat) (h : HostSt) : (setSource n h).stored = h.stored := by rw [setSource_frame]
@[simp] theorem setSource_evtMask (n : Nat) (h : HostSt) : (setSource n h).evtMask = h.evtMask := by rw [setSource_frame]
@[simp] theorem setSource_pinSel (n : Nat) (h : HostSt) : (setSource n h).pinSel = h.pinSel := by rw [setSource_frame]
@[simp] theorem setSource_pinsEn (n : Nat) (h : HostSt) : (setSource n h).pinsEn = h.pinsEn := by rw [setSource_frame]
@[simp] theorem setSource_resEst (n : Nat) (h : HostSt) : (setSource n h).resEst = h.resEst := by rw [setSource_frame]
@[simp] theorem setSource_resDsp (n : Nat) (h : HostSt) : (setSource n h).resDsp = h.resDsp := by rw [setSource_frame]
@[simp] theorem setSource_resDiagEst (n : Nat) (h : HostSt) : (setSource n h).resDiagEst = h.resDiagEst := by rw [setSource_frame]
@[simp] theorem setSource_resDiagDsp (n : Nat) (h : HostSt) : (setSource n h).resDiagDsp = h.resDiagDsp := by rw [setSource_frame]
@[simp] theorem setSource_msixEn (n : Nat) (h : HostSt) : (setSource n h).msixEn = h.msixEn := by rw [setSource_frame]
@[simp] theorem setSource_msixFuncMask (n : Nat) (h : HostSt) : (setSource n h).msixFuncMask = h.msixFuncMask := by rw [setSource_frame]
@[simp] theorem setSource_msixVecMask (n : Nat) (h : HostSt) : (setSource n h).msixVecMask = h.msixVecMask := by rw [setSource_frame]
@[simp] theorem setSource_linkUp (n : Nat) (h : HostSt) : (setSource n h).linkUp = h.linkUp := by rw [setSource_frame]
@[simp] theorem setSource_spiFrameErr (n : Nat) (h : HostSt) : (setSource n h).spiFrameErr = h.spiFrameErr := by rw [setSource_frame]
@[simp] theorem setSource_params (n : Nat) (h : HostSt) : (setSource n h).params = h.params := by rw [setSource_frame]
@[simp] theorem setSource_tables (n : Nat) (h : HostSt) : (setSource n h).tables = h.tables := by rw [setSource_frame]
@[simp] theorem setSource_uncommitted (n : Nat) (h : HostSt) : (setSource n h).uncommitted = h.uncommitted := by rw [setSource_frame]
@[simp] theorem setSource_retry (n : Nat) (h : HostSt) : (setSource n h).retry = h.retry := by rw [setSource_frame]
@[simp] theorem setSource_msixTbl (n : Nat) (h : HostSt) : (setSource n h).msixTbl = h.msixTbl := by rw [setSource_frame]
@[simp] theorem setSource_pcie (n : Nat) (h : HostSt) : (setSource n h).pcie = h.pcie := by rw [setSource_frame]
@[simp] theorem setSource_tabUncommitted (n : Nat) (h : HostSt) : (setSource n h).tabUncommitted = h.tabUncommitted := by rw [setSource_frame]
@[simp] theorem setSource_rung (n : Nat) (h : HostSt) : (setSource n h).rung = h.rung := by rw [setSource_frame]
@[simp] theorem setSource_waiting (n : Nat) (h : HostSt) : (setSource n h).waiting = h.waiting := by rw [setSource_frame]
@[simp] theorem setSource_units (n : Nat) (h : HostSt) : (setSource n h).units = h.units := by rw [setSource_frame]

/-- Raising an event, in the states in which the record writer runs and otherwise (R544). -/
theorem raiseBy_runs (rom : Bool) (c k p q r : Nat) (s : State) (h : writerRuns s = true) :
    raiseBy rom c k p q r s =
      { s with host := setSource k s.host, recorder := writeRec rom c k p q r s.time.ont s.recorder } := by
  simp [raiseBy, h]

theorem raiseBy_stopped (rom : Bool) (c k p q r : Nat) (s : State) (h : writerRuns s = false) : raiseBy rom c k p q r s = s := by
  simp [raiseBy, h]

@[simp] theorem raiseBy_host_hostif (rom : Bool) (c k p q r : Nat) (s : State) : (raiseBy rom c k p q r s).host.hostif = s.host.hostif := by
  unfold raiseBy; split <;> simp
@[simp] theorem raiseBy_host_ready (rom : Bool) (c k p q r : Nat) (s : State) : (raiseBy rom c k p q r s).host.ready = s.host.ready := by
  unfold raiseBy; split <;> simp
@[simp] theorem raiseBy_host_minimal (rom : Bool) (c k p q r : Nat) (s : State) : (raiseBy rom c k p q r s).host.minimal = s.host.minimal := by
  unfold raiseBy; split <;> simp
@[simp] theorem raiseBy_host_sessionRequired (rom : Bool) (c k p q r : Nat) (s : State) : (raiseBy rom c k p q r s).host.sessionRequired = s.host.sessionRequired := by
  unfold raiseBy; split <;> simp
@[simp] theorem raiseBy_host_malorVer (rom : Bool) (c k p q r : Nat) (s : State) : (raiseBy rom c k p q r s).host.malorVer = s.host.malorVer := by
  unfold raiseBy; split <;> simp
@[simp] theorem raiseBy_host_modelSig (rom : Bool) (c k p q r : Nat) (s : State) : (raiseBy rom c k p q r s).host.modelSig = s.host.modelSig := by
  unfold raiseBy; split <;> simp
@[simp] theorem raiseBy_host_owner (rom : Bool) (c k p q r : Nat) (s : State) : (raiseBy rom c k p q r s).host.owner = s.host.owner := by
  unfold raiseBy; split <;> simp
@[simp] theorem raiseBy_host_done (rom : Bool) (c k p q r : Nat) (s : State) : (raiseBy rom c k p q r s).host.done = s.host.done := by
  unfold raiseBy; split <;> simp
@[simp] theorem raiseBy_host_dropCnt (rom : Bool) (c k p q r : Nat) (s : State) : (raiseBy rom c k p q r s).host.dropCnt = s.host.dropCnt := by
  unfold raiseBy; split <;> simp
@[simp] theorem raiseBy_host_ignoredCnt (rom : Bool) (c k p q r : Nat) (s : State) : (raiseBy rom c k p q r s).host.ignoredCnt = s.host.ignoredCnt := by
  unfold raiseBy; split <;> simp
@[simp] theorem raiseBy_host_mbox (rom : Bool) (c k p q r : Nat) (s : State) : (raiseBy rom c k p q r s).host.mbox = s.host.mbox := by
  unfold raiseBy; split <;> simp
@[simp] theorem raiseBy_host_stored (rom : Bool) (c k p q r : Nat) (s : State) : (raiseBy rom c k p q r s).host.stored = s.host.stored := by
  unfold raiseBy; split <;> simp
@[simp] theorem raiseBy_host_evtMask (rom : Bool) (c k p q r : Nat) (s : State) : (raiseBy rom c k p q r s).host.evtMask = s.host.evtMask := by
  unfold raiseBy; split <;> simp
@[simp] theorem raiseBy_host_pinSel (rom : Bool) (c k p q r : Nat) (s : State) : (raiseBy rom c k p q r s).host.pinSel = s.host.pinSel := by
  unfold raiseBy; split <;> simp
@[simp] theorem raiseBy_host_pinsEn (rom : Bool) (c k p q r : Nat) (s : State) : (raiseBy rom c k p q r s).host.pinsEn = s.host.pinsEn := by
  unfold raiseBy; split <;> simp
@[simp] theorem raiseBy_host_resEst (rom : Bool) (c k p q r : Nat) (s : State) : (raiseBy rom c k p q r s).host.resEst = s.host.resEst := by
  unfold raiseBy; split <;> simp
@[simp] theorem raiseBy_host_resDsp (rom : Bool) (c k p q r : Nat) (s : State) : (raiseBy rom c k p q r s).host.resDsp = s.host.resDsp := by
  unfold raiseBy; split <;> simp
@[simp] theorem raiseBy_host_resDiagEst (rom : Bool) (c k p q r : Nat) (s : State) : (raiseBy rom c k p q r s).host.resDiagEst = s.host.resDiagEst := by
  unfold raiseBy; split <;> simp
@[simp] theorem raiseBy_host_resDiagDsp (rom : Bool) (c k p q r : Nat) (s : State) : (raiseBy rom c k p q r s).host.resDiagDsp = s.host.resDiagDsp := by
  unfold raiseBy; split <;> simp
@[simp] theorem raiseBy_host_msixEn (rom : Bool) (c k p q r : Nat) (s : State) : (raiseBy rom c k p q r s).host.msixEn = s.host.msixEn := by
  unfold raiseBy; split <;> simp
@[simp] theorem raiseBy_host_msixFuncMask (rom : Bool) (c k p q r : Nat) (s : State) : (raiseBy rom c k p q r s).host.msixFuncMask = s.host.msixFuncMask := by
  unfold raiseBy; split <;> simp
@[simp] theorem raiseBy_host_msixVecMask (rom : Bool) (c k p q r : Nat) (s : State) : (raiseBy rom c k p q r s).host.msixVecMask = s.host.msixVecMask := by
  unfold raiseBy; split <;> simp
@[simp] theorem raiseBy_host_linkUp (rom : Bool) (c k p q r : Nat) (s : State) : (raiseBy rom c k p q r s).host.linkUp = s.host.linkUp := by
  unfold raiseBy; split <;> simp
@[simp] theorem raiseBy_host_spiFrameErr (rom : Bool) (c k p q r : Nat) (s : State) : (raiseBy rom c k p q r s).host.spiFrameErr = s.host.spiFrameErr := by
  unfold raiseBy; split <;> simp
@[simp] theorem raiseBy_host_params (rom : Bool) (c k p q r : Nat) (s : State) : (raiseBy rom c k p q r s).host.params = s.host.params := by
  unfold raiseBy; split <;> simp
@[simp] theorem raiseBy_host_tables (rom : Bool) (c k p q r : Nat) (s : State) : (raiseBy rom c k p q r s).host.tables = s.host.tables := by
  unfold raiseBy; split <;> simp
@[simp] theorem raiseBy_host_uncommitted (rom : Bool) (c k p q r : Nat) (s : State) : (raiseBy rom c k p q r s).host.uncommitted = s.host.uncommitted := by
  unfold raiseBy; split <;> simp
@[simp] theorem raiseBy_host_retry (rom : Bool) (c k p q r : Nat) (s : State) : (raiseBy rom c k p q r s).host.retry = s.host.retry := by
  unfold raiseBy; split <;> simp
@[simp] theorem raiseBy_host_msixTbl (rom : Bool) (c k p q r : Nat) (s : State) : (raiseBy rom c k p q r s).host.msixTbl = s.host.msixTbl := by
  unfold raiseBy; split <;> simp
@[simp] theorem raiseBy_host_pcie (rom : Bool) (c k p q r : Nat) (s : State) : (raiseBy rom c k p q r s).host.pcie = s.host.pcie := by
  unfold raiseBy; split <;> simp
@[simp] theorem raiseBy_host_tabUncommitted (rom : Bool) (c k p q r : Nat) (s : State) : (raiseBy rom c k p q r s).host.tabUncommitted = s.host.tabUncommitted := by
  unfold raiseBy; split <;> simp
@[simp] theorem raiseBy_host_rung (rom : Bool) (c k p q r : Nat) (s : State) : (raiseBy rom c k p q r s).host.rung = s.host.rung := by
  unfold raiseBy; split <;> simp
@[simp] theorem raiseBy_host_waiting (rom : Bool) (c k p q r : Nat) (s : State) : (raiseBy rom c k p q r s).host.waiting = s.host.waiting := by
  unfold raiseBy; split <;> simp
@[simp] theorem raiseBy_host_units (rom : Bool) (c k p q r : Nat) (s : State) : (raiseBy rom c k p q r s).host.units = s.host.units := by
  unfold raiseBy; split <;> simp
@[simp] theorem raise_host_hostif (c k p q r : Nat) (s : State) : (raise c k p q r s).host.hostif = s.host.hostif := raiseBy_host_hostif _ _ _ _ _ _ _
@[simp] theorem raise_host_ready (c k p q r : Nat) (s : State) : (raise c k p q r s).host.ready = s.host.ready := raiseBy_host_ready _ _ _ _ _ _ _
@[simp] theorem raise_host_minimal (c k p q r : Nat) (s : State) : (raise c k p q r s).host.minimal = s.host.minimal := raiseBy_host_minimal _ _ _ _ _ _ _
@[simp] theorem raise_host_sessionRequired (c k p q r : Nat) (s : State) : (raise c k p q r s).host.sessionRequired = s.host.sessionRequired := raiseBy_host_sessionRequired _ _ _ _ _ _ _
@[simp] theorem raise_host_malorVer (c k p q r : Nat) (s : State) : (raise c k p q r s).host.malorVer = s.host.malorVer := raiseBy_host_malorVer _ _ _ _ _ _ _
@[simp] theorem raise_host_modelSig (c k p q r : Nat) (s : State) : (raise c k p q r s).host.modelSig = s.host.modelSig := raiseBy_host_modelSig _ _ _ _ _ _ _
@[simp] theorem raise_host_owner (c k p q r : Nat) (s : State) : (raise c k p q r s).host.owner = s.host.owner := raiseBy_host_owner _ _ _ _ _ _ _
@[simp] theorem raise_host_done (c k p q r : Nat) (s : State) : (raise c k p q r s).host.done = s.host.done := raiseBy_host_done _ _ _ _ _ _ _
@[simp] theorem raise_host_dropCnt (c k p q r : Nat) (s : State) : (raise c k p q r s).host.dropCnt = s.host.dropCnt := raiseBy_host_dropCnt _ _ _ _ _ _ _
@[simp] theorem raise_host_ignoredCnt (c k p q r : Nat) (s : State) : (raise c k p q r s).host.ignoredCnt = s.host.ignoredCnt := raiseBy_host_ignoredCnt _ _ _ _ _ _ _
@[simp] theorem raise_host_mbox (c k p q r : Nat) (s : State) : (raise c k p q r s).host.mbox = s.host.mbox := raiseBy_host_mbox _ _ _ _ _ _ _
@[simp] theorem raise_host_stored (c k p q r : Nat) (s : State) : (raise c k p q r s).host.stored = s.host.stored := raiseBy_host_stored _ _ _ _ _ _ _
@[simp] theorem raise_host_evtMask (c k p q r : Nat) (s : State) : (raise c k p q r s).host.evtMask = s.host.evtMask := raiseBy_host_evtMask _ _ _ _ _ _ _
@[simp] theorem raise_host_pinSel (c k p q r : Nat) (s : State) : (raise c k p q r s).host.pinSel = s.host.pinSel := raiseBy_host_pinSel _ _ _ _ _ _ _
@[simp] theorem raise_host_pinsEn (c k p q r : Nat) (s : State) : (raise c k p q r s).host.pinsEn = s.host.pinsEn := raiseBy_host_pinsEn _ _ _ _ _ _ _
@[simp] theorem raise_host_resEst (c k p q r : Nat) (s : State) : (raise c k p q r s).host.resEst = s.host.resEst := raiseBy_host_resEst _ _ _ _ _ _ _
@[simp] theorem raise_host_resDsp (c k p q r : Nat) (s : State) : (raise c k p q r s).host.resDsp = s.host.resDsp := raiseBy_host_resDsp _ _ _ _ _ _ _
@[simp] theorem raise_host_resDiagEst (c k p q r : Nat) (s : State) : (raise c k p q r s).host.resDiagEst = s.host.resDiagEst := raiseBy_host_resDiagEst _ _ _ _ _ _ _
@[simp] theorem raise_host_resDiagDsp (c k p q r : Nat) (s : State) : (raise c k p q r s).host.resDiagDsp = s.host.resDiagDsp := raiseBy_host_resDiagDsp _ _ _ _ _ _ _
@[simp] theorem raise_host_msixEn (c k p q r : Nat) (s : State) : (raise c k p q r s).host.msixEn = s.host.msixEn := raiseBy_host_msixEn _ _ _ _ _ _ _
@[simp] theorem raise_host_msixFuncMask (c k p q r : Nat) (s : State) : (raise c k p q r s).host.msixFuncMask = s.host.msixFuncMask := raiseBy_host_msixFuncMask _ _ _ _ _ _ _
@[simp] theorem raise_host_msixVecMask (c k p q r : Nat) (s : State) : (raise c k p q r s).host.msixVecMask = s.host.msixVecMask := raiseBy_host_msixVecMask _ _ _ _ _ _ _
@[simp] theorem raise_host_linkUp (c k p q r : Nat) (s : State) : (raise c k p q r s).host.linkUp = s.host.linkUp := raiseBy_host_linkUp _ _ _ _ _ _ _
@[simp] theorem raise_host_spiFrameErr (c k p q r : Nat) (s : State) : (raise c k p q r s).host.spiFrameErr = s.host.spiFrameErr := raiseBy_host_spiFrameErr _ _ _ _ _ _ _
@[simp] theorem raise_host_params (c k p q r : Nat) (s : State) : (raise c k p q r s).host.params = s.host.params := raiseBy_host_params _ _ _ _ _ _ _
@[simp] theorem raise_host_tables (c k p q r : Nat) (s : State) : (raise c k p q r s).host.tables = s.host.tables := raiseBy_host_tables _ _ _ _ _ _ _
@[simp] theorem raise_host_uncommitted (c k p q r : Nat) (s : State) : (raise c k p q r s).host.uncommitted = s.host.uncommitted := raiseBy_host_uncommitted _ _ _ _ _ _ _
@[simp] theorem raise_host_retry (c k p q r : Nat) (s : State) : (raise c k p q r s).host.retry = s.host.retry := raiseBy_host_retry _ _ _ _ _ _ _
@[simp] theorem raise_host_msixTbl (c k p q r : Nat) (s : State) : (raise c k p q r s).host.msixTbl = s.host.msixTbl := raiseBy_host_msixTbl _ _ _ _ _ _ _
@[simp] theorem raise_host_pcie (c k p q r : Nat) (s : State) : (raise c k p q r s).host.pcie = s.host.pcie := raiseBy_host_pcie _ _ _ _ _ _ _
@[simp] theorem raise_host_tabUncommitted (c k p q r : Nat) (s : State) : (raise c k p q r s).host.tabUncommitted = s.host.tabUncommitted := raiseBy_host_tabUncommitted _ _ _ _ _ _ _
@[simp] theorem raise_host_rung (c k p q r : Nat) (s : State) : (raise c k p q r s).host.rung = s.host.rung := raiseBy_host_rung _ _ _ _ _ _ _
@[simp] theorem raise_host_waiting (c k p q r : Nat) (s : State) : (raise c k p q r s).host.waiting = s.host.waiting := raiseBy_host_waiting _ _ _ _ _ _ _
@[simp] theorem raise_host_units (c k p q r : Nat) (s : State) : (raise c k p q r s).host.units = s.host.units := raiseBy_host_units _ _ _ _ _ _ _

/-- The writer changes the buffer, its number and the overflow counters only (R544, R545). -/
theorem writeRec_frame (rom : Bool) (c k p q d t : Nat) (r : RecorderSt) :
    writeRec rom c k p q d t r = { r with
      buf := (writeRec rom c k p q d t r).buf, seqAon := (writeRec rom c k p q d t r).seqAon
      ovfCnt := (writeRec rom c k p q d t r).ovfCnt, ovfOpen := (writeRec rom c k p q d t r).ovfOpen } := by
  unfold writeRec; split <;> rfl

/-- With a free slot the record takes the end of the buffer and the next number (R544). -/
theorem writeRec_room (rom : Bool) (c k p q d t : Nat) (r : RecorderSt) (h : r.buf.length < 2048) :
    writeRec rom c k p q d t r = { r with
      buf := r.buf ++ [{ code := c, flags := b2n (pinnedCode c) + 2 * b2n r.ramOnly + 4 * b2n rom, source := k, seq := r.seqAon
                         ont := t, p1 := p % 2 ^ 32, p2 := q % 2 ^ 32, p3 := d % 2 ^ 32 }]
      seqAon := (r.seqAon + 1) % 2 ^ 64 } := by
  have e : ¬ 2048 ≤ r.buf.length := by omega
  simp [writeRec, e]

/-- The buffer stays within its 2,048 slots (R545). -/
theorem writeRec_length (rom : Bool) (c k p q d t : Nat) (r : RecorderSt) (h : r.buf.length ≤ 2048) :
    (writeRec rom c k p q d t r).buf.length ≤ 2048 := by
  unfold writeRec
  split
  · exact h
  · by_cases e : 2048 ≤ r.buf.length
    · simp [e]; omega
    · simp [e]; omega

theorem raiseBy_hostRecOk (rom : Bool) (c k p q r : Nat) (s : State) (h : HostRecOk s) : HostRecOk (raiseBy rom c k p q r s) := by
  refine ⟨?_, by simpa using h.2⟩
  unfold raiseBy
  split
  · exact writeRec_length _ _ _ _ _ _ _ _ h.1
  · exact h.1

theorem raise_hostRecOk (c k p q r : Nat) (s : State) (h : HostRecOk s) : HostRecOk (raise c k p q r s) := raiseBy_hostRecOk _ _ _ _ _ _ _ h

@[simp] theorem length_insertRec (x : Rec) (l : List Rec) : (insertRec x l).length = l.length + 1 := by
  induction l with
  | nil => rfl
  | cons y l ih => unfold insertRec; split <;> simp [ih]

theorem length_insertAll (l a : List Rec) : (l.foldl (fun a x => insertRec x a) a).length = a.length + l.length := by
  induction l generalizing a with
  | nil => rfl
  | cons x l ih => simp [ih]; omega

@[simp] theorem length_renumber (b : Nat) (l : List Rec) : (renumber b l).length = l.length := by simp [renumber, upTo]

/-- Numbering the events of one cycle by SOURCE keeps how many there are (R544). -/
@[simp] theorem length_oneCycle (f : State → State) (s : State) : (oneCycle f s).recorder.buf.length = (f s).recorder.buf.length := by
  simp [oneCycle, length_insertAll]

/-- It changes nothing but the order and numbers of those records. -/
theorem oneCycle_frame (f : State → State) (s : State) :
    oneCycle f s = { f s with recorder := { (f s).recorder with buf := (oneCycle f s).recorder.buf } } := rfl

theorem oneCycle_hostRecOk (f : State → State) (s : State) (h : HostRecOk (f s)) : HostRecOk (oneCycle f s) :=
  ⟨by simpa using h.1, h.2⟩

@[simp] theorem oneCycle_pending (f : State → State) (s : State) : (oneCycle f s).pending = (f s).pending := rfl
@[simp] theorem oneCycle_free (f : State → State) (s : State) : (oneCycle f s).free = (f s).free := rfl
@[simp] theorem oneCycle_host (f : State → State) (s : State) : (oneCycle f s).host = (f s).host := rfl
@[simp] theorem oneCycle_power (f : State → State) (s : State) : (oneCycle f s).power = (f s).power := rfl
@[simp] theorem oneCycle_mgmt (f : State → State) (s : State) : (oneCycle f s).mgmt = (f s).mgmt := rfl
@[simp] theorem oneCycle_sec (f : State → State) (s : State) : (oneCycle f s).sec = (f s).sec := rfl
@[simp] theorem oneCycle_time (f : State → State) (s : State) : (oneCycle f s).time = (f s).time := rfl
@[simp] theorem oneCycle_rtc (f : State → State) (s : State) : (oneCycle f s).rtc = (f s).rtc := rfl
@[simp] theorem oneCycle_model (f : State → State) (s : State) : (oneCycle f s).model = (f s).model := rfl
@[simp] theorem oneCycle_ox (f : State → State) (s : State) : (oneCycle f s).ox = (f s).ox := rfl
@[simp] theorem oneCycle_est (f : State → State) (s : State) : (oneCycle f s).est = (f s).est := rfl
@[simp] theorem oneCycle_dsp (f : State → State) (s : State) : (oneCycle f s).dsp = (f s).dsp := rfl
@[simp] theorem oneCycle_logic (f : State → State) (s : State) : (oneCycle f s).logic = (f s).logic := rfl
@[simp] theorem oneCycle_loops (f : State → State) (s : State) : (oneCycle f s).loops = (f s).loops := rfl
@[simp] theorem oneCycle_axes (f : State → State) (s : State) : (oneCycle f s).axes = (f s).axes := rfl
@[simp] theorem oneCycle_enc (f : State → State) (s : State) : (oneCycle f s).enc = (f s).enc := rfl
@[simp] theorem oneCycle_can (f : State → State) (s : State) : (oneCycle f s).can = (f s).can := rfl
@[simp] theorem oneCycle_adc (f : State → State) (s : State) : (oneCycle f s).adc = (f s).adc := rfl
@[simp] theorem oneCycle_meter (f : State → State) (s : State) : (oneCycle f s).meter = (f s).meter := rfl
@[simp] theorem oneCycle_snapWait (f : State → State) (s : State) : (oneCycle f s).snapWait = (f s).snapWait := rfl
@[simp] theorem oneCycle_net (f : State → State) (s : State) : (oneCycle f s).net = (f s).net := rfl
@[simp] theorem oneCycle_pair (f : State → State) (s : State) : (oneCycle f s).pair = (f s).pair := rfl
@[simp] theorem oneCycle_disp (f : State → State) (s : State) : (oneCycle f s).disp = (f s).disp := rfl
@[simp] theorem oneCycle_pins (f : State → State) (s : State) : (oneCycle f s).pins = (f s).pins := rfl

@[simp] theorem deliver_pending (b : Nat) (p : Bytes) (s : State) : (deliver b p s).pending = s.pending := rfl
@[simp] theorem deliver_free (b : Nat) (p : Bytes) (s : State) : (deliver b p s).free = s.free := rfl
@[simp] theorem deliver_power (b : Nat) (p : Bytes) (s : State) : (deliver b p s).power = s.power := rfl
@[simp] theorem deliver_mgmt (b : Nat) (p : Bytes) (s : State) : (deliver b p s).mgmt = s.mgmt := rfl
@[simp] theorem deliver_sec (b : Nat) (p : Bytes) (s : State) : (deliver b p s).sec = s.sec := rfl
@[simp] theorem deliver_time (b : Nat) (p : Bytes) (s : State) : (deliver b p s).time = s.time := rfl
@[simp] theorem deliver_rtc (b : Nat) (p : Bytes) (s : State) : (deliver b p s).rtc = s.rtc := rfl
@[simp] theorem deliver_model (b : Nat) (p : Bytes) (s : State) : (deliver b p s).model = s.model := rfl
@[simp] theorem deliver_ox (b : Nat) (p : Bytes) (s : State) : (deliver b p s).ox = s.ox := rfl
@[simp] theorem deliver_est (b : Nat) (p : Bytes) (s : State) : (deliver b p s).est = s.est := rfl
@[simp] theorem deliver_dsp (b : Nat) (p : Bytes) (s : State) : (deliver b p s).dsp = s.dsp := rfl
@[simp] theorem deliver_logic (b : Nat) (p : Bytes) (s : State) : (deliver b p s).logic = s.logic := rfl
@[simp] theorem deliver_loops (b : Nat) (p : Bytes) (s : State) : (deliver b p s).loops = s.loops := rfl
@[simp] theorem deliver_axes (b : Nat) (p : Bytes) (s : State) : (deliver b p s).axes = s.axes := rfl
@[simp] theorem deliver_enc (b : Nat) (p : Bytes) (s : State) : (deliver b p s).enc = s.enc := rfl
@[simp] theorem deliver_can (b : Nat) (p : Bytes) (s : State) : (deliver b p s).can = s.can := rfl
@[simp] theorem deliver_adc (b : Nat) (p : Bytes) (s : State) : (deliver b p s).adc = s.adc := rfl
@[simp] theorem deliver_meter (b : Nat) (p : Bytes) (s : State) : (deliver b p s).meter = s.meter := rfl
@[simp] theorem deliver_snapWait (b : Nat) (p : Bytes) (s : State) : (deliver b p s).snapWait = s.snapWait := rfl
@[simp] theorem deliver_net (b : Nat) (p : Bytes) (s : State) : (deliver b p s).net = s.net := rfl
@[simp] theorem deliver_pair (b : Nat) (p : Bytes) (s : State) : (deliver b p s).pair = s.pair := rfl
@[simp] theorem deliver_disp (b : Nat) (p : Bytes) (s : State) : (deliver b p s).disp = s.disp := rfl
@[simp] theorem deliver_pins (b : Nat) (p : Bytes) (s : State) : (deliver b p s).pins = s.pins := rfl
@[simp] theorem deliver_recorder (b : Nat) (p : Bytes) (s : State) : (deliver b p s).recorder = s.recorder := rfl

@[simp] theorem respond_pending (k : State) (c : Nat) (m : Mail) (a : Answer) : (respond k c m a).pending = a.st.pending := rfl
@[simp] theorem respond_free (k : State) (c : Nat) (m : Mail) (a : Answer) : (respond k c m a).free = a.st.free := rfl
@[simp] theorem respond_power (k : State) (c : Nat) (m : Mail) (a : Answer) : (respond k c m a).power = a.st.power := rfl
@[simp] theorem respond_mgmt (k : State) (c : Nat) (m : Mail) (a : Answer) : (respond k c m a).mgmt = a.st.mgmt := rfl
@[simp] theorem respond_sec (k : State) (c : Nat) (m : Mail) (a : Answer) : (respond k c m a).sec = a.st.sec := rfl
@[simp] theorem respond_time (k : State) (c : Nat) (m : Mail) (a : Answer) : (respond k c m a).time = a.st.time := rfl
@[simp] theorem respond_rtc (k : State) (c : Nat) (m : Mail) (a : Answer) : (respond k c m a).rtc = a.st.rtc := rfl
@[simp] theorem respond_model (k : State) (c : Nat) (m : Mail) (a : Answer) : (respond k c m a).model = a.st.model := rfl
@[simp] theorem respond_ox (k : State) (c : Nat) (m : Mail) (a : Answer) : (respond k c m a).ox = a.st.ox := rfl
@[simp] theorem respond_est (k : State) (c : Nat) (m : Mail) (a : Answer) : (respond k c m a).est = a.st.est := rfl
@[simp] theorem respond_dsp (k : State) (c : Nat) (m : Mail) (a : Answer) : (respond k c m a).dsp = a.st.dsp := rfl
@[simp] theorem respond_logic (k : State) (c : Nat) (m : Mail) (a : Answer) : (respond k c m a).logic = a.st.logic := rfl
@[simp] theorem respond_loops (k : State) (c : Nat) (m : Mail) (a : Answer) : (respond k c m a).loops = a.st.loops := rfl
@[simp] theorem respond_axes (k : State) (c : Nat) (m : Mail) (a : Answer) : (respond k c m a).axes = a.st.axes := rfl
@[simp] theorem respond_enc (k : State) (c : Nat) (m : Mail) (a : Answer) : (respond k c m a).enc = a.st.enc := rfl
@[simp] theorem respond_can (k : State) (c : Nat) (m : Mail) (a : Answer) : (respond k c m a).can = a.st.can := rfl
@[simp] theorem respond_adc (k : State) (c : Nat) (m : Mail) (a : Answer) : (respond k c m a).adc = a.st.adc := rfl
@[simp] theorem respond_meter (k : State) (c : Nat) (m : Mail) (a : Answer) : (respond k c m a).meter = a.st.meter := rfl
@[simp] theorem respond_snapWait (k : State) (c : Nat) (m : Mail) (a : Answer) : (respond k c m a).snapWait = a.st.snapWait := rfl
@[simp] theorem respond_net (k : State) (c : Nat) (m : Mail) (a : Answer) : (respond k c m a).net = a.st.net := rfl
@[simp] theorem respond_pair (k : State) (c : Nat) (m : Mail) (a : Answer) : (respond k c m a).pair = a.st.pair := rfl
@[simp] theorem respond_disp (k : State) (c : Nat) (m : Mail) (a : Answer) : (respond k c m a).disp = a.st.disp := rfl
@[simp] theorem respond_pins (k : State) (c : Nat) (m : Mail) (a : Answer) : (respond k c m a).pins = a.st.pins := rfl
@[simp] theorem respond_recorder (k : State) (c : Nat) (m : Mail) (a : Answer) : (respond k c m a).recorder = a.st.recorder := rfl

@[simp] theorem deliver_host_hostif (b : Nat) (p : Bytes) (s : State) : (deliver b p s).host.hostif = s.host.hostif := by
  simp only [deliver]; split <;> simp
@[simp] theorem deliver_host_ready (b : Nat) (p : Bytes) (s : State) : (deliver b p s).host.ready = s.host.ready := by
  simp only [deliver]; split <;> simp
@[simp] theorem deliver_host_minimal (b : Nat) (p : Bytes) (s : State) : (deliver b p s).host.minimal = s.host.minimal := by
  simp only [deliver]; split <;> simp
@[simp] theorem deliver_host_sessionRequired (b : Nat) (p : Bytes) (s : State) : (deliver b p s).host.sessionRequired = s.host.sessionRequired := by
  simp only [deliver]; split <;> simp
@[simp] theorem deliver_host_malorVer (b : Nat) (p : Bytes) (s : State) : (deliver b p s).host.malorVer = s.host.malorVer := by
  simp only [deliver]; split <;> simp
@[simp] theorem deliver_host_modelSig (b : Nat) (p : Bytes) (s : State) : (deliver b p s).host.modelSig = s.host.modelSig := by
  simp only [deliver]; split <;> simp
@[simp] theorem deliver_host_dropCnt (b : Nat) (p : Bytes) (s : State) : (deliver b p s).host.dropCnt = s.host.dropCnt := by
  simp only [deliver]; split <;> simp
@[simp] theorem deliver_host_ignoredCnt (b : Nat) (p : Bytes) (s : State) : (deliver b p s).host.ignoredCnt = s.host.ignoredCnt := by
  simp only [deliver]; split <;> simp
@[simp] theorem deliver_host_stored (b : Nat) (p : Bytes) (s : State) : (deliver b p s).host.stored = s.host.stored := by
  simp only [deliver]; split <;> simp
@[simp] theorem deliver_host_evtMask (b : Nat) (p : Bytes) (s : State) : (deliver b p s).host.evtMask = s.host.evtMask := by
  simp only [deliver]; split <;> simp
@[simp] theorem deliver_host_pinSel (b : Nat) (p : Bytes) (s : State) : (deliver b p s).host.pinSel = s.host.pinSel := by
  simp only [deliver]; split <;> simp
@[simp] theorem deliver_host_pinsEn (b : Nat) (p : Bytes) (s : State) : (deliver b p s).host.pinsEn = s.host.pinsEn := by
  simp only [deliver]; split <;> simp
@[simp] theorem deliver_host_resEst (b : Nat) (p : Bytes) (s : State) : (deliver b p s).host.resEst = s.host.resEst := by
  simp only [deliver]; split <;> simp
@[simp] theorem deliver_host_resDsp (b : Nat) (p : Bytes) (s : State) : (deliver b p s).host.resDsp = s.host.resDsp := by
  simp only [deliver]; split <;> simp
@[simp] theorem deliver_host_resDiagEst (b : Nat) (p : Bytes) (s : State) : (deliver b p s).host.resDiagEst = s.host.resDiagEst := by
  simp only [deliver]; split <;> simp
@[simp] theorem deliver_host_resDiagDsp (b : Nat) (p : Bytes) (s : State) : (deliver b p s).host.resDiagDsp = s.host.resDiagDsp := by
  simp only [deliver]; split <;> simp
@[simp] theorem deliver_host_msixEn (b : Nat) (p : Bytes) (s : State) : (deliver b p s).host.msixEn = s.host.msixEn := by
  simp only [deliver]; split <;> simp
@[simp] theorem deliver_host_msixFuncMask (b : Nat) (p : Bytes) (s : State) : (deliver b p s).host.msixFuncMask = s.host.msixFuncMask := by
  simp only [deliver]; split <;> simp
@[simp] theorem deliver_host_msixVecMask (b : Nat) (p : Bytes) (s : State) : (deliver b p s).host.msixVecMask = s.host.msixVecMask := by
  simp only [deliver]; split <;> simp
@[simp] theorem deliver_host_linkUp (b : Nat) (p : Bytes) (s : State) : (deliver b p s).host.linkUp = s.host.linkUp := by
  simp only [deliver]; split <;> simp
@[simp] theorem deliver_host_spiFrameErr (b : Nat) (p : Bytes) (s : State) : (deliver b p s).host.spiFrameErr = s.host.spiFrameErr := by
  simp only [deliver]; split <;> simp
@[simp] theorem deliver_host_params (b : Nat) (p : Bytes) (s : State) : (deliver b p s).host.params = s.host.params := by
  simp only [deliver]; split <;> simp
@[simp] theorem deliver_host_tables (b : Nat) (p : Bytes) (s : State) : (deliver b p s).host.tables = s.host.tables := by
  simp only [deliver]; split <;> simp
@[simp] theorem deliver_host_uncommitted (b : Nat) (p : Bytes) (s : State) : (deliver b p s).host.uncommitted = s.host.uncommitted := by
  simp only [deliver]; split <;> simp
@[simp] theorem deliver_host_retry (b : Nat) (p : Bytes) (s : State) : (deliver b p s).host.retry = s.host.retry := by
  simp only [deliver]; split <;> simp
@[simp] theorem deliver_host_msixTbl (b : Nat) (p : Bytes) (s : State) : (deliver b p s).host.msixTbl = s.host.msixTbl := by
  simp only [deliver]; split <;> simp
@[simp] theorem deliver_host_pcie (b : Nat) (p : Bytes) (s : State) : (deliver b p s).host.pcie = s.host.pcie := by
  simp only [deliver]; split <;> simp
@[simp] theorem deliver_host_tabUncommitted (b : Nat) (p : Bytes) (s : State) : (deliver b p s).host.tabUncommitted = s.host.tabUncommitted := by
  simp only [deliver]; split <;> simp
@[simp] theorem deliver_host_units (b : Nat) (p : Bytes) (s : State) : (deliver b p s).host.units = s.host.units := by
  simp only [deliver]; split <;> simp
@[simp] theorem respond_host_hostif (k : State) (c : Nat) (m : Mail) (a : Answer) : (respond k c m a).host.hostif = a.st.host.hostif := by
  simp [respond]
@[simp] theorem respond_host_ready (k : State) (c : Nat) (m : Mail) (a : Answer) : (respond k c m a).host.ready = a.st.host.ready := by
  simp [respond]
@[simp] theorem respond_host_minimal (k : State) (c : Nat) (m : Mail) (a : Answer) : (respond k c m a).host.minimal = a.st.host.minimal := by
  simp [respond]
@[simp] theorem respond_host_sessionRequired (k : State) (c : Nat) (m : Mail) (a : Answer) : (respond k c m a).host.sessionRequired = a.st.host.sessionRequired := by
  simp [respond]
@[simp] theorem respond_host_malorVer (k : State) (c : Nat) (m : Mail) (a : Answer) : (respond k c m a).host.malorVer = a.st.host.malorVer := by
  simp [respond]
@[simp] theorem respond_host_modelSig (k : State) (c : Nat) (m : Mail) (a : Answer) : (respond k c m a).host.modelSig = a.st.host.modelSig := by
  simp [respond]
@[simp] theorem respond_host_dropCnt (k : State) (c : Nat) (m : Mail) (a : Answer) : (respond k c m a).host.dropCnt = a.st.host.dropCnt := by
  simp [respond]
@[simp] theorem respond_host_ignoredCnt (k : State) (c : Nat) (m : Mail) (a : Answer) : (respond k c m a).host.ignoredCnt = a.st.host.ignoredCnt := by
  simp [respond]
@[simp] theorem respond_host_evtMask (k : State) (c : Nat) (m : Mail) (a : Answer) : (respond k c m a).host.evtMask = a.st.host.evtMask := by
  simp [respond]
@[simp] theorem respond_host_pinSel (k : State) (c : Nat) (m : Mail) (a : Answer) : (respond k c m a).host.pinSel = a.st.host.pinSel := by
  simp [respond]
@[simp] theorem respond_host_pinsEn (k : State) (c : Nat) (m : Mail) (a : Answer) : (respond k c m a).host.pinsEn = a.st.host.pinsEn := by
  simp [respond]
@[simp] theorem respond_host_resEst (k : State) (c : Nat) (m : Mail) (a : Answer) : (respond k c m a).host.resEst = a.st.host.resEst := by
  simp [respond]
@[simp] theorem respond_host_resDsp (k : State) (c : Nat) (m : Mail) (a : Answer) : (respond k c m a).host.resDsp = a.st.host.resDsp := by
  simp [respond]
@[simp] theorem respond_host_resDiagEst (k : State) (c : Nat) (m : Mail) (a : Answer) : (respond k c m a).host.resDiagEst = a.st.host.resDiagEst := by
  simp [respond]
@[simp] theorem respond_host_resDiagDsp (k : State) (c : Nat) (m : Mail) (a : Answer) : (respond k c m a).host.resDiagDsp = a.st.host.resDiagDsp := by
  simp [respond]
@[simp] theorem respond_host_msixEn (k : State) (c : Nat) (m : Mail) (a : Answer) : (respond k c m a).host.msixEn = a.st.host.msixEn := by
  simp [respond]
@[simp] theorem respond_host_msixFuncMask (k : State) (c : Nat) (m : Mail) (a : Answer) : (respond k c m a).host.msixFuncMask = a.st.host.msixFuncMask := by
  simp [respond]
@[simp] theorem respond_host_msixVecMask (k : State) (c : Nat) (m : Mail) (a : Answer) : (respond k c m a).host.msixVecMask = a.st.host.msixVecMask := by
  simp [respond]
@[simp] theorem respond_host_linkUp (k : State) (c : Nat) (m : Mail) (a : Answer) : (respond k c m a).host.linkUp = a.st.host.linkUp := by
  simp [respond]
@[simp] theorem respond_host_spiFrameErr (k : State) (c : Nat) (m : Mail) (a : Answer) : (respond k c m a).host.spiFrameErr = a.st.host.spiFrameErr := by
  simp [respond]
@[simp] theorem respond_host_params (k : State) (c : Nat) (m : Mail) (a : Answer) : (respond k c m a).host.params = a.st.host.params := by
  simp [respond]
@[simp] theorem respond_host_tables (k : State) (c : Nat) (m : Mail) (a : Answer) : (respond k c m a).host.tables = a.st.host.tables := by
  simp [respond]
@[simp] theorem respond_host_uncommitted (k : State) (c : Nat) (m : Mail) (a : Answer) : (respond k c m a).host.uncommitted = a.st.host.uncommitted := by
  simp [respond]
@[simp] theorem respond_host_retry (k : State) (c : Nat) (m : Mail) (a : Answer) : (respond k c m a).host.retry = a.st.host.retry := by
  simp [respond]
@[simp] theorem respond_host_msixTbl (k : State) (c : Nat) (m : Mail) (a : Answer) : (respond k c m a).host.msixTbl = a.st.host.msixTbl := by
  simp [respond]
@[simp] theorem respond_host_pcie (k : State) (c : Nat) (m : Mail) (a : Answer) : (respond k c m a).host.pcie = a.st.host.pcie := by
  simp [respond]
@[simp] theorem respond_host_tabUncommitted (k : State) (c : Nat) (m : Mail) (a : Answer) : (respond k c m a).host.tabUncommitted = a.st.host.tabUncommitted := by
  simp [respond]
@[simp] theorem respond_host_units (k : State) (c : Nat) (m : Mail) (a : Answer) : (respond k c m a).host.units = a.st.host.units := by
  simp [respond]

@[simp] theorem ring_pending (c : Nat) (m : Mail) (s : State) : (ring c m s).pending = s.pending := by
  simp only [ring, ringOne]; split <;> simp
@[simp] theorem ring_free (c : Nat) (m : Mail) (s : State) : (ring c m s).free = s.free := by
  simp only [ring, ringOne]; split <;> simp
@[simp] theorem ring_mgmt (c : Nat) (m : Mail) (s : State) : (ring c m s).mgmt = s.mgmt := by
  simp only [ring, ringOne]; split <;> simp
@[simp] theorem ring_sec (c : Nat) (m : Mail) (s : State) : (ring c m s).sec = s.sec := by
  simp only [ring, ringOne]; split <;> simp
@[simp] theorem ring_time (c : Nat) (m : Mail) (s : State) : (ring c m s).time = s.time := by
  simp only [ring, ringOne]; split <;> simp
@[simp] theorem ring_rtc (c : Nat) (m : Mail) (s : State) : (ring c m s).rtc = s.rtc := by
  simp only [ring, ringOne]; split <;> simp
@[simp] theorem ring_model (c : Nat) (m : Mail) (s : State) : (ring c m s).model = s.model := by
  simp only [ring, ringOne]; split <;> simp
@[simp] theorem ring_ox (c : Nat) (m : Mail) (s : State) : (ring c m s).ox = s.ox := by
  simp only [ring, ringOne]; split <;> simp
@[simp] theorem ring_est (c : Nat) (m : Mail) (s : State) : (ring c m s).est = s.est := by
  simp only [ring, ringOne]; split <;> simp
@[simp] theorem ring_dsp (c : Nat) (m : Mail) (s : State) : (ring c m s).dsp = s.dsp := by
  simp only [ring, ringOne]; split <;> simp
@[simp] theorem ring_logic (c : Nat) (m : Mail) (s : State) : (ring c m s).logic = s.logic := by
  simp only [ring, ringOne]; split <;> simp
@[simp] theorem ring_loops (c : Nat) (m : Mail) (s : State) : (ring c m s).loops = s.loops := by
  simp only [ring, ringOne]; split <;> simp
@[simp] theorem ring_axes (c : Nat) (m : Mail) (s : State) : (ring c m s).axes = s.axes := by
  simp only [ring, ringOne]; split <;> simp
@[simp] theorem ring_enc (c : Nat) (m : Mail) (s : State) : (ring c m s).enc = s.enc := by
  simp only [ring, ringOne]; split <;> simp
@[simp] theorem ring_can (c : Nat) (m : Mail) (s : State) : (ring c m s).can = s.can := by
  simp only [ring, ringOne]; split <;> simp
@[simp] theorem ring_adc (c : Nat) (m : Mail) (s : State) : (ring c m s).adc = s.adc := by
  simp only [ring, ringOne]; split <;> simp
@[simp] theorem ring_meter (c : Nat) (m : Mail) (s : State) : (ring c m s).meter = s.meter := by
  simp only [ring, ringOne]; split <;> simp
@[simp] theorem ring_snapWait (c : Nat) (m : Mail) (s : State) : (ring c m s).snapWait = s.snapWait := by
  simp only [ring, ringOne]; split <;> simp
@[simp] theorem ring_net (c : Nat) (m : Mail) (s : State) : (ring c m s).net = s.net := by
  simp only [ring, ringOne]; split <;> simp
@[simp] theorem ring_pair (c : Nat) (m : Mail) (s : State) : (ring c m s).pair = s.pair := by
  simp only [ring, ringOne]; split <;> simp
@[simp] theorem ring_disp (c : Nat) (m : Mail) (s : State) : (ring c m s).disp = s.disp := by
  simp only [ring, ringOne]; split <;> simp
@[simp] theorem ring_pins (c : Nat) (m : Mail) (s : State) : (ring c m s).pins = s.pins := by
  simp only [ring, ringOne]; split <;> simp
@[simp] theorem ring_recorder (c : Nat) (m : Mail) (s : State) : (ring c m s).recorder = s.recorder := by
  simp only [ring, ringOne]; split <;> simp
@[simp] theorem ring_host_hostif (c : Nat) (m : Mail) (s : State) : (ring c m s).host.hostif = s.host.hostif := by
  simp only [ring, ringOne]; split <;> simp
@[simp] theorem ring_host_ready (c : Nat) (m : Mail) (s : State) : (ring c m s).host.ready = s.host.ready := by
  simp only [ring, ringOne]; split <;> simp
@[simp] theorem ring_host_minimal (c : Nat) (m : Mail) (s : State) : (ring c m s).host.minimal = s.host.minimal := by
  simp only [ring, ringOne]; split <;> simp
@[simp] theorem ring_host_sessionRequired (c : Nat) (m : Mail) (s : State) : (ring c m s).host.sessionRequired = s.host.sessionRequired := by
  simp only [ring, ringOne]; split <;> simp
@[simp] theorem ring_host_malorVer (c : Nat) (m : Mail) (s : State) : (ring c m s).host.malorVer = s.host.malorVer := by
  simp only [ring, ringOne]; split <;> simp
@[simp] theorem ring_host_modelSig (c : Nat) (m : Mail) (s : State) : (ring c m s).host.modelSig = s.host.modelSig := by
  simp only [ring, ringOne]; split <;> simp
@[simp] theorem ring_host_dropCnt (c : Nat) (m : Mail) (s : State) : (ring c m s).host.dropCnt = s.host.dropCnt := by
  simp only [ring, ringOne]; split <;> simp
@[simp] theorem ring_host_ignoredCnt (c : Nat) (m : Mail) (s : State) : (ring c m s).host.ignoredCnt = s.host.ignoredCnt := by
  simp only [ring, ringOne]; split <;> simp
@[simp] theorem ring_host_stored (c : Nat) (m : Mail) (s : State) : (ring c m s).host.stored = s.host.stored := by
  simp only [ring, ringOne]; split <;> simp
@[simp] theorem ring_host_evtMask (c : Nat) (m : Mail) (s : State) : (ring c m s).host.evtMask = s.host.evtMask := by
  simp only [ring, ringOne]; split <;> simp
@[simp] theorem ring_host_pinSel (c : Nat) (m : Mail) (s : State) : (ring c m s).host.pinSel = s.host.pinSel := by
  simp only [ring, ringOne]; split <;> simp
@[simp] theorem ring_host_pinsEn (c : Nat) (m : Mail) (s : State) : (ring c m s).host.pinsEn = s.host.pinsEn := by
  simp only [ring, ringOne]; split <;> simp
@[simp] theorem ring_host_resEst (c : Nat) (m : Mail) (s : State) : (ring c m s).host.resEst = s.host.resEst := by
  simp only [ring, ringOne]; split <;> simp
@[simp] theorem ring_host_resDsp (c : Nat) (m : Mail) (s : State) : (ring c m s).host.resDsp = s.host.resDsp := by
  simp only [ring, ringOne]; split <;> simp
@[simp] theorem ring_host_resDiagEst (c : Nat) (m : Mail) (s : State) : (ring c m s).host.resDiagEst = s.host.resDiagEst := by
  simp only [ring, ringOne]; split <;> simp
@[simp] theorem ring_host_resDiagDsp (c : Nat) (m : Mail) (s : State) : (ring c m s).host.resDiagDsp = s.host.resDiagDsp := by
  simp only [ring, ringOne]; split <;> simp
@[simp] theorem ring_host_msixEn (c : Nat) (m : Mail) (s : State) : (ring c m s).host.msixEn = s.host.msixEn := by
  simp only [ring, ringOne]; split <;> simp
@[simp] theorem ring_host_msixFuncMask (c : Nat) (m : Mail) (s : State) : (ring c m s).host.msixFuncMask = s.host.msixFuncMask := by
  simp only [ring, ringOne]; split <;> simp
@[simp] theorem ring_host_msixVecMask (c : Nat) (m : Mail) (s : State) : (ring c m s).host.msixVecMask = s.host.msixVecMask := by
  simp only [ring, ringOne]; split <;> simp
@[simp] theorem ring_host_linkUp (c : Nat) (m : Mail) (s : State) : (ring c m s).host.linkUp = s.host.linkUp := by
  simp only [ring, ringOne]; split <;> simp
@[simp] theorem ring_host_spiFrameErr (c : Nat) (m : Mail) (s : State) : (ring c m s).host.spiFrameErr = s.host.spiFrameErr := by
  simp only [ring, ringOne]; split <;> simp
@[simp] theorem ring_host_params (c : Nat) (m : Mail) (s : State) : (ring c m s).host.params = s.host.params := by
  simp only [ring, ringOne]; split <;> simp
@[simp] theorem ring_host_tables (c : Nat) (m : Mail) (s : State) : (ring c m s).host.tables = s.host.tables := by
  simp only [ring, ringOne]; split <;> simp
@[simp] theorem ring_host_uncommitted (c : Nat) (m : Mail) (s : State) : (ring c m s).host.uncommitted = s.host.uncommitted := by
  simp only [ring, ringOne]; split <;> simp
@[simp] theorem ring_host_retry (c : Nat) (m : Mail) (s : State) : (ring c m s).host.retry = s.host.retry := by
  simp only [ring, ringOne]; split <;> simp
@[simp] theorem ring_host_msixTbl (c : Nat) (m : Mail) (s : State) : (ring c m s).host.msixTbl = s.host.msixTbl := by
  simp only [ring, ringOne]; split <;> simp
@[simp] theorem ring_host_pcie (c : Nat) (m : Mail) (s : State) : (ring c m s).host.pcie = s.host.pcie := by
  simp only [ring, ringOne]; split <;> simp
@[simp] theorem ring_host_tabUncommitted (c : Nat) (m : Mail) (s : State) : (ring c m s).host.tabUncommitted = s.host.tabUncommitted := by
  simp only [ring, ringOne]; split <;> simp
@[simp] theorem ring_host_waiting (c : Nat) (m : Mail) (s : State) : (ring c m s).host.waiting = s.host.waiting := by
  simp only [ring, ringOne]; split <;> simp
@[simp] theorem ring_host_units (c : Nat) (m : Mail) (s : State) : (ring c m s).host.units = s.host.units := by
  simp only [ring, ringOne]; split <;> simp
@[simp] theorem ring_host_evtStatus (c : Nat) (m : Mail) (s : State) : (ring c m s).host.evtStatus = s.host.evtStatus := by
  simp only [ring, ringOne]; split <;> simp
@[simp] theorem ring_host_sent (c : Nat) (m : Mail) (s : State) : (ring c m s).host.sent = s.host.sent := by
  simp only [ring, ringOne]; split <;> simp
@[simp] theorem ring_host_pba (c : Nat) (m : Mail) (s : State) : (ring c m s).host.pba = s.host.pba := by
  simp only [ring, ringOne]; split <;> simp

/-- The mailbox of the response holds it; the part no longer owns it and its done bit is set (R133). -/
theorem deliver_host (b : Nat) (p : Bytes) (s : State) :
    (deliver b p s).host.mbox = modNth s.host.mbox b (fun x => overwrite x 0 p) ∧
    (deliver b p s).host.owner = s.host.owner &&& ~~~(1#8 <<< b) ∧ (deliver b p s).host.done = s.host.done ||| (1#8 <<< b) := by
  simp only [deliver]; split <;> simp

/-- No mailbox becomes owned and done at once by a response (R133). -/
theorem deliver_hostRecOk (b : Nat) (p : Bytes) (s : State) (h : HostRecOk s) : HostRecOk (deliver b p s) := by
  refine ⟨h.1, ?_⟩
  obtain ⟨-, e1, e2⟩ := deliver_host b p s
  rw [e1, e2]
  have h2 := h.2
  ext i hi
  have h3 := congrArg (fun x => x.getLsbD i) h2
  simp at h3 ⊢
  rcases Bool.eq_false_or_eq_true (s.host.owner.getLsbD i) with a | a <;>
    rcases Bool.eq_false_or_eq_true (s.host.done.getLsbD i) with c | c <;>
      simp_all <;> omega

end Sys2Proof.Machine
end

