-- ==== Sys2Proof/Machine/Balls.lean ====
section
/-! DEFINITION. What the part drives on its digital output balls (R25, R44, R46, R48, R514). -/

namespace Sys2Proof.Machine

/-- The digital output balls of R44, by signal. -/
inductive Ball where
  | pwrEn
  | pmicVreq
  /-- HOST_INT_N0 and 1. -/
  | hostInt (k : Nat)
  /-- SPIH_MISO between frames, PCIE_CLKREQ_N, JTAG_TDO. -/
  | sideband
  /-- DDR_RESET_N and the CKE balls. -/
  | ddrReset
  /-- The NOR balls. -/
  | nor
  /-- The transmit balls of Ethernet port `p`. -/
  | ethTx (p : Nat)
  /-- MDC and MDIO. -/
  | mdio
  /-- TIME_TRG0 to 7. -/
  | timeTrg (n : Nat)
  | pairHb
  | pairHlth
  | canTx (c : Nat)
  | canStb (c : Nat)
  /-- The UART, SPI master, I²C and GPIO balls of pad group 9 to 12. -/
  | fieldIo (group : Nat)
  | loopOut (n : Nat)
  /-- AX_STEP and AX_DIR. -/
  | axStep (n : Nat)
  | axDir (n : Nat)
  | axEn (n : Nat)
  | axCur (n : Nat)
  | dout (n : Nat)
  /-- PLS0 to 7. -/
  | pls (n : Nat)
  /-- The panel bus, SD_* and GD_*. -/
  | panelBus
  /-- A rail switch drive and a discharge ball, in the order VNEG, VGL, VPOS, VGH. -/
  | dispDrv (rail : Nat)
  | dispDsc (rail : Nat)
  deriving DecidableEq, Repr

/-- What the part does with a ball. -/
inductive Drive where
  /-- The bank is unpowered: nothing is driven (R48). -/
  | dark
  /-- High impedance. -/
  | z
  /-- High impedance with the pad group's pull-down or pull-up (R44). -/
  | zPd
  | zPu
  | level (high : Bool)
  /-- The signal of the owning block: a bus, or a clocked drive. -/
  | busy
  /-- A PWM pulse of this many 8 ns ticks each period, or a pulse density in 2^-31 (R363). -/
  | pwm (ticks : Int)
  | pdm (density : Int)
  deriving DecidableEq, Repr

/-- The supplies of banks A and B are up: the rails are in regulation (R48). -/
def banksUp (s : State) : Bool := s.power.pmicPg

/-- Main reset is released (R44). -/
def released (s : State) : Bool := s.power.phase == .up

/-- A plant ball: unpowered; in its reset state until its block first enables it, and in STANDBY, where only the pad's pull
acts (R44, R48, R514); else what the block drives. -/
def plantBall (s : State) (driven : Bool) (d : Drive) : Drive :=
  if !banksUp s then .dark else if !driven || standby s then .zPd else d

/-- A ball that no grant gates, with its reset state. -/
def freeBall (s : State) (reset : Drive) (driven : Bool) (d : Drive) : Drive :=
  if !banksUp s then .dark else if !driven then reset else d

/-- What LOOP_OUTn carries in the mode of its loop (R363). -/
def loopSignal (s : State) (n : Nat) : Drive :=
  match lpN s n 0x20 with
  | 1 => .pwm (pwmHigh s n)
  | 2 => .pdm (pdmDensity s n)
  | _ => .level (loopOf s n).level

/-- The variant enables the ball: a DN7421 never enables LOOP_OUT16 to 31 nor the balls of axes 8 to 15 (R46). -/
def hasLoop (s : State) (n : Nat) : Bool := decide (n < (unitCount s 0x0A).1)
def hasAxis (s : State) (n : Nat) : Bool := decide (n < (unitCount s 0x0B).1)

/-- What each output ball carries (R25, R44, R46, R48, R514). UARTs, SPI and I²C masters and GPIO have no register and no
command in the spec, so nothing ever enables their balls (R17). -/
def ballDrive (s : State) : Ball → Drive
  | .pwrEn => .level s.power.pwrEn
  | .pmicVreq => .level s.power.pmicVreq
  | .hostInt k => freeBall s .z (released s) (if intPinLow s.host k then .level false else .z)
  | .sideband => freeBall s .z false .z
  | .ddrReset => if isl s 10 == .off then .level false else .busy
  | .nor => freeBall s .zPu (released s) .busy
  | .ethTx p => freeBall s .zPd (isl s 3 == .on && unitActive s 0x10 p) .busy
  | .mdio => freeBall s .zPd (isl s 3 == .on && (unitActive s 0x10 0 || unitActive s 0x10 1)) .busy
  | .timeTrg n =>
    let t := nth {} s.time.trg n
    freeBall s .zPd (t.driven && decide (n < 8)) (.level (t.active == t.pol))
  | .pairHb => freeBall s .zPd s.pair.running (.level s.pair.hb)
  | .pairHlth => freeBall s .zPd s.pair.running (.level true)
  | .canTx c => freeBall s .zPu (isl s 4 == .on && !(canOf s c).stb) .busy
  | .canStb c => freeBall s .zPu (isl s 4 == .on) (.level ((canOf s c).stb || s.power.canStandby))
  | .fieldIo _ => freeBall s .zPd false .busy
  | .loopOut n => plantBall s (hasLoop s n && lp s n 0x20 != 0 && (loopOf s n).driven) (loopSignal s n)
  | .axStep n => plantBall s (hasAxis s n && (axisOf s n).driven) .busy
  | .axDir n => plantBall s (hasAxis s n && (axisOf s n).driven) (.level (axisOf s n).dir)
  | .axEn n => plantBall s (hasAxis s n && (axisOf s n).driven) (.level (axisOf s n).en)
  | .axCur n => plantBall s (hasAxis s n && (axisOf s n).driven) (.level (axisCur s n))
  | .dout n => plantBall s s.logic.doutOn (.level (s.logic.dout.getLsbD n))
  | .pls n =>
    let p := nth {} s.meter.pulses n
    freeBall s .zPd p.used (.level ((p.phase == 1) != (actN s (pulseId n 5) == 1)))
  | .panelBus => freeBall s .zPd (s.disp.state != 0) (if s.disp.state == 3 || s.disp.dscStep == 1 then .busy else .level false)
  | .dispDrv r => freeBall s .zPd (s.disp.state != 0)
      (if bit s.disp.good r || (decide (2 ≤ s.disp.powerStep) && decide (r + 2 ≤ s.disp.powerStep)) then .busy else .level false)
  | .dispDsc r => freeBall s .zPd (s.disp.state != 0) (.level (!bit s.disp.dsc r))

end Sys2Proof.Machine
end

