-- ==== Sys2Proof/WellFormed.lean ====
section
/-! DEFINITION. Which commands are well formed: every field within the width or count the spec gives it. The meanings do not
rest on it: they answer every command, a number that names nothing included. -/

namespace Sys2Proof

/-- A mailbox command's fields have the widths of R132. -/
def Mail.wf (m : Mail) : Bool :=
  m.mbox < 8 && m.flags < 2 ^ 16 && m.seq < 2 ^ 32 && m.len < 2 ^ 16 && m.rsv1.length == 2 &&
    m.session < 2 ^ 32 && m.rsv2.length == 16 && m.payload.length ≤ 992

/-- A CAN frame's identifier and length code have their widths, and a classical frame at most 8 bytes (R476, R490). -/
def CanFrame.wf (f : CanFrame) : Bool :=
  f.ident < (if f.ide then 2 ^ 29 else 2 ^ 11) && f.dlc < 16 && f.data.length ≤ (if f.fdf then 64 else 8)

/-- A start ends at a stage code of R100 and names areas and rings that there are (R548 to R550); six sensors and eight
monitors at most read (R113). -/
def StartIn.wf (x : StartIn) : Bool :=
  x.stall ≤ 15 && x.torn.all (· < 3) && x.cut.all (fun p => p.1 < 2 && p.2 < 33) && x.temps.length ≤ 6 && x.mvs.length ≤ 8

/-- The width in bits of a register of configuration space (R122). -/
def CfgReg.width : CfgReg → Nat
  | .command | .power | .msix | .vecMask => 16
  | .bar0 | .aerUncorr | .aerCorr => 32
  | .bar2 => 64

/-- The levels on DIN0 to 23 in a list of runs. -/
def dinWf (din : List (Nat × Nat)) : Bool := din.all (fun r => r.1 < 2 ^ 24)

/-- An Announce dataset's fields have the widths of R340. -/
def Announce.wf (a : Announce) : Bool :=
  a.gmPriority1 < 256 && a.gmClass < 256 && a.gmPriority2 < 256 && a.gmId < 2 ^ 64 && a.stepsRemoved < 2 ^ 16

/-- A command or event is well formed: the numbers it brings name something the part has. -/
def Instr.wf : Instr → Bool
  | .powerStateSet m | .powerOppSet m | .powerClkSpreadSet m | .powerWakeTokenSet m | .mgmtStatusGet m
  | .mgmtRestart m | .mgmtConfigSave m | .updateBegin m | .updateData m | .updateFinish m | .updateActivate m
  | .updateCommit m | .updateAbort m | .paramRead m | .paramWrite m | .paramTableRead m | .paramTableWrite m
  | .paramInfo m | .subsysEnable m | .subsysDisable m | .subsysStateGet m | .subsysCheck m | .secSessionOpen m
  | .secSessionConfirm m | .secSessionClose m | .secKeyImport m | .secKeyClear m | .secOtpKeySet m | .secKeyRevoke m
  | .secLifecycleAdvance m | .secEnrol m | .secDikGet m | .secCertWrite m | .secCertCommit m | .secCertGet m
  | .secAttest m | .modelInfoGet m | .modelTrialRevert m | .modelSubstWrite m | .oxSolveArm m | .oxAbort m
  | .dispatchInputWrite m | .dispatchInputCommit m | .dispatchStoreSet m | .dispatchStatusGet m | .timeSet m
  | .timeTrgArm m | .timeTrgStop m | .timeStatusGet m | .loopSpSet m | .loopClear m | .motMove m | .motStop m
  | .motHome m | .motGearArm m | .motClear m | .logicModeSet m | .logicStep m | .logicHostBits m
  | .logicTrialRevert m | .adcWaveCapture m | .adcWaveStop m | .adcCalNow m | .adcClear m | .meterSnapshot m
  | .meterLossGet m | .meterAccSet m | .canObjWrite m | .canRecover m | .pairStatusGet m | .pairFailSet m
  | .pairResync m | .recRead m | .recVerify m | .recStatusGet m | .dispImageWrite m | .dispUpdate m | .dispTempSet m => m.wf
  | .porNAssert | .porNRelease | .pmicPgRise | .pgTimeout | .pwrEnReassert | .pmicPgFall | .pfailNFall
  | .pfailQuietTimeout | .xtal25Fail | .xtal32Fail | .oxPointStepTimer | .telemetryAggregation | .malorIdleEnter
  | .malorIdleExit | .entryStepDone | .wakePinRise | .exitComplete _ | .saveTimerExpiry | .pmicVackRise
  | .pmicVackTimeout | .oxIdleHoldExpiry | .oxWakeLead | .shutdownSequenceEnd _ _ | .dbWakeWrite | .ontSnapReqWrite
  | .spiStatusFrame | .pcieLinkDown | .pfailLatchClear | .sessionOpeningTimeout _ | .sessionIdleTimeout _
  | .drbgHealthFail | .attributePass | .modelSwitch | .modelCopyEcc _ | .estimationBoundary | .droveAdvanceEnd
  | .estPublishDeadline | .dispatchBoundary | .dispatchArm | .dispatchDeadline | .dispatchApply
  | .servoHoldoverTimeout | .holdLockedExpiry | .rtcTime0Read _ | .rtcTime1Read _ | .rtcFreezeExpiry _ | .rtcEnd
  | .rtcTrimCheck | .logicMemoryEcc | .refFault | .calStepDone _ _ | .waveCoefSave | .meterStep
  | .meterMemoryEcc _ _ | .bcastRepeatTimer | .pairGrantEdge _ | .holdExpiry | .heartbeatToggle | .ctrlFrameTimer
  | .mirrorCapture | .straitFrameReceived _ | .straitTimeout | .recorderFlush | .relocation | .railGood
  | .vcomSettleDone | .railTimeout _ | .displayFrameEnd | .railHoldExpiry | .dischargeStepDone
  | .dischargeRailTimeout _ | .xtal32Return | .pfailNRise | .pcieLinkTrained | .spiFrameError _ | .oxScheduleReloadDone => true
  | .mainResetRelease x | .watchdogExpiry x | .readyTimerExpiry x | .restartDelayExpiry x => x.wf
  | .mgmtCodeFault x => x.addr < 2 ^ 36 && x.start.wf
  | .pllUnlock pll | .pllRelockDone pll => pll < 5
  | .wdtKick value | .rtcCtrlWrite value _ => value < 2 ^ 32
  | .registerWrite _ offset data _ => offset < 2 ^ 25 && data.length ≤ 256
  | .tempThresholdCross temps => temps.length == 6
  | .supplyMonitorFault n mv _ => n < 8 && mv < 2 ^ 16
  | .loadWindowEnd load => load ≤ 100
  | .ethLinkWake p | .netAddressRequest p _ _ _ | .frameDiscarded p _ | .ethLinkChange p _ _ => p < 2
  | .canWake c | .canFrameTransmitted c _ _ | .canBusError c _ _ _ _ _ | .canIntegrationDone c | .canRecoveryDone c
  | .canRecoveryTimeout c _ | .canStopCut c => c < 4
  | .wakeFrame p _ => p < 2
  | .islandWakeDone n | .islandPowerdownDone n => n < 12
  | .evtStatusWrite n value | .evtMaskWrite n value => n < 4 && value < 2 ^ 32
  | .wakeLatchClear mask => mask < 2 ^ 13
  | .padGrpCfgWrite n value => n < 20 && value < 2 ^ 32
  | .oxQqArm q _ _ _ _ | .oxQqAbort q | .oxBlockEnd q _ _ | .blockOverrun q | .oxJobEnd q _ | .oxDeadlineReached q
  | .solverAbortEnd q | .oxDataEcc q _ => q < 2
  | .ptpSyncReceived port _ _ _ | .ptpDelayResponse port _ _ _ | .pdelayReqReceived port _ _
  | .announceReceiptTimeout port | .ptpMessageInterval port _ | .telemetryDatagram port _
  | .ptpDelayReqReceived port _ _ => port < 2
  | .ptpAnnounceReceived port a => port < 2 && a.wf
  | .triggerFire unit | .triggerPulseEnd unit | .captureEdge unit _ => unit < 16
  | .rtcTimeWrite reg value => reg < 2 && value < 2 ^ 32
  | .rtcAlmCtrlWrite n value => n < 2 && value < 2 ^ 32
  | .rtcAlarm n => n < 2
  | .loopSample n | .loopStartTimeout n | .loopCoefRewriteDone n => n < 32
  | .followingErrorTimeout n | .homingDistFault n | .standstillDelayExpiry n | .standstillPowerupDone n
  | .axisMemoryEcc n | .axisConfigRewriteDone n => n < 16
  | .loopMemoryEcc n off => n < 32 && off < 2 ^ 20
  | .axisTick n din => n < 16 && dinWf din
  | .coarseStepEdge k _ => k < 4
  | .encoderEdge e _ => e < 2
  | .logicScan din => dinWf din
  | .sdOutputInstant k _ _ | .calibrationDue k => k < 24
  | .refSettleStep step => 1 ≤ step && step ≤ 6
  | .mismatchWindowEnd w _ _ | .captureTrigger w _ _ _ | .captureComplete w _ _ => w < 2
  | .pulseTimer n => n < 8
  | .canFrameReceived c f => c < 4 && f.wf
  | .canPeriodicTrigger c o | .canObjectEcc c o => c < 4 && o < 128
  | .norSectorFail ring _ cause => ring < 2 && cause < 3
  | .staticLevelling ring _ => ring < 2
  | .railLost rail _ => rail < 4
  | .dramError _ addr | .busError addr => addr < 2 ^ 36
  | .scrubUncorrectable store x => store < 3 && x.addr < 2 ^ 36 && x.start.wf
  | .pcieConfigWrite r value enables => value < 2 ^ r.width && enables < 2 ^ (r.width / 8)
  | .unknownCommand cmd m => cmd < 2 ^ 16 && m.wf
  | .keyCacheRefillDone pos => pos < 2
  | .meterConfigRewriteDone m => m < 6

end Sys2Proof
end

