-- ==== Sys2Proof/Tests/Slice0.lean ====
section
/-! SUPPORT. The model's own tests: for every statement a state and operands that meet its hypotheses, the ill-formed terms that
WellFormed refuses, and worked examples of the spec. -/

open Sys2Proof Sys2Proof.Machine

namespace Sys2Proof.Tests

/-- A part in RUN with READY reached: every island that needs no unit is ON, SEC and OX among them. -/
def live : State :=
  { State.reset with
    power := { phase := .up, pwrEn := true, pmicPg := true, clkLock := 0x1F, xtal25 := true, oxSeen := true,
               isl := [.on, .on, .on, .on, .off, .on, .on, .off, .on, .on, .on, .off] },
    mgmt := { malorRuns := true, stage := 15 },
    host := { ready := true, hostif := 0x0100 } }

/-- A command without a session in mailbox 0. -/
def mail (p : Bytes) : Mail :=
  { mbox := 0, flags := 0, seq := 1, len := p.length, rsv1 := zeros 2, session := 0, rsv2 := zeros 16, payload := p, tag := [] }

/-- A pair unit whose hold line is asserted. -/
def heldPair : PairSt := { live.pair with running := true, hold := true }

/-- A part whose supplies stand at a phase. -/
def atPhase (p : Phase) : State := { live with power := { live.power with phase := p } }

theorem witness_SupplySequence :
    (atPhase .porLow).power.phase = .porLow ∧ (atPhase .waitPg).power.phase = .waitPg ∧
    (atPhase (.waitRetry 60)).power.phase = .waitRetry 60 ∧ (live.power.pwrEn = true ∧ live.power.pmicPg = true) ∧
    live.power.phase = .up := by decide

/-- FIRST still set from an earlier incident. -/
def latched : State := { live with power := { live.power with pfFirst := 2, pfCause := 2 } }

theorem witness_PowerFailLatch :
    (live.power.phase ≠ .porLow ∧ live.power.pfailN = true ∧ live.power.pfIncident = false ∧ live.power.pfFirst = 0) ∧
    (latched.power.pfailN = true ∧ latched.power.pfIncident = false ∧ latched.power.pfFirst ≠ 0) ∧
    malorWorks { live with power := { live.power with pfCause := 1 } } = true := by decide

theorem witness_Crystal32 :
    (live.power.phase ≠ .porLow ∧ writerRuns live = true ∧ live.recorder.ramOnly = false ∧ live.recorder.buf.length < 2048) ∧
    (live.pending = [] ∧ mailDue live = none ∧ live.rtc.time.tick + 2 < 32768) := by decide

theorem witness_ResetsAndStarts :
    (atPhase .waitXtal).power.phase = .waitXtal ∧ (inRun live = true ∧ live.mgmt.wdtEn = true ∧ live.mgmt.failWritten = false) ∧
    malorWorks live = true ∧ lifecycle (atPhase .mainReset) ≠ 3 ∧
    (startGoes {} 15 live = true ∧ live.mgmt.warm = false) ∧ (inCode 0x00FFFFFF = false ∧ inCode 0x01060000 = false) ∧
    (inRun { live with mgmt := { live.mgmt with readyTimer := true, restart := some 2 } } = true) := by decide

/-- SLEEP, with every wake source enabled. -/
def asleep : State :=
  { live with power := { live.power with cur := .sleep, wakeEn := 0x1FFF, canStandby := true, wakeToken := 1 :: zeros 15 } }

/-- A change of the OX point in progress. -/
def changing (old new : Nat) (ack : Bool) : State :=
  { live with power := { live.power with opp := some ⟨true, old, new, ack, false⟩, oppOx := old, voltOx := 2 } }

/-- OX at OPP-L. -/
def oxLow : State := { live with power := { live.power with oppOx := 0, voltOx := 0 } }

theorem witness_OperatingPoints :
    (taken 0x0411 (mail (leBytes 4 0x22)) oxLow = true ∧ (takenState 0x0411 (mail (leBytes 4 0x22)) oxLow).power.opp = none ∧
      (takenState 0x0411 (mail (leBytes 4 0x22)) oxLow).power.oppSoc = 2 ∧
      (takenState 0x0411 (mail (leBytes 4 0x22)) oxLow).power.oppOx < 2) ∧
    (taken 0x0411 (mail (leBytes 4 0x02)) live = true ∧ 0 < (takenState 0x0411 (mail (leBytes 4 0x02)) live).power.oppOx) ∧
    (taken 0x0411 (mail (leBytes 4 0x32)) live = true ∧ bits (byteField (mail (leBytes 4 0x32)).payload 0 4) 4 2 = 3) ∧
    (taken 0x0411 (mail (leBytes 4 0x22)) (changing 0 2 true) = true ∧
      (takenState 0x0411 (mail (leBytes 4 0x22)) (changing 0 2 true)).power.opp ≠ none) ∧
    oppPoint (changing 0 2 true).power true ≤ 2 ∧ 2 ≤ (changing 0 2 false).power.voltOx ∧
    0 ≤ (changing 2 0 false).power.voltOx := by decide

theorem witness_PllsAndIslands :
    (live.power.phase = .up ∧ live.power.pllLoss.length = 5 ∧ bit live.power.clkLock 4 = true) ∧
    ontAon live < 0 + 1000000000 ∧ live.power.isl.length = 12 ∧ (oxq live 0).state ≠ 1 ∧ pendingUnits live = [] ∧
    (inRun live = true ∧ isl live 8 = .on ∧ (oxq live 1).state = 0) ∧
    (solving (setUnit 7 0 { enabled := true } (setIsl 8 .off live)) = true ∧
      enabled (setUnit 7 0 { enabled := true } (setIsl 8 .off live)) 7 0 = true) := by decide

theorem witness_SpreadAndToken :
    (taken 0x0414 (mail (leBytes 4 15)) live = true ∧ byteField (mail (leBytes 4 15)).payload 0 4 < 16) ∧
    (taken 0x0413 (mail (zeros 16)) live = true ∧ taken 0x0413 (mail (zeros 15)) live = true) ∧
    (allZero asleep.power.wakeToken = false ∧ bit asleep.power.wakeEn 6 = true ∧ asleep.power.busy = false ∧
      asleep.power.wakeToken.length = 16) ∧ live.power.opp = none := by decide

set_option maxRecDepth 100000 in
/-- A wake frame to the broadcast address. -/
theorem witness_SpreadAndToken_frame : wakeFrameOk asleep 1 (List.replicate 6 0xFF ++ zeros 6 ++ [0x88, 0xB5] ++
    asleep.power.wakeToken ++ fcsOf (List.replicate 6 0xFF ++ zeros 6 ++ [0x88, 0xB5] ++ asleep.power.wakeToken)) = true := by
  decide

theorem witness_WakeSources :
    (asleep.power.phase = .up ∧ asleep.power.cur = .sleep ∧ bit asleep.power.wakeEn 10 = true ∧ asleep.power.wakeFirst = none ∧
      bit asleep.power.wakeLatch 10 = false) ∧ bit live.power.wakeEn 0 = true ∧ bit live.power.wakeEn 12 = false ∧
    live.power.cur ≠ .idle ∧ asleep.power.isl.length = 12 ∧
    (plantRuns live = true ∧ isl live 6 = .on ∧ malorWorks live = true) := by decide

/-- An entry to SLEEP at its step 6. -/
def entering : State := { live with power := { live.power with busy := true, step := 6, target := .sleep } }

theorem witness_DeviceStates :
    (malorWorks live = true ∧ live.power.busy = false) ∧
    (taken 0x0410 (mail [2, 1, 0, 0, 1, 0, 0, 0]) live = true ∧ byteField [2, 1, 0, 0, 1, 0, 0, 0] 4 4 ≠ 0) ∧
    taken 0x0410 (mail [0, 1, 0, 0, 0xFF, 0x1F, 0, 0]) live = true ∧
    (taken 0x0410 (mail [4, 1, 0, 0, 0, 0x18, 0, 0]) live = true ∧
      byteField [4, 1, 0, 0, 0, 0x18, 0, 0] 4 4 = 0x1800 ∧ (upTo 16).any (axisMoving live) = false) ∧
    (entering.power.busy = true ∧ entering.power.wakeLatch = 0) ∧
    (entering.power.entryUnreported = none ∧ entering.power.isl.length = 12) := by decide

/-- A full buffer of records. -/
def fullRec : State := { live with recorder := { live.recorder with buf := List.replicate 2048 (⟨0, 0, 0, 0, 0, 0, 0, 0⟩ : Rec) } }

/-- A sensor at 100 °C, and one left over from HOT. -/
def warm : State := { live with mgmt := { live.mgmt with tsens := [some 12800], hotHold := true, shed := 1 } }

theorem witness_TemperatureSuppliesLoad :
    (plantRuns live = true ∧ (∀ v ∈ [(14336 : Int), 15359, 0, 0, 0, 0], v < 15360) ∧ anyAbove 112 live.mgmt.tsens = false ∧
      live.power.opp = none ∧ 0 < live.power.oppOx) ∧ (∀ v ∈ [(12799 : Int), 0, 0, 0, 0, 0], v < 12800) ∧
    (malorWorks warm = true ∧ warm.power.opp = none ∧ anyAbove (par warm 0x0103) warm.mgmt.tsens = true ∧ 0 < warm.power.oppOx ∧
      warm.mgmt.hotHold = true ∧ 0 < warm.mgmt.shed) ∧ (live.mgmt.vmon.length = 8 ∧ isl live 8 ≠ .off) ∧
    (parN live 0x0101 = 85 ∧ parN live 0x0102 = 60 ∧ live.mgmt.shed < 4 ∧ malorWorks live = true) := by decide

theorem witness_ErrorsRecordsPads :
    (writerRuns live = true ∧ live.recorder.ramOnly = false ∧ live.recorder.buf.length < 2048 ∧ plantRuns live = true ∧
      inRun live = true ∧ isl live 10 = .on ∧ live.mgmt.padCfg.length = 20) ∧
    (busFaults live 0x00100000 = true ∧ inCode 0x01060000 = false ∧ inCode 0x0105FFFF = true ∧ 5 < tableSize live) := by decide

theorem witness_ErrorsRecordsPads_full : writerRuns fullRec = true ∧ 2048 ≤ fullRec.recorder.buf.length :=
  ⟨by decide, by show 2048 ≤ (List.replicate 2048 _).length; rw [List.length_replicate]⟩

/-- The part in MINIMAL. -/
def minimalPart : State := { live with mgmt := { live.mgmt with malorRuns := false, minimal := true } }

theorem witness_ManagementCommands :
    (taken 0x0100 (mail []) live = true ∧ taken 0x0102 (mail [2, 0, 0, 0]) live = true ∧
      taken 0x0102 (mail [0, 0, 0, 0]) minimalPart = true ∧ taken 0x0102 (mail [3, 0, 0, 0]) live = true) ∧
    (taken 0x0104 (mail []) live = true ∧ storeInUse (takenState 0x0104 (mail []) live) = none) := by decide

/-- An update of Malor slot B of 4 bytes, none programmed. -/
def updating (fin : Bool) : State :=
  { live with mgmt := { live.mgmt with update := some { type := 1, total := 4, slot := true, finished := fin } } }

/-- Malor on trial in slot B. -/
def trialPart : State := { live with mgmt := { live.mgmt with bootB := bootBytes { seq := 1, malorActive := true, malorTrial := true } } }

theorem witness_Updates :
    (taken 0x0120 (mail (leBytes 1 1 ++ zeros 3 ++ leBytes 4 0x400000)) live = true ∧ (bootSlot (bootRec live) 1).2 = false) ∧
    (taken 0x0120 (mail (leBytes 1 1 ++ zeros 3 ++ leBytes 4 4)) (updating false) = true) ∧
    (taken 0x0121 (mail (leBytes 4 0 ++ leBytes 4 4 ++ [1, 2, 3, 4])) (updating false) = true ∧
      rangeTaken [] 0 4 = false ∧ rangeTaken [(3, 1)] 0 4 = true) ∧
    (taken 0x0122 (mail []) (updating false) = true ∧ taken 0x0123 (mail []) (updating true) = true) ∧
    (taken 0x0124 (mail [1, 0, 0, 0]) trialPart = true ∧ taken 0x0124 (mail [1, 0, 0, 0]) live = true) ∧
    taken 0x0125 (mail []) (updating false) = true := by decide

set_option maxRecDepth 100000 in
/-- The record of Malor's trial is in force. -/
theorem witness_Updates_trial : bootRec trialPart = { seq := 1, malorActive := true, malorTrial := true } := by decide

/-- The part in FIELD, where commands may need a session. -/
def fieldPart : State := { live with sec := { live.sec with otp := [(0, 3)] } }

/-- A part whose link is up and which owns mailbox 7. -/
def linked : State := { live with host := { live.host with linkUp := true, owner := 0x80 } }

theorem witness_HostRegisters :
    (hostServed live = true ∧ hostServed linked = true ∧ linked.host.linkUp = true ∧ linked.host.owner.getLsbD 7 = true ∧
      linked.host.owner.getLsbD 0 = false ∧ plantRuns live = true) ∧
    (bar0Mapped 0x600 = false ∧ bar0Mapped 0x224 = true) := by decide

/-- The same part in SLEEP. -/
def sleeping (s : State) : State := { s with power := { s.power with cur := .sleep } }

/-- A part that keeps the response to the mail of an empty payload in mailbox 0. -/
def answered : State :=
  { live with host := { live.host with stored := live.host.stored.set 0 (some ⟨headerBytes 0x0100 (mail []), []⟩) } }

theorem witness_MailboxChecks :
    (hostServed (sleeping live) = true ∧ mailMine 0x0100 (mail []) (sleeping live) = true ∧
      served (ring 0x0100 (mail []) (sleeping live)) = false) ∧
    (mailReaches 0x0100 (mail []) live = true ∧ hostServed State.reset = false ∧
      mailMine 0x0100 { mail [] with mbox := 7 } linked = false ∧ hostServed linked = true) ∧
    (mailShed { live with mgmt := { live.mgmt with shed := 4 } } 0x0211 [] = true ∧ urgent 0x0100 [] = true) ∧
    (served (ring 0x0100 (mail []) live) = true ∧ mailFormOk { mail [] with len := 993 } = false ∧
      mailFormOk (mail []) = true ∧ knownCmds.contains 0x0101 = false ∧ knownCmds.contains 0x0211 = true) ∧
    storedMatch 0x0100 (mail []) (ring 0x0100 (mail []) answered) = some [] ∧
    needsSession (ring 0x0124 (mail []) fieldPart) 0x0124 [] = true ∧
    (minimalCmds (ring 0x0211 (mail []) live)).contains 0x0211 = false ∧ lifecycle live ≠ 3 ∧
    (urgent 0x0211 [] = false ∧ needsSession (ring 0x0211 (mail []) live) 0x0211 [] = false) := by decide

theorem witness_MailboxResponse :
    live.host.mbox.length = 8 ∧ live.host.stored.length = 8 ∧ live.host.done.getLsbD 0 = false ∧ mailAuth (mail []) = false := by decide

/-- MGMT_SHED_HI := 90 and MGMT_SHED_LO := 70, or 85: the payload of the example of R146. -/
def shedWrite (lo : Nat) : Bytes := [2, 0, 0, 0] ++ leBytes 2 0x0101 ++ [0, 0] ++ leBytes 8 90 ++ leBytes 2 0x0102 ++ [0, 0] ++ leBytes 8 lo

theorem witness_ParameterCommands :
    (taken 0x0210 (mail ([1, 0, 0, 0] ++ leBytes 2 0x0101)) live = true ∧
      (paramLookup live none 0x0101).toOption.map isTable = some false) ∧
    (taken 0x0211 (mail (shedWrite 85)) live = true ∧ (shedWrite 85).length = 4 + 12 * 2 ∧
      writeFail live (viewAfter live (writeEntries (shedWrite 85) 2)) (writeEntries (shedWrite 85) 2) = some (0x0105, 0x0102)) ∧
    (taken 0x0211 (mail ([1, 0, 0, 0] ++ leBytes 2 0x0101 ++ [0, 0] ++ leBytes 8 99)) live = true ∧
      (pInfo 0x0101).map (fun i => (i.lo, i.hi)) = some (50, 99)) ∧
    (taken 0x0213 (mail (leBytes 2 0x1311 ++ [0, 0] ++ leBytes 4 0 ++ leBytes 4 8 ++ zeros 8)) live = true ∧ pSize 0x1311 = 8 ∧
      (paramLookup live (some true) 0x1311).toOption.map isTable = some true ∧
      ((paramLookup live (some true) 0x1311).toOption.map (paramLocked live)) = some none) ∧
    taken 0x0212 (mail (leBytes 2 0x1311 ++ [0, 0] ++ leBytes 4 0 ++ leBytes 4 8)) live = true ∧
    taken 0x0214 (mail (leBytes 2 0x1311)) live = true := by decide

/-- A part whose TIME unit 0 has a state. -/
def timeUnit (u : UnitSt) : State := setUnit 5 0 u live

/-- A part whose ADC channel 0 is enabled with its reference buffer. -/
def adcUnits : State := setUnit 13 26 { enabled := true } (setUnit 13 0 { enabled := true } live)

/-- The payload of a SUBSYS command. -/
def unitPayload (a b : Nat) : Bytes := leBytes 1 a ++ [0] ++ leBytes 2 b

theorem witness_EnableUnits :
    (taken 0x0201 (mail (unitPayload 5 0)) (timeUnit { enabled := true }) = true ∧
      (subsysUnit (unitPayload 5 0) (timeUnit { enabled := true })).toOption = some (5, 0) ∧
      unitSt (timeUnit { enabled := true }) 5 0 = { enabled := true }) ∧
    (unitCheck 9 0 live).isSome = true ∧ (subsysUnit (unitPayload 9 0) live).toOption = some (9, 0) ∧
    (unitCheck 13 26 (setUnit 13 26 { stopping := true } live) = none ∧ unitCheck 13 26 live = none ∧
      live.pair.failsafe = false ∧ islandFalling live 13 26 = false) ∧
    (dependent (timeUnit { enabled := true }) 5 0 = none ∧ pairBars (timeUnit { enabled := true }) 5 = false) ∧
    dependent adcUnits 13 26 = some (13, 0) ∧ unitIsland 5 0 = none ∧
    (stopOver (timeUnit { stopping := true }) 5 0 = true ∧ inRun live = true ∧ 5 ∈ unitSubs) := by decide

/-- A running RTC with a reading. -/
def clock (x : RtcTime) : State := { live with rtc := { live.rtc with halt := false, time := x } }

/-- The last tick of the range. -/
def lastTick : RtcTime := { year := 399, month := 12, day := 31, hour := 23, min := 59, sec := 59, tick := 32767 }

theorem witness_RtcCalendar : dateOk lastTick = true ∧ 28 < monthDays 96 2 ∧ monthDays 100 2 = 28 := by decide

theorem witness_RtcRangeEnd :
    rtcRunning (clock lastTick) = true ∧ rtcEndReached lastTick = true ∧
    125000000 ≤ { live.power with tickPhase := 124967232 }.tickPhase + 32768 := by
  refine ⟨by decide, ?_, by decide⟩
  simp [rtcEndReached, calendarEnd, lastTick, rtcSeconds, daySecond, dayNumber]

theorem witness_RtcSetAndRead :
    (rtcReach true live = true ∧ rtcReach false live = true ∧ bit 1 0 = true ∧ bit 0 0 = false ∧ rtcRunning (clock {}) = true ∧ rtcReach false (clock {}) = true ∧
      rtcRunning live = false) ∧
    (live.rtc.halt = true ∧ dateOk live.rtc.time = true ∧ dateOk { live.rtc.time with month := 13 } = false) ∧
    (live.rtc.hostShadow.frozen = false ∧ (shadow true { live with rtc := { live.rtc with mgmtShadow := { frozen := true } } }).frozen = true) := by
  decide

/-- An alarm armed for the second of the reading, once or daily, on a running RTC. -/
def alarmed (rep : Nat) : State :=
  { clock {} with rtc := { (clock {}).rtc with alarms := [{ target := {}, armed := true, rep := rep }, {}] } }

/-- A part locked to network time, whose RTC stands at 2000-01-01. -/
def lockedAt (ont : Nat) : State := { clock {} with time := { (clock {}).time with valid := true, locked := true, ont := ont } }

theorem witness_RtcAlarmsAndTrim :
    ((alarmed 0).rtc.alarms[0]?.isSome = true ∧ dateOk ({} : RtcTime) = true ∧ live.rtc.alarms[0]? = some ({ } : Alarm) ∧ dateOk ({ } : Alarm).target = false) ∧
    (rtcRunning (alarmed 2) = true ∧ rtcSeconds ({} : RtcTime) = rtcNow (alarmed 2)) ∧
    ((lockedAt (946684800 * 1000000000)).time.locked = true ∧ (rtcError (lockedAt (946684800 * 1000000000))).natAbs < 1000000000) ∧
    (1000000000 ≤ (rtcError (lockedAt 946684799000000000)).natAbs ∧ malorWorks (lockedAt 0) = true) := by decide

/-- The live part with an unsteady clock of its own. -/
def timed (t : TimeSt) : State := { live with time := t }

/-- A part whose TIME unit and ETH0 are enabled, port 1 of PTP in use. -/
def ptpLive (t : TimeSt) (profile : Int) : State :=
  setUnit 0x10 0 { enabled := true } (setUnit 5 0 { enabled := true }
    { timed t with host := { live.host with params := [(0x0501, profile), (0x0520, 1)] } })

/-- Trigger 3 of the worked example: a target every 250 ms. -/
def trig : Trigger := { armed := true, periodic := true, target := 1000000000, period := 250000000, width := 1000 }

theorem witness_TimeSetAndStatus :
    (taken 0x0510 (mail ([0] ++ zeros 7 ++ leBytes 8 1512500000)) (timed { ont := 900000000, trg := [trig] }) = true ∧
      8 ∉ live.time.portState ∧ 9 ∉ live.time.portState ∧ trig.target ≤ 1512500000) ∧
    (taken 0x0510 (mail ([1] ++ zeros 7 ++ leIntBytes 8 (-5))) live = true ∧ (live.time.ont : Int) + (-5) < 0) ∧
    taken 0x0510 (mail ([1] ++ zeros 7 ++ leBytes 8 5)) (timed { portState := [3, 9] }) = true ∧
    taken 0x0500 (mail []) live = true := by decide

theorem witness_TriggersAndCaptures :
    taken 0x0520 (mail (leBytes 1 3 ++ leBytes 1 1 ++ zeros 2 ++ leBytes 8 1000 ++ leBytes 8 250 ++ leBytes 4 8 ++ leBytes 4 0))
      live = true ∧
    taken 0x0520 (mail (leBytes 1 15 ++ [0] ++ zeros 2 ++ zeros 24)) live = true ∧
    taken 0x0520 (mail (leBytes 1 3 ++ zeros 3 ++ leBytes 8 (2 ^ 47) ++ zeros 8 ++ leBytes 4 8 ++ leBytes 4 0)) live = true ∧
    taken 0x0521 (mail (leBytes 1 3 ++ zeros 3)) live = true ∧
    (plantRuns (timed { ont := 1000000000, trg := [trig] }) = true ∧ live.time.trg[3]? = some ({ } : Trigger) ∧
      live.time.ont < trig.target) ∧
    (live.time.cap[8]? = some ({ } : Capture) ∧ act live 0x6810 = 0 ∧ act live 0x6811 = 0 ∧
      filterN (bits (nth 0 live.mgmt.padCfg 6) 8 3) = 0 ∧ (nth {} live.pins.cap 8).level = false ∧
      filterN (bits (nth 0 { live.mgmt with padCfg := List.replicate 19 0x100 }.padCfg 6) 8 3) ≠ 0) := by decide

theorem witness_Servo :
    (ptpRuns (ptpLive { portState := [9, 3], mpdKnown := true, servo := 4, lastUpdate := some 1, ont := 5 } 0) 0 = true ∧
      par live 0x050D = 100000 ∧ par live 0x050E = 3 ∧ par live 0x050F = 1000 ∧ par live 0x0510 = 16) ∧
    ptpRuns (ptpLive { reqSent := [some 4, none] } 1) 0 = true ∧
    (ptpRuns (ptpLive { reqSent := [some 4, none], lastSync := some 7 } 0) 0 = true ∧ act (ptpLive {} 0) 0x0501 = 0) ∧
    (inRun live = true ∧ enabled (ptpLive {} 0) 5 0 = true ∧ ({ yHist := [5], servo := 4 } : TimeSt).yHist ≠ []) ∧
    ({ locked := true, servo := 5 } : TimeSt).locked = true := by decide

theorem witness_PtpMessages :
    (ptpRuns (ptpLive {} 1) 0 = true ∧ act (ptpLive {} 1) 0x0501 = 1) ∧
    (ptpRuns (ptpLive { portState := [6, 3] } 0) 0 = true ∧ act live 0x0523 = 0 ∧ live.time.seqIds[2]? = some 0) ∧
    (ptpPort (ptpLive { portState := [4, 3], servo := 1 } 0) 1 = false ∧ live.mgmt.malorRuns = true ∧ clockId live ≠ 5 ∧
      act (ptpLive {} 0) 0x0505 = 1 ∧ live.time.announce = [none, none] ∧ live.time.bellwether = false) := by decide

/-- The live part with a security engine that holds its root. -/
def secured (c : SecSt) : State := { live with sec := { c with rootOk := true, drbgOk := true } }

/-- An open session of number 0. -/
def session0 : Session := { id := 7, isOpen := true }

/-- A command under session 0 of a part, with its tag. -/
def signed (cmd : Nat) (p : Bytes) (s : State) : Mail :=
  { mail p with
    flags := 1, session := 7, tag := Config.gmac (sessionMac (ring cmd (mail p) s) 0)
      (mailIv { mail p with flags := 1, session := 7 } 0) (headerBytes cmd { mail p with flags := 1, session := 7 } ++ p) }

/-- The checks of a command beside its tag. -/
def takenBut (cmd : Nat) (m : Mail) (s : State) : Bool :=
  mailReaches cmd m s && mailFormOk m && knownCmds.contains cmd && (storedMatch cmd m (ring cmd m s)).isNone &&
    (mailAuth m || !needsSession (takenState cmd m s) cmd m.payload) &&
    !((takenState cmd m s).mgmt.minimal && !(minimalCmds (takenState cmd m s)).contains cmd) &&
    !mailShed (takenState cmd m s) cmd m.payload

theorem taken_of_passes (cmd : Nat) (m : Mail) (s : State) (h : takenBut cmd m s = true)
    (p : sessionPasses cmd m (ring cmd m s) = true) : taken cmd m s = true := by
  simp only [takenBut, Bool.and_eq_true] at h
  simp only [taken, Bool.and_eq_true]
  obtain ⟨⟨⟨⟨⟨⟨a, b⟩, c⟩, d⟩, e⟩, f⟩, g⟩ := h
  exact ⟨⟨⟨⟨⟨⟨⟨a, b⟩, c⟩, d⟩, p⟩, e⟩, f⟩, g⟩

theorem signed_passes (cmd : Nat) (p : Bytes) (s : State)
    (h : sessionNo (ring cmd (signed cmd p s) s) 7 = some 0) (q : sessionSeq (ring cmd (signed cmd p s) s) 0 < 1)
    (o : slotOk (ring cmd (signed cmd p s) s) 12 2 = true)
    (e : sessionMac (ring cmd (signed cmd p s) s) 0 = sessionMac (ring cmd (mail p) s) 0) :
    sessionPasses cmd (signed cmd p s) (ring cmd (signed cmd p s) s) = true := by
  simp only [sessionPasses, Bool.or_eq_true]
  right
  simp only [show (signed cmd p s).session = 7 from rfl, h, Bool.and_eq_true, decide_eq_true_eq, beq_iff_eq]
  exact ⟨⟨o, by rw [e]; rfl⟩, q⟩

/-- A secured part with session 0 open, in lifecycle FIELD. -/
def inField : State :=
  secured { live.sec with
    sessions := [some session0, none, none, none], otp := [(0, 3)]
    slots := List.replicate 12 {} ++ List.replicate 2 { type := 1, bind := 4, source := 3 } ++ List.replicate 50 {} }

theorem taken_signed (cmd : Nat) (p : Bytes) (s : State) (h : takenBut cmd (signed cmd p s) s = true)
    (g : sessionNo (ring cmd (signed cmd p s) s) 7 = some 0) (q : sessionSeq (ring cmd (signed cmd p s) s) 0 < 1)
    (o : slotOk (ring cmd (signed cmd p s) s) 12 2 = true)
    (e : sessionMac (ring cmd (signed cmd p s) s) 0 = sessionMac (ring cmd (mail p) s) 0) : taken cmd (signed cmd p s) s = true :=
  taken_of_passes _ _ _ h (signed_passes _ _ _ g q o e)

set_option maxRecDepth 20000 in
theorem witness_Sessions :
    (taken 0x0310 (mail (zeros 128)) (secured {}) = true ∧ freeSession (secured {}) = some 0) ∧
    (taken 0x0310 (mail (zeros 128)) (secured { sessions := List.replicate 4 (some session0) }) = true ∧
      freeSession (secured { sessions := List.replicate 4 (some session0) }) = none) ∧
    (taken 0x0310 (mail (zeros 128)) live = true ∧ live.sec.rootOk = false) ∧
    (taken 0x0311 (mail (leBytes 4 7 ++ leBytes 1 1 ++ zeros 3 ++ zeros 96))
        (secured { sessions := [some { id := 7 }, none, none, none] }) = true ∧
      openingNo (takenState 0x0311 (mail []) (secured { sessions := [some { id := 7 }, none, none, none] })) 7 = some 0) ∧
    taken 0x0312 (signed 0x0312 [] inField) inField = true ∧
    sessionNo (takenState 0x0312 (signed 0x0312 [] inField) inField) 7 = some 0 :=
  ⟨by decide, by decide, by decide, by decide, taken_signed _ _ _ (by decide) (by decide) (by decide) (by decide) (by rfl), by decide⟩

set_option maxRecDepth 20000 in
theorem witness_KeysAndOtp :
    (taken 0x0330 (signed 0x0330 (leBytes 1 2 ++ leBytes 1 1 ++ zeros 2 ++ leBytes 4 9 ++ zeros 48) inField) inField = true ∧
      sessionNo (takenState 0x0330 (signed 0x0330 [] inField) inField) 7 = some 0) ∧
    taken 0x0331 (mail (leBytes 1 1 ++ leBytes 1 0 ++ zeros 2)) live = true ∧
    (taken 0x0321 (mail (leBytes 1 2 ++ leBytes 1 1 ++ zeros 2 ++ zeros 96)) (secured { otp := [(0, 1)] }) = true ∧
      lifecycle (secured { otp := [(0, 1)] }) = 1 ∧ otpWord (secured { otp := [(0, 1)] }) 132 = 0) ∧
    (taken 0x0322 (mail (leBytes 1 0 ++ leBytes 1 1 ++ zeros 2)) (secured { otp := [(0, 1), (12, 5)] }) = true ∧
      otpKeyLive (secured { otp := [(0, 1), (12, 5)] }) 0 0 = true ∧ otpKeyLive (secured { otp := [(0, 1), (12, 5)] }) 0 1 = false) ∧
    (nth {} (List.replicate 64 ({ type := 5 } : KeySlot)) 21).type ≠ 0 :=
  ⟨⟨taken_signed _ _ _ (by decide) (by decide) (by decide) (by decide) (by rfl), by decide⟩, by decide, by decide, by decide, by decide⟩

/-- A record of certificates, valid under the storage key of no bytes. -/
def provisioned : Provision :=
  { seq := 3, devCert := zeros 40, caCert := zeros 50, mac := provMac [] { seq := 3, devCert := zeros 40, caCert := zeros 50 } }

theorem provision_provisioned : provision (secured { provA := some provisioned }) = some provisioned := by
  have h : provValid (secured { provA := some provisioned }) provisioned = true := by
    simp only [provValid, secured, provisioned, provMac, Bool.or_eq_true, beq_iff_eq]
    exact Or.inr trivial
  simp only [provision, show (secured { provA := some provisioned }).sec.provA = some provisioned from rfl,
    show (secured { provA := some provisioned }).sec.provB = none from rfl, Option.filter, h]
  rfl

set_option maxRecDepth 20000 in
theorem witness_LifecycleEnrolmentAttestation :
    (taken 0x0320 (mail (leBytes 1 1 ++ zeros 3 ++ leBytes 4 0)) (secured { provA := some provisioned }) = true ∧
      provision (secured { provA := some provisioned }) = some provisioned ∧ lifecycle (secured {}) = 0) ∧
    (taken 0x0320 (mail (leBytes 1 2 ++ zeros 3 ++ leBytes 4 0)) (secured { otp := [(0, 1), (12, 1), (60, 1), (108, 1)] }) = true ∧
      ∀ k, k < 3 → allZero (otpKey (secured { otp := [(0, 1), (12, 1), (60, 1), (108, 1)] }) k 0) = false) ∧
    (taken 0x0320 (mail (leBytes 1 2 ++ zeros 3 ++ leBytes 4 0)) (secured { otp := [(0, 1)] }) = true ∧
      allZero (otpKey (secured { otp := [(0, 1)] }) 2 0) = true) ∧
    (taken 0x0320 (signed 0x0320 (leBytes 1 3 ++ zeros 3 ++ leBytes 4 0) inField) inField = true ∧ lifecycle inField = 2) ∧
    (taken 0x0323 (mail []) (secured {}) = true ∧ helperPasses (secured {}) [] = false ∧ taken 0x0323 (mail []) (secured { otp := [(0, 1)] }) = true) ∧
    (taken 0x0344 (mail []) (secured {}) = true ∧ taken 0x0343 (mail []) (secured {}) = true ∧
      taken 0x0342 (mail (leBytes 1 1 ++ zeros 3 ++ leBytes 4 20 ++ leBytes 4 4 ++ leBytes 4 8 ++ zeros 8)) (secured {}) = true) ∧
    taken 0x0341 (mail (leBytes 1 0 ++ zeros 3 ++ leBytes 4 0 ++ leBytes 4 20)) (secured { provA := some provisioned }) = true ∧
    taken 0x0340 (mail (zeros 32)) (secured {}) = true ∧ taken 0x0340 (mail (zeros 32)) live = true :=
  ⟨⟨by decide, provision_provisioned, by decide⟩, by decide, by decide,
    ⟨taken_signed _ _ _ (by decide) (by decide) (by decide) (by decide) (by rfl), by decide⟩, by decide,
    by decide, by decide, by decide, by decide⟩

/-- An image whose only section is COUNTS, with one sub-station. -/
def countsImage : Bytes :=
  zeros 8 ++ leBytes 4 88 ++ zeros 244 ++ zeros 4 ++ leBytes 2 1 ++ zeros 2 ++ leBytes 2 1 ++ zeros 2 ++ leBytes 4 24 ++ leBytes 4 64 ++
    zeros 4 ++ zeros 4 ++ leBytes 2 1 ++ zeros 58

/-- A part with a state of the model subsystem. -/
def modelled (m : ModelSt) : State := { live with model := m }

/-- The same with a model on trial. -/
def onTrial (m : ModelSt) : State := { modelled m with mgmt := { live.mgmt with bootA := bootBytes { modelTrial := true } } }

set_option maxRecDepth 20000 in
theorem witness_ReplacingTheModel :
    taken 0x0800 (mail []) live = true ∧
    (taken 0x0802 (mail []) live = true ∧ (bootRec live).modelTrial = false) ∧
    (taken 0x0802 (mail []) (onTrial { switching := true }) = true ∧ (bootRec (onTrial {})).modelTrial = true) ∧
    (malorWorks live = true ∧ live.time.ont + 5000000 < 9000000 ∧ tableSize live = 4096 ∧ nSubst countsImage = 1) ∧
    (inRun live = true ∧ live.host.ready = true ∧ ({ switching := true, staged := countsImage, passDone := true } : ModelSt).tsw ≤
      live.time.ont ∧ 0 < parN live 0x0720) ∧ countsImage ≠ [] := by decide

/-- A record of 40 bytes for sub-station 0 at T_MEAS 5, T_SUP and T_RET 0. -/
def substRec0 : Bytes := leBytes 2 0 ++ leBytes 2 3 ++ zeros 4 ++ leBytes 8 5 ++ zeros 24

/-- The part whose sub-station 0 has a source. -/
def substations (e : Entry) : State := modelled { image := countsImage, table := [(0, e)] }

theorem witness_SubstationWrites :
    (taken 0x0810 (mail ([1, 0, 0, 0] ++ substRec0)) (substations { present := true, source := 1 }) = true ∧
      substRec0.length = 40 ∧ substFail (substations { present := true, source := 1 }) substRec0 = none) ∧
    (taken 0x0810 (mail ([1, 0, 0, 0] ++ substRec0)) (substations { present := true, source := 1, tMeas := 4 }) = true ∧
      substFail (substations { present := true, source := 1, tMeas := 4 }) substRec0 = none ∧ live.time.ont = 0) ∧
    (taken 0x0810 (mail ([1, 0, 0, 0] ++ substRec0)) (substations { present := true, source := 1, tMeas := 5 }) = true ∧
      substFail (substations { present := true, source := 1, tMeas := 5 }) substRec0 = none) ∧
    (taken 0x0810 (mail (leBytes 2 2 ++ [0, 0] ++ substRec0 ++ (leBytes 2 9 ++ zeros 38)))
        (substations { present := true, source := 1 }) = true ∧
      substFail (substations { present := true, source := 1 }) (leBytes 2 9 ++ zeros 38) = some 0x0805) := by decide

/-- The live part with two queues. -/
def queues (a b : OxQueue) : State := { live with ox := { q := [a, b] } }

/-- A bench arm with a deadline at 0. -/
def benchArm : ArmReq := { prog := 10, iterLimit := 0, bench := true, deadline := 0, refact := false }

/-- A block header that every variant runs. -/
def header : BlockHead := { cycles := 100, bursts := 0, groups := 1 }

theorem witness_OxJobs :
    (oxCanRun live = true ∧ inRun live = true ∧ live.ox.q.length = 2 ∧ (oxq live 0).state = 0 ∧ (oxq live 1).state = 0 ∧
      deadlineReached live 5 = false ∧ deadlineReached live 0 = true) ∧
    ((oxq (queues {} { state := 2 }) 1).state = 2 ∧ oxCanRun (queues { state := 1 } { state := 2 }) = true ∧
      bit (oxq (queues { state := 1 } { state := 2 }) 1).sticky 8 = false ∧ blockOk live header = true ∧
      jobLate (queues { state := 1 } { state := 2, arm := { benchArm with deadline := 5 } }) 1 = false) ∧
    ((oxq (queues { state := 4 } {}) 0).next = none ∧ (oxq (queues { state := 4 } {}) 0).state = 4 ∧
      oxClock (queues { state := 4 } {}) = true) ∧
    (oxq (queues { state := 2 } {}) 0).state = 2 ∧ jobLate (queues { state := 2 } {}) 0 = true ∧
    blockOk live { header with groups := 0 } = false ∧
    (oxq (queues { state := 5 } {}) 0).state = 5 ∧ (oxq (queues {} { state := 3 }) 1).state = 3 := by decide

/-- A queue whose job is at a program call, with a deadline to come. -/
def calling (g : OxStage) : OxQueue := { state := 2, stage := g, arm := { benchArm with deadline := 5 } }

/-- A job whose residual of no component exceeds its tolerance, that of a norm below 0. -/
def atResidual : State := queues { calling .resid with normB := -1, refTol := 0 } {}

theorem atResidual_above : refTol (oxq atResidual 0) < residualNorm (oxFrame atResidual 0)
    (residualOf (oxFrame atResidual 0) [] [] []).1 := by
  have h : residualNorm (oxFrame atResidual 0) (residualOf (oxFrame atResidual 0) [] [] []).1 = 0 := by
    simp only [residualNorm, residualOf, vecOf, oxFrame, patN]
    rfl
  rw [h]
  simp [refTol, oxq, nth, atResidual, queues, calling, twoPow]

theorem witness_OxErrorsAndBench_programs :
    (jobRuns (queues (calling .fact) {}) 0 = true ∧ jobLate (queues (calling .fact) {}) 0 = false ∧
      blockOk (queues (calling .fact) {}) header = true ∧ live.ox.factor.length = 2) ∧
    (jobRuns (queues {} (calling .solve)) 1 = true ∧ (calling .solve).fresh = false ∧ (calling .solve).arm.bench = true) ∧
    ((calling .resid).refDone < (calling .resid).refSteps) ∧
    (jobRuns atResidual 0 = true ∧ jobLate atResidual 0 = false) ∧
    (pivotBad 24 0 false = true ∧ 2 ^ (31 - 24) ≤ (200 : Int).natAbs) := by decide

theorem witness_OxErrorsAndBench :
    (live.ox.q.length = 2 ∧ malorWorks live = true ∧ oxClock live = true ∧ live.power.islDown.contains 8 = false) ∧
    (taken 0x0710 (mail (leBytes 1 0 ++ zeros 3 ++ leBytes 4 500)) { live with model := { image := [1] } } = true ∧
      taken 0x0710 (mail (leBytes 1 1 ++ zeros 3 ++ leBytes 4 500)) { live with model := { image := [1] } } = true ∧
      unitActive live 9 0 = false ∧ nth 0 live.ox.factor 1 ≠ 1 ∧
      taken 0x0710 (mail (leBytes 1 1 ++ zeros 3 ++ leBytes 4 0)) live = true ∧ live.model.image = []) ∧
    (taken 0x0711 (mail []) (queues {} { state := 2, arm := benchArm }) = true ∧
      (oxq (queues {} { state := 2, arm := benchArm }) 1).arm.bench = true) ∧
    (taken 0x0711 (mail []) live = true ∧ (oxq live 1).state = 0) := by decide

/-- A part with OX and DISPATCH enabled. -/
def solver (e : EstSt) (d : DspSt) : State :=
  setUnit 9 0 { enabled := true } (setUnit 7 0 { enabled := true }
    { live with est := e, dsp := d, model := { image := [1] }, time := { live.time with pulse14 := some 7, pulse15 := some 9 } })

/-- The same part with a model switch that is due. -/
def switchingSolver : State :=
  { solver {} {} with model := { image := [1], staged := [2], switching := true, passDone := true, tsw := 0 } }

theorem witness_EstimationPeriod :
    (solving switchingSolver = true ∧ unitActive switchingSolver 7 0 = true ∧ switchingSolver.host.ready = true) ∧
    (solving (solver {} {}) = true ∧ unitActive (solver {} {}) 7 0 = true ∧ stopping (solver {} {}) 7 0 = false ∧
      (oxq (solver {} {}) 0).state = 0 ∧ (inputMap (solver {} {}) 0).kind = 0 ∧
      deadlineReached (solver {} {}) (7 + actN (solver {} {}) 0x0721 * 1000000 - 0) = false) ∧
    ((solver {} {}).model.switching = false ∧ inRun live = true ∧ (solver { phase := 3 } {}).est.buf.length = 3) ∧
    (solver { phase := 2, t0 := 0 } {}).est.t0 + 0 ≤ (solver {} {}).time.ont := by decide

/-- A converged job's result. -/
def jobDone : JobResult := { x := [1, 2], warm := [3] }

theorem converged_jobDone (s : State) : converged s jobDone = true := by
  have h : ∀ e : Int, 0 ≤ twoPow e := fun e => by
    unfold twoPow; split <;> positivity
  simp only [converged, jobDone, stopScale, mul_zero, add_zero, Bool.and_eq_true, decide_eq_true_eq]
  exact ⟨h _, h _⟩

theorem witness_DispatchPeriod :
    (solving (solver {} {}) = true ∧ enabled (solver {} {}) 9 0 = true ∧ malorWorks live = true) ∧
    deadlineReached (solver {} { building := true, tdl := 5 }) 5 = false ∧
    (isDegraded {} = false ∧ oxClock live = true ∧ jobLate (queues {} (calling .over)) 1 = false ∧
      jobLate (queues {} (calling .test)) 1 = false ∧ converged (solver {} { result := jobDone }) jobDone = true) ∧
    (plantRuns live = true ∧ deadlineReached live 0 = true ∧ live.dsp.last = none ∧ deadlineReached live 5 = false) :=
  ⟨by decide, by decide, ⟨by decide, by decide, by decide, by decide, converged_jobDone _⟩, by decide⟩

/-- An image with one store. -/
def storeImage : Bytes :=
  zeros 8 ++ leBytes 4 88 ++ zeros 244 ++ zeros 4 ++ leBytes 2 1 ++ zeros 2 ++ leBytes 2 1 ++ zeros 2 ++ leBytes 4 24 ++ leBytes 4 64 ++
    zeros 4 ++ zeros 9 ++ [1] ++ zeros 54

/-- The part with that model. -/
def stored : State := { live with model := { image := storeImage }, dsp := { live.dsp with charge := [(5, true)] } }

theorem witness_DispatchInputs :
    (taken 0x0910 (mail (leBytes 1 3 ++ [0] ++ leBytes 2 0 ++ leBytes 2 383 ++ leBytes 2 1 ++ zeros 4 ++ zeros 4)) live = true ∧
      inputTarget live.model.image 3 0 383 1 = true ∧ inputTarget live.model.image 3 0 383 2 = false ∧
      taken 0x0910 (mail (leBytes 1 3 ++ [0] ++ leBytes 2 0 ++ leBytes 2 383 ++ leBytes 2 2 ++ zeros 4 ++ zeros 8)) live = true) ∧
    (taken 0x0911 (mail (leBytes 8 0 ++ leBytes 2 384 ++ zeros 6)) live = true ∧ 0 % stepNs live = 0 ∧
      taken 0x0911 (mail (leBytes 8 0 ++ leBytes 2 385 ++ zeros 6)) live = true) ∧
    (taken 0x0912 (mail (leBytes 1 0 ++ zeros 3 ++ leBytes 4 0)) stored = true ∧ 0 < nStore stored.model.image ∧
      0 < stored.dsp.charge.length ∧ storeN stored 0 0 4 < 1) ∧
    taken 0x0912 (mail (leBytes 1 1 ++ zeros 3 ++ leBytes 4 0)) stored = true ∧ taken 0x0913 (mail []) live = true := by decide

/-- The part with LOOP unit 0 enabled, its source the position of axis 0. -/
def looped (x : LoopSt) (more : List (Nat × Int)) : State :=
  setUnit 10 0 { enabled := true } { live with
    loops := [x], axes := [{ valAt := some 0, pos := 5 }], host := { live.host with params := (0x2001, 4) :: (0x203A, 0) :: more } }

set_option maxRecDepth 20000 in
theorem witness_LoopEvaluation :
    (plantRuns (looped { started := true } []) = true ∧ loopInstant (looped { started := true } []) 0 = true ∧
      loopInstant (looped {} []) 1 = false ∧ enabled (looped { started := true } []) 10 0 = true ∧
      stopping (looped {} []) 10 0 = false ∧ standby (looped {} []) = false ∧ holdLine (looped {} []) = false ∧
      sourceValue (looped {} []) (par (looped {} []) 0x2001).toNat (par (looped {} []) 0x2002).toNat (par (looped {} []) 0x2003).toNat =
        some (5, 0) ∧ par (looped {} []) 0x2007 = 0 ∧ par (looped {} []) 0x2038 = 0 ∧ par (looped {} []) 0x2034 = 0) ∧
    (lp live 0 0x19 = 0 ∧ (2 ^ 21 : Int).natAbs / 2 ^ lpN live 0 0x1A < 63) := by decide

set_option maxRecDepth 20000 in
theorem witness_LoopStates :
    (holdLine { looped {} [] with pair := heldPair } = true ∧ standby { looped {} [] with pair := heldPair } = false) ∧
    (permitBit (looped {} []) 0 = false ∧ par { looped {} [] with host := live.host } 0x203A ≠ 0) ∧
    (par (looped {} [(0x2007, 1)]) 0x2007 = 1 ∧ 1 * 1000000 < 1000001) ∧
    (bit 2 1 = true ∧ sourceValue { looped { cause := 2, clearDue := 2 } [] with axes := [] } 4 0 0 = none) ∧
    (lp (looped { state := 2, feTmr := 9 } [(0x2038, 1), (0x2039, 0)]) 0 0x38 ≠ 0 ∧
      lp (looped {} [(0x2038, 1), (0x2039, 0)]) 0 0x39 * 1000 ≤ 9 * lp (looped {} [(0x2038, 1), (0x2039, 0)]) 0 0x00) ∧
    (malorWorks (looped {} []) = true ∧ 0 < (unitCount (looped {} []) 10).1 ∧ lp (looped {} []) 0 0x30 ≠ 1) ∧
    (taken 0x0A10 (mail (leBytes 1 0 ++ zeros 3 ++ leIntBytes 4 (-7))) (looped {} []) = true ∧
      taken 0x0A10 (mail (leBytes 1 9 ++ zeros 3 ++ leIntBytes 4 7)) (looped {} []) = true ∧
      enabled (looped {} []) 10 9 = false) ∧
    taken 0x0A11 (mail (leBytes 1 0 ++ leBytes 1 3 ++ zeros 2)) (looped {} []) = true ∧ live.pair.failsafe = false := by decide

/-- The part with MOTION unit 0 enabled. -/
def motion (x : AxisSt) (more : List (Nat × Int)) : State :=
  setUnit 11 0 { enabled := true } { live with axes := [x], enc := [7, 9], host := { live.host with params := more } }

set_option maxRecDepth 20000 in
theorem witness_AxisTicks :
    (plantRuns (motion {} []) = true ∧ enabled (motion {} []) 11 0 = true ∧ stopping (motion {} []) 11 0 = false ∧
      standby (motion {} []) = false ∧ holdLine (motion {} []) = false ∧ par (motion {} []) 0x3019 ≠ 0 ∧
      permitBit (motion {} []) 32 = false) ∧
    (par (motion {} [(0x3019, 0)]) 0x3019 = 0 ∧ par (motion {} [(0x3019, 0)]) 0x3000 = 0 ∧ par (motion {} [(0x3019, 0)]) 0x3011 = 1 ∧
      par (motion {} [(0x3000, 1), (0x3019, 0)]) 0x3000 ≠ 0 ∧ par (motion {} []) 0x3009 ≤ 0 ∧ 0 ≤ par (motion {} []) 0x300A) ∧
    (ap (motion { doing := 2 } [(0x3000, 1)]) 0 0 = 1 ∧ (nth {} (motion {} []).pins.step 3).level = false ∧
      padFilter (motion {} []) 15 ≤ 0 + 2500 ∧ (motion {} []).pins.encA.length = 2 ∧
      padFilter { motion {} [] with mgmt := { live.mgmt with padCfg := List.replicate 20 0x400 } } 15 = 2500 ∧ apN (motion {} [(0x3000, 1)]) 0 1 = 0) ∧
    (ap (motion { armed := true, armPos := 8 } [(0x3000, 2)]) 0 0 = 2 ∧ (motion {} []).enc[0]? = some 7) ∧
    (ap (motion {} []) 0 0x16 ≠ 0 ∧ 0 < (unitCount (motion {} []) 11).1 ∧ malorWorks (motion {} []) = true ∧
      apN (motion {} []) 0 0x14 * 4294967296 < 10 ^ 15) := by decide

set_option maxRecDepth 20000 in
theorem witness_MotionCommands :
    (taken 0x0B10 (mail (leBytes 1 0 ++ zeros 3 ++ leIntBytes 4 (-9))) (motion { uncertain := false } []) = true ∧
      ap (motion {} []) 0 0 = 0 ∧ ap (motion {} []) 0 9 ≤ -9 ∧ -9 ≤ ap (motion {} []) 0 10 ∧ live.pair.failsafe = false) ∧
    (axisOf (motion {} []) 0).uncertain = true ∧
    (taken 0x0B11 (mail (leBytes 1 0 ++ zeros 3)) (motion { doing := 1 } []) = true ∧
      taken 0x0B11 (mail (leBytes 1 16 ++ zeros 3)) (motion {} []) = true) ∧
    (taken 0x0B12 (mail (leBytes 1 0 ++ leBytes 1 1 ++ zeros 2 ++ leIntBytes 4 5)) (motion { state := 1 } []) = true ∧
      (axisOf (motion {} []) 0).state = 0) ∧
    (taken 0x0B13 (mail (leBytes 1 0 ++ [0] ++ leBytes 2 3 ++ leIntBytes 2 (-1) ++ zeros 2 ++ leBytes 4 7))
        (motion { uncertain := false } [(0x3000, 2)]) = true ∧ ap (motion {} [(0x3000, 2)]) 0 0 = 2 ∧
      nth 0 (motion {} [(0x3000, 2)]).enc (apN (motion {} [(0x3000, 2)]) 0 1) = 7) ∧
    taken 0x0B14 (mail (leBytes 1 0 ++ leBytes 1 3 ++ zeros 2)) (motion { cause := 1 } []) = true := by decide

/-- The part with LOGIC unit 0 enabled. -/
def scanning (l : LogicSt) : State := setUnit 12 0 { enabled := true } { live with logic := l }

set_option maxRecDepth 20000 in
theorem witness_LogicScans :
    (plantRuns (scanning { mode := 1 }) = true ∧ scanInstant (scanning { mode := 1 }) = true ∧
      scanInstant { scanning {} with power := { live.power with netTick := 1 } } = false ∧ isl (scanning { mode := 1 }) 5 = .on ∧ enabled (scanning { mode := 1 }) 12 0 = true ∧
      standby (scanning { mode := 1 }) = false ∧ holdLine (scanning { mode := 1 }) = false) ∧
    (standby { scanning { mode := 1 } with pair := { live.pair with running := true } } = true ∧ live.pair.period = none) ∧
    (holdLine { scanning { mode := 1 } with pair := heldPair } = true ∧
      standby { scanning { mode := 1 } with pair := heldPair } = false) ∧
    (enabled live 12 0 = false ∧ live.logic.mode = 0 ∧ isl live 5 = .on) := by decide

theorem witness_LogicInstructions :
    ((4 * 4096 + 1023) / 4096 = 4 ∧ (4 * 4096 + 1023) % 4096 < areaBits 4 ∧ areaBits 1 = 24 ∧ areaBits 2 = 576 ∧ areaBits 3 = 4096) ∧
    (∃ y, ({} : LogicSt).timers[255]? = some y) ∧ (∃ y, ({} : LogicSt).counters[255]? = some y) :=
  ⟨by decide, ⟨{}, by rfl⟩, ⟨{}, by rfl⟩⟩

/-- Aplar slot B on trial, the program of R412's smallest size in slot A. -/
def aplarTrial : State :=
  { scanning { mode := 3 } with mgmt := { live.mgmt with bootB := bootBytes { seq := 1, aplarActive := true, aplarTrial := true } } }

set_option maxRecDepth 20000 in
theorem witness_LogicCommands :
    (taken 0x0C10 (mail (leBytes 1 2 ++ zeros 3)) (scanning {}) = true ∧ live.pair.failsafe = false ∧ enabled (scanning {}) 12 0 = true) ∧
    (taken 0x0C10 (mail (leBytes 1 3 ++ zeros 3)) live = true ∧ enabled live 12 0 = false) ∧
    (taken 0x0C11 (mail (leBytes 1 255 ++ zeros 3)) (scanning { mode := 3 }) = true ∧
      taken 0x0C11 (mail (leBytes 1 0 ++ zeros 3)) (scanning {}) = true) ∧
    (taken 0x0C12 (mail (leBytes 1 7 ++ zeros 3 ++ leBytes 4 9 ++ leBytes 4 8)) (scanning {}) = true ∧
      taken 0x0C12 (mail (leBytes 1 8 ++ zeros 3 ++ leBytes 4 9 ++ leBytes 4 8)) live = true) ∧
    (taken 0x0C15 (mail []) aplarTrial = true ∧ (bootRec aplarTrial).aplarTrial = true ∧ taken 0x0C15 (mail []) live = true ∧
      (bootRec live).aplarTrial = false) := by decide

/-- The part with every ADC unit enabled. -/
def sampling (a : AdcSt) : State :=
  (upTo 27).foldl (fun s u => setUnit 13 u { enabled := true } s) { live with adc := a }

set_option maxRecDepth 20000 in
theorem witness_AcquisitionChannels :
    (meterRuns (sampling { ch := [{ running := true, count := 17 }] }) = true ∧ sdInstant (sampling {}) 0 = true ∧ parN (sampling {}) 0x3800 < 4) ∧
    plantRuns (sampling { ref := { on := true } }) = true ∧
    (malorWorks (sampling { ch := [{ running := true }] }) = true ∧ enabled (sampling {}) 13 0 = true ∧
      par (sampling {}) 0x3801 = 1 ∧ calDue (sampling {}) {} = true ∧ calDue (sampling {}) { calAt := some 0 } = false ∧ par (sampling {}) 5 ≠ 1 ∧ (sampling {}).power.cur = .run ∧ (sampling {}).mgmt.shed < 2) ∧
    (0 < (5242880 : Int) - 0 ∧ divRound (5 * 2 ^ 53) (6 * ((5242880 : Int) - 0)).toNat < 2 ^ 32 ∧ parN (sampling {}) 0x0D01 = 120) ∧
    (taken 0x0D12 (mail (leBytes 1 0 ++ zeros 3)) (sampling { ch := [{ running := true }] }) = true ∧
      malorWorks (takenState 0x0D12 (mail (leBytes 1 0 ++ zeros 3)) (sampling { ch := [{ running := true }] })) = true ∧
      taken 0x0D12 (mail (leBytes 1 24 ++ zeros 3)) live = true ∧ taken 0x0D13 (mail []) live = true) := by decide

/-- Malor's coefficients of one slice that moves by an eighth. -/
def heard : WavSt := { on := true, winCnt := 7 }

set_option maxRecDepth 20000 in
theorem witness_FastCaptures :
    (plantRuns (sampling { wav := [heard, {}] }) = true ∧ par (sampling {}) 0x3B01 = 1 ∧ malorWorks (sampling {}) = true) ∧
    (taken 0x0D10 (mail (leBytes 1 0 ++ leBytes 1 1 ++ leBytes 1 9 ++ leBytes 1 7 ++ leIntBytes 2 0 ++ zeros 2 ++ leBytes 4 16384 ++
      leBytes 4 1048512 ++ leBytes 1 2 ++ zeros 3)) (sampling {}) = true ∧ enabled (sampling {}) 13 24 = true) ∧
    (taken 0x0D11 (mail (leBytes 1 1 ++ zeros 3)) (sampling {}) = true ∧ enabled live 13 24 = false ∧
      taken 0x0D11 (mail (leBytes 1 0 ++ zeros 3)) live = true) ∧ 2 < (sampling {}).adc.slots.length := by decide

/-- The worked example of "Analogue acquisition": the first instant of a capture from trigger unit 9 at ONT T. -/
theorem test_capture_first_ont :
    (wavOf (captureTrigger 0 100000000012 40 16384 0 0
      { live with adc := { wav := [{ on := true, cap := {
          state := 1, start := 1, unit := 9, k := 7, pre := 16384, n := 1048512, slot := 2, pulse := some false } }, {}] } }) 0).cap.firstOnt = 100000000000 - 52429788 := by decide

/-- The part with meters as given. -/
def metering (u : List MeterUnit) (more : MeterSt → MeterSt) : State :=
  { live with meter := more { live.meter with units := u } }

set_option maxRecDepth 20000 in
theorem witness_MeterStep :
    (meterRuns (metering [{ run := true, skip := true }] id) = true ∧ stepInstant live = true ∧
      stepInstant { live with power := { live.power with netTick := 1 } } = false ∧ isl live 6 = .on ∧ standby live = false ∧
      live.meter.lossDue = [] ∧ live.meter.saveDue = false) ∧
    ((metering [{ run := true }] id).meter.acc.length = 26 ∧ (metering [{ run := true }] id).meter.res.length = 26) ∧
    (par live 0x4200 = 1 ∧ par live 0x4000 = 400000) ∧ taken 0x0E10 (mail []) live = true ∧
    (actN live 0x4600 = 255 ∧ actN live 0x4601 = 0 ∧ 0 < actN live 0x4602 ∧ live.meter.pulses[0]? = some ({} : Pulse)) := by decide

set_option maxRecDepth 20000 in
theorem witness_MeterRecords :
    (plantRuns live = true ∧ meterRuns live = true ∧ stepInstant live = true ∧ isl live 6 = .on ∧ standby live = false) ∧
    malorWorks { live with mgmt := { live.mgmt with malorRuns := false } } = false ∧
    (malorWorks live = true ∧ 2 ≤ (live.recorder.save.filter posUsable).length ∧ live.snapWait = []) ∧
    (∀ u ∈ live.meter.units, u.run = false) ∧ taken 0x0E11 (mail []) live = true ∧
    (taken 0x0E12 (mail (leBytes 1 2 ++ leBytes 1 3 ++ zeros 6 ++ leBytes 8 77)) live = true ∧ unitActive live 14 2 = false ∧
      3 < meterQty 2) ∧
    (taken 0x0E12 (mail (leBytes 1 2 ++ leBytes 1 4 ++ zeros 6 ++ leBytes 8 77)) live = true ∧ meterQty 2 ≤ 4) := by decide

/-- The part with CAN unit 0 enabled, object 0 a receive object, object 1 a transmit object without a permit. -/
def bussed (x : CanSt) (more : List (Nat × Int)) : State :=
  setUnit 15 0 { enabled := true } { live with
    can := [x], power := { live.power with isl := live.power.isl.set 4 .on, netTick := 125 }, host := { live.host with params := [(0x4C00, 1), (0x4C08, 2), (0x4C0D, 2), (0x4C0F, 0)] ++ more } }

/-- A base data frame of identifier 0. -/
def frame0 : CanFrame :=
  { ide := false, ident := 0, remote := false, fdf := false, brs := false, esi := false, dlc := 8, data := zeros 8, ts := 5 }

set_option maxRecDepth 20000 in
theorem witness_CanFrames :
    (canOnBus (bussed { state := 2 } []) 0 = true ∧ objAccepts (bussed { state := 2 } []) 0 0 frame0 = true ∧
      objAccepts (bussed { state := 2 } []) 0 0 { frame0 with ident := 1 } = false) ∧
    (canOnBus (bussed { state := 2, cur := some (1, zeros 8) } [(0x4808, 1), (0x4C0B, 3)]) 0 = true ∧
      (act (bussed {} [(0x4808, 1), (0x4C0B, 3)]) 0x4808 == 1 && bit (op (bussed {} [(0x4808, 1), (0x4C0B, 3)]) 0 1 3) 0) = true) ∧
    (act (bussed {} []) 0x480B = 1 ∧ 255 < 250 + 8) ∧
    (op (bussed {} []) 0 1 0 = 2 ∧ op (bussed {} []) 0 1 5 ≠ 0 ∧ objState (bussed {} []) 0 1 = 1 ∧ objState live 0 1 = 0 ∧
      canRuns (bussed {} []) = true ∧ canInstant (bussed {} []) 0 1 = true ∧ canInstant live 0 1 = false) ∧
    canBest (bussed { objs := [(1, { pending := true })] } []) 0 = some 1 := by decide

set_option maxRecDepth 20000 in
theorem witness_CanControl :
    (canRuns (bussed { state := 1 } []) = true ∧ plantRuns (bussed {} []) = true ∧ enabled (bussed {} []) 15 0 = true ∧ inRun (bussed {} []) = true) ∧
    (unitSt (setUnit 15 0 { stopping := true, pend := some 4 } (bussed { state := 5 } [])) 15 0 = { stopping := true, pend := some 4 }) ∧
    (taken 0x0F11 (mail (leBytes 1 0 ++ zeros 3)) (bussed { state := 4 } []) = true ∧
      taken 0x0F11 (mail (leBytes 1 4 ++ zeros 3)) live = true) ∧
    (taken 0x0F10 (mail (leBytes 1 0 ++ leBytes 1 1 ++ leBytes 1 4 ++ leBytes 1 4 ++ [1, 2, 3, 4])) (bussed { state := 2 } []) = true ∧
      4 + 4 ≤ objLen (bussed {} []) 0 1 ∧ op (bussed {} []) 0 0 0 ≠ 2) ∧
    (taken 0x0F10 (mail (leBytes 1 0 ++ leBytes 1 0 ++ leBytes 1 0 ++ leBytes 1 1 ++ [1])) (bussed {} []) = true) := by decide

/-- The part with every NET unit enabled and link on port 0. -/
def networked (more : List (Nat × Int)) : State :=
  setUnit 16 0 { enabled := true } (setUnit 16 2 { enabled := true } { live with
    net := { live.net with ports := [{ link := true }, {}] }, host := { live.host with params := more } })

/-- A frame, with its FCS, that carries a datagram of 64 zero bytes to 10.0.0.1. -/
def dgram : Bytes :=
  let b : Bytes := List.replicate 6 0xFF ++ zeros 6 ++ [8, 0] ++ [69, 0, 0, 92, 0, 0, 0, 0, 64, 17, 102, 136, 10, 0, 0, 9, 10, 0, 0, 1] ++
    [0, 9] ++ (leBytes 2 (actN live 0x1000)).reverse ++ [0, 72, 0, 0] ++ zeros 64
  b ++ fcsOf b

/-- An ARP request for 10.0.0.1. -/
def arp : Bytes :=
  let b : Bytes := List.replicate 6 0xFF ++ zeros 6 ++ [8, 6, 0, 1, 8, 0, 6, 4, 0, 1] ++ zeros 16 ++ [10, 0, 0, 1] ++ zeros 18
  b ++ fcsOf b

/-- The same with a model of one sub-station in group 7, an epoch and a valid time, and a broadcast set. -/
def broadcasting : State :=
  let s := networked [(0x6004, 0x0A000001), (0x1003, 1), (0x1004, 0xE0000001)]
  { s with
    model := { s.model with table := [(0, { present := true, group := 7, source := 2 })] }
    sec := { s.sec with slots := s.sec.slots.set 20 { (nth {} s.sec.slots 20) with type := 1 } }
    time := { s.time with valid := true }, net := { s.net with last := some (3, [1]) } }

set_option maxRecDepth 20000 in
theorem witness_NetworkIngest :
    (portUp (networked []) 0 = true ∧ enabled (networked []) 16 2 = true ∧ (networked []).net.rej.length = 8 ∧
      0 < parN (networked []) 0x6009 ∧ par (networked [(0x6009, 0)]) 0x6009 = 0) ∧
    portUp live 0 = false ∧
    (plantRuns (networked []) = true ∧ (networked []).net.last = none) ∧
    (inRun broadcasting = true ∧ enabled broadcasting 16 2 = true ∧ bcastPos broadcasting = some 0 ∧ grant broadcasting = true ∧
      holdLine broadcasting = false ∧ bcastGroups broadcasting = [7] ∧ actN broadcasting 0x1003 = 1 ∧ portUp broadcasting 0 = true ∧
      actN broadcasting 0x6004 ≠ 0 ∧ actN broadcasting 0x1004 ≠ 0 ∧ allZero (tab broadcasting 0x1005) = true) := by decide

set_option maxRecDepth 100000 in
theorem witness_frame_kinds :
    frameKind (networked [(0x6004, 0x0A000001)]) 0 dgram = .telemetry (zeros 64) ∧
      frameKind (networked [(0x6004, 0x0A000001)]) 0 arp = .address 0 [10, 0, 0, 1] ∧
      frameKind (networked []) 0 arp = .unserved ∧ frameKind live 0 (zeros 64) = .badFcs ∧
      frameKind live 0 (zeros 1523) = .long := by decide

/-- The part with PAIR unit 0 running. -/
def paired (f : PairSt → PairSt) : State :=
  setUnit 0x11 0 { enabled := true } { live with pair := f { live.pair with running := true } }

set_option maxRecDepth 20000 in
theorem witness_PairRoles :
    (holdOver (paired fun p => { p with holdTick := 0 }) = false ∧
      holdOver { paired id with power := { live.power with netTick := 2 ^ 40 } } = true ∧ beatInstant (paired id) = true ∧
      isl (paired id) 5 = .on ∧ beatInstant { paired id with power := { live.power with netTick := 1 } } = false ∧
      plantRuns (paired id) = true ∧ (paired id).pair.grant = false ∧ (paired (fun p => { p with hold := true })).pair.hold = true) ∧
    (enabled (setUnit 12 0 { enabled := true } (paired id)) 12 0 = true ∧ live.logic.mode ≠ 2) ∧
    (live.mgmt.shed < 8 ∧ live.pair.count < 256 ∧ live.pair.cause < 16) ∧
    (taken 0x1111 (mail (zeros 4)) (paired id) = true ∧ enabled (paired id) 0x11 0 = true ∧
      taken 0x1111 (mail (zeros 4)) live = true ∧ enabled live 0x11 0 = false) ∧
    (taken 0x1110 (mail []) live = true ∧ taken 0x1112 (mail []) (paired id) = true) := by decide

/-- A unit with a strait key in position 0 of epoch 1 and a link. -/
def straited (f : PairSt → PairSt) : State :=
  let s := paired (fun p => f { p with link := some (3, 0) })
  { s with sec := { s.sec with slots := s.sec.slots.set 22 { (nth {} s.sec.slots 22) with type := 1, bind := 2 }, epochs := s.sec.epochs.set 2 1 } }

/-- A LIST frame of 16 bytes from unit B under epoch 1. -/
def listFrame1 : Bytes := straitHead 2 (2 ^ 31) 1 1 16 1 ++ zeros 32

set_option maxRecDepth 20000 in
theorem witness_PairStrait :
    (mirrorInstant (straited id) = true ∧ mirrorInstant { straited id with power := { live.power with netTick := 1 } } = false ∧
      slotOk (straited id) 22 1 = true ∧ inRun (straited id) = true ∧ straitPos (straited id) = some 0 ∧ (paired id).pair.link = none) ∧
    (straitFormOk listFrame1 = true ∧ straitUnitOk (straited id) listFrame1 = true ∧ straitKey (straited id) listFrame1 = some 0 ∧
      straitFormOk [] = false ∧ straitKey (straited id) (straitHead 2 (2 ^ 31) 1 2 16 1 ++ zeros 32) = none) ∧
    (lookupNat (byteField listFrame1 4 4) (straited (fun p => { p with peerLinks := [(2 ^ 31, 0)] })).pair.peerLinks = some (1 - 1) ∧
      byteField listFrame1 8 8 = 1 ∧ byteField listFrame1 3 1 = 2 ∧ bit (byteField listFrame1 0x16 2) 0 = true) ∧
    (paired (fun p => { p with straitUp := true })).pair.straitUp = true := by decide

set_option maxRecDepth 20000 in
/-- R518: the CRC-8 check value over the ASCII string 123456789. -/
theorem test_crc8_check : (crc8 [0x31, 0x32, 0x33, 0x34, 0x35, 0x36, 0x37, 0x38, 0x39]).toNat = 0xF4 := by decide

/-- The part with its recorder rebuilt and changed as given. -/
def recording (f : RecorderSt → RecorderSt) : State :=
  { live with recorder := f { live.recorder with rebuilt := true } }

/-- A record in the buffer; FLAGS as given. -/
def rec1 (fl : Nat) : Rec := { code := 0x0813, flags := fl, source := 49, seq := 3, ont := 0, p1 := 0, p2 := 0, p3 := 0 }

set_option maxRecDepth 20000 in
theorem witness_RecorderWriting :
    (served live = true ∧ live.recorder.rebuilt = false ∧ (recording id).recorder.circ[0]? = some { sector := 5 } ∧
      (recording id).recorder.seqHigh = (recording id).recorder.seqAon / 2 ^ 32) ∧
    (flushDue { recording (fun r => { r with buf := [rec1 0] }) with time := { live.time with ont := 10 ^ 12 } } = true ∧ flushDue (recording id) = false) ∧
    (nextPos (recording id).recorder.circ 0 = some 1 ∧ (recording (fun r => { r with buf := [rec1 0] })).recorder.buf = [rec1 0]) ∧
    (bit (rec1 1).flags 0 = true ∧ writerRuns live = true ∧ posUsable { sector := 5 } = true) ∧
    (wearWorks (recording id) = true ∧ failedPos (recording (fun r => { r with circ := [{ sector := 5, good := false, relocPending := true }] })).recorder = [(0, 0)] ∧
      (recording id).recorder.spare.head? = some (46, 0)) ∧
    ((46, 0) ∈ freeSpares (recording id).recorder ∧
      (ringOf (recording (fun r => { r with circ := [{ sector := 5, erases := 20001 }] })).recorder 0)[0]? = some { sector := 5, erases := 20001 }) ∧
    (recording id).recorder.status.length < 2047 := by decide

set_option maxRecDepth 20000 in
theorem witness_RecorderReading :
    (taken 0x1210 (mail (leBytes 1 0 ++ leBytes 1 30 ++ zeros 2 ++ leBytes 4 0)) live = true ∧
      signedDiff 32 0 (newest live.recorder) ≤ 1 ∧ 1 < signedDiff 32 1 (newest live.recorder)) ∧
    (taken 0x1210 (mail (leBytes 1 0 ++ leBytes 1 29 ++ leBytes 1 1 ++ zeros 1 ++ leBytes 4 0)) live = true ∧ live.sec.rootOk = false) ∧
    taken 0x1210 (mail (leBytes 1 1 ++ leBytes 1 1 ++ zeros 2 ++ leBytes 4 8192)) live = true ∧
    taken 0x1211 (mail (zeros 16 ++ zeros 16)) live = true ∧ taken 0x1211 (mail []) live = true ∧
    (taken 0x1200 (mail []) live = true ∧ goodCount live.recorder.circ < 64 ∧ goodCount live.recorder.save < 16) := by decide

/-- The part with DISPLAY unit 0 enabled and its controller changed as given. -/
def showing (f : DispSt → DispSt) : State :=
  setUnit 0x13 0 { enabled := true } { live with disp := f { live.disp with state := 1 } }

/-- An update of the top left corner. -/
def upd1 : DispUpd := { num := 1, full := true, x0 := 0, y0 := 0, w := 8, h := 8 }

set_option maxRecDepth 20000 in
theorem witness_DisplayCommands :
    (taken 0x1310 (mail (leBytes 2 1278 ++ leBytes 2 959 ++ leBytes 2 2 ++ zeros 2 ++ zeros 1)) (showing id) = true ∧
      enabled (showing id) 0x13 0 = true ∧ parN (showing id) 0x1300 = 1280 ∧ parN (showing id) 0x1301 = 960 ∧ enabled live 0x13 0 = false) ∧
    (taken 0x1312 (mail (leIntBytes 2 (-2000) ++ zeros 2)) (showing id) = true ∧ par (showing id) 0x130A = 0) ∧
    (tempValid live = none ∧ tempValid (showing (fun d => { d with hostTemp := some (1480, 0) })) = some 1480 ∧
      bandNow (showing (fun d => { d with hostTemp := some (1480, 0) })) = (0, false, false)) ∧
    (taken 0x1311 (mail (leBytes 1 0 ++ zeros 3 ++ leBytes 2 1272 ++ leBytes 2 952 ++ leBytes 2 8 ++ leBytes 2 8)) (showing id) = true ∧
      (0 + 1) * (8 * 8 * 1000) ≤ 128 * frameTime (showing id)) ∧
    (showing (fun d => { d with shownKnown := true, state := 4 })).disp.clearDue = false := by decide

set_option maxRecDepth 20000 in
theorem witness_DisplayEngine :
    (showing (fun d => { d with cur := some upd1, state := 3, frames := 2 })).disp.railFail = none ∧
    (showing (fun d => { d with powerStep := 5 })).disp.powerStep = 5 ∧
    (showing (fun d => { d with powerStep := 6, cur := some upd1 })).disp.powerStep = 6 ∧
    (showing (fun d => { d with dscStep := 6, railFail := some (3, 1, 900), cur := some upd1, state := 5 })).disp.queued = none ∧
    (bit (showing (fun d => { d with good := 15, cur := some upd1 })).disp.good 3 = true ∧ inRun (showing id) = true ∧ isl (showing id) 10 = .on) := by decide

set_option maxRecDepth 20000 in
/-- The worked example of chapter 22: at DISP_VCOM -1,500 mV the DAC is set to 750 mV. -/
theorem test_vcom_set :
    (railGood (showing (fun d => { d with powerStep := 5 }))).disp.vcomSet = 750 := by decide

theorem witness_StepRunsFrontCommand :
    ({ live with pending := [.pfailNFall] } : State).pending = .pfailNFall :: [] ∧ State.reset.power.phase = .porLow ∧
      live.power.phase ≠ .porLow ∧ live.pending = [] ∧
      mailDue live = none ∧ mailDue { live with host := { live.host with rung := [3] } } = some 3 ∧
      (∀ x ∈ live.loops, x.changes = 0) ∧ (∀ x ∈ live.axes, x.changes = 0) := by decide

set_option maxRecDepth 20000 in
theorem witness_StepKeepsQueueAndRails : OppOrdered live := ⟨by decide, by decide⟩

set_option maxRecDepth 20000 in
theorem witness_StepKeepsRecordsAndMailboxes : HostRecOk live ∧ step live = .next (idleTick live) := ⟨⟨by decide, by decide⟩, rfl⟩

/-! ### Well-formedness: one ill-formed term for each check -/

theorem test_wf_mail : (mail []).wf = true ∧ (Instr.paramRead (mail [])).wf = true := by decide

set_option maxRecDepth 20000 in
theorem test_wf_mail_refuses :
    ({ mail [] with mbox := 8 } : Mail).wf = false ∧ ({ mail [] with flags := 65536 } : Mail).wf = false ∧
    ({ mail [] with seq := 2 ^ 32 } : Mail).wf = false ∧ ({ mail [] with len := 65536 } : Mail).wf = false ∧
    ({ mail [] with rsv1 := [] } : Mail).wf = false ∧ ({ mail [] with session := 2 ^ 32 } : Mail).wf = false ∧
    ({ mail [] with rsv2 := [] } : Mail).wf = false ∧ ({ mail [] with payload := zeros 993 } : Mail).wf = false ∧
    (Instr.unknownCommand 65536 (mail [])).wf = false ∧ (Instr.unknownCommand 1 { mail [] with mbox := 8 }).wf = false := by decide

set_option maxRecDepth 20000 in
theorem test_wf_can_refuses :
    (CanFrame.wf ⟨false, 2048, false, false, false, false, 0, [], 0⟩ = false) ∧
    (CanFrame.wf ⟨true, 2 ^ 29, false, false, false, false, 0, [], 0⟩ = false) ∧
    (CanFrame.wf ⟨true, 2048, false, false, false, false, 16, [], 0⟩ = false) ∧
    (CanFrame.wf ⟨false, 5, false, false, false, false, 9, zeros 9, 0⟩ = false) ∧
    (CanFrame.wf ⟨false, 5, false, true, false, false, 15, zeros 65, 0⟩ = false) ∧
    (CanFrame.wf ⟨false, 5, false, true, false, false, 15, zeros 64, 0⟩ = true) ∧
    (Instr.canFrameReceived 4 ⟨false, 5, false, false, false, false, 0, [], 0⟩).wf = false := by decide

theorem test_wf_announce_refuses :
    ({ gmPriority1 := 256 } : Announce).wf = false ∧ ({ gmClass := 256 } : Announce).wf = false ∧
    ({ gmPriority2 := 256 } : Announce).wf = false ∧ ({ gmId := 2 ^ 64 } : Announce).wf = false ∧
    ({ stepsRemoved := 65536 } : Announce).wf = false ∧ (Instr.ptpAnnounceReceived 2 {}).wf = false := by decide

theorem test_wf_start_refuses :
    ({ stall := 16 } : StartIn).wf = false ∧ ({ torn := [3] } : StartIn).wf = false ∧ ({ cut := [(2, 0)] } : StartIn).wf = false ∧
    ({ cut := [(0, 33)] } : StartIn).wf = false ∧ ({ temps := List.replicate 7 0 } : StartIn).wf = false ∧
    ({ mvs := List.replicate 9 0 } : StartIn).wf = false ∧ ({} : StartIn).wf = true ∧ (Instr.watchdogExpiry { stall := 16 }).wf = false := by decide

set_option maxRecDepth 20000 in
theorem test_wf_numbers_refuse :
    ([.pllUnlock 5, .wdtKick (2 ^ 32), .tempThresholdCross [], .loadWindowEnd 101, .ethLinkWake 2, .canWake 4, .wakeFrame 2 (zeros 16),
      .netAddressRequest 2 [] [] [], .registerWrite false (2 ^ 25) [] [],
      .registerWrite false 0 (zeros 257) [], .captureEdge 16 ⟨true, 0⟩, .coarseStepEdge 4 ⟨true, 0, true⟩, .islandWakeDone 12, .evtStatusWrite 4 0, .evtMaskWrite 0 (2 ^ 32), .wakeLatchClear 8192, .padGrpCfgWrite 20 0,
      .padGrpCfgWrite 0 (2 ^ 32), .oxQqAbort 2, .ptpSyncReceived 2 0 0 0, .triggerFire 16, .rtcTimeWrite 2 0, .rtcTimeWrite 0 (2 ^ 32),
      .rtcAlmCtrlWrite 2 0, .rtcAlmCtrlWrite 0 (2 ^ 32), .rtcAlarm 2, .loopSample 32, .axisTick 16 [], .axisTick 0 [(2 ^ 24, 1)],
      .homingDistFault 16, .loopMemoryEcc 32 0, .loopMemoryEcc 0 (2 ^ 20), .encoderEdge 2 ⟨true, false, 0⟩, .logicScan [(2 ^ 24, 1)],
      .sdOutputInstant 24 0 false, .supplyMonitorFault 8 0 true, .supplyMonitorFault 0 65536 true] : List Instr).all
      (fun c => !c.wf) = true := by decide

theorem test_wf_numbers_refuse_more :
    ([.refSettleStep 0, .refSettleStep 7, .captureTrigger 2 0 0 ⟨0, 0, 0⟩, .pulseTimer 8, .canPeriodicTrigger 4 0, .canPeriodicTrigger 0 128,
      .frameDiscarded 2 [], .oxJobEnd 2 0, .pdelayReqReceived 2 0 ⟨0, 0⟩, .norSectorFail 2 0 0, .norSectorFail 0 0 3, .staticLevelling 2 0, .railLost 4 0,
      .dramError 0 (2 ^ 36), .busError (2 ^ 36), .scrubUncorrectable 3 ⟨0, 0, {}⟩, .scrubUncorrectable 0 ⟨2 ^ 36, 0, {}⟩,
      .pcieConfigWrite .vecMask 65536 0, .pcieConfigWrite .bar0 0 16, .mgmtCodeFault ⟨2 ^ 36, true, {}⟩,
      .keyCacheRefillDone 2, .meterConfigRewriteDone 6] : List Instr).all (fun c => !c.wf) = true := by decide

/-! ### Worked examples of the spec -/

/-- The command of "writing parameters" (05_host_interface_mailboxes.md): 0x0101 := 90 and 0x0102 := `lo` through mailbox 3. -/
def shedMail (lo : Nat) : Mail :=
  { mail (leBytes 2 2 ++ zeros 2 ++ leBytes 2 0x0101 ++ zeros 2 ++ leBytes 8 90 ++ leBytes 2 0x0102 ++ zeros 2 ++ leBytes 8 lo) with
    mbox := 3, seq := 0x41 }

set_option maxRecDepth 20000 in
theorem test_param_write_example : ∃ t, exec (.paramWrite (shedMail 70)) live = .next t ∧ par t 0x0101 = 90 ∧ par t 0x0102 = 70 ∧
    t.host.done.getLsbD 3 = true ∧ t.host.evtStatus.getLsbD 8 = true ∧
    (nth [] t.host.mbox 3).take 24 = leBytes 2 0x0211 ++ leBytes 2 2 ++ leBytes 4 0x41 ++ zeros 16 := by
  refine ⟨_, rfl, ?_⟩; decide

set_option maxRecDepth 20000 in
theorem test_param_write_refused : ∃ t, exec (.paramWrite (shedMail 85)) live = .next t ∧ par t 0x0101 = par live 0x0101 ∧
    ((nth [] t.host.mbox 3).drop 16).take 6 = leBytes 2 2 ++ leBytes 2 0x0105 ++ leBytes 2 0x0102 := by
  refine ⟨_, rfl, ?_⟩; decide

/-- "A spring change at Brank Sound" (12_rtc_calendar.md): the day number, its weekday and the two time words. -/
theorem test_rtc_spring_change :
    dayNumber { year := 31, month := 3, day := 30 } = 11411 ∧ weekday 11411 = 6 ∧
    rtcTime0 { tick := 6553, sec := 58, min := 59 } = 0x3B3A1999 ∧
    rtcTime1 { hour := 1, wday := 6, day := 30, month := 3, year := 31 } = 0x0F831EC1 := by decide

/-- "A step across boundaries" (11_network_time.md) with T at 2 s: trigger 3 after ONT stepped to T + 1.5125 s. -/
def steppedTrigger : State :=
  { live with time := { live.time with
      ont := 3512500000
      trg := live.time.trg.set 3 { armed := true, periodic := true, target := 3000000000, period := 250000000, width := 1000 } } }

theorem test_trigger_jumped_over :
    ((trgLate 3 steppedTrigger).time.trg[3]?).map (fun t => (t.target, t.skipLast, t.lateLast)) = some (3750000000, 2, true) := by decide

/-- "One sample of a supply-temperature loop" (13_control_loops.md), on loop 0. -/
def heatLoop : State :=
  let s := looped { s1 := 1000000000, drive := 1019327675 } [(0x2008, 109952995), (0x2010, 8), (0x2009, -109951163), (0x2011, 8),
    (0x200C, -1), (0x2014, 0), (0x2004, 16), (0x201A, 4), (0x2026, 12500), (0x2021, 0), (0x2022, 2147483647)]
  { s with host := { s.host with tables := [(0x201B, zeros 8 ++ leBytes 4 65536 ++ leBytes 4 98304 ++ zeros 240)] } }

set_option maxRecDepth 20000 in
theorem test_loop_example :
    loopGain heatLoop 0 38 = 77824 ∧ shiftRound (77824 * 38) (lpN heatLoop 0 0x04) = 45 ∧
    (loopOf (loopFilter 0 45 heatLoop) 0).out = 1019327675 ∧ (loopOf (loopFilter 0 45 heatLoop) 0).s1 = 1000000322 ∧
    pwmHigh heatLoop 0 = 5933 := by decide

/-- "A pump interlock at Tolsey Holm" (15_aplar_logic.md). -/
def interlock : List Nat :=
  [0x01000003, 0x30000007, 0x04000004, 0x04004000, 0x10002005, 0x09000004, 0x12004000, 0x38000002, 0x01008000, 0x13004000, 0x48000000]

/-- The engine in a scan of the interlock: DIN3 closed, T7 started at 0, with logic time and the other inputs as given. -/
def interlockScan (lt : Nat) (i4 was4 r0 h0 : Bool) : Exec :=
  runProg { tmr := fun _ => 5000000, ctr := fun _ => 3 } interlock 0 0 { l := { live.logic with
    lt := lt, timers := live.logic.timers.set 7 { run := true }
    prev := { live.logic.prev with i := bvSet live.logic.prev.i 4 was4 }
    img := { live.logic.img with
      i := bvSet (bvSet live.logic.img.i 3 true) 4 i4, r := bvSet live.logic.img.r 0 r0, h := bvSet live.logic.img.h 0 h0 } } }

set_option maxRecDepth 20000 in
theorem test_interlock_permit :
    (interlockScan 4999000 false false false false).l.img.p.getLsbD 5 = false ∧
    (interlockScan 5000000 false false false false).l.img.p.getLsbD 5 = true := by decide

set_option maxRecDepth 20000 in
theorem test_interlock_trip :
    (interlockScan 6000000 true false false false).l.img.p.getLsbD 5 = false ∧
    (interlockScan 6000000 true false false false).l.img.r.getLsbD 0 = true ∧
    (nth {} (interlockScan 6000000 true false false false).l.counters 2).count = 1 ∧
    (interlockScan 6000000 false false true true).l.img.p.getLsbD 5 = false ∧
    (interlockScan 6000000 false false true true).l.img.r.getLsbD 0 = false := by decide

/-- "A heat meter and a supply loss at Tolsey Holm" (17_metering.md): density, heat capacity and their product. -/
theorem test_heat_coefficients :
    waterRho 4500 = 9901 / 10 ∧ waterC 6150 = 16743 / 4 ∧ ratRound (waterRho 4500 * waterC 6150) = 4144311 := by
  refine ⟨?_, ?_, ?_⟩ <;> decide +kernel

end Sys2Proof.Tests
end

section
/-! SUPPORT. The host interface's registers: the event messages, configuration writes, writes and reads of BAR0 word by word,
rings of DB_RING, and the frames of the SPI host port (R122 to R133). -/

namespace Sys2Proof.Machine

/-! ### Bits and bytes -/

theorem bit_eq_testBit (v i : Nat) : bit v i = v.testBit i := by
  rw [Nat.testBit_eq_decide_div_mod_eq, bit, beq_eq_decide]

theorem bit_of_mod_two_pow {e n k : Nat} (h : e % 2 ^ n = 2 ^ n - 1) (hk : k < n) : bit e k = true := by
  have := congrArg (Nat.testBit · k) h
  simpa [bit_eq_testBit, Nat.testBit_mod_two_pow, Nat.testBit_two_pow_sub_one, hk] using this

theorem ofNat_getLsbD_eq_bit {k : Nat} (v : Nat) (hk : k < 8) : (BitVec.ofNat 8 v).getLsbD k = bit v k := by
  rw [BitVec.getLsbD_ofNat, bit_eq_testBit, decide_eq_true hk, Bool.true_and]

theorem one_shiftLeft_getLsbD {k : Nat} (m : Nat) (hk : k < 8) : (1#8 <<< m).getLsbD k = decide (k = m) := by
  simp only [BitVec.getLsbD_shiftLeft, BitVec.getLsbD_one, ← Bool.decide_and, ← decide_not, decide_eq_decide, hk]
  simp; omega

/-- Byte `k` of a merged register is the written one where its enable is set, the old one elsewhere (R122). -/
theorem mergeBytes_byte {n k : Nat} (e v old : Nat) (h : k < n) :
    mergeBytes n e v old / 256 ^ k % 256 = if bit e k then v / 256 ^ k % 256 else old / 256 ^ k % 256 := by
  induction n generalizing k e v old with
  | zero => omega
  | succ n ih =>
    have hb : (if e % 2 = 1 then v % 256 else old % 256) < 256 := by split <;> omega
    cases k with
    | zero => simp [mergeBytes, bit]; split <;> omega
    | succ k =>
      have up (x : Nat) : x / 256 ^ (k + 1) = x / 256 / 256 ^ k := by rw [Nat.pow_succ', Nat.div_div_eq_div_mul]
      have rest : mergeBytes (n + 1) e v old / 256 = mergeBytes n (e / 2) (v / 256) (old / 256) := by
        simp only [mergeBytes]; omega
      have en : bit e (k + 1) = bit (e / 2) k := by simp only [bit, Nat.pow_succ', Nat.div_div_eq_div_mul]
      rw [up, up, up, rest, en]
      exact ih _ _ _ (by omega)

theorem padTo_append {n : Nat} {p : Bytes} (r : Bytes) (h : p.length = n) : padTo n (p ++ r) = p := by
  simp [padTo, ← h, zeros]

/-- Bytes written one after the other are written as one run. -/
theorem overwrite_overwrite_succ (b : Bytes) (off : Nat) (x : Byte) (l : Bytes) :
    overwrite (overwrite b off [x]) (off + 1) l = overwrite b off (x :: l) := by
  have hp : (padTo off b ++ [x]).length = off + 1 := by simp [padTo]; omega
  have hr (r : Bytes) : (padTo off b ++ [x] ++ r).drop (off + 1 + l.length) = r.drop l.length := by
    rw [← hp, List.drop_length_add_append]
  rw [overwrite, overwrite, List.length_singleton, padTo_append _ hp, hr, List.drop_drop, overwrite, List.length_cons]
  simp [Nat.add_assoc, Nat.add_comm 1]

theorem layBytes_some (b : Bytes) (off : Nat) (x : Byte) (l : Bytes) :
    layBytes b off ((x :: l).map some) = overwrite b off (x :: l) := by
  induction l generalizing b off x with
  | nil => rfl
  | cons y l ih => exact (ih (overwrite b off [x]) (off + 1) y).trans (overwrite_overwrite_succ b off x (y :: l))

/-! ### Event registers and configuration space -/

/-- The messages of several vectors change only the pending-bit array and what was sent (R131). -/
theorem foldl_msixDue_frame (p : HostSt → Nat → Bool) (l : List Nat) (h : HostSt) :
    ∃ o q, l.foldl (fun h v => if p h v then msixDue v h else h) h = { h with sent := o, pba := q } := by
  induction l generalizing h with
  | nil => exact ⟨h.sent, h.pba, rfl⟩
  | cons v l ih =>
    obtain ⟨o, q, e⟩ := ih (if p h v then msixDue v h else h)
    refine ⟨o, q, e.trans ?_⟩
    split
    · rw [msixDue_frame]
    · rfl

theorem msixAgain_frame (h : HostSt) : ∃ o q, msixAgain h = { h with sent := o, pba := q } :=
  foldl_msixDue_frame vecPending _ h

theorem msixRelease_frame (h : HostSt) : ∃ o q, msixRelease h = { h with sent := o, pba := q } :=
  foldl_msixDue_frame (fun h v => h.pba.getLsbD v && h.msixEn && !h.msixFuncMask && !h.msixVecMask.getLsbD v) _ h

theorem exec_evtStatusWrite {s : State} {n : Nat} (v : Nat) (hs : hostServed s = true) (hn : n < 4) :
    ∃ o q, exec (.evtStatusWrite n v) s = .next { s with host := { s.host with
      evtStatus := s.host.evtStatus &&& ~~~(evtWord n v), sent := o, pba := q } } := by
  obtain ⟨o, q, e⟩ := msixAgain_frame { s.host with evtStatus := s.host.evtStatus &&& ~~~(evtWord n v) }
  refine ⟨o, q, ?_⟩
  show execEvtStatusWrite n v s = _
  simp [execEvtStatusWrite, hs, hn, onHost, evtStatusWrite, e]

theorem exec_evtMaskWrite {s : State} {n : Nat} (v : Nat) (hs : hostServed s = true) (hn : n < 4) :
    ∃ o q, exec (.evtMaskWrite n v) s = .next { s with host := { s.host with
      evtMask := (s.host.evtMask &&& ~~~(evtWord n (2 ^ 32 - 1))) ||| evtWord n v, sent := o, pba := q } } := by
  obtain ⟨o, q, e⟩ := msixAgain_frame
    { s.host with evtMask := (s.host.evtMask &&& ~~~(evtWord n (2 ^ 32 - 1))) ||| evtWord n v }
  refine ⟨o, q, ?_⟩
  show execEvtMaskWrite n v s = _
  simp only [execEvtMaskWrite, hs, hn, decide_true, Bool.and_self, if_true, onHost, evtMaskWrite, e]

theorem exec_pcieConfigWrite {s : State} (r : CfgReg) (v e : Nat) (hs : hostServed s = true) (hl : s.host.linkUp = true) :
    exec (.pcieConfigWrite r v e) s =
      .next { s with host := pcieConfig r (mergeBytes 8 e v (cfgImage r s.host)) s.host } := by
  show execPcieConfigWrite r v e s = _
  simp [execPcieConfigWrite, hs, hl, onHost]

/-- A write of the MSI-X control changes enable and function mask, where its upper byte is enabled (R122). -/
theorem msixControl_bits (h : HostSt) (v e : Nat) :
    bit (mergeBytes 8 e v (cfgImage .msix h)) 15 = (if bit e 1 then bit v 15 else h.msixEn) ∧
    bit (mergeBytes 8 e v (cfgImage .msix h)) 14 = (if bit e 1 then bit v 14 else h.msixFuncMask) := by
  have hb := mergeBytes_byte (n := 8) (k := 1) e v (cfgImage .msix h) (by omega)
  generalize mergeBytes 8 e v (cfgImage .msix h) = x at hb
  have high (y z : Nat) (hyz : y / 256 ^ 1 % 256 = z / 256 ^ 1 % 256) : bit y 15 = bit z 15 ∧ bit y 14 = bit z 14 := by
    have e15 : y / 2 ^ 15 % 2 = z / 2 ^ 15 % 2 := by omega
    have e14 : y / 2 ^ 14 % 2 = z / 2 ^ 14 % 2 := by omega
    simp only [bit, e15, e14, and_self]
  by_cases he : bit e 1 = true
  · simp only [he, if_true] at hb ⊢
    exact high x v hb
  · simp only [he] at hb ⊢
    obtain ⟨e15, e14⟩ := high x _ hb
    rw [e15, e14]
    cases hen : h.msixEn <;> cases hfm : h.msixFuncMask <;> simp [cfgImage, hen, hfm, b2n, bit]

theorem exec_pcieConfigWrite_msix {s : State} (v e : Nat) (hs : hostServed s = true) (hl : s.host.linkUp = true) :
    ∃ o q, exec (.pcieConfigWrite .msix v e) s = .next { s with host := { s.host with
      msixEn := if bit e 1 then bit v 15 else s.host.msixEn
      msixFuncMask := if bit e 1 then bit v 14 else s.host.msixFuncMask, sent := o, pba := q } } := by
  obtain ⟨hen, hfm⟩ := msixControl_bits s.host v e
  obtain ⟨o, q, h⟩ := msixRelease_frame { s.host with
    msixEn := bit (mergeBytes 8 e v (cfgImage .msix s.host)) 15
    msixFuncMask := bit (mergeBytes 8 e v (cfgImage .msix s.host)) 14 }
  exact ⟨o, q, by rw [exec_pcieConfigWrite _ _ _ hs hl, pcieConfig, h, hen, hfm]⟩

theorem exec_pcieConfigWrite_vecMask {s : State} (v : Nat) (hs : hostServed s = true) (hl : s.host.linkUp = true) :
    ∃ o q, exec (.pcieConfigWrite .vecMask v 3) s =
      .next { s with host := { s.host with msixVecMask := BitVec.ofNat 16 v, sent := o, pba := q } } := by
  have h0 := mergeBytes_byte (n := 8) (k := 0) 3 v (cfgImage .vecMask s.host) (by omega)
  have h1 := mergeBytes_byte (n := 8) (k := 1) 3 v (cfgImage .vecMask s.host) (by omega)
  rw [if_pos (by decide)] at h0 h1
  have hv : BitVec.ofNat 16 (mergeBytes 8 3 v (cfgImage .vecMask s.host)) = BitVec.ofNat 16 v :=
    BitVec.eq_of_toNat_eq (by simp only [BitVec.toNat_ofNat]; omega)
  obtain ⟨o, q, h⟩ := msixRelease_frame { s.host with msixVecMask := BitVec.ofNat 16 v }
  exact ⟨o, q, by rw [exec_pcieConfigWrite _ _ _ hs hl, pcieConfig, hv, h]⟩

/-- The other registers of configuration space lie in `pcie`, which alone changes (R122). -/
theorem pcieConfig_pcie {r : CfgReg} (v : Nat) (h : HostSt) (h1 : r ≠ .msix) (h2 : r ≠ .vecMask) :
    pcieConfig r v h = { h with pcie := (pcieConfig r v h).pcie } := by
  cases r with
  | msix => exact absurd rfl h1
  | vecMask => exact absurd rfl h2
  | _ => rfl

/-- A byte that is enabled is the written one. -/
theorem mergeBytes_enabled {n k e : Nat} (v old : Nat) (h : k < n) (he : bit e k = true) :
    mergeBytes n e v old / 256 ^ k % 256 = v / 256 ^ k % 256 := by
  rw [mergeBytes_byte e v old h, if_pos he]

theorem mergeBytes_bar0 {e : Nat} (v old : Nat) (he : e % 16 = 15) :
    mergeBytes 8 e v old % 2 ^ 32 / 2 ^ 16 * 2 ^ 16 = v % 2 ^ 32 / 2 ^ 16 * 2 ^ 16 := by
  have h2 := mergeBytes_enabled (n := 8) (k := 2) v old (by omega) (bit_of_mod_two_pow (n := 4) he (by omega))
  have h3 := mergeBytes_enabled (n := 8) (k := 3) v old (by omega) (bit_of_mod_two_pow (n := 4) he (by omega))
  omega

theorem mergeBytes_command {e : Nat} (v old : Nat) (he : e % 4 = 3) : mergeBytes 8 e v old % 2 ^ 16 = v % 2 ^ 16 := by
  have h0 := mergeBytes_enabled (n := 8) (k := 0) v old (by omega) (bit_of_mod_two_pow (n := 2) he (by omega))
  have h1 := mergeBytes_enabled (n := 8) (k := 1) v old (by omega) (bit_of_mod_two_pow (n := 2) he (by omega))
  omega

theorem mergeBytes_power {e : Nat} (v old : Nat) (he : bit e 0 = true) : mergeBytes 8 e v old % 4 = v % 4 := by
  have h0 := mergeBytes_enabled (n := 8) (k := 0) v old (by omega) he
  omega

/-- The record of the link's loss has no source of its own (R125). -/
theorem raise_host_evtStatus_noSource (c p q r : Nat) (s : State) : (raise c 0xFF p q r s).host.evtStatus = s.host.evtStatus := by
  simp only [raise, raiseBy]
  split
  · exact congrArg HostSt.evtStatus (setSource_frame 0xFF s.host)
  · rfl

theorem exec_pcieLinkDown {s : State} (hl : s.host.linkUp = true) :
    exec .pcieLinkDown s = .next (raise 0x0213 0xFF 0 0 0 (onHost pcieCoreReset s)) := by
  show execPcieLinkDown s = _
  rw [execPcieLinkDown, linkDown, if_pos hl]

/-! ### Host writes, word by word -/

theorem enabledBytes_nil (d : Bytes) : enabledBytes d [] = d.map some := by
  induction d with
  | nil => rfl
  | cons b d ih => simp [enabledBytes, ih]

theorem barWrites_nil (bar2 : Bool) (n off : Nat) (s : State) : barWrites bar2 n off [] s = s := by
  cases n <;> rfl

/-- A write within one aligned word is one word write (R124). -/
theorem barWrites_word (bar2 : Bool) {n o k : Nat} {data : List (Option Byte)} (s : State) (ho : o % 4 = 0) (hd : data ≠ [])
    (hk : k + data.length ≤ 4) :
    barWrites bar2 (n + 1) (o + k) data s = if bar2 then hostDrop s else wordWrite o k data s := by
  have hl : 0 < data.length := List.length_pos_iff.mpr hd
  have h1 : (o + k) % 4 = k := by omega
  have h2 : (o + k) / 4 * 4 = o := by omega
  have h3 : data.length ≤ 4 - k := by omega
  simp only [barWrites, h1, h2, List.isEmpty_eq_false_iff.mpr hd, List.take_of_length_le h3, List.drop_eq_nil_of_le h3,
    barWrites_nil, Bool.false_eq_true, if_false]

theorem registerWrite_word (bar2 : Bool) {s : State} {o k : Nat} {d : Bytes} (hs : hostServed s = true) (ho : o % 4 = 0)
    (hd : d ≠ []) (hk : k + d.length ≤ 4) :
    registerWrite bar2 (o + k) (d.map some) s = if bar2 then hostDrop s else wordWrite o k (d.map some) s := by
  rw [registerWrite, if_pos hs]
  exact barWrites_word bar2 s ho (by simpa using hd) (by simpa using hk)

theorem exec_registerWrite (bar2 : Bool) (o : Nat) (d : Bytes) (s : State) :
    exec (.registerWrite bar2 o d []) s = .next (registerWrite bar2 o (d.map some) s) := by
  rw [← enabledBytes_nil]; rfl

/-- An aligned write of a whole word. -/
theorem registerWrite_aligned (bar2 : Bool) {s : State} {o : Nat} {d : Bytes} (hs : hostServed s = true) (ho : o % 4 = 0)
    (hd : d.length = 4) : registerWrite bar2 o (d.map some) s = if bar2 then hostDrop s else wordWrite o 0 (d.map some) s :=
  registerWrite_word (k := 0) bar2 hs ho (List.ne_nil_of_length_pos (by omega)) (by omega)

/-- Bytes that are all enabled are not a write of no byte. -/
theorem all_isNone_map_some {d : Bytes} (hd : d ≠ []) : (d.map some).all Option.isNone = false := by
  cases d with
  | nil => contradiction
  | cons b d => rfl

theorem wordWrite_mbox {o k : Nat} {d : Bytes} (s : State) (hd : d ≠ []) (ho : 0x1000 ≤ o ∧ o < 0x3000) :
    wordWrite o k (d.map some) s = mboxWrite (o + k) (d.map some) s := by
  rw [wordWrite, all_isNone_map_some hd, if_neg Bool.false_ne_true, if_pos ho]

theorem wordWrite_full {o : Nat} {d : Bytes} (s : State) (hd : d.length = 4) (ho : o < 0x1000 ∨ 0x3000 ≤ o) :
    wordWrite o 0 (d.map some) s = bar0Write o (leNat d) s := by
  have hne : d ≠ [] := List.ne_nil_of_length_pos (by omega)
  rw [wordWrite, all_isNone_map_some hne, if_neg Bool.false_ne_true, if_neg (by omega), if_pos (by simp [hd])]
  simp [List.filterMap_map]

theorem wordWrite_narrow {o k : Nat} {d : Bytes} (s : State) (hd : d ≠ []) (hl : d.length < 4)
    (ho : o < 0x1000 ∨ 0x3000 ≤ o) :
    wordWrite o k (d.map some) s = if bar0Mapped o then hostDrop s else s := by
  rw [wordWrite, all_isNone_map_some hd, if_neg Bool.false_ne_true, if_neg (by omega), if_neg (by simp; omega)]

/-- A reserved offset takes no write (R10). -/
theorem bar0Write_reserved {o : Nat} (v : Nat) (s : State) (ho : o % 4 = 0) (h : bar0Mapped o = false) : bar0Write o v s = s := by
  simp only [bar0Mapped, Bool.or_eq_false_iff, List.contains_cons, List.contains_nil, beq_eq_false_iff_ne, ne_eq,
    Bool.and_eq_false_iff, decide_eq_false_iff_not, bne_eq_false_iff_eq] at h
  obtain ⟨⟨⟨⟨hro, h100, h108, h10C, h224, h228, h300, h304, h308, h30C, h400, -⟩, hevt⟩, halm⟩, htbl⟩ := h
  rw [bar0Write, if_neg (by simp [hro]), if_neg h100, if_neg h108, if_neg h10C, if_neg (by omega), if_neg (by omega),
    if_neg h224, if_neg h228, if_neg (by omega), if_neg h308, if_neg h30C]
  by_cases ha : 0x320 ≤ o ∧ o < 0x340
  · have h12 : o % 16 = 12 := by omega
    simp [ha, h12]
  · rw [if_neg ha, if_neg h400, if_neg (by omega)]

theorem mboxWrite_owned {k o : Nat} (data : List (Option Byte)) (s : State) (ho : o < 0x100) (h : s.host.owner.getLsbD k = true) :
    mboxWrite (0x1000 + 0x400 * k + 4 * o) data s = hostDrop s := by
  have e : (0x1000 + 0x400 * k + 4 * o - 0x1000) / 0x400 = k := by omega
  simp only [mboxWrite, e, h, if_true]

theorem mboxWrite_host {k o : Nat} {d : Bytes} (s : State) (hd : d ≠ []) (ho : o < 0x100) (h : s.host.owner.getLsbD k = false) :
    mboxWrite (0x1000 + 0x400 * k + 4 * o) (d.map some) s =
      { s with host := { s.host with mbox := modNth s.host.mbox k (fun b => overwrite b (4 * o) d) } } := by
  obtain ⟨x, l, rfl⟩ := List.exists_cons_of_ne_nil hd
  have e : (0x1000 + 0x400 * k + 4 * o - 0x1000) / 0x400 = k := by omega
  have e' : (0x1000 + 0x400 * k + 4 * o) % 0x400 = 4 * o := by omega
  simp only [mboxWrite, e, e', h, Bool.false_eq_true, if_false, onHost, layBytes_some]

/-! ### Rings of DB_RING -/

/-- One mailbox of a ring: given to the part, or counted where the part owns it (R133). -/
def ringBit (value m : Nat) (s : State) : State :=
  if !bit value m then s else if s.host.owner.getLsbD m then ringIgnored s else onHost (ringOne m) s

theorem ringBit_owner {k : Nat} (value m : Nat) (s : State) (hk : k < 8) :
    (ringBit value m s).host.owner.getLsbD k = (s.host.owner.getLsbD k || (decide (k = m) && bit value m)) := by
  cases hb : bit value m
  · simp only [ringBit, hb, Bool.not_false, if_true, Bool.and_false, Bool.or_false]
  · cases ho : s.host.owner.getLsbD m
    · simp only [ringBit, hb, ho, Bool.not_true, Bool.false_eq_true, if_false, onHost, ringOne, BitVec.getLsbD_or,
        one_shiftLeft_getLsbD m hk, Bool.and_true]
    · simp only [ringBit, hb, ho, Bool.not_true, Bool.false_eq_true, if_false, if_true, ringIgnored, setSource_owner,
        Bool.and_true]
      by_cases h : k = m
      · simp only [h, ho, Bool.true_or]
      · simp only [h, decide_false, Bool.or_false]

theorem ringBit_done {k : Nat} (value m : Nat) (s : State) (hk : k < 8) :
    (ringBit value m s).host.done.getLsbD k =
      (s.host.done.getLsbD k && !(decide (k = m) && bit value m && !s.host.owner.getLsbD m)) := by
  cases hb : bit value m
  · simp only [ringBit, hb, Bool.not_false, if_true, Bool.and_false, Bool.false_and, Bool.and_true]
  · cases ho : s.host.owner.getLsbD m
    · simp only [ringBit, hb, ho, Bool.not_true, Bool.false_eq_true, if_false, onHost, ringOne, BitVec.getLsbD_and,
        BitVec.getLsbD_not, one_shiftLeft_getLsbD m hk, hk, decide_true, Bool.true_and, Bool.not_false, Bool.and_true]
    · simp only [ringBit, hb, ho, Bool.not_true, Bool.false_eq_true, if_false, if_true, ringIgnored, setSource_done,
        Bool.and_false, Bool.not_false, Bool.and_true]

theorem ringBit_rung (value m : Nat) (s : State) :
    (ringBit value m s).host.rung = s.host.rung ++ [m].filter (fun k => bit value k && !s.host.owner.getLsbD k) := by
  cases hb : bit value m <;> cases ho : s.host.owner.getLsbD m <;> simp [ringBit, hb, ho, onHost, ringOne, ringIgnored]

/-- A ring leaves the mailboxes' bytes and what lies outside the host interface. -/
theorem ringBit_frame (value m : Nat) (s : State) : (ringBit value m s).host.mbox = s.host.mbox ∧
    (ringBit value m s).recorder = s.recorder ∧ (ringBit value m s).mgmt = s.mgmt := by
  unfold ringBit
  split
  · exact ⟨rfl, rfl, rfl⟩
  · split
    · exact ⟨setSource_mbox _ _, rfl, rfl⟩
    · exact ⟨rfl, rfl, rfl⟩

/-- What a ring of the mailboxes below `n` that a value names makes of a state (R133). -/
structure RingsBelow (value n : Nat) (s t : State) : Prop where
  owner : ∀ k, k < 8 → t.host.owner.getLsbD k = (s.host.owner.getLsbD k || (decide (k < n) && bit value k))
  done : ∀ k, k < 8 → t.host.done.getLsbD k =
    (s.host.done.getLsbD k && !(decide (k < n) && bit value k && !s.host.owner.getLsbD k))
  rung : t.host.rung = s.host.rung ++ (upTo n).filter (fun k => bit value k && !s.host.owner.getLsbD k)
  mbox : t.host.mbox = s.host.mbox
  recorder : t.recorder = s.recorder
  mgmt : t.mgmt = s.mgmt

theorem RingsBelow.zero (value : Nat) (s : State) : RingsBelow value 0 s s :=
  ⟨fun k _ => by simp only [Nat.not_lt_zero, decide_false, Bool.false_and, Bool.or_false],
    fun k _ => by simp only [Nat.not_lt_zero, decide_false, Bool.false_and, Bool.not_false, Bool.and_true],
    by simp [upTo], rfl, rfl, rfl⟩

/-- The next mailbox of the ring (R134): those below it have left its own bits as they were. -/
theorem RingsBelow.succ {value n : Nat} {s t : State} (hn : n < 8) (h : RingsBelow value n s t) :
    RingsBelow value (n + 1) s (ringBit value n t) := by
  have hown : t.host.owner.getLsbD n = s.host.owner.getLsbD n := by
    simp only [h.owner n hn, Nat.lt_irrefl, decide_false, Bool.false_and, Bool.or_false]
  have hup : upTo (n + 1) = upTo n ++ [n] := List.range_succ
  have hlt (k : Nat) (hkn : k ≠ n) : decide (k < n + 1) = decide (k < n) := decide_eq_decide.mpr (by omega)
  obtain ⟨hm, hr, hg⟩ := ringBit_frame value n t
  refine ⟨fun k hk => ?_, fun k hk => ?_, ?_, hm.trans h.mbox, hr.trans h.recorder, hg.trans h.mgmt⟩
  · rw [ringBit_owner value n t hk, h.owner k hk]
    by_cases hkn : k = n
    · simp [hkn]
    · rw [hlt k hkn]; simp [hkn]
  · rw [ringBit_done value n t hk, h.done k hk, hown]
    by_cases hkn : k = n
    · simp [hkn]
    · rw [hlt k hkn]; simp [hkn]
  · rw [ringBit_rung, h.rung, hup, List.filter_append, List.append_assoc, List.filter_singleton, List.filter_singleton, hown]

theorem ringsBelow_foldl (value : Nat) (s : State) {n : Nat} (hn : n ≤ 8) :
    RingsBelow value n s ((upTo n).foldl (fun s m => ringBit value m s) s) := by
  induction n with
  | zero => exact .zero value s
  | succ n ih =>
    have hup : upTo (n + 1) = upTo n ++ [n] := List.range_succ
    rw [hup, List.foldl_append]
    exact (ih (by omega)).succ (by omega)

theorem dbRing_ringsBelow (value : Nat) (s : State) : RingsBelow value 8 s (dbRing value s) :=
  ringsBelow_foldl value s (Nat.le_refl 8)

theorem RingsBelow.owner_eq {value : Nat} {s t : State} (h : RingsBelow value 8 s t) :
    t.host.owner = s.host.owner ||| BitVec.ofNat 8 value := by
  refine BitVec.eq_of_getLsbD_eq fun k hk => ?_
  rw [h.owner k hk, BitVec.getLsbD_or, ofNat_getLsbD_eq_bit value hk, decide_eq_true hk, Bool.true_and]

theorem RingsBelow.done_eq {value : Nat} {s t : State} (h : RingsBelow value 8 s t) :
    t.host.done = s.host.done &&& ~~~(BitVec.ofNat 8 value &&& ~~~s.host.owner) := by
  refine BitVec.eq_of_getLsbD_eq fun k hk => ?_
  simp only [h.done k hk, BitVec.getLsbD_and, BitVec.getLsbD_not, ofNat_getLsbD_eq_bit value hk, hk, decide_true, Bool.true_and]

/-- The register holds 32 bits of the value; mailboxes 0 to 7 stand in the low 8 (R128). -/
theorem RingsBelow.of_mod {value : Nat} {s t : State} (h : RingsBelow (value % 2 ^ 32) 8 s t) : RingsBelow value 8 s t := by
  have hb (k : Nat) (hk : k < 8) : bit (value % 2 ^ 32) k = bit value k := by
    rw [bit_eq_testBit, bit_eq_testBit, Nat.testBit_mod_two_pow, decide_eq_true (by omega), Bool.true_and]
  refine ⟨fun k hk => ?_, fun k hk => ?_, ?_, h.mbox, h.recorder, h.mgmt⟩
  · rw [h.owner k hk, hb k hk]
  · rw [h.done k hk, hb k hk]
  · rw [h.rung]
    congr 1
    exact List.filter_congr fun k hk => by rw [hb k (List.mem_range.mp hk)]

theorem exec_registerWrite_dbRing {s : State} (v : Nat) (hs : hostServed s = true) :
    exec (.registerWrite false 0x100 (leBytes 4 v) []) s = .next (doorbell (dbRing (v % 2 ^ 32) s)) := by
  have hl : (leBytes 4 v).length = 4 := length_leBytes 4 v
  rw [exec_registerWrite, registerWrite_aligned false hs rfl hl,
    if_neg Bool.false_ne_true, wordWrite_full s hl (by omega), leNat_leBytes, bar0Write]
  rfl

/-! ### Host reads -/

theorem rtcFreeze_host (mgmt : Bool) (s : State) : (rtcFreeze mgmt s).host = s.host := by
  cases mgmt <;> rfl

theorem rtcUnfreeze_host (mgmt : Bool) (s : State) : (rtcUnfreeze mgmt s).host = s.host := by
  cases mgmt <;> rfl

/-- A read leaves the host interface as it is (R123). -/
theorem wordRead_host (bar2 : Bool) (o : Nat) (s : State) : (wordRead bar2 o s).2.host = s.host := by
  cases bar2 with
  | true => rfl
  | false =>
    simp only [wordRead, Bool.false_eq_true, if_false]
    split
    · exact rtcFreeze_host false s
    · split
      · exact rtcUnfreeze_host false s
      · rfl

theorem barRead_host (bar2 : Bool) (k off n : Nat) (s : State) : (barRead bar2 k off n s).2.host = s.host := by
  induction k generalizing off n s with
  | zero => rfl
  | succ k ih =>
    rw [barRead]
    split
    · rfl
    · exact (ih _ _ _).trans (wordRead_host bar2 _ s)

/-- A read returns as many bytes as it asks for: every word it touches gives at least one. -/
theorem barRead_length (bar2 : Bool) {k n : Nat} (off : Nat) (s : State) (h : n ≤ k) :
    (barRead bar2 k off n s).1.length = n := by
  induction k generalizing off n s with
  | zero => simp [barRead]; omega
  | succ k ih =>
    rw [barRead]
    split
    · next h0 => exact h0.symm
    · have rest := ih (n := n - min n (4 - off % 4)) (off + min n (4 - off % 4)) (wordRead bar2 (off / 4 * 4) s).2 (by omega)
      simp [rest]

theorem hostRead_host (bar2 : Bool) (off n : Nat) (s : State) : (hostRead bar2 off n s).2.host = s.host :=
  barRead_host bar2 _ off n s

theorem hostRead_length (bar2 : Bool) (off n : Nat) (s : State) : (hostRead bar2 off n s).1.length = n :=
  barRead_length bar2 off s (Nat.le_succ n)

theorem barRead_zero (bar2 : Bool) (k off : Nat) (s : State) : barRead bar2 k off 0 s = ([], s) := by
  cases k <;> rfl

/-- A read within one word, but for the time words of the RTC, gives the bytes of that word (R124). -/
theorem hostRead_part {o k n : Nat} (s : State) (ho : o % 4 = 0) (h0 : o ≠ 0x300) (h1 : o ≠ 0x304) (hn : 0 < n)
    (hk : k + n ≤ 4) : hostRead false (o + k) n s = (((leBytes 4 (bar0Read s o)).drop k).take n, s) := by
  have e1 : (o + k) % 4 = k := by omega
  have e2 : (o + k) / 4 * 4 = o := by omega
  have e3 : min n (4 - k) = n := by omega
  have hw : wordRead false o s = (bar0Read s o, s) := by simp [wordRead, h0, h1]
  simp only [hostRead, barRead, if_neg hn.ne', e1, e2, e3, hw, Nat.sub_self, barRead_zero, List.append_nil]

/-! ### Frames of the SPI host port -/

theorem exec_spiFrameError {s : State} (b : Bytes) (hs : hostServed s = true) :
    exec (.spiFrameError b) s = .next (spiFrame b s) := by
  show execSpiFrameError s b = _
  rw [execSpiFrameError, if_pos hs]

theorem spiFrame_unknown {op : Byte} (r : Bytes) (s : State) (h5 : op ≠ 0x05) (h2 : op ≠ 0x02) (hB : op ≠ 0x0B) :
    spiFrame (op :: r) s = frameErr s := by
  have ne {c : Byte} (h : op ≠ c) : op.toNat ≠ c.toNat := fun e => h (BitVec.eq_of_toNat_eq e)
  unfold spiFrame
  simp only [List.headD_cons]
  split
  · next e => exact absurd e (ne h5)
  · next e => exact absurd e (ne h2)
  · next e => exact absurd e (ne hB)
  · rfl

theorem spiFrame_short {op : Byte} {r : Bytes} (s : State) (hop : op = 0x02 ∨ op = 0x0B) (hr : r.length < 4) :
    spiFrame (op :: r) s = frameErr s := by
  have hl : (op :: r).length < 5 := by simp; omega
  rcases hop with rfl | rfl <;> exact if_pos hl

/-- The address of a frame (R126). -/
theorem spiFrame_address (op : Byte) {a : Nat} (d : Bytes) (ha : a < 2 ^ 32) :
    byteField (op :: (leBytes 4 a ++ d)) 1 4 = a :=
  (byteField_skip [op] (leBytes 4 a ++ d) 1 4 (Nat.le_refl 1)).trans
    ((byteField_front 4 a d).trans (Nat.mod_eq_of_lt ha))

theorem spiFrame_write {a : Nat} (d : Bytes) (s : State) (ha : a < 2 ^ 32) :
    spiFrame (0x02 :: (leBytes 4 a ++ d)) s =
      if d.length % 4 = 0 then spiWrites (bit a 28) (d.length / 4) (a % 2 ^ 25) d s
      else frameErr (spiWrites (bit a 28) (d.length / 4) (a % 2 ^ 25) d s) := by
  have hl : (0x02 :: (leBytes 4 a ++ d) : Bytes).length = d.length + 5 := by simp; omega
  have hd : (0x02 :: (leBytes 4 a ++ d) : Bytes).drop 5 = d := by simp
  simp only [spiFrame, List.headD_cons, spiFrame_address _ d ha, hl, hd]
  simp

theorem spiFrame_read {a : Nat} (d : Bytes) (s : State) (ha : a < 2 ^ 32) :
    spiFrame (0x0B :: (leBytes 4 a ++ d)) s = spiRead (bit a 28) (a % 2 ^ 25) d.length s := by
  have hl : (0x0B :: (leBytes 4 a ++ d) : Bytes).length = d.length + 5 := by simp; omega
  simp only [spiFrame, List.headD_cons, spiFrame_address _ d ha, hl]
  simp

/-- A read frame answers wait bytes, the marker and data, as many bytes as are clocked (R126, R127). -/
theorem spiRead_answer (bar2 : Bool) (off n : Nat) (s : State) :
    ∃ r : Bytes, n ≤ spiWaits s + 1 + r.length ∧ (spiRead bar2 off n s).host =
      { s.host with sent := .spi ((zeros (spiWaits s) ++ [0xA5] ++ r).take n) :: s.host.sent } := by
  refine ⟨(hostRead bar2 off (4 * ((n - (spiWaits s + 1) + 3) / 4)) s.drawn).1, ?_, ?_⟩
  · rw [hostRead_length]; omega
  · have h := hostRead_host bar2 off (4 * ((n - (spiWaits s + 1) + 3) / 4)) s.drawn
    simp only [spiRead, send, h]
    rfl

end Sys2Proof.Machine
end

section
/-! The host interface's registers: O18. -/

namespace Sys2Proof.Machine

/-- Settles O18: each clause is the rule of its operation. The course of an SPI frame and the bytes that a configuration write
does not enable are the model's choices (log 39), and so is which rung command Malor takes (log 3). -/
theorem hostRegisters : Obligations.HostRegisters := by
  unfold Obligations.HostRegisters
  have ne {d : Bytes} (h : d.length = 4) : d ≠ [] := List.ne_nil_of_length_pos (by omega)
  refine ⟨fun s n v hs hn => ?evtStatus, fun s n v hs hn => ?evtMask, fun s v e hs hl => ?msix, fun s vm hs hl => ?vecMask,
    fun s r v e hs hl h1 h2 => ?config, fun s hl => ?linkDown, fun s hs => ?linkTrained, fun s hs => ?spiStatus,
    fun s op r hs h5 h2 hB => ?spiUnknown, fun s op r hs hop hr => ?spiShort, fun s a d hs ha hd => ?spiWrite,
    fun s a d hs ha h0 hd => ?spiPartial, fun s a d hs ha => ?spiRead, fun s o d hs ho hd => ?bar2,
    fun s o k d hs ho hr hne hd hk => ?narrow, fun s o d hs ho hr hm hd => ?reserved,
    fun s k o d hs hk ho hd hown => ?mboxOwned, fun s k o d hs hk ho hd hown => ?mboxHost, fun s v hs => ?ring,
    fun s o k n ho h0 h1 hn hk => hostRead_part s ho h0 h1 hn hk, fun s hp => ?snapshot⟩
  case evtStatus =>
    obtain ⟨o, q, e⟩ := exec_evtStatusWrite v hs hn
    exact ⟨_, e, rfl, rfl, rfl, rfl, rfl, rfl⟩
  case evtMask =>
    obtain ⟨o, q, e⟩ := exec_evtMaskWrite v hs hn
    exact ⟨_, e, rfl, rfl, rfl, rfl, rfl⟩
  case msix =>
    obtain ⟨o, q, h⟩ := exec_pcieConfigWrite_msix v e hs hl
    exact ⟨_, h, rfl, rfl, rfl, rfl, rfl⟩
  case vecMask =>
    obtain ⟨o, q, h⟩ := exec_pcieConfigWrite_vecMask vm hs hl
    exact ⟨_, h, rfl, rfl, rfl, rfl⟩
  case config =>
    refine ⟨_, by rw [exec_pcieConfigWrite r v e hs hl, pcieConfig_pcie _ _ h1 h2], ?_, ?_, ?_⟩
    · rintro rfl he
      simp only [pcieConfig, mergeBytes_bar0 v _ he]
    · rintro rfl he
      simp only [pcieConfig, mergeBytes_command v _ he]
    · rintro rfl he
      simp only [pcieConfig, mergeBytes_power v _ he]
  case linkDown => exact ⟨_, exec_pcieLinkDown hl, by simp [pcieCoreReset, raise_host_evtStatus_noSource]⟩
  case linkTrained => exact congrArg Host.Outcome.next (if_pos hs)
  case spiStatus => exact congrArg Host.Outcome.next (if_pos hs)
  case spiUnknown => rw [exec_spiFrameError _ hs, spiFrame_unknown r s h5 h2 hB]; rfl
  case spiShort => rw [exec_spiFrameError _ hs, spiFrame_short s hop hr]; rfl
  case spiWrite =>
    rw [exec_spiFrameError _ hs, spiFrame_write d s ha, exec_registerWrite, hd]
    simp [spiWrites, List.take_of_length_le hd.le]
  case spiPartial =>
    rw [exec_spiFrameError _ hs, spiFrame_write d s ha, if_neg (by omega), Nat.div_eq_of_lt hd]; rfl
  case spiRead =>
    obtain ⟨r, hr, e⟩ := spiRead_answer (bit a 28) (a % 2 ^ 25) d.length s
    refine ⟨_, _, (exec_spiFrameError _ hs).trans (by rw [spiFrame_read d s ha]), by rw [e], ?_, ?_, by rw [e], by rw [e]⟩
    · simp; omega
    · rw [List.take_take, min_comm, ← List.take_take, List.take_left' (by simp)]
  case bar2 =>
    rw [exec_registerWrite, registerWrite_aligned true hs ho hd, if_pos rfl]
  case narrow =>
    rw [exec_registerWrite, registerWrite_word false hs ho hne hk, if_neg Bool.false_ne_true, wordWrite_narrow s hne hd hr]
  case reserved =>
    rw [exec_registerWrite, registerWrite_aligned false hs ho hd, if_neg Bool.false_ne_true,
      wordWrite_full s hd hr, bar0Write_reserved _ s ho hm]
  case mboxOwned =>
    rw [exec_registerWrite, registerWrite_aligned false hs (by omega) hd, if_neg Bool.false_ne_true,
      wordWrite_mbox s (ne hd) (by omega), Nat.add_zero, mboxWrite_owned _ s ho hown]
  case mboxHost =>
    rw [exec_registerWrite, registerWrite_aligned false hs (by omega) hd, if_neg Bool.false_ne_true,
      wordWrite_mbox s (ne hd) (by omega), Nat.add_zero, mboxWrite_host s (ne hd) ho hown]
  case ring =>
    have h := (dbRing_ringsBelow (v % 2 ^ 32) s).of_mod
    exact ⟨_, exec_registerWrite_dbRing v hs, by simpa [doorbell] using
      ⟨h.owner_eq, h.done_eq, h.mbox, h.rung, h.recorder, h.mgmt⟩⟩
  case snapshot => exact congrArg Host.Outcome.next (if_pos hp)

end Sys2Proof.Machine
end

section
/-! SUPPORT. Supplies, resets and starts: what records, events, sessions and the pair leave of the state, the steps of a start
(R100), the reset of MGMT alone (R109), MINIMAL at step 1 (R104, R106) and the power-fail latch (R89, R90). -/

namespace Sys2Proof.Machine

/-! ### What a start's side effects leave -/

/-- The state without what records, events, keys and sessions, the pair, CAN frames and pending enables leave in it. -/
def mainPart (s : State) : State :=
  { s with
    free := 0, recorder := {}, sec := {}, pair := {}, can := []
    host := { s.host with evtStatus := 0, sent := [], pba := 0, units := {} } }

/-- Two states agree in what the statements on resets speak of. -/
structure SameMain (t s : State) : Prop where
  power : t.power = s.power
  mgmt : t.mgmt = s.mgmt
  time : t.time = s.time
  logic : t.logic = s.logic
  loops : t.loops = s.loops
  axes : t.axes = s.axes
  meter : t.meter = s.meter
  ready : t.host.ready = s.host.ready
  minimal : t.host.minimal = s.host.minimal
  hostif : t.host.hostif = s.host.hostif
  mbox : t.host.mbox = s.host.mbox
  owner : t.host.owner = s.host.owner

theorem sameMain {s t : State} (h : mainPart t = mainPart s) : SameMain t s where
  power := (congrArg State.power h :)
  mgmt := (congrArg State.mgmt h :)
  time := (congrArg State.time h :)
  logic := (congrArg State.logic h :)
  loops := (congrArg State.loops h :)
  axes := (congrArg State.axes h :)
  meter := (congrArg State.meter h :)
  ready := (congrArg (·.host.ready) h :)
  minimal := (congrArg (·.host.minimal) h :)
  hostif := (congrArg (·.host.hostif) h :)
  mbox := (congrArg (·.host.mbox) h :)
  owner := (congrArg (·.host.owner) h :)

theorem mainPart_foldl {α : Type} (f : State → α → State) (h : ∀ s a, mainPart (f s a) = mainPart s) (l : List α)
    (s : State) : mainPart (l.foldl f s) = mainPart s := by
  induction l generalizing s with
  | nil => rfl
  | cons a l ih => rw [List.foldl_cons, ih, h]

@[simp] theorem mainPart_onRec (f : RecorderSt → RecorderSt) (s : State) : mainPart (onRec f s) = mainPart s := rfl
@[simp] theorem mainPart_onSec (f : SecSt → SecSt) (s : State) : mainPart (onSec f s) = mainPart s := rfl
@[simp] theorem mainPart_onPair (f : PairSt → PairSt) (s : State) : mainPart (onPair f s) = mainPart s := rfl
@[simp] theorem mainPart_drawn (s : State) : mainPart s.drawn = mainPart s := rfl
@[simp] theorem mainPart_canPendingGone (s : State) : mainPart (canPendingGone s) = mainPart s := rfl

@[simp] theorem mainPart_raiseBy (rom : Bool) (c k p q r : Nat) (s : State) :
    mainPart (raiseBy rom c k p q r s) = mainPart s := by
  unfold raiseBy
  split
  · rw [setSource_frame]; rfl
  · rfl

@[simp] theorem mainPart_raise (c k p q r : Nat) (s : State) : mainPart (raise c k p q r s) = mainPart s :=
  mainPart_raiseBy _ _ _ _ _ _ _

@[simp] theorem mainPart_recRaise (c k p q r : Nat) (s : State) : mainPart (recRaise c k p q r s) = mainPart s :=
  mainPart_raiseBy _ _ _ _ _ _ _

@[simp] theorem mainPart_setUnit (a b : Nat) (x : UnitSt) (s : State) : mainPart (setUnit a b x s) = mainPart s := rfl

/-! The recorder's work (R545 to R556) -/

@[simp] theorem mainPart_statusPut (x : Slot) (s : State) : mainPart (statusPut x s) = mainPart s := by
  unfold statusPut
  split
  · rfl
  · dsimp only; split <;> simp

@[simp] theorem mainPart_statusWrite (x : Rec) (s : State) : mainPart (statusWrite x s) = mainPart s := mainPart_statusPut _ _

@[simp] theorem mainPart_erasePos (ring pos : Nat) (s : State) : mainPart (erasePos ring pos s) = mainPart s := rfl

@[simp] theorem mainPart_eraseAhead (ring pos : Nat) (s : State) : mainPart (eraseAhead ring pos s) = mainPart s := by
  unfold eraseAhead; split <;> simp [mapSector]

@[simp] theorem mainPart_seekPos (ring : Nat) (s : State) : mainPart (seekPos ring s) = mainPart s := by
  unfold seekPos leavePos; repeat' split
  all_goals simp

@[simp] theorem mainPart_circPut (x : Slot) (s : State) : mainPart (circPut x s) = mainPart s := by
  unfold circPut; dsimp only; repeat' split
  all_goals simp

@[simp] theorem mainPart_permPut (x : Slot) (s : State) : mainPart (permPut x s) = mainPart s := by
  unfold permPut; dsimp only; repeat' split
  all_goals simp

@[simp] theorem mainPart_permAppend (x : Rec) (s : State) : mainPart (permAppend x s) = mainPart s := by
  unfold permAppend; repeat' split
  all_goals simp

@[simp] theorem mainPart_programRec (x : Rec) (s : State) : mainPart (programRec x s) = mainPart s := by simp [programRec]

@[simp] theorem mainPart_seqHighCheck (s : State) : mainPart (seqHighCheck s) = mainPart s := by
  unfold seqHighCheck; dsimp only; split <;> simp

@[simp] theorem mainPart_overflowReport (s : State) : mainPart (overflowReport s) = mainPart s := by
  unfold overflowReport; split <;> simp

@[simp] theorem mainPart_flush (s : State) : mainPart (flush s) = mainPart s := by
  unfold flush
  split
  · rfl
  · rw [mainPart_foldl _ (fun s x => mainPart_programRec x s)]; simp

@[simp] theorem mainPart_tornSlot (area : Nat) (s : State) : mainPart (tornSlot area s) = mainPart s := by
  unfold tornSlot; dsimp only; split <;> simp

@[simp] theorem mainPart_rebuild (x : StartIn) (s : State) : mainPart (rebuild x s) = mainPart s := by
  unfold rebuild
  dsimp only
  rw [mainPart_flush, mainPart_foldl _ (fun s a => mainPart_tornSlot a s),
    mainPart_foldl _ (fun s (p : Nat × Nat) => mainPart_erasePos p.1 p.2 s), mainPart_onRec]
  split <;> rfl

/-! Keys, sessions, FAIL and pending enables -/

@[simp] theorem mainPart_regenerate (s : State) : mainPart (regenerate s) = mainPart s := by
  unfold regenerate; dsimp only; split <;> rfl

@[simp] theorem mainPart_endSession (k : Nat) (s : State) : mainPart (endSession k s) = mainPart s := by
  unfold endSession
  split
  · rfl
  · dsimp only; split
    · rw [mainPart_raise]; rfl
    · rfl

@[simp] theorem mainPart_sessionsGone (s : State) : mainPart (sessionsGone s) = mainPart s := by
  rw [sessionsGone, mainPart_onSec, mainPart_foldl _ (fun s k => mainPart_endSession k s)]

@[simp] theorem mainPart_pendingForget (s : State) : mainPart (pendingForget s) = mainPart s :=
  mainPart_foldl _ (fun s (u : Nat × Nat) => mainPart_setUnit u.1 u.2 _ s) _ s

@[simp] theorem mainPart_holdStart (why : Nat) (s : State) : mainPart (holdStart why s) = mainPart s := by
  unfold holdStart; split <;> simp

@[simp] theorem mainPart_failLatch (cause : Nat) (s : State) : mainPart (failLatch cause s) = mainPart s := by
  unfold failLatch
  split
  · rfl
  · rw [mainPart_raise]; split <;> simp

@[simp] theorem mainPart_pairWdt (s : State) : mainPart (pairWdt s) = mainPart s := by
  unfold pairWdt; dsimp only; split <;> simp

/-! ### The steps of a start (R100) -/

/-- A start that stalls before a step does not take it. -/
theorem startStep_stalled {x : StartIn} {code : Nat} (f : State → State) (s : State) (h : x.stall < code) :
    startStep x code f s = s := by
  rw [startStep, startGoes, decide_eq_false (by omega)]; rfl

/-- In MINIMAL a start takes no further step (R107). -/
theorem startStep_minimal {x : StartIn} {code : Nat} (f : State → State) {s : State} (h : s.mgmt.minimal = true) :
    startStep x code f s = s := by
  rw [startStep, startGoes, h, Bool.not_true, Bool.and_false]; rfl

theorem startLate_stalled {x : StartIn} (s : State) (h : x.stall = 0) : startLate x s = s := by
  simp only [startLate, startStep_stalled, h, Nat.zero_lt_succ]

theorem startLate_minimal {x : StartIn} {s : State} (h : s.mgmt.minimal = true) : startLate x s = s := by
  simp only [startLate, startStep_minimal, h]

theorem startFull_stalled {x : StartIn} (s : State) (h : x.stall = 0) :
    startFull x s = onMgmt (fun m => { m with warm := false, minimal := false }) s := by
  simp only [startFull, startLate_stalled, startStep_stalled, h, Nat.zero_lt_succ]

theorem startWarm_stalled {x : StartIn} (s : State) (h : x.stall = 0) :
    startWarm x s =
      onHost (fun h => { h with minimal := false }) (onMgmt (fun m => { m with warm := true, minimal := false }) s) := by
  simp only [startWarm, startLate_stalled, startStep_stalled, h, Nat.zero_lt_succ]

/-- Step 9 of a full start makes the part READY and clears the boot counter (R100, R104). -/
theorem start9_full {x : StartIn} {u : State} (hw : u.mgmt.warm = false) :
    (start9 x u).host.ready = true ∧ (start9 x u).power = u.power ∧
      (start9 x u).mgmt = { u.mgmt with cnt := 0, inStart := false, readyTimer := false } := by
  simp [start9, onMgmt, hw]

/-- A step that is taken changes what its action changes, and STAGE at most (R100). -/
theorem startStep_taken {x : StartIn} {code : Nat} (f : State → State) {s : State} (h : startGoes x code s = true) :
    ∃ n, startStep x code f s = onMgmt (fun m => { m with stage := n }) (f s) := by
  rw [startStep, if_pos h]
  dsimp only
  split
  · exact ⟨code, rfl⟩
  · exact ⟨(f s).mgmt.stage, rfl⟩

/-- A step that ends with the part up and outside MINIMAL writes its stage code (R100). -/
theorem startStep_ended {x : StartIn} {code : Nat} {f : State → State} {s : State} (h : startGoes x code s = true)
    (hp : (f s).power.phase = .up) (hm : (f s).mgmt.minimal = false) :
    startStep x code f s = onMgmt (fun m => { m with stage := code }) (f s) := by
  rw [startStep, if_pos h]
  simp [hp, hm]

/-! ### A start that enters MINIMAL at step 1 (R104, R106) -/

/-- A trial revert rewrites a boot record and owes its report; it counts nothing (R121). -/
theorem trialRevert_frame (s : State) :
    ∃ m, trialRevert s = { s with mgmt := m } ∧ m.cnt = s.mgmt.cnt ∧ m.warm = s.mgmt.warm := by
  unfold trialRevert
  dsimp only
  split
  · exact ⟨s.mgmt, rfl, rfl, rfl⟩
  · refine ⟨_, rfl, ?_⟩
    simp only [bootWrite]
    split <;> exact ⟨rfl, rfl⟩

/-- The boot counter saturates at 3 (R104). -/
theorem bootCounter_saturated {s : State} (hc : s.mgmt.cnt = 3) :
    ∃ m, bootCounter s = { s with mgmt := m } ∧ m.cnt = 3 ∧ m.warm = s.mgmt.warm := by
  unfold bootCounter
  dsimp only
  split
  · have count (b : Bool) : ∃ m, (if b then onMgmt (fun m => { m with cnt := min (m.cnt + 1) 3 }) s else s) =
        { s with mgmt := m } ∧ m.cnt = 3 ∧ m.warm = s.mgmt.warm := by
      cases b
      · exact ⟨s.mgmt, rfl, hc, rfl⟩
      · exact ⟨_, rfl, by simp [hc], rfl⟩
    obtain ⟨m, e, ec, ew⟩ := count (!(!s.mgmt.pfSeen && s.power.pfFirst != 0) && !s.mgmt.therm)
    obtain ⟨n, e', ec', ew'⟩ := trialRevert_frame { s with mgmt := m }
    rw [e, e']
    exact ⟨_, rfl, ec'.trans ec, ew'.trans ew⟩
  · exact ⟨_, rfl, hc, rfl⟩

theorem minimalSec_mgmt (s : State) : (minimalSec s).mgmt = s.mgmt := by
  unfold minimalSec
  split
  · rfl
  · exact (sameMain (mainPart_regenerate _)).mgmt

/-- The entry to MINIMAL from a full start: the boot ROM serves the part (R105, R106). -/
theorem mainPart_enterMinimal {s : State} (x : StartIn) (reason : Nat) (hw : s.mgmt.warm = false) :
    mainPart (enterMinimal x reason s) = mainPart (onHost (fun h => { h with minimal := true, ready := false, hostif := 0x0100 })
      (onMgmt (fun m => { m with minimal := true, minReason := reason, readyTimer := false, malorRuns := false })
        (minimalSec s))) := by
  simp [enterMinimal, hw]

theorem enterMinimal_mgmt {s : State} (x : StartIn) (reason : Nat) (hw : s.mgmt.warm = false) :
    (enterMinimal x reason s).mgmt =
      { s.mgmt with minimal := true, minReason := reason, readyTimer := false, malorRuns := false } := by
  rw [← minimalSec_mgmt s]
  exact (sameMain (mainPart_enterMinimal x reason hw)).mgmt

theorem enterMinimal_host {s : State} (x : StartIn) (reason : Nat) (hw : s.mgmt.warm = false) :
    (enterMinimal x reason s).host.minimal = true ∧ (enterMinimal x reason s).host.ready = false ∧
      (enterMinimal x reason s).host.hostif = 0x0100 :=
  have h := sameMain (mainPart_enterMinimal x reason hw)
  ⟨h.minimal, h.ready, h.hostif⟩

/-- Step 1 with the counter at its limit enters MINIMAL for it (R104, R106). -/
theorem start1_counted {s : State} (x : StartIn) (hl : lifecycle s ≠ 3) (hc : s.mgmt.cnt = 3) :
    ∃ u, start1 x s = enterMinimal x 0x0120 u ∧ u.mgmt.cnt = 3 ∧ u.mgmt.warm = s.mgmt.warm := by
  obtain ⟨m, e, ec, ew⟩ := bootCounter_saturated hc
  have hl' (m : MgmtSt) : lifecycle { s with mgmt := m } ≠ 3 := hl
  refine ⟨onMgmt (fun m => { m with
    minReq := false, failWritten := false, readyTimer := true, wdtMs := 0, minReason := 0 }) { s with mgmt := m }, ?_, ec, ew⟩
  simp [start1, e, minimalWanted, ec, hl', onMgmt]

/-- A full start that finds the counter at its limit is in MINIMAL after step 1, and takes no further step. -/
theorem startFull_counted {x : StartIn} {s : State} (hp : s.power.phase = .up) (hx : 1 ≤ x.stall) (hl : lifecycle s ≠ 3)
    (hc : s.mgmt.cnt = 3) :
    ∃ u n, startFull x s = onMgmt (fun m => { m with stage := n }) (enterMinimal x 0x0120 u) ∧ u.mgmt.cnt = 3 ∧
      u.mgmt.warm = false := by
  let v := onMgmt (fun m => { m with warm := false, minimal := false }) s
  have go : startGoes x 1 v = true := by simp [startGoes, v, onMgmt, hx, hp]
  obtain ⟨u, eu, uc, uw⟩ := start1_counted (s := v) x hl hc
  obtain ⟨n, en⟩ := startStep_taken (start1 x) go
  rw [eu] at en
  have hm : (startStep x 1 (start1 x) v).mgmt.minimal = true := by
    rw [en]
    exact congrArg MgmtSt.minimal (enterMinimal_mgmt x 0x0120 uw)
  refine ⟨u, n, ?_, uc, uw⟩
  rw [← en, startFull, startStep_minimal (start2 x) hm, startStep_minimal (start3 x) hm, startLate_minimal hm]

/-! ### A reset of MGMT alone (R109) -/

theorem mgmtReset_inner (s : State) : SameMain (sessionsGone (pendingForget s)) s := sameMain (by simp)

/-- Malor stops and its registers clear; what AON and NOR hold stays (R108, R109, R117). -/
theorem mgmtReset_mgmt (s : State) :
    (mgmtReset s).mgmt = { s.mgmt with
      malorRuns := false, readyTimer := false, restart := none, update := none
      cancelled := s.mgmt.cancelled ++ pendingSeqs s, tsens := List.replicate 6 none, oxLowered := false
      vmon := List.replicate 8 {}, load := 0, loadMax := 0, shed := 0, busyCnt := 0, shedSecs := 0, busErrCnt := 0
      busErrAddr := 0, sramCorr := 0, sramUncorr := 0, wdtMs := 0 } := by
  simp only [mgmtReset, (mgmtReset_inner s).mgmt]

theorem mgmtReset_host (s : State) :
    (mgmtReset s).host.ready = false ∧ (mgmtReset s).host.hostif = 0 ∧ (mgmtReset s).host.mbox = s.host.mbox ∧
      (mgmtReset s).host.owner = s.host.owner := by
  simp only [mgmtReset, (mgmtReset_inner s).mbox, (mgmtReset_inner s).owner, and_self]

/-- The plant's loops, axes, logic and meters and the time unit stand as they stood (R32, R109). -/
theorem mgmtReset_plant (s : State) :
    (mgmtReset s).loops = s.loops ∧ (mgmtReset s).axes = s.axes ∧ (mgmtReset s).logic = s.logic ∧
      (mgmtReset s).meter = s.meter ∧ (mgmtReset s).time = s.time := by
  have h := mgmtReset_inner s
  simp only [mgmtReset, h.loops, h.axes, h.logic, h.meter, h.time, and_self]

/-- BOOT_FAIL is written where this start has not written it (R108). -/
theorem bootFailOnce_eq (reason : Nat) (s : State) :
    bootFailOnce reason s = if s.mgmt.failWritten then s else
      { s with mgmt := { s.mgmt with failReason := reason, failStage := s.mgmt.stage, failWritten := true } } := rfl

/-- What every warm start that stalls at once shows of the reset before it (R100, R109). -/
theorem warmReset_stalled {x : StartIn} (u : State) (hx : x.stall = 0) :
    (startWarm x (mgmtReset u)).mgmt = { (mgmtReset u).mgmt with warm := true, minimal := false } ∧
      (startWarm x (mgmtReset u)).host = { (mgmtReset u).host with minimal := false } ∧
      (startWarm x (mgmtReset u)).loops = u.loops ∧ (startWarm x (mgmtReset u)).axes = u.axes ∧
      (startWarm x (mgmtReset u)).logic = u.logic ∧ (startWarm x (mgmtReset u)).meter = u.meter ∧
      (startWarm x (mgmtReset u)).time = u.time := by
  have plant := mgmtReset_plant u
  generalize mgmtReset u = v at plant ⊢
  rw [startWarm_stalled v hx]
  exact ⟨rfl, rfl, plant⟩

/-! ### The power-fail latch (R89, R90) -/

/-- A cause that is latched shows in CAUSE; the latch alone changes. -/
theorem latchCause_frame (b : Nat) (s : State) :
    ∃ c f o t, latchCause b s = { s with power := { s.power with
      pfCause := c, pfFirst := f, pfOvf := o, pfOnt := t, pfIncident := true } } ∧ bit c b = true := by
  have hb : bit (if bit s.power.pfCause b then s.power.pfCause else s.power.pfCause + 2 ^ b) b = true := by
    split
    · assumption
    · exact bit_add _ _ (Bool.eq_false_of_not_eq_true ‹_›)
  unfold latchCause onPower
  dsimp only
  generalize (if bit s.power.pfCause b then s.power.pfCause else s.power.pfCause + 2 ^ b) = c at hb ⊢
  repeat' split
  all_goals exact ⟨c, _, _, _, rfl, hb⟩

/-! ### The inputs that reset or restart -/

theorem exec_mainResetRelease {s : State} (x : StartIn) (h : s.power.phase = .waitXtal ∨ s.power.phase = .mainReset) :
    exec (.mainResetRelease x) s = .next (startFull x (afterRelease x s)) := congrArg _ (if_pos h)

theorem exec_watchdogExpiry {s : State} (x : StartIn) (h : inRun s = true) (he : s.mgmt.wdtEn = true) :
    exec (.watchdogExpiry x) s = .next (startWarm x (mgmtReset (pairWdt (bootFailOnce 0x0111 { s with mgmt := { s.mgmt with
      wdtCount := satInc 16 s.mgmt.wdtCount, wdtReport := true } })))) := congrArg _ (if_pos (by simp [h, he]))

theorem exec_readyTimerExpiry {s : State} (x : StartIn) (h : inRun s = true) (ht : s.mgmt.readyTimer = true) :
    exec (.readyTimerExpiry x) s = .next (startWarm x (mgmtReset (bootFailWrite 0x0112 s))) :=
  congrArg _ (if_pos (by simp [h, ht]))

theorem exec_mgmtCodeFault {s : State} (x : StartIn) {addr : Nat} {ecc : Bool} (h : malorWorks s = true)
    (hf : inCode addr = false ∨ ecc = true) :
    exec (.mgmtCodeFault ⟨addr, ecc, x⟩) s = .next (startWarm x (mgmtReset (bootFailOnce 0x0114 s))) :=
  congrArg _ (if_pos (by simpa [h] using hf))

/-- Modes 0 and 2 of a restart reset MGMT alone, mode 1 is a main reset (R603). -/
theorem exec_restartDelayExpiry {s : State} (x : StartIn) {k : Nat} (h : inRun s = true) (hr : s.mgmt.restart = some k) :
    exec (.restartDelayExpiry x) s = .next (if k = 1 then mainResetRequest s else startWarm x (mgmtReset s)) := by
  show Host.Outcome.next (restartNow x s) = _
  simp [restartNow, hr, h, warmAgain]

end Sys2Proof.Machine
end

section
/-! Reset, the supply sequence, resets and starts: O2, O5 and O8. -/

namespace Sys2Proof.Machine

/-- Settles O2: each register and list of the state at reset, read off. -/
theorem resetState : Obligations.ResetState := by
  unfold Obligations.ResetState OppOrdered HostRecOk
  decide

/-- Settles O5: each input of the sequence is taken in its phase; a loss of the supplies or of the oscillator latches its cause
and cuts the rails. -/
theorem supplySequence : Obligations.SupplySequence := by
  unfold Obligations.SupplySequence
  refine ⟨fun s => ?por, fun s h => congrArg _ (if_pos h), fun s h => congrArg _ (if_pos h), fun s h => congrArg _ (if_pos h),
    fun s n h => ?reassert, fun s he hg => ?pgFall, fun s hp => ?xtal⟩
  case por => exact ⟨_, rfl, rfl, rfl, rfl, rfl, rfl, rfl, rfl, rfl, rfl, rfl, rfl, rfl, rfl⟩
  case reassert =>
    show Host.Outcome.next (pwrEnReassert s) = _
    rw [pwrEnReassert, h]; rfl
  case pgFall =>
    obtain ⟨c, f, o, t, e, hc⟩ := latchCause_frame 1 s
    have hfall : exec .pmicPgFall s = .next (railsCut 1 (latchCause 1 s)) := congrArg _ (if_pos (by simp [he, hg]))
    rw [e] at hfall
    exact ⟨_, hfall, rfl, rfl, hc, rfl, rfl, rfl, rfl, rfl, rfl, rfl, rfl⟩
  case xtal =>
    obtain ⟨c, f, o, t, e, hc⟩ := latchCause_frame 2 s
    have hfail : exec .xtal25Fail s = .next (railsCut 1 (latchCause 2 s)) := congrArg _ (if_pos hp)
    rw [e] at hfail
    exact ⟨_, hfail, rfl, rfl, hc, rfl, rfl, rfl⟩

/-- Settles O8: each cause of a reset ends in the reset of MGMT alone and a warm start, or in main reset and a full start, whose
steps are read off where they stall or enter MINIMAL. The islands ON at release rest on log 31, the course of a code fault and of
an entry to MINIMAL on log 29. -/
theorem resetsAndStarts : Obligations.ResetsAndStarts := by
  unfold Obligations.ResetsAndStarts
  refine ⟨fun s x => exec_mainResetRelease x, fun u x hg hw => ?step9, fun s x hp hx => ?stalled, fun s x hp hx hl hc => ?counted,
    fun s x => exec_watchdogExpiry x, fun s x h he hx => ?watchdog, fun s x => exec_readyTimerExpiry x, fun s x h ht hx => ?ready,
    fun s x addr ecc => exec_mgmtCodeFault x, fun s x addr ecc h hf hn hx => ?fault, fun s x k h hr hk => ?modes,
    fun s x k h hr hk hx => ?restart, fun s x h hr => ?mainReset, fun s v h => ?kick⟩
  case step9 =>
    obtain ⟨hr, hp, hm⟩ := start9_full (x := x) hw
    obtain ⟨⟨-, hup⟩, hmin⟩ : (15 ≤ x.stall ∧ u.power.phase = .up) ∧ u.mgmt.minimal = false := by simpa [startGoes] using hg
    rw [startStep_ended hg (by rw [hp, hup]) (by rw [hm]; exact hmin)]
    simp [onMgmt, hr, hm]
  case stalled =>
    refine ⟨_, exec_mainResetRelease x hp, ?_⟩
    rw [startFull_stalled _ hx]
    exact ⟨rfl, rfl, rfl, rfl, rfl, rfl, rfl, rfl, rfl, rfl, rfl, rfl⟩
  case counted =>
    obtain ⟨u, n, e, uc, uw⟩ := startFull_counted (s := afterRelease x s) rfl hx hl hc
    obtain ⟨hmin, hrdy, hif⟩ := enterMinimal_host x 0x0120 uw
    refine ⟨_, exec_mainResetRelease x hp, ?_⟩
    rw [e]
    simp [onMgmt, enterMinimal_mgmt x 0x0120 uw, hmin, hrdy, hif, uc]
  case watchdog =>
    refine ⟨_, exec_watchdogExpiry x h he, ?_⟩
    generalize hu : ({ s with mgmt := { s.mgmt with wdtCount := satInc 16 s.mgmt.wdtCount, wdtReport := true } } : State) = u
    have hm := sameMain (mainPart_pairWdt (bootFailOnce 0x0111 u))
    obtain ⟨em, eh, el, ea, eg, et, eo⟩ := warmReset_stalled (pairWdt (bootFailOnce 0x0111 u)) hx
    obtain ⟨hr, hi, hb, ho⟩ := mgmtReset_host (pairWdt (bootFailOnce 0x0111 u))
    rw [em, eh, el, ea, eg, et, eo, mgmtReset_mgmt]
    simp only [hr, hi, hb, ho, hm.mgmt, hm.loops, hm.axes, hm.logic, hm.meter, hm.time, hm.mbox, hm.owner]
    rw [bootFailOnce_eq]
    subst hu
    cases hf : s.mgmt.failWritten <;> simp [bootFail, hf]
  case ready =>
    obtain ⟨em, eh, el, ea, -⟩ := warmReset_stalled (bootFailWrite 0x0112 s) hx
    refine ⟨_, exec_readyTimerExpiry x h ht, ?_⟩
    obtain ⟨hr, -⟩ := mgmtReset_host (bootFailWrite 0x0112 s)
    rw [em, eh, el, ea, mgmtReset_mgmt, hr]
    exact ⟨rfl, rfl, rfl, rfl, rfl, rfl⟩
  case fault =>
    obtain ⟨em, eh, el, ea, -⟩ := warmReset_stalled (bootFailOnce 0x0114 s) hx
    obtain ⟨hr, -⟩ := mgmtReset_host (bootFailOnce 0x0114 s)
    refine ⟨_, exec_mgmtCodeFault x h hf, ?_⟩
    rw [em, eh, el, ea, mgmtReset_mgmt, hr, bootFailOnce_eq, hn]
    exact ⟨rfl, rfl, rfl, rfl, rfl, rfl, rfl⟩
  case modes => exact (exec_restartDelayExpiry x h hr).trans (congrArg _ (if_neg hk))
  case restart =>
    obtain ⟨em, eh, el, ea, -⟩ := warmReset_stalled s hx
    obtain ⟨-, -, hb, -⟩ := mgmtReset_host s
    refine ⟨_, (exec_restartDelayExpiry x h hr).trans (congrArg _ (if_neg hk)), ?_⟩
    rw [em, eh, el, ea, mgmtReset_mgmt, hb]
    exact ⟨rfl, rfl, rfl, rfl, rfl, rfl⟩
  case mainReset =>
    exact ⟨_, exec_restartDelayExpiry x h hr, rfl, rfl, rfl, rfl, rfl, rfl⟩
  case kick =>
    show execWdtKick v s = _
    simp [execWdtKick, h, onMgmt]

end Sys2Proof.Machine
end

section
/-! SUPPORT. Triggers and captures: the state a let-through command runs in, trigger units set, pulsed and compared with ONT
(R330 to R333), the payload of TIME_TRG_ARM (R331), and the filter of a capture (R62, R334). -/

namespace Sys2Proof.Machine

/-! ### The state in which a command runs -/

theorem takenState_time (cmd : Nat) (m : Mail) (s : State) : (takenState cmd m s).time = s.time := by
  unfold takenState sessionAccept
  split
  · split <;> exact ring_time cmd m s
  · exact ring_time cmd m s

theorem takenState_rtc (cmd : Nat) (m : Mail) (s : State) : (takenState cmd m s).rtc = s.rtc := by
  unfold takenState sessionAccept
  split
  · split <;> exact ring_rtc cmd m s
  · exact ring_rtc cmd m s

/-! ### One trigger unit changed -/

/-- From `s` to `t` trigger unit `n` has become `g`; the other units, ONT, the captures, the RTC and AON stand. -/
structure TrgSet (n : Nat) (g : Trigger) (s t : State) : Prop where
  unit : t.time.trg[n]? = some g
  others : ∀ k, k ≠ n → t.time.trg[k]? = s.time.trg[k]?
  ont : t.time.ont = s.time.ont
  cap : t.time.cap = s.time.cap
  rtc : t.rtc = s.rtc
  power : t.power = s.power

theorem TrgSet.trans {n : Nat} {g h : Trigger} {s t u : State} (a : TrgSet n g s t) (b : TrgSet n h t u) : TrgSet n h s u where
  unit := b.unit
  others k hk := (b.others k hk).trans (a.others k hk)
  ont := b.ont.trans a.ont
  cap := b.cap.trans a.cap
  rtc := b.rtc.trans a.rtc
  power := b.power.trans a.power

theorem trgSet_onTrg {n : Nat} {g : Trigger} {s : State} (f : Trigger → Trigger) (h : s.time.trg[n]? = some g) :
    TrgSet n (f g) s (onTrg n f s) where
  unit := by simp [onTrg, onTime, h]
  others k hk := getElem?_modNth_other _ _ _ _ hk
  ont := rfl
  cap := rfl
  rtc := rfl
  power := rfl

theorem TrgSet.raise {n : Nat} {g : Trigger} {s t : State} (a : TrgSet n g s t) (c k p q r : Nat) :
    TrgSet n g s (raise c k p q r t) where
  unit := by rw [raise_time]; exact a.unit
  others := by rw [raise_time]; exact a.others
  ont := by rw [raise_time]; exact a.ont
  cap := by rw [raise_time]; exact a.cap
  rtc := by rw [raise_rtc]; exact a.rtc
  power := by rw [raise_power]; exact a.power

/-- The pulse of units 14 and 15 goes to its consumer, and to no other (R332). -/
theorem handPulse_frame (n x : Nat) (s : State) : ∃ p q, handPulse n x s = { s with time := { s.time with pulse14 := p, pulse15 := q } } ∧
    (n = 14 → p = some x) ∧ (n = 15 → q = some x) := by
  unfold handPulse
  split
  · exact ⟨some x, s.time.pulse15, rfl, fun _ => rfl, by omega⟩
  · split
    · exact ⟨s.time.pulse14, some x, rfl, by omega, fun _ => rfl⟩
    · exact ⟨s.time.pulse14, s.time.pulse15, rfl, by omega, by omega⟩

/-- A unit emits a pulse: its state moves on by `f`, its consumers take the pulse (R332, R333, R436). -/
def emitPulse (n nominal : Nat) (late : Bool) (f : Trigger → Trigger) (s : State) : State :=
  handPulse n nominal (captPulse n late (onTrg n f s))

theorem trgSet_emitPulse {n : Nat} {g : Trigger} {s : State} (x : Nat) (late : Bool) (f : Trigger → Trigger)
    (h : s.time.trg[n]? = some g) : TrgSet n (f g) s (emitPulse n x late f s) := by
  obtain ⟨p, q, e, -, -⟩ := handPulse_frame n x (captPulse n late (onTrg n f s))
  have a := trgSet_onTrg f h
  rw [emitPulse, e]
  exact ⟨a.unit, a.others, rfl, rfl, rfl, rfl⟩

theorem emitPulse_consumers (n x : Nat) (late : Bool) (f : Trigger → Trigger) (s : State) :
    (n = 14 → (emitPulse n x late f s).time.pulse14 = some x) ∧ (n = 15 → (emitPulse n x late f s).time.pulse15 = some x) := by
  obtain ⟨p, q, e, hp, hq⟩ := handPulse_frame n x (captPulse n late (onTrg n f s))
  rw [emitPulse, e]
  exact ⟨hp, hq⟩

/-- A unit that fires emits its pulse, and its event where one is due (R332). -/
theorem trgFire_eq {n : Nat} {g : Trigger} {s : State} (h : s.time.trg[n]? = some g) :
    trgFire n s =
      let t := emitPulse n g.target false (trgAdvance 0 false) s
      if g.evt then
        if elapsed g.lastEvt 1000000 t then
          raise 0x0519 28 n g.target (g.target / 2 ^ 32) (onTrg n (fun x => { x with lastEvt := some t.time.ont }) t)
        else onTrg n (fun x => { x with evtDrop := min 255 (x.evtDrop + 1) }) t
      else t := by
  rw [trgFire, h]; rfl

/-- A unit that fires in its tick: no period skipped, and its event at most notes when it was raised (R332). -/
theorem trgFire_sets {n : Nat} {g : Trigger} {s : State} (h : s.time.trg[n]? = some g) :
    ∃ e d, TrgSet n { trgAdvance 0 false g with lastEvt := e, evtDrop := d } s (trgFire n s) ∧
      (n = 14 → (trgFire n s).time.pulse14 = some g.target) ∧ (n = 15 → (trgFire n s).time.pulse15 = some g.target) := by
  have pulse := trgSet_emitPulse g.target false (trgAdvance 0 false) h
  have taken := emitPulse_consumers n g.target false (trgAdvance 0 false) s
  rw [trgFire_eq h]
  generalize emitPulse n g.target false (trgAdvance 0 false) s = t at pulse taken ⊢
  have noted (f : Trigger → Trigger) := pulse.trans (trgSet_onTrg f pulse.unit)
  dsimp only
  split
  · split
    · refine ⟨_, _, (noted fun x => { x with lastEvt := some t.time.ont }).raise _ _ _ _ _, ?_⟩
      rw [raise_time]; exact taken
    · exact ⟨_, _, noted fun x => { x with evtDrop := min 255 (x.evtDrop + 1) }, taken⟩
  · exact ⟨_, _, pulse, taken⟩

/-- How many periods the latest target reached lies after the held one (R333). -/
def periodsPassed (ont : Nat) (g : Trigger) : Nat := if g.periodic then (ont - g.target) / g.period else 0

/-- A unit whose target was jumped over emits one late pulse, for the latest target reached (R333). -/
theorem trgLate_sets {n : Nat} {g : Trigger} {s : State} (h : s.time.trg[n]? = some g) :
    TrgSet n (trgAdvance (periodsPassed s.time.ont g) true g) s (trgLate n s) := by
  have e : trgLate n s =
      let t := emitPulse n (g.target + periodsPassed s.time.ont g * g.period) true (trgAdvance (periodsPassed s.time.ont g) true) s
      if g.evt || 14 ≤ n then
        raise 0x0515 28 n (min (periodsPassed s.time.ont g) 65535) (g.target + periodsPassed s.time.ont g * g.period) t
      else t := by
    rw [trgLate, h]; rfl
  have pulse := trgSet_emitPulse (g.target + periodsPassed s.time.ont g * g.period) true
    (trgAdvance (periodsPassed s.time.ont g) true) h
  rw [e]
  dsimp only
  split
  · exact pulse.raise _ _ _ _ _
  · exact pulse

/-! ### Targets and ONT -/

/-- A target that ONT has reached, by less than half the range of the comparison (R332). -/
theorem signedDiff_reached {a b : Nat} (h : a ≤ b) (h' : b < a + 2 ^ 47) :
    signedDiff 48 (a % 2 ^ 48) (b % 2 ^ 48) ≤ 0 := by
  simp only [signedDiff, wrapS, toBits, signExtend]
  omega

/-- A target ahead of ONT, by less than half the range of the comparison (R332). -/
theorem signedDiff_ahead {a b : Nat} (h : b < a) (h' : a < b + 2 ^ 47) :
    0 < signedDiff 48 (a % 2 ^ 48) (b % 2 ^ 48) := by
  simp only [signedDiff, wrapS, toBits, signExtend]
  omega

theorem exec_triggerFire_due {s : State} {u : Nat} {g : Trigger} (hp : plantRuns s = true) (h : s.time.trg[u]? = some g)
    (ha : g.armed = true) (hle : g.target ≤ s.time.ont) (hlt : s.time.ont < g.target + 2 ^ 47) :
    exec (.triggerFire u) s = .next (trgFire u s) := by
  show execTriggerFire u s = _
  simp only [execTriggerFire, h, hp, ha, signedDiff_reached hle hlt, decide_true, Bool.and_self, if_true]

theorem exec_triggerFire_idle {s : State} {u : Nat} {g : Trigger} (h : s.time.trg[u]? = some g)
    (ha : g.armed = false ∨ s.time.ont < g.target ∧ g.target < s.time.ont + 2 ^ 47) :
    exec (.triggerFire u) s = .next s := by
  show execTriggerFire u s = _
  rw [execTriggerFire, h]
  rcases ha with ha | ⟨hlt, hle⟩
  · simp [ha]
  · have := signedDiff_ahead hlt hle
    simp only [decide_eq_false (show ¬ signedDiff 48 (g.target % 2 ^ 48) (s.time.ont % 2 ^ 48) ≤ 0 by omega), Bool.and_false,
      Bool.false_eq_true, if_false]

/-! ### TIME_TRG_ARM and TIME_TRG_STOP -/

/-- The fields that an arm sets (R331). -/
def armFields (per pol evt : Bool) (target period width count : Nat) (g : Trigger) : Trigger :=
  { g with
    armed := true, periodic := per, pol := pol, evt := evt, target := target, period := period, width := width
    remain := if per then count else 1, evtDrop := 0, driven := true }

theorem armTrigger_eq (u : Nat) (per pol evt : Bool) (tg period w c : Nat) (s : State) :
    armTrigger u per pol evt tg period w c s =
      if tg ≤ s.time.ont then trgLate u (onTrg u (armFields per pol evt tg period w c) s)
      else onTrg u (armFields per pol evt tg period w c) s := rfl

/-- A target ahead of ONT waits (R331). -/
theorem armTrigger_ahead {u : Nat} {g : Trigger} {s : State} (per pol evt : Bool) {tg : Nat} (period w c : Nat)
    (h : s.time.trg[u]? = some g) (ht : s.time.ont < tg) :
    TrgSet u (armFields per pol evt tg period w c g) s (armTrigger u per pol evt tg period w c s) := by
  rw [armTrigger_eq, if_neg (by omega)]
  exact trgSet_onTrg _ h

/-- An arm whose target ONT has reached emits the late pulse at once (R331, R333). -/
theorem armTrigger_late {u : Nat} {g : Trigger} {s : State} (per pol evt : Bool) {tg : Nat} (period w c : Nat)
    (h : s.time.trg[u]? = some g) (ht : tg ≤ s.time.ont) :
    TrgSet u (trgAdvance (if per then (s.time.ont - tg) / period else 0) true (armFields per pol evt tg period w c g)) s
      (armTrigger u per pol evt tg period w c s) := by
  rw [armTrigger_eq, if_pos ht]
  have arm := trgSet_onTrg (armFields per pol evt tg period w c) h
  exact arm.trans (trgLate_sets arm.unit)

theorem byteField_zeros (n k : Nat) (r : Bytes) (h : k ≤ n) : byteField (zeros n ++ r) 0 k = 0 := by
  have all0 (k : Nat) : leNat (List.replicate k 0#8) = 0 := by
    induction k with
    | zero => rfl
    | succ k ih => simp [List.replicate_succ, leNat, ih]
  simp [byteField, zeros, List.take_append, List.take_replicate, h, all0]

/-- TIME_TRG_ARM reads its payload field by field (R331). -/
theorem trgArm_payload {u fl tg per w : Nat} (c : Nat) (s : State) (hu : u < 256) (hf : fl < 256) (ht : tg < 2 ^ 64)
    (hp : per < 2 ^ 64) (hw : w < 2 ^ 32) :
    trgArm (leBytes 1 u ++ leBytes 1 fl ++ zeros 2 ++ leBytes 8 tg ++ leBytes 8 per ++ leBytes 4 w ++ leBytes 4 c) s =
      if 7 < fl then refuse s 0x050A
      else if u = 14 ∨ u = 15 then refuse s 0x0510
      else if 15 < u ∨ (bit fl 0 = false ∧ per ≠ 0) ∨ (bit fl 0 = true ∧ (per < 100 ∨ 86400000000000 < per)) ∨
          w < 8 ∨ 1000000000 < w ∨ (bit fl 0 = true ∧ per ≤ w) ∨ s.time.ont + (2 ^ 47 - 1) < tg then refuse s 0x0505
      else done (armTrigger u (bit fl 0) (bit fl 1) (bit fl 2) tg per w (c % 2 ^ 32) s) [] := by
  have hl : byteField (leBytes 4 c) 0 4 = c % 256 ^ 4 := by simpa using byteField_front 4 c []
  norm_num at ht hp hw
  simp [trgArm, byteField_front, byteField_skip, byteField_zeros, hl, Nat.mod_eq_of_lt hu, Nat.mod_eq_of_lt hf,
    Nat.mod_eq_of_lt ht, Nat.mod_eq_of_lt hp, Nat.mod_eq_of_lt hw]

/-- An arm within every limit of R331 is carried out. -/
theorem trgArm_accepted {u fl tg per w c : Nat} {s : State} (hu : u < 14) (hf : fl < 8) (ht : tg < 2 ^ 64) (hp : per < 2 ^ 64)
    (hc : c < 2 ^ 32) (h0 : bit fl 0 = false → per = 0) (h1 : bit fl 0 = true → 100 ≤ per ∧ per ≤ 86400000000000 ∧ w < per)
    (hw : 8 ≤ w) (hw' : w ≤ 1000000000) (hr : tg ≤ s.time.ont + (2 ^ 47 - 1)) :
    trgArm (leBytes 1 u ++ leBytes 1 fl ++ zeros 2 ++ leBytes 8 tg ++ leBytes 8 per ++ leBytes 4 w ++ leBytes 4 c) s =
      done (armTrigger u (bit fl 0) (bit fl 1) (bit fl 2) tg per w c s) [] := by
  rw [trgArm_payload c s (by omega) (by omega) ht hp (by omega), if_neg (by omega), if_neg (by omega), if_neg,
    Nat.mod_eq_of_lt hc]
  rintro (h | ⟨hb, h⟩ | ⟨hb, h⟩ | h | h | ⟨hb, h⟩ | h)
  · omega
  · exact h (h0 hb)
  · have := h1 hb; omega
  · omega
  · omega
  · have := h1 hb; omega
  · omega

/-- A late periodic unit's next target is the first after ONT (R333). -/
theorem lateTarget_bounds {ont tg per : Nat} (hp : 0 < per) (ht : tg ≤ ont) :
    ont < tg + ((ont - tg) / per + 1) * per ∧ tg + ((ont - tg) / per + 1) * per ≤ ont + per := by
  have e := Nat.div_add_mod' (ont - tg) per
  have l := Nat.mod_lt (ont - tg) hp
  rw [Nat.add_mul, Nat.one_mul]
  omega

theorem exec_timeTrgArm {m : Mail} {s : State} (h : taken 0x0520 m s = true) {b : Bytes} (hb : m.payload = b) :
    (∀ t, trgArm b (takenState 0x0520 m s) = done t [] → exec (.timeTrgArm m) s = answers 0x0520 m s t []) ∧
      ∀ r, trgArm b (takenState 0x0520 m s) = refuse (takenState 0x0520 m s) r →
        exec (.timeTrgArm m) s = refuses 0x0520 m s (takenState 0x0520 m s) r 0 :=
  ⟨fun _ e => mailOut_answers h (hb ▸ e), fun _ e => mailOut_refuses h (hb ▸ e)⟩

/-- TIME_TRG_STOP disarms its unit (R331). -/
theorem trgStop_payload {u : Nat} (s : State) (hu : u < 14) : trgStop (leBytes 1 u ++ zeros 3) s = done (disarm u s) [] := by
  have hz : byteField (zeros 3) 0 3 = 0 := by simpa using byteField_zeros 3 3 [] (Nat.le_refl 3)
  have h14 : u ≠ 14 ∧ u ≠ 15 ∧ ¬ 15 < u := by omega
  simp [trgStop, byteField_front, byteField_skip, hz, Nat.mod_eq_of_lt (show u < 256 by omega), h14]

/-! ### Captures -/

/-- The samples that the filter of a capture unit's ball takes, 0 with none (R60, R334). -/
def capSamples (s : State) (u : Nat) : Nat := match capPad u with | some g => padFilter s g | none => 0

/-- One filter of the capture balls moved. -/
def setFilt (u : Nat) (f : Filt) (s : State) : State := { s with pins := { s.pins with cap := s.pins.cap.set u f } }

/-- A ball's samples go through its filter; where the filtered level changes, the edge is captured (R62, R334). -/
theorem exec_captureEdge {s : State} {u : Nat} (lv : Bool) (k : Nat) (hp : plantRuns s = true) (hu : u < 16) :
    exec (.captureEdge u ⟨lv, k⟩) s =
      let f := nth {} s.pins.cap u
      let g := f.feed (capSamples s u) lv k
      .next (if g.level = f.level then setFilt u g s else capture u lv (setFilt u g s)) := by
  show Host.Outcome.next (captureEdge u lv k s) = _
  rw [captureEdge, if_neg (by simp [hp]; omega)]
  rfl

theorem Filt.feed_passes {n k : Nat} {lv : Bool} {f : Filt} (hl : lv ≠ f.level) (hn : n ≤ f.run + k) :
    f.feed n lv k = { level := lv, run := 0 } := by
  rw [feed, if_neg hl, if_pos hn]

theorem Filt.feed_short {n k : Nat} {lv : Bool} {f : Filt} (hl : lv ≠ f.level) (hn : f.run + k < n) :
    f.feed n lv k = { f with run := f.run + k } := by
  rw [feed, if_neg hl, if_neg (by omega)]

/-- An edge that EDGE does not select leaves the unit (R334). -/
theorem capture_unselected {s : State} {u : Nat} {lv : Bool} (h : act s (0x6800 + 2 * u) = if lv then 1 else 0) :
    capture u lv s = s := by
  rw [capture]
  exact if_pos (by cases lv <;> simp_all)

/-- A selected edge of a unit with no event and no PPS role stores its time stamp and counts (R334). -/
theorem capture_selected {s : State} {u : Nat} {lv : Bool} (hu : 0 < u)
    (h : act s (0x6800 + 2 * u) = 2 ∨ act s (0x6800 + 2 * u) = if lv then 0 else 1) (he : act s (0x6801 + 2 * u) = 0) :
    capture u lv s = onCap u (fun c => { c with
      ts := s.time.ont - capDelay s u, count := wrapInc 32 c.count, rising := lv, inSleep := s.power.cur == .sleep }) s := by
  have sel : ¬ ((act s (0x6800 + 2 * u) = 0 ∧ !lv) ∨ (act s (0x6800 + 2 * u) = 1 ∧ lv)) := by
    cases lv <;> rcases h with h | h <;> simp [h]
  have quiet (f : Capture → Capture) : ¬ act (onCap u f s) (0x6801 + 2 * u) = 1 := by
    rw [show act (onCap u f s) (0x6801 + 2 * u) = 0 from he]; decide
  rw [capture]
  dsimp only
  rw [if_neg sel, if_neg (quiet _), if_neg fun h => absurd h.1 (by omega)]

/-- The filter and the delay of a unit's ball: fixed for units 8 to 10, GRP 6's for units 0 to 7 (R334). -/
theorem capSamples_capDelay {s : State} {u n d : Nat}
    (h : (8 ≤ u ∧ u ≤ 10 ∧ n = 0 ∧ d = 1000) ∨ (u < 8 ∧ n = filterN (bits (nth 0 s.mgmt.padCfg 6) 8 3) ∧
      d = if n = 0 then 0 else 40 * n - 16)) : capSamples s u = n ∧ capDelay s u = d := by
  rcases h with ⟨h8, h10, rfl, rfl⟩ | ⟨h8, rfl, rfl⟩
  · simp [capSamples, capDelay, capPad, show ¬ u < 8 by omega, show u < 11 by omega]
  · exact ⟨by simp [capSamples, capPad, h8, padFilter], by rw [capDelay, capPad, if_pos h8]; rfl⟩

end Sys2Proof.Machine
end

section
/-! Triggers and captures: O28. -/

namespace Sys2Proof.Machine

/-- Settles O28: an arm, a stop, a firing and the end of a pulse each set one unit; an edge goes through its filter, and is
captured where EDGE selects it. REMAIN 1 of a single shot rests on log 11, a time stamp cut at 0 on log 6, the samples that an
edge brings on log 42. -/
theorem triggersAndCaptures : Obligations.TriggersAndCaptures := by
  unfold Obligations.TriggersAndCaptures
  refine ⟨fun m s u fl tg per w c ht hu hfl htg hper hc hm h0 h1 hw hw' hr hlen => ?arm, fun m s u b ht hu hm hb => ?reserved,
    fun m s u tg w c ht hu htg hm hw hw' hr => ?range, fun m s u g ht hu hm hg => ?stop,
    fun s u g hp hg ha hle hlt => ?fire, fun s u g hg ha => exec_triggerFire_idle hg ha, fun s u g hg => ?pulseEnd,
    fun s u d n k lv c hp h0 hu hc hsel hev hpad hl hn => ?captured, fun s u k lv hp hu hsel => ?unselected,
    fun s u k lv hp hu hl hn => ?filtered⟩
  case arm =>
    obtain ⟨g, hg⟩ : ∃ g, s.time.trg[u]? = some g := ⟨_, List.getElem?_eq_getElem hlen⟩
    have hT := takenState_time 0x0520 m s
    have hrtc := takenState_rtc 0x0520 m s
    have run := (exec_timeTrgArm ht hm).1 _
      (trgArm_accepted hu hfl htg hper hc h0 h1 hw hw' (by rw [hT]; exact hr))
    generalize takenState 0x0520 m s = v at hT hrtc run
    rw [← hT] at hg
    by_cases hle : tg ≤ s.time.ont
    · have upd := armTrigger_late (bit fl 0) (bit fl 1) (bit fl 2) per w c hg (hT ▸ hle)
      refine ⟨_, _, run, upd.unit, rfl, rfl, rfl, rfl, rfl, by rw [← hT]; exact upd.others, by rw [upd.ont, hT],
        by rw [upd.cap, hT], upd.rtc.trans hrtc, fun h => absurd hle (by omega), fun _ => ⟨rfl, rfl, ?_, fun hb => ?_⟩⟩
      · cases hb : bit fl 0 <;> simp [trgAdvance, armFields]
      · have := lateTarget_bounds (per := per) (by have := h1 hb; omega) hle
        simpa [trgAdvance, armFields, hb, hT] using this
    · have upd := armTrigger_ahead (bit fl 0) (bit fl 1) (bit fl 2) (tg := tg) per w c hg (by rw [hT]; omega)
      exact ⟨_, _, run, upd.unit, rfl, rfl, rfl, rfl, rfl, by rw [← hT]; exact upd.others, by rw [upd.ont, hT],
        by rw [upd.cap, hT], upd.rtc.trans hrtc, fun _ => ⟨rfl, rfl, rfl⟩, fun h => absurd h hle⟩
  case reserved =>
    refine (exec_timeTrgArm ht hm).2 _ ?_
    rw [show ([0] : Bytes) = leBytes 1 0 from rfl]
    simp [trgArm, byteField_front, byteField_skip, byteField_zeros, Nat.mod_eq_of_lt (show u < 256 by omega), hb, hu]
  case range =>
    have zeros3 : zeros 3 = leBytes 1 0 ++ zeros 2 := rfl
    have zeros8 : zeros 8 = leBytes 8 0 := rfl
    rw [zeros3, zeros8, ← List.append_assoc (leBytes 1 u)] at hm
    refine (exec_timeTrgArm ht hm).2 _ ?_
    rw [trgArm_payload c _ (by omega) (by omega) htg (by omega) (by omega), if_neg (by omega), if_neg (by omega), if_pos]
    rw [takenState_time]
    omega
  case stop =>
    have hT := takenState_time 0x0521 m s
    have run := mailOut_answers (body := trgStop m.payload) ht (hm ▸ trgStop_payload _ hu)
    rw [← hT] at hg
    have upd := trgSet_onTrg (fun t => { t with armed := false, remain := 0 }) hg
    exact ⟨_, run, upd.unit, by rw [← hT]; exact upd.others, by rw [← hT]; exact upd.ont,
      upd.rtc.trans (takenState_rtc 0x0521 m s)⟩
  case fire =>
    obtain ⟨e, d, upd, h14, h15⟩ := trgFire_sets hg
    exact ⟨_, _, exec_triggerFire_due hp hg ha hle hlt, upd.unit, rfl, rfl, rfl, by simp [trgAdvance], by simp [trgAdvance],
      rfl, rfl, upd.others, h14, h15, upd.ont, upd.power, upd.rtc⟩
  case pulseEnd =>
    have upd := trgSet_onTrg (fun t => { t with active := false }) hg
    exact ⟨_, rfl, upd.unit, upd.others⟩
  case captured =>
    obtain ⟨rfl, rfl⟩ := capSamples_capDelay hpad
    rw [exec_captureEdge lv k hp hu]
    dsimp only
    rw [Filt.feed_passes hl hn, if_neg hl, capture_selected (s := setFilt u _ s) h0 hsel hev]
    exact ⟨_, rfl, (getElem?_modNth_same _ _ _).trans (congrArg (Option.map _) hc), fun j hj => getElem?_modNth_other _ _ _ _ hj⟩
  case unselected =>
    rw [exec_captureEdge lv k hp hu]
    dsimp only
    rw [capture_unselected (s := setFilt u _ s) hsel, ite_self]
    exact ⟨_, rfl⟩
  case filtered =>
    have hs : capSamples s u = filterN (bits (nth 0 s.mgmt.padCfg 6) 8 3) := by simp [capSamples, capPad, hu, padFilter]
    rw [exec_captureEdge lv k hp (by omega), hs]
    dsimp only
    rw [Filt.feed_short hl hn, if_pos rfl]
    rfl

end Sys2Proof.Machine
end

section
/-! SUPPORT. What a step leaves of the queue and of the rails (R84): the functions that leave the queue and the points of both rails
as they are, chapter by chapter, and then the few that change a point and keep its order. -/

namespace Sys2Proof.Machine

/-! ### The queue and the points of the rails -/

/-- The points of VDD_OX and VDD_SOC, of each the frequency's and that of the voltage last acknowledged. Neither this nor `account`
unfolds by itself, so that `simp` compares the rails of two states as one value. -/
def points (ox voltOx soc voltSoc : Nat) : Nat × Nat × Nat × Nat := (ox, voltOx, soc, voltSoc)

abbrev railPoints (p : PowerSt) : Nat × Nat × Nat × Nat := points p.oppOx p.voltOx p.oppSoc p.voltSoc

/-- The queue beside the points of the rails. -/
def account (queue : List Instr) (r : Nat × Nat × Nat × Nat) : List Instr × Nat × Nat × Nat × Nat := (queue, r)

/-- What a step has to account for. -/
abbrev rails (s : State) : List Instr × Nat × Nat × Nat × Nat := account s.pending (railPoints s.power)

@[simp] theorem rails_ite (c : Prop) [Decidable c] (a b : State) :
    rails (if c then a else b) = if c then rails a else rails b := apply_ite rails c a b

@[simp] theorem railPoints_ite (c : Prop) [Decidable c] (a b : PowerSt) :
    railPoints (if c then a else b) = if c then railPoints a else railPoints b := apply_ite railPoints c a b

@[simp] theorem st_ite (c : Prop) [Decidable c] (a b : Answer) : (if c then a else b).st = if c then a.st else b.st :=
  apply_ite Answer.st c a b

@[simp] theorem fst_ite {α : Type} (c : Prop) [Decidable c] (a b : State × α) :
    (if c then a else b).1 = if c then a.1 else b.1 := apply_ite Prod.fst c a b

@[simp] theorem snd_ite {α : Type} (c : Prop) [Decidable c] (a b : α × State) :
    (if c then a else b).2 = if c then a.2 else b.2 := apply_ite Prod.snd c a b

@[simp] theorem rails_foldl {α : Type} {f : State → α → State} (h : ∀ s a, rails (f s a) = rails s) (l : List α) (s : State) :
    rails (l.foldl f s) = rails s := by
  induction l generalizing s with
  | nil => rfl
  | cons a l ih => rw [List.foldl_cons, ih, h]

@[simp] theorem rails_onPower {f : PowerSt → PowerSt} (h : ∀ p, railPoints (f p) = railPoints p) (s : State) :
    rails (onPower f s) = rails s := congrArg (account s.pending) (h s.power)

/-- What leaves the part that `mainPart` holds leaves the rails. -/
theorem rails_of_mainPart {t s : State} (h : mainPart t = mainPart s) : rails t = rails s := (congrArg rails h :)

/-! The updates of the power controller that leave the points -/

@[simp] theorem railPoints_wakeAct (p : PowerSt) : railPoints (wakeAct p) = railPoints p := by simp [wakeAct]
@[simp] theorem railPoints_pllStart (n : Nat) (p : PowerSt) : railPoints (pllStart n p) = railPoints p := by simp [pllStart]
@[simp] theorem railPoints_latchDone (n : Nat) (p : PowerSt) : railPoints (latchDone n p) = railPoints p := by simp [latchDone]
@[simp] theorem railPoints_relock (ox : Bool) (p : PowerSt) : railPoints (relock ox p) = railPoints p := by simp [relock]

@[simp] theorem railPoints_oppStart (ox : Bool) (n : Nat) (p : PowerSt) : railPoints (oppStart ox n p) = railPoints p := by
  simp [oppStart]

@[simp] theorem railPoints_oppOver (p : PowerSt) : railPoints (oppOver p) = railPoints p := by
  unfold oppOver; split <;> simp

@[simp] theorem railPoints_spreadSet (v : Nat) (p : PowerSt) : railPoints (spreadSet v p) = railPoints p := by simp [spreadSet]

/-! ### Functions that leave the queue and the points as they are -/

section

variable (n k i j a b c d e f g h : Nat) (p q r : Bytes) (x y z : Bool) (m : Mail) (v w u : Int) (s : State)

/-! #### Parameters -/

@[simp] theorem rails_parWrite : rails (parWrite x n v s) = rails s := by simp [parWrite]
@[simp] theorem rails_tabWrite : rails (tabWrite x n p s) = rails s := by simp [tabWrite]
@[simp] theorem rails_parCommit (p : Nat → Bool) : rails (parCommit p s) = rails s := by simp [parCommit]

/-! #### Events -/

@[simp] theorem rails_raiseBy : rails (raiseBy x n k i j a s) = rails s := rails_of_mainPart (mainPart_raiseBy ..)
@[simp] theorem rails_oneCycle {f : State → State} (h : ∀ s, rails (f s) = rails s) (s : State) :
    rails (oneCycle f s) = rails s := h s
@[simp] theorem rails_raise : rails (raise n k i j a s) = rails s := rails_of_mainPart (mainPart_raise ..)
@[simp] theorem rails_hostDrops : rails (hostDrops n s) = rails s := by simp [hostDrops]
@[simp] theorem rails_hostDrop : rails (hostDrop s) = rails s := by simp [hostDrop]
@[simp] theorem rails_ringIgnored : rails (ringIgnored s) = rails s := by simp [ringIgnored]
@[simp] theorem rails_drawn : rails s.drawn = rails s := rails_of_mainPart (mainPart_drawn ..)

/-! #### The shared operations -/

@[simp] theorem rails_setIsl (n : Nat) (x : IslSt) (s : State) : rails (setIsl n x s) = rails s := rfl
@[simp] theorem rails_idleExit (s : State) : rails (idleExit s) = rails s := by
  unfold idleExit; split <;> rfl

@[simp] theorem rails_latchWake (n : Nat) (s : State) : rails (latchWake n s) = rails s := by
  rw [← rails_idleExit s]
  unfold latchWake
  generalize idleExit s = u
  dsimp only
  split
  · rfl
  · refine congrArg (account u.pending) ?_
    split
    · exact railPoints_wakeAct _
    · rfl

@[simp] theorem rails_oxRelock : rails (oxRelock s) = rails s := by simp [oxRelock]
@[simp] theorem rails_setUnit (x : UnitSt) : rails (setUnit n k x s) = rails s := rails_of_mainPart (mainPart_setUnit ..)
@[simp] theorem rails_padWrite : rails (padWrite n k s) = rails s := by simp [padWrite]
@[simp] theorem rails_padLoad : rails (padLoad n s) = rails s := by simp [padLoad]
@[simp] theorem rails_dinFeed (runs : List (Nat × Nat)) : rails (dinFeed runs s) = rails s := by simp [dinFeed]
@[simp] theorem rails_padLoadOwner : rails (padLoadOwner n s) = rails s := by simp [padLoadOwner]
@[simp] theorem rails_send (m : OutMsg) : rails (send m s) = rails s := by simp [send]
@[simp] theorem rails_onNet (f : NetSt → NetSt) : rails (onNet f s) = rails s := by simp [onNet]
@[simp] theorem rails_onPort (f : PortSt → PortSt) : rails (onPort n f s) = rails s := by simp [onPort]
@[simp] theorem rails_portRx : rails (portRx n s) = rails s := by simp [portRx]
@[simp] theorem rails_portSend (m : OutMsg) : rails (portSend n m s) = rails s := by simp [portSend]

/-! #### Mailbox commands -/

@[simp] theorem rails_slotAsk : rails (slotAsk n k s) = rails s := by simp [slotAsk]
@[simp] theorem rails_setSession (x : Option Session) : rails (setSession n x s) = rails s := by simp [setSession]
@[simp] theorem rails_endSession : rails (endSession n s) = rails s := rails_of_mainPart (mainPart_endSession ..)
@[simp] theorem rails_tagMiss : rails (tagMiss n s) = rails s := by
  unfold tagMiss; split <;> simp
@[simp] theorem rails_done : rails (done s p).st = rails s := by simp [done]
@[simp] theorem rails_refuse : rails (refuse s n k p).st = rails s := by simp [refuse]
@[simp] theorem rails_pendingAns : rails (pendingAns s n).st = rails s := by simp [pendingAns]
@[simp] theorem rails_deliver : rails (deliver n p s) = rails s := by simp [deliver]
@[simp] theorem rails_respond (k : State) (c : Nat) (m : Mail) (a : Answer) : rails (respond k c m a) = rails a.st := by
  rw [respond, rails_deliver]

@[simp] theorem rails_ring (c : Nat) (m : Mail) (s : State) : rails (ring c m s) = rails s := by
  unfold ring
  split
  · rfl
  · exact rails_latchWake 11 s

@[simp] theorem rails_sessionAccept : rails (sessionAccept n k s) = rails s := by
  unfold sessionAccept; split <;> simp
@[simp] theorem rails_mailBusy : rails (mailBusy n p s).st = rails s := by simp [mailBusy]
@[simp] theorem rails_mailLate {body : State → Answer} (h : ∀ s, rails (body s).st = rails s) (c : Nat) (m : Mail) (s : State) :
    rails (mailLate c m body s).st = rails s := by simp [mailLate, h]

@[simp] theorem rails_mailSession {body : State → Answer} (h : ∀ s, rails (body s).st = rails s) (c : Nat) (m : Mail)
    (s : State) : rails (mailSession c m body s).st = rails s := by
  unfold mailSession
  split
  · split <;> simp [h]
  · simp [h]

@[simp] theorem rails_later : rails (later s).st = rails s := by simp [later]

@[simp] theorem rails_takeCmd {body : State → Answer} (h : ∀ s, rails (body s).st = rails s) (c : Nat) (m : Mail) (s : State) :
    rails (takeCmd c m body s) = rails s := by
  unfold takeCmd
  have e := rails_mailSession h c m s
  split
  · simp
  · split
    · simp
    · split
      · simp
      · dsimp only
        split
        · exact e
        · simp [e]

@[simp] theorem rails_mailStep {body : State → Answer} (h : ∀ s, rails (body s).st = rails s) (c : Nat) (m : Mail) (s : State) :
    rails (mailStep c m body s) = rails s := by simp [mailStep, h]

/-! #### Network time -/

@[simp] theorem rails_onTime (f : TimeSt → TimeSt) : rails (onTime f s) = rails s := by simp [onTime]
@[simp] theorem rails_onTrg (f : Trigger → Trigger) : rails (onTrg n f s) = rails s := by simp [onTrg]
@[simp] theorem rails_handPulse : rails (handPulse n k s) = rails s := by simp [handPulse]
@[simp] theorem rails_captPulse : rails (captPulse n x s) = rails s := by simp [captPulse]
@[simp] theorem rails_trgFire : rails (trgFire n s) = rails s := by
  unfold trgFire; split <;> simp
@[simp] theorem rails_trgLate : rails (trgLate n s) = rails s := by
  unfold trgLate; split <;> simp

@[simp] theorem rails_trgFull (s : State) : rails (trgFull s) = rails s := by
  unfold trgFull
  refine rails_foldl (fun s n => ?_) _ s
  split <;> simp

@[simp] theorem rails_deadlinesLatch : rails (deadlinesLatch s) = rails s := by simp [deadlinesLatch]
@[simp] theorem rails_stepOnt : rails (stepOnt n s) = rails s := by simp [stepOnt]
@[simp] theorem rails_clearLocked : rails (clearLocked s) = rails s := by simp [clearLocked]
@[simp] theorem rails_leaveLock : rails (leaveLock v s) = rails s := by simp [leaveLock]
@[simp] theorem rails_servoStep : rails (servoStep v s) = rails s := by simp [servoStep]
@[simp] theorem rails_servoPi : rails (servoPi v n s) = rails s := by simp [servoPi]
@[simp] theorem rails_servoLock : rails (servoLock v s) = rails s := by simp [servoLock]
@[simp] theorem rails_servoRun : rails (servoRun v n s) = rails s := by simp [servoRun]
@[simp] theorem rails_holdover : rails (holdover s) = rails s := by simp [holdover]
@[simp] theorem rails_portSet : rails (portSet n k s) = rails s := by simp [portSet]
@[simp] theorem rails_runBmca (timed : Option Nat) : rails (runBmca timed s) = rails s := by simp [runBmca]
@[simp] theorem rails_ptpGot : rails (ptpGot n s) = rails s := by simp [ptpGot]
@[simp] theorem rails_timeCommit : rails (timeCommit s) = rails s := by simp [timeCommit]

@[simp] theorem rails_ptpSync : rails (ptpSync n k i v s) = rails s := by
  unfold ptpSync; dsimp only; repeat' split
  all_goals simp

@[simp] theorem rails_ptpDelay : rails (ptpDelay n k i v s) = rails s := by
  unfold ptpDelay; dsimp only; repeat' split
  all_goals simp

@[simp] theorem rails_pdelayReq : rails (pdelayReq n k i v s) = rails s := by simp [pdelayReq]
@[simp] theorem rails_delayReq : rails (delayReq n k i v s) = rails s := by simp [delayReq]
@[simp] theorem rails_takeSeq : rails (takeSeq n k s).2 = rails s := by simp [takeSeq]
@[simp] theorem rails_ptpInterval : rails (ptpInterval n k s) = rails s := by simp [ptpInterval]
@[simp] theorem rails_ptpAnnounce (a : Announce) : rails (ptpAnnounce n a s) = rails s := by simp [ptpAnnounce]
@[simp] theorem rails_announceTimeout : rails (announceTimeout n s) = rails s := by simp [announceTimeout]
@[simp] theorem rails_onCap (f : Capture → Capture) : rails (onCap n f s) = rails s := by simp [onCap]
@[simp] theorem rails_capEvent : rails (capEvent n k s) = rails s := by
  unfold capEvent; split <;> simp
@[simp] theorem rails_capture : rails (capture n x s) = rails s := by simp [capture]
@[simp] theorem rails_captureEdge : rails (captureEdge n x k s) = rails s := by simp [captureEdge]
@[simp] theorem rails_timeLost : rails (timeLost s) = rails s := by simp [timeLost]
@[simp] theorem rails_timeSet : rails (timeSet p s).st = rails s := by simp [timeSet]
@[simp] theorem rails_armTrigger : rails (armTrigger n x y z k i j a s) = rails s := by simp [armTrigger]
@[simp] theorem rails_trgArm : rails (trgArm p s).st = rails s := by simp [trgArm]
@[simp] theorem rails_disarm : rails (disarm n s) = rails s := by simp [disarm]
@[simp] theorem rails_trgStop : rails (trgStop p s).st = rails s := by simp [trgStop]
@[simp] theorem rails_timeStatusGet : rails (timeStatusGet p s).st = rails s := by simp [timeStatusGet]
@[simp] theorem rails_timeStart : rails (timeStart s) = rails s := by simp [timeStart]
@[simp] theorem rails_timeStop : rails (timeStop s) = rails s := by simp [timeStop]
@[simp] theorem rails_timeStopEnd : rails (timeStopEnd s) = rails s := by simp [timeStopEnd]

/-! #### The real-time clock -/

@[simp] theorem rails_onRtc (f : RtcSt → RtcSt) : rails (onRtc f s) = rails s := by simp [onRtc]
@[simp] theorem rails_onAlm (f : Alarm → Alarm) : rails (onAlm n f s) = rails s := by simp [onAlm]

@[simp] theorem rails_almRecord : rails (almRecord n s) = rails s := by
  unfold almRecord; repeat' split
  all_goals simp

@[simp] theorem rails_almFire : rails (almFire n k x s) = rails s := by
  unfold almFire; split <;> simp
@[simp] theorem rails_almEvaluate : rails (almEvaluate n k s) = rails s := by
  unfold almEvaluate; split <;> simp
@[simp] theorem rails_onShadow (f : Shadow → Shadow) : rails (onShadow x f s) = rails s := by simp [onShadow]
@[simp] theorem rails_rtcRelease : rails (rtcRelease s) = rails s := by simp [rtcRelease]
@[simp] theorem rails_rtcCtrlWrite : rails (rtcCtrlWrite n x s) = rails s := by simp [rtcCtrlWrite]
@[simp] theorem rails_rtcTimeWrite : rails (rtcTimeWrite n k s) = rails s := by simp [rtcTimeWrite]
@[simp] theorem rails_almTimeWrite : rails (almTimeWrite n k i s) = rails s := by
  unfold almTimeWrite; split <;> simp
@[simp] theorem rails_rtcFreeze : rails (rtcFreeze x s) = rails s := by simp [rtcFreeze]
@[simp] theorem rails_rtcUnfreeze : rails (rtcUnfreeze x s) = rails s := by simp [rtcUnfreeze]
@[simp] theorem rails_rtcTime0Read : rails (rtcTime0Read x s) = rails s := by simp [rtcTime0Read]
@[simp] theorem rails_rtcTime1Read : rails (rtcTime1Read x s) = rails s := by simp [rtcTime1Read]
@[simp] theorem rails_almCtrlWrite : rails (almCtrlWrite n k s) = rails s := by
  unfold almCtrlWrite; split <;> simp
@[simp] theorem rails_rtcAlarm : rails (rtcAlarm n s) = rails s := by
  unfold rtcAlarm; split <;> simp
@[simp] theorem rails_rtcEnd : rails (rtcEnd s) = rails s := by simp [rtcEnd]
@[simp] theorem rails_rtcEdge : rails (rtcEdge s) = rails s := by simp [rtcEdge]
@[simp] theorem rails_rtcTrimCheck : rails (rtcTrimCheck s) = rails s := by simp [rtcTrimCheck]
@[simp] theorem rails_rtcStatWrite : rails (rtcStatWrite n s) = rails s := by simp [rtcStatWrite]
@[simp] theorem rails_startOnt : rails (startOnt s) = rails s := by simp [startOnt]

/-! #### The host interface -/

@[simp] theorem rails_onHost (f : HostSt → HostSt) : rails (onHost f s) = rails s := by simp [onHost]
@[simp] theorem rails_linkDown : rails (linkDown s) = rails s := by simp [linkDown]
@[simp] theorem rails_dbRing : rails (dbRing n s) = rails s := by simp [dbRing]
@[simp] theorem rails_doorbell : rails (doorbell s) = rails s := by simp [doorbell]
@[simp] theorem rails_mboxWrite (data : List (Option Byte)) : rails (mboxWrite n data s) = rails s := by simp [mboxWrite]

@[simp] theorem rails_bar0Write : rails (bar0Write n k s) = rails s := by
  simp [bar0Write]; repeat' split
  all_goals simp

@[simp] theorem rails_wordWrite (data : List (Option Byte)) : rails (wordWrite n k data s) = rails s := by simp [wordWrite]

@[simp] theorem rails_barWrites (bar2 : Bool) (n off : Nat) (d : List (Option Byte)) (s : State) :
    rails (barWrites bar2 n off d s) = rails s := by
  induction n generalizing off d s with
  | zero => rfl
  | succ n ih => simp [barWrites, ih]

@[simp] theorem rails_registerWrite (data : List (Option Byte)) : rails (registerWrite x n data s) = rails s := by
  simp [registerWrite]
@[simp] theorem rails_paramEffect : rails (paramEffect n s) = rails s := by simp [paramEffect]

@[simp] theorem rails_writeOne (e : Nat × Bytes) : rails (writeOne s e) = rails s := by
  unfold writeOne; repeat' split
  all_goals simp

@[simp] theorem rails_paramWrite : rails (paramWrite p s).st = rails s := by
  unfold paramWrite; dsimp only; repeat' split
  all_goals simp

@[simp] theorem rails_paramRead : rails (paramRead p s).st = rails s := by
  unfold paramRead; dsimp only; repeat' split
  all_goals simp

@[simp] theorem rails_paramTableRead : rails (paramTableRead p s).st = rails s := by
  unfold paramTableRead; dsimp only; repeat' split
  all_goals simp

@[simp] theorem rails_paramTableWrite : rails (paramTableWrite p s).st = rails s := by
  unfold paramTableWrite; dsimp only; repeat' split
  all_goals simp

@[simp] theorem rails_paramInfo : rails (paramInfo p s).st = rails s := by
  unfold paramInfo; repeat' split
  all_goals simp

/-! #### Security -/

@[simp] theorem rails_onSec (f : SecSt → SecSt) : rails (onSec f s) = rails s := rails_of_mainPart (mainPart_onSec ..)
@[simp] theorem rails_setSlot (k : KeySlot) : rails (setSlot n k s) = rails s := by simp [setSlot]
@[simp] theorem rails_regenerate : rails (regenerate s) = rails s := rails_of_mainPart (mainPart_regenerate ..)
@[simp] theorem rails_secShown : rails (secShown n k s) = rails s := by simp [secShown]
@[simp] theorem rails_secBody {body : State → Answer} (h : ∀ s, rails (body s).st = rails s) (c : Nat) (s : State) :
    rails (secBody c body s).st = rails s := by simp [secBody, h]
@[simp] theorem rails_helperRepair : rails (helperRepair s) = rails s := by simp [helperRepair]
@[simp] theorem rails_provWrite (f : Provision → Provision) : rails (provWrite f s) = rails s := by simp [provWrite]

@[simp] theorem rails_unwrapAll (s : State) : rails (unwrapAll s) = rails s := by
  unfold unwrapAll
  split
  · rfl
  · refine rails_foldl (fun s k => ?_) _ s
    split
    · rfl
    · split <;> simp

@[simp] theorem rails_sessionOpen : rails (sessionOpen p s).st = rails s := by
  unfold sessionOpen; repeat' split
  all_goals simp

@[simp] theorem rails_sessionConfirm : rails (sessionConfirm p s).st = rails s := by
  unfold sessionConfirm; repeat' split
  all_goals simp

@[simp] theorem rails_sessionClose : rails (sessionClose m s).st = rails s := by
  unfold sessionClose; repeat' split
  all_goals simp

@[simp] theorem rails_keyPlace (key : Option Bytes) : rails (keyPlace n k i key s) = rails s := by simp [keyPlace]

@[simp] theorem rails_keyImport : rails (keyImport m s).st = rails s := by
  unfold keyImport; dsimp only; repeat' split
  all_goals simp

@[simp] theorem rails_keyClear : rails (keyClear p s).st = rails s := by simp [keyClear]
@[simp] theorem rails_otpSet : rails (otpSet n k s) = rails s := by simp [otpSet]
@[simp] theorem rails_otpKeySet : rails (otpKeySet p s).st = rails s := by simp [otpKeySet]
@[simp] theorem rails_keyRevoke : rails (keyRevoke p s).st = rails s := by simp [keyRevoke]
@[simp] theorem rails_clearSlots : rails (clearSlots s) = rails s := by simp [clearSlots]
@[simp] theorem rails_retireErase : rails (retireErase s) = rails s := by simp [retireErase]

@[simp] theorem rails_advance (n : Nat) (s : State) : rails (advance n s) = rails s := by
  unfold advance
  extract_lets s1 s2 s3
  have e2 : rails s2 = rails s := by simp [s2, s1]
  split
  · have e3 : rails s3 = rails s := by simp [s3, e2]
    clear_value s3
    exact e3
  · exact e2

@[simp] theorem rails_lifecycleAdvance : rails (lifecycleAdvance p s).st = rails s := by simp [lifecycleAdvance]
@[simp] theorem rails_enrol : rails (enrol p s).st = rails s := by simp [enrol]

@[simp] theorem rails_dikGet : rails (dikGet p s).st = rails s := by
  unfold dikGet; repeat' split
  all_goals simp

@[simp] theorem rails_certWrite : rails (certWrite p s).st = rails s := by
  unfold certWrite; split <;> simp

@[simp] theorem rails_certCommit : rails (certCommit p s).st = rails s := by
  unfold certCommit; repeat' split
  all_goals simp

@[simp] theorem rails_certGet : rails (certGet p s).st = rails s := by simp [certGet]
@[simp] theorem rails_attest : rails (attest p s).st = rails s := by simp [attest]

/-! #### Images and boot records -/

@[simp] theorem rails_bootWrite (f : BootRec → BootRec) : rails (bootWrite f s) = rails s := by simp [bootWrite]
@[simp] theorem rails_setSlotImage : rails (setSlotImage n x p s) = rails s := by simp [setSlotImage]

/-! #### The network model -/

@[simp] theorem rails_onModel (f : ModelSt → ModelSt) : rails (onModel f s) = rails s := by simp [onModel]
@[simp] theorem rails_setEntry (e : Entry) : rails (setEntry n e s) = rails s := by simp [setEntry]
@[simp] theorem rails_acceptEntry (e : Entry) : rails (acceptEntry n e s) = rails s := by
  unfold acceptEntry; split <;> simp
@[simp] theorem rails_entryBad : rails (entryBad n s) = rails s := by simp [entryBad]
@[simp] theorem rails_modelInfoGet : rails (modelInfoGet p s).st = rails s := by simp [modelInfoGet]
@[simp] theorem rails_substApply : rails (substApply p s).1 = rails s := by simp [substApply]

@[simp] theorem rails_substAll (p : Bytes) (l : List Nat) (s : State) : rails (substAll p l s).1 = rails s := by
  induction l generalizing s with
  | nil => rfl
  | cons k l ih => exact (ih _).trans (rails_substApply ..)

@[simp] theorem rails_substWrite : rails (substWrite p s).st = rails s := by
  unfold substWrite; dsimp only; repeat' split
  all_goals simp

@[simp] theorem rails_attributePass : rails (attributePass p s) = rails s := by simp [attributePass]
@[simp] theorem rails_modelGone : rails (modelGone s) = rails s := by simp [modelGone]
@[simp] theorem rails_modelPlace : rails (modelPlace s) = rails s := by simp [modelPlace]

@[simp] theorem rails_modelEffect (img : Bytes) (slot : Bool) (s : State) : rails (modelEffect img slot s) = rails s := by
  unfold modelEffect
  extract_lets s1
  have e1 : rails s1 = rails s := by simp [s1]
  clear_value s1
  exact e1

@[simp] theorem rails_modelLoad (s : State) : rails (modelLoad s) = rails s := by
  unfold modelLoad
  dsimp only
  split
  · rw [rails_raise, rails_modelGone]
  · rw [rails_attributePass, rails_modelEffect]

@[simp] theorem rails_modelCopyEcc : rails (modelCopyEcc n s) = rails s := by simp [modelCopyEcc]
@[simp] theorem rails_silentCheck (snap : List (Nat × Entry)) : rails (silentCheck snap n s) = rails s := by simp [silentCheck]

/-! #### Sources -/

@[simp] theorem rails_holdSample : rails (holdSample n k s) = rails s := by
  unfold holdSample; split <;> simp

/-! #### Gates -/

@[simp] theorem rails_onPair (f : PairSt → PairSt) : rails (onPair f s) = rails s := rails_of_mainPart (mainPart_onPair ..)
@[simp] theorem rails_canPendingGone : rails (canPendingGone s) = rails s := rails_of_mainPart (mainPart_canPendingGone ..)
@[simp] theorem rails_holdStart : rails (holdStart n s) = rails s := rails_of_mainPart (mainPart_holdStart ..)
@[simp] theorem rails_failLatch : rails (failLatch n s) = rails s := rails_of_mainPart (mainPart_failLatch ..)

@[simp] theorem rails_mirrorTake : rails (mirrorTake n k s).2 = rails s := by
  unfold mirrorTake; repeat' split
  all_goals simp

/-! #### Ox -/

@[simp] theorem rails_onOx (f : OxSt → OxSt) : rails (onOx f s) = rails s := by simp [onOx]
@[simp] theorem rails_onQ (f : OxQueue → OxQueue) : rails (onQ n f s) = rails s := by simp [onQ]
@[simp] theorem rails_stick : rails (stick n k s) = rails s := by simp [stick]
@[simp] theorem rails_mark (m : Nat × Nat) : rails (mark n k m s) = rails s := by simp [mark]
@[simp] theorem rails_marks (l : Marks) : rails (marks n k l s) = rails s := by simp [marks]
@[simp] theorem rails_setFactor : rails (setFactor n k i s) = rails s := by simp [setFactor]
@[simp] theorem rails_factBegin : rails (factBegin n s) = rails s := by simp [factBegin]
@[simp] theorem rails_pivotCount (fac : List FacCol) : rails (pivotCount n fac s) = rails s := by simp [pivotCount]
@[simp] theorem rails_factEnd : rails (factEnd n s) = rails s := by simp [factEnd]
@[simp] theorem rails_refineOver : rails (refineOver n s) = rails s := by simp [refineOver]
@[simp] theorem rails_refineNext : rails (refineNext n s) = rails s := by simp [refineNext]
@[simp] theorem rails_solveEnd : rails (solveEnd n s) = rails s := by simp [solveEnd]
@[simp] theorem rails_residEnd : rails (residEnd n s) = rails s := by simp [residEnd]
@[simp] theorem rails_corrEnd : rails (corrEnd n s) = rails s := by simp [corrEnd]
@[simp] theorem rails_checkEnd : rails (checkEnd n s) = rails s := by simp [checkEnd]
@[simp] theorem rails_diagPublish (x : OxQueue) : rails (diagPublish n x s) = rails s := by simp [diagPublish]
@[simp] theorem rails_oxNeed : rails (oxNeed s) = rails s := by simp [oxNeed]
@[simp] theorem rails_oxRun : rails (oxRun n s) = rails s := by simp [oxRun]
@[simp] theorem rails_oxResume : rails (oxResume s) = rails s := by simp [oxResume]
@[simp] theorem rails_oxKick : rails (oxKick s) = rails s := by simp [oxKick]
@[simp] theorem rails_oxEndEvents (x : OxQueue) : rails (oxEndEvents n k x s) = rails s := by simp [oxEndEvents]
@[simp] theorem rails_armEnds : rails (armEnds n k s) = rails s := by simp [armEnds]
@[simp] theorem rails_armStart (a : ArmReq) : rails (armStart n a k s) = rails s := by simp [armStart]
@[simp] theorem rails_armCount : rails (armCount n s) = rails s := by simp [armCount]
@[simp] theorem rails_armNow (a : ArmReq) : rails (armNow n a s) = rails s := by simp [armNow]
@[simp] theorem rails_oxEnd : rails (oxEnd n k s) = rails s := by
  unfold oxEnd; dsimp only; split <;> simp
@[simp] theorem rails_nextTimeout : rails (nextTimeout n s) = rails s := by
  unfold nextTimeout; dsimp only; split <;> simp
@[simp] theorem rails_armWait (a : ArmReq) : rails (armWait n a s) = rails s := by simp [armWait]

theorem rails_oxArm {q : Nat} {a : ArmReq} {s t : State} (h : oxArm q a s = some t) : rails t = rails s := by
  unfold oxArm at h
  dsimp only at h
  repeat' split at h
  all_goals cases h
  all_goals simp

@[simp] theorem rails_oxAbortStart : rails (oxAbortStart n s) = rails s := by simp [oxAbortStart]
@[simp] theorem rails_abortAnswer : rails (abortAnswer s) = rails s := by simp [abortAnswer]
@[simp] theorem rails_oxAbortEnd : rails (oxAbortEnd n s) = rails s := by simp [oxAbortEnd]
@[simp] theorem rails_blockBoundary : rails (blockBoundary n s) = rails s := by simp [blockBoundary]
@[simp] theorem rails_boundaryRelock : rails (boundaryRelock s) = rails s := by simp [boundaryRelock]
@[simp] theorem rails_oxTimeout : rails (oxTimeout n s) = rails s := by simp [oxTimeout]
@[simp] theorem rails_oxDataEcc : rails (oxDataEcc n k s) = rails s := by simp [oxDataEcc]
@[simp] theorem rails_storeBad : rails (storeBad n s) = rails s := by
  unfold storeBad; split <;> simp
@[simp] theorem rails_storeRead : rails (storeRead n s) = rails s := by simp [storeRead]
@[simp] theorem rails_storeWrite : rails (storeWrite n s) = rails s := by simp [storeWrite]
@[simp] theorem rails_factorsInvalid : rails (factorsInvalid s) = rails s := by simp [factorsInvalid]

@[simp] theorem rails_oxSolveArm (b : Bytes) (s : State) : rails (oxSolveArm b s).st = rails s := by
  unfold oxSolveArm
  extract_lets mode off
  split
  · rfl
  · split
    · rfl
    · split
      · rfl
      · split
        · rfl
        · split
          · rfl
          · next h => exact rails_oxArm h

@[simp] theorem rails_oxAbort : rails (oxAbort p s).st = rails s := by simp [oxAbort]

/-! #### Hydraulics -/

@[simp] theorem rails_onEst (f : EstSt → EstSt) : rails (onEst f s) = rails s := by simp [onEst]

/-! #### Drove -/

@[simp] theorem rails_droveStep (q : List Int) : rails (droveStep q n k s) = rails s := by simp [droveStep]
@[simp] theorem rails_droveRestart : rails (droveRestart s) = rails s := by simp [droveRestart]
@[simp] theorem rails_pipeRestart : rails (pipeRestart n s) = rails s := by simp [pipeRestart]
@[simp] theorem rails_droveFromPeer (o : Bulk) : rails (droveFromPeer o s) = rails s := by simp [droveFromPeer]

@[simp] theorem rails_droveSteps (q : List Int) (dt n k : Nat) (s : State) : rails (droveSteps q dt n k s) = rails s := by
  induction k generalizing s with
  | zero => rfl
  | succ k ih => simp [droveSteps, ih]

@[simp] theorem rails_droveOrigin : rails (droveOrigin s).1 = rails s := by
  unfold droveOrigin; dsimp only; split <;> simp
@[simp] theorem rails_droveAdvance (q : List Int) : rails (droveAdvance q s) = rails s := by simp [droveAdvance]
@[simp] theorem rails_rowBad : rails (rowBad n s) = rails s := by simp [rowBad]

/-! #### Estimation -/

@[simp] theorem rails_latchInputs : rails (latchInputs n s) = rails s := by simp [latchInputs]
@[simp] theorem rails_keepFlows : rails (keepFlows s) = rails s := by simp [keepFlows]
@[simp] theorem rails_newtonOver (found : Option HydState) : rails (newtonOver n found s) = rails s := by simp [newtonOver]
@[simp] theorem rails_newtonCause : rails (newtonCause n s) = rails s := by
  unfold newtonCause; split <;> simp

@[simp] theorem rails_newtonArm (s : State) : rails (newtonArm s) = rails s := by
  unfold newtonArm
  extract_lets a
  split
  · rfl
  · next h => simp [rails_oxArm h]

@[simp] theorem rails_newtonBegin : rails (newtonBegin s) = rails s := by simp [newtonBegin]

@[simp] theorem rails_estBegin : rails (estBegin n s) = rails s := by
  unfold estBegin; dsimp only; repeat' split
  all_goals simp

@[simp] theorem rails_takePulse : rails (takePulse n s).2 = rails s := by
  unfold takePulse; dsimp only; split <;> simp

@[simp] theorem rails_estBoundary (s : State) : rails (estBoundary s) = rails s := by
  unfold estBoundary
  split
  · have e := rails_takePulse 14 s
    split <;> simp_all
  · rfl

@[simp] theorem rails_keepPair : rails (keepPair s) = rails s := by simp [keepPair]
@[simp] theorem rails_estCount : rails (estCount s) = rails s := by simp [estCount]
@[simp] theorem rails_estPublish : rails (estPublish s) = rails s := by simp [estPublish]
@[simp] theorem rails_oxStart : rails (oxStart s) = rails s := by simp [oxStart]
@[simp] theorem rails_oxStop : rails (oxStop s) = rails s := by simp [oxStop]
@[simp] theorem rails_oxStopEnd : rails (oxStopEnd s) = rails s := by simp [oxStopEnd]

/-! #### Loops -/

@[simp] theorem rails_onLoop (f : LoopSt → LoopSt) : rails (onLoop n f s) = rails s := by simp [onLoop]
@[simp] theorem rails_loopStick : rails (loopStick n k x s) = rails s := by simp [loopStick]
@[simp] theorem rails_loopEvent : rails (loopEvent n s) = rails s := by simp [loopEvent]
@[simp] theorem rails_loopEnter : rails (loopEnter n k s) = rails s := by simp [loopEnter]
@[simp] theorem rails_loopDrive : rails (loopDrive n v s) = rails s := by simp [loopDrive]
@[simp] theorem rails_loopOutput : rails (loopOutput n s) = rails s := by
  unfold loopOutput; split <;> simp
@[simp] theorem rails_loopFault : rails (loopFault n k i s) = rails s := by simp [loopFault]
@[simp] theorem rails_loopRestart : rails (loopRestart n s) = rails s := by simp [loopRestart]
@[simp] theorem rails_loopFilter : rails (loopFilter n v s) = rails s := by simp [loopFilter]
@[simp] theorem rails_loopProfile : rails (loopProfile n s) = rails s := by simp [loopProfile]
@[simp] theorem rails_loopSupervise : rails (loopSupervise n s) = rails s := by simp [loopSupervise]
@[simp] theorem rails_loopRun : rails (loopRun n s) = rails s := by simp [loopRun]
@[simp] theorem rails_loopStarting : rails (loopStarting n x s) = rails s := by simp [loopStarting]
@[simp] theorem rails_loopActive (src : Option (Int × Nat)) : rails (loopActive n src s) = rails s := by
  unfold loopActive; split <;> simp
@[simp] theorem rails_loopMirror : rails (loopMirror n p s) = rails s := by simp [loopMirror]
@[simp] theorem rails_loopClears : rails (loopClears n s) = rails s := by simp [loopClears]
@[simp] theorem rails_loopEcc : rails (loopEcc n s) = rails s := by
  unfold loopEcc; split <;> simp
@[simp] theorem rails_loopLatch (src : Option (Int × Nat)) : rails (loopLatch n src s) = rails s := by
  unfold loopLatch; split <;> simp

@[simp] theorem rails_loopDecide (n : Nat) (src : Option (Int × Nat)) (s : State) : rails (loopDecide n src s) = rails s := by
  unfold loopDecide
  extract_lets x
  split
  · have e := rails_mirrorTake 1 n (loopEnter n 5 s)
    split <;> simp_all
  · simp

@[simp] theorem rails_loopSample : rails (loopSample n s) = rails s := by simp [loopSample]
@[simp] theorem rails_loopMemoryEcc : rails (loopMemoryEcc n k s) = rails s := by simp [loopMemoryEcc]

@[simp] theorem rails_loopSpSet : rails (loopSpSet p s).st = rails s := by
  unfold loopSpSet; dsimp only; repeat' split
  all_goals simp

@[simp] theorem rails_loopClear : rails (loopClear p s).st = rails s := by
  unfold loopClear; dsimp only; repeat' split
  all_goals simp

@[simp] theorem rails_loopHand : rails (loopHand n v s) = rails s := by simp [loopHand]
@[simp] theorem rails_loopPermitGone : rails (loopPermitGone n s) = rails s := by simp [loopPermitGone]
@[simp] theorem rails_loopStart : rails (loopStart n s) = rails s := by simp [loopStart]
@[simp] theorem rails_loopStop : rails (loopStop n s) = rails s := by simp [loopStop]
@[simp] theorem rails_loopStopEnd : rails (loopStopEnd n s) = rails s := by simp [loopStopEnd]
@[simp] theorem rails_loopPark : rails (loopPark n s) = rails s := by simp [loopPark]
@[simp] theorem rails_loopResume : rails (loopResume n s) = rails s := by simp [loopResume]
@[simp] theorem rails_loopGrant : rails (loopGrant n s) = rails s := by simp [loopGrant]
@[simp] theorem rails_loopsRetain : rails (loopsRetain s) = rails s := by simp [loopsRetain]

/-! #### Axes -/

@[simp] theorem rails_onAxis (f : AxisSt → AxisSt) : rails (onAxis n f s) = rails s := by simp [onAxis]
@[simp] theorem rails_axisEvent : rails (axisEvent n s) = rails s := by simp [axisEvent]
@[simp] theorem rails_axisLevels : rails (axisLevels n s) = rails s := by simp [axisLevels]
@[simp] theorem rails_axisEnter : rails (axisEnter n k s) = rails s := by simp [axisEnter]
@[simp] theorem rails_axisWake : rails (axisWake n s) = rails s := by simp [axisWake]
@[simp] theorem rails_axisUncertain : rails (axisUncertain n s) = rails s := by simp [axisUncertain]
@[simp] theorem rails_axisHalt : rails (axisHalt n s) = rails s := by simp [axisHalt]
@[simp] theorem rails_axisFault : rails (axisFault n k s) = rails s := by simp [axisFault]
@[simp] theorem rails_axisEmit : rails (axisEmit n x k s) = rails s := by simp [axisEmit]
@[simp] theorem rails_axisDecel : rails (axisDecel n k s) = rails s := by simp [axisDecel]
@[simp] theorem rails_axisMoveEnd : rails (axisMoveEnd n s) = rails s := by simp [axisMoveEnd]
@[simp] theorem rails_axisProfile : rails (axisProfile n s) = rails s := by simp [axisProfile]
@[simp] theorem rails_axisBegin : rails (axisBegin n v s) = rails s := by simp [axisBegin]
@[simp] theorem rails_axisHoming : rails (axisHoming n s) = rails s := by simp [axisHoming]
@[simp] theorem rails_axisFollowEmit : rails (axisFollowEmit n x k s) = rails s := by simp [axisFollowEmit]
@[simp] theorem rails_axisCoarse : rails (axisCoarse n s) = rails s := by simp [axisCoarse]
@[simp] theorem rails_axisGeared : rails (axisGeared n s) = rails s := by simp [axisGeared]
@[simp] theorem rails_axisFollowStart : rails (axisFollowStart n s) = rails s := by simp [axisFollowStart]
@[simp] theorem rails_axisFollow : rails (axisFollow n s) = rails s := by simp [axisFollow]
@[simp] theorem rails_axisDo : rails (axisDo n s) = rails s := by
  unfold axisDo; split <;> simp

@[simp] theorem rails_axisActive : rails (axisActive n s) = rails s := by
  unfold axisActive; dsimp only; repeat' split
  all_goals simp

@[simp] theorem rails_axisMirror : rails (axisMirror n p s) = rails s := by simp [axisMirror]

@[simp] theorem rails_axisDecide (n : Nat) (s : State) : rails (axisDecide n s) = rails s := by
  unfold axisDecide
  dsimp only
  split
  · have e := rails_mirrorTake 2 n (axisEnter n 7 (if (axisOf s n).doing = 0 then s else axisHalt n s))
    split <;> simp_all
  · simp

@[simp] theorem rails_axisTick (din : List (Nat × Nat)) : rails (axisTick n din s) = rails s := by simp [axisTick]
@[simp] theorem rails_axisCoarseStep : rails (axisCoarseStep n x s) = rails s := by simp [axisCoarseStep]
@[simp] theorem rails_coarseStep : rails (coarseStep n x s) = rails s := by simp [coarseStep]
@[simp] theorem rails_coarseEdge : rails (coarseEdge n x k y s) = rails s := by simp [coarseEdge]
@[simp] theorem rails_axisGearSwitch : rails (axisGearSwitch n s) = rails s := by simp [axisGearSwitch]

@[simp] theorem rails_encoderStep (e : Nat) (up : Bool) (s : State) : rails (encoderStep e up s) = rails s := by
  unfold encoderStep
  extract_lets s1
  have e1 : rails s1 = rails s := rfl
  rw [rails_foldl (fun s n => ?_), e1]
  dsimp only
  split
  · exact rails_axisGearSwitch n s
  · rfl

@[simp] theorem rails_encoderEdge (e : Nat) (chB level : Bool) (n : Nat) (s : State) :
    rails (encoderEdge e chB level n s) = rails s := by
  unfold encoderEdge
  extract_lets k a b a' b' pins s1
  have e1 : rails s1 = rails s := rfl
  clear_value s1
  simp [e1]

@[simp] theorem rails_axisMemoryEcc : rails (axisMemoryEcc n s) = rails s := by simp [axisMemoryEcc]
@[simp] theorem rails_axisDiscard : rails (axisDiscard n s) = rails s := by simp [axisDiscard]
@[simp] theorem rails_axisTarget : rails (axisTarget n v s).1 = rails s := by
  unfold axisTarget; dsimp only; split <;> simp

@[simp] theorem rails_motMove : rails (motMove p s).st = rails s := by
  unfold motMove; dsimp only; repeat' split
  all_goals simp

@[simp] theorem rails_axisHand : rails (axisHand n v s) = rails s := by simp [axisHand]

@[simp] theorem rails_motStop : rails (motStop p s).st = rails s := by
  unfold motStop; dsimp only; repeat' split
  all_goals simp

@[simp] theorem rails_motHome : rails (motHome p s).st = rails s := by
  unfold motHome; dsimp only; repeat' split
  all_goals simp

@[simp] theorem rails_motGearArm : rails (motGearArm p s).st = rails s := by
  unfold motGearArm; dsimp only; repeat' split
  all_goals simp

@[simp] theorem rails_motClear : rails (motClear p s).st = rails s := by
  unfold motClear; dsimp only; repeat' split
  all_goals simp

@[simp] theorem rails_axisPermitGone : rails (axisPermitGone n s) = rails s := by simp [axisPermitGone]
@[simp] theorem rails_axisStart : rails (axisStart n s) = rails s := by simp [axisStart]
@[simp] theorem rails_axisStop : rails (axisStop n s) = rails s := by simp [axisStop]
@[simp] theorem rails_axisStopEnd : rails (axisStopEnd n s) = rails s := by simp [axisStopEnd]
@[simp] theorem rails_axisPark : rails (axisPark n s) = rails s := by simp [axisPark]
@[simp] theorem rails_axisResume : rails (axisResume n s) = rails s := by simp [axisResume]
@[simp] theorem rails_axisGrant : rails (axisGrant n s) = rails s := by simp [axisGrant]
@[simp] theorem rails_axesRetain : rails (axesRetain s) = rails s := by simp [axesRetain]

/-! #### CAN -/

@[simp] theorem rails_onCan (f : CanSt → CanSt) : rails (onCan n f s) = rails s := by simp [onCan]
@[simp] theorem rails_onObj (f : CanObj → CanObj) : rails (onObj n k f s) = rails s := by simp [onObj]

@[simp] theorem rails_canOffer : rails (canOffer n s) = rails s := by
  unfold canOffer; repeat' split
  all_goals simp

@[simp] theorem rails_objPend : rails (objPend n k s) = rails s := by simp [objPend]
@[simp] theorem rails_canErrState (before : CanSt) : rails (canErrState n before s) = rails s := by simp [canErrState]
@[simp] theorem rails_canBusOff : rails (canBusOff n s) = rails s := by simp [canBusOff]

@[simp] theorem rails_canMirror (c : Nat) (s : State) : rails (canMirror c s) = rails s := by
  unfold canMirror
  split
  · rfl
  · refine rails_foldl (fun s o => ?_) _ s
    have e := rails_mirrorTake 10 (128 * c + o) s
    split <;> simp_all

@[simp] theorem rails_canBoundary : rails (canBoundary n s) = rails s := by simp [canBoundary]
@[simp] theorem rails_canProtocol : rails (canProtocol n k s) = rails s := by simp [canProtocol]
@[simp] theorem rails_canError : rails (canError n k x i j s) = rails s := by simp [canError]
@[simp] theorem rails_canBusError : rails (canBusError n k x y i j s) = rails s := by simp [canBusError]
@[simp] theorem rails_canStore (f : CanFrame) : rails (canStore n k i f s) = rails s := by simp [canStore]

@[simp] theorem rails_canReceived (f : CanFrame) : rails (canReceived n f s) = rails s := by
  unfold canReceived; repeat' split
  all_goals simp

@[simp] theorem rails_canSent : rails (canSent n k i p s) = rails s := by simp [canSent]
@[simp] theorem rails_canTransmitted : rails (canTransmitted n k i s) = rails s := by
  unfold canTransmitted; split <;> simp
@[simp] theorem rails_canPeriodic : rails (canPeriodic n k s) = rails s := by simp [canPeriodic]
@[simp] theorem rails_canIntegrated : rails (canIntegrated n s) = rails s := by simp [canIntegrated]
@[simp] theorem rails_canStopCut : rails (canStopCut n s) = rails s := by
  unfold canStopCut; split <;> simp
@[simp] theorem rails_canObjectEcc : rails (canObjectEcc n k s) = rails s := by simp [canObjectEcc]
@[simp] theorem rails_canWrite : rails (canWrite n k i p s) = rails s := by simp [canWrite]
@[simp] theorem rails_canDiscard : rails (canDiscard n s) = rails s := by simp [canDiscard]
@[simp] theorem rails_canHand : rails (canHand n k i v s) = rails s := by
  unfold canHand; split <;> simp

@[simp] theorem rails_canObjWrite : rails (canObjWrite p s).st = rails s := by
  unfold canObjWrite; dsimp only; repeat' split
  all_goals simp

@[simp] theorem rails_canRecoverStart : rails (canRecoverStart n s) = rails s := by simp [canRecoverStart]

@[simp] theorem rails_canRecover : rails (canRecover n p s).st = rails s := by
  unfold canRecover; dsimp only; repeat' split
  all_goals simp

@[simp] theorem rails_canPermitGone : rails (canPermitGone n k s) = rails s := by simp [canPermitGone]
@[simp] theorem rails_canPermitBack : rails (canPermitBack n k s) = rails s := by simp [canPermitBack]
@[simp] theorem rails_canReassert : rails (canReassert n s) = rails s := by simp [canReassert]
@[simp] theorem rails_canStart : rails (canStart n s) = rails s := by simp [canStart]
@[simp] theorem rails_canStop : rails (canStop n s) = rails s := by
  unfold canStop; split <;> simp
@[simp] theorem rails_canStopEnd : rails (canStopEnd n s) = rails s := by simp [canStopEnd]
@[simp] theorem rails_canRecovered : rails (canRecovered n k i s) = rails s := by simp [canRecovered]
@[simp] theorem rails_canOffline : rails (canOffline n s) = rails s := by simp [canOffline]
@[simp] theorem rails_canStandbyAll : rails (canStandbyAll s) = rails s := by simp [canStandbyAll]
@[simp] theorem rails_canOnline : rails (canOnline n s) = rails s := by simp [canOnline]
@[simp] theorem rails_canLost : rails (canLost s) = rails s := by simp [canLost]

/-! #### Acquisition -/

@[simp] theorem rails_onAdc (f : AdcSt → AdcSt) : rails (onAdc f s) = rails s := by simp [onAdc]
@[simp] theorem rails_onCh (f : AdcCh → AdcCh) : rails (onCh n f s) = rails s := by simp [onCh]
@[simp] theorem rails_onRef (f : AdcRef → AdcRef) : rails (onRef f s) = rails s := by simp [onRef]
@[simp] theorem rails_onCal (f : CalSt → CalSt) : rails (onCal f s) = rails s := by simp [onCal]
@[simp] theorem rails_onWav (f : WavSt → WavSt) : rails (onWav n f s) = rails s := by simp [onWav]
@[simp] theorem rails_resultGone : rails (resultGone n s) = rails s := by simp [resultGone]
@[simp] theorem rails_publishResult : rails (publishResult n v s) = rails s := by simp [publishResult]
@[simp] theorem rails_sdOutput : rails (sdOutput n v x s) = rails s := by simp [sdOutput]
@[simp] theorem rails_refEvent : rails (refEvent s) = rails s := by simp [refEvent]

@[simp] theorem rails_refSettle : rails (refSettle n s) = rails s := by
  unfold refSettle; repeat' split
  all_goals simp

@[simp] theorem rails_calTry : rails (calTry s) = rails s := by
  unfold calTry; repeat' split
  all_goals simp

@[simp] theorem rails_calibrationDue : rails (calibrationDue n s) = rails s := by simp [calibrationDue]
@[simp] theorem rails_calOver : rails (calOver s) = rails s := by simp [calOver]
@[simp] theorem rails_calStamp : rails (calStamp n s) = rails s := by simp [calStamp]
@[simp] theorem rails_calJudge : rails (calJudge v s) = rails s := by simp [calJudge]

@[simp] theorem rails_calStep : rails (calStep v w s) = rails s := by
  unfold calStep; dsimp only; repeat' split
  all_goals simp

@[simp] theorem rails_mismatchEnd (est : List (Int × Nat × Int)) : rails (mismatchEnd n x est s) = rails s := by
  simp [mismatchEnd]
@[simp] theorem rails_wavSave : rails (wavSave n s) = rails s := by simp [wavSave]
@[simp] theorem rails_captureTrigger : rails (captureTrigger n k i j v w s) = rails s := by simp [captureTrigger]
@[simp] theorem rails_captureComplete (samples : List Int) : rails (captureComplete n samples x s) = rails s := by
  simp [captureComplete]
@[simp] theorem rails_captureStop : rails (captureStop n s) = rails s := by
  unfold captureStop; split <;> simp
@[simp] theorem rails_waveCapture : rails (waveCapture p s).st = rails s := by simp [waveCapture]
@[simp] theorem rails_waveStop : rails (waveStop p s).st = rails s := by simp [waveStop]
@[simp] theorem rails_calNow : rails (calNow p s).st = rails s := by simp [calNow]
@[simp] theorem rails_adcClear : rails (adcClear p s).st = rails s := by simp [adcClear]
@[simp] theorem rails_refStart : rails (refStart s) = rails s := by simp [refStart]
@[simp] theorem rails_chStart : rails (chStart n s) = rails s := by simp [chStart]
@[simp] theorem rails_wavStart : rails (wavStart n s) = rails s := by simp [wavStart]
@[simp] theorem rails_adcStart : rails (adcStart n s) = rails s := by simp [adcStart]
@[simp] theorem rails_calCut : rails (calCut n s) = rails s := by simp [calCut]
@[simp] theorem rails_adcStop : rails (adcStop n s) = rails s := by simp [adcStop]
@[simp] theorem rails_adcStopEnd : rails (adcStopEnd n s) = rails s := by simp [adcStopEnd]
@[simp] theorem rails_adcDeep : rails (adcDeep s) = rails s := by simp [adcDeep]
@[simp] theorem rails_wavDark : rails (wavDark s) = rails s := by simp [wavDark]
@[simp] theorem rails_adcResume : rails (adcResume s) = rails s := by simp [adcResume]
@[simp] theorem rails_wavResume : rails (wavResume s) = rails s := by simp [wavResume]
@[simp] theorem rails_wavLost : rails (wavLost s) = rails s := by simp [wavLost]
@[simp] theorem rails_gridStart : rails (gridStart s) = rails s := by simp [gridStart]
@[simp] theorem rails_adcRetain : rails (adcRetain s) = rails s := by simp [adcRetain]

/-! #### Economic dispatch -/

@[simp] theorem rails_onDsp (f : DspSt → DspSt) : rails (onDsp f s) = rails s := by simp [onDsp]
@[simp] theorem rails_setPenalty (r : Rat) : rails (setPenalty v r s) = rails s := by simp [setPenalty]
@[simp] theorem rails_adaptSigma : rails (adaptSigma s) = rails s := by simp [adaptSigma]
@[simp] theorem rails_adaptPenalty : rails (adaptPenalty s) = rails s := by
  unfold adaptPenalty; split <;> simp
@[simp] theorem rails_chooseStart : rails (chooseStart s) = rails s := by
  unfold chooseStart; split <;> simp
@[simp] theorem rails_inputEvent : rails (inputEvent s) = rails s := by simp [inputEvent]

@[simp] theorem rails_dispatchArm (s : State) : rails (dispatchArm s) = rails s := by
  unfold dispatchArm
  split
  · rfl
  · extract_lets s1 s2 s3 refact s4
    have e : rails s4 = rails s := by simp [s4, s3, s2, s1]
    split
    · exact e
    · next h => rw [rails_onDsp, rails_oxArm h, e]

@[simp] theorem rails_feederTurn : rails (feederTurn n s) = rails s := by simp [feederTurn]
@[simp] theorem rails_dispatchBegin : rails (dispatchBegin n s) = rails s := by simp [dispatchBegin]

@[simp] theorem rails_dspBoundary (s : State) : rails (dspBoundary s) = rails s := by
  unfold dspBoundary
  split
  · have e := rails_takePulse 15 s
    split <;> simp_all
  · rfl

@[simp] theorem rails_pairSeen : rails (pairSeen s) = rails s := by
  unfold pairSeen; dsimp only; repeat' split
  all_goals simp

@[simp] theorem rails_storeCharge : rails (storeCharge s) = rails s := by simp [storeCharge]
@[simp] theorem rails_chargeGuess : rails (chargeGuess s) = rails s := by simp [chargeGuess]
@[simp] theorem rails_publish (sched : List Int) (r : JobResult) : rails (publish sched n x y k i r s) = rails s := by
  simp [publish]
@[simp] theorem rails_dspEvent : rails (dspEvent n k s) = rails s := by simp [dspEvent]
@[simp] theorem rails_publishConverged (r : JobResult) : rails (publishConverged r s) = rails s := by simp [publishConverged]
@[simp] theorem rails_publishShifted : rails (publishShifted n s) = rails s := by
  unfold publishShifted; dsimp only; split <;> simp

@[simp] theorem rails_dispatchJobEnd : rails (dispatchJobEnd n s) = rails s := by
  unfold dispatchJobEnd; repeat' split
  all_goals simp

@[simp] theorem rails_dispatchDeadline : rails (dispatchDeadline s) = rails s := by simp [dispatchDeadline]
@[simp] theorem rails_inputWrite : rails (inputWrite p s).st = rails s := by simp [inputWrite]
@[simp] theorem rails_inputCommit : rails (inputCommit p s).st = rails s := by simp [inputCommit]
@[simp] theorem rails_storeSet : rails (storeSet p s).st = rails s := by simp [storeSet]
@[simp] theorem rails_dispatchStatusGet : rails (dispatchStatusGet p s).st = rails s := by simp [dispatchStatusGet]
@[simp] theorem rails_dispatchStart : rails (dispatchStart s) = rails s := by simp [dispatchStart]
@[simp] theorem rails_dispatchStop : rails (dispatchStop s) = rails s := by simp [dispatchStop]
@[simp] theorem rails_dispatchStopEnd : rails (dispatchStopEnd s) = rails s := by simp [dispatchStopEnd]

/-! #### ADMM -/

@[simp] theorem rails_admmNext : rails (admmNext s) = rails s := by simp [admmNext]
@[simp] theorem rails_admmStart : rails (admmStart s) = rails s := by simp [admmStart]
@[simp] theorem rails_admmLoad : rails (admmLoad s) = rails s := by simp [admmLoad]
@[simp] theorem rails_admmStep : rails (admmStep s) = rails s := by simp [admmStep]
@[simp] theorem rails_admmTest : rails (admmTest s) = rails s := by simp [admmTest]

/-! #### Newton -/

@[simp] theorem rails_newtonStop : rails (newtonStop n s) = rails s := by simp [newtonStop]
@[simp] theorem rails_newtonStart : rails (newtonStart s) = rails s := by simp [newtonStart]
@[simp] theorem rails_newtonLoad : rails (newtonLoad s) = rails s := by simp [newtonLoad]
@[simp] theorem rails_newtonStep : rails (newtonStep s) = rails s := by
  unfold newtonStep; dsimp only; split <;> simp

/-! #### Jobs -/

@[simp] theorem rails_jobStart : rails (jobStart n s) = rails s := by simp [jobStart]
@[simp] theorem rails_jobSolved : rails (jobSolved n s) = rails s := by simp [jobSolved]
@[simp] theorem rails_jobCall : rails (jobCall n s) = rails s := by
  unfold jobCall; dsimp only; split <;> simp

@[simp] theorem rails_jobCalls (q n : Nat) (s : State) : rails (jobCalls q n s) = rails s := by
  induction n generalizing s with
  | zero => rfl
  | succ n ih => simp [jobCalls, ih]

@[simp] theorem rails_oxBlockEnd (h : BlockHead) : rails (oxBlockEnd n h k s) = rails s := by simp [oxBlockEnd]
@[simp] theorem rails_oxJobEnd : rails (oxJobEnd n k s) = rails s := by simp [oxJobEnd]
@[simp] theorem rails_oxOverrun : rails (oxOverrun n s) = rails s := by simp [oxOverrun]

/-! #### Aplar logic -/

@[simp] theorem rails_onLogic (f : LogicSt → LogicSt) : rails (onLogic f s) = rails s := by simp [onLogic]
@[simp] theorem rails_logicLatch : rails (logicLatch x y s) = rails s := by simp [logicLatch]
@[simp] theorem rails_logicInit : rails (logicInit x s) = rails s := by simp [logicInit]
@[simp] theorem rails_permitChange (old : BitVec 576) (new : BitVec 576) : rails (permitChange old new s) = rails s := by
  simp [permitChange]
@[simp] theorem rails_outputImage (q : BitVec 24) (p : BitVec 576) : rails (outputImage q p s) = rails s := by
  simp [outputImage]
@[simp] theorem rails_logicSafe : rails (logicSafe s) = rails s := by simp [logicSafe]
@[simp] theorem rails_raiseEvts (l : List (Nat × Nat)) (s : State) : rails (raiseEvts l s) = rails s :=
  rails_foldl (fun _ _ => rails_raise ..) _ s
@[simp] theorem rails_logicScan : rails (logicScan x s) = rails s := by simp [logicScan]
@[simp] theorem rails_logicEnter : rails (logicEnter n s) = rails s := by simp [logicEnter]
@[simp] theorem rails_stepEnd : rails (stepEnd s) = rails s := by simp [stepEnd]
@[simp] theorem rails_progTake : rails (progTake p x s) = rails s := by simp [progTake]
@[simp] theorem rails_progEvent : rails (progEvent s) = rails s := by simp [progEvent]
@[simp] theorem rails_progSwitch : rails (progSwitch s).2 = rails s := by
  unfold progSwitch; split <;> simp
@[simp] theorem rails_logicMirror1 : rails (logicMirror1 p s) = rails s := by simp [logicMirror1]
@[simp] theorem rails_logicMirrorR : rails (logicMirrorR n p s) = rails s := by simp [logicMirrorR]
@[simp] theorem rails_logicMirrorT : rails (logicMirrorT n p s) = rails s := by simp [logicMirrorT]
@[simp] theorem rails_logicMirrorC : rails (logicMirrorC n p s) = rails s := by simp [logicMirrorC]

@[simp] theorem rails_mirrorEach (kind n : Nat) {f : Nat → Bytes → State → State} (h : ∀ i b s, rails (f i b s) = rails s)
    (s : State) : rails (mirrorEach kind n f s) = rails s := by
  refine rails_foldl (fun s i => ?_) _ s
  have e := rails_mirrorTake kind i s
  split <;> simp_all

@[simp] theorem rails_logicMirror : rails (logicMirror s) = rails s := by simp [logicMirror]
@[simp] theorem rails_padRelease : rails (padRelease s) = rails s := by simp [padRelease]
@[simp] theorem rails_logicInstant : rails (logicInstant s) = rails s := by simp [logicInstant]
@[simp] theorem rails_logicTick (din : List (Nat × Nat)) : rails (logicTick din s) = rails s := by simp [logicTick]
@[simp] theorem rails_logicModeSet : rails (logicModeSet p s).st = rails s := by simp [logicModeSet]
@[simp] theorem rails_logicStep : rails (logicStep p s).st = rails s := by simp [logicStep]
@[simp] theorem rails_logicHostBits : rails (logicHostBits p s).st = rails s := by simp [logicHostBits]
@[simp] theorem rails_logicActivate : rails (logicActivate p x s) = rails s := by simp [logicActivate]
@[simp] theorem rails_logicStart : rails (logicStart s) = rails s := by simp [logicStart]
@[simp] theorem rails_logicStop : rails (logicStop s) = rails s := by simp [logicStop]
@[simp] theorem rails_logicStopEnd : rails (logicStopEnd s) = rails s := by
  unfold logicStopEnd; dsimp only; split <;> simp
@[simp] theorem rails_logicPark : rails (logicPark s) = rails s := by simp [logicPark]
@[simp] theorem rails_logicResume : rails (logicResume s) = rails s := by
  unfold logicResume; split <;> simp
@[simp] theorem rails_logicFullStart (s : State) : rails (logicFullStart s) = rails s := by
  rw [logicFullStart, rails_onLogic]
@[simp] theorem rails_logicGrant : rails (logicGrant s) = rails s := by simp [logicGrant]
@[simp] theorem rails_logicRetain : rails (logicRetain s) = rails s := by simp [logicRetain]

/-! #### The event recorder -/

@[simp] theorem rails_onRec (f : RecorderSt → RecorderSt) : rails (onRec f s) = rails s := rails_of_mainPart (mainPart_onRec ..)
@[simp] theorem rails_recRaise : rails (recRaise n k i j a s) = rails s := rails_of_mainPart (mainPart_recRaise ..)
@[simp] theorem rails_statusWrite (x : Rec) : rails (statusWrite x s) = rails s := rails_of_mainPart (mainPart_statusWrite ..)
@[simp] theorem rails_mapSector : rails (mapSector n k i j s) = rails s := by simp [mapSector]
@[simp] theorem rails_eraseAhead : rails (eraseAhead n k s) = rails s := rails_of_mainPart (mainPart_eraseAhead ..)

@[simp] theorem rails_leavePos : rails (leavePos n k s) = rails s := by
  unfold leavePos; repeat' split
  all_goals simp

@[simp] theorem rails_seekPos : rails (seekPos n s) = rails s := rails_of_mainPart (mainPart_seekPos ..)
@[simp] theorem rails_circPut (x : Slot) : rails (circPut x s) = rails s := rails_of_mainPart (mainPart_circPut ..)
@[simp] theorem rails_overflowReport : rails (overflowReport s) = rails s := rails_of_mainPart (mainPart_overflowReport ..)
@[simp] theorem rails_flush : rails (flush s) = rails s := rails_of_mainPart (mainPart_flush ..)
@[simp] theorem rails_ramOnlyCheck : rails (ramOnlyCheck n k s) = rails s := by simp [ramOnlyCheck]

@[simp] theorem rails_savePut : rails (savePut p s) = rails s := by
  unfold savePut; dsimp only; repeat' split
  all_goals simp

@[simp] theorem rails_rewriteRec : rails (rewriteRec n s) = rails s := by
  unfold rewriteRec; split <;> simp
@[simp] theorem rails_rewriteSave : rails (rewriteSave n k s) = rails s := by
  unfold rewriteSave; split <;> simp
@[simp] theorem rails_sectorFail : rails (sectorFail n k i s) = rails s := by
  unfold sectorFail; split <;> simp

@[simp] theorem rails_relocate : rails (relocate n k s) = rails s := by
  unfold relocate; repeat' split
  all_goals simp

@[simp] theorem rails_recRead : rails (recRead p s).st = rails s := by simp [recRead]
@[simp] theorem rails_recVerify : rails (recVerify p s).st = rails s := by simp [recVerify]
@[simp] theorem rails_recStatusGet : rails (recStatusGet p s).st = rails s := by simp [recStatusGet]
@[simp] theorem rails_rebuild (t : StartIn) : rails (rebuild t s) = rails s := rails_of_mainPart (mainPart_rebuild ..)

/-! #### Metering -/

@[simp] theorem rails_onMeter (f : MeterSt → MeterSt) : rails (onMeter f s) = rails s := by simp [onMeter]
@[simp] theorem rails_onUnit (f : MeterUnit → MeterUnit) : rails (onUnit n f s) = rails s := by simp [onUnit]
@[simp] theorem rails_onPulse (f : Pulse → Pulse) : rails (onPulse n f s) = rails s := by simp [onPulse]
@[simp] theorem rails_pulseKick : rails (pulseKick n s) = rails s := by simp [pulseKick]
@[simp] theorem rails_pulseAdd : rails (pulseAdd n k i j s) = rails s := by simp [pulseAdd]
@[simp] theorem rails_addEnergy (e : Rat) : rails (addEnergy n k e s) = rails s := by simp [addEnergy]
@[simp] theorem rails_meterFlag : rails (meterFlag n k s) = rails s := by simp [meterFlag]
@[simp] theorem rails_intervalAdd (p : Rat) : rails (intervalAdd n p s) = rails s := by simp [intervalAdd]
@[simp] theorem rails_feederStep : rails (feederStep n s) = rails s := by simp [feederStep]
@[simp] theorem rails_thermalStep : rails (thermalStep n s) = rails s := by simp [thermalStep]
@[simp] theorem rails_meterMirror : rails (meterMirror n p s) = rails s := by simp [meterMirror]

@[simp] theorem rails_unitStep (n : Nat) (s : State) : rails (unitStep n s) = rails s := by
  unfold unitStep
  dsimp only
  split
  · rfl
  · split
    · have e := rails_mirrorTake 8 n (onUnit n (fun u => { u with skip := true }) s)
      split <;> split <;> simp_all
    · simp

@[simp] theorem rails_saveWrite : rails (saveWrite n k p q s).1 = rails s := by simp [saveWrite]

@[simp] theorem rails_meterSave (s : State) : rails (meterSave s) = rails s := by
  unfold meterSave
  extract_lets mid
  have e := rails_saveWrite 1 s.time.ont mid [] s
  split <;> simp_all

@[simp] theorem rails_lossWrite (ont : Nat) (mid : Bytes) (i k l p : Nat) (v : Bool) (s : State) :
    rails (lossWrite ont mid i k l p v s) = rails s := by
  unfold lossWrite
  extract_lets flags seq
  have e := rails_saveWrite 2 ont mid (lossTail i k l p s.time.ont flags) s
  split <;> simp_all

@[simp] theorem rails_lossAfterError : rails (lossAfterError s n) = rails s := by simp [lossAfterError]
@[simp] theorem rails_meterLosses : rails (meterLosses s) = rails s := by simp [meterLosses]
@[simp] theorem rails_meterWrites : rails (meterWrites s) = rails s := by simp [meterWrites]
@[simp] theorem rails_snapTake : rails (snapTake s) = rails s := by simp [snapTake]
@[simp] theorem rails_snapAnswer : rails (snapAnswer s) = rails s := by simp [snapAnswer]
@[simp] theorem rails_stepTurn : rails (stepTurn s) = rails s := by simp [stepTurn]

@[simp] theorem rails_pulseMirror (n : Nat) (s : State) : rails (pulseMirror n s) = rails s := by
  unfold pulseMirror
  split
  · rfl
  · have e := rails_mirrorTake 9 n s
    split <;> simp_all

@[simp] theorem rails_meterStep (s : State) : rails (meterStep s) = rails s := by
  unfold meterStep
  split
  · rfl
  · extract_lets s1 s2 s3 s4
    have e2 : rails s2 = rails s := by simp [s2, s1]
    have e3 : rails s3 = rails s2 := by
      simp only [s3, rails_stepTurn, rails_onMeter]
    simp [s4, e3, e2]

@[simp] theorem rails_pulseTimer : rails (pulseTimer n s) = rails s := by
  unfold pulseTimer; repeat' split
  all_goals simp

@[simp] theorem rails_meterEcc : rails (meterEcc n k s) = rails s := by
  unfold meterEcc; repeat' split
  all_goals simp

@[simp] theorem rails_meterSnapshot : rails (meterSnapshot m s).st = rails s := by simp [meterSnapshot]
@[simp] theorem rails_meterLossGet : rails (meterLossGet p s).st = rails s := by simp [meterLossGet]
@[simp] theorem rails_meterAccSet : rails (meterAccSet p s).st = rails s := by simp [meterAccSet]
@[simp] theorem rails_meterStart : rails (meterStart n s) = rails s := by simp [meterStart]
@[simp] theorem rails_meterStop : rails (meterStop n s) = rails s := by simp [meterStop]
@[simp] theorem rails_meterStopEnd : rails (meterStopEnd n s) = rails s := by simp [meterStopEnd]
@[simp] theorem rails_meterDeep : rails (meterDeep s) = rails s := by simp [meterDeep]
@[simp] theorem rails_meterResume : rails (meterResume s) = rails s := by simp [meterResume]
@[simp] theorem rails_meterRestore : rails (meterRestore s) = rails s := by
  unfold meterRestore; split <;> simp
@[simp] theorem rails_meterRetain : rails (meterRetain s) = rails s := by simp [meterRetain]

/-! #### Ethernet and ingest -/

@[simp] theorem rails_linkChange : rails (linkChange n x k s) = rails s := by simp [linkChange]
@[simp] theorem rails_ingestReject : rails (ingestReject n k s) = rails s := by
  unfold ingestReject; dsimp only; split <;> simp
@[simp] theorem rails_entryReject : rails (entryReject n k s) = rails s := by simp [entryReject]
@[simp] theorem rails_ingestCommit : rails (ingestCommit n k i j p q s) = rails s := by simp [ingestCommit]
@[simp] theorem rails_ingestOpened : rails (ingestOpened n k i j p q s) = rails s := by simp [ingestOpened]

@[simp] theorem rails_ingest : rails (ingest n p s) = rails s := by
  unfold ingest; dsimp only; repeat' split
  all_goals simp

@[simp] theorem rails_telemetry : rails (telemetry n p s) = rails s := by simp [telemetry]

@[simp] theorem rails_frameIn : rails (frameIn n p s) = rails s := by
  unfold frameIn; repeat' split
  all_goals simp

@[simp] theorem rails_bcastSend : rails (bcastSend p s n) = rails s := by
  unfold bcastSend; dsimp only; repeat' split
  all_goals simp

@[simp] theorem rails_bcastGroup : rails (bcastGroup n p s k) = rails s := by simp [bcastGroup]

@[simp] theorem rails_broadcast : rails (broadcast n p s) = rails s := by
  unfold broadcast; repeat' split
  all_goals simp

@[simp] theorem rails_bcastNew : rails (bcastNew n p s) = rails s := by simp [bcastNew]
@[simp] theorem rails_bcastAgain : rails (bcastAgain s) = rails s := by
  unfold bcastAgain; split <;> simp
@[simp] theorem rails_netStart : rails (netStart n s) = rails s := by simp [netStart]
@[simp] theorem rails_netStopEnd : rails (netStopEnd n s) = rails s := by simp [netStopEnd]
@[simp] theorem rails_netLost : rails (netLost s) = rails s := by simp [netLost]

/-! #### The redundant pair -/

@[simp] theorem rails_heartbeat : rails (heartbeat s) = rails s := by simp [heartbeat]
@[simp] theorem rails_straitSend : rails (straitSend n x p s) = rails s := by
  unfold straitSend; split <;> simp

@[simp] theorem rails_straitFrames (type n : Nat) (b : Bytes) (s : State) : rails (straitFrames type n b s) = rails s := by
  induction n generalizing b s with
  | zero => rfl
  | succ n ih => simp [straitFrames, ih]

@[simp] theorem rails_linkStart : rails (linkStart s) = rails s := by simp [linkStart]
@[simp] theorem rails_syncClear : rails (syncClear s) = rails s := by simp [syncClear]
@[simp] theorem rails_syncCheck : rails (syncCheck s) = rails s := by simp [syncCheck]
@[simp] theorem rails_straitDown : rails (straitDown n s) = rails s := by simp [straitDown]
@[simp] theorem rails_bulkNew (o : Bulk) : rails (bulkNew o s) = rails s := by simp [bulkNew]
@[simp] theorem rails_bulkSendAll : rails (bulkSendAll s) = rails s := by simp [bulkSendAll]
@[simp] theorem rails_mirrorCapture : rails (mirrorCapture s) = rails s := by simp [mirrorCapture]
@[simp] theorem rails_mirrorParams : rails (mirrorParams s) = rails s := by
  unfold mirrorParams; split <;> simp
@[simp] theorem rails_periodLost : rails (periodLost s) = rails s := by simp [periodLost]
@[simp] theorem rails_periodDone : rails (periodDone p s) = rails s := by simp [periodDone]
@[simp] theorem rails_listFrame : rails (listFrame x y p s) = rails s := by simp [listFrame]
@[simp] theorem rails_bulkRefuse (o : Bulk) : rails (bulkRefuse o n s) = rails s := by simp [bulkRefuse]
@[simp] theorem rails_bulkTake (o : Bulk) : rails (bulkTake o s) = rails s := by
  unfold bulkTake; split <;> simp
@[simp] theorem rails_bulkFrame : rails (bulkFrame x y p s) = rails s := by simp [bulkFrame]
@[simp] theorem rails_mismatchSet (m : Nat × Nat × Nat) : rails (mismatchSet m s) = rails s := by simp [mismatchSet]
@[simp] theorem rails_ctrlFrame : rails (ctrlFrame x p s) = rails s := by simp [ctrlFrame]
@[simp] theorem rails_straitAccept : rails (straitAccept p q s) = rails s := by
  unfold straitAccept; split <;> simp

@[simp] theorem rails_straitFrame : rails (straitFrame p s) = rails s := by
  unfold straitFrame; dsimp only; repeat' split
  all_goals simp

@[simp] theorem rails_canReassertAll : rails (canReassertAll s) = rails s := by simp [canReassertAll]
@[simp] theorem rails_pairTakeOver : rails (pairTakeOver s) = rails s := by simp [pairTakeOver]
@[simp] theorem rails_holdEnd : rails (holdEnd s) = rails s := by simp [holdEnd]
@[simp] theorem rails_grantEdge : rails (grantEdge x s) = rails s := by simp [grantEdge]
@[simp] theorem rails_plantStop : rails (plantStop s) = rails s := by simp [plantStop]
@[simp] theorem rails_failsafeStop : rails (failsafeStop s) = rails s := by simp [failsafeStop]
@[simp] theorem rails_holdExpiry : rails (holdExpiry s) = rails s := by simp [holdExpiry]
@[simp] theorem rails_pairStatusGet : rails (pairStatusGet p s).st = rails s := by simp [pairStatusGet]
@[simp] theorem rails_pairFailSet : rails (pairFailSet p s).st = rails s := by simp [pairFailSet]
@[simp] theorem rails_pairResync : rails (pairResync p s).st = rails s := by simp [pairResync]
@[simp] theorem rails_pairStart : rails (pairStart s) = rails s := by simp [pairStart]
@[simp] theorem rails_pairStop : rails (pairStop s) = rails s := by simp [pairStop]
@[simp] theorem rails_pairStopEnd : rails (pairStopEnd s) = rails s := by simp [pairStopEnd]
@[simp] theorem rails_stagingLost : rails (stagingLost s) = rails s := by simp [stagingLost]
@[simp] theorem rails_pairLost : rails (pairLost s) = rails s := by simp [pairLost]

/-! #### The cycle -/

@[simp] theorem rails_oxHear : rails (oxHear s) = rails s := by
  unfold oxHear; dsimp only; repeat' split
  all_goals simp

@[simp] theorem rails_oxDeadline : rails (oxDeadline n s) = rails s := by simp [oxDeadline]
@[simp] theorem rails_bulkDrove : rails (bulkDrove s) = rails s := by simp [bulkDrove]
@[simp] theorem rails_pairPublish : rails (pairPublish s) = rails s := by simp [pairPublish]
@[simp] theorem rails_droveEnd : rails (droveEnd s) = rails s := by simp [droveEnd]
@[simp] theorem rails_estLast : rails (estLast s) = rails s := by simp [estLast]
@[simp] theorem rails_handEntry (p : Pub) : rails (handEntry p n s) = rails s := by
  unfold handEntry; dsimp only; split <;> simp
@[simp] theorem rails_handApply (p : Pub) : rails (handApply p s) = rails s := by simp [handApply]

@[simp] theorem rails_dispatchApply : rails (dispatchApply s) = rails s := by
  unfold dispatchApply; dsimp only; repeat' split
  all_goals simp

/-! #### The status panel -/

@[simp] theorem rails_onDisp (f : DispSt → DispSt) : rails (onDisp f s) = rails s := by simp [onDisp]
@[simp] theorem rails_frameStart (u : DispUpd) : rails (frameStart u s) = rails s := by simp [frameStart]
@[simp] theorem rails_updStart (u : DispUpd) : rails (updStart u s) = rails s := by simp [updStart]
@[simp] theorem rails_clearStart : rails (clearStart s) = rails s := by simp [clearStart]
@[simp] theorem rails_nextStart : rails (nextStart s) = rails s := by
  unfold nextStart; split <;> simp
@[simp] theorem rails_updEnd (u : DispUpd) : rails (updEnd u n s) = rails s := by simp [updEnd]
@[simp] theorem rails_dischargeStart : rails (dischargeStart s) = rails s := by simp [dischargeStart]
@[simp] theorem rails_lastFrame (u : DispUpd) : rails (lastFrame u s) = rails s := by simp [lastFrame]

@[simp] theorem rails_frameEnd : rails (frameEnd s) = rails s := by
  unfold frameEnd; dsimp only; repeat' split
  all_goals simp

@[simp] theorem rails_frameFetchLost : rails (frameFetchLost s) = rails s := by
  unfold frameFetchLost; split <;> simp
@[simp] theorem rails_railGood : rails (railGood s) = rails s := by simp [railGood]
@[simp] theorem rails_vcomSettled : rails (vcomSettled s) = rails s := by
  unfold vcomSettled; split <;> simp
@[simp] theorem rails_dscEnter : rails (dscEnter n s) = rails s := by simp [dscEnter]

@[simp] theorem rails_dscOver : rails (dscOver s) = rails s := by
  unfold dscOver; dsimp only; repeat' split
  all_goals simp

@[simp] theorem rails_dscNext : rails (dscNext s) = rails s := by simp [dscNext]
@[simp] theorem rails_dscTimeout : rails (dscTimeout n s) = rails s := by simp [dscTimeout]
@[simp] theorem rails_railTimeout : rails (railTimeout n s) = rails s := by simp [railTimeout]
@[simp] theorem rails_railLost : rails (railLost n k s) = rails s := by simp [railLost]
@[simp] theorem rails_imageWrite : rails (imageWrite p s).st = rails s := by simp [imageWrite]
@[simp] theorem rails_updAccept (u : DispUpd) : rails (updAccept u s) = rails s := by simp [updAccept]
@[simp] theorem rails_dispUpdate : rails (dispUpdate p s).st = rails s := by simp [dispUpdate]
@[simp] theorem rails_dispTempSet : rails (dispTempSet p s).st = rails s := by simp [dispTempSet]
@[simp] theorem rails_imagesPlace : rails (imagesPlace s) = rails s := by simp [imagesPlace]
@[simp] theorem rails_dispStart : rails (dispStart s) = rails s := by
  unfold dispStart; dsimp only; split <;> simp

@[simp] theorem rails_dispStop : rails (dispStop n s) = rails s := by
  unfold dispStop; dsimp only; repeat' split
  all_goals simp

@[simp] theorem rails_dispStopEnd : rails (dispStopEnd s) = rails s := by simp [dispStopEnd]
@[simp] theorem rails_dispResume : rails (dispResume s) = rails s := by simp [dispResume]
@[simp] theorem rails_dispLost : rails (dispLost s) = rails s := by simp [dispLost]

/-! #### Enable units -/

@[simp] theorem rails_pllsFollow : rails (pllsFollow s) = rails s := by simp [pllsFollow]
@[simp] theorem rails_islandLost : rails (islandLost n s) = rails s := by
  unfold islandLost; split <;> simp
@[simp] theorem rails_retainOnly : rails (retainOnly s) = rails s := by simp [retainOnly]
@[simp] theorem rails_islReqFollow : rails (islReqFollow s) = rails s := by simp [islReqFollow]
@[simp] theorem rails_unitStart : rails (unitStart n k s) = rails s := by
  unfold unitStart; split <;> simp
@[simp] theorem rails_unitStop : rails (unitStop n k s) = rails s := by
  unfold unitStop; split <;> simp
@[simp] theorem rails_unitStopEnd : rails (unitStopEnd n k s) = rails s := by
  unfold unitStopEnd; split <;> simp
@[simp] theorem rails_islandIdle : rails (islandIdle n s) = rails s := by simp [islandIdle]
@[simp] theorem rails_islandFor : rails (islandFor n k s) = rails s := by
  unfold islandFor; split <;> simp
@[simp] theorem rails_unitEnable : rails (unitEnable n k s) = rails s := by simp [unitEnable]
@[simp] theorem rails_pendingDone : rails (pendingDone n k i j s) = rails s := by simp [pendingDone]

@[simp] theorem rails_pendingRun : rails (pendingRun n k s) = rails s := by
  unfold pendingRun; dsimp only; repeat' split
  all_goals simp

@[simp] theorem rails_pendingCancel : rails (pendingCancel n k i s) = rails s := by
  unfold pendingCancel; dsimp only; split <;> simp
@[simp] theorem rails_sequenceEnd : rails (sequenceEnd n k s) = rails s := by
  unfold sequenceEnd; split <;> simp

@[simp] theorem rails_subsysEnable : rails (subsysEnable n k i s).st = rails s := by
  unfold subsysEnable; repeat' split
  all_goals simp

@[simp] theorem rails_subsysEnableCmd : rails (subsysEnableCmd m s).st = rails s := by
  unfold subsysEnableCmd; split <;> simp

@[simp] theorem rails_subsysDisable : rails (subsysDisable n k s).st = rails s := by
  unfold subsysDisable; repeat' split
  all_goals simp

@[simp] theorem rails_subsysDisableCmd : rails (subsysDisableCmd p s).st = rails s := by
  unfold subsysDisableCmd; split <;> simp
@[simp] theorem rails_subsysStateGet : rails (subsysStateGet p s).st = rails s := by
  unfold subsysStateGet; split <;> simp

@[simp] theorem rails_subsysCheck : rails (subsysCheck p s).st = rails s := by
  unfold subsysCheck; repeat' split
  all_goals simp

@[simp] theorem rails_recoveryDone : rails (recoveryDone n s) = rails s := by simp [recoveryDone]
@[simp] theorem rails_recoveryTimeout : rails (recoveryTimeout n k s) = rails s := by simp [recoveryTimeout]

/-! #### Replacing the model -/

@[simp] theorem rails_raiseOpen (vals : List Int) : rails (raiseOpen n k vals s) = rails s := by simp [raiseOpen]
@[simp] theorem rails_stageSet : rails (stageSet p x s) = rails s := by simp [stageSet]
@[simp] theorem rails_convertOwn : rails (convertOwn p q s) = rails s := by
  unfold convertOwn; split <;> simp
@[simp] theorem rails_switchNow : rails (switchNow s) = rails s := by simp [switchNow]
@[simp] theorem rails_switchDefer : rails (switchDefer s) = rails s := by simp [switchDefer]
@[simp] theorem rails_modelSwitch : rails (modelSwitch s) = rails s := by simp [modelSwitch]
@[simp] theorem rails_switchFirst : rails (switchFirst n s) = rails s := by
  unfold switchFirst; split <;> simp
@[simp] theorem rails_switchResume : rails (switchResume s) = rails s := by simp [switchResume]
@[simp] theorem rails_modelFallback : rails (modelFallback s) = rails s := by simp [modelFallback]
@[simp] theorem rails_switchCancel : rails (switchCancel s) = rails s := by simp [switchCancel]

@[simp] theorem rails_modelTrialRevert : rails (modelTrialRevert p s).st = rails s := by
  unfold modelTrialRevert; dsimp only; repeat' split
  all_goals simp

@[simp] theorem rails_modelActivate : rails (modelActivate x s).st = rails s := by
  unfold modelActivate; dsimp only; split <;> simp

/-! #### Starts and resets -/

@[simp] theorem rails_onMgmt (f : MgmtSt → MgmtSt) : rails (onMgmt f s) = rails s := by simp [onMgmt]
@[simp] theorem rails_pwrEnReassert : rails (pwrEnReassert s) = rails s := by
  unfold pwrEnReassert; split <;> simp
@[simp] theorem rails_latchCause : rails (latchCause n s) = rails s := by simp [latchCause]
@[simp] theorem rails_latchClear : rails (latchClear s) = rails s := by simp [latchClear]
@[simp] theorem rails_pfailFall : rails (pfailFall s) = rails s := by simp [pfailFall]
@[simp] theorem rails_pfailQuiet : rails (pfailQuiet s) = rails s := by simp [pfailQuiet]
@[simp] theorem rails_bootFailWrite : rails (bootFailWrite n s) = rails s := by simp [bootFailWrite]
@[simp] theorem rails_pendingForget : rails (pendingForget s) = rails s := rails_of_mainPart (mainPart_pendingForget ..)
@[simp] theorem rails_sessionsGone : rails (sessionsGone s) = rails s := rails_of_mainPart (mainPart_sessionsGone ..)

@[simp] theorem rails_mgmtReset (s : State) : rails (mgmtReset s) = rails s := by
  have e : rails (sessionsGone (pendingForget s)) = rails s := by simp
  unfold mgmtReset
  generalize sessionsGone (pendingForget s) = u at e
  exact e

@[simp] theorem rails_minimalPlant : rails (minimalPlant s) = rails s := by simp [minimalPlant]
@[simp] theorem rails_minimalSec : rails (minimalSec s) = rails s := by simp [minimalSec]
@[simp] theorem rails_answerRestarted : rails (answerRestarted s) = rails s := by simp [answerRestarted]
@[simp] theorem rails_enterMinimal (t : StartIn) : rails (enterMinimal t n s) = rails s := by simp [enterMinimal]
@[simp] theorem rails_startStep (x : StartIn) (c : Nat) {f : State → State} (h : ∀ s, rails (f s) = rails s) (s : State) :
    rails (startStep x c f s) = rails s := by simp [startStep, h]
@[simp] theorem rails_trialRevert : rails (trialRevert s) = rails s := by simp [trialRevert]
@[simp] theorem rails_bootCounter : rails (bootCounter s) = rails s := by simp [bootCounter]
@[simp] theorem rails_start1 (t : StartIn) : rails (start1 t s) = rails s := by
  unfold start1; dsimp only; split <;> simp
@[simp] theorem rails_start2 (t : StartIn) : rails (start2 t s) = rails s := by
  unfold start2; dsimp only; split <;> simp
@[simp] theorem rails_start2Warm (t : StartIn) : rails (start2Warm t s) = rails s := by simp [start2Warm]
@[simp] theorem rails_malorTake (t : StartIn) : rails (malorTake t x s) = rails s := by simp [malorTake]

@[simp] theorem rails_start4 (t : StartIn) : rails (start4 t s) = rails s := by
  unfold start4; dsimp only; repeat' split
  all_goals simp

@[simp] theorem rails_wakeEntryEvent : rails (wakeEntryEvent s) = rails s := by simp [wakeEntryEvent]

@[simp] theorem rails_stateEvents (s : State) : rails (stateEvents s) = rails s := by
  unfold stateEvents
  split
  · rfl
  · extract_lets s1 s2 s3
    rw [rails_onPower (fun p => ?_)]
    · simp [s3, s2, s1]
    · exact railPoints_latchDone _ p

@[simp] theorem rails_reportOwed : rails (reportOwed s) = rails s := by simp [reportOwed]
@[simp] theorem rails_start5 : rails (start5 s) = rails s := by simp [start5]

@[simp] theorem rails_start7 (s : State) : rails (start7 s) = rails s := by
  unfold start7
  dsimp only
  split
  · exact rails_raise ..
  · split
    · rfl
    · rw [rails_onLogic, rails_progTake]

@[simp] theorem rails_stagedVerify (t : StartIn) : rails (stagedVerify t s) = rails s := by simp [stagedVerify]

@[simp] theorem rails_start6 (t : StartIn) : rails (start6 t s) = rails s := by
  unfold start6; dsimp only; repeat' split
  all_goals simp

@[simp] theorem rails_enablePass (l : List (Nat × Nat)) (s : State) : rails (enablePass l s).2 = rails s := by
  unfold enablePass
  show _ = rails (([] : List (Nat × Nat)), s).2
  generalize (([] : List (Nat × Nat)), s) = a
  induction l generalizing a with
  | nil => rfl
  | cons u l ih =>
    rw [List.foldl_cons, ih]
    split <;> simp

@[simp] theorem rails_enablePasses (n : Nat) (l : List (Nat × Nat)) (s : State) : rails (enablePasses n l s).2 = rails s := by
  induction n generalizing l s with
  | zero => rfl
  | succ n ih => simp [enablePasses, ih]

@[simp] theorem rails_enableRefused (u : Nat × Nat) : rails (enableRefused s u) = rails s := by
  unfold enableRefused; split <;> simp
@[simp] theorem rails_applySaved : rails (applySaved s) = rails s := by
  unfold applySaved; split <;> simp
@[simp] theorem rails_loadSaved : rails (loadSaved s) = rails s := by
  unfold loadSaved; split <;> simp
@[simp] theorem rails_startPads : rails (startPads s) = rails s := by simp [startPads]
@[simp] theorem rails_sessionFlag : rails (sessionFlag s) = rails s := by simp [sessionFlag]
@[simp] theorem rails_restoreMeters : rails (restoreMeters s) = rails s := by simp [restoreMeters]
@[simp] theorem rails_start8Full (t : StartIn) : rails (start8Full t s) = rails s := by simp [start8Full]
@[simp] theorem rails_reportCancelled : rails (reportCancelled s) = rails s := by simp [reportCancelled]
@[simp] theorem rails_readBack : rails (readBack s) = rails s := by simp [readBack]
@[simp] theorem rails_start8Warm (t : StartIn) : rails (start8Warm t s) = rails s := by simp [start8Warm]
@[simp] theorem rails_start9 (t : StartIn) : rails (start9 t s) = rails s := by simp [start9]
@[simp] theorem rails_startLate (t : StartIn) : rails (startLate t s) = rails s := by simp [startLate]
@[simp] theorem rails_startWarm (t : StartIn) : rails (startWarm t s) = rails s := by simp [startWarm]
@[simp] theorem rails_afterRelease (t : StartIn) : rails (afterRelease t s) = rails s := by simp [afterRelease]
@[simp] theorem rails_warmAgain (t : StartIn) : rails (warmAgain t s) = rails s := by simp [warmAgain]
@[simp] theorem rails_pairWdt : rails (pairWdt s) = rails s := rails_of_mainPart (mainPart_pairWdt ..)
@[simp] theorem rails_bootFailOnce : rails (bootFailOnce n s) = rails s := by simp [bootFailOnce]
@[simp] theorem rails_watchdogExpiry (t : StartIn) : rails (watchdogExpiry t s) = rails s := by simp [watchdogExpiry]
@[simp] theorem rails_readyTimeout (t : StartIn) : rails (readyTimeout t s) = rails s := by simp [readyTimeout]
@[simp] theorem rails_codeFault (t : StartIn) : rails (codeFault n x t s) = rails s := by simp [codeFault]

/-! #### Device states, islands and operating points -/

@[simp] theorem rails_islandDown : rails (islandDown n s) = rails s := by simp [islandDown]
@[simp] theorem rails_vackTimeout : rails (vackTimeout s) = rails s := by
  unfold vackTimeout; split <;> simp
@[simp] theorem rails_oppRefuse : rails (oppRefuse s n).st = rails s := by simp [oppRefuse]

@[simp] theorem rails_powerOppSet (b : Bytes) (s : State) : rails (powerOppSet b s).st = rails s := by
  have h (soc ox : Nat) (p : PowerSt) : railPoints (if p.oppSoc = soc then oppStart true ox p else
      if p.oppOx = ox then oppStart false soc p
      else { oppStart false soc p with oppNext := some ⟨true, p.oppOx, ox, false, false⟩ }) = railPoints p := by
    split
    · simp
    · split
      · simp
      · exact railPoints_oppStart false soc p
  unfold powerOppSet
  simp [h, oppRefuse]

@[simp] theorem rails_powerSpreadSet : rails (powerSpreadSet p s).st = rails s := by simp [powerSpreadSet]
@[simp] theorem rails_powerTokenSet : rails (powerTokenSet p s).st = rails s := by simp [powerTokenSet]
@[simp] theorem rails_entryBegin : rails (entryBegin n s) = rails s := by
  unfold entryBegin; split <;> simp

@[simp] theorem rails_entryIslands (s : State) : rails (entryIslands s) = rails s := by
  unfold entryIslands
  extract_lets t s1 s2 s3 s4 kept digest s5 s6 s7
  have e1 : rails s1 = rails s := by simp [s1]
  have e2 : rails s2 = rails s1 := by
    clear_value s1
    rfl
  have e5 : rails s5 = rails s := by simp [s5, s4, s3, e2, e1]
  simp [s7, s6, e5]

@[simp] theorem rails_entryEnd : rails (entryEnd n s) = rails s := by
  unfold entryEnd; split <;> simp
@[simp] theorem rails_entryReverse : rails (entryReverse s) = rails s := by simp [entryReverse]
@[simp] theorem rails_entryStart (t : Dev) : rails (entryStart t s) = rails s := by simp [entryStart]

@[simp] theorem rails_powerStateSet : rails (powerStateSet p s).st = rails s := by
  unfold powerStateSet; dsimp only; repeat' split
  all_goals simp

@[simp] theorem rails_islandsFollow : rails (islandsFollow s) = rails s := by simp [islandsFollow]
@[simp] theorem rails_deepOnt : rails (deepOnt s) = rails s := by simp [deepOnt]

@[simp] theorem rails_exitEvents (s : State) : rails (exitEvents s) = rails s := by
  unfold exitEvents
  split
  · dsimp only
    rw [rails_onPower (fun p => ?_), rails_wakeEntryEvent]
    exact railPoints_latchDone _ p
  · exact rails_stateEvents s

@[simp] theorem rails_exitMalor : rails (exitMalor x y s) = rails s := by simp [exitMalor]

/-! #### Temperature, supplies and errors -/

@[simp] theorem rails_oxPointTo : rails (oxPointTo n s) = rails s := by simp [oxPointTo]
@[simp] theorem rails_oxPointStep : rails (oxPointStep s) = rails s := by simp [oxPointStep]
@[simp] theorem rails_supplyFault : rails (supplyFault n k x s) = rails s := by simp [supplyFault]
@[simp] theorem rails_loadWindow : rails (loadWindow n s) = rails s := by simp [loadWindow]
@[simp] theorem rails_raiseAddr : rails (raiseAddr n k i s) = rails s := by simp [raiseAddr]
@[simp] theorem rails_dramLost : rails (dramLost n s) = rails s := by
  unfold dramLost; split <;> simp
@[simp] theorem rails_scrubCorrected : rails (scrubCorrected n k s) = rails s := by
  unfold scrubCorrected; split <;> simp
@[simp] theorem rails_scrubBad (t : StartIn) : rails (scrubBad n k t s) = rails s := by
  unfold scrubBad; split <;> simp
@[simp] theorem rails_scrubFound (t : StartIn) : rails (scrubFound n k i t s) = rails s := by simp [scrubFound]

/-! #### Management commands and updates -/

@[simp] theorem rails_mgmtStatusGet : rails (mgmtStatusGet p s).st = rails s := by simp [mgmtStatusGet]
@[simp] theorem rails_mgmtRestart : rails (mgmtRestart p s).st = rails s := by simp [mgmtRestart]
@[simp] theorem rails_configSave : rails (configSave p s).st = rails s := by simp [configSave]
@[simp] theorem rails_updateBegin : rails (updateBegin p s).st = rails s := by simp [updateBegin]
@[simp] theorem rails_updateData : rails (updateData p s).st = rails s := by
  unfold updateData; split <;> simp

@[simp] theorem rails_updateFinish : rails (updateFinish p s).st = rails s := by
  unfold updateFinish; repeat' split
  all_goals simp

@[simp] theorem rails_updateClose : rails (updateClose s) = rails s := by simp [updateClose]
@[simp] theorem rails_malorActivate : rails (malorActivate x s) = rails s := by simp [malorActivate]
@[simp] theorem rails_minimalActivate : rails (minimalActivate n x s) = rails s := by simp [minimalActivate]
@[simp] theorem rails_aplarActivate : rails (aplarActivate x s).st = rails s := by
  unfold aplarActivate; dsimp only; split <;> simp

@[simp] theorem rails_updateActivate : rails (updateActivate p s).st = rails s := by
  unfold updateActivate; repeat' split
  all_goals simp

@[simp] theorem rails_counterRaise : rails (counterRaise n k s) = rails s := by simp [counterRaise]
@[simp] theorem rails_updateCommit : rails (updateCommit p s).st = rails s := by simp [updateCommit]

@[simp] theorem rails_updateAbort : rails (updateAbort p s).st = rails s := by
  unfold updateAbort; repeat' split
  all_goals simp

@[simp] theorem rails_logicTrialRevert : rails (logicTrialRevert p s).st = rails s := by
  unfold logicTrialRevert; dsimp only; repeat' split
  all_goals simp

/-! #### Reads, writes and frames -/

@[simp] theorem rails_wordRead (bar2 : Bool) (o : Nat) (s : State) : rails (wordRead bar2 o s).2 = rails s := by
  unfold wordRead; repeat' split
  all_goals simp

@[simp] theorem rails_barRead (bar2 : Bool) (k off n : Nat) (s : State) : rails (barRead bar2 k off n s).2 = rails s := by
  induction k generalizing off n s with
  | zero => rfl
  | succ k ih =>
    unfold barRead
    split
    · rfl
    · exact (ih _ _ _).trans (rails_wordRead ..)

@[simp] theorem rails_hostRead : rails (hostRead x n k s).2 = rails s := by simp [hostRead]
@[simp] theorem rails_frameErr : rails (frameErr s) = rails s := by simp [frameErr]

@[simp] theorem rails_spiWrites (bar2 : Bool) (k off : Nat) (b : Bytes) (s : State) :
    rails (spiWrites bar2 k off b s) = rails s := by
  induction k generalizing off b s with
  | zero => rfl
  | succ k ih => simp [spiWrites, ih]

@[simp] theorem rails_spiRead : rails (spiRead x n k s) = rails s := by simp [spiRead]
@[simp] theorem rails_spiStatus : rails (spiStatus s) = rails s := by simp [spiStatus]
@[simp] theorem rails_spiFrame : rails (spiFrame p s) = rails s := by
  unfold spiFrame; split <;> simp

/-! #### The idle step -/

@[simp] theorem rails_aonClock : rails (aonClock s) = rails s := by simp [aonClock]
@[simp] theorem rails_changesReported : rails (changesReported s) = rails s := by simp [changesReported]
@[simp] theorem rails_netClock : rails (netClock s) = rails s := by simp [netClock]
@[simp] theorem rails_idleTick : rails (idleTick s) = rails s := by simp [idleTick]

/-! #### Commands by their codes -/

@[simp] theorem rails_mailBody : rails (mailBody n m s).st = rails s := by
  unfold mailBody; split <;> simp
@[simp] theorem rails_idleStep : rails (idleStep s) = rails s := by
  unfold idleStep; split <;> simp

end

/-! ### What a step must keep -/

/-- What one step must keep: the queue, and the order of each rail's frequency under its voltage (R84). -/
def Kept (s t : State) : Prop := t.pending = s.pending ∧ (OppOrdered s → OppOrdered t)

theorem Kept.refl (s : State) : Kept s s := ⟨rfl, id⟩

theorem Kept.trans {s t u : State} (h : Kept s t) (k : Kept t u) : Kept s u := ⟨k.1.trans h.1, k.2 ∘ h.2⟩

/-- Of both rails the frequency's point is not above the voltage's (R84). -/
def PointsOrdered (p : PowerSt) : Prop := p.oppOx ≤ p.voltOx ∧ p.oppSoc ≤ p.voltSoc

theorem oppOrdered_iff (s : State) : OppOrdered s ↔ PointsOrdered s.power := Iff.rfl

theorem PointsOrdered.of_railPoints {p q : PowerSt} (h : PointsOrdered p) (e : railPoints q = railPoints p) :
    PointsOrdered q := by
  simp only [railPoints, points, Prod.mk.injEq] at e
  obtain ⟨hox, hvox, hsoc, hvsoc⟩ := e
  simpa only [PointsOrdered, hox, hvox, hsoc, hvsoc] using h

theorem Kept.of_rails {s t : State} (h : rails t = rails s) : Kept s t := by
  obtain ⟨hq, hp⟩ := Prod.mk.inj h
  exact ⟨hq, fun o => PointsOrdered.of_railPoints o hp⟩

theorem Kept.then_rails {s t u : State} (h : Kept s t) (e : rails u = rails t) : Kept s u := h.trans (.of_rails e)

theorem Kept.ite {s a b : State} {c : Prop} [Decidable c] (ha : Kept s a) (hb : Kept s b) : Kept s (if c then a else b) := by
  split
  · exact ha
  · exact hb

theorem Kept.foldl {α : Type} {f : State → α → State} (h : ∀ s a, Kept s (f s a)) (l : List α) (s : State) :
    Kept s (l.foldl f s) := by
  induction l generalizing s with
  | nil => exact .refl s
  | cons a l ih => exact (h s a).trans (ih _)

theorem kept_onPower {f : PowerSt → PowerSt} (h : ∀ p, PointsOrdered p → PointsOrdered (f p)) (s : State) :
    Kept s (onPower f s) := ⟨rfl, h s.power⟩

/-! ### The changes of a point (R83 to R85) -/

theorem PointsOrdered.ite {a b : PowerSt} {c : Prop} [Decidable c] (ha : PointsOrdered a) (hb : PointsOrdered b) :
    PointsOrdered (if c then a else b) := by
  split
  · exact ha
  · exact hb

/-- Hardware refuses a frequency above what the voltage allows (R84). -/
theorem pointsOrdered_setPoint (ox : Bool) (n : Nat) {p : PowerSt} (h : PointsOrdered p) : PointsOrdered (setPoint ox n p) := by
  unfold setPoint
  cases ox <;> simp only [Bool.false_eq_true, if_true, if_false] <;> split
  · exact ⟨h.1, ‹_›⟩
  · exact h
  · exact ⟨‹_›, h.2⟩
  · exact h

/-- Hardware refuses a voltage below what the frequency needs (R84). -/
theorem pointsOrdered_setVolt (ox : Bool) (n : Nat) {p : PowerSt} (h : PointsOrdered p) : PointsOrdered (setVolt ox n p) := by
  unfold setVolt
  cases ox <;> simp only [oppPoint, Bool.false_eq_true, if_true, if_false] <;> split
  · exact ⟨h.1, ‹_›⟩
  · exact h
  · exact ⟨‹_›, h.2⟩
  · exact h

theorem pointsOrdered_oppOver {p : PowerSt} (h : PointsOrdered p) : PointsOrdered (oppOver p) :=
  h.of_railPoints (railPoints_oppOver p)

theorem pointsOrdered_vackRise {p : PowerSt} (h : PointsOrdered p) : PointsOrdered (vackRise p) := by
  unfold vackRise
  split
  · exact h
  · next c _ =>
    have hv := pointsOrdered_setVolt c.ox c.new h
    exact .ite h (.ite (pointsOrdered_oppOver (pointsOrdered_setVolt c.ox c.old h))
      (.ite (hv.of_railPoints (railPoints_relock ..)) (pointsOrdered_oppOver hv)))

theorem pointsOrdered_pllLocked (n : Nat) {p : PowerSt} (h : PointsOrdered p) : PointsOrdered (pllLocked n p) := by
  have hs : PointsOrdered (pllStart n p) := h.of_railPoints (railPoints_pllStart n p)
  unfold pllLocked
  dsimp only
  split
  · next c _ =>
    have hp := pointsOrdered_setPoint c.ox c.new hs
    exact .ite (.ite (pointsOrdered_oppOver hp) hp) hs
  · exact hs

/-- OX comes ON at OPP-H with its voltage the first time, and at the point it had later (R82). -/
theorem pointsOrdered_oxOn {p : PowerSt} (h : PointsOrdered p) : PointsOrdered { p with
    oxSeen := true, oxRelockDue := false
    oppOx := if p.oxSeen then p.oppOx else 2, voltOx := if p.oxSeen then p.voltOx else 2 } := by
  cases hs : p.oxSeen
  · exact ⟨le_rfl, h.2⟩
  · exact h

/-! ### Resets, starts, islands and the transitions that reset or wake them -/

/-- A reset gives both rails their highest point with its voltage (R82). -/
theorem kept_islandReset (b : Bool) (s : State) : Kept s (islandReset b s) := ⟨rfl, fun _ => ⟨le_rfl, le_rfl⟩⟩

theorem kept_porAssert (s : State) : Kept s (porAssert s) := ⟨rfl, fun _ => ⟨le_rfl, le_rfl⟩⟩

theorem kept_railsCut (n : Nat) (s : State) : Kept s (railsCut n s) :=
  (kept_islandReset true s).then_rails (by simp [railsCut])

theorem kept_mainResetRequest (s : State) : Kept s (mainResetRequest s) :=
  (kept_islandReset false s).then_rails (by simp [mainResetRequest])

theorem kept_xtalFail (s : State) : Kept s (xtalFail s) :=
  .ite ((Kept.of_rails (rails_latchCause ..)).trans (kept_railsCut 1 _)) (.refl s)

theorem kept_pgFall (s : State) : Kept s (pgFall s) :=
  .ite ((Kept.of_rails (rails_latchCause ..)).trans (kept_railsCut 1 _)) (.of_rails (by simp))

theorem kept_thermShut (s : State) : Kept s (thermShut s) := (kept_railsCut 60 s).then_rails (by simp [thermShut])

theorem kept_startStep (x : StartIn) (c : Nat) {f : State → State} (h : ∀ s, Kept s (f s)) (s : State) :
    Kept s (startStep x c f s) := by
  unfold startStep
  exact .ite (.ite ((h s).then_rails (rails_onMgmt ..)) (h s)) (.refl s)

theorem kept_start3 (x : StartIn) (s : State) : Kept s (start3 x s) :=
  .ite (.of_rails (by simp)) ((Kept.of_rails (rails_bootFailWrite ..)).trans (kept_mainResetRequest _))

theorem kept_startFull (x : StartIn) (s : State) : Kept s (startFull x s) := by
  refine Kept.then_rails ?_ (rails_startLate ..)
  exact (Kept.of_rails (by simp)).trans (kept_startStep x 3 (kept_start3 x) _)

theorem kept_mainRelease (x : StartIn) (s : State) : Kept s (mainRelease x s) :=
  .ite ((Kept.of_rails (rails_afterRelease ..)).trans (kept_startFull x _)) (.refl s)

theorem kept_restartNow (x : StartIn) (s : State) : Kept s (restartNow x s) := by
  unfold restartNow
  split
  · exact .refl s
  · exact .ite (.refl s) (.ite (kept_mainResetRequest s) (.of_rails (rails_warmAgain ..)))

theorem kept_islandOn (n : Nat) (s : State) : Kept s (islandOn n s) := by
  unfold islandOn
  extract_lets was s1
  have e1 : Kept s s1 := .of_rails (by simp [s1])
  refine e1.trans ?_
  clear_value s1
  split
  · exact (Kept.of_rails (rails_regenerate s1)).trans (.ite (.of_rails (rails_unwrapAll _)) (kept_mainResetRequest _))
  · exact .of_rails (by simp)
  · exact .of_rails (by simp)
  · refine (kept_onPower (fun p h => ?_) s1).then_rails (rails_oxKick _)
    exact PointsOrdered.of_railPoints (pointsOrdered_oxOn h) (railPoints_pllStart ..)
  · exact .of_rails (by simp)
  · exact .refl s1

theorem kept_pllUnlock (n : Nat) (s : State) : Kept s (pllUnlock n s) :=
  .ite (.refl s) (.ite (kept_xtalFail s) (.of_rails (by simp)))

theorem kept_entryComplete (s : State) : Kept s (entryComplete s) := by
  unfold entryComplete
  extract_lets t report s1 woke s2
  have e1 : Kept s s1 := .of_rails (by simp [s1])
  have e2 : Kept s s2 := (e1.trans (kept_islandReset true s1)).then_rails (by simp [s2])
  exact .ite (.ite (e2.then_rails (by simp)) e2) e1

theorem kept_entryStepDone (s : State) : Kept s (entryStepDone s) := by
  unfold entryStepDone
  extract_lets n s1 next
  have e1 : Kept s s1 := .of_rails (by simp [s1])
  refine .ite (.refl s) (.ite (e1.then_rails (rails_entryReverse s1)) ?_)
  cases next with
  | none => exact e1.trans (kept_entryComplete s1)
  | some k => exact e1.then_rails (by simp)

theorem kept_exitIslands (s : State) : Kept s (exitIslands s) := by
  unfold exitIslands
  extract_lets s1
  have e1 : Kept s s1 := (Kept.of_rails (by simp)).trans (.foldl (fun s k => kept_islandOn k s) _ _)
  exact .ite e1 (e1.then_rails (by simp))

theorem kept_exitUndo (s : State) (n : Nat) : Kept s (exitUndo s n) := by
  unfold exitUndo
  refine .ite (.refl s) ?_
  split
  case h_1 => exact kept_exitIslands s
  case h_2 => exact kept_islandOn 10 s
  all_goals exact .of_rails (by simp)

theorem kept_exitComplete (lost : List (Nat × Byte)) (s : State) : Kept s (exitComplete lost s) := by
  unfold exitComplete
  refine .ite (.refl s) ?_
  extract_lets reversed fromDeep s1 steps deepTarget s2 s3 s4
  have e1 : Kept s s1 := .ite (.of_rails (rails_onMgmt ..)) (.refl s)
  have e2 : Kept s s2 := e1.then_rails (by simp [s2])
  have e3 : Kept s s3 := e2.trans ((Kept.ite (.of_rails (rails_deepOnt ..)) (.refl s2)).trans (.foldl kept_exitUndo _ _))
  exact .ite (e1.trans (kept_mainResetRequest s1)) (.ite e3 (e3.then_rails (by simp [s4])))

theorem kept_tempCross (l : List Int) (s : State) : Kept s (tempCross l s) := by
  unfold tempCross
  refine .ite (.refl s) ?_
  extract_lets old new s1 warn s2
  have e1 : Kept s s1 := .of_rails (rails_onMgmt ..)
  exact .ite (e1.trans (kept_thermShut s1)) (e1.then_rails (by simp [s2]))

end Sys2Proof.Machine
end

section
/-! What every step keeps: O3. -/

namespace Sys2Proof.Machine

/-- Every command completes and keeps the queue and the order of the rails. The cases down to `pllRelockDone` are the commands that
can change a point; of the others, those that choose by a `match` of their own stand apart. -/
theorem exec_kept (c : Instr) (s : State) : ∃ t, exec c s = .next t ∧ Kept s t := by
  cases c with
  | porNAssert => exact ⟨_, rfl, kept_porAssert s⟩
  | pmicPgFall => exact ⟨_, rfl, kept_pgFall s⟩
  | xtal25Fail => exact ⟨_, rfl, kept_xtalFail s⟩
  | pllUnlock n => exact ⟨_, rfl, kept_pllUnlock n s⟩
  | mainResetRelease x => exact ⟨_, rfl, kept_mainRelease x s⟩
  | restartDelayExpiry x => exact ⟨_, rfl, kept_restartNow x s⟩
  | tempThresholdCross l => exact ⟨_, rfl, kept_tempCross l s⟩
  | entryStepDone => exact ⟨_, rfl, kept_entryStepDone s⟩
  | exitComplete lost => exact ⟨_, rfl, kept_exitComplete lost s⟩
  | islandWakeDone n => exact ⟨_, rfl, .ite (kept_islandOn n s) (.refl s)⟩
  | pmicVackRise =>
    exact ⟨_, rfl, .ite ((kept_onPower (fun _ => pointsOrdered_vackRise) s).then_rails (rails_oxRelock _)) (.refl s)⟩
  | pllRelockDone n =>
    exact ⟨_, rfl, .ite ((kept_onPower (fun _ => pointsOrdered_pllLocked n) s).then_rails (by simp)) (.refl s)⟩
  | sessionOpeningTimeout k =>
    refine ⟨_, rfl, ?_⟩
    split
    · exact .of_rails (by simp)
    · exact .refl s
  | sessionIdleTimeout k =>
    refine ⟨_, rfl, ?_⟩
    split
    · exact .ite (.of_rails (rails_endSession ..)) (.refl s)
    · exact .refl s
  | triggerFire n =>
    refine ⟨_, rfl, ?_⟩
    split
    · exact .ite (.of_rails (rails_trgFire ..)) (.refl s)
    · exact .refl s
  | oxQqArm q prog limit bench deadline =>
    refine ⟨_, rfl, .ite ?_ (.refl s)⟩
    cases ha : oxArm q _ s with
    | none => exact .refl s
    | some t => exact .of_rails (rails_oxArm ha)
  | relocation =>
    refine ⟨_, rfl, .ite ?_ (.refl s)⟩
    split
    · exact .refl s
    · exact .of_rails (rails_relocate ..)
  | staticLevelling ring pos =>
    refine ⟨_, rfl, .ite ?_ (.refl s)⟩
    split
    · exact .ite (.of_rails (rails_onRec ..)) (.refl s)
    · exact .refl s
  | _ => exact ⟨_, rfl, .of_rails (by simp)⟩

/-- Settles O3: a command in front is executed on the queue's rest, an idle step leaves the queue empty, and both keep the order
of the rails. -/
theorem stepKeepsQueueAndRails : Obligations.StepKeepsQueueAndRails := by
  unfold Obligations.StepKeepsQueueAndRails
  intro s
  cases hq : s.pending with
  | nil =>
    obtain ⟨hk, ho⟩ := Kept.of_rails (rails_idleStep s)
    exact ⟨idleStep s, by rw [step, hq], hk.trans hq, ho⟩
  | cons c rest =>
    obtain ⟨t, he, hk, ho⟩ := exec_kept c { s with pending := rest }
    exact ⟨t, by rw [step, hq]; exact he, hk, ho⟩

end Sys2Proof.Machine
end

section
/-! The power-fail latch: O6. -/

namespace Sys2Proof.Machine

/-! ### The latch (R89, R90) -/

/-- PFAIL_N falls in a part that is not held in reset: its cause is latched (R89). -/
theorem exec_pfailNFall {s : State} (hp : s.power.phase ≠ .porLow) (hn : s.power.pfailN = true) :
    exec .pfailNFall s = .next (latchCause 0 { s with power := { s.power with pfailN := false } }) :=
  congrArg Host.Outcome.next (if_neg (by simp [hp, hn]))

/-- What a cause makes of the latch: FIRST and the time where the incident begins with FIRST clear, OVF where FIRST is still set,
nothing of these where the incident is open (R90). -/
theorem latchCause_latch (b : Nat) (s : State) :
    (s.power.pfIncident = false → s.power.pfFirst = 0 → (latchCause b s).power.pfFirst = b + 1 ∧
      (latchCause b s).power.pfOnt = ontAon s ∧ (latchCause b s).power.pfOvf = s.power.pfOvf) ∧
    (s.power.pfIncident = true → (latchCause b s).power.pfFirst = s.power.pfFirst ∧
      (latchCause b s).power.pfOnt = s.power.pfOnt ∧ (latchCause b s).power.pfOvf = s.power.pfOvf) ∧
    (s.power.pfIncident = false → s.power.pfFirst ≠ 0 → (latchCause b s).power.pfOvf = true ∧
      (latchCause b s).power.pfFirst = s.power.pfFirst ∧ (latchCause b s).power.pfOnt = s.power.pfOnt) := by
  refine ⟨fun hi hf => ?_, fun hi => ?_, fun hi hf => ?_⟩
  · simp [latchCause, hi, hf]
  · simp [latchCause, hi]
  · simp [latchCause, hi, hf]

/-- Settles O6: PFAIL_N's fall latches its cause, and the quiet time and a write to FIRST clear the latch. That P1 of EV_POWER_PFAIL
is the latch and P2 and P3 are PFAIL_ONT rests on log 8. -/
theorem powerFailLatch : Obligations.PowerFailLatch := by
  unfold Obligations.PowerFailLatch
  refine ⟨fun s hp hn => ?fall, fun s => rfl, fun s hw hn hc => ?quiet, fun s hw => ?clear⟩
  case fall =>
    refine ⟨_, exec_pfailNFall hp hn, ?_⟩
    obtain ⟨first, later, again⟩ := latchCause_latch 0 { s with power := { s.power with pfailN := false } }
    obtain ⟨c, f, o, t, e, hb⟩ := latchCause_frame 0 { s with power := { s.power with pfailN := false } }
    rw [e] at first later again ⊢
    exact ⟨rfl, hb, rfl, first, later, again, rfl, rfl, rfl, rfl⟩
  case quiet => exact congrArg Host.Outcome.next (if_pos (by simp [hw, hn, hc]))
  case clear => exact ⟨_, congrArg Host.Outcome.next (if_pos hw), rfl, rfl, rfl, rfl, rfl⟩

end Sys2Proof.Machine
end

section
/-! SUPPORT. One idle step and the RTC: what the period of 125 MHz leaves of it, and how far a crystal edge moves the reading
(R342, R350, R351). -/

namespace Sys2Proof.Machine

/-- What each turn of a fold leaves, the fold leaves. -/
theorem foldl_keeps {α β : Type} (g : State → β) {f : State → α → State} (h : ∀ s a, g (f s a) = g s) (l : List α) (s : State) :
    g (l.foldl f s) = g s := by
  induction l generalizing s with
  | nil => rfl
  | cons a l ih => rw [List.foldl_cons, ih, h]

/-! ### The period of 125 MHz -/

theorem loopEvent_rtc_power (n : Nat) (s : State) :
    (loopEvent n s).rtc = s.rtc ∧ (loopEvent n s).power = s.power := by
  unfold loopEvent
  dsimp only
  split <;> simp

theorem axisEvent_rtc_power (n : Nat) (s : State) :
    (axisEvent n s).rtc = s.rtc ∧ (axisEvent n s).power = s.power := by
  unfold axisEvent
  dsimp only
  split <;> simp

theorem changesReported_rtc_power (s : State) :
    (changesReported s).rtc = s.rtc ∧ (changesReported s).power = s.power := by
  unfold changesReported
  dsimp only
  constructor
  · rw [foldl_keeps State.rtc fun s n => (axisEvent_rtc_power n s).1, foldl_keeps State.rtc fun s n => (loopEvent_rtc_power n s).1]
  · rw [foldl_keeps State.power fun s n => (axisEvent_rtc_power n s).2,
      foldl_keeps State.power fun s n => (loopEvent_rtc_power n s).2]

/-- The network time unit's period leaves the RTC and its crystal. -/
theorem netClock_rtc (s : State) : (netClock s).rtc = s.rtc ∧ (netClock s).power.xtal32 = s.power.xtal32 := by
  unfold netClock
  split
  · obtain ⟨hr, hp⟩ := changesReported_rtc_power
      { s with time := ontTick s.time, power := { s.power with netTick := s.power.netTick + 1 } }
    exact ⟨hr, by rw [hp]⟩
  · exact ⟨rfl, rfl⟩

/-- The state that a crystal edge meets has the same RTC as that before the idle step, and the same crystal. Outside reset the idle
step is the period alone, or the edge after it (R342). -/
theorem idleTick_rtc (s : State) :
    (idleTick s).rtc = s.rtc ∨ ∃ u : State, idleTick s = rtcEdge u ∧ u.rtc = s.rtc ∧ u.power.xtal32 = s.power.xtal32 := by
  obtain ⟨hr, hx⟩ := netClock_rtc s
  unfold idleTick aonClock
  dsimp only
  split
  · exact .inl rfl
  · split
    · exact .inl hr
    · exact .inr ⟨_, rfl, hr, hx⟩

/-- A step that takes no command is one idle tick (log 2). -/
theorem step_idle {s t : State} (hq : s.pending = []) (hm : mailDue s = none) (h : step s = .next t) : t = idleTick s := by
  rw [step, hq, idleStep, hm] at h
  exact (Host.Outcome.next.inj h).symm

/-! ### The crystal edge -/

theorem almRecord_rtcTime (n : Nat) (s : State) : (almRecord n s).rtc.time = s.rtc.time := by
  unfold almRecord
  split
  · rfl
  · split
    · rfl
    · split
      · rw [raise_rtc]; rfl
      · rfl

theorem almFire_rtcTime (n k : Nat) (late : Bool) (s : State) : (almFire n k late s).rtc.time = s.rtc.time := by
  unfold almFire
  split
  · rfl
  · rw [almRecord_rtcTime, latchWake_rtc]; rfl

theorem almEvaluate_rtcTime (now n : Nat) (s : State) : (almEvaluate now n s).rtc.time = s.rtc.time := by
  unfold almEvaluate
  split
  · rfl
  · dsimp only
    split
    · exact almFire_rtcTime ..
    · rfl

/-- An alarm that fires leaves the reading (R351). -/
theorem rtcAlarm_rtcTime (n : Nat) (s : State) : (rtcAlarm n s).rtc.time = s.rtc.time := by
  unfold rtcAlarm
  split
  · rfl
  · split
    · split
      · exact almFire_rtcTime ..
      · exact almEvaluate_rtcTime ..
    · rfl

theorem rtcAdd_within {k : Nat} {t : RtcTime} (h : t.tick + k < 32768) : rtcAdd k t = { t with tick := t.tick + k } := by
  rw [rtcAdd]
  exact if_pos h

/-- Ahead of a second's last two ticks a crystal edge moves the reading by none, one or two ticks (R342). -/
theorem rtcEdge_rtcTime {s : State} (h : s.rtc.time.tick + 2 < 32768) :
    ∃ k, k ≤ 2 ∧ (rtcEdge s).rtc.time = { s.rtc.time with tick := s.rtc.time.tick + k } := by
  have inside {t : RtcTime} (ht : t.tick < 32767) : rtcEndReached t = false := by
    simp only [rtcEndReached, beq_eq_false_iff_ne.mpr (show t.tick ≠ 32767 by omega), Bool.false_and]
  unfold rtcEdge
  split
  · exact ⟨0, by omega, rfl⟩
  · rw [if_neg (by simp [inside (show s.rtc.time.tick < 32767 by omega)])]
    extract_lets acc k
    have hk : k ≤ 2 := by simp only [k]; split <;> [omega; (split <;> omega)]
    refine ⟨k, hk, ?_⟩
    rw [rtcAlarm_rtcTime, rtcAlarm_rtcTime, onRtc_rtc]
    have later : rtcEndReached (rtcAdd (k - 1) s.rtc.time) = false := by
      rw [rtcAdd_within (by omega)]
      exact inside (show s.rtc.time.tick + (k - 1) < 32767 by omega)
    rw [if_neg (by simp [later])]
    exact rtcAdd_within (by omega)

theorem rtcEdge_absent {s : State} (h : s.power.xtal32 = false) : rtcEdge s = s := by
  rw [rtcEdge]
  exact if_pos (by simp [rtcRunning, h])

/-! ### The crystal's loss -/

theorem rtcStat_xtalSlip {s : State} (h : s.rtc.xtalSlip = true) : bit (rtcStat s) 3 = true := by
  simp only [rtcStat, flagsNat, h, bit, b2n]
  cases rtcRunning s <;> cases s.rtc.dateInvalid <;> cases s.rtc.lost <;> simp <;> omega

end Sys2Proof.Machine
end

section
/-! The 32.768 kHz crystal: O7. -/

namespace Sys2Proof.Machine

/-- The RTC and the power controller once the crystal is lost (R88, R342). -/
def xtalLost (s : State) : State :=
  { s with power := { s.power with xtal32 := false }, rtc := { s.rtc with xtalSlip := true } }

theorem exec_xtal32Fail {s : State} (hp : s.power.phase ≠ .porLow) :
    exec .xtal32Fail s = .next (raise 0x0417 18 0 0 0 (xtalLost s)) :=
  congrArg Host.Outcome.next (if_neg (by simp [hp]))

/-- Settles O7: the crystal's loss is one record beside its two flags; an idle step is at most one crystal edge. That a step
without a command is one period of 125 MHz, with an edge where one falls in it, is the model's choice (log 2). -/
theorem crystal32 : Obligations.Crystal32 := by
  unfold Obligations.Crystal32
  refine ⟨fun s hp => ?lost, fun s => rfl, fun s t hq hm hx ht => ?absent, fun s t hq hm ht htick => ?moved⟩
  case lost =>
    refine ⟨_, exec_xtal32Fail hp, ?_, ?_, rtcStat_xtalSlip ?_, ?_, ?_, fun hw _ hb => ?_⟩
    · rw [rtcRunning, raise_power, raise_rtc]
      exact Bool.and_false _
    · rw [raise_rtc]; rfl
    · rw [raise_rtc]; rfl
    · rw [raise_rtc]; rfl
    · rw [raise_time]; rfl
    · rw [raise, raiseBy_runs false _ _ _ _ _ _ (show writerRuns (xtalLost s) = true from hw)]
      show (writeRec false 0x0417 18 0 0 0 s.time.ont s.recorder).buf.length = _
      rw [writeRec_room _ _ _ _ _ _ _ _ hb]
      exact List.length_append
  case absent =>
    rw [step_idle hq hm ht]
    obtain h | ⟨u, e, hr, hux⟩ := idleTick_rtc s
    · exact h
    · rw [e, rtcEdge_absent (hux.trans hx), hr]
  case moved =>
    rw [step_idle hq hm ht]
    obtain h | ⟨u, e, hr, -⟩ := idleTick_rtc s
    · rw [h]
      exact ⟨rfl, le_rfl, by omega⟩
    · obtain ⟨k, hk, ht⟩ := rtcEdge_rtcTime (hr ▸ htick)
      rw [e, ht, hr]
      exact ⟨rfl, Nat.le_add_right .., Nat.add_le_add_left hk _⟩

end Sys2Proof.Machine
end

section
/-! SUPPORT. Operating points: the state in which a command runs, the rules of POWER_OPP_SET, of PMIC_VACK and of a relock
(R82 to R86). -/

namespace Sys2Proof.Machine

/-! ### The state in which a command runs, and the power controller -/

/-- Taking a command changes of the security engine what its session counts, beside what the ring does (R137). -/
theorem takenState_frame (cmd : Nat) (m : Mail) (s : State) :
    takenState cmd m s = { ring cmd m s with sec := (takenState cmd m s).sec } := by
  unfold takenState sessionAccept setSession
  split
  · split <;> rfl
  · rfl

theorem takenState_power (cmd : Nat) (m : Mail) (s : State) : (takenState cmd m s).power = (ring cmd m s).power := by
  rw [takenState_frame]

theorem takenState_ox (cmd : Nat) (m : Mail) (s : State) : (takenState cmd m s).ox = s.ox := by
  rw [takenState_frame]
  exact ring_ox cmd m s

theorem wakeAct_clocks (p : PowerSt) :
    (wakeAct p).clkLock = p.clkLock ∧ (wakeAct p).clkSpread = p.clkSpread ∧ (wakeAct p).spreadNow = p.spreadNow ∧
      (wakeAct p).aonTick = p.aonTick := by
  unfold wakeAct
  repeat' split
  all_goals exact ⟨rfl, rfl, rfl, rfl⟩

theorem idleExit_clocks (s : State) : (idleExit s).power.clkLock = s.power.clkLock ∧
    (idleExit s).power.clkSpread = s.power.clkSpread ∧ (idleExit s).power.spreadNow = s.power.spreadNow ∧
    (idleExit s).power.aonTick = s.power.aonTick := by
  unfold idleExit
  split <;> exact ⟨rfl, rfl, rfl, rfl⟩

/-- A wake leaves the PLLs, their spread and the tick counter of AON (R74, R77). -/
theorem latchWake_clocks (n : Nat) (s : State) : (latchWake n s).power.clkLock = s.power.clkLock ∧
    (latchWake n s).power.clkSpread = s.power.clkSpread ∧ (latchWake n s).power.spreadNow = s.power.spreadNow ∧
    (latchWake n s).power.aonTick = s.power.aonTick := by
  obtain ⟨h1, h2, h3, h4⟩ := idleExit_clocks s
  rw [← h1, ← h2, ← h3, ← h4]
  unfold latchWake
  generalize idleExit s = u
  dsimp only
  split
  · exact ⟨rfl, rfl, rfl, rfl⟩
  · split
    · exact wakeAct_clocks _
    · exact ⟨rfl, rfl, rfl, rfl⟩

theorem ring_clocks (cmd : Nat) (m : Mail) (s : State) : (ring cmd m s).power.clkLock = s.power.clkLock ∧
    (ring cmd m s).power.clkSpread = s.power.clkSpread ∧ (ring cmd m s).power.spreadNow = s.power.spreadNow ∧
    (ring cmd m s).power.aonTick = s.power.aonTick := by
  unfold ring
  split
  · exact ⟨rfl, rfl, rfl, rfl⟩
  · exact latchWake_clocks 11 s

theorem takenState_clkLock (cmd : Nat) (m : Mail) (s : State) : (takenState cmd m s).power.clkLock = s.power.clkLock := by
  rw [takenState_power, (ring_clocks cmd m s).1]

/-- Taking a command leaves the points of both rails. -/
theorem takenState_points (cmd : Nat) (m : Mail) (s : State) :
    (takenState cmd m s).power.oppOx = s.power.oppOx ∧ (takenState cmd m s).power.voltOx = s.power.voltOx ∧
      (takenState cmd m s).power.oppSoc = s.power.oppSoc ∧ (takenState cmd m s).power.voltSoc = s.power.voltSoc := by
  have h := (Prod.mk.inj (rails_ring cmd m s)).2
  rw [← takenState_power cmd m s] at h
  simpa only [railPoints, points, Prod.mk.injEq] using h

/-! ### POWER_OPP_SET -/

/-- A point of 3 is refused (R82). -/
theorem powerOppSet_range {b : Bytes} (s : State) (hl : b.length = 4) (h : bits (byteField b 0 4) 4 2 = 3) :
    powerOppSet b s = oppRefuse s 0x0405 := by
  rw [powerOppSet, if_neg (by simp [hl]), if_pos (.inr (.inl h))]

/-- A payload whose points are both below 3 and that has no other bit set. -/
def OppPayload (b : Bytes) (soc ox : Nat) : Prop := b.length = 4 ∧ byteField b 0 4 = soc + 16 * ox ∧ soc < 3 ∧ ox < 3

/-- A request during a change is refused (R83). -/
theorem powerOppSet_busy {b : Bytes} {soc ox : Nat} {s : State} (hb : OppPayload b soc ox) (h : s.power.opp ≠ none) :
    powerOppSet b s = oppRefuse s 0x0401 := by
  obtain ⟨hl, hv, hs, ho⟩ := hb
  have e1 : bits (soc + 16 * ox) 0 2 = soc := by simp only [bits]; omega
  have e2 : bits (soc + 16 * ox) 4 2 = ox := by simp only [bits]; omega
  rw [powerOppSet, if_neg (by simp [hl])]
  simp only [hv, e1, e2]
  rw [if_neg (by omega), if_pos (Option.isSome_iff_ne_none.mpr h)]

/-- With VDD_SOC at the point asked for, the change is that of VDD_OX (R83). -/
theorem powerOppSet_ox {b : Bytes} {soc ox : Nat} {s : State} (hb : OppPayload b soc ox) (h : s.power.opp = none)
    (hsoc : s.power.oppSoc = soc) (hh : s.mgmt.hotHold = false) :
    powerOppSet b s =
      done (oxRelock { s with power := oppStart true ox s.power, mgmt := { s.mgmt with hostOx := ox } }) [] := by
  obtain ⟨hl, hv, hs, ho⟩ := hb
  have e1 : bits (soc + 16 * ox) 0 2 = soc := by simp only [bits]; omega
  have e2 : bits (soc + 16 * ox) 4 2 = ox := by simp only [bits]; omega
  rw [powerOppSet, if_neg (by simp [hl])]
  simp only [hv, e1, e2]
  rw [if_neg (by omega), if_neg (by simp [h]), if_neg (by simp [hh])]
  simp [onPower, onMgmt, hsoc]

/-- Raising the point of VDD_OX asks for the voltage first (R83). -/
theorem oppStart_raise {new : Nat} {p : PowerSt} (h : p.oppOx < new) :
    oppStart true new p = { p with opp := some ⟨true, p.oppOx, new, true, false⟩, pmicVreq := true } := by
  simp [oppStart, oppPoint, h.ne, h]

/-- Lowering the point of VDD_OX orders the relock first (R83). -/
theorem oppStart_lower {new : Nat} {p : PowerSt} (h : new < p.oppOx) :
    oppStart true new p = { p with opp := some ⟨true, p.oppOx, new, false, false⟩, oxRelockDue := true } := by
  simp [oppStart, oppPoint, relock, h.ne', show ¬ p.oppOx < new by omega]

/-- No job is inside a schedule block (R86). -/
def noBlock (s : State) : Bool := s.ox.q.all (fun q => q.state != 2 && q.state != 4 && q.state != 5)

/-- A relock that begins changes the lock of the OX PLL and that it is due, and nothing else (R86). -/
theorem oxRelock_frame (s : State) :
    ∃ d l, oxRelock s = { s with power := { s.power with oxRelockDue := d, clkLock := l } } := by
  unfold oxRelock
  split <;> exact ⟨_, _, rfl⟩

/-- A relock that is due begins between schedule blocks (R86). -/
theorem oxRelock_due {s : State} (h : s.power.oxRelockDue = true) :
    (noBlock s = true →
      oxRelock s = { s with power := { s.power with oxRelockDue := false, clkLock := s.power.clkLock &&& 0x1D } }) ∧
    (noBlock s = false → oxRelock s = s) := by
  constructor
  · intro hb
    exact if_pos (Bool.and_eq_true_iff.mpr ⟨h, hb⟩)
  · intro hb
    exact if_neg (by rw [h, Bool.true_and]; exact ne_true_of_eq_false hb)

theorem oxRelock_notDue {s : State} (h : s.power.oxRelockDue = false) : oxRelock s = s := by
  rw [oxRelock, h]
  rfl

theorem bit_land_clear (l : Nat) : bit (l &&& 0x1D) 1 = false := by
  rw [bit_eq_testBit, Nat.testBit_and]
  exact Bool.and_false _

theorem bit_lor_two_pow (l k : Nat) : bit (l ||| 2 ^ k) k = true := by
  rw [bit_eq_testBit, Nat.testBit_or, Nat.testBit_two_pow_self, Bool.or_true]

/-! ### PMIC_VACK and the relock -/

theorem setVolt_allowed {ox : Bool} {n : Nat} {p : PowerSt} (h : oppPoint p ox ≤ n) :
    setVolt ox n p = if ox then { p with voltOx := n } else { p with voltSoc := n } := if_pos h

theorem setPoint_allowed {ox : Bool} {n : Nat} {p : PowerSt} (h : n ≤ (if ox then p.voltOx else p.voltSoc)) :
    setPoint ox n p = if ox then { p with oppOx := n } else { p with oppSoc := n } := if_pos h

/-- The acknowledgement of a raise drops the request and orders the relock (R83). -/
theorem vackRise_raise {p : PowerSt} {c : OppChange} (h : p.opp = some c) (ha : c.awaitAck = true) (hr : c.retry = false)
    (hc : c.old < c.new) :
    vackRise p = relock c.ox { setVolt c.ox c.new p with pmicVreq := false, opp := some { c with awaitAck := false } } := by
  simp [vackRise, h, ha, hr, hc]

/-- The lock that a change waits for (R83): its frequency is taken. -/
theorem pllLocked_change {p : PowerSt} {c : OppChange} (h : p.opp = some c) (ha : c.awaitAck = false)
    (hd : p.oxRelockDue = false) : pllLocked (if c.ox then 1 else 0) p =
      let q := setPoint c.ox c.new (pllStart (if c.ox then 1 else 0) p)
      if c.old < c.new then oppOver q else { q with opp := some { c with awaitAck := true }, pmicVreq := true } := by
  have hs (k : Nat) : (pllStart k p).opp = some c := h
  have hw (k : Nat) : (pllStart k p).oxRelockDue = false := hd
  cases hox : c.ox <;> simp [pllLocked, hs, hw, ha, hox]

theorem oppOver_last {p : PowerSt} (h : p.oppNext = none) : oppOver p = { p with opp := none, pmicVreq := false } := by
  rw [oppOver, h]

/-- Jobs that start or resume leave the power controller (R23, R224). -/
theorem oxKick_power (s : State) : (oxKick s).power = s.power := by
  unfold oxKick oxRun oxResume onQ
  repeat' split
  all_goals simp

theorem exec_pllRelockDone {n : Nat} {s : State} (hp : s.power.phase = .up) (hn : n < 5) :
    exec (.pllRelockDone n) s = .next (oxKick (oxRelock (onPower (pllLocked n) s))) :=
  congrArg Host.Outcome.next (if_pos (by simp [hp, hn]))

/-- A lock that leaves no relock due is all that happens to the power controller. -/
theorem exec_pllRelockDone_power {n : Nat} {s : State} (hp : s.power.phase = .up) (hn : n < 5)
    (hd : (pllLocked n s.power).oxRelockDue = false) :
    ∃ t, exec (.pllRelockDone n) s = .next t ∧ t.power = pllLocked n s.power := by
  refine ⟨_, exec_pllRelockDone hp hn, ?_⟩
  rw [oxRelock_notDue (by rw [onPower_power]; exact hd), oxKick_power, onPower_power]

/-- The lock that ends a raise (R83). -/
theorem pllLocked_raised {p : PowerSt} {c : OppChange} (h : p.opp = some c) (ha : c.awaitAck = false)
    (hd : p.oxRelockDue = false) (hlt : c.old < c.new) (hle : c.new ≤ (if c.ox then p.voltOx else p.voltSoc))
    (hn : p.oppNext = none) :
    let k := if c.ox then 1 else 0
    let q := if c.ox then { pllStart k p with oppOx := c.new } else { pllStart k p with oppSoc := c.new }
    pllLocked k p = { q with opp := none, pmicVreq := false } := by
  have e := pllLocked_change h ha hd
  rw [setPoint_allowed (by exact hle), if_pos hlt, oppOver_last (by split <;> exact hn)] at e
  exact e

/-- The lock at which a lowering asks for its voltage (R83). -/
theorem pllLocked_lowered {p : PowerSt} {c : OppChange} (h : p.opp = some c) (ha : c.awaitAck = false)
    (hd : p.oxRelockDue = false) (hlt : c.new < c.old) (hle : c.new ≤ (if c.ox then p.voltOx else p.voltSoc)) :
    let k := if c.ox then 1 else 0
    let q := if c.ox then { pllStart k p with oppOx := c.new } else { pllStart k p with oppSoc := c.new }
    pllLocked k p = { q with opp := some { c with awaitAck := true }, pmicVreq := true } := by
  have e := pllLocked_change h ha hd
  rw [setPoint_allowed (by exact hle), if_neg (show ¬ c.old < c.new by omega)] at e
  exact e

end Sys2Proof.Machine
end

section
/-! Operating points: O9. -/

namespace Sys2Proof.Machine

/-- Settles O9: POWER_OPP_SET starts a change or refuses it; PMIC_VACK, the relock and the timeout each carry it one step on. The
payload's layout rests on log 30. -/
theorem operatingPoints : Obligations.OperatingPoints := by
  unfold Obligations.OperatingPoints
  refine ⟨fun m s ht hl hv hn hsoc hox hh => ?raise, fun m s ht hl hv hn hsoc hox hh => ?lower, fun m s ht hl h3 => ?range,
    fun m s ht hl hv hn => ?busy, fun s c hp hc ha hr hlt hle => ?vack, fun s c hp hc ha hlt hle hnx hd => ?relockRaise,
    fun s c hp hc ha hlt hle hd => ?relockLower, fun s c hp hc ha hr => ?timeout⟩
  case raise =>
    have run := mailOut_answers ht (powerOppSet_ox (soc := 2) (ox := 2) ⟨hl, hv, by omega, by omega⟩ hn hsoc hh)
    obtain ⟨eox, evox, -⟩ := takenState_points 0x0411 m s
    rw [oppStart_raise hox] at run
    obtain ⟨d, l, e⟩ := oxRelock_frame _
    exact ⟨_, run, by rw [e], by rw [e], by rw [e], by rw [e]; exact eox, by rw [e]; exact evox⟩
  case lower =>
    have run := mailOut_answers ht (powerOppSet_ox (soc := 2) (ox := 0) ⟨hl, hv, by omega, by omega⟩ hn hsoc hh)
    obtain ⟨eox, evox, -⟩ := takenState_points 0x0411 m s
    have eq := takenState_ox 0x0411 m s
    have el := takenState_clkLock 0x0411 m s
    rw [oppStart_lower hox] at run
    generalize takenState 0x0411 m s = v at eox evox eq el run ⊢
    generalize hw : ({ v with
      power := { v.power with opp := some ⟨true, v.power.oppOx, 0, false, false⟩, oxRelockDue := true }
      mgmt := { v.mgmt with hostOx := 0 } } : State) = w at run
    obtain ⟨now, waits⟩ := oxRelock_due (s := w) (by rw [← hw])
    have hq : noBlock w = s.ox.q.all (fun q => q.state != 2 && q.state != 4 && q.state != 5) := by
      rw [← eq, ← hw]; rfl
    refine ⟨_, run, fun h => ?_, fun h => ?_, ?_⟩
    · rw [now (hq.trans h)]
      exact ⟨bit_land_clear _, rfl⟩
    · rw [waits (hq.trans h), ← hw]
      exact ⟨el, rfl⟩
    · obtain ⟨d, l, e⟩ := oxRelock_frame w
      rw [e, ← hw]
      exact ⟨rfl, rfl, eox, evox⟩
  case range =>
    obtain ⟨eox, -, esoc, -⟩ := takenState_points 0x0411 m s
    exact ⟨_, mailOut_refuses ht (powerOppSet_range _ hl h3), rfl, eox, esoc⟩
  case busy =>
    exact ⟨_, mailOut_refuses ht (powerOppSet_busy (soc := 2) (ox := 2) ⟨hl, hv, by omega, by omega⟩ hn), rfl, rfl⟩
  case vack =>
    have run : exec .pmicVackRise s = .next (oxRelock (onPower vackRise s)) := congrArg Host.Outcome.next (if_pos (by simp [hp]))
    obtain ⟨d, l, e⟩ := oxRelock_frame (onPower vackRise s)
    rw [e] at run
    refine ⟨_, run, ?_⟩
    rw [onPower_power, vackRise_raise hc ha hr hlt, setVolt_allowed hle]
    cases hox : c.ox <;> simp [relock, oppPoint]
  case relockRaise =>
    have hk : (if c.ox then 1 else 0) < 5 := by split <;> omega
    have e := pllLocked_raised hc ha hd hlt hle hnx
    obtain ⟨t, run, ht⟩ := exec_pllRelockDone_power hp hk (by rw [e]; cases c.ox <;> exact hd)
    rw [e] at ht
    refine ⟨t, run, ?_⟩
    rw [ht]
    cases c.ox <;> exact ⟨rfl, rfl, bit_lor_two_pow _ _⟩
  case relockLower =>
    have hk : (if c.ox then 1 else 0) < 5 := by split <;> omega
    have e := pllLocked_lowered hc ha hd hlt hle
    obtain ⟨t, run, ht⟩ := exec_pllRelockDone_power hp hk (by rw [e]; cases c.ox <;> exact hd)
    rw [e] at ht
    refine ⟨t, run, ?_⟩
    rw [ht]
    cases c.ox <;> exact ⟨rfl, rfl, rfl, rfl, rfl⟩
  case timeout =>
    have run : exec .pmicVackTimeout s = .next (onPower (fun p => { p with opp := some { c with retry := true }, pmicVreq := true })
        (raise 0x0416 19 0 0 0 (onPower (fun p => { p with oppRc := 0x0413, pmicVreq := false }) s))) := by
      refine congrArg Host.Outcome.next ((if_pos (by simp [hp])).trans ?_)
      rw [vackTimeout, hc]
      simp [ha, hr]
    refine ⟨_, run, ?_⟩
    rw [onPower_power, raise_power, onPower_power]
    exact ⟨rfl, rfl, rfl, rfl, rfl, rfl, rfl⟩

end Sys2Proof.Machine
end

section
/-! PLLs and islands: O10. -/

namespace Sys2Proof.Machine

/-! ### PLLs (R87, R88) -/

theorem bit_sub {x n : Nat} (h : bit x n = true) : bit (x - 2 ^ n) n = false := by
  have hodd : x / 2 ^ n % 2 = 1 := by simpa [bit] using h
  have hdiv : (x - 2 ^ n) / 2 ^ n = x / 2 ^ n - 1 := by
    simpa using Nat.sub_mul_div x (2 ^ n) 1
  have heven : (x / 2 ^ n - 1) % 2 = 0 := by omega
  simp [bit, hdiv, heven]

/-- The state after a loss of lock that is reported: the PLL is counted unlocked and the time is kept. -/
def pllLost (n : Nat) (s : State) : State :=
  { s with power := { s.power with
      clkLock := s.power.clkLock - 2 ^ n, pllLoss := s.power.pllLoss.set n (some (ontAon s)) } }

/-- A loss of lock with none in the second before is reported (R88). -/
theorem pllUnlock_reported {n : Nat} {s : State} (hp : s.power.phase = .up) (hn : n < 5) (hb : bit s.power.clkLock n = true)
    (hl : ∀ l, nth none s.power.pllLoss n = some l → l + 1000000000 ≤ ontAon s) :
    pllUnlock n s = raise 0x0415 18 n 0 0 (pllLost n s) := by
  rw [pllUnlock, if_neg (by simp [hp, hb, hn])]
  cases h : nth none s.power.pllLoss n with
  | none => rfl
  | some l => exact if_neg (by simpa using hl l h)

/-- A second loss of lock within 1 s is a 25 MHz failure (R88). -/
theorem pllUnlock_again {n l : Nat} {s : State} (hp : s.power.phase = .up) (hn : n < 5) (hb : bit s.power.clkLock n = true)
    (hl : nth none s.power.pllLoss n = some l) (ht : ontAon s < l + 1000000000) :
    pllUnlock n s = railsCut 1 (latchCause 2 s) := by
  rw [pllUnlock, if_neg (by simp [hp, hb, hn]), hl]
  exact (if_pos (by simpa using ht)).trans (if_pos (.inl hp))

/-- A flag of a list is its bit of the number. -/
theorem bit_flagsNat (l : List Bool) (i : Nat) : bit (flagsNat l) i = l.getD i false := by
  induction l generalizing i with
  | nil => simp [flagsNat, bit]
  | cons b bs ih =>
    cases i with
    | zero => cases b <;> simp [flagsNat, bit, b2n]
    | succ i =>
      have hdiv : (b2n b + 2 * flagsNat bs) / 2 ^ (i + 1) = flagsNat bs / 2 ^ i := by
        rw [Nat.pow_succ', ← Nat.div_div_eq_div_mul]
        congr 1
        cases b
        · simp [b2n]
        · simp only [b2n, if_true]
          omega
      simpa [bit, flagsNat, hdiv] using ih i

theorem bit_bitsFrom {n k : Nat} (f : Nat → Bool) (h : k < n) : bit (bitsFrom 0 n f) k = f k := by
  simp [bitsFrom, bit_flagsNat, upTo, h]

/-! ### Islands (R68, R70) -/

theorem isl_setIsl_same {n : Nat} {x : IslSt} {s : State} (h : n < s.power.isl.length) : isl (setIsl n x s) n = x := by
  simp [isl, setIsl, nth, h]

theorem isl_congr {s t : State} (n : Nat) (h : s.power.isl = t.power.isl) : isl s n = isl t n := by
  rw [isl, h, isl]

/-- An island has woken: it is ON and waits no more. -/
def islandWoken (n : Nat) (s : State) : State :=
  onPower (fun p => { p with islWake := p.islWake.filter (· != n) }) (setIsl n .on s)

theorem islandOn_net (s : State) : islandOn 3 s = onPower (pllStart 2) (islandWoken 3 s) := rfl

theorem islandOn_plant (s : State) : islandOn 5 s = islandWoken 5 s := rfl

theorem islandOn_ddr (s : State) : islandOn 10 s = onPower (pllStart 3) (islandWoken 10 s) := rfl

/-- METER takes ON with the ADC PLL locked; of the rest only the converters' grid can change (R422). -/
theorem islandOn_meter (s : State) : ∃ a, islandOn 6 s = { onPower (pllStart 4) (islandWoken 6 s) with adc := a } := by
  rw [islandOn, islandWoken]
  split <;> exact ⟨_, rfl⟩

/-- The state in which an island is in OFF and the PLLs have followed it. -/
def islandOff (n : Nat) (s : State) : State :=
  pllsFollow (onPower (fun p => { p with islDown := p.islDown.filter (· != n) }) (setIsl n .off s))

/-- Only an enable of a unit of subsystem 0x07 waits for the island OX (R70). -/
theorem pending_not_ox {s : State} (h : ∀ u ∈ pendingUnits s, u.1 ≠ 7) :
    (pendingUnits s).filter (fun u => unitIsland u.1 u.2 == some 8 && !stopping s u.1 u.2) = [] := by
  refine List.filter_eq_nil_iff.mpr fun u hu => ?_
  have hne := h u hu
  have hi : unitIsland u.1 u.2 ≠ some 8 := by
    simp only [unitIsland, hne, if_false]
    split
    · simp
    · split
      · simp
      · split <;> simp
  simp [hi]

/-- OX leaves ON with nothing that waits for it: it stays in OFF (R68, R70). -/
theorem islandDown_ox {s : State} (hw : s.power.oxArmWaits = false) (h0 : (oxq s 0).state ≠ 1) (h1 : (oxq s 1).state ≠ 1)
    (hu : ∀ u ∈ pendingUnits s, u.1 ≠ 7) :
    islandDown 8 s = onPower (fun p => { p with oxArmWaits := false, oxRelockDue := false }) (islandOff 8 s) := by
  have hwaits : (pendingUnits (islandOff 8 s)).filter
      (fun u => unitIsland u.1 u.2 == some 8 && !stopping (islandOff 8 s) u.1 u.2) = [] := pending_not_ox hu
  have hdue : ((islandOff 8 s).power.oxArmWaits || (oxq (islandOff 8 s) 0).state == 1 || (oxq (islandOff 8 s) 1).state == 1)
      = false := by
    have e0 : oxq (islandOff 8 s) 0 = oxq s 0 := rfl
    have e1 : oxq (islandOff 8 s) 1 = oxq s 1 := rfl
    have ew : (islandOff 8 s).power.oxArmWaits = s.power.oxArmWaits := rfl
    simp [e0, e1, ew, hw, h0, h1]
  have hidle : islandIdle 8 (islandOff 8 s) = islandOff 8 s := by
    simp [islandIdle, islandUnits]
  have hstay : islandDown 8 s =
      (let v := islandIdle 8 (((pendingUnits (islandOff 8 s)).filter (fun u => unitIsland u.1 u.2 == some 8 &&
          !stopping (islandOff 8 s) u.1 u.2)).foldl (fun s u => pendingRun u.1 u.2 s) (islandOff 8 s))
        let due := v.power.oxArmWaits || (oxq v 0).state == 1 || (oxq v 1).state == 1
        let w := onPower (fun p => { p with oxArmWaits := false, oxRelockDue := false }) v
        if due then oxNeed w else w) := rfl
  rw [hstay, hwaits]
  simp only [List.foldl_nil, hidle, hdue]
  rfl

theorem isl_islandOff {n : Nat} {s : State} (h : n < s.power.isl.length) : isl (islandOff n s) n = .off :=
  (isl_congr (t := setIsl n .off s) n rfl).trans (isl_setIsl_same h)

/-- The PLL of OX stops with OX (R87). -/
theorem islandOff_ox_lock {s : State} (h : s.power.isl.length = 12) : bit (islandOff 8 s).power.clkLock 1 = false := by
  have hn : pllNeeded (onPower (fun p => { p with islDown := p.islDown.filter (· != 8) }) (setIsl 8 .off s)) 1 = false := by
    have e : isl (onPower (fun p => { p with islDown := p.islDown.filter (· != 8) }) (setIsl 8 .off s)) 8 = .off :=
      (isl_congr (t := setIsl 8 .off s) 8 rfl).trans (isl_setIsl_same (by omega))
    simp [pllNeeded, e]
  rw [islandOff, pllsFollow, onPower_power, bit_bitsFrom _ (by omega), hn, Bool.and_false]

/-- An island whose wake is over is ON, with the PLL it needs locked (R68, R87). -/
theorem islandOn_plain {n : Nat} {s : State} (hn : n = 3 ∨ n = 5 ∨ n = 6 ∨ n = 10) (hlen : s.power.isl.length = 12) :
    isl (islandOn n s) n = .on ∧ (islandOn n s).power.islWake = s.power.islWake.filter (· != n) ∧
      (islandOn n s).host = s.host ∧ (islandOn n s).mgmt = s.mgmt ∧ (n = 10 → bit (islandOn n s).power.clkLock 3 = true) ∧
      (n = 3 → bit (islandOn n s).power.clkLock 2 = true) ∧ (n = 6 → bit (islandOn n s).power.clkLock 4 = true) := by
  have hon : isl (setIsl n .on s) n = .on := isl_setIsl_same (by omega)
  obtain rfl | rfl | rfl | rfl := hn
  · rw [islandOn_net]
    exact ⟨hon, rfl, rfl, rfl, nofun, fun _ => bit_lor_two_pow _ 2, nofun⟩
  · rw [islandOn_plant]
    exact ⟨hon, rfl, rfl, rfl, nofun, nofun, nofun⟩
  · obtain ⟨a, e⟩ := islandOn_meter s
    rw [e]
    exact ⟨hon, rfl, rfl, rfl, nofun, nofun, fun _ => bit_lor_two_pow _ 4⟩
  · rw [islandOn_ddr]
    exact ⟨hon, rfl, rfl, rfl, fun _ => bit_lor_two_pow _ 3, nofun, nofun⟩

theorem exec_pllUnlock (n : Nat) (s : State) : exec (.pllUnlock n) s = .next (pllUnlock n s) := rfl

theorem exec_islandWakeDone {n : Nat} {s : State} (hp : s.power.phase = .up) (hw : s.power.islWake.contains n = true) :
    exec (.islandWakeDone n) s = .next (islandOn n s) :=
  congrArg Host.Outcome.next (if_pos (by rw [hp, hw]; rfl))

theorem exec_islandPowerdownDone {n : Nat} {s : State} (hp : s.power.phase = .up) (hd : s.power.islDown.contains n = true) :
    exec (.islandPowerdownDone n) s = .next (islandDown n s) :=
  congrArg Host.Outcome.next (if_pos (by rw [hp, hd]; rfl))

theorem exec_oxIdleHoldExpiry {s : State} (hr : inRun s = true) (hi : isl s 8 = .on) (hd : s.power.islDown.contains 8 = false)
    (h0 : (oxq s 0).state = 0) (h1 : (oxq s 1).state = 0) :
    exec .oxIdleHoldExpiry s = .next (onPower (fun p => { p with islDown := 8 :: p.islDown }) s) :=
  congrArg Host.Outcome.next (if_pos (by rw [hr, hi, hd, h0, h1]; rfl))

theorem exec_oxWakeLead {s : State} (hs : solving s = true) (he : enabled s 7 0 = true) :
    exec .oxWakeLead s = .next (oxNeed s) :=
  congrArg Host.Outcome.next (if_pos (by rw [hs, he]; rfl))

/-- OX is asked back (R70). -/
theorem oxNeed_asked {s : State} (hi : isl s 8 = .off) (hd : s.power.islDown.contains 8 = false) :
    (oxNeed s).power.islWake.contains 8 = true ∧ (oxNeed s).power.isl = s.power.isl ∧ (oxNeed s).host = s.host := by
  rw [oxNeed, if_neg (by rw [hd]; exact Bool.false_ne_true)]
  split
  · next h => exact ⟨h.resolve_left (by rw [hi]; exact IslSt.noConfusion), rfl, rfl⟩
  · exact ⟨by simp, rfl, rfl⟩

end Sys2Proof.Machine
end

section
/-! PLLs and islands: O10. -/

namespace Sys2Proof.Machine

/-- Settles O10: a loss of lock is reported or cuts the rails; an island takes ON, OFF or its request by what its command says. -/
theorem pllsAndIslands : Obligations.PllsAndIslands := by
  unfold Obligations.PllsAndIslands
  refine ⟨fun s n hp hn hb hl => ?reported, fun s n hp hn hlen hb hnone => ?first,
    fun s n l hp hn hb hl ht => ?again, fun s n hp hw hn hlen => ?wakes, fun s hp hd hlen hw h0 h1 hu => ?down,
    fun s hr hi hd h0 h1 => ?idle, fun s hs he hi hd => ?lead⟩
  case reported =>
    rw [exec_pllUnlock, pllUnlock_reported hp hn hb hl]
    rfl
  case first =>
    rw [exec_pllUnlock, pllUnlock_reported hp hn hb (by simp [hnone])]
    refine ⟨_, rfl, ?_⟩
    rw [raise_power]
    exact ⟨bit_sub hb, by simp [pllLost, nth, hlen, hn], hp, rfl⟩
  case again =>
    obtain ⟨c, f, o, t, e, hc⟩ := latchCause_frame 2 s
    rw [exec_pllUnlock, pllUnlock_again hp hn hb hl ht, e]
    exact ⟨_, rfl, rfl, rfl, hc, rfl⟩
  case wakes => exact ⟨_, exec_islandWakeDone hp hw, islandOn_plain hn hlen⟩
  case down =>
    have run := exec_islandPowerdownDone hp hd
    rw [islandDown_ox hw h0 h1 hu] at run
    refine ⟨_, run, ?_⟩
    rw [onPower_power, onPower_host, onPower_ox, islandOff_ox_lock hlen]
    exact ⟨(isl_congr (t := islandOff 8 s) 8 rfl).trans (isl_islandOff (by omega)), rfl, rfl, rfl, rfl⟩
  case idle => exact exec_oxIdleHoldExpiry hr hi hd h0 h1
  case lead => exact ⟨_, exec_oxWakeLead hs he, oxNeed_asked hi hd⟩

end Sys2Proof.Machine
end

section
/-! SUPPORT. The spread of the clocks and the wake by a frame (R74, R75, R87). -/

namespace Sys2Proof.Machine

/-! ### CLK_SPREAD (R87, R91) -/

theorem powerSpreadSet_written {b : Bytes} {s : State} (hl : b.length = 4) (hv : byteField b 0 4 < 16) :
    powerSpreadSet b s = done (oxRelock (onPower (spreadSet (byteField b 0 4)) s)) [] := by
  rw [powerSpreadSet, if_neg (by simp [hl]), if_neg (by omega)]

/-- A write of CLK_SPREAD changes, beside the register, only what is to be relocked (R87). -/
theorem spreadSet_frame (v : Nat) (p : PowerSt) :
    ∃ l d, spreadSet v p = { p with clkSpread := v, clkLock := l, oxRelockDue := d } ∧
      l = if bit p.clkLock 0 && spreadOf v 0 != bits p.spreadNow 0 2 then p.clkLock &&& 0x1E else p.clkLock := by
  have soc (q : PowerSt) : relock false q = { q with clkLock := q.clkLock &&& 0x1E } := rfl
  have ox (q : PowerSt) : relock true q = { q with oxRelockDue := true } := rfl
  simp only [spreadSet, soc, ox]
  split <;> split <;> exact ⟨_, _, rfl, rfl⟩

theorem bit_zero_land_relock (l : Nat) : bit (l &&& 0x1E) 0 = false := by
  rw [bit_eq_testBit, Nat.testBit_and]
  exact Bool.and_false _

/-- The relock of the OX PLL leaves the lock of the SYS PLL. -/
theorem oxRelock_sysLock (s : State) : bit (oxRelock s).power.clkLock 0 = bit s.power.clkLock 0 := by
  unfold oxRelock
  split
  · simp only [bit_eq_testBit, Nat.testBit_and]
    exact Bool.and_true _
  · rfl

/-- The SYS PLL is relocked where its spread in effect differs, and else keeps its lock (R87). -/
theorem spreadSet_sysLock (v : Nat) (p : PowerSt) :
    (spreadOf v 0 ≠ bits p.spreadNow 0 2 → bit (spreadSet v p).clkLock 0 = false) ∧
      (spreadOf v 0 = bits p.spreadNow 0 2 → bit (spreadSet v p).clkLock 0 = bit p.clkLock 0) := by
  obtain ⟨l, d, e, hl⟩ := spreadSet_frame v p
  rw [e, hl]
  refine ⟨fun h => ?_, fun h => ?_⟩
  · cases hb : bit p.clkLock 0 with
    | true => simpa [h] using bit_zero_land_relock p.clkLock
    | false => simpa using hb
  · simp [h]

theorem spreadOf_lt (v k : Nat) : spreadOf v k < 4 := by
  have : bits v (2 * k) 2 < 4 := Nat.mod_lt _ (by norm_num)
  unfold spreadOf
  dsimp only
  split <;> omega

/-- A PLL of the two takes its spread when it locks (R87). -/
theorem pllStart_spread {n : Nat} (p : PowerSt) (hn : n < 2) :
    bits (pllStart n p).spreadNow (2 * n) 2 = spreadOf p.clkSpread n := by
  have hlt := spreadOf_lt p.clkSpread n
  have e : (pllStart n p).spreadNow =
      p.spreadNow - bits p.spreadNow (2 * n) 2 * 4 ^ n + spreadOf p.clkSpread n * 4 ^ n := if_pos hn
  rw [e]
  generalize spreadOf p.clkSpread n = y at hlt
  obtain rfl | rfl : n = 0 ∨ n = 1 := by omega
  · simp only [bits]; omega
  · simp only [bits]; omega

/-- The lock of a PLL while no change of a point is in progress. -/
theorem pllLocked_noChange {n : Nat} {p : PowerSt} (h : p.opp = none) : pllLocked n p = pllStart n p := by
  have hs : (pllStart n p).opp = none := h
  rw [pllLocked, hs]

/-! ### Wake frames (R74, R75) -/

/-- A source that wakes from the state the device is in starts the exit (R74, R77). -/
theorem latchWake_asleep {n : Nat} {s : State} (hp : s.power.phase = .up) (hc : s.power.cur = .sleep ∨ s.power.cur = .deep)
    (hb : s.power.busy = false) (he : bit s.power.wakeEn n = true) (hm : bit (wakeMask s.power.cur) n = true)
    (hl : bit s.power.wakeLatch n = false) :
    bit (latchWake n s).power.wakeLatch n = true ∧ (latchWake n s).power.exiting = true ∧
      (latchWake n s).power.busy = true := by
  have hidle : idleExit s = s := if_neg (by obtain h | h := hc <;> simp [h])
  have hasleep : (s.power.cur != .run && s.power.cur != .idle && !s.power.busy) = true := by
    obtain h | h := hc <;> simp [h, hb]
  have hadd := bit_add _ _ hl
  rw [latchWake, hidle]
  simp only [he, hp, hasleep, hm, hl, wakeAct]
  rw [if_neg (by decide)]
  simp [hc, hb, hadd]

theorem wakePayload_token {dst src tok : Bytes} (hd : dst.length = 6) (hs : src.length = 6) :
    wakePayload (dst ++ src ++ [0x88, 0xB5] ++ tok) = some tok := by
  have htype : ((dst ++ src ++ [0x88, 0xB5] ++ tok).drop 12).take 2 = [0x88, 0xB5] := by
    rw [List.append_assoc, List.drop_left' (by simp [hd, hs])]
    rfl
  have hdata : (dst ++ src ++ [0x88, 0xB5] ++ tok).drop 14 = tok := List.drop_left' (by simp [hd, hs])
  rw [wakePayload, htype, hdata]
  exact if_pos (by decide)

/-- A frame to the broadcast address with the token and its FCS is a wake frame (R75). -/
theorem wakeFrameOk_broadcast (s : State) (p : Nat) {src : Bytes} (pad : Bytes) (hs : src.length = 6)
    (ht : s.power.wakeToken.length = 16) (hz : allZero s.power.wakeToken = false) :
    let body := List.replicate 6 0xFF ++ src ++ [0x88, 0xB5] ++ s.power.wakeToken ++ pad
    wakeFrameOk s p (body ++ fcsOf body) = true := by
  intro body
  have hlen : (fcsOf body).length = 4 := length_leBytes 4 _
  have hbody : (body ++ fcsOf body).take ((body ++ fcsOf body).length - 4) = body := by
    simp [hlen]
  have hfcs : (body ++ fcsOf body).drop ((body ++ fcsOf body).length - 4) = fcsOf body := by
    simp [hlen]
  have hdst : (body ++ fcsOf body).take 6 = List.replicate 6 0xFF := by
    simp [body, List.take_append]
  have hpay : wakePayload body = some (s.power.wakeToken ++ pad) := by
    rw [← wakePayload_token (dst := List.replicate 6 0xFF) (by simp) hs]
    simp [body]
  simp only [wakeFrameOk]
  rw [hbody, hfcs, hdst, hpay]
  simp [hz, ht]

/-- What a wake frame needs: a token, and one of the two addresses (R75). -/
theorem wakeFrameOk_needs {s : State} {p : Nat} {f : Bytes} (h : wakeFrameOk s p f = true) :
    allZero s.power.wakeToken = false ∧ (f.take 6 = portMac s p ∨ f.take 6 = List.replicate 6 0xFF) := by
  simp only [wakeFrameOk, Bool.and_eq_true, Bool.or_eq_true, beq_iff_eq, Bool.not_eq_true'] at h
  obtain ⟨⟨⟨hdst, -⟩, hz⟩, -⟩ := h
  exact ⟨hz, hdst⟩

end Sys2Proof.Machine
end

section
/-! Clock spread and the wake token: O11. -/

namespace Sys2Proof.Machine

/-- Settles O11: CLK_SPREAD and the token are written, and a wake frame latches its port's bit. The payload's layout of CLK_SPREAD
rests on log 30, the frame's FCS on log 38. -/
theorem spreadAndToken : Obligations.SpreadAndToken := by
  unfold Obligations.SpreadAndToken
  refine ⟨fun m s ht hl hv => ?spread, fun s n hn hp ho => ?lock, fun m s ht hl => ?token, fun m s ht hl => ?badToken,
    fun s p f hp hup hc hb hw he hl => ?wakes, fun s p src pad hs htl hz => wakeFrameOk_broadcast s p pad hs htl hz,
    fun s p f h => ?noWake, fun s p f h => wakeFrameOk_needs h⟩
  case spread =>
    have run := mailOut_answers ht (powerSpreadSet_written hl hv)
    obtain ⟨eox, -, esoc, -⟩ := takenState_points 0x0414 m s
    obtain ⟨elock, -, enow, -⟩ := ring_clocks 0x0414 m s
    rw [← takenState_power] at elock enow
    generalize takenState 0x0414 m s = v at run eox esoc elock enow
    obtain ⟨relocked, kept⟩ := spreadSet_sysLock (byteField m.payload 0 4) v.power
    obtain ⟨l, d, e, -⟩ := spreadSet_frame (byteField m.payload 0 4) v.power
    obtain ⟨d', l', e'⟩ := oxRelock_frame (onPower (spreadSet (byteField m.payload 0 4)) v)
    refine ⟨_, run, ?_, ?_, ?_, ?_, ?_, ?_⟩
    · rw [e', onPower_power, e]
    · rw [e', onPower_power, e]; exact enow
    · rw [e', onPower_power, e]; exact eox
    · rw [e', onPower_power, e]; exact esoc
    · rw [oxRelock_sysLock, ← enow]; exact relocked
    · rw [oxRelock_sysLock, ← enow, ← elock]; exact kept
  case lock =>
    obtain ⟨d, l, e⟩ := oxRelock_frame (onPower (pllLocked n) s)
    refine ⟨_, exec_pllRelockDone hp (by omega), ?_⟩
    rw [oxKick_power, e, onPower_power, pllLocked_noChange ho]
    exact ⟨pllStart_spread s.power hn, rfl⟩
  case token => exact mailOut_answers ht (if_neg (by simp [hl]))
  case badToken => exact mailOut_refuses ht (if_pos hl)
  case wakes =>
    have run : exec (.wakeFrame p f) s = .next (latchWake (5 + p) s) := congrArg Host.Outcome.next (if_pos ⟨hp, hup, hc, hw⟩)
    have hm : bit (wakeMask s.power.cur) (5 + p) = true := by
      obtain rfl | rfl : p = 0 ∨ p = 1 := by omega
      all_goals obtain h | h := hc <;> rw [h] <;> decide
    obtain ⟨latched, exiting, busy⟩ := latchWake_asleep hup hc hb he hm hl
    exact ⟨_, run, latched, exiting, busy, latchWake_host (5 + p) s⟩
  case noWake => exact congrArg Host.Outcome.next (if_neg (by simp [h]))

end Sys2Proof.Machine
end

section
/-! Mailbox commands are checked in order: O19. -/

namespace Sys2Proof.Machine

/-! ### The course of a command (R133, R139) -/

theorem not_mailReaches {cmd : Nat} {m : Mail} {s : State}
    (h : hostServed s = false ∨ mailMine cmd m s = false ∨ served (ring cmd m s) = false ∨
      mailNext (ring cmd m s) ≠ some m.mbox) : mailReaches cmd m s = false := by
  obtain h | h | h | h := h <;> simp [mailReaches, h]

/-- A command that reaches Malor is taken in the state after its ring. -/
theorem mailOut_reaches {cmd : Nat} {m : Mail} {body : State → Answer} {s : State} (h : mailReaches cmd m s = true) :
    mailOut cmd m body s = .next (takeCmd cmd m body (ring cmd m s)) :=
  congrArg Host.Outcome.next (if_pos h)

/-- Step 1 of R139. -/
theorem mailOut_malformed {cmd : Nat} {m : Mail} {body : State → Answer} {s : State} (h : mailReaches cmd m s = true)
    (hf : mailFormOk m = false) : mailOut cmd m body s = refuses cmd m s (ring cmd m s) 0x020A 0 := by
  rw [mailOut_reaches h, takeCmd, if_pos (by simp [hf])]
  rfl

/-- Step 2 of R139. -/
theorem mailOut_unknown {cmd : Nat} {m : Mail} {body : State → Answer} {s : State} (h : mailReaches cmd m s = true)
    (hf : mailFormOk m = true) (hk : knownCmds.contains cmd = false) :
    mailOut cmd m body s = refuses cmd m s (ring cmd m s) 0x020B 0 := by
  rw [mailOut_reaches h, takeCmd, if_neg (by simp [hf]), if_pos (by rw [hk]; rfl)]
  rfl

/-- Step 3 of R139: a command sent again is answered by what is stored (R135). -/
theorem mailOut_repeated {cmd : Nat} {m : Mail} {body : State → Answer} {s : State} {r : Bytes}
    (h : mailReaches cmd m s = true) (hf : mailFormOk m = true) (hk : knownCmds.contains cmd = true)
    (hr : storedMatch cmd m (ring cmd m s) = some r) :
    mailOut cmd m body s = .next (deliver m.mbox (dupResponse r) (ring cmd m s)) := by
  rw [mailOut_reaches h, takeCmd, if_neg (by simp [hf]), if_neg (by rw [hk]; exact Bool.false_ne_true), hr]

/-- A command without a tag that passes steps 1 to 3 of R139 reaches the checks before its execution. -/
def Fresh (cmd : Nat) (m : Mail) (s : State) : Prop :=
  mailReaches cmd m s = true ∧ mailFormOk m = true ∧ knownCmds.contains cmd = true ∧
    storedMatch cmd m (ring cmd m s) = none ∧ mailAuth m = false

/-- Such a command gets the answer of steps 7 to 9 of R139 where they answer at once. -/
theorem mailOut_late {cmd : Nat} {m : Mail} {body : State → Answer} {s : State} {a : Answer} (h : Fresh cmd m s)
    (ha : mailLate cmd m body (ring cmd m s) = a) (hh : a.held = false) :
    mailOut cmd m body s = .next (respond (ring cmd m s) cmd m a) := by
  obtain ⟨hr, hf, hk, hs, hauth⟩ := h
  have hsession : mailSession cmd m body (ring cmd m s) = a := (if_neg (by simp [hauth])).trans ha
  rw [mailOut_reaches hr, takeCmd, if_neg (by simp [hf]), if_neg (by rw [hk]; exact Bool.false_ne_true), hs]
  exact congrArg Host.Outcome.next (by simp only [hsession, hh]; rfl)

/-! ### Steps 7 to 9 of R139 -/

theorem mailLate_noSession {cmd : Nat} {m : Mail} {body : State → Answer} {w : State} (ha : mailAuth m = false)
    (hn : needsSession w cmd m.payload = true) : mailLate cmd m body w = refuse w (cmd / 256 * 256 + 0x04) := by
  rw [mailLate, if_pos (by simp [ha, hn])]

theorem mailLate_minimal {cmd : Nat} {m : Mail} {body : State → Answer} {w : State}
    (hn : needsSession w cmd m.payload = false) (hm : w.mgmt.minimal = true) (hc : (minimalCmds w).contains cmd = false)
    (hl : lifecycle w ≠ 3) : mailLate cmd m body w = refuse w 0x0106 := by
  rw [mailLate, if_neg (by simp [hn]), if_pos (by rw [hm, hc]; rfl), minimalReason, if_neg (fun h => hl h.1)]

theorem mailLate_shed {cmd : Nat} {m : Mail} {body : State → Answer} {w : State}
    (hn : needsSession w cmd m.payload = false) (hm : w.mgmt.minimal = false) (hs : mailShed w cmd m.payload = true) :
    mailLate cmd m body w = mailBusy cmd m.payload w := by
  rw [mailLate, if_neg (by simp [hn]), if_neg (by simp [hm]), if_pos hs]

/-- The lifecycle is read from the fuses, which a ring leaves (R169). -/
theorem lifecycle_ring (cmd : Nat) (m : Mail) (s : State) : lifecycle (ring cmd m s) = lifecycle s := by
  have fuses : otpWord (ring cmd m s) 0 = otpWord s 0 := by rw [otpWord, ring_sec]; rfl
  rw [lifecycle, fuses]
  rfl

/-! ### Shedding (R112) -/

theorem mailShed_level {s : State} {cmd : Nat} {p : Bytes} (hu : urgent cmd p = false) (h : s.mgmt.shed = 4) :
    mailShed s cmd p = true := by
  simp [mailShed, hu, h]

theorem mailShed_resent {s : State} {cmd t : Nat} {p : Bytes} (hu : urgent cmd p = false) (h : (cmd, p, t) ∈ s.host.retry)
    (ht : s.power.aonTick < t) : mailShed s cmd p = true := by
  have hany : s.host.retry.any (fun x => x.1 == cmd && x.2.1 == p && decide (s.power.aonTick < x.2.2)) = true :=
    List.any_eq_true.mpr ⟨_, h, by simp [ht]⟩
  simp [mailShed, hu, hany]

theorem mailShed_urgent {cmd : Nat} {p : Bytes} (s : State) (h : urgent cmd p = true) : mailShed s cmd p = false := by
  simp [mailShed, h]

/-! ### A mailbox that the part owns (R133) -/

theorem hostDrops_mailboxes (n : Nat) (s : State) : (hostDrops n s).host.ignoredCnt = s.host.ignoredCnt ∧
    (hostDrops n s).host.mbox = s.host.mbox ∧ (hostDrops n s).host.owner = s.host.owner ∧ (hostDrops n s).mgmt = s.mgmt := by
  simp [hostDrops]

theorem ringIgnored_mailboxes (s : State) : (ringIgnored s).host.ignoredCnt = satInc 32 s.host.ignoredCnt ∧
    (ringIgnored s).host.mbox = s.host.mbox ∧ (ringIgnored s).host.owner = s.host.owner ∧ (ringIgnored s).mgmt = s.mgmt := by
  simp [ringIgnored]

/-- A command into a mailbox that the part owns with another is discarded, and its ring ignored and counted. -/
theorem mailOut_ignored {cmd : Nat} {m : Mail} {body : State → Answer} {s : State} (hh : hostServed s = true)
    (hm : m.mbox < 8) (hn : mailMine cmd m s = false) : mailOut cmd m body s =
      .next (latchWake 11 (ringIgnored (hostDrops (((mailBytes cmd m).length + 3) / 4) s))) := by
  rw [mailOut, mailStep, not_mailReaches (.inr (.inl hn)), if_neg Bool.false_ne_true,
    if_neg (by simp [hh, hm]), if_neg (by rw [hn]; exact Bool.false_ne_true)]

/-- Settles O19: each check of R139 answers for itself, and with none of them the command is executed. Which rung command is taken
and which are held rests on log 3. -/
theorem mailboxChecks : Obligations.MailboxChecks := by
  unfold Obligations.MailboxChecks
  refine ⟨fun cmd m body s hh => ?dark, fun cmd m body s hh hm hmine hnext => ?held, fun cmd m body s hh hm hn => ?ignored,
    fun cmd m body s hr hf => mailOut_malformed hr hf, fun cmd m s hr hf hk => ?unknown,
    fun cmd m body s r hr hf hk hs => mailOut_repeated hr hf hk hs, fun cmd m body s hr hf hk hs ha hn => ?noSession,
    fun cmd m body s hr hf hk hs ha hn hmin hc hl => ?minimal, fun cmd m body s hr hf hk hs ha hn hmin hshed => ?shed,
    fun s cmd p hu h => mailShed_level hu h, fun s cmd p t hu h ht => mailShed_resent hu h ht,
    fun s cmd p h => mailShed_urgent s h⟩
  case dark =>
    rw [mailOut, mailStep, not_mailReaches (.inl hh), if_neg Bool.false_ne_true, if_pos (by simp [hh])]
  case held =>
    rw [mailOut, mailStep, not_mailReaches (.inr (.inr hnext)), if_neg Bool.false_ne_true, if_neg (by simp [hh, hm]),
      if_pos hmine]
  case ignored =>
    refine ⟨_, mailOut_ignored hh hm hn, ?_⟩
    rw [latchWake_host, latchWake_mgmt]
    obtain ⟨ecnt, embox, eowner, emgmt⟩ := hostDrops_mailboxes (((mailBytes cmd m).length + 3) / 4) s
    obtain ⟨rcnt, rmbox, rowner, rmgmt⟩ := ringIgnored_mailboxes (hostDrops (((mailBytes cmd m).length + 3) / 4) s)
    exact ⟨by rw [rcnt, ecnt], rmbox.trans embox, rowner.trans eowner, rmgmt.trans emgmt⟩
  case unknown =>
    have run : exec (.unknownCommand cmd m) s = mailOut cmd m (fun s => refuse s 0x020B) s :=
      congrArg Host.Outcome.next (if_neg (by rw [hk]; exact Bool.false_ne_true))
    rw [run, mailOut_unknown hr hf hk]
  case noSession => exact mailOut_late ⟨hr, hf, hk, hs, ha⟩ (mailLate_noSession ha hn) rfl
  case minimal =>
    exact mailOut_late ⟨hr, hf, hk, hs, ha⟩
      (mailLate_minimal hn (by rw [ring_mgmt]; exact hmin) hc (by rw [lifecycle_ring]; exact hl)) rfl
  case shed =>
    have hlate : mailLate cmd m body (ring cmd m s) = mailBusy cmd m.payload (ring cmd m s) :=
      mailLate_shed hn (by rw [ring_mgmt]; exact hmin) hshed
    obtain ⟨-, -, -, htick⟩ := ring_clocks cmd m s
    refine ⟨_, mailOut_late ⟨hr, hf, hk, hs, ha⟩ hlate rfl, rfl, rfl, rfl, ?_, ?_⟩
    · simp [mailBusy, refuse]
    · simp [mailBusy, refuse, htick]

end Sys2Proof.Machine
end

section
/-! SUPPORT. Management and boot records: the state in which a command runs, the slots in NOR, boot records written and read back
(R96, R98), and the effects of the MGMT and UPDATE commands (R99, R119 to R121, R602, R603). -/

namespace Sys2Proof.Machine

/-! ### The state in which a command runs -/

theorem takenState_mgmt (cmd : Nat) (m : Mail) (s : State) : (takenState cmd m s).mgmt = s.mgmt := by
  rw [takenState_frame]
  exact ring_mgmt cmd m s

theorem takenState_host (cmd : Nat) (m : Mail) (s : State) : (takenState cmd m s).host = (ring cmd m s).host := by
  rw [takenState_frame]

theorem takenState_plant (cmd : Nat) (m : Mail) (s : State) :
    (takenState cmd m s).loops = s.loops ∧ (takenState cmd m s).axes = s.axes := by
  rw [takenState_frame]
  exact ⟨ring_loops cmd m s, ring_axes cmd m s⟩

theorem sessionAccept_otp (k seq : Nat) (s : State) : (sessionAccept k seq s).sec.otp = s.sec.otp := by
  unfold sessionAccept
  split <;> rfl

theorem takenState_otp (cmd : Nat) (m : Mail) (s : State) : (takenState cmd m s).sec.otp = s.sec.otp := by
  have hr : (ring cmd m s).sec.otp = s.sec.otp := by rw [ring_sec]
  unfold takenState
  split
  · rw [sessionAccept_otp, hr]
  · exact hr

/-- The answer of a command whose payload is known. -/
theorem mailOut_answers_of_payload {cmd : Nat} {m : Mail} {body : Bytes → State → Answer} {s t : State} {b p : Bytes}
    (h : taken cmd m s = true) (hp : m.payload = b) (hb : body b (takenState cmd m s) = done t p) :
    mailOut cmd m (body m.payload) s = answers cmd m s t p := by
  subst hp
  exact mailOut_answers h hb

/-- The refusal of a command whose payload is known. -/
theorem mailOut_refuses_of_payload {cmd : Nat} {m : Mail} {body : Bytes → State → Answer} {s t : State} {b : Bytes} {r q : Nat}
    (h : taken cmd m s = true) (hp : m.payload = b) (hb : body b (takenState cmd m s) = refuse t r q) :
    mailOut cmd m (body m.payload) s = refuses cmd m s t r q := by
  subst hp
  exact mailOut_refuses h hb

/-! ### Slots in NOR (R96) -/

theorem slotImage_congr {s t : State} (h : t.mgmt = s.mgmt) (ty : Nat) (slot : Bool) : slotImage t ty slot = slotImage s ty slot := by
  unfold slotImage
  rw [h]

/-- The record in force is read from the two boot headers. -/
theorem bootRec_congr {s t : State} (ha : t.mgmt.bootA = s.mgmt.bootA) (hb : t.mgmt.bootB = s.mgmt.bootB) :
    bootRec t = bootRec s := by
  unfold bootRec
  rw [ha, hb]

theorem slotImage_setSlotImage_same (ty : Nat) (slot : Bool) (b : Bytes) (s : State) :
    slotImage (setSlotImage ty slot b s) ty slot = b := by
  rcases ty with _ | _ | _ | n <;> cases slot <;> rfl

theorem slotImage_setSlotImage_other (ty : Nat) (slot : Bool) (b : Bytes) (s : State) :
    slotImage (setSlotImage ty slot b s) ty (!slot) = slotImage s ty (!slot) := by
  rcases ty with _ | _ | _ | n <;> cases slot <;> rfl

/-- Slots and boot headers are different regions of NOR. -/
theorem bootRec_setSlotImage (ty : Nat) (slot : Bool) (b : Bytes) (s : State) :
    bootRec (setSlotImage ty slot b s) = bootRec s := by
  apply bootRec_congr <;> rcases ty with _ | _ | _ | n <;> cases slot <;> rfl

theorem slotImage_onUpdate (u : Option Update) (s : State) (ty : Nat) (slot : Bool) :
    slotImage (onMgmt (fun m => { m with update := u }) s) ty slot = slotImage s ty slot := rfl

theorem bootRec_onUpdate (u : Option Update) (s : State) : bootRec (onMgmt (fun m => { m with update := u }) s) = bootRec s := rfl

/-! ### Boot records (R98) -/

theorem length_bootBody (r : BootRec) : (bootBody r).length = 60 := by
  simp [bootBody]

theorem bootBytes_crc (r : BootRec) :
    (bootBytes r).take 0x3C = bootBody r ∧ byteField (bootBytes r) 0x3C 4 = crc32cNat (bootBody r) := by
  have hl := length_bootBody r
  have hcrc : crc32cNat (bootBody r) < 2 ^ 32 := (crc32c (bootBody r)).isLt
  refine ⟨List.take_left' hl, ?_⟩
  rw [bootBytes, byteField_skip _ _ _ _ hl.le, hl, byteField, Nat.sub_self, List.drop_zero,
    List.take_of_length_le (length_leBytes 4 _).le, leNat_leBytes]
  exact Nat.mod_eq_of_lt hcrc

theorem byteField_bool_eq (b : Bool) (r : Bytes) : (byteField (BitVec.ofNat 8 (b2n b) :: r) 0 1 == 1) = b := by
  cases b <;> rfl

theorem byteField_cons (x : Byte) (r : Bytes) (off n : Nat) : byteField (x :: r) (off + 1) n = byteField r off n := rfl

/-- A written boot record reads back. -/
theorem bootParse_bootBytes {r : BootRec} (h : r.seq < 2 ^ 32) : bootParse (bootBytes r) = some r := by
  obtain ⟨hbody, hcrc⟩ := bootBytes_crc r
  have layout : ∃ rest, bootBytes r = leBytes 4 0xD742B007 ++ (leBytes 4 r.seq ++
      (BitVec.ofNat 8 (b2n r.malorActive) :: BitVec.ofNat 8 (b2n r.malorTrial) :: BitVec.ofNat 8 (b2n r.modelActive) ::
        BitVec.ofNat 8 (b2n r.modelTrial) :: BitVec.ofNat 8 (b2n r.aplarActive) :: BitVec.ofNat 8 (b2n r.aplarTrial) :: rest)) := by
    refine ⟨zeros 46 ++ leBytes 4 (crc32cNat (bootBody r)), ?_⟩
    simp [bootBytes, bootBody, leBytes]
  obtain ⟨rest, e⟩ := layout
  have hmagic : byteField (bootBytes r) 0 4 = 0xD742B007 := by
    rw [e]
    exact byteField_front 4 _ _
  have hseq : byteField (bootBytes r) 4 4 = r.seq := by
    rw [e, byteField_skip _ _ _ _ (length_leBytes 4 _).le, length_leBytes, byteField_front]
    exact Nat.mod_eq_of_lt h
  have hflag (k : Nat) : byteField (bootBytes r) (8 + k) 1 =
      byteField (BitVec.ofNat 8 (b2n r.malorActive) :: BitVec.ofNat 8 (b2n r.malorTrial) :: BitVec.ofNat 8 (b2n r.modelActive) ::
        BitVec.ofNat 8 (b2n r.modelTrial) :: BitVec.ofNat 8 (b2n r.aplarActive) :: BitVec.ofNat 8 (b2n r.aplarTrial) :: rest) k 1 := by
    rw [e, byteField_skip _ _ _ _ (by rw [length_leBytes]; omega), byteField_skip _ _ _ _ (by rw [length_leBytes, length_leBytes]; omega),
      length_leBytes, length_leBytes]
    congr 1
    omega
  rw [bootParse, if_pos ⟨hmagic, by rw [hcrc, hbody]⟩, hseq, hflag 0, hflag 1, hflag 2, hflag 3, hflag 4, hflag 5]
  simp only [byteField_cons, byteField_bool_eq]

/-- No valid header holds a higher SEQ than the record in force. -/
theorem bootParse_seq_le {s : State} {r : BootRec} (h : bootParse s.mgmt.bootA = some r ∨ bootParse s.mgmt.bootB = some r) :
    r.seq ≤ (bootRec s).seq := by
  unfold bootRec
  cases ha : bootParse s.mgmt.bootA <;> cases hb : bootParse s.mgmt.bootB <;> simp only [ha, hb] at h ⊢ <;> grind

/-- A header with a SEQ above the other's is in force. -/
theorem bootRec_newest {s : State} {r : BootRec}
    (h : (bootParse s.mgmt.bootA = some r ∧ ∀ b, bootParse s.mgmt.bootB = some b → b.seq < r.seq) ∨
      (bootParse s.mgmt.bootB = some r ∧ ∀ a, bootParse s.mgmt.bootA = some a → a.seq < r.seq)) : bootRec s = r := by
  unfold bootRec
  obtain ⟨hr, hother⟩ | ⟨hr, hother⟩ := h
  · cases hb : bootParse s.mgmt.bootB with
    | none => simp only [hr]
    | some b =>
      have := hother b hb
      simp only [hr]
      rw [if_neg (by omega), if_pos this]
  · cases ha : bootParse s.mgmt.bootA with
    | none => simp only [hr]
    | some a =>
      simp only [hr]
      rw [if_pos (hother a ha)]

/-- The record that is written is in force afterwards: its SEQ is one above that of the record before. -/
theorem bootRec_bootWrite (f : BootRec → BootRec) {s : State} (h : (bootRec s).seq + 1 < 2 ^ 32) :
    bootRec (bootWrite f s) = { f (bootRec s) with seq := (bootRec s).seq + 1 } := by
  have hn : wrapInc 32 (bootRec s).seq = (bootRec s).seq + 1 := Nat.mod_eq_of_lt h
  have hold := @bootParse_seq_le s
  have hnew := bootParse_bootBytes (r := { f (bootRec s) with seq := (bootRec s).seq + 1 }) h
  unfold bootWrite
  dsimp only
  rw [hn]
  apply bootRec_newest
  split
  · exact .inl ⟨hnew, fun b hb => Nat.lt_succ_of_le (hold (.inr hb))⟩
  · exact .inr ⟨hnew, fun a ha => Nat.lt_succ_of_le (hold (.inl ha))⟩

/-- A boot record that is written changes boot headers alone. -/
theorem bootWrite_frame (f : BootRec → BootRec) (s : State) :
    ∃ a b, bootWrite f s = { s with mgmt := { s.mgmt with bootA := a, bootB := b } } := by
  unfold bootWrite
  dsimp only
  split <;> exact ⟨_, _, rfl⟩

theorem flush_mgmt (s : State) : (flush s).mgmt = s.mgmt := (sameMain (mainPart_flush s)).mgmt

/-! ### MGMT_STATUS_GET, MGMT_RESTART and MGMT_CONFIG_SAVE -/

theorem length_slotEntry (s : State) (ty : Nat) (slot : Bool) : (slotEntry s ty slot).length = 16 := by
  unfold slotEntry
  dsimp only
  split <;> simp

theorem mgmtStatus_layout (s : State) : ∃ r, mgmtStatus s = leBytes 4 (bootState s.mgmt) ++ (leBytes 4 (bootFail s.mgmt) ++ r) ∧
    r.length = 120 := by
  refine ⟨_, by simp only [mgmtStatus, List.append_assoc]; rfl, ?_⟩
  simp [length_slotEntry]

/-- MGMT_RESTART outside MINIMAL schedules the restart (R603). -/
theorem mgmtRestart_scheduled {k : Nat} {s : State} (hk : k < 3) (hm : s.mgmt.minimal = false) :
    mgmtRestart [BitVec.ofNat 8 k, 0, 0, 0] s = done (flush (onMgmt (fun m => { m with
      inStart := false, cnt := if k = 1 then 0 else m.cnt, minReq := m.minReq || k == 2, restart := some k }) s)) [] := by
  obtain rfl | rfl | rfl : k = 0 ∨ k = 1 ∨ k = 2 := by omega
  all_goals
    rw [mgmtRestart, if_neg (by decide), if_neg (by decide), if_neg (by simp [hm])]
    rfl

theorem mgmtRestart_minimal {p : Bytes} {s : State} (hp : p = [0, 0, 0, 0] ∨ p = [2, 0, 0, 0]) (hm : s.mgmt.minimal = true) :
    mgmtRestart p s = done s [] := by
  obtain rfl | rfl := hp
  all_goals rw [mgmtRestart, if_neg (by decide), if_neg (by decide), if_pos ⟨hm, by decide⟩]

theorem mgmtRestart_range {k : Nat} (s : State) (h : 2 < k) (hk : k < 256) :
    mgmtRestart [BitVec.ofNat 8 k, 0, 0, 0] s = refuse s 0x0105 := by
  have hmode : byteField [BitVec.ofNat 8 k, 0, 0, 0] 0 1 = k := by
    simp [byteField, leNat, Nat.mod_eq_of_lt hk]
  have hrest : byteField [BitVec.ofNat 8 k, 0, 0, 0] 1 3 = 0 := rfl
  rw [mgmtRestart]
  dsimp only
  rw [if_neg (by rw [hrest]; exact fun h => h.elim (absurd rfl) (absurd rfl)), hmode, if_pos h]

/-- With no store in use the first one goes to B (R99). -/
theorem configSave_first {s : State} (h : storeInUse s = none) :
    configSave [] s = done (onMgmt (fun m => { m with storeB := some (currentStore 1 s) }) s) [] := by
  rw [configSave, if_neg (by simp)]
  simp only [h]
  rfl

/-! ### Updates -/

/-- The effect of UPDATE_BEGIN, its payload decoded (R120). -/
theorem updateBegin_payload {ty n : Nat} (s : State) (h1 : 1 ≤ ty) (h3 : ty ≤ 3) (hn : n < 2 ^ 32) :
    updateBegin (leBytes 1 ty ++ zeros 3 ++ leBytes 4 n) s =
      if s.mgmt.update.isSome ∨ (bootSlot (bootRec s) ty).2 then refuse s 0x0106
      else if slotSize ty < n then refuse s 0x0105
      else done (onMgmt (fun m => { m with update := some { type := ty, total := n, slot := !(bootSlot (bootRec s) ty).1 } })
        (setSlotImage ty (!(bootSlot (bootRec s) ty).1) [] s)) [] := by
  have htype : byteField (leBytes 1 ty ++ zeros 3 ++ leBytes 4 n) 0 1 = ty := by
    rw [List.append_assoc, byteField_front]
    omega
  have hzero : byteField (leBytes 1 ty ++ zeros 3 ++ leBytes 4 n) 1 3 = 0 := by
    rw [List.append_assoc, byteField_skip _ _ _ _ (length_leBytes 1 ty).le, length_leBytes]
    exact byteField_zeros 3 3 _ le_rfl
  have htotal : byteField (leBytes 1 ty ++ zeros 3 ++ leBytes 4 n) 4 4 = n := by
    rw [byteField_skip _ _ _ _ (by simp), ← List.append_nil (leBytes 4 n)]
    simp only [List.length_append, length_leBytes, length_zeros, Nat.sub_self, byteField_front]
    exact Nat.mod_eq_of_lt hn
  rw [updateBegin]
  dsimp only
  rw [if_neg (by rw [hzero]; simp), htype, htotal, if_neg (by omega)]

/-- The effect of UPDATE_DATA on an open update, its payload decoded (R119, R120). -/
theorem updateData_payload {off : Nat} {d : Bytes} {u : Update} {s : State} (ho : off < 2 ^ 32) (hd : d.length ≤ 960)
    (hu : s.mgmt.update = some u) :
    updateData (leBytes 4 off ++ leBytes 4 d.length ++ d) s =
      if u.total < off + d.length ∨ rangeTaken u.ranges off d.length = true then refuse s 0x0105
      else done (onMgmt (fun m => { m with update := some { u with ranges := u.ranges ++ [(off, d.length)], finished := false } })
        (setSlotImage u.type u.slot (overwrite (slotImage s u.type u.slot) off d) s)) [] := by
  have hoff : byteField (leBytes 4 off ++ leBytes 4 d.length ++ d) 0 4 = off := by
    rw [List.append_assoc, byteField_front]
    exact Nat.mod_eq_of_lt ho
  have hlen : byteField (leBytes 4 off ++ leBytes 4 d.length ++ d) 4 4 = d.length := by
    rw [List.append_assoc, byteField_skip _ _ _ _ (length_leBytes 4 off).le, length_leBytes, byteField_front]
    omega
  have hdata : (leBytes 4 off ++ leBytes 4 d.length ++ d).drop 8 = d := List.drop_left' (by simp)
  have hcap : ¬ 960 < d.length := by omega
  rw [updateData]
  dsimp only
  rw [if_neg (by rw [hlen]; simp only [List.length_append, length_leBytes]; omega), hu, hoff, hlen, hdata]
  simp only [hcap, false_or]

theorem updateFinish_partial {u : Update} {s : State} (hu : s.mgmt.update = some u) (hf : updateFull u = false) :
    updateFinish [] s = refuse s 0x0142 := by
  rw [updateFinish, if_neg (by simp), hu]
  exact if_pos (by simp [hf])

/-- A complete image is answered by the checks of R101. -/
theorem updateFinish_full {u : Update} {s : State} (hu : s.mgmt.update = some u) (hf : updateFull u = true) :
    (∀ r, imgFail s u.type (slotImage s u.type u.slot) = some r → updateFinish [] s = refuse s r) ∧
      (imgFail s u.type (slotImage s u.type u.slot) = none →
        updateFinish [] s = done (onMgmt (fun m => { m with update := some { u with finished := true } }) s) []) := by
  refine ⟨fun r hr => ?_, fun hr => ?_⟩
  all_goals simp [updateFinish, hu, hf, hr]

/-- A finished Malor image is checked again, then activated (R101, R121). -/
theorem updateActivate_malor {u : Update} {s : State} (hu : s.mgmt.update = some u) (hf : u.finished = true) (ht : u.type = 1) :
    (∀ r, imgFail s 1 (slotImage s 1 u.slot) = some r → updateActivate [] s = refuse s r) ∧
      (imgFail s 1 (slotImage s 1 u.slot) = none → updateActivate [] s = done (updateClose (malorActivate u.slot s)) []) := by
  refine ⟨fun r hr => ?_, fun hr => ?_⟩
  all_goals simp [updateActivate, hu, hf, ht, hr]

/-- Malor's activation writes the boot record, clears CNT and IN_START and schedules the restart (R121). -/
theorem malorActivate_mgmt (slot : Bool) (s : State) :
    (malorActivate slot s).mgmt = { (bootWrite (fun r => { r with malorActive := slot, malorTrial := true }) s).mgmt with
      cnt := 0, inStart := false, restart := some (if s.mgmt.minimal then 1 else 0) } := by
  obtain ⟨a, b, e⟩ := bootWrite_frame (fun r => { r with malorActive := slot, malorTrial := true }) s
  rw [malorActivate]
  dsimp only
  rw [flush_mgmt, e]
  rfl

theorem counterRaise_mgmt (ty n : Nat) (s : State) : (counterRaise ty n s).mgmt = s.mgmt := by
  unfold counterRaise
  dsimp only
  split <;> rfl

/-- UPDATE_COMMIT of Malor without a trial is refused. -/
theorem updateCommit_noTrial {s : State} (h : (bootRec s).malorTrial = false) : updateCommit [1, 0, 0, 0] s = refuse s 0x0106 := by
  rw [updateCommit]
  dsimp only
  rw [if_neg (by decide), if_neg (by decide)]
  exact (if_neg (fun hm => absurd hm.1 (by decide))).trans (if_pos h)

/-- UPDATE_COMMIT of Malor on trial writes TRIAL 0 and raises its event; the rollback counter rises where it is below the image's
SVN (R102, R121). -/
theorem updateCommit_malor {s : State} (h : (bootRec s).malorTrial = true) : ∃ t, updateCommit [1, 0, 0, 0] s = done t [] ∧
    t.mgmt = (bootWrite (bootSet 1 (bootRec s).malorActive false) s).mgmt := by
  have run : ∃ u, updateCommit [1, 0, 0, 0] s = done (raise 0x0132 6 0 0 0 u) [] ∧
      u.mgmt = (bootWrite (bootSet 1 (bootRec s).malorActive false) s).mgmt := by
    rw [updateCommit]
    dsimp only
    rw [if_neg (by decide), if_neg (by decide)]
    refine ⟨_, (if_neg (fun hm => absurd hm.1 (by decide))).trans (if_neg (ne_false_of_eq_true h)), ?_⟩
    split
    · exact counterRaise_mgmt _ _ _
    · rfl
  obtain ⟨u, e, hu⟩ := run
  exact ⟨_, e, (raise_mgmt ..).trans hu⟩

theorem updateAbort_open {u : Update} {s : State} (hu : s.mgmt.update = some u) :
    updateAbort [] s = done (updateClose (setSlotImage u.type u.slot [] s)) [] := by
  rw [updateAbort, if_neg (by simp), hu]

end Sys2Proof.Machine
end

section
/-! Management status, restart and saving: O16. -/

namespace Sys2Proof.Machine

/-- Settles O16: the status is read and nothing else; a restart is scheduled, ignored in MINIMAL or refused by its mode; the first
saved configuration goes to store B. -/
theorem managementCommands : Obligations.ManagementCommands := by
  unfold Obligations.ManagementCommands
  refine ⟨fun m s ht hp => ?status, fun m s k ht hk hp hm => ?restart, fun m s ht hp hm => ?ignored,
    fun m s k ht h2 hk hp => ?range, fun m s ht hp hn => ?save⟩
  case status =>
    obtain ⟨r, e, hr⟩ := mgmtStatus_layout (takenState 0x0100 m s)
    refine ⟨mgmtStatus (takenState 0x0100 m s), mailOut_answers ht (if_neg (by simp [hp])), ?_⟩
    rw [e]
    refine ⟨by simp [hr], List.take_left' (length_leBytes 4 _), ?_⟩
    rw [List.drop_left' (length_leBytes 4 _), List.take_left' (length_leBytes 4 _)]
  case restart =>
    have run := mailOut_answers_of_payload ht hp (mgmtRestart_scheduled hk hm)
    obtain ⟨hloops, haxes⟩ := takenState_plant 0x0102 m s
    have hcnt : (takenState 0x0102 m s).mgmt.cnt = s.mgmt.cnt := by rw [takenState_mgmt]
    generalize takenState 0x0102 m s = v at run hm hloops haxes hcnt ⊢
    refine ⟨_, run, ?_⟩
    have same := sameMain (mainPart_flush (onMgmt (fun m => { m with
      inStart := false, cnt := if k = 1 then 0 else m.cnt, minReq := m.minReq || k == 2, restart := some k }) v))
    rw [same.mgmt, same.power, same.loops, same.axes]
    refine ⟨rfl, rfl, fun h => if_pos h, fun h => (if_neg h).trans hcnt, fun h => ?_, rfl, hloops, haxes⟩
    simp [h]
  case ignored => exact mailOut_answers ht (mgmtRestart_minimal hp hm)
  case range => exact mailOut_refuses_of_payload ht hp (mgmtRestart_range _ h2 hk)
  case save =>
    have run := mailOut_answers_of_payload ht hp (configSave_first hn)
    refine ⟨_, run, ?_, (congrArg MgmtSt.storeA (takenState_mgmt 0x0104 m s) :), rfl, rfl⟩
    rw [onMgmt_mgmt, currentStore, takenState_host, ring_host_params, ring_host_tables]

end Sys2Proof.Machine
end

section
/-! Updates: O17. -/

namespace Sys2Proof

open Machine

/-- Settles O17: each command's effect on its decoded payload, and a written boot record read back. The layouts of UPDATE_BEGIN and
UPDATE_COMMIT, and RC_MGMT_STATE for a commit without a trial, rest on log 30. -/
theorem updates : Obligations.Updates := by
  unfold Obligations.Updates
  refine ⟨fun m s ty n ht h1 h3 hs hn hp hu hb => ?begins, fun m s ty n u ht h1 h3 hn hp hu => ?second,
    fun m s u off d ht ho hd hp hu hle hr => ?data, fun m s u off d ht ho hd hp hu hr => ?again, fun m s u ht hp hu => ?finish,
    fun m s u ht hp hu hf h1 hseq => ?activate, fun m s ht hp htr hseq => ?commit, fun m s ht hp htr => ?noTrial,
    fun m s u ht hp hu => ?abort⟩
  case begins =>
    have run := mailOut_answers_of_payload ht hp ((updateBegin_payload _ h1 h3 hn).trans
      ((if_neg (by simp [hu, hb])).trans (if_neg (by omega))))
    have himg := slotImage_congr (takenState_mgmt 0x0120 m s)
    have hotp := takenState_otp 0x0120 m s
    generalize takenState 0x0120 m s = v at run himg hotp ⊢
    refine ⟨_, run, rfl, slotImage_setSlotImage_same .., ?_, hotp⟩
    rw [slotImage_onUpdate, ← himg]
    simpa only [Bool.not_not] using slotImage_setSlotImage_other ty (!(bootSlot (bootRec v) ty).1) [] v
  case second =>
    exact mailOut_refuses_of_payload ht hp ((updateBegin_payload _ h1 h3 hn).trans
      (if_pos (.inl (by simp [hu]))))
  case data =>
    have run := mailOut_answers_of_payload ht hp ((updateData_payload ho hd hu).trans
      (if_neg (by simp [hr, hle])))
    have himg := slotImage_congr (takenState_mgmt 0x0121 m s)
    generalize takenState 0x0121 m s = v at run himg ⊢
    refine ⟨_, run, ?_, rfl, ?_⟩
    · rw [slotImage_onUpdate, slotImage_setSlotImage_same, himg]
    · rw [slotImage_onUpdate, slotImage_setSlotImage_other, himg]
  case again =>
    exact mailOut_refuses_of_payload ht hp ((updateData_payload ho hd hu).trans (if_pos (.inr hr)))
  case finish =>
    rw [← slotImage_congr (takenState_mgmt 0x0122 m s)]
    cases hf : updateFull u with
    | false => exact mailOut_refuses_of_payload ht hp (updateFinish_partial hu hf)
    | true =>
      obtain ⟨fails, passes⟩ := updateFinish_full hu hf
      cases hi : imgFail (takenState 0x0122 m s) u.type (slotImage (takenState 0x0122 m s) u.type u.slot) with
      | none => exact mailOut_answers_of_payload ht hp (passes hi)
      | some r => exact mailOut_refuses_of_payload ht hp (fails r hi)
  case activate =>
    have hm := takenState_mgmt 0x0123 m s
    obtain ⟨fails, passes⟩ := updateActivate_malor hu hf h1
    rw [slotImage_congr hm] at fails passes
    cases hi : imgFail (takenState 0x0123 m s) 1 (slotImage s 1 u.slot) with
    | some r => exact .inl ⟨r, rfl, mailOut_refuses_of_payload ht hp (fails r hi)⟩
    | none =>
      right
      have run := mailOut_answers_of_payload ht hp (passes hi)
      have hboot : bootRec (takenState 0x0123 m s) = bootRec s := bootRec_congr (by rw [hm]) (by rw [hm])
      have written := bootRec_bootWrite (fun r => { r with malorActive := u.slot, malorTrial := true })
        (s := takenState 0x0123 m s) (by rw [hboot]; exact hseq)
      generalize takenState 0x0123 m s = v at run hm written ⊢
      have hmgmt := malorActivate_mgmt u.slot v
      have inForce : bootRec (updateClose (malorActivate u.slot v)) =
          bootRec (bootWrite (fun r => { r with malorActive := u.slot, malorTrial := true }) v) :=
        bootRec_congr (congrArg MgmtSt.bootA hmgmt :) (congrArg MgmtSt.bootB hmgmt :)
      refine ⟨_, run, ?_, ?_, congrArg MgmtSt.cnt hmgmt, congrArg MgmtSt.inStart hmgmt, rfl, ?_⟩
      · rw [inForce, written]
      · rw [inForce, written]
      · rw [← hm]
        exact congrArg MgmtSt.restart hmgmt
  case commit =>
    have hm := takenState_mgmt 0x0124 m s
    have hboot : bootRec (takenState 0x0124 m s) = bootRec s := bootRec_congr (by rw [hm]) (by rw [hm])
    obtain ⟨t, hc, hmgmt⟩ := updateCommit_malor htr
    have written := bootRec_bootWrite (bootSet 1 (bootRec (takenState 0x0124 m s)).malorActive false)
      (s := takenState 0x0124 m s) (by rw [hboot]; exact hseq)
    obtain ⟨a, b, e⟩ := bootWrite_frame (bootSet 1 (bootRec (takenState 0x0124 m s)).malorActive false) (takenState 0x0124 m s)
    have inForce := (bootRec_congr (congrArg MgmtSt.bootA hmgmt) (congrArg MgmtSt.bootB hmgmt)).trans written
    rw [hboot] at inForce
    refine ⟨t, mailOut_answers_of_payload ht hp hc, ?_, ?_, ?_, ?_, ?_⟩
    · rw [inForce]; rfl
    · rw [inForce]; rfl
    · rw [inForce]
    · rw [hmgmt, e, hm]
    · rw [hmgmt, e, hm]
  case noTrial => exact mailOut_refuses_of_payload ht hp (updateCommit_noTrial htr)
  case abort =>
    have run := mailOut_answers_of_payload ht hp (updateAbort_open hu)
    have hm := takenState_mgmt 0x0125 m s
    have himg := slotImage_congr hm
    have hboot : bootRec (takenState 0x0125 m s) = bootRec s := bootRec_congr (by rw [hm]) (by rw [hm])
    refine ⟨_, run, rfl, slotImage_setSlotImage_same .., ?_, ?_⟩
    · rw [updateClose, slotImage_onUpdate, slotImage_setSlotImage_other, himg]
    · rw [updateClose, bootRec_onUpdate, bootRec_setSlotImage, hboot]

end Sys2Proof
end

section
/-! SUPPORT. Temperature, supplies and load: the sensors' readings and thresholds (R113, R114), the OX point they force (R83, R86),
the supply monitors and the shed level (R111, R113). -/

namespace Sys2Proof.Machine

/-! ### Temperature (R113, R114) -/

theorem awake_of_plantRuns {s : State} (h : plantRuns s = true) : awake s = true := by
  simp only [plantRuns, Bool.and_eq_true] at h
  exact h.1.1

/-- A list read index by index. -/
theorem map_upTo_eq {α β : Type} {l : List α} {n : Nat} {f : Nat → β} {g : α → β} (hn : l.length = n)
    (h : ∀ k v, l[k]? = some v → f k = g v) : (upTo n).map f = l.map g := by
  subst hn
  refine List.ext_getElem (by simp [upTo]) fun k h1 h2 => ?_
  have hk : k < l.length := by simpa using h2
  simp [upTo, h k l[k] (List.getElem?_eq_getElem hk)]

theorem anyAbove_readings (c : Int) (l : List Int) : anyAbove c (l.map some) = true ↔ ∃ v ∈ l, 128 * c ≤ v := by
  simp [anyAbove]

theorem anyAbove_below {c : Int} {l : List Int} (h : ∀ v ∈ l, v < 128 * c) : anyAbove c (l.map some) = false := by
  rw [Bool.eq_false_iff, ne_eq, anyAbove_readings]
  rintro ⟨v, hv, hc⟩
  exact absurd (h v hv) (by omega)

/-- The readings of all six sensors. -/
def withReadings (l : List Int) (s : State) : State := onMgmt (fun m => { m with tsens := l.map some }) s

/-- The state with the readings, EV_MGMT_TEMP_WARN raised where the first sensor has come to WARN (R114). -/
def tempWarned (l : List Int) (s : State) : State :=
  if anyAbove (parN s 0x0103) (l.map some) && !anyAbove (parN s 0x0103) s.mgmt.tsens && malorWorks s then
    raise 0x0120 4 0 0 0 (withReadings l s)
  else withReadings l s

theorem tempWarned_readings (l : List Int) (s : State) : SameMain (tempWarned l s) (withReadings l s) := by
  unfold tempWarned
  split
  · exact sameMain (mainPart_raise ..)
  · exact sameMain rfl

/-- OX held at OPP-L from the crossing of HOT on (R114). -/
def hotHeld (s : State) : State :=
  oxPointTo 0 (onMgmt (fun m => { m with hotHold := true, oxLowered := m.oxLowered || decide (0 < m.hostOx) }) s)

/-- A crossing of a threshold by the readings of all six sensors (R114). -/
theorem tempCross_six {l : List Int} {s : State} (ha : awake s = true) (hl : l.length = 6) :
    tempCross l s =
      if anyAbove 120 (l.map some) then thermShut (withReadings l s)
      else if anyAbove 112 (l.map some) then
        if anyAbove 112 s.mgmt.tsens then tempWarned l s else raise 0x0121 4 0 0 0 (hotHeld (tempWarned l s))
      else if anyAbove 100 (l.map some) then tempWarned l s
      else onMgmt (fun m => { m with hotHold := false }) (tempWarned l s) := by
  have readings {f : Nat → Option Int} (hf : ∀ k v, l[k]? = some v → f k = some v) : (upTo 6).map f = l.map some :=
    map_upTo_eq hl hf
  unfold tempCross
  rw [if_neg (by simp [ha])]
  dsimp only
  rw [readings (fun k v h => by simp only [h])]
  rfl

/-- With no change in progress the OX point is lowered at once, its relock first (R83, R86). -/
theorem oxPointTo_lower {n : Nat} {s : State} (ho : s.power.opp = none) (hn : n < s.power.oppOx) :
    ∃ d k, oxPointTo n s = { s with power := { s.power with
      opp := some ⟨true, s.power.oppOx, n, false, false⟩, oxRelockDue := d, clkLock := k } } := by
  obtain ⟨d, k, e⟩ := oxRelock_frame (onPower (oppStart true n) s)
  have hpower : oxPointTo n s = oxRelock (onPower (oppStart true n) s) := by simp [oxPointTo, onPower, ho]
  rw [hpower, e, onPower_power, oppStart_lower hn]
  exact ⟨d, k, rfl⟩

/-- While a sensor is at WARN Malor's timer lowers the OX point by one step (R114). -/
theorem oxPointStep_warn {s : State} (hm : malorWorks s = true) (ho : s.power.opp = none)
    (hw : anyAbove (par s 0x0103) s.mgmt.tsens = true) (h0 : 0 < s.power.oppOx) :
    oxPointStep s = oxPointTo (s.power.oppOx - 1) (onMgmt (fun m => { m with oxLowered := true }) s) := by
  rw [oxPointStep]
  dsimp only
  rw [if_neg (by simp [hm, ho]), if_pos hw, if_neg (by omega)]

/-! ### Supplies (R113) -/

/-- A fault of a monitor other than those of VDD_SOC and VDDIO_A, which may latch FAIL (R519 cause 5), sets its flags and raises its
event. -/
theorem supplyFault_flags {n mv : Nat} {low : Bool} {s : State} (ha : awake s = true) (hn : n < 8) (h0 : n ≠ 0) (h2 : n ≠ 2)
    (h1 : n ≠ 1 ∨ isl s 8 ≠ .off) :
    supplyFault n mv low s = raise 0x0123 5 0 0 0 (onMgmt (fun m => { m with vmon := modNth m.vmon n (fun v =>
      { mv := mv % 65536, low := v.low || low, high := v.high || !low }) }) s) := by
  rw [supplyFault, if_neg]
  · exact if_neg (by omega)
  · have off : (n == 1 && isl s 8 == .off) = false := by
      obtain h | h := h1 <;> simp [h]
    simp [ha, hn, off]

/-! ### Load and shedding (R111) -/

/-- A deferred calibration that starts changes acquisition alone (R431). -/
theorem calTry_frame (s : State) : ∃ a, calTry s = { s with adc := a } := by
  unfold calTry
  split
  · exact ⟨_, rfl⟩
  · split <;> exact ⟨_, rfl⟩

/-- The telemetry registers after a window that brings the shed level to `new` (R117). -/
def withLoad (load new : Nat) (m : MgmtSt) : MgmtSt :=
  { m with
    load := min load 100, loadMax := max m.loadMax (min load 100), shed := new
    shedSecs := if m.shed = 0 then m.shedSecs else satInc 32 m.shedSecs }

/-- A change of the shed level is reported, and may let a calibration start (R111). -/
theorem loadWindow_change {load : Nat} {s : State} (hm : malorWorks s = true) (h : s.mgmt.shed ≠ shedAfter s load) :
    ∃ a, loadWindow load s =
      { raise 0x0112 2 s.mgmt.shed (shedAfter s load) load (onMgmt (withLoad load (shedAfter s load)) s) with adc := a } := by
  obtain ⟨a, e⟩ := calTry_frame
    (raise 0x0112 2 s.mgmt.shed (shedAfter s load) load (onMgmt (withLoad load (shedAfter s load)) s))
  refine ⟨a, ?_⟩
  rw [loadWindow, if_neg (by simp [hm])]
  exact (if_neg h).trans e

/-- A window between the limits leaves the shed level and reports nothing. -/
theorem loadWindow_same {load : Nat} {s : State} (hm : malorWorks s = true) (h : s.mgmt.shed = shedAfter s load) :
    loadWindow load s = onMgmt (withLoad load (shedAfter s load)) s := by
  rw [loadWindow, if_neg (by simp [hm])]
  exact if_pos h

theorem shedAfter_high {s : State} {load : Nat} (h : parN s 0x0101 ≤ load) : shedAfter s load = min 4 (s.mgmt.shed + 1) :=
  if_pos h

theorem shedAfter_low {s : State} {load : Nat} (h : load < parN s 0x0101) (hl : load ≤ parN s 0x0102) :
    shedAfter s load = s.mgmt.shed - 1 := (if_neg (by omega)).trans (if_pos hl)

theorem shedAfter_between {s : State} {load : Nat} (h : load < parN s 0x0101) (hl : parN s 0x0102 < load) :
    shedAfter s load = s.mgmt.shed := (if_neg (by omega)).trans (if_neg (by omega))

end Sys2Proof.Machine
end

section
/-! Temperature, supplies and load: O14. -/

namespace Sys2Proof.Machine

/-- Settles O14: a crossing shuts down, forces OPP-L or frees OX; the timer lowers the point; a monitor's flags are set; a window
moves the shed level. The list of aggregates and the window marked absent rest on log 31. -/
theorem temperatureSuppliesLoad : Obligations.TemperatureSuppliesLoad := by
  unfold Obligations.TemperatureSuppliesLoad
  refine ⟨fun s l hr hl hlt hex hold ho hp => ?hot, fun s l hr hl hex => ?shut, fun s l hr hl hlt hh => ?cool,
    fun s hm ho hw h0 => ?timer, fun s n mv low hr hn h0 h2 h1 hv => ?supply, fun s load hm hhi h4 => ?up,
    fun s load hm hhi hlo h0 => ?down, fun s load hm hhi hlo => ?same, fun s hm => congrArg Host.Outcome.next (if_pos hm)⟩
  case hot =>
    have run : tempCross l s = raise 0x0121 4 0 0 0 (hotHeld (tempWarned l s)) := by
      rw [tempCross_six (awake_of_plantRuns hr) hl, anyAbove_below hlt, (anyAbove_readings 112 l).mpr hex, hold]
      rfl
    have same := tempWarned_readings l s
    have hpower : (tempWarned l s).power = s.power := same.power
    obtain ⟨d, k, e⟩ := oxPointTo_lower (n := 0) (s := onMgmt (fun m => { m with
      hotHold := true, oxLowered := m.oxLowered || decide (0 < m.hostOx) }) (tempWarned l s))
      (by rw [onMgmt_power, hpower]; exact ho) (by rw [onMgmt_power, hpower]; exact hp)
    rw [hotHeld, e] at run
    refine ⟨_, congrArg Host.Outcome.next run, ?_⟩
    simp [hpower, same.mgmt, withReadings]
  case shut =>
    have run : tempCross l s = thermShut (withReadings l s) := by
      rw [tempCross_six (awake_of_plantRuns hr) hl, if_pos ((anyAbove_readings 120 l).mpr hex)]
    exact ⟨_, congrArg Host.Outcome.next run, rfl, rfl, rfl, rfl, rfl, rfl⟩
  case cool =>
    have below (c : Int) (hc : 100 ≤ c) : anyAbove c (l.map some) = false :=
      anyAbove_below fun v hv => lt_of_lt_of_le (hlt v hv) (by omega)
    have run : tempCross l s = onMgmt (fun m => { m with hotHold := false }) (tempWarned l s) := by
      rw [tempCross_six (awake_of_plantRuns hr) hl, below 120 (by norm_num), below 112 (by norm_num), below 100 (by norm_num)]
      rfl
    exact ⟨_, congrArg Host.Outcome.next run, rfl, (congrArg MgmtSt.tsens (tempWarned_readings l s).mgmt :)⟩
  case timer =>
    obtain ⟨d, k, e⟩ := oxPointTo_lower (n := s.power.oppOx - 1) (s := onMgmt (fun m => { m with oxLowered := true }) s) ho
      (Nat.sub_one_lt_of_lt h0)
    exact ⟨_, congrArg Host.Outcome.next ((oxPointStep_warn hm ho hw h0).trans e), rfl, rfl, rfl, rfl⟩
  case supply =>
    have run := supplyFault_flags (mv := mv) (low := low) (awake_of_plantRuns hr) hn h0 h2 h1
    have hat : s.mgmt.vmon[n]? = some s.mgmt.vmon[n] := List.getElem?_eq_getElem (by omega)
    refine ⟨_, congrArg Host.Outcome.next run, ?_⟩
    rw [raise_mgmt, raise_power, raise_pair, onMgmt_mgmt, nth_modNth_same _ hat]
    refine ⟨rfl, ?_, fun k hk => nth_modNth_other _ _ _ _ _ hk, rfl, rfl⟩
    cases low <;> simp
  case up =>
    have hshed : shedAfter s load = s.mgmt.shed + 1 := (shedAfter_high hhi).trans (by omega)
    obtain ⟨a, e⟩ := loadWindow_change (load := load) hm (by omega)
    refine ⟨_, congrArg Host.Outcome.next e, ?_⟩
    simp [withLoad, hshed]
  case down =>
    have hshed := shedAfter_low hhi hlo
    obtain ⟨a, e⟩ := loadWindow_change (load := load) hm (by omega)
    refine ⟨_, congrArg Host.Outcome.next e, ?_⟩
    simp [withLoad, hshed, h0.ne']
  case same =>
    have hshed := shedAfter_between hhi hlo
    exact ⟨_, congrArg Host.Outcome.next (loadWindow_same hm hshed.symm), hshed, rfl, rfl⟩

end Sys2Proof.Machine
end

section
/-! SUPPORT. What a step leaves of the mailboxes' owner and done bits and of the record buffer's fill (R133, R545): the functions
that leave them as they are, chapter by chapter, and then those that ring, answer, flush or reset. -/

namespace Sys2Proof.Machine

/-! ### The owner and done bits and the fill of the buffer -/

/-- The buffer's 2,048 slots hold this many records (R545). -/
def fits (n : Nat) : Bool := decide (n ≤ 2048)

/-- MBOX_OWNER and MBOX_DONE beside whether the buffer's records fit. Neither this nor `fits` unfolds by itself, so that `simp`
compares what a step has to account for of two states as one value. -/
def tally (owner done : BitVec 8) (fit : Bool) : BitVec 8 × BitVec 8 × Bool := (owner, done, fit)

/-- What a step has to account for. -/
abbrev hostRec (s : State) : BitVec 8 × BitVec 8 × Bool := tally s.host.owner s.host.done (fits s.recorder.buf.length)

@[simp] theorem hostRec_ite (c : Prop) [Decidable c] (a b : State) :
    hostRec (if c then a else b) = if c then hostRec a else hostRec b := apply_ite hostRec c a b

@[simp] theorem hostRec_foldl {α : Type} {f : State → α → State} (h : ∀ s a, hostRec (f s a) = hostRec s) (l : List α) (s : State) :
    hostRec (l.foldl f s) = hostRec s := by
  induction l generalizing s with
  | nil => rfl
  | cons a l ih => rw [List.foldl_cons, ih, h]

/-- A record that the writer takes leaves the buffer's fill within its slots or beyond them as it was (R545, R554). -/
@[simp] theorem fits_writeRec (rom : Bool) (c k p q r ont : Nat) (x : RecorderSt) :
    fits (writeRec rom c k p q r ont x).buf.length = fits x.buf.length := by
  unfold writeRec
  split
  · rfl
  · simp only [fits, decide_eq_decide]
    split <;> simp <;> omega

@[simp] theorem fits_raiseBy (rom : Bool) (c k p q r : Nat) (s : State) :
    fits (raiseBy rom c k p q r s).recorder.buf.length = fits s.recorder.buf.length := by
  unfold raiseBy; split <;> simp

@[simp] theorem fits_raise (c k p q r : Nat) (s : State) :
    fits (raise c k p q r s).recorder.buf.length = fits s.recorder.buf.length := fits_raiseBy ..

@[simp] theorem setPos_buf (ring pos : Nat) (f : RingPos → RingPos) (r : RecorderSt) : (setPos ring pos f r).buf = r.buf := by
  unfold setPos; split <;> rfl

@[simp] theorem hostRec_onRec {f : RecorderSt → RecorderSt} (h : ∀ r, fits (f r).buf.length = fits r.buf.length) (s : State) :
    hostRec (onRec f s) = hostRec s := congrArg (tally s.host.owner s.host.done) (h s.recorder)

@[simp] theorem hostRec_onHost {f : HostSt → HostSt} (ho : ∀ h, (f h).owner = h.owner) (hd : ∀ h, (f h).done = h.done)
    (s : State) : hostRec (onHost f s) = hostRec s := by
  simp [hostRec, ho, hd]

@[simp] theorem hostRec_onPower (f : PowerSt → PowerSt) (s : State) : hostRec (onPower f s) = hostRec s := rfl

/-! ### Functions that leave all three as they are -/

section

variable (n k i j a b c d e f g h : Nat) (p q r : Bytes) (x y z : Bool) (m : Mail) (v w u : Int) (s : State)

/-! #### Parameters -/

@[simp] theorem hostRec_parWrite : hostRec (parWrite x n v s) = hostRec s := by simp [parWrite]
@[simp] theorem hostRec_tabWrite : hostRec (tabWrite x n p s) = hostRec s := by simp [tabWrite]
@[simp] theorem hostRec_parCommit (p : Nat → Bool) : hostRec (parCommit p s) = hostRec s := by simp [parCommit]

/-! #### Events -/

@[simp] theorem hostRec_raiseBy : hostRec (raiseBy x n k i j a s) = hostRec s := by simp [hostRec]
@[simp] theorem hostRec_oneCycle {f : State → State} (h : ∀ s, hostRec (f s) = hostRec s) (s : State) :
    hostRec (oneCycle f s) = hostRec s := by
  simpa [hostRec] using h s
@[simp] theorem hostRec_raise : hostRec (raise n k i j a s) = hostRec s := by simp [hostRec]
@[simp] theorem hostRec_hostDrops : hostRec (hostDrops n s) = hostRec s := by simp [hostRec, hostDrops]
@[simp] theorem hostRec_hostDrop : hostRec (hostDrop s) = hostRec s := by simp [hostDrop]
@[simp] theorem hostRec_ringIgnored : hostRec (ringIgnored s) = hostRec s := by simp [hostRec, ringIgnored]
@[simp] theorem hostRec_drawn : hostRec s.drawn = hostRec s := rfl

/-! #### The shared operations -/

@[simp] theorem hostRec_setIsl (n : Nat) (x : IslSt) (s : State) : hostRec (setIsl n x s) = hostRec s := rfl
@[simp] theorem hostRec_idleExit (s : State) : hostRec (idleExit s) = hostRec s := by
  unfold idleExit; split <;> rfl

@[simp] theorem hostRec_latchWake (n : Nat) (s : State) : hostRec (latchWake n s) = hostRec s := by
  simp [hostRec]
@[simp] theorem hostRec_oxRelock : hostRec (oxRelock s) = hostRec s := by simp [oxRelock]
@[simp] theorem hostRec_setUnit (x : UnitSt) : hostRec (setUnit n k x s) = hostRec s := rfl
@[simp] theorem hostRec_padWrite : hostRec (padWrite n k s) = hostRec s := by simp [padWrite]
@[simp] theorem hostRec_padLoad : hostRec (padLoad n s) = hostRec s := by simp [padLoad]
@[simp] theorem hostRec_dinFeed (runs : List (Nat × Nat)) : hostRec (dinFeed runs s) = hostRec s := by simp [dinFeed]
@[simp] theorem hostRec_padLoadOwner : hostRec (padLoadOwner n s) = hostRec s := by simp [padLoadOwner]
@[simp] theorem hostRec_send (m : OutMsg) : hostRec (send m s) = hostRec s := by simp [send]
@[simp] theorem hostRec_onNet (f : NetSt → NetSt) : hostRec (onNet f s) = hostRec s := by simp [onNet]
@[simp] theorem hostRec_onPort (f : PortSt → PortSt) : hostRec (onPort n f s) = hostRec s := by simp [onPort]
@[simp] theorem hostRec_portRx : hostRec (portRx n s) = hostRec s := by simp [portRx]
@[simp] theorem hostRec_portSend (m : OutMsg) : hostRec (portSend n m s) = hostRec s := by simp [portSend]

/-! #### Mailbox commands -/

@[simp] theorem hostRec_slotAsk : hostRec (slotAsk n k s) = hostRec s := by simp [slotAsk]
@[simp] theorem hostRec_setSession (x : Option Session) : hostRec (setSession n x s) = hostRec s := by simp [setSession]
@[simp] theorem hostRec_endSession : hostRec (endSession n s) = hostRec s := by
  unfold endSession; dsimp only; split <;> simp
@[simp] theorem hostRec_tagMiss : hostRec (tagMiss n s) = hostRec s := by
  unfold tagMiss; split <;> simp
@[simp] theorem hostRec_done : hostRec (done s p).st = hostRec s := by simp [done]
@[simp] theorem hostRec_refuse : hostRec (refuse s n k p).st = hostRec s := by simp [refuse]
@[simp] theorem hostRec_pendingAns : hostRec (pendingAns s n).st = hostRec s := by simp [pendingAns]
@[simp] theorem hostRec_sessionAccept : hostRec (sessionAccept n k s) = hostRec s := by
  unfold sessionAccept; split <;> simp
@[simp] theorem hostRec_mailBusy : hostRec (mailBusy n p s).st = hostRec s := by simp [mailBusy]
@[simp] theorem hostRec_later : hostRec (later s).st = hostRec s := by simp [later]

/-! #### Network time -/

@[simp] theorem hostRec_onTime (f : TimeSt → TimeSt) : hostRec (onTime f s) = hostRec s := by simp [onTime]
@[simp] theorem hostRec_onTrg (f : Trigger → Trigger) : hostRec (onTrg n f s) = hostRec s := by simp [onTrg]
@[simp] theorem hostRec_handPulse : hostRec (handPulse n k s) = hostRec s := by simp [handPulse]
@[simp] theorem hostRec_captPulse : hostRec (captPulse n x s) = hostRec s := by simp [captPulse]
@[simp] theorem hostRec_trgFire : hostRec (trgFire n s) = hostRec s := by
  unfold trgFire; split <;> simp
@[simp] theorem hostRec_trgLate : hostRec (trgLate n s) = hostRec s := by
  unfold trgLate; split <;> simp

@[simp] theorem hostRec_trgFull (s : State) : hostRec (trgFull s) = hostRec s := by
  unfold trgFull
  refine hostRec_foldl (fun s n => ?_) _ s
  split <;> simp

@[simp] theorem hostRec_deadlinesLatch : hostRec (deadlinesLatch s) = hostRec s := by simp [deadlinesLatch]
@[simp] theorem hostRec_stepOnt : hostRec (stepOnt n s) = hostRec s := by simp [stepOnt]
@[simp] theorem hostRec_clearLocked : hostRec (clearLocked s) = hostRec s := by simp [clearLocked]
@[simp] theorem hostRec_leaveLock : hostRec (leaveLock v s) = hostRec s := by simp [leaveLock]
@[simp] theorem hostRec_servoStep : hostRec (servoStep v s) = hostRec s := by simp [servoStep]
@[simp] theorem hostRec_servoPi : hostRec (servoPi v n s) = hostRec s := by simp [servoPi]
@[simp] theorem hostRec_servoLock : hostRec (servoLock v s) = hostRec s := by simp [servoLock]
@[simp] theorem hostRec_servoRun : hostRec (servoRun v n s) = hostRec s := by simp [servoRun]
@[simp] theorem hostRec_holdover : hostRec (holdover s) = hostRec s := by simp [holdover]
@[simp] theorem hostRec_portSet : hostRec (portSet n k s) = hostRec s := by simp [portSet]
@[simp] theorem hostRec_runBmca (timed : Option Nat) : hostRec (runBmca timed s) = hostRec s := by simp [runBmca]
@[simp] theorem hostRec_ptpGot : hostRec (ptpGot n s) = hostRec s := by simp [ptpGot]
@[simp] theorem hostRec_timeCommit : hostRec (timeCommit s) = hostRec s := by simp [timeCommit]

@[simp] theorem hostRec_ptpSync : hostRec (ptpSync n k i v s) = hostRec s := by
  unfold ptpSync; dsimp only; repeat' split
  all_goals simp

@[simp] theorem hostRec_ptpDelay : hostRec (ptpDelay n k i v s) = hostRec s := by
  unfold ptpDelay; dsimp only; repeat' split
  all_goals simp

@[simp] theorem hostRec_pdelayReq : hostRec (pdelayReq n k i v s) = hostRec s := by simp [pdelayReq]
@[simp] theorem hostRec_delayReq : hostRec (delayReq n k i v s) = hostRec s := by simp [delayReq]
@[simp] theorem hostRec_takeSeq : hostRec (takeSeq n k s).2 = hostRec s := by simp [takeSeq]
@[simp] theorem hostRec_ptpInterval : hostRec (ptpInterval n k s) = hostRec s := by simp [ptpInterval]
@[simp] theorem hostRec_ptpAnnounce (a : Announce) : hostRec (ptpAnnounce n a s) = hostRec s := by simp [ptpAnnounce]
@[simp] theorem hostRec_announceTimeout : hostRec (announceTimeout n s) = hostRec s := by simp [announceTimeout]
@[simp] theorem hostRec_onCap (f : Capture → Capture) : hostRec (onCap n f s) = hostRec s := by simp [onCap]
@[simp] theorem hostRec_capEvent : hostRec (capEvent n k s) = hostRec s := by
  unfold capEvent; split <;> simp
@[simp] theorem hostRec_capture : hostRec (capture n x s) = hostRec s := by simp [capture]
@[simp] theorem hostRec_captureEdge : hostRec (captureEdge n x k s) = hostRec s := by simp [captureEdge]
@[simp] theorem hostRec_timeLost : hostRec (timeLost s) = hostRec s := by simp [timeLost]
@[simp] theorem hostRec_timeSet : hostRec (timeSet p s).st = hostRec s := by simp [timeSet]
@[simp] theorem hostRec_armTrigger : hostRec (armTrigger n x y z k i j a s) = hostRec s := by simp [armTrigger]
@[simp] theorem hostRec_trgArm : hostRec (trgArm p s).st = hostRec s := by simp [trgArm]
@[simp] theorem hostRec_disarm : hostRec (disarm n s) = hostRec s := by simp [disarm]
@[simp] theorem hostRec_trgStop : hostRec (trgStop p s).st = hostRec s := by simp [trgStop]
@[simp] theorem hostRec_timeStatusGet : hostRec (timeStatusGet p s).st = hostRec s := by simp [timeStatusGet]
@[simp] theorem hostRec_timeStart : hostRec (timeStart s) = hostRec s := by simp [timeStart]
@[simp] theorem hostRec_timeStop : hostRec (timeStop s) = hostRec s := by simp [timeStop]
@[simp] theorem hostRec_timeStopEnd : hostRec (timeStopEnd s) = hostRec s := by simp [timeStopEnd]

/-! #### The real-time clock -/

@[simp] theorem hostRec_onRtc (f : RtcSt → RtcSt) : hostRec (onRtc f s) = hostRec s := by simp [onRtc]
@[simp] theorem hostRec_onAlm (f : Alarm → Alarm) : hostRec (onAlm n f s) = hostRec s := by simp [onAlm]

@[simp] theorem hostRec_almRecord : hostRec (almRecord n s) = hostRec s := by
  unfold almRecord; repeat' split
  all_goals simp

@[simp] theorem hostRec_almFire : hostRec (almFire n k x s) = hostRec s := by
  unfold almFire; split <;> simp
@[simp] theorem hostRec_almEvaluate : hostRec (almEvaluate n k s) = hostRec s := by
  unfold almEvaluate; split <;> simp
@[simp] theorem hostRec_onShadow (f : Shadow → Shadow) : hostRec (onShadow x f s) = hostRec s := by simp [onShadow]
@[simp] theorem hostRec_rtcRelease : hostRec (rtcRelease s) = hostRec s := by simp [rtcRelease]
@[simp] theorem hostRec_rtcCtrlWrite : hostRec (rtcCtrlWrite n x s) = hostRec s := by simp [rtcCtrlWrite]
@[simp] theorem hostRec_rtcTimeWrite : hostRec (rtcTimeWrite n k s) = hostRec s := by simp [rtcTimeWrite]
@[simp] theorem hostRec_almTimeWrite : hostRec (almTimeWrite n k i s) = hostRec s := by
  unfold almTimeWrite; split <;> simp
@[simp] theorem hostRec_rtcFreeze : hostRec (rtcFreeze x s) = hostRec s := by simp [rtcFreeze]
@[simp] theorem hostRec_rtcUnfreeze : hostRec (rtcUnfreeze x s) = hostRec s := by simp [rtcUnfreeze]
@[simp] theorem hostRec_rtcTime0Read : hostRec (rtcTime0Read x s) = hostRec s := by simp [rtcTime0Read]
@[simp] theorem hostRec_rtcTime1Read : hostRec (rtcTime1Read x s) = hostRec s := by simp [rtcTime1Read]
@[simp] theorem hostRec_almCtrlWrite : hostRec (almCtrlWrite n k s) = hostRec s := by
  unfold almCtrlWrite; split <;> simp
@[simp] theorem hostRec_rtcAlarm : hostRec (rtcAlarm n s) = hostRec s := by
  unfold rtcAlarm; split <;> simp
@[simp] theorem hostRec_rtcEnd : hostRec (rtcEnd s) = hostRec s := by simp [rtcEnd]
@[simp] theorem hostRec_rtcEdge : hostRec (rtcEdge s) = hostRec s := by simp [rtcEdge]
@[simp] theorem hostRec_rtcTrimCheck : hostRec (rtcTrimCheck s) = hostRec s := by simp [rtcTrimCheck]
@[simp] theorem hostRec_rtcStatWrite : hostRec (rtcStatWrite n s) = hostRec s := by simp [rtcStatWrite]
@[simp] theorem hostRec_startOnt : hostRec (startOnt s) = hostRec s := by simp [startOnt]

/-! #### The host interface -/

@[simp] theorem hostRec_linkDown : hostRec (linkDown s) = hostRec s := by
  unfold linkDown
  split
  · exact (hostRec_raise ..).trans (hostRec_onHost (fun _ => rfl) (fun _ => rfl) s)
  · rfl
@[simp] theorem hostRec_doorbell : hostRec (doorbell s) = hostRec s := by simp [doorbell]
@[simp] theorem hostRec_mboxWrite (data : List (Option Byte)) : hostRec (mboxWrite n data s) = hostRec s := by simp [mboxWrite]

@[simp] theorem hostRec_paramEffect : hostRec (paramEffect n s) = hostRec s := by simp [paramEffect]

@[simp] theorem hostRec_writeOne (e : Nat × Bytes) : hostRec (writeOne s e) = hostRec s := by
  unfold writeOne; repeat' split
  all_goals simp

@[simp] theorem hostRec_paramWrite : hostRec (paramWrite p s).st = hostRec s := by
  unfold paramWrite; dsimp only; repeat' split
  all_goals simp

@[simp] theorem hostRec_paramRead : hostRec (paramRead p s).st = hostRec s := by
  unfold paramRead; dsimp only; repeat' split
  all_goals simp

@[simp] theorem hostRec_paramTableRead : hostRec (paramTableRead p s).st = hostRec s := by
  unfold paramTableRead; dsimp only; repeat' split
  all_goals simp

@[simp] theorem hostRec_paramTableWrite : hostRec (paramTableWrite p s).st = hostRec s := by
  unfold paramTableWrite; dsimp only; repeat' split
  all_goals simp

@[simp] theorem hostRec_paramInfo : hostRec (paramInfo p s).st = hostRec s := by
  unfold paramInfo; repeat' split
  all_goals simp

/-! #### Security -/

@[simp] theorem hostRec_onSec (f : SecSt → SecSt) : hostRec (onSec f s) = hostRec s := rfl
@[simp] theorem hostRec_setSlot (k : KeySlot) : hostRec (setSlot n k s) = hostRec s := by simp [setSlot]
@[simp] theorem hostRec_regenerate : hostRec (regenerate s) = hostRec s := by
  unfold regenerate; dsimp only; split <;> simp
@[simp] theorem hostRec_secShown : hostRec (secShown n k s) = hostRec s := by simp [secShown]
@[simp] theorem hostRec_secBody {body : State → Answer} (h : ∀ s, hostRec (body s).st = hostRec s) (c : Nat) (s : State) :
    hostRec (secBody c body s).st = hostRec s := by simp [secBody, h]
@[simp] theorem hostRec_helperRepair : hostRec (helperRepair s) = hostRec s := by simp [helperRepair]
@[simp] theorem hostRec_provWrite (f : Provision → Provision) : hostRec (provWrite f s) = hostRec s := by simp [provWrite]

@[simp] theorem hostRec_unwrapAll (s : State) : hostRec (unwrapAll s) = hostRec s := by
  unfold unwrapAll
  split
  · rfl
  · refine hostRec_foldl (fun s k => ?_) _ s
    split
    · rfl
    · split <;> simp

@[simp] theorem hostRec_sessionOpen : hostRec (sessionOpen p s).st = hostRec s := by
  unfold sessionOpen; repeat' split
  all_goals simp

@[simp] theorem hostRec_sessionConfirm : hostRec (sessionConfirm p s).st = hostRec s := by
  unfold sessionConfirm; repeat' split
  all_goals simp

@[simp] theorem hostRec_sessionClose : hostRec (sessionClose m s).st = hostRec s := by
  unfold sessionClose; repeat' split
  all_goals simp

@[simp] theorem hostRec_keyPlace (key : Option Bytes) : hostRec (keyPlace n k i key s) = hostRec s := by simp [keyPlace]

@[simp] theorem hostRec_keyImport : hostRec (keyImport m s).st = hostRec s := by
  unfold keyImport; dsimp only; repeat' split
  all_goals simp

@[simp] theorem hostRec_keyClear : hostRec (keyClear p s).st = hostRec s := by simp [keyClear]
@[simp] theorem hostRec_otpSet : hostRec (otpSet n k s) = hostRec s := by simp [otpSet]
@[simp] theorem hostRec_otpKeySet : hostRec (otpKeySet p s).st = hostRec s := by simp [otpKeySet]
@[simp] theorem hostRec_keyRevoke : hostRec (keyRevoke p s).st = hostRec s := by simp [keyRevoke]
@[simp] theorem hostRec_clearSlots : hostRec (clearSlots s) = hostRec s := by simp [clearSlots]
@[simp] theorem hostRec_retireErase : hostRec (retireErase s) = hostRec s := by simp [retireErase]

@[simp] theorem hostRec_advance (n : Nat) (s : State) : hostRec (advance n s) = hostRec s := by
  unfold advance
  extract_lets s1 s2 s3
  have e2 : hostRec s2 = hostRec s := by simp [s2, s1]
  split
  · have e3 : hostRec s3 = hostRec s := by simp [s3, e2]
    clear_value s3
    exact e3
  · exact e2

@[simp] theorem hostRec_lifecycleAdvance : hostRec (lifecycleAdvance p s).st = hostRec s := by simp [lifecycleAdvance]
@[simp] theorem hostRec_enrol : hostRec (enrol p s).st = hostRec s := by simp [enrol]

@[simp] theorem hostRec_dikGet : hostRec (dikGet p s).st = hostRec s := by
  unfold dikGet; repeat' split
  all_goals simp

@[simp] theorem hostRec_certWrite : hostRec (certWrite p s).st = hostRec s := by
  unfold certWrite; split <;> simp

@[simp] theorem hostRec_certCommit : hostRec (certCommit p s).st = hostRec s := by
  unfold certCommit; repeat' split
  all_goals simp

@[simp] theorem hostRec_certGet : hostRec (certGet p s).st = hostRec s := by simp [certGet]
@[simp] theorem hostRec_attest : hostRec (attest p s).st = hostRec s := by simp [attest]

/-! #### Images and boot records -/

@[simp] theorem hostRec_bootWrite (f : BootRec → BootRec) : hostRec (bootWrite f s) = hostRec s := by simp [bootWrite]
@[simp] theorem hostRec_setSlotImage : hostRec (setSlotImage n x p s) = hostRec s := by simp [setSlotImage]

/-! #### The network model -/

@[simp] theorem hostRec_onModel (f : ModelSt → ModelSt) : hostRec (onModel f s) = hostRec s := by simp [onModel]
@[simp] theorem hostRec_setEntry (e : Entry) : hostRec (setEntry n e s) = hostRec s := by simp [setEntry]
@[simp] theorem hostRec_acceptEntry (e : Entry) : hostRec (acceptEntry n e s) = hostRec s := by
  unfold acceptEntry; split <;> simp
@[simp] theorem hostRec_entryBad : hostRec (entryBad n s) = hostRec s := by simp [entryBad]
@[simp] theorem hostRec_modelInfoGet : hostRec (modelInfoGet p s).st = hostRec s := by simp [modelInfoGet]
@[simp] theorem hostRec_substApply : hostRec (substApply p s).1 = hostRec s := by simp [substApply]

@[simp] theorem hostRec_substAll (p : Bytes) (l : List Nat) (s : State) : hostRec (substAll p l s).1 = hostRec s := by
  induction l generalizing s with
  | nil => rfl
  | cons k l ih => exact (ih _).trans (hostRec_substApply ..)

@[simp] theorem hostRec_substWrite : hostRec (substWrite p s).st = hostRec s := by
  unfold substWrite; dsimp only; repeat' split
  all_goals simp

@[simp] theorem hostRec_attributePass : hostRec (attributePass p s) = hostRec s := by simp [attributePass]
@[simp] theorem hostRec_modelGone : hostRec (modelGone s) = hostRec s := by simp [modelGone]
@[simp] theorem hostRec_modelPlace : hostRec (modelPlace s) = hostRec s := by simp [modelPlace]

@[simp] theorem hostRec_modelEffect (img : Bytes) (slot : Bool) (s : State) : hostRec (modelEffect img slot s) = hostRec s := by
  unfold modelEffect
  extract_lets s1
  have e1 : hostRec s1 = hostRec s := by simp [s1]
  clear_value s1
  exact e1

@[simp] theorem hostRec_modelLoad (s : State) : hostRec (modelLoad s) = hostRec s := by
  unfold modelLoad
  dsimp only
  split
  · rw [hostRec_raise, hostRec_modelGone]
  · rw [hostRec_attributePass, hostRec_modelEffect]

@[simp] theorem hostRec_modelCopyEcc : hostRec (modelCopyEcc n s) = hostRec s := by simp [modelCopyEcc]
@[simp] theorem hostRec_silentCheck (snap : List (Nat × Entry)) : hostRec (silentCheck snap n s) = hostRec s := by simp [silentCheck]

/-! #### Sources -/

@[simp] theorem hostRec_holdSample : hostRec (holdSample n k s) = hostRec s := by
  unfold holdSample; split <;> simp

/-! #### Gates -/

@[simp] theorem hostRec_onPair (f : PairSt → PairSt) : hostRec (onPair f s) = hostRec s := rfl
@[simp] theorem hostRec_canPendingGone : hostRec (canPendingGone s) = hostRec s := rfl
@[simp] theorem hostRec_holdStart : hostRec (holdStart n s) = hostRec s := by simp [holdStart]
@[simp] theorem hostRec_failLatch : hostRec (failLatch n s) = hostRec s := by
  unfold failLatch
  split
  · rfl
  · rw [hostRec_raise]; split <;> simp

@[simp] theorem hostRec_mirrorTake : hostRec (mirrorTake n k s).2 = hostRec s := by
  unfold mirrorTake; repeat' split
  all_goals simp

/-! #### Ox -/

@[simp] theorem hostRec_onOx (f : OxSt → OxSt) : hostRec (onOx f s) = hostRec s := by simp [onOx]
@[simp] theorem hostRec_onQ (f : OxQueue → OxQueue) : hostRec (onQ n f s) = hostRec s := by simp [onQ]
@[simp] theorem hostRec_stick : hostRec (stick n k s) = hostRec s := by simp [stick]
@[simp] theorem hostRec_mark (m : Nat × Nat) : hostRec (mark n k m s) = hostRec s := by simp [mark]
@[simp] theorem hostRec_marks (l : Marks) : hostRec (marks n k l s) = hostRec s := by simp [marks]
@[simp] theorem hostRec_setFactor : hostRec (setFactor n k i s) = hostRec s := by simp [setFactor]
@[simp] theorem hostRec_factBegin : hostRec (factBegin n s) = hostRec s := by simp [factBegin]
@[simp] theorem hostRec_pivotCount (fac : List FacCol) : hostRec (pivotCount n fac s) = hostRec s := by simp [pivotCount]
@[simp] theorem hostRec_factEnd : hostRec (factEnd n s) = hostRec s := by simp [factEnd]
@[simp] theorem hostRec_refineOver : hostRec (refineOver n s) = hostRec s := by simp [refineOver]
@[simp] theorem hostRec_refineNext : hostRec (refineNext n s) = hostRec s := by simp [refineNext]
@[simp] theorem hostRec_solveEnd : hostRec (solveEnd n s) = hostRec s := by simp [solveEnd]
@[simp] theorem hostRec_residEnd : hostRec (residEnd n s) = hostRec s := by simp [residEnd]
@[simp] theorem hostRec_corrEnd : hostRec (corrEnd n s) = hostRec s := by simp [corrEnd]
@[simp] theorem hostRec_checkEnd : hostRec (checkEnd n s) = hostRec s := by simp [checkEnd]
@[simp] theorem hostRec_diagPublish (x : OxQueue) : hostRec (diagPublish n x s) = hostRec s := by
  unfold diagPublish; split <;> simp
@[simp] theorem hostRec_oxNeed : hostRec (oxNeed s) = hostRec s := by simp [oxNeed]
@[simp] theorem hostRec_oxRun : hostRec (oxRun n s) = hostRec s := by simp [oxRun]
@[simp] theorem hostRec_oxResume : hostRec (oxResume s) = hostRec s := by simp [oxResume]
@[simp] theorem hostRec_oxKick : hostRec (oxKick s) = hostRec s := by simp [oxKick]
@[simp] theorem hostRec_oxEndEvents (x : OxQueue) : hostRec (oxEndEvents n k x s) = hostRec s := by simp [oxEndEvents]
@[simp] theorem hostRec_armEnds : hostRec (armEnds n k s) = hostRec s := by simp [armEnds]
@[simp] theorem hostRec_armStart (a : ArmReq) : hostRec (armStart n a k s) = hostRec s := by simp [armStart]
@[simp] theorem hostRec_armCount : hostRec (armCount n s) = hostRec s := by simp [armCount]
@[simp] theorem hostRec_armNow (a : ArmReq) : hostRec (armNow n a s) = hostRec s := by simp [armNow]
@[simp] theorem hostRec_oxEnd : hostRec (oxEnd n k s) = hostRec s := by
  unfold oxEnd; dsimp only; split <;> simp
@[simp] theorem hostRec_nextTimeout : hostRec (nextTimeout n s) = hostRec s := by
  unfold nextTimeout; dsimp only; split <;> simp
@[simp] theorem hostRec_armWait (a : ArmReq) : hostRec (armWait n a s) = hostRec s := by simp [armWait]

theorem hostRec_oxArm {q : Nat} {a : ArmReq} {s t : State} (h : oxArm q a s = some t) : hostRec t = hostRec s := by
  unfold oxArm at h
  dsimp only at h
  repeat' split at h
  all_goals cases h
  all_goals simp

@[simp] theorem hostRec_oxAbortStart : hostRec (oxAbortStart n s) = hostRec s := by simp [oxAbortStart]
@[simp] theorem hostRec_blockBoundary : hostRec (blockBoundary n s) = hostRec s := by simp [blockBoundary]
@[simp] theorem hostRec_boundaryRelock : hostRec (boundaryRelock s) = hostRec s := by simp [boundaryRelock]
@[simp] theorem hostRec_oxTimeout : hostRec (oxTimeout n s) = hostRec s := by simp [oxTimeout]
@[simp] theorem hostRec_oxDataEcc : hostRec (oxDataEcc n k s) = hostRec s := by simp [oxDataEcc]
@[simp] theorem hostRec_storeBad : hostRec (storeBad n s) = hostRec s := by
  unfold storeBad; split <;> simp
@[simp] theorem hostRec_storeRead : hostRec (storeRead n s) = hostRec s := by simp [storeRead]
@[simp] theorem hostRec_storeWrite : hostRec (storeWrite n s) = hostRec s := by simp [storeWrite]
@[simp] theorem hostRec_factorsInvalid : hostRec (factorsInvalid s) = hostRec s := by simp [factorsInvalid]

@[simp] theorem hostRec_oxSolveArm (b : Bytes) (s : State) : hostRec (oxSolveArm b s).st = hostRec s := by
  unfold oxSolveArm
  extract_lets mode off
  split
  · rfl
  · split
    · rfl
    · split
      · rfl
      · split
        · rfl
        · split
          · rfl
          · next h => exact hostRec_oxArm h

@[simp] theorem hostRec_oxAbort : hostRec (oxAbort p s).st = hostRec s := by simp [oxAbort]

/-! #### Hydraulics -/

@[simp] theorem hostRec_onEst (f : EstSt → EstSt) : hostRec (onEst f s) = hostRec s := by simp [onEst]

/-! #### Drove -/

@[simp] theorem hostRec_droveStep (q : List Int) : hostRec (droveStep q n k s) = hostRec s := by simp [droveStep]
@[simp] theorem hostRec_droveRestart : hostRec (droveRestart s) = hostRec s := by simp [droveRestart]
@[simp] theorem hostRec_pipeRestart : hostRec (pipeRestart n s) = hostRec s := by simp [pipeRestart]
@[simp] theorem hostRec_droveFromPeer (o : Bulk) : hostRec (droveFromPeer o s) = hostRec s := by simp [droveFromPeer]

@[simp] theorem hostRec_droveSteps (q : List Int) (dt n k : Nat) (s : State) : hostRec (droveSteps q dt n k s) = hostRec s := by
  induction k generalizing s with
  | zero => rfl
  | succ k ih => simp [droveSteps, ih]

@[simp] theorem hostRec_droveOrigin : hostRec (droveOrigin s).1 = hostRec s := by
  unfold droveOrigin; dsimp only; split <;> simp
@[simp] theorem hostRec_droveAdvance (q : List Int) : hostRec (droveAdvance q s) = hostRec s := by simp [droveAdvance]
@[simp] theorem hostRec_rowBad : hostRec (rowBad n s) = hostRec s := by simp [rowBad]

/-! #### Estimation -/

@[simp] theorem hostRec_latchInputs : hostRec (latchInputs n s) = hostRec s := by simp [latchInputs]
@[simp] theorem hostRec_keepFlows : hostRec (keepFlows s) = hostRec s := by simp [keepFlows]
@[simp] theorem hostRec_newtonOver (found : Option HydState) : hostRec (newtonOver n found s) = hostRec s := by simp [newtonOver]
@[simp] theorem hostRec_newtonCause : hostRec (newtonCause n s) = hostRec s := by
  unfold newtonCause; split <;> simp

@[simp] theorem hostRec_newtonArm (s : State) : hostRec (newtonArm s) = hostRec s := by
  unfold newtonArm
  extract_lets a
  split
  · rfl
  · next h => simp [hostRec_oxArm h]

@[simp] theorem hostRec_newtonBegin : hostRec (newtonBegin s) = hostRec s := by simp [newtonBegin]

@[simp] theorem hostRec_estBegin : hostRec (estBegin n s) = hostRec s := by
  unfold estBegin; dsimp only; repeat' split
  all_goals simp

@[simp] theorem hostRec_takePulse : hostRec (takePulse n s).2 = hostRec s := by
  unfold takePulse; dsimp only; split <;> simp

@[simp] theorem hostRec_estBoundary (s : State) : hostRec (estBoundary s) = hostRec s := by
  unfold estBoundary
  split
  · have e := hostRec_takePulse 14 s
    split <;> simp_all
  · rfl

@[simp] theorem hostRec_keepPair : hostRec (keepPair s) = hostRec s := by simp [keepPair]
@[simp] theorem hostRec_estCount : hostRec (estCount s) = hostRec s := by simp [estCount]
@[simp] theorem hostRec_estPublish : hostRec (estPublish s) = hostRec s := by simp [estPublish]
@[simp] theorem hostRec_oxStart : hostRec (oxStart s) = hostRec s := by simp [oxStart]
@[simp] theorem hostRec_oxStop : hostRec (oxStop s) = hostRec s := by simp [oxStop]
/-! #### Loops -/

@[simp] theorem hostRec_onLoop (f : LoopSt → LoopSt) : hostRec (onLoop n f s) = hostRec s := by simp [onLoop]
@[simp] theorem hostRec_loopStick : hostRec (loopStick n k x s) = hostRec s := by simp [loopStick]
@[simp] theorem hostRec_loopEvent : hostRec (loopEvent n s) = hostRec s := by simp [loopEvent]
@[simp] theorem hostRec_loopEnter : hostRec (loopEnter n k s) = hostRec s := by simp [loopEnter]
@[simp] theorem hostRec_loopDrive : hostRec (loopDrive n v s) = hostRec s := by simp [loopDrive]
@[simp] theorem hostRec_loopOutput : hostRec (loopOutput n s) = hostRec s := by
  unfold loopOutput; split <;> simp
@[simp] theorem hostRec_loopFault : hostRec (loopFault n k i s) = hostRec s := by simp [loopFault]
@[simp] theorem hostRec_loopRestart : hostRec (loopRestart n s) = hostRec s := by simp [loopRestart]
@[simp] theorem hostRec_loopFilter : hostRec (loopFilter n v s) = hostRec s := by simp [loopFilter]
@[simp] theorem hostRec_loopProfile : hostRec (loopProfile n s) = hostRec s := by simp [loopProfile]
@[simp] theorem hostRec_loopSupervise : hostRec (loopSupervise n s) = hostRec s := by simp [loopSupervise]
@[simp] theorem hostRec_loopRun : hostRec (loopRun n s) = hostRec s := by simp [loopRun]
@[simp] theorem hostRec_loopStarting : hostRec (loopStarting n x s) = hostRec s := by simp [loopStarting]
@[simp] theorem hostRec_loopActive (src : Option (Int × Nat)) : hostRec (loopActive n src s) = hostRec s := by
  unfold loopActive; split <;> simp
@[simp] theorem hostRec_loopMirror : hostRec (loopMirror n p s) = hostRec s := by simp [loopMirror]
@[simp] theorem hostRec_loopClears : hostRec (loopClears n s) = hostRec s := by simp [loopClears]
@[simp] theorem hostRec_loopEcc : hostRec (loopEcc n s) = hostRec s := by
  unfold loopEcc; split <;> simp
@[simp] theorem hostRec_loopLatch (src : Option (Int × Nat)) : hostRec (loopLatch n src s) = hostRec s := by
  unfold loopLatch; split <;> simp

@[simp] theorem hostRec_loopDecide (n : Nat) (src : Option (Int × Nat)) (s : State) : hostRec (loopDecide n src s) = hostRec s := by
  unfold loopDecide
  extract_lets x
  split
  · have e := hostRec_mirrorTake 1 n (loopEnter n 5 s)
    split <;> simp_all
  · simp

@[simp] theorem hostRec_loopSample : hostRec (loopSample n s) = hostRec s := by simp [loopSample]
@[simp] theorem hostRec_loopMemoryEcc : hostRec (loopMemoryEcc n k s) = hostRec s := by simp [loopMemoryEcc]

@[simp] theorem hostRec_loopSpSet : hostRec (loopSpSet p s).st = hostRec s := by
  unfold loopSpSet; dsimp only; repeat' split
  all_goals simp

@[simp] theorem hostRec_loopClear : hostRec (loopClear p s).st = hostRec s := by
  unfold loopClear; dsimp only; repeat' split
  all_goals simp

@[simp] theorem hostRec_loopHand : hostRec (loopHand n v s) = hostRec s := by simp [loopHand]
@[simp] theorem hostRec_loopPermitGone : hostRec (loopPermitGone n s) = hostRec s := by simp [loopPermitGone]
@[simp] theorem hostRec_loopStart : hostRec (loopStart n s) = hostRec s := by simp [loopStart]
@[simp] theorem hostRec_loopStop : hostRec (loopStop n s) = hostRec s := by simp [loopStop]
@[simp] theorem hostRec_loopStopEnd : hostRec (loopStopEnd n s) = hostRec s := by simp [loopStopEnd]
@[simp] theorem hostRec_loopPark : hostRec (loopPark n s) = hostRec s := by simp [loopPark]
@[simp] theorem hostRec_loopResume : hostRec (loopResume n s) = hostRec s := by simp [loopResume]
@[simp] theorem hostRec_loopGrant : hostRec (loopGrant n s) = hostRec s := by simp [loopGrant]
@[simp] theorem hostRec_loopsRetain : hostRec (loopsRetain s) = hostRec s := by simp [loopsRetain]

/-! #### Axes -/

@[simp] theorem hostRec_onAxis (f : AxisSt → AxisSt) : hostRec (onAxis n f s) = hostRec s := by simp [onAxis]
@[simp] theorem hostRec_axisEvent : hostRec (axisEvent n s) = hostRec s := by simp [axisEvent]
@[simp] theorem hostRec_axisLevels : hostRec (axisLevels n s) = hostRec s := by simp [axisLevels]
@[simp] theorem hostRec_axisEnter : hostRec (axisEnter n k s) = hostRec s := by simp [axisEnter]
@[simp] theorem hostRec_axisWake : hostRec (axisWake n s) = hostRec s := by simp [axisWake]
@[simp] theorem hostRec_axisUncertain : hostRec (axisUncertain n s) = hostRec s := by simp [axisUncertain]
@[simp] theorem hostRec_axisHalt : hostRec (axisHalt n s) = hostRec s := by simp [axisHalt]
@[simp] theorem hostRec_axisFault : hostRec (axisFault n k s) = hostRec s := by simp [axisFault]
@[simp] theorem hostRec_axisEmit : hostRec (axisEmit n x k s) = hostRec s := by simp [axisEmit]
@[simp] theorem hostRec_axisDecel : hostRec (axisDecel n k s) = hostRec s := by simp [axisDecel]
@[simp] theorem hostRec_axisMoveEnd : hostRec (axisMoveEnd n s) = hostRec s := by simp [axisMoveEnd]
@[simp] theorem hostRec_axisProfile : hostRec (axisProfile n s) = hostRec s := by simp [axisProfile]
@[simp] theorem hostRec_axisBegin : hostRec (axisBegin n v s) = hostRec s := by simp [axisBegin]
@[simp] theorem hostRec_axisHoming : hostRec (axisHoming n s) = hostRec s := by simp [axisHoming]
@[simp] theorem hostRec_axisFollowEmit : hostRec (axisFollowEmit n x k s) = hostRec s := by simp [axisFollowEmit]
@[simp] theorem hostRec_axisCoarse : hostRec (axisCoarse n s) = hostRec s := by simp [axisCoarse]
@[simp] theorem hostRec_axisGeared : hostRec (axisGeared n s) = hostRec s := by simp [axisGeared]
@[simp] theorem hostRec_axisFollowStart : hostRec (axisFollowStart n s) = hostRec s := by simp [axisFollowStart]
@[simp] theorem hostRec_axisFollow : hostRec (axisFollow n s) = hostRec s := by simp [axisFollow]
@[simp] theorem hostRec_axisDo : hostRec (axisDo n s) = hostRec s := by
  unfold axisDo; split <;> simp

@[simp] theorem hostRec_axisActive : hostRec (axisActive n s) = hostRec s := by
  unfold axisActive; dsimp only; repeat' split
  all_goals simp

@[simp] theorem hostRec_axisMirror : hostRec (axisMirror n p s) = hostRec s := by simp [axisMirror]

@[simp] theorem hostRec_axisDecide (n : Nat) (s : State) : hostRec (axisDecide n s) = hostRec s := by
  unfold axisDecide
  dsimp only
  split
  · have e := hostRec_mirrorTake 2 n (axisEnter n 7 (if (axisOf s n).doing = 0 then s else axisHalt n s))
    split <;> simp_all
  · simp

@[simp] theorem hostRec_axisTick (din : List (Nat × Nat)) : hostRec (axisTick n din s) = hostRec s := by simp [axisTick]
@[simp] theorem hostRec_axisCoarseStep : hostRec (axisCoarseStep n x s) = hostRec s := by simp [axisCoarseStep]
@[simp] theorem hostRec_coarseStep : hostRec (coarseStep n x s) = hostRec s := by simp [coarseStep]
@[simp] theorem hostRec_coarseEdge : hostRec (coarseEdge n x k y s) = hostRec s := by simp [coarseEdge]
@[simp] theorem hostRec_axisGearSwitch : hostRec (axisGearSwitch n s) = hostRec s := by simp [axisGearSwitch]

@[simp] theorem hostRec_encoderStep (e : Nat) (up : Bool) (s : State) : hostRec (encoderStep e up s) = hostRec s := by
  unfold encoderStep
  extract_lets s1
  have e1 : hostRec s1 = hostRec s := rfl
  rw [hostRec_foldl (fun s n => ?_), e1]
  dsimp only
  split
  · exact hostRec_axisGearSwitch n s
  · rfl

@[simp] theorem hostRec_encoderEdge (e : Nat) (chB level : Bool) (n : Nat) (s : State) :
    hostRec (encoderEdge e chB level n s) = hostRec s := by
  unfold encoderEdge
  extract_lets k a b a' b' pins s1
  have e1 : hostRec s1 = hostRec s := rfl
  clear_value s1
  simp [e1]

@[simp] theorem hostRec_axisMemoryEcc : hostRec (axisMemoryEcc n s) = hostRec s := by simp [axisMemoryEcc]
@[simp] theorem hostRec_axisDiscard : hostRec (axisDiscard n s) = hostRec s := by simp [axisDiscard]
@[simp] theorem hostRec_axisTarget : hostRec (axisTarget n v s).1 = hostRec s := by
  unfold axisTarget; dsimp only; split <;> simp

@[simp] theorem hostRec_motMove : hostRec (motMove p s).st = hostRec s := by
  unfold motMove; dsimp only; repeat' split
  all_goals simp

@[simp] theorem hostRec_axisHand : hostRec (axisHand n v s) = hostRec s := by simp [axisHand]

@[simp] theorem hostRec_motStop : hostRec (motStop p s).st = hostRec s := by
  unfold motStop; dsimp only; repeat' split
  all_goals simp

@[simp] theorem hostRec_motHome : hostRec (motHome p s).st = hostRec s := by
  unfold motHome; dsimp only; repeat' split
  all_goals simp

@[simp] theorem hostRec_motGearArm : hostRec (motGearArm p s).st = hostRec s := by
  unfold motGearArm; dsimp only; repeat' split
  all_goals simp

@[simp] theorem hostRec_motClear : hostRec (motClear p s).st = hostRec s := by
  unfold motClear; dsimp only; repeat' split
  all_goals simp

@[simp] theorem hostRec_axisPermitGone : hostRec (axisPermitGone n s) = hostRec s := by simp [axisPermitGone]
@[simp] theorem hostRec_axisStart : hostRec (axisStart n s) = hostRec s := by simp [axisStart]
@[simp] theorem hostRec_axisStop : hostRec (axisStop n s) = hostRec s := by simp [axisStop]
@[simp] theorem hostRec_axisStopEnd : hostRec (axisStopEnd n s) = hostRec s := by simp [axisStopEnd]
@[simp] theorem hostRec_axisPark : hostRec (axisPark n s) = hostRec s := by simp [axisPark]
@[simp] theorem hostRec_axisResume : hostRec (axisResume n s) = hostRec s := by simp [axisResume]
@[simp] theorem hostRec_axisGrant : hostRec (axisGrant n s) = hostRec s := by simp [axisGrant]
@[simp] theorem hostRec_axesRetain : hostRec (axesRetain s) = hostRec s := by simp [axesRetain]

/-! #### CAN -/

@[simp] theorem hostRec_onCan (f : CanSt → CanSt) : hostRec (onCan n f s) = hostRec s := by simp [onCan]
@[simp] theorem hostRec_onObj (f : CanObj → CanObj) : hostRec (onObj n k f s) = hostRec s := by simp [onObj]

@[simp] theorem hostRec_canOffer : hostRec (canOffer n s) = hostRec s := by
  unfold canOffer; repeat' split
  all_goals simp

@[simp] theorem hostRec_objPend : hostRec (objPend n k s) = hostRec s := by simp [objPend]
@[simp] theorem hostRec_canErrState (before : CanSt) : hostRec (canErrState n before s) = hostRec s := by simp [canErrState]
@[simp] theorem hostRec_canBusOff : hostRec (canBusOff n s) = hostRec s := by simp [canBusOff]

@[simp] theorem hostRec_canMirror (c : Nat) (s : State) : hostRec (canMirror c s) = hostRec s := by
  unfold canMirror
  split
  · rfl
  · refine hostRec_foldl (fun s o => ?_) _ s
    have e := hostRec_mirrorTake 10 (128 * c + o) s
    split <;> simp_all

@[simp] theorem hostRec_canBoundary : hostRec (canBoundary n s) = hostRec s := by simp [canBoundary]
@[simp] theorem hostRec_canProtocol : hostRec (canProtocol n k s) = hostRec s := by simp [canProtocol]
@[simp] theorem hostRec_canError : hostRec (canError n k x i j s) = hostRec s := by simp [canError]
@[simp] theorem hostRec_canBusError : hostRec (canBusError n k x y i j s) = hostRec s := by simp [canBusError]
@[simp] theorem hostRec_canStore (f : CanFrame) : hostRec (canStore n k i f s) = hostRec s := by simp [canStore]

@[simp] theorem hostRec_canReceived (f : CanFrame) : hostRec (canReceived n f s) = hostRec s := by
  unfold canReceived; repeat' split
  all_goals simp

@[simp] theorem hostRec_canSent : hostRec (canSent n k i p s) = hostRec s := by simp [canSent]
@[simp] theorem hostRec_canTransmitted : hostRec (canTransmitted n k i s) = hostRec s := by
  unfold canTransmitted; split <;> simp
@[simp] theorem hostRec_canPeriodic : hostRec (canPeriodic n k s) = hostRec s := by simp [canPeriodic]
@[simp] theorem hostRec_canIntegrated : hostRec (canIntegrated n s) = hostRec s := by simp [canIntegrated]
@[simp] theorem hostRec_canStopCut : hostRec (canStopCut n s) = hostRec s := by
  unfold canStopCut; split <;> simp
@[simp] theorem hostRec_canObjectEcc : hostRec (canObjectEcc n k s) = hostRec s := by simp [canObjectEcc]
@[simp] theorem hostRec_canWrite : hostRec (canWrite n k i p s) = hostRec s := by simp [canWrite]
@[simp] theorem hostRec_canDiscard : hostRec (canDiscard n s) = hostRec s := by simp [canDiscard]
@[simp] theorem hostRec_canHand : hostRec (canHand n k i v s) = hostRec s := by
  unfold canHand; split <;> simp

@[simp] theorem hostRec_canObjWrite : hostRec (canObjWrite p s).st = hostRec s := by
  unfold canObjWrite; dsimp only; repeat' split
  all_goals simp

@[simp] theorem hostRec_canRecoverStart : hostRec (canRecoverStart n s) = hostRec s := by simp [canRecoverStart]

@[simp] theorem hostRec_canRecover : hostRec (canRecover n p s).st = hostRec s := by
  unfold canRecover; dsimp only; repeat' split
  all_goals simp

@[simp] theorem hostRec_canPermitGone : hostRec (canPermitGone n k s) = hostRec s := by simp [canPermitGone]
@[simp] theorem hostRec_canPermitBack : hostRec (canPermitBack n k s) = hostRec s := by simp [canPermitBack]
@[simp] theorem hostRec_canReassert : hostRec (canReassert n s) = hostRec s := by simp [canReassert]
@[simp] theorem hostRec_canStart : hostRec (canStart n s) = hostRec s := by simp [canStart]
@[simp] theorem hostRec_canStop : hostRec (canStop n s) = hostRec s := by
  unfold canStop; split <;> simp
@[simp] theorem hostRec_canStopEnd : hostRec (canStopEnd n s) = hostRec s := by simp [canStopEnd]
@[simp] theorem hostRec_canRecovered : hostRec (canRecovered n k i s) = hostRec s := by simp [canRecovered]
@[simp] theorem hostRec_canOffline : hostRec (canOffline n s) = hostRec s := by simp [canOffline]
@[simp] theorem hostRec_canStandbyAll : hostRec (canStandbyAll s) = hostRec s := by simp [canStandbyAll]
@[simp] theorem hostRec_canOnline : hostRec (canOnline n s) = hostRec s := by simp [canOnline]
@[simp] theorem hostRec_canLost : hostRec (canLost s) = hostRec s := by simp [canLost]

/-! #### Acquisition -/

@[simp] theorem hostRec_onAdc (f : AdcSt → AdcSt) : hostRec (onAdc f s) = hostRec s := by simp [onAdc]
@[simp] theorem hostRec_onCh (f : AdcCh → AdcCh) : hostRec (onCh n f s) = hostRec s := by simp [onCh]
@[simp] theorem hostRec_onRef (f : AdcRef → AdcRef) : hostRec (onRef f s) = hostRec s := by simp [onRef]
@[simp] theorem hostRec_onCal (f : CalSt → CalSt) : hostRec (onCal f s) = hostRec s := by simp [onCal]
@[simp] theorem hostRec_onWav (f : WavSt → WavSt) : hostRec (onWav n f s) = hostRec s := by simp [onWav]
@[simp] theorem hostRec_resultGone : hostRec (resultGone n s) = hostRec s := by simp [resultGone]
@[simp] theorem hostRec_publishResult : hostRec (publishResult n v s) = hostRec s := by simp [publishResult]
@[simp] theorem hostRec_sdOutput : hostRec (sdOutput n v x s) = hostRec s := by simp [sdOutput]
@[simp] theorem hostRec_refEvent : hostRec (refEvent s) = hostRec s := by simp [refEvent]

@[simp] theorem hostRec_refSettle : hostRec (refSettle n s) = hostRec s := by
  unfold refSettle; repeat' split
  all_goals simp

@[simp] theorem hostRec_calTry : hostRec (calTry s) = hostRec s := by
  unfold calTry; repeat' split
  all_goals simp

@[simp] theorem hostRec_calibrationDue : hostRec (calibrationDue n s) = hostRec s := by simp [calibrationDue]
@[simp] theorem hostRec_calOver : hostRec (calOver s) = hostRec s := by simp [calOver]
@[simp] theorem hostRec_calStamp : hostRec (calStamp n s) = hostRec s := by simp [calStamp]
@[simp] theorem hostRec_calJudge : hostRec (calJudge v s) = hostRec s := by simp [calJudge]

@[simp] theorem hostRec_calStep : hostRec (calStep v w s) = hostRec s := by
  unfold calStep; dsimp only; repeat' split
  all_goals simp

@[simp] theorem hostRec_mismatchEnd (est : List (Int × Nat × Int)) : hostRec (mismatchEnd n x est s) = hostRec s := by
  simp [mismatchEnd]
@[simp] theorem hostRec_wavSave : hostRec (wavSave n s) = hostRec s := by simp [wavSave]
@[simp] theorem hostRec_captureTrigger : hostRec (captureTrigger n k i j v w s) = hostRec s := by simp [captureTrigger]
@[simp] theorem hostRec_captureComplete (samples : List Int) : hostRec (captureComplete n samples x s) = hostRec s := by
  simp [captureComplete]
@[simp] theorem hostRec_captureStop : hostRec (captureStop n s) = hostRec s := by
  unfold captureStop; split <;> simp
@[simp] theorem hostRec_waveCapture : hostRec (waveCapture p s).st = hostRec s := by simp [waveCapture]
@[simp] theorem hostRec_waveStop : hostRec (waveStop p s).st = hostRec s := by simp [waveStop]
@[simp] theorem hostRec_calNow : hostRec (calNow p s).st = hostRec s := by simp [calNow]
@[simp] theorem hostRec_adcClear : hostRec (adcClear p s).st = hostRec s := by simp [adcClear]
@[simp] theorem hostRec_refStart : hostRec (refStart s) = hostRec s := by simp [refStart]
@[simp] theorem hostRec_chStart : hostRec (chStart n s) = hostRec s := by simp [chStart]
@[simp] theorem hostRec_wavStart : hostRec (wavStart n s) = hostRec s := by simp [wavStart]
@[simp] theorem hostRec_adcStart : hostRec (adcStart n s) = hostRec s := by simp [adcStart]
@[simp] theorem hostRec_calCut : hostRec (calCut n s) = hostRec s := by simp [calCut]
@[simp] theorem hostRec_adcStop : hostRec (adcStop n s) = hostRec s := by simp [adcStop]
@[simp] theorem hostRec_adcStopEnd : hostRec (adcStopEnd n s) = hostRec s := by simp [adcStopEnd]
@[simp] theorem hostRec_adcDeep : hostRec (adcDeep s) = hostRec s := by simp [adcDeep]
@[simp] theorem hostRec_wavDark : hostRec (wavDark s) = hostRec s := by simp [wavDark]
@[simp] theorem hostRec_adcResume : hostRec (adcResume s) = hostRec s := by simp [adcResume]
@[simp] theorem hostRec_wavResume : hostRec (wavResume s) = hostRec s := by simp [wavResume]
@[simp] theorem hostRec_wavLost : hostRec (wavLost s) = hostRec s := by simp [wavLost]
@[simp] theorem hostRec_gridStart : hostRec (gridStart s) = hostRec s := by simp [gridStart]
@[simp] theorem hostRec_adcRetain : hostRec (adcRetain s) = hostRec s := by simp [adcRetain]

/-! #### Economic dispatch -/

@[simp] theorem hostRec_onDsp (f : DspSt → DspSt) : hostRec (onDsp f s) = hostRec s := by simp [onDsp]
@[simp] theorem hostRec_setPenalty (r : Rat) : hostRec (setPenalty v r s) = hostRec s := by simp [setPenalty]
@[simp] theorem hostRec_adaptSigma : hostRec (adaptSigma s) = hostRec s := by simp [adaptSigma]
@[simp] theorem hostRec_adaptPenalty : hostRec (adaptPenalty s) = hostRec s := by
  unfold adaptPenalty; split <;> simp
@[simp] theorem hostRec_chooseStart : hostRec (chooseStart s) = hostRec s := by
  unfold chooseStart; split <;> simp
@[simp] theorem hostRec_inputEvent : hostRec (inputEvent s) = hostRec s := by simp [inputEvent]

@[simp] theorem hostRec_dispatchArm (s : State) : hostRec (dispatchArm s) = hostRec s := by
  unfold dispatchArm
  split
  · rfl
  · extract_lets s1 s2 s3 refact s4
    have e : hostRec s4 = hostRec s := by simp [s4, s3, s2, s1]
    split
    · exact e
    · next h => rw [hostRec_onDsp, hostRec_oxArm h, e]

@[simp] theorem hostRec_feederTurn : hostRec (feederTurn n s) = hostRec s := by simp [feederTurn]
@[simp] theorem hostRec_dispatchBegin : hostRec (dispatchBegin n s) = hostRec s := by simp [dispatchBegin]

@[simp] theorem hostRec_dspBoundary (s : State) : hostRec (dspBoundary s) = hostRec s := by
  unfold dspBoundary
  split
  · have e := hostRec_takePulse 15 s
    split <;> simp_all
  · rfl

@[simp] theorem hostRec_pairSeen : hostRec (pairSeen s) = hostRec s := by
  unfold pairSeen; dsimp only; repeat' split
  all_goals simp

@[simp] theorem hostRec_storeCharge : hostRec (storeCharge s) = hostRec s := by simp [storeCharge]
@[simp] theorem hostRec_chargeGuess : hostRec (chargeGuess s) = hostRec s := by simp [chargeGuess]
@[simp] theorem hostRec_publish (sched : List Int) (r : JobResult) : hostRec (publish sched n x y k i r s) = hostRec s := by
  simp [publish]
@[simp] theorem hostRec_dspEvent : hostRec (dspEvent n k s) = hostRec s := by simp [dspEvent]
@[simp] theorem hostRec_publishConverged (r : JobResult) : hostRec (publishConverged r s) = hostRec s := by simp [publishConverged]
@[simp] theorem hostRec_publishShifted : hostRec (publishShifted n s) = hostRec s := by
  unfold publishShifted; dsimp only; split <;> simp

@[simp] theorem hostRec_dispatchJobEnd : hostRec (dispatchJobEnd n s) = hostRec s := by
  unfold dispatchJobEnd; repeat' split
  all_goals simp

@[simp] theorem hostRec_dispatchDeadline : hostRec (dispatchDeadline s) = hostRec s := by simp [dispatchDeadline]
@[simp] theorem hostRec_inputWrite : hostRec (inputWrite p s).st = hostRec s := by simp [inputWrite]
@[simp] theorem hostRec_inputCommit : hostRec (inputCommit p s).st = hostRec s := by simp [inputCommit]
@[simp] theorem hostRec_storeSet : hostRec (storeSet p s).st = hostRec s := by simp [storeSet]
@[simp] theorem hostRec_dispatchStatusGet : hostRec (dispatchStatusGet p s).st = hostRec s := by simp [dispatchStatusGet]
@[simp] theorem hostRec_dispatchStart : hostRec (dispatchStart s) = hostRec s := by simp [dispatchStart]
@[simp] theorem hostRec_dispatchStop : hostRec (dispatchStop s) = hostRec s := by simp [dispatchStop]
/-! #### ADMM -/

@[simp] theorem hostRec_admmNext : hostRec (admmNext s) = hostRec s := by simp [admmNext]
@[simp] theorem hostRec_admmStart : hostRec (admmStart s) = hostRec s := by simp [admmStart]
@[simp] theorem hostRec_admmLoad : hostRec (admmLoad s) = hostRec s := by simp [admmLoad]
@[simp] theorem hostRec_admmStep : hostRec (admmStep s) = hostRec s := by simp [admmStep]
@[simp] theorem hostRec_admmTest : hostRec (admmTest s) = hostRec s := by simp [admmTest]

/-! #### Newton -/

@[simp] theorem hostRec_newtonStop : hostRec (newtonStop n s) = hostRec s := by simp [newtonStop]
@[simp] theorem hostRec_newtonStart : hostRec (newtonStart s) = hostRec s := by simp [newtonStart]
@[simp] theorem hostRec_newtonLoad : hostRec (newtonLoad s) = hostRec s := by simp [newtonLoad]
@[simp] theorem hostRec_newtonStep : hostRec (newtonStep s) = hostRec s := by
  unfold newtonStep; dsimp only; split <;> simp

/-! #### Jobs -/

@[simp] theorem hostRec_jobStart : hostRec (jobStart n s) = hostRec s := by simp [jobStart]
@[simp] theorem hostRec_jobSolved : hostRec (jobSolved n s) = hostRec s := by simp [jobSolved]
@[simp] theorem hostRec_jobCall : hostRec (jobCall n s) = hostRec s := by
  unfold jobCall; dsimp only; split <;> simp

@[simp] theorem hostRec_jobCalls (q n : Nat) (s : State) : hostRec (jobCalls q n s) = hostRec s := by
  induction n generalizing s with
  | zero => rfl
  | succ n ih => simp [jobCalls, ih]

@[simp] theorem hostRec_oxBlockEnd (h : BlockHead) : hostRec (oxBlockEnd n h k s) = hostRec s := by simp [oxBlockEnd]
@[simp] theorem hostRec_oxJobEnd : hostRec (oxJobEnd n k s) = hostRec s := by simp [oxJobEnd]
@[simp] theorem hostRec_oxOverrun : hostRec (oxOverrun n s) = hostRec s := by simp [oxOverrun]

/-! #### Aplar logic -/

@[simp] theorem hostRec_onLogic (f : LogicSt → LogicSt) : hostRec (onLogic f s) = hostRec s := by simp [onLogic]
@[simp] theorem hostRec_logicLatch : hostRec (logicLatch x y s) = hostRec s := by simp [logicLatch]
@[simp] theorem hostRec_logicInit : hostRec (logicInit x s) = hostRec s := by simp [logicInit]
@[simp] theorem hostRec_permitChange (old : BitVec 576) (new : BitVec 576) : hostRec (permitChange old new s) = hostRec s := by
  simp [permitChange]
@[simp] theorem hostRec_outputImage (q : BitVec 24) (p : BitVec 576) : hostRec (outputImage q p s) = hostRec s := by
  simp [outputImage]
@[simp] theorem hostRec_logicSafe : hostRec (logicSafe s) = hostRec s := by simp [logicSafe]
@[simp] theorem hostRec_raiseEvts (l : List (Nat × Nat)) (s : State) : hostRec (raiseEvts l s) = hostRec s :=
  hostRec_foldl (fun _ _ => hostRec_raise ..) _ s
@[simp] theorem hostRec_logicScan : hostRec (logicScan x s) = hostRec s := by simp [logicScan]
@[simp] theorem hostRec_logicEnter : hostRec (logicEnter n s) = hostRec s := by simp [logicEnter]
@[simp] theorem hostRec_stepEnd : hostRec (stepEnd s) = hostRec s := by simp [stepEnd]
@[simp] theorem hostRec_progTake : hostRec (progTake p x s) = hostRec s := by simp [progTake]
@[simp] theorem hostRec_progEvent : hostRec (progEvent s) = hostRec s := by simp [progEvent]
@[simp] theorem hostRec_progSwitch : hostRec (progSwitch s).2 = hostRec s := by
  unfold progSwitch; split <;> simp
@[simp] theorem hostRec_logicMirror1 : hostRec (logicMirror1 p s) = hostRec s := by simp [logicMirror1]
@[simp] theorem hostRec_logicMirrorR : hostRec (logicMirrorR n p s) = hostRec s := by simp [logicMirrorR]
@[simp] theorem hostRec_logicMirrorT : hostRec (logicMirrorT n p s) = hostRec s := by simp [logicMirrorT]
@[simp] theorem hostRec_logicMirrorC : hostRec (logicMirrorC n p s) = hostRec s := by simp [logicMirrorC]

@[simp] theorem hostRec_mirrorEach (kind n : Nat) {f : Nat → Bytes → State → State} (h : ∀ i b s, hostRec (f i b s) = hostRec s)
    (s : State) : hostRec (mirrorEach kind n f s) = hostRec s := by
  refine hostRec_foldl (fun s i => ?_) _ s
  have e := hostRec_mirrorTake kind i s
  split <;> simp_all

@[simp] theorem hostRec_logicMirror : hostRec (logicMirror s) = hostRec s := by simp [logicMirror]
@[simp] theorem hostRec_padRelease : hostRec (padRelease s) = hostRec s := by simp [padRelease]
@[simp] theorem hostRec_logicInstant : hostRec (logicInstant s) = hostRec s := by simp [logicInstant]
@[simp] theorem hostRec_logicTick (din : List (Nat × Nat)) : hostRec (logicTick din s) = hostRec s := by simp [logicTick]
@[simp] theorem hostRec_logicModeSet : hostRec (logicModeSet p s).st = hostRec s := by simp [logicModeSet]
@[simp] theorem hostRec_logicStep : hostRec (logicStep p s).st = hostRec s := by simp [logicStep]
@[simp] theorem hostRec_logicHostBits : hostRec (logicHostBits p s).st = hostRec s := by simp [logicHostBits]
@[simp] theorem hostRec_logicActivate : hostRec (logicActivate p x s) = hostRec s := by simp [logicActivate]
@[simp] theorem hostRec_logicStart : hostRec (logicStart s) = hostRec s := by simp [logicStart]
@[simp] theorem hostRec_logicStop : hostRec (logicStop s) = hostRec s := by simp [logicStop]
@[simp] theorem hostRec_logicStopEnd : hostRec (logicStopEnd s) = hostRec s := by
  unfold logicStopEnd; dsimp only; split <;> simp
@[simp] theorem hostRec_logicPark : hostRec (logicPark s) = hostRec s := by simp [logicPark]
@[simp] theorem hostRec_logicResume : hostRec (logicResume s) = hostRec s := by
  unfold logicResume; split <;> simp
@[simp] theorem hostRec_logicFullStart (s : State) : hostRec (logicFullStart s) = hostRec s := by
  rw [logicFullStart, hostRec_onLogic]
@[simp] theorem hostRec_logicGrant : hostRec (logicGrant s) = hostRec s := by simp [logicGrant]
@[simp] theorem hostRec_logicRetain : hostRec (logicRetain s) = hostRec s := by simp [logicRetain]

/-! #### The event recorder -/

@[simp] theorem hostRec_recRaise : hostRec (recRaise n k i j a s) = hostRec s := by simp [recRaise]
@[simp] theorem hostRec_statusPut (x : Slot) : hostRec (statusPut x s) = hostRec s := by simp [statusPut]
@[simp] theorem hostRec_statusWrite (x : Rec) : hostRec (statusWrite x s) = hostRec s := by simp [statusWrite]
@[simp] theorem hostRec_mapSector : hostRec (mapSector n k i j s) = hostRec s := by simp [mapSector]
@[simp] theorem hostRec_erasePos : hostRec (erasePos n k s) = hostRec s := by simp [erasePos]
@[simp] theorem hostRec_eraseAhead : hostRec (eraseAhead n k s) = hostRec s := by
  unfold eraseAhead; split <;> simp

@[simp] theorem hostRec_leavePos : hostRec (leavePos n k s) = hostRec s := by
  unfold leavePos; repeat' split
  all_goals simp

@[simp] theorem hostRec_seekPos : hostRec (seekPos n s) = hostRec s := by simp [seekPos]

@[simp] theorem hostRec_circPut (x : Slot) : hostRec (circPut x s) = hostRec s := by
  unfold circPut; dsimp only; repeat' split
  all_goals simp

@[simp] theorem hostRec_permPut (x : Slot) : hostRec (permPut x s) = hostRec s := by simp [permPut]
@[simp] theorem hostRec_permAppend (x : Rec) : hostRec (permAppend x s) = hostRec s := by simp [permAppend]
@[simp] theorem hostRec_programRec (x : Rec) : hostRec (programRec x s) = hostRec s := by simp [programRec]
@[simp] theorem hostRec_seqHighCheck : hostRec (seqHighCheck s) = hostRec s := by simp [seqHighCheck]
@[simp] theorem hostRec_overflowReport : hostRec (overflowReport s) = hostRec s := by
  unfold overflowReport; split <;> simp
@[simp] theorem hostRec_savePut : hostRec (savePut p s) = hostRec s := by
  unfold savePut; dsimp only; repeat' split
  all_goals simp

@[simp] theorem hostRec_rewriteRec : hostRec (rewriteRec n s) = hostRec s := by
  unfold rewriteRec; split <;> simp
@[simp] theorem hostRec_rewriteSave : hostRec (rewriteSave n k s) = hostRec s := by
  unfold rewriteSave; split <;> simp
@[simp] theorem hostRec_sectorFail : hostRec (sectorFail n k i s) = hostRec s := by
  unfold sectorFail; split <;> simp

@[simp] theorem hostRec_recRead : hostRec (recRead p s).st = hostRec s := by simp [recRead]
@[simp] theorem hostRec_recVerify : hostRec (recVerify p s).st = hostRec s := by simp [recVerify]
@[simp] theorem hostRec_recStatusGet : hostRec (recStatusGet p s).st = hostRec s := by simp [recStatusGet]
/-! #### Metering -/

@[simp] theorem hostRec_onMeter (f : MeterSt → MeterSt) : hostRec (onMeter f s) = hostRec s := by simp [onMeter]
@[simp] theorem hostRec_onUnit (f : MeterUnit → MeterUnit) : hostRec (onUnit n f s) = hostRec s := by simp [onUnit]
@[simp] theorem hostRec_onPulse (f : Pulse → Pulse) : hostRec (onPulse n f s) = hostRec s := by simp [onPulse]
@[simp] theorem hostRec_pulseKick : hostRec (pulseKick n s) = hostRec s := by simp [pulseKick]
@[simp] theorem hostRec_pulseAdd : hostRec (pulseAdd n k i j s) = hostRec s := by simp [pulseAdd]
@[simp] theorem hostRec_addEnergy (e : Rat) : hostRec (addEnergy n k e s) = hostRec s := by simp [addEnergy]
@[simp] theorem hostRec_meterFlag : hostRec (meterFlag n k s) = hostRec s := by simp [meterFlag]
@[simp] theorem hostRec_intervalAdd (p : Rat) : hostRec (intervalAdd n p s) = hostRec s := by simp [intervalAdd]
@[simp] theorem hostRec_feederStep : hostRec (feederStep n s) = hostRec s := by simp [feederStep]
@[simp] theorem hostRec_thermalStep : hostRec (thermalStep n s) = hostRec s := by simp [thermalStep]
@[simp] theorem hostRec_meterMirror : hostRec (meterMirror n p s) = hostRec s := by simp [meterMirror]

@[simp] theorem hostRec_unitStep (n : Nat) (s : State) : hostRec (unitStep n s) = hostRec s := by
  unfold unitStep
  dsimp only
  split
  · rfl
  · split
    · have e := hostRec_mirrorTake 8 n (onUnit n (fun u => { u with skip := true }) s)
      split <;> split <;> simp_all
    · simp

@[simp] theorem hostRec_saveWrite : hostRec (saveWrite n k p q s).1 = hostRec s := by simp [saveWrite]

@[simp] theorem hostRec_meterSave (s : State) : hostRec (meterSave s) = hostRec s := by
  unfold meterSave
  extract_lets mid
  have e := hostRec_saveWrite 1 s.time.ont mid [] s
  split <;> simp_all

@[simp] theorem hostRec_lossWrite (ont : Nat) (mid : Bytes) (i k l p : Nat) (v : Bool) (s : State) :
    hostRec (lossWrite ont mid i k l p v s) = hostRec s := by
  unfold lossWrite
  extract_lets flags seq
  have e := hostRec_saveWrite 2 ont mid (lossTail i k l p s.time.ont flags) s
  split <;> simp_all

@[simp] theorem hostRec_lossAfterError : hostRec (lossAfterError s n) = hostRec s := by simp [lossAfterError]
@[simp] theorem hostRec_meterLosses : hostRec (meterLosses s) = hostRec s := by simp [meterLosses]
@[simp] theorem hostRec_meterWrites : hostRec (meterWrites s) = hostRec s := by simp [meterWrites]
@[simp] theorem hostRec_snapTake : hostRec (snapTake s) = hostRec s := by simp [snapTake]
@[simp] theorem hostRec_stepTurn : hostRec (stepTurn s) = hostRec s := by simp [stepTurn]

@[simp] theorem hostRec_pulseMirror (n : Nat) (s : State) : hostRec (pulseMirror n s) = hostRec s := by
  unfold pulseMirror
  split
  · rfl
  · have e := hostRec_mirrorTake 9 n s
    split <;> simp_all

@[simp] theorem hostRec_pulseTimer : hostRec (pulseTimer n s) = hostRec s := by
  unfold pulseTimer; repeat' split
  all_goals simp

@[simp] theorem hostRec_meterEcc : hostRec (meterEcc n k s) = hostRec s := by
  unfold meterEcc; repeat' split
  all_goals simp

@[simp] theorem hostRec_meterSnapshot : hostRec (meterSnapshot m s).st = hostRec s := by simp [meterSnapshot]
@[simp] theorem hostRec_meterLossGet : hostRec (meterLossGet p s).st = hostRec s := by simp [meterLossGet]
@[simp] theorem hostRec_meterAccSet : hostRec (meterAccSet p s).st = hostRec s := by simp [meterAccSet]
@[simp] theorem hostRec_meterStart : hostRec (meterStart n s) = hostRec s := by simp [meterStart]
@[simp] theorem hostRec_meterStop : hostRec (meterStop n s) = hostRec s := by simp [meterStop]
@[simp] theorem hostRec_meterStopEnd : hostRec (meterStopEnd n s) = hostRec s := by simp [meterStopEnd]
@[simp] theorem hostRec_meterDeep : hostRec (meterDeep s) = hostRec s := by simp [meterDeep]
@[simp] theorem hostRec_meterResume : hostRec (meterResume s) = hostRec s := by simp [meterResume]
@[simp] theorem hostRec_meterRestore : hostRec (meterRestore s) = hostRec s := by
  unfold meterRestore; split <;> simp
@[simp] theorem hostRec_meterRetain : hostRec (meterRetain s) = hostRec s := by simp [meterRetain]

/-! #### Ethernet and ingest -/

@[simp] theorem hostRec_linkChange : hostRec (linkChange n x k s) = hostRec s := by simp [linkChange]
@[simp] theorem hostRec_ingestReject : hostRec (ingestReject n k s) = hostRec s := by
  unfold ingestReject; dsimp only; split <;> simp
@[simp] theorem hostRec_entryReject : hostRec (entryReject n k s) = hostRec s := by simp [entryReject]
@[simp] theorem hostRec_ingestCommit : hostRec (ingestCommit n k i j p q s) = hostRec s := by simp [ingestCommit]
@[simp] theorem hostRec_ingestOpened : hostRec (ingestOpened n k i j p q s) = hostRec s := by simp [ingestOpened]

@[simp] theorem hostRec_ingest : hostRec (ingest n p s) = hostRec s := by
  unfold ingest; dsimp only; repeat' split
  all_goals simp

@[simp] theorem hostRec_telemetry : hostRec (telemetry n p s) = hostRec s := by simp [telemetry]

@[simp] theorem hostRec_frameIn : hostRec (frameIn n p s) = hostRec s := by
  unfold frameIn; repeat' split
  all_goals simp

@[simp] theorem hostRec_bcastSend : hostRec (bcastSend p s n) = hostRec s := by
  unfold bcastSend; dsimp only; repeat' split
  all_goals simp

@[simp] theorem hostRec_bcastGroup : hostRec (bcastGroup n p s k) = hostRec s := by simp [bcastGroup]

@[simp] theorem hostRec_broadcast : hostRec (broadcast n p s) = hostRec s := by
  unfold broadcast; repeat' split
  all_goals simp

@[simp] theorem hostRec_bcastNew : hostRec (bcastNew n p s) = hostRec s := by simp [bcastNew]
@[simp] theorem hostRec_bcastAgain : hostRec (bcastAgain s) = hostRec s := by
  unfold bcastAgain; split <;> simp
@[simp] theorem hostRec_netStart : hostRec (netStart n s) = hostRec s := by simp [netStart]
@[simp] theorem hostRec_netStopEnd : hostRec (netStopEnd n s) = hostRec s := by simp [netStopEnd]
@[simp] theorem hostRec_netLost : hostRec (netLost s) = hostRec s := by simp [netLost]

/-! #### The redundant pair -/

@[simp] theorem hostRec_heartbeat : hostRec (heartbeat s) = hostRec s := by simp [heartbeat]
@[simp] theorem hostRec_straitSend : hostRec (straitSend n x p s) = hostRec s := by
  unfold straitSend; split <;> simp

@[simp] theorem hostRec_straitFrames (type n : Nat) (b : Bytes) (s : State) : hostRec (straitFrames type n b s) = hostRec s := by
  induction n generalizing b s with
  | zero => rfl
  | succ n ih => simp [straitFrames, ih]

@[simp] theorem hostRec_linkStart : hostRec (linkStart s) = hostRec s := by simp [linkStart]
@[simp] theorem hostRec_syncClear : hostRec (syncClear s) = hostRec s := by simp [syncClear]
@[simp] theorem hostRec_syncCheck : hostRec (syncCheck s) = hostRec s := by simp [syncCheck]
@[simp] theorem hostRec_straitDown : hostRec (straitDown n s) = hostRec s := by simp [straitDown]
@[simp] theorem hostRec_bulkNew (o : Bulk) : hostRec (bulkNew o s) = hostRec s := by simp [bulkNew]
@[simp] theorem hostRec_bulkSendAll : hostRec (bulkSendAll s) = hostRec s := by simp [bulkSendAll]
@[simp] theorem hostRec_mirrorCapture : hostRec (mirrorCapture s) = hostRec s := by simp [mirrorCapture]
@[simp] theorem hostRec_mirrorParams : hostRec (mirrorParams s) = hostRec s := by
  unfold mirrorParams; split <;> simp
@[simp] theorem hostRec_periodLost : hostRec (periodLost s) = hostRec s := by simp [periodLost]
@[simp] theorem hostRec_periodDone : hostRec (periodDone p s) = hostRec s := by simp [periodDone]
@[simp] theorem hostRec_listFrame : hostRec (listFrame x y p s) = hostRec s := by simp [listFrame]
@[simp] theorem hostRec_bulkRefuse (o : Bulk) : hostRec (bulkRefuse o n s) = hostRec s := by simp [bulkRefuse]
@[simp] theorem hostRec_bulkTake (o : Bulk) : hostRec (bulkTake o s) = hostRec s := by
  unfold bulkTake; split <;> simp
@[simp] theorem hostRec_bulkFrame : hostRec (bulkFrame x y p s) = hostRec s := by simp [bulkFrame]
@[simp] theorem hostRec_mismatchSet (m : Nat × Nat × Nat) : hostRec (mismatchSet m s) = hostRec s := by simp [mismatchSet]
@[simp] theorem hostRec_ctrlFrame : hostRec (ctrlFrame x p s) = hostRec s := by simp [ctrlFrame]
@[simp] theorem hostRec_straitAccept : hostRec (straitAccept p q s) = hostRec s := by
  unfold straitAccept; split <;> simp

@[simp] theorem hostRec_straitFrame : hostRec (straitFrame p s) = hostRec s := by
  unfold straitFrame; dsimp only; repeat' split
  all_goals simp

@[simp] theorem hostRec_canReassertAll : hostRec (canReassertAll s) = hostRec s := by simp [canReassertAll]
@[simp] theorem hostRec_pairTakeOver : hostRec (pairTakeOver s) = hostRec s := by simp [pairTakeOver]
@[simp] theorem hostRec_holdEnd : hostRec (holdEnd s) = hostRec s := by simp [holdEnd]
@[simp] theorem hostRec_grantEdge : hostRec (grantEdge x s) = hostRec s := by simp [grantEdge]
@[simp] theorem hostRec_plantStop : hostRec (plantStop s) = hostRec s := by simp [plantStop]
@[simp] theorem hostRec_failsafeStop : hostRec (failsafeStop s) = hostRec s := by simp [failsafeStop]
@[simp] theorem hostRec_holdExpiry : hostRec (holdExpiry s) = hostRec s := by simp [holdExpiry]
@[simp] theorem hostRec_pairStatusGet : hostRec (pairStatusGet p s).st = hostRec s := by simp [pairStatusGet]
@[simp] theorem hostRec_pairFailSet : hostRec (pairFailSet p s).st = hostRec s := by simp [pairFailSet]
@[simp] theorem hostRec_pairResync : hostRec (pairResync p s).st = hostRec s := by simp [pairResync]
@[simp] theorem hostRec_pairStart : hostRec (pairStart s) = hostRec s := by simp [pairStart]
@[simp] theorem hostRec_pairStop : hostRec (pairStop s) = hostRec s := by simp [pairStop]
@[simp] theorem hostRec_pairStopEnd : hostRec (pairStopEnd s) = hostRec s := by simp [pairStopEnd]
@[simp] theorem hostRec_stagingLost : hostRec (stagingLost s) = hostRec s := by simp [stagingLost]
@[simp] theorem hostRec_pairLost : hostRec (pairLost s) = hostRec s := by simp [pairLost]

/-! #### The cycle -/

@[simp] theorem hostRec_oxHear : hostRec (oxHear s) = hostRec s := by
  unfold oxHear; dsimp only; repeat' split
  all_goals simp

@[simp] theorem hostRec_oxDeadline : hostRec (oxDeadline n s) = hostRec s := by simp [oxDeadline]
@[simp] theorem hostRec_bulkDrove : hostRec (bulkDrove s) = hostRec s := by simp [bulkDrove]
@[simp] theorem hostRec_pairPublish : hostRec (pairPublish s) = hostRec s := by simp [pairPublish]
@[simp] theorem hostRec_droveEnd : hostRec (droveEnd s) = hostRec s := by simp [droveEnd]
@[simp] theorem hostRec_estLast : hostRec (estLast s) = hostRec s := by simp [estLast]
@[simp] theorem hostRec_handEntry (p : Pub) : hostRec (handEntry p n s) = hostRec s := by
  unfold handEntry; dsimp only; split <;> simp
@[simp] theorem hostRec_handApply (p : Pub) : hostRec (handApply p s) = hostRec s := by simp [handApply]

@[simp] theorem hostRec_dispatchApply : hostRec (dispatchApply s) = hostRec s := by
  unfold dispatchApply; dsimp only; repeat' split
  all_goals simp

/-! #### The status panel -/

@[simp] theorem hostRec_onDisp (f : DispSt → DispSt) : hostRec (onDisp f s) = hostRec s := by simp [onDisp]
@[simp] theorem hostRec_frameStart (u : DispUpd) : hostRec (frameStart u s) = hostRec s := by simp [frameStart]
@[simp] theorem hostRec_updStart (u : DispUpd) : hostRec (updStart u s) = hostRec s := by simp [updStart]
@[simp] theorem hostRec_clearStart : hostRec (clearStart s) = hostRec s := by simp [clearStart]
@[simp] theorem hostRec_nextStart : hostRec (nextStart s) = hostRec s := by
  unfold nextStart; split <;> simp
@[simp] theorem hostRec_updEnd (u : DispUpd) : hostRec (updEnd u n s) = hostRec s := by simp [updEnd]
@[simp] theorem hostRec_dischargeStart : hostRec (dischargeStart s) = hostRec s := by simp [dischargeStart]
@[simp] theorem hostRec_lastFrame (u : DispUpd) : hostRec (lastFrame u s) = hostRec s := by simp [lastFrame]

@[simp] theorem hostRec_frameEnd : hostRec (frameEnd s) = hostRec s := by
  unfold frameEnd; dsimp only; repeat' split
  all_goals simp

@[simp] theorem hostRec_frameFetchLost : hostRec (frameFetchLost s) = hostRec s := by
  unfold frameFetchLost; split <;> simp
@[simp] theorem hostRec_railGood : hostRec (railGood s) = hostRec s := by simp [railGood]
@[simp] theorem hostRec_vcomSettled : hostRec (vcomSettled s) = hostRec s := by
  unfold vcomSettled; split <;> simp
@[simp] theorem hostRec_dscEnter : hostRec (dscEnter n s) = hostRec s := by simp [dscEnter]

@[simp] theorem hostRec_dscOver : hostRec (dscOver s) = hostRec s := by
  unfold dscOver; dsimp only; repeat' split
  all_goals simp

@[simp] theorem hostRec_dscNext : hostRec (dscNext s) = hostRec s := by simp [dscNext]
@[simp] theorem hostRec_dscTimeout : hostRec (dscTimeout n s) = hostRec s := by simp [dscTimeout]
@[simp] theorem hostRec_railTimeout : hostRec (railTimeout n s) = hostRec s := by simp [railTimeout]
@[simp] theorem hostRec_railLost : hostRec (railLost n k s) = hostRec s := by simp [railLost]
@[simp] theorem hostRec_imageWrite : hostRec (imageWrite p s).st = hostRec s := by simp [imageWrite]
@[simp] theorem hostRec_updAccept (u : DispUpd) : hostRec (updAccept u s) = hostRec s := by simp [updAccept]
@[simp] theorem hostRec_dispUpdate : hostRec (dispUpdate p s).st = hostRec s := by simp [dispUpdate]
@[simp] theorem hostRec_dispTempSet : hostRec (dispTempSet p s).st = hostRec s := by simp [dispTempSet]
@[simp] theorem hostRec_imagesPlace : hostRec (imagesPlace s) = hostRec s := by simp [imagesPlace]
@[simp] theorem hostRec_dispStart : hostRec (dispStart s) = hostRec s := by
  unfold dispStart; dsimp only; split <;> simp

@[simp] theorem hostRec_dispStop : hostRec (dispStop n s) = hostRec s := by
  unfold dispStop; dsimp only; repeat' split
  all_goals simp

@[simp] theorem hostRec_dispStopEnd : hostRec (dispStopEnd s) = hostRec s := by simp [dispStopEnd]
@[simp] theorem hostRec_dispResume : hostRec (dispResume s) = hostRec s := by simp [dispResume]
@[simp] theorem hostRec_dispLost : hostRec (dispLost s) = hostRec s := by simp [dispLost]

/-! #### Enable units -/

@[simp] theorem hostRec_pllsFollow : hostRec (pllsFollow s) = hostRec s := by simp [pllsFollow]
@[simp] theorem hostRec_islandLost : hostRec (islandLost n s) = hostRec s := by
  unfold islandLost; split <;> simp
@[simp] theorem hostRec_retainOnly : hostRec (retainOnly s) = hostRec s := by simp [retainOnly]
@[simp] theorem hostRec_islReqFollow : hostRec (islReqFollow s) = hostRec s := by simp [islReqFollow]
@[simp] theorem hostRec_unitStart : hostRec (unitStart n k s) = hostRec s := by
  unfold unitStart; split <;> simp
@[simp] theorem hostRec_unitStop : hostRec (unitStop n k s) = hostRec s := by
  unfold unitStop; split <;> simp
@[simp] theorem hostRec_islandIdle : hostRec (islandIdle n s) = hostRec s := by simp [islandIdle]
@[simp] theorem hostRec_islandFor : hostRec (islandFor n k s) = hostRec s := by
  unfold islandFor; split <;> simp
@[simp] theorem hostRec_unitEnable : hostRec (unitEnable n k s) = hostRec s := by simp [unitEnable]
@[simp] theorem hostRec_pendingDone : hostRec (pendingDone n k i j s) = hostRec s := by simp [pendingDone]

@[simp] theorem hostRec_pendingRun : hostRec (pendingRun n k s) = hostRec s := by
  unfold pendingRun; dsimp only; repeat' split
  all_goals simp

@[simp] theorem hostRec_pendingCancel : hostRec (pendingCancel n k i s) = hostRec s := by
  unfold pendingCancel; dsimp only; split <;> simp
@[simp] theorem hostRec_subsysEnable : hostRec (subsysEnable n k i s).st = hostRec s := by
  unfold subsysEnable; repeat' split
  all_goals simp

@[simp] theorem hostRec_subsysEnableCmd : hostRec (subsysEnableCmd m s).st = hostRec s := by
  unfold subsysEnableCmd; split <;> simp

@[simp] theorem hostRec_subsysDisable : hostRec (subsysDisable n k s).st = hostRec s := by
  unfold subsysDisable; repeat' split
  all_goals simp

@[simp] theorem hostRec_subsysDisableCmd : hostRec (subsysDisableCmd p s).st = hostRec s := by
  unfold subsysDisableCmd; split <;> simp
@[simp] theorem hostRec_subsysStateGet : hostRec (subsysStateGet p s).st = hostRec s := by
  unfold subsysStateGet; split <;> simp

@[simp] theorem hostRec_subsysCheck : hostRec (subsysCheck p s).st = hostRec s := by
  unfold subsysCheck; repeat' split
  all_goals simp

/-! #### Replacing the model -/

@[simp] theorem hostRec_raiseOpen (vals : List Int) : hostRec (raiseOpen n k vals s) = hostRec s := by simp [raiseOpen]
@[simp] theorem hostRec_stageSet : hostRec (stageSet p x s) = hostRec s := by simp [stageSet]
@[simp] theorem hostRec_convertOwn : hostRec (convertOwn p q s) = hostRec s := by
  unfold convertOwn; split <;> simp
@[simp] theorem hostRec_switchNow : hostRec (switchNow s) = hostRec s := by simp [switchNow]
@[simp] theorem hostRec_switchDefer : hostRec (switchDefer s) = hostRec s := by simp [switchDefer]
@[simp] theorem hostRec_modelSwitch : hostRec (modelSwitch s) = hostRec s := by simp [modelSwitch]
@[simp] theorem hostRec_switchFirst : hostRec (switchFirst n s) = hostRec s := by
  unfold switchFirst; split <;> simp
@[simp] theorem hostRec_switchResume : hostRec (switchResume s) = hostRec s := by simp [switchResume]
@[simp] theorem hostRec_modelFallback : hostRec (modelFallback s) = hostRec s := by simp [modelFallback]
@[simp] theorem hostRec_switchCancel : hostRec (switchCancel s) = hostRec s := by simp [switchCancel]

@[simp] theorem hostRec_modelTrialRevert : hostRec (modelTrialRevert p s).st = hostRec s := by
  unfold modelTrialRevert; dsimp only; repeat' split
  all_goals simp

@[simp] theorem hostRec_modelActivate : hostRec (modelActivate x s).st = hostRec s := by
  unfold modelActivate; dsimp only; split <;> simp

/-! #### Starts and resets -/

@[simp] theorem hostRec_onMgmt (f : MgmtSt → MgmtSt) : hostRec (onMgmt f s) = hostRec s := by simp [onMgmt]
@[simp] theorem hostRec_pwrEnReassert : hostRec (pwrEnReassert s) = hostRec s := by
  unfold pwrEnReassert; split <;> simp
@[simp] theorem hostRec_latchCause : hostRec (latchCause n s) = hostRec s := by simp [latchCause]
@[simp] theorem hostRec_latchClear : hostRec (latchClear s) = hostRec s := by simp [latchClear]
@[simp] theorem hostRec_pfailFall : hostRec (pfailFall s) = hostRec s := by simp [pfailFall]
@[simp] theorem hostRec_pfailQuiet : hostRec (pfailQuiet s) = hostRec s := by simp [pfailQuiet]
@[simp] theorem hostRec_bootFailWrite : hostRec (bootFailWrite n s) = hostRec s := by simp [bootFailWrite]
@[simp] theorem hostRec_pendingForget : hostRec (pendingForget s) = hostRec s :=
  hostRec_foldl (fun _ _ => hostRec_setUnit ..) _ s
@[simp] theorem hostRec_sessionsGone : hostRec (sessionsGone s) = hostRec s := by simp [sessionsGone]

@[simp] theorem hostRec_mgmtReset (s : State) : hostRec (mgmtReset s) = hostRec s := by
  have e : hostRec (sessionsGone (pendingForget s)) = hostRec s := by simp
  unfold mgmtReset
  generalize sessionsGone (pendingForget s) = u at e
  exact e

@[simp] theorem hostRec_minimalSec : hostRec (minimalSec s) = hostRec s := by simp [minimalSec]
@[simp] theorem hostRec_trialRevert : hostRec (trialRevert s) = hostRec s := by simp [trialRevert]
@[simp] theorem hostRec_bootCounter : hostRec (bootCounter s) = hostRec s := by simp [bootCounter]
@[simp] theorem hostRec_malorTake (t : StartIn) : hostRec (malorTake t x s) = hostRec s := by simp [malorTake]

@[simp] theorem hostRec_wakeEntryEvent : hostRec (wakeEntryEvent s) = hostRec s := by simp [wakeEntryEvent]

@[simp] theorem hostRec_stateEvents : hostRec (stateEvents s) = hostRec s := by
  unfold stateEvents; split <;> simp
@[simp] theorem hostRec_reportOwed : hostRec (reportOwed s) = hostRec s := by simp [reportOwed]
@[simp] theorem hostRec_start5 : hostRec (start5 s) = hostRec s := by simp [start5]

@[simp] theorem hostRec_start7 (s : State) : hostRec (start7 s) = hostRec s := by
  unfold start7
  dsimp only
  split
  · exact hostRec_raise ..
  · split
    · rfl
    · rw [hostRec_onLogic, hostRec_progTake]

@[simp] theorem hostRec_stagedVerify (t : StartIn) : hostRec (stagedVerify t s) = hostRec s := by simp [stagedVerify]

@[simp] theorem hostRec_start6 (t : StartIn) : hostRec (start6 t s) = hostRec s := by
  unfold start6; dsimp only; repeat' split
  all_goals simp

@[simp] theorem hostRec_enablePass (l : List (Nat × Nat)) (s : State) : hostRec (enablePass l s).2 = hostRec s := by
  unfold enablePass
  show _ = hostRec (([] : List (Nat × Nat)), s).2
  generalize (([] : List (Nat × Nat)), s) = a
  induction l generalizing a with
  | nil => rfl
  | cons u l ih =>
    rw [List.foldl_cons, ih]
    split <;> simp

@[simp] theorem hostRec_enablePasses (n : Nat) (l : List (Nat × Nat)) (s : State) : hostRec (enablePasses n l s).2 = hostRec s := by
  induction n generalizing l s with
  | zero => rfl
  | succ n ih => simp [enablePasses, ih]

@[simp] theorem hostRec_enableRefused (u : Nat × Nat) : hostRec (enableRefused s u) = hostRec s := by
  unfold enableRefused; split <;> simp
@[simp] theorem hostRec_applySaved : hostRec (applySaved s) = hostRec s := by
  unfold applySaved; split <;> simp
@[simp] theorem hostRec_loadSaved : hostRec (loadSaved s) = hostRec s := by
  unfold loadSaved; split <;> simp
@[simp] theorem hostRec_startPads : hostRec (startPads s) = hostRec s := by simp [startPads]
@[simp] theorem hostRec_sessionFlag : hostRec (sessionFlag s) = hostRec s := by simp [sessionFlag]
@[simp] theorem hostRec_restoreMeters : hostRec (restoreMeters s) = hostRec s := by simp [restoreMeters]
@[simp] theorem hostRec_reportCancelled : hostRec (reportCancelled s) = hostRec s := by simp [reportCancelled]
@[simp] theorem hostRec_readBack : hostRec (readBack s) = hostRec s := by simp [readBack]
@[simp] theorem hostRec_start9 (t : StartIn) : hostRec (start9 t s) = hostRec s := by simp [start9]
@[simp] theorem hostRec_afterRelease (t : StartIn) : hostRec (afterRelease t s) = hostRec s := by simp [afterRelease]
@[simp] theorem hostRec_pairWdt : hostRec (pairWdt s) = hostRec s := by
  unfold pairWdt; dsimp only; split <;> simp
@[simp] theorem hostRec_bootFailOnce : hostRec (bootFailOnce n s) = hostRec s := by simp [bootFailOnce]
/-! #### Device states, islands and operating points -/

@[simp] theorem hostRec_islandDown : hostRec (islandDown n s) = hostRec s := by simp [islandDown]
@[simp] theorem hostRec_vackTimeout : hostRec (vackTimeout s) = hostRec s := by
  unfold vackTimeout; split <;> simp
@[simp] theorem hostRec_oppRefuse : hostRec (oppRefuse s n).st = hostRec s := by simp [oppRefuse]

@[simp] theorem hostRec_powerOppSet : hostRec (powerOppSet p s).st = hostRec s := by simp [powerOppSet]
@[simp] theorem hostRec_powerSpreadSet : hostRec (powerSpreadSet p s).st = hostRec s := by simp [powerSpreadSet]
@[simp] theorem hostRec_powerTokenSet : hostRec (powerTokenSet p s).st = hostRec s := by simp [powerTokenSet]
@[simp] theorem hostRec_entryBegin : hostRec (entryBegin n s) = hostRec s := by
  unfold entryBegin; split <;> simp

@[simp] theorem hostRec_entryIslands (s : State) : hostRec (entryIslands s) = hostRec s := by
  unfold entryIslands
  extract_lets t s1 s2 s3 s4 kept digest s5 s6 s7
  have e1 : hostRec s1 = hostRec s := by simp [s1]
  have e2 : hostRec s2 = hostRec s1 := by
    clear_value s1
    rfl
  have e5 : hostRec s5 = hostRec s := by simp [s5, s4, s3, e2, e1]
  simp [s7, s6, e5]

@[simp] theorem hostRec_entryReverse : hostRec (entryReverse s) = hostRec s := by simp [entryReverse]
@[simp] theorem hostRec_entryStart (t : Dev) : hostRec (entryStart t s) = hostRec s := by simp [entryStart]

@[simp] theorem hostRec_powerStateSet : hostRec (powerStateSet p s).st = hostRec s := by
  unfold powerStateSet; dsimp only; repeat' split
  all_goals simp

@[simp] theorem hostRec_islandsFollow : hostRec (islandsFollow s) = hostRec s := by simp [islandsFollow]
@[simp] theorem hostRec_deepOnt : hostRec (deepOnt s) = hostRec s := by simp [deepOnt]

@[simp] theorem hostRec_exitEvents : hostRec (exitEvents s) = hostRec s := by simp [exitEvents]
/-! #### Temperature, supplies and errors -/

@[simp] theorem hostRec_oxPointTo : hostRec (oxPointTo n s) = hostRec s := by simp [oxPointTo]
@[simp] theorem hostRec_oxPointStep : hostRec (oxPointStep s) = hostRec s := by simp [oxPointStep]
@[simp] theorem hostRec_supplyFault : hostRec (supplyFault n k x s) = hostRec s := by simp [supplyFault]
@[simp] theorem hostRec_loadWindow : hostRec (loadWindow n s) = hostRec s := by simp [loadWindow]
@[simp] theorem hostRec_raiseAddr : hostRec (raiseAddr n k i s) = hostRec s := by simp [raiseAddr]
@[simp] theorem hostRec_dramLost : hostRec (dramLost n s) = hostRec s := by
  unfold dramLost; split <;> simp
@[simp] theorem hostRec_scrubCorrected : hostRec (scrubCorrected n k s) = hostRec s := by
  unfold scrubCorrected; split <;> simp
/-! #### Management commands and updates -/

@[simp] theorem hostRec_mgmtStatusGet : hostRec (mgmtStatusGet p s).st = hostRec s := by simp [mgmtStatusGet]
@[simp] theorem hostRec_configSave : hostRec (configSave p s).st = hostRec s := by simp [configSave]
@[simp] theorem hostRec_updateBegin : hostRec (updateBegin p s).st = hostRec s := by simp [updateBegin]
@[simp] theorem hostRec_updateData : hostRec (updateData p s).st = hostRec s := by
  unfold updateData; split <;> simp

@[simp] theorem hostRec_updateFinish : hostRec (updateFinish p s).st = hostRec s := by
  unfold updateFinish; repeat' split
  all_goals simp

@[simp] theorem hostRec_updateClose : hostRec (updateClose s) = hostRec s := by simp [updateClose]
@[simp] theorem hostRec_aplarActivate : hostRec (aplarActivate x s).st = hostRec s := by
  unfold aplarActivate; dsimp only; split <;> simp

@[simp] theorem hostRec_counterRaise : hostRec (counterRaise n k s) = hostRec s := by simp [counterRaise]
@[simp] theorem hostRec_updateCommit : hostRec (updateCommit p s).st = hostRec s := by simp [updateCommit]

@[simp] theorem hostRec_updateAbort : hostRec (updateAbort p s).st = hostRec s := by
  unfold updateAbort; repeat' split
  all_goals simp

@[simp] theorem hostRec_logicTrialRevert : hostRec (logicTrialRevert p s).st = hostRec s := by
  unfold logicTrialRevert; dsimp only; repeat' split
  all_goals simp

/-! #### Reads, writes and frames -/

@[simp] theorem hostRec_wordRead (bar2 : Bool) (o : Nat) (s : State) : hostRec (wordRead bar2 o s).2 = hostRec s := by
  unfold wordRead; repeat' split
  all_goals simp

@[simp] theorem hostRec_barRead (bar2 : Bool) (k off n : Nat) (s : State) : hostRec (barRead bar2 k off n s).2 = hostRec s := by
  induction k generalizing off n s with
  | zero => rfl
  | succ k ih =>
    unfold barRead
    split
    · rfl
    · exact (ih _ _ _).trans (hostRec_wordRead ..)

@[simp] theorem hostRec_hostRead : hostRec (hostRead x n k s).2 = hostRec s := by simp [hostRead]
@[simp] theorem hostRec_frameErr : hostRec (frameErr s) = hostRec s := by simp [frameErr]

@[simp] theorem hostRec_spiRead : hostRec (spiRead x n k s) = hostRec s := by simp [spiRead]
@[simp] theorem hostRec_spiStatus : hostRec (spiStatus s) = hostRec s := by simp [spiStatus]
/-! #### The idle step -/

@[simp] theorem hostRec_aonClock : hostRec (aonClock s) = hostRec s := by simp [aonClock]
@[simp] theorem hostRec_changesReported : hostRec (changesReported s) = hostRec s := by simp [changesReported]
@[simp] theorem hostRec_netClock : hostRec (netClock s) = hostRec s := by simp [netClock]
@[simp] theorem hostRec_idleTick : hostRec (idleTick s) = hostRec s := by simp [idleTick]

/-! #### Commands by their codes -/

end

/-! ### What a step must keep of the mailboxes and the buffer -/

/-- From `s` to `t` the buffer stays within its slots, and no mailbox comes to be owned by the part and done at once. -/
structure RecKept (s t : State) : Prop where
  ok : HostRecOk s → HostRecOk t

theorem RecKept.refl (s : State) : RecKept s s := ⟨id⟩

theorem RecKept.trans {s t u : State} (h : RecKept s t) (k : RecKept t u) : RecKept s u := ⟨k.ok ∘ h.ok⟩

theorem RecKept.of_hostRec {s t : State} (h : hostRec t = hostRec s) : RecKept s t := by
  simp only [hostRec, tally, Prod.mk.injEq, fits, decide_eq_decide] at h
  obtain ⟨ho, hd, hb⟩ := h
  exact ⟨fun k => ⟨hb.mpr k.1, by rw [ho, hd]; exact k.2⟩⟩

theorem RecKept.then_hostRec {s t u : State} (h : RecKept s t) (e : hostRec u = hostRec t) : RecKept s u := h.trans (.of_hostRec e)

theorem RecKept.ite {s a b : State} {c : Prop} [Decidable c] (ha : RecKept s a) (hb : RecKept s b) :
    RecKept s (if c then a else b) := by
  split
  · exact ha
  · exact hb

theorem RecKept.foldl {α : Type} {f : State → α → State} (h : ∀ s a, RecKept s (f s a)) (l : List α) (s : State) :
    RecKept s (l.foldl f s) := by
  induction l generalizing s with
  | nil => exact .refl s
  | cons a l ih => exact (h s a).trans (ih _)

/-- A change of the recorder that leaves the buffer within its slots. -/
theorem recKept_onRec {f : RecorderSt → RecorderSt} (h : ∀ r, r.buf.length ≤ 2048 → (f r).buf.length ≤ 2048) (s : State) :
    RecKept s (onRec f s) := ⟨fun k => ⟨h _ k.1, k.2⟩⟩

/-- A change of the host interface that leaves owned mailboxes not done. -/
theorem recKept_onHost {f : HostSt → HostSt} (h : ∀ x, x.owner &&& x.done = 0 → (f x).owner &&& (f x).done = 0) (s : State) :
    RecKept s (onHost f s) := ⟨fun k => ⟨k.1, h _ k.2⟩⟩

/-! ### Mailboxes rung and answered (R133) -/

/-- Of two bytes with no common bit, one bit set in the first and cleared in the second leaves none. -/
theorem and_eq_zero_of_set_clear {o d : BitVec 8} (b : BitVec 8) (h : o &&& d = 0) : (o ||| b) &&& (d &&& ~~~b) = 0 := by
  calc (o ||| b) &&& (d &&& ~~~b) = (o &&& d) &&& ~~~b := by
        ext i hi
        simp only [BitVec.getElem_and, BitVec.getElem_or, BitVec.getElem_not]
        cases b[i] <;> simp
    _ = 0 := by rw [h]; simp

theorem recKept_ringOne (k : Nat) (s : State) : RecKept s (onHost (ringOne k) s) :=
  recKept_onHost (fun _ => and_eq_zero_of_set_clear _) s

theorem recKept_deliver (b : Nat) (p : Bytes) (s : State) : RecKept s (deliver b p s) := ⟨deliver_hostRecOk b p s⟩

theorem recKept_respond {s : State} {a : Answer} (e : RecKept s a.st) (k : State) (c : Nat) (m : Mail) :
    RecKept s (respond k c m a) := e.trans
  ⟨fun h => deliver_hostRecOk _ _ _ h⟩

theorem recKept_ring (c : Nat) (m : Mail) (s : State) : RecKept s (ring c m s) := by
  unfold ring
  refine .ite (.refl s) ?_
  have e : RecKept s (latchWake 11 s) := .of_hostRec (by simp)
  exact e.trans ⟨fun h => ⟨h.1, and_eq_zero_of_set_clear _ h.2⟩⟩

section

variable {body : State → Answer} (h : ∀ s, RecKept s (body s).st) (c : Nat) (m : Mail) (s : State)
include h

theorem recKept_mailLate : RecKept s (mailLate c m body s).st := by
  unfold mailLate
  repeat' split
  · exact .refl s
  · exact .refl s
  · exact .of_hostRec (by simp)
  · exact h s

theorem recKept_mailSession : RecKept s (mailSession c m body s).st := by
  unfold mailSession
  repeat' split
  · exact .refl s
  · exact .of_hostRec (by simp)
  · exact .refl s
  · exact (RecKept.of_hostRec (by simp)).trans (recKept_mailLate h c m _)
  · exact recKept_mailLate h c m s

theorem recKept_takeCmd : RecKept s (takeCmd c m body s) := by
  have e := recKept_mailSession h c m s
  unfold takeCmd
  refine .ite (recKept_respond (.refl s) ..) (.ite (recKept_respond (.refl s) ..) ?_)
  split
  · exact recKept_deliver ..
  · exact .ite (e.then_hostRec rfl) (recKept_respond e ..)

theorem recKept_mailStep : RecKept s (mailStep c m body s) := by
  unfold mailStep
  exact .ite ((recKept_ring c m s).trans (recKept_takeCmd h c m _))
    (.ite (.refl s) (.ite (recKept_ring c m s) (.of_hostRec (by simp))))

end

/-! ### Host writes (R133, R545) -/

theorem recKept_dbRing (v : Nat) (s : State) : RecKept s (dbRing v s) :=
  .foldl (fun s k => .ite (.refl s) (.ite (.of_hostRec (by simp)) (recKept_ringOne k s))) _ s

@[simp] theorem msixAgain_owner (h : HostSt) : (msixAgain h).owner = h.owner := by
  obtain ⟨_, _, e⟩ := msixAgain_frame h; rw [e]

@[simp] theorem msixAgain_done (h : HostSt) : (msixAgain h).done = h.done := by
  obtain ⟨_, _, e⟩ := msixAgain_frame h; rw [e]

@[simp] theorem msixRelease_owner (h : HostSt) : (msixRelease h).owner = h.owner := by
  obtain ⟨_, _, e⟩ := msixRelease_frame h; rw [e]

@[simp] theorem msixRelease_done (h : HostSt) : (msixRelease h).done = h.done := by
  obtain ⟨_, _, e⟩ := msixRelease_frame h; rw [e]

@[simp] theorem hostRec_evtStatusWrite (i v : Nat) (s : State) : hostRec (onHost (evtStatusWrite i v) s) = hostRec s := by
  simp [evtStatusWrite]

@[simp] theorem hostRec_evtMaskWrite (i v : Nat) (s : State) : hostRec (onHost (evtMaskWrite i v) s) = hostRec s := by
  simp [evtMaskWrite]

@[simp] theorem hostRec_msixTblWrite (o v : Nat) (s : State) : hostRec (onHost (msixTblWrite o v) s) = hostRec s := by
  refine hostRec_onHost (fun h => ?_) (fun h => ?_) s <;> unfold msixTblWrite <;> dsimp only <;> split <;> simp

@[simp] theorem hostRec_pcieConfig (r : CfgReg) (v : HostSt → Nat) (s : State) :
    hostRec (onHost (fun h => pcieConfig r (v h) h) s) = hostRec s := by
  refine hostRec_onHost (fun h => ?_) (fun h => ?_) s <;> cases r <;> simp [pcieConfig]

/-- Done bits that are cleared leave no mailbox owned and done. -/
theorem recKept_doneClear (b : BitVec 8) (s : State) : RecKept s (onHost (fun h => { h with done := h.done &&& b }) s) :=
  recKept_onHost (fun x h => by
    show x.owner &&& (x.done &&& b) = 0
    rw [← BitVec.and_assoc, h]
    exact BitVec.zero_and) s

theorem recKept_bar0Write (o v : Nat) (s : State) : RecKept s (bar0Write o v s) := by
  unfold bar0Write
  refine .ite (.of_hostRec (by simp)) (.ite ((recKept_dbRing v s).then_hostRec (by simp))
    (.ite (recKept_doneClear _ s) (.of_hostRec ?_)))
  simp
  repeat' split
  all_goals simp

theorem recKept_wordWrite (o k : Nat) (data : List (Option Byte)) (s : State) : RecKept s (wordWrite o k data s) := by
  unfold wordWrite
  exact .ite (.refl s) (.ite (.of_hostRec (by simp)) (.ite (recKept_bar0Write ..) (.of_hostRec (by simp))))

theorem recKept_barWrites (bar2 : Bool) (n off : Nat) (d : List (Option Byte)) (s : State) :
    RecKept s (barWrites bar2 n off d s) := by
  induction n generalizing off d s with
  | zero => exact .refl s
  | succ n ih =>
    unfold barWrites
    exact .ite (.refl s) ((RecKept.ite (.of_hostRec (by simp)) (recKept_wordWrite ..)).trans (ih ..))

theorem recKept_registerWrite (bar2 : Bool) (off : Nat) (d : List (Option Byte)) (s : State) :
    RecKept s (registerWrite bar2 off d s) := .ite (recKept_barWrites ..) (.refl s)

theorem recKept_spiWrites (bar2 : Bool) (k off : Nat) (b : Bytes) (s : State) : RecKept s (spiWrites bar2 k off b s) := by
  induction k generalizing off b s with
  | zero => exact .refl s
  | succ k ih => exact (recKept_registerWrite ..).trans (ih ..)

theorem recKept_spiFrame (b : Bytes) (s : State) : RecKept s (spiFrame b s) := by
  unfold spiFrame
  extract_lets a off bar2
  split
  · exact .of_hostRec (by simp)
  · have e := recKept_spiWrites bar2 ((b.length - 5) / 4) off (b.drop 5) s
    exact .ite (.of_hostRec (by simp)) (.ite e (e.then_hostRec (hostRec_frameErr _)))
  · exact .of_hostRec (by simp)
  · exact .of_hostRec (by simp)

/-! ### The record buffer (R545, R546, R554) -/

/-- A flush empties the buffer, or in RAM-only operation leaves it. -/
theorem recKept_bufTake (l : List Rec) (s : State) : RecKept s (onRec (bufTake l) s) :=
  recKept_onRec (fun r h => by unfold bufTake; split <;> simp [h]) s

theorem recKept_flush (s : State) : RecKept s (flush s) := by
  unfold flush
  refine .ite (.refl s) ?_
  have e : RecKept s (onRec (bufTake (unflushed s.recorder)) (seqHighCheck s)) :=
    (RecKept.of_hostRec (by simp)).trans (recKept_bufTake ..)
  exact (e.then_hostRec (hostRec_overflowReport _)).then_hostRec (by simp)

/-- The 2,048 slots that RAM-only operation begins with hold the newest of what they held (R554). -/
theorem recKept_ramOnlyCheck (pos sector : Nat) (s : State) : RecKept s (ramOnlyCheck pos sector s) := by
  unfold ramOnlyCheck
  refine .ite (.then_hostRec (.then_hostRec (recKept_onRec (fun r _ => ?_) s) (hostRec_overflowReport _)) (hostRec_raise ..))
    (.refl s)
  simp only [List.length_drop, List.length_append, List.length_reverse]
  omega

theorem recKept_relocate (ring pos : Nat) (s : State) : RecKept s (relocate ring pos s) := by
  unfold relocate
  repeat' split
  · exact .refl s
  · exact .of_hostRec (by simp)
  · exact (RecKept.of_hostRec (by simp)).trans (recKept_ramOnlyCheck ..)
  · exact .of_hostRec (by simp)

theorem length_dropPlaces {α : Type} (bad : List Nat) (i : Nat) (l : List α) : (dropPlaces bad i l).length ≤ l.length := by
  induction l generalizing i with
  | nil => exact le_rfl
  | cons a l ih =>
    have h := ih (i + 1)
    unfold dropPlaces
    split
    · exact Nat.le_succ_of_le h
    · exact Nat.succ_le_succ h

@[simp] theorem hostRec_tornSlot (area : Nat) (s : State) : hostRec (tornSlot area s) = hostRec s := by
  unfold tornSlot; dsimp only; split <;> simp

/-- The rebuild numbers the buffer's records again, drops those that failed and flushes the rest (R547, R552). -/
theorem recKept_rebuild (x : StartIn) (s : State) : RecKept s (rebuild x s) := by
  unfold rebuild
  extract_lets base s1 keep s2
  have e1 : RecKept s s1 := .ite (.refl s) (.of_hostRec (by simp [hostRec]))
  have e2 : RecKept s1 s2 := ⟨fun h => ⟨(length_dropPlaces ..).trans h.1, h.2⟩⟩
  have e3 : RecKept s2 (x.torn.foldl (fun s a => tornSlot a s) (x.cut.foldl (fun s p => erasePos p.1 p.2 s) s2)) :=
    .of_hostRec (by simp)
  exact (e1.trans (e2.trans e3)).trans (recKept_flush _)

/-! ### Answers to commands that waited on hardware (R134) -/

theorem recKept_abortAnswer (s : State) : RecKept s (abortAnswer s) := 
  .foldl (fun s _ => recKept_respond (.refl s) ..) _ s

theorem recKept_oxAbortEnd (q : Nat) (s : State) : RecKept s (oxAbortEnd q s) := by
  unfold oxAbortEnd
  have e : RecKept s (oxEnd q 3 s) := .of_hostRec (by simp)
  exact .ite (.ite (e.trans (recKept_abortAnswer _)) e) (.refl s)

theorem recKept_snapAnswer (s : State) : RecKept s (snapAnswer s) :=
  RecKept.trans (t := { s with snapWait := [] }) (.of_hostRec rfl)
    (.foldl (fun s _ => recKept_respond (a := done (snapTake s) _) (.of_hostRec (hostRec_snapTake s)) ..) _ _)

theorem recKept_meterStep (s : State) : RecKept s (meterStep s) := by
  unfold meterStep
  refine .ite (.refl s) ?_
  extract_lets s1 s2 s3 s4
  have e2 : hostRec s2 = hostRec s := by simp [s2, s1]
  have e3 : hostRec s3 = hostRec s2 := by simp only [s3, hostRec_stepTurn, hostRec_onMeter]
  have e4 : RecKept s s4 := ((RecKept.of_hostRec (e3.trans e2)).trans (recKept_snapAnswer s3)).then_hostRec (by simp [s4])
  exact e4.then_hostRec (by simp)

theorem recKept_answerRestarted (s : State) : RecKept s (answerRestarted s) :=
  .foldl (fun s _ => .ite (recKept_deliver ..) (.refl s)) _ s

/-! ### Units whose sequence ends (R150, R151) -/

theorem recKept_oxStopEnd (s : State) : RecKept s (oxStopEnd s) := by
  unfold oxStopEnd
  exact (recKept_oxAbortEnd 0 s).then_hostRec (by simp)

theorem recKept_unitStopEnd (a b : Nat) (s : State) : RecKept s (unitStopEnd a b s) := by
  unfold unitStopEnd
  split
  case h_2 => exact recKept_oxStopEnd s
  case h_3 => exact recKept_oxAbortEnd 1 s
  all_goals exact .of_hostRec (by simp)

theorem recKept_sequenceEnd (a b : Nat) (s : State) : RecKept s (sequenceEnd a b s) := by
  unfold sequenceEnd
  refine (recKept_unitStopEnd a b s).trans (.of_hostRec ?_)
  dsimp only
  split <;> simp

theorem recKept_recoveryDone (c : Nat) (s : State) : RecKept s (recoveryDone c s) :=
  .ite ((RecKept.of_hostRec (by simp)).trans (recKept_sequenceEnd ..)) (.refl s)

theorem recKept_recoveryTimeout (c n : Nat) (s : State) : RecKept s (recoveryTimeout c n s) :=
  .ite ((RecKept.of_hostRec (by simp)).trans (recKept_sequenceEnd ..)) (.refl s)

/-! ### Resets (R47, R109, R547) -/

theorem recKept_islandReset (b : Bool) (s : State) : RecKept s (islandReset b s) := by
  refine ⟨fun h => ⟨?_, BitVec.zero_and⟩⟩
  cases b
  · exact h.1
  · exact Nat.zero_le _

theorem recKept_porAssert (s : State) : RecKept s (porAssert s) := ⟨fun _ => ⟨Nat.zero_le _, BitVec.zero_and⟩⟩

theorem recKept_railsCut (n : Nat) (s : State) : RecKept s (railsCut n s) :=
  (recKept_islandReset true s).then_hostRec (hostRec_onPower ..)

theorem recKept_mainResetRequest (s : State) : RecKept s (mainResetRequest s) :=
  (recKept_islandReset false s).then_hostRec (hostRec_onPower ..)

theorem recKept_xtalFail (s : State) : RecKept s (xtalFail s) :=
  .ite ((RecKept.of_hostRec (by simp)).trans (recKept_railsCut 1 _)) (.refl s)

theorem recKept_pgFall (s : State) : RecKept s (pgFall s) :=
  .ite ((RecKept.of_hostRec (by simp)).trans (recKept_railsCut 1 _)) (.of_hostRec (by simp))

theorem recKept_thermShut (s : State) : RecKept s (thermShut s) :=
  (recKept_railsCut 60 s).then_hostRec (hostRec_onMgmt ..)

theorem recKept_tempCross (l : List Int) (s : State) : RecKept s (tempCross l s) := by
  unfold tempCross
  refine .ite (.refl s) ?_
  extract_lets old new s1 warn s2
  have e1 : RecKept s s1 := .of_hostRec (hostRec_onMgmt ..)
  exact .ite (e1.trans (recKept_thermShut s1)) (e1.then_hostRec (by simp [s2]))

theorem recKept_pllUnlock (n : Nat) (s : State) : RecKept s (pllUnlock n s) :=
  .ite (.refl s) (.ite (recKept_xtalFail s) (.of_hostRec (by simp)))

/-! ### MINIMAL and the steps of a start (R100, R107) -/

theorem recKept_minimalPlant (s : State) : RecKept s (minimalPlant s) := by
  unfold minimalPlant
  extract_lets s1 s2 s3 s4 s5 s6 s7
  have e3 : hostRec s3 = hostRec s := by simp [s3, s2, s1]
  have e4 : RecKept s s4 :=
    ((RecKept.of_hostRec (by simp [e3])).trans (recKept_oxAbortEnd 0 _)).trans (recKept_oxAbortEnd 1 _)
  exact e4.then_hostRec (by simp [s7, s6, s5])

theorem recKept_enterMinimal (x : StartIn) (n : Nat) (s : State) : RecKept s (enterMinimal x n s) := by
  unfold enterMinimal
  extract_lets s1 s2 s3 s4
  have e1 : RecKept s s1 := .ite ((recKept_minimalPlant s).trans (recKept_answerRestarted _)) (.of_hostRec (by simp))
  exact (e1.then_hostRec (by simp [s4, s3, s2])).trans (recKept_rebuild x s4)

theorem recKept_startStep (x : StartIn) (c : Nat) {f : State → State} (h : ∀ s, RecKept s (f s)) (s : State) :
    RecKept s (startStep x c f s) := by
  unfold startStep
  exact .ite (.ite ((h s).then_hostRec (hostRec_onMgmt ..)) (h s)) (.refl s)

theorem recKept_start1 (x : StartIn) (s : State) : RecKept s (start1 x s) := by
  unfold start1
  extract_lets s1 why s2 s3
  have e3 : RecKept s s3 := .of_hostRec (by simp [s3, s2, s1])
  cases why with
  | some r => exact e3.trans (recKept_enterMinimal ..)
  | none => exact e3

theorem recKept_start2 (x : StartIn) (s : State) : RecKept s (start2 x s) := by
  unfold start2
  extract_lets s1
  have e1 : RecKept s s1 := .of_hostRec (by simp [s1])
  exact .ite e1 (e1.trans (recKept_enterMinimal ..))

theorem recKept_start2Warm (x : StartIn) (s : State) : RecKept s (start2Warm x s) :=
  .ite (.refl s) (recKept_enterMinimal ..)

theorem recKept_start3 (x : StartIn) (s : State) : RecKept s (start3 x s) :=
  .ite (.of_hostRec (by simp)) ((RecKept.of_hostRec (by simp)).trans (recKept_mainResetRequest _))

theorem recKept_start4 (x : StartIn) (s : State) : RecKept s (start4 x s) := by
  unfold start4
  dsimp only
  repeat' split
  · exact .of_hostRec (by simp)
  · exact recKept_enterMinimal ..
  · exact .of_hostRec (by simp)
  · exact .of_hostRec (by simp)

theorem recKept_start8Full (x : StartIn) (s : State) : RecKept s (start8Full x s) := by
  unfold start8Full
  extract_lets s1 s2 s3
  have e2 : RecKept s s2 := (RecKept.of_hostRec (by simp [s1])).trans (recKept_rebuild ..)
  exact e2.then_hostRec (by simp [s3])

theorem recKept_start8Warm (x : StartIn) (s : State) : RecKept s (start8Warm x s) := by
  unfold start8Warm
  have e : RecKept s (rebuild x (readBack s)) := (RecKept.of_hostRec (by simp)).trans (recKept_rebuild ..)
  exact (e.trans (recKept_answerRestarted _)).then_hostRec (by simp)

theorem recKept_startLate (x : StartIn) (s : State) : RecKept s (startLate x s) := by
  unfold startLate
  extract_lets s4 s6 s7 s8
  have e4 : RecKept s s4 := (recKept_startStep x 4 (recKept_start4 x) s).trans
    (recKept_startStep x 5 (fun s => .of_hostRec (hostRec_start5 s)) _)
  have e6 : RecKept s s6 := e4.trans (recKept_startStep x 6 (fun s => .of_hostRec (hostRec_start6 s x)) _)
  have e7 : RecKept s s7 := e6.trans (recKept_startStep x 7 (fun s => .of_hostRec (hostRec_start7 s)) _)
  have e8 : RecKept s s8 :=
    e7.trans (recKept_startStep x 8 (fun s => .ite (recKept_start8Warm x s) (recKept_start8Full x s)) _)
  exact e8.trans (recKept_startStep x 15 (fun s => .of_hostRec (hostRec_start9 s x)) _)

theorem recKept_startFull (x : StartIn) (s : State) : RecKept s (startFull x s) := by
  unfold startFull
  have e1 := (RecKept.of_hostRec (hostRec_onMgmt (s := s) fun m => { m with warm := false, minimal := false })).trans
    (recKept_startStep x 1 (recKept_start1 x) _)
  exact ((e1.trans (recKept_startStep x 2 (recKept_start2 x) _)).trans
    (recKept_startStep x 3 (recKept_start3 x) _)).trans (recKept_startLate x _)

theorem recKept_startWarm (x : StartIn) (s : State) : RecKept s (startWarm x s) := by
  unfold startWarm
  extract_lets s1
  have e1 : RecKept s s1 := .of_hostRec (by simp [s1])
  exact ((e1.trans (recKept_startStep x 1 (recKept_start1 x) _)).trans
    (recKept_startStep x 2 (recKept_start2Warm x) _)).trans (recKept_startLate x _)

theorem recKept_warmAgain (x : StartIn) (s : State) : RecKept s (warmAgain x s) :=
  (RecKept.of_hostRec (hostRec_mgmtReset s)).trans (recKept_startWarm x _)

theorem recKept_mainRelease (x : StartIn) (s : State) : RecKept s (mainRelease x s) :=
  .ite ((RecKept.of_hostRec (by simp)).trans (recKept_startFull x _)) (.refl s)

theorem recKept_watchdogExpiry (x : StartIn) (s : State) : RecKept s (watchdogExpiry x s) :=
  .ite ((RecKept.of_hostRec (by simp)).trans (recKept_warmAgain x _)) (.refl s)

theorem recKept_readyTimeout (x : StartIn) (s : State) : RecKept s (readyTimeout x s) :=
  .ite ((RecKept.of_hostRec (by simp)).trans (recKept_warmAgain x _)) (.refl s)

theorem recKept_codeFault (n : Nat) (e : Bool) (x : StartIn) (s : State) : RecKept s (codeFault n e x s) :=
  .ite ((RecKept.of_hostRec (by simp)).trans (recKept_warmAgain x _)) (.refl s)

theorem recKept_restartNow (x : StartIn) (s : State) : RecKept s (restartNow x s) := by
  unfold restartNow
  split
  · exact .refl s
  · exact .ite (.refl s) (.ite (recKept_mainResetRequest s) (recKept_warmAgain x s))

theorem recKept_scrubBad (n k : Nat) (x : StartIn) (s : State) : RecKept s (scrubBad n k x s) := by
  unfold scrubBad
  split
  · exact .ite ((RecKept.of_hostRec (hostRec_onMgmt ..)).trans (recKept_codeFault ..)) (.of_hostRec (hostRec_onMgmt ..))
  · exact .of_hostRec (by simp)
  · exact .refl s

theorem recKept_scrubFound (n k i : Nat) (x : StartIn) (s : State) : RecKept s (scrubFound n k i x s) :=
  .ite ((RecKept.of_hostRec (by simp)).trans (recKept_scrubBad ..)) (.refl s)

/-! ### Device states (R76 to R81) -/

theorem recKept_islandOn (n : Nat) (s : State) : RecKept s (islandOn n s) := by
  unfold islandOn
  extract_lets was s1
  have e1 : RecKept s s1 := .of_hostRec (by simp [s1])
  refine e1.trans ?_
  clear_value s1
  split
  · exact (RecKept.of_hostRec (hostRec_regenerate s1)).trans (.ite (.of_hostRec (hostRec_unwrapAll _)) (recKept_mainResetRequest _))
  all_goals exact .of_hostRec (by simp)

theorem recKept_entryEnd (n : Nat) (s : State) : RecKept s (entryEnd n s) := by
  unfold entryEnd
  split
  case h_1 => exact (recKept_oxAbortEnd 0 s).trans (recKept_oxAbortEnd 1 _)
  case h_4 => exact recKept_flush s
  all_goals exact .of_hostRec (by simp)

theorem recKept_entryComplete (s : State) : RecKept s (entryComplete s) := by
  unfold entryComplete
  extract_lets t report s1 woke s2
  have e1 : RecKept s s1 := .of_hostRec (by simp [s1])
  have e2 : RecKept s s2 := (e1.trans (recKept_islandReset true s1)).then_hostRec (by simp [s2])
  exact .ite (.ite (e2.then_hostRec (by simp)) e2) e1

theorem recKept_entryStepDone (s : State) : RecKept s (entryStepDone s) := by
  unfold entryStepDone
  extract_lets n s1 next
  have e1 : RecKept s s1 := (recKept_entryEnd n s).then_hostRec (by simp [s1])
  refine .ite (.refl s) (.ite (e1.then_hostRec (by simp)) ?_)
  cases next with
  | none => exact e1.trans (recKept_entryComplete s1)
  | some k => exact e1.then_hostRec (by simp)

theorem recKept_exitIslands (s : State) : RecKept s (exitIslands s) := by
  unfold exitIslands
  extract_lets s1
  have e1 : RecKept s s1 := (RecKept.of_hostRec (by simp)).trans (.foldl (fun s k => recKept_islandOn k s) _ _)
  exact .ite e1 (e1.then_hostRec (by simp))

theorem recKept_exitUndo (s : State) (n : Nat) : RecKept s (exitUndo s n) := by
  unfold exitUndo
  refine .ite (.refl s) ?_
  split
  case h_1 => exact recKept_exitIslands s
  case h_2 => exact recKept_islandOn 10 s
  all_goals exact .of_hostRec (by simp)

theorem recKept_exitMalor (r d : Bool) (s : State) : RecKept s (exitMalor r d s) := by
  unfold exitMalor
  extract_lets slept s1 s2 s3 s4
  have e1 : hostRec s1 = hostRec s := by simp [s1]
  have e2 : RecKept s s2 := (RecKept.of_hostRec e1).trans
    (.ite ((RecKept.of_hostRec (by simp)).trans (recKept_flush _)) (.refl s1))
  have e4 : RecKept s s4 := e2.then_hostRec (by simp [s4, s3])
  have e5 : RecKept s (if d then answerRestarted s4 else s4) := .ite (e4.trans (recKept_answerRestarted s4)) e4
  exact .ite (e2.then_hostRec (by simp)) ((e5.then_hostRec (hostRec_mirrorParams _)).then_hostRec (hostRec_calTry _))

theorem recKept_exitComplete (lost : List (Nat × Byte)) (s : State) : RecKept s (exitComplete lost s) := by
  unfold exitComplete
  refine .ite (.refl s) ?_
  extract_lets reversed fromDeep s1 steps deepTarget s2 s3 s4
  have e1 : RecKept s s1 := .of_hostRec (by simp [s1])
  have e2 : RecKept s s2 := e1.then_hostRec (by simp [s2])
  have e3 : RecKept s s3 := e2.trans ((RecKept.ite (.of_hostRec (by simp)) (.refl s2)).trans (.foldl recKept_exitUndo _ _))
  exact .ite (e1.trans (recKept_mainResetRequest s1))
    (.ite e3 ((e3.then_hostRec (by simp [s4])).trans (recKept_exitMalor ..)))

/-! ### Commands that flush (R104, R546) -/

theorem recKept_mgmtRestart (p : Bytes) (s : State) : RecKept s (mgmtRestart p s).st := by
  unfold mgmtRestart
  extract_lets mode s1
  have e : RecKept s (flush s1) := (RecKept.of_hostRec (hostRec_onMgmt ..)).trans (recKept_flush _)
  repeat' split
  · exact .refl s
  · exact .refl s
  · exact .refl s
  · exact e

theorem recKept_malorActivate (x : Bool) (s : State) : RecKept s (malorActivate x s) :=
  (RecKept.of_hostRec (by simp)).trans (recKept_flush _)

theorem recKept_minimalActivate (n : Nat) (x : Bool) (s : State) : RecKept s (minimalActivate n x s) :=
  (RecKept.of_hostRec (by simp)).trans (recKept_flush _)

theorem recKept_updateActivate (p : Bytes) (s : State) : RecKept s (updateActivate p s).st := by
  unfold updateActivate
  dsimp only
  repeat' split
  case _ => exact .refl s
  case _ => exact .refl s
  case _ => exact .refl s
  case _ => exact .refl s
  case _ => exact (recKept_malorActivate ..).then_hostRec (hostRec_updateClose _)
  case _ => exact (recKept_minimalActivate ..).then_hostRec (hostRec_updateClose _)
  all_goals exact .of_hostRec (by simp)

theorem recKept_mailBody (c : Nat) (m : Mail) (s : State) : RecKept s (mailBody c m s).st := by
  unfold mailBody
  split
  case h_2 => exact recKept_mgmtRestart ..
  case h_7 => exact recKept_updateActivate ..
  all_goals exact .of_hostRec (by simp)

theorem recKept_idleStep (s : State) : RecKept s (idleStep s) := by
  unfold idleStep
  split
  · exact recKept_takeCmd (recKept_mailBody _ _) ..
  · exact .of_hostRec (by simp)


end Sys2Proof.Machine
end

section
/-! What every step keeps of the mailboxes and the buffer: O4. -/

namespace Sys2Proof.Machine

/-- Every command keeps the buffer within its slots and the mailboxes consistent. First come the mailbox commands, then those whose
state leaves the account of `hostRec`, then those that choose by a `match` of their own. -/
theorem exec_recKept (c : Instr) (s : State) : ∃ t, exec c s = .next t ∧ RecKept s t := by
  cases c with
  | timeSet m | timeTrgArm m | timeTrgStop m | timeStatusGet m | paramWrite m | paramRead m | paramTableRead m
  | paramTableWrite m | paramInfo m | secSessionOpen m | secSessionConfirm m | secSessionClose m | secKeyImport m
  | secKeyClear m | secOtpKeySet m | secKeyRevoke m | secLifecycleAdvance m | secEnrol m | secDikGet m | secCertWrite m
  | secCertCommit m | secCertGet m | secAttest m | modelInfoGet m | modelSubstWrite m | oxSolveArm m | oxAbort m
  | loopSpSet m | loopClear m | motMove m | motStop m | motHome m | motGearArm m | motClear m | canObjWrite m
  | canRecover m | adcWaveCapture m | adcWaveStop m | adcCalNow m | adcClear m | dispatchInputWrite m
  | dispatchInputCommit m | dispatchStoreSet m | dispatchStatusGet m | logicModeSet m | logicStep m | logicHostBits m
  | recRead m | recVerify m | recStatusGet m | meterSnapshot m | meterLossGet m | meterAccSet m | pairStatusGet m
  | pairFailSet m | pairResync m | dispImageWrite m | dispUpdate m | dispTempSet m | subsysEnable m | subsysDisable m
  | subsysStateGet m | subsysCheck m | modelTrialRevert m | powerOppSet m | powerClkSpreadSet m | powerWakeTokenSet m
  | powerStateSet m | mgmtStatusGet m | mgmtConfigSave m | updateBegin m | updateData m | updateFinish m
  | updateCommit m | updateAbort m | logicTrialRevert m =>
    exact ⟨_, rfl, recKept_mailStep (fun s => .of_hostRec (by simp)) ..⟩
  | mgmtRestart m => exact ⟨_, rfl, recKept_mailStep (fun s => recKept_mgmtRestart m.payload s) ..⟩
  | updateActivate m => exact ⟨_, rfl, recKept_mailStep (fun s => recKept_updateActivate m.payload s) ..⟩
  | unknownCommand cmd m => exact ⟨_, rfl, .ite (.refl s) (recKept_mailStep (fun s => .refl s) ..)⟩
  | porNAssert => exact ⟨_, rfl, recKept_porAssert s⟩
  | pmicPgFall => exact ⟨_, rfl, recKept_pgFall s⟩
  | xtal25Fail => exact ⟨_, rfl, recKept_xtalFail s⟩
  | pllUnlock n => exact ⟨_, rfl, recKept_pllUnlock n s⟩
  | mainResetRelease x => exact ⟨_, rfl, recKept_mainRelease x s⟩
  | watchdogExpiry x => exact ⟨_, rfl, recKept_watchdogExpiry x s⟩
  | readyTimerExpiry x => exact ⟨_, rfl, recKept_readyTimeout x s⟩
  | mgmtCodeFault x => exact ⟨_, rfl, recKept_codeFault ..⟩
  | scrubUncorrectable n x => exact ⟨_, rfl, recKept_scrubFound ..⟩
  | restartDelayExpiry x => exact ⟨_, rfl, recKept_restartNow x s⟩
  | tempThresholdCross l => exact ⟨_, rfl, recKept_tempCross l s⟩
  | entryStepDone => exact ⟨_, rfl, recKept_entryStepDone s⟩
  | exitComplete lost => exact ⟨_, rfl, recKept_exitComplete lost s⟩
  | islandWakeDone n => exact ⟨_, rfl, .ite (recKept_islandOn n s) (.refl s)⟩
  | registerWrite b o d e => exact ⟨_, rfl, recKept_registerWrite ..⟩
  | spiFrameError b => exact ⟨_, rfl, .ite (recKept_spiFrame b s) (.refl s)⟩
  | recorderFlush => exact ⟨_, rfl, .ite (recKept_flush s) (.refl s)⟩
  | meterStep => exact ⟨_, rfl, recKept_meterStep s⟩
  | solverAbortEnd q => exact ⟨_, rfl, (recKept_oxAbortEnd q s).then_hostRec (hostRec_oxHear _)⟩
  | shutdownSequenceEnd a b => exact ⟨_, rfl, .ite (recKept_sequenceEnd a b s) (.refl s)⟩
  | canRecoveryDone k => exact ⟨_, rfl, recKept_recoveryDone k s⟩
  | canRecoveryTimeout k n => exact ⟨_, rfl, recKept_recoveryTimeout k n s⟩
  | relocation =>
    refine ⟨_, rfl, .ite ?_ (.refl s)⟩
    split
    · exact .refl s
    · exact recKept_relocate ..
  | sessionOpeningTimeout k =>
    refine ⟨_, rfl, ?_⟩
    split
    · exact .of_hostRec (by simp)
    · exact .refl s
  | sessionIdleTimeout k =>
    refine ⟨_, rfl, ?_⟩
    split
    · exact .ite (.of_hostRec (hostRec_endSession ..)) (.refl s)
    · exact .refl s
  | triggerFire n =>
    refine ⟨_, rfl, ?_⟩
    split
    · exact .ite (.of_hostRec (hostRec_trgFire ..)) (.refl s)
    · exact .refl s
  | oxQqArm q prog limit bench deadline =>
    refine ⟨_, rfl, .ite ?_ (.refl s)⟩
    cases ha : oxArm q _ s with
    | none => exact .refl s
    | some t => exact .of_hostRec (hostRec_oxArm ha)
  | staticLevelling ring pos =>
    refine ⟨_, rfl, .ite ?_ (.refl s)⟩
    split
    · exact .ite (.of_hostRec (by simp)) (.refl s)
    · exact .refl s
  | _ => exact ⟨_, rfl, .of_hostRec (by simp)⟩

/-- Settles O4: a command in front is executed on the queue's rest, and an idle step takes a rung command or lets a period pass. -/
theorem stepKeepsRecordsAndMailboxes : Obligations.StepKeepsRecordsAndMailboxes := by
  unfold Obligations.StepKeepsRecordsAndMailboxes
  intro s t ok run
  cases hq : s.pending with
  | nil =>
    rw [step, hq] at run
    cases run
    exact (recKept_idleStep s).ok ok
  | cons c rest =>
    obtain ⟨u, he, hk⟩ := exec_recKept c { s with pending := rest }
    rw [step, hq] at run
    cases he.symm.trans run
    exact hk.ok ok

end Sys2Proof.Machine
end

section
/-! SUPPORT. What a response leaves in the host interface, and where the fields of an untagged one stand (R130, R132, R133). -/

namespace Sys2Proof.Machine

/-! ### A mailbox answered -/

theorem nth_of_lt {α : Type} (d : α) {l : List α} {i : Nat} (h : i < l.length) : l[i]? = some (nth d l i) := by
  simp [nth_eq, List.getElem?_eq_getElem h]

theorem nth_set_same {α : Type} (d a : α) {l : List α} {i : Nat} (h : i < l.length) : nth d (l.set i a) i = a := by
  simp [nth_eq, h]

theorem respond_host_stored (k : State) (c : Nat) (m : Mail) (a : Answer) :
    (respond k c m a).host.stored = a.st.host.stored.set m.mbox (some ⟨headerBytes c m ++ m.tag, respBytes k c m a⟩) :=
  deliver_host_stored ..

/-- The part gives the answered mailbox back and keeps the others it owns (R133). -/
theorem deliver_owner_bit (b : Nat) (p : Bytes) (s : State) {n : Nat} (hn : n < 8) :
    (deliver b p s).host.owner.getLsbD n = (s.host.owner.getLsbD n && decide (n ≠ b)) := by
  rw [(deliver_host b p s).2.1]
  rcases lt_trichotomy n b with h | rfl | h
  · simp [hn, h, h.ne]
  · simp [hn]
  · simp [hn, h.ne', Nat.not_lt.mpr h.le, Nat.sub_ne_zero_of_lt h]

/-- The answered mailbox is done, and the others are as they were (R133). -/
theorem deliver_done_bit (b : Nat) (p : Bytes) (s : State) {n : Nat} (hn : n < 8) :
    (deliver b p s).host.done.getLsbD n = (s.host.done.getLsbD n || decide (n = b)) := by
  rw [(deliver_host b p s).2.2]
  rcases lt_trichotomy n b with h | rfl | h
  · simp [hn, h, h.ne]
  · simp [hn]
  · simp [hn, h.ne', Nat.not_lt.mpr h.le, Nat.sub_ne_zero_of_lt h]

/-- A done bit that rises sets source 8 (R130). -/
theorem deliver_source (b : Nat) (p : Bytes) (s : State) (h : s.host.done.getLsbD b = false) :
    (deliver b p s).host.evtStatus.getLsbD 8 = true := by
  simp only [deliver, h, Bool.false_eq_true, if_false]
  exact setSource_bit 8 _ (by norm_num)

/-! ### The bytes of an untagged response (R132) -/

theorem respBytes_untagged (k : State) (c : Nat) {m : Mail} (a : Answer) (h : mailAuth m = false) :
    respBytes k c m a = respHeader c m 2 a ++ a.payload := by
  simp [respBytes, h]

theorem length_respHeader (c : Nat) (m : Mail) (f : Nat) (a : Answer) : (respHeader c m f a).length = 32 := by
  simp [respHeader]

end Sys2Proof.Machine
end

section
/-! A response and its mailbox: O20. -/

namespace Sys2Proof.Machine

/-- Settles O20: the response is delivered into its mailbox and kept, and its header's fields lie one behind the other. -/
theorem mailboxResponse : Obligations.MailboxResponse := by
  unfold Obligations.MailboxResponse
  refine ⟨fun k c m a hm hbox hstored => ?delivered, fun k c m a hu hc hs hst hr hp hl => ?fields⟩
  case delivered =>
    have hbox' : (respond k c m a).host.mbox = modNth a.st.host.mbox m.mbox (fun x => overwrite x 0 (respBytes k c m a)) :=
      (deliver_host ..).1
    refine ⟨?_, ?_, ?_, ?_, fun n hne hn => ⟨?_, ?_, ?_⟩, fun h => deliver_source _ _ _ h, rfl⟩
    · simp [respond, deliver_owner_bit _ _ _ hm]
    · simp [respond, deliver_done_bit _ _ _ hm]
    · rw [hbox', nth_modNth_same _ (nth_of_lt [] (by omega))]
    · rw [respond_host_stored, nth_set_same _ _ (by omega)]
    · rw [hbox', nth_modNth_other _ _ _ _ _ hne]
    · simp [respond, deliver_owner_bit _ _ _ hn, hne]
    · simp [respond, deliver_done_bit _ _ _ hn, hne]
  case fields =>
    rw [respBytes_untagged k c a hu]
    have hlen : a.payload.length < 256 ^ 2 := by omega
    have hstatus : a.status < 256 ^ 2 := by omega
    have field {off n v : Nat} (hv : v < 256 ^ n)
        (h : byteField (respHeader c m 2 a ++ a.payload) off n = v % 256 ^ n) :
        byteField (respHeader c m 2 a ++ a.payload) off n = v := h.trans (Nat.mod_eq_of_lt hv)
    refine ⟨field hc ?_, field (v := 2) (by norm_num) ?_, field hs ?_, field hlen ?_, field hstatus ?_, field hr ?_, field hp ?_,
      List.drop_left' (length_respHeader ..)⟩
    all_goals simp [respHeader, byteField_skip, byteField_front]

end Sys2Proof.Machine
end

section
/-! SUPPORT. What the start and the shut-down of a unit leave of the units' states, the parameters, the OTP and the device's phase
(R149, R150): the functions that leave them as they are, chapter by chapter. -/

namespace Sys2Proof.Machine

/-! ### The units, the parameters, the OTP and the phase -/

/-- The units' states, the parameters, the OTP words and the device's phase. This does not unfold by itself, so that `simp` compares
what the start of a unit keeps of two states as one value. -/
def standing (units : Units) (params : List (Nat × Int)) (otp : List (Nat × Nat)) (phase : Phase) :
    Units × List (Nat × Int) × List (Nat × Nat) × Phase := (units, params, otp, phase)

/-- What the start and the shut-down of a unit keep. -/
abbrev setup (s : State) : Units × List (Nat × Int) × List (Nat × Nat) × Phase :=
  standing s.host.units s.host.params s.sec.otp s.power.phase

theorem setup_fields {s t : State} (h : setup t = setup s) : t.host.units = s.host.units ∧ t.host.params = s.host.params ∧
    t.sec.otp = s.sec.otp ∧ t.power.phase = s.power.phase := by
  simpa [setup, standing] using h

@[simp] theorem setup_ite (c : Prop) [Decidable c] (a b : State) :
    setup (if c then a else b) = if c then setup a else setup b := apply_ite setup c a b

@[simp] theorem setup_foldl {α : Type} {f : State → α → State} (h : ∀ s a, setup (f s a) = setup s) (l : List α) (s : State) :
    setup (l.foldl f s) = setup s := by
  induction l generalizing s with
  | nil => rfl
  | cons a l ih => rw [List.foldl_cons, ih, h]

@[simp] theorem setup_onPower {f : PowerSt → PowerSt} (h : ∀ p, (f p).phase = p.phase) (s : State) :
    setup (onPower f s) = setup s := congrArg (standing s.host.units s.host.params s.sec.otp) (h s.power)

@[simp] theorem setup_onHost {f : HostSt → HostSt} (hu : ∀ h, (f h).units = h.units) (hp : ∀ h, (f h).params = h.params)
    (s : State) : setup (onHost f s) = setup s := by
  simp [setup, hu, hp]

/-! ### Functions that leave all four as they are -/

section

variable (n k i j a b c d e f g h : Nat) (p q r : Bytes) (x y z : Bool) (m : Mail) (v w u : Int) (s : State)

/-! #### Parameters -/

@[simp] theorem setup_parCommit (p : Nat → Bool) : setup (parCommit p s) = setup s := by simp [parCommit]

/-! #### Events -/

@[simp] theorem setup_raise : setup (raise n k i j a s) = setup s := by simp [setup]
@[simp] theorem setup_drawn : setup s.drawn = setup s := rfl

/-! #### The shared operations -/

@[simp] theorem setup_setIsl (n : Nat) (x : IslSt) (s : State) : setup (setIsl n x s) = setup s := rfl
@[simp] theorem setup_padWrite : setup (padWrite n k s) = setup s := by simp [padWrite]
@[simp] theorem setup_padLoad : setup (padLoad n s) = setup s := by simp [padLoad]
@[simp] theorem setup_padLoadOwner : setup (padLoadOwner n s) = setup s := by simp [padLoadOwner]
@[simp] theorem setup_send (m : OutMsg) : setup (send m s) = setup s := by simp [send]
@[simp] theorem setup_onNet (f : NetSt → NetSt) : setup (onNet f s) = setup s := by simp [onNet]
@[simp] theorem setup_onPort (f : PortSt → PortSt) : setup (onPort n f s) = setup s := by simp [onPort]

/-! #### Mailbox commands -/

@[simp] theorem setup_slotAsk : setup (slotAsk n k s) = setup s := by simp [slotAsk]
@[simp] theorem setup_done : setup (done s p).st = setup s := by simp [done]
@[simp] theorem setup_respond (k : State) (c : Nat) (m : Mail) (a : Answer) : setup (respond k c m a) = setup a.st := by
  simp [setup]

/-! #### Network time -/

@[simp] theorem setup_onTime (f : TimeSt → TimeSt) : setup (onTime f s) = setup s := by simp [onTime]
@[simp] theorem setup_onTrg (f : Trigger → Trigger) : setup (onTrg n f s) = setup s := by simp [onTrg]
@[simp] theorem setup_handPulse : setup (handPulse n k s) = setup s := by simp [handPulse]
@[simp] theorem setup_captPulse : setup (captPulse n x s) = setup s := by simp [captPulse]
@[simp] theorem setup_trgLate : setup (trgLate n s) = setup s := by
  unfold trgLate; split <;> simp
@[simp] theorem setup_clearLocked : setup (clearLocked s) = setup s := by simp [clearLocked]
@[simp] theorem setup_holdover : setup (holdover s) = setup s := by simp [holdover]
@[simp] theorem setup_portSet : setup (portSet n k s) = setup s := by simp [portSet]
@[simp] theorem setup_armTrigger : setup (armTrigger n x y z k i j a s) = setup s := by simp [armTrigger]
@[simp] theorem setup_disarm : setup (disarm n s) = setup s := by simp [disarm]
@[simp] theorem setup_timeStart : setup (timeStart s) = setup s := by simp [timeStart]
@[simp] theorem setup_timeStop : setup (timeStop s) = setup s := by simp [timeStop]
@[simp] theorem setup_timeStopEnd : setup (timeStopEnd s) = setup s := by simp [timeStopEnd]

/-! #### The real-time clock -/

/-! #### Gates -/

@[simp] theorem setup_onPair (f : PairSt → PairSt) : setup (onPair f s) = setup s := rfl
@[simp] theorem setup_canPendingGone : setup (canPendingGone s) = setup s := rfl

/-! #### Ox -/

@[simp] theorem setup_onOx (f : OxSt → OxSt) : setup (onOx f s) = setup s := by simp [onOx]
@[simp] theorem setup_onQ (f : OxQueue → OxQueue) : setup (onQ n f s) = setup s := by simp [onQ]
@[simp] theorem setup_stick : setup (stick n k s) = setup s := by simp [stick]
@[simp] theorem setup_setFactor : setup (setFactor n k i s) = setup s := by simp [setFactor]
@[simp] theorem setup_diagPublish (x : OxQueue) : setup (diagPublish n x s) = setup s := by
  unfold diagPublish; split <;> simp
@[simp] theorem setup_oxNeed : setup (oxNeed s) = setup s := by simp [oxNeed]
@[simp] theorem setup_oxRun : setup (oxRun n s) = setup s := by simp [oxRun]
@[simp] theorem setup_oxResume : setup (oxResume s) = setup s := by simp [oxResume]
@[simp] theorem setup_oxKick : setup (oxKick s) = setup s := by simp [oxKick]
@[simp] theorem setup_oxEndEvents (x : OxQueue) : setup (oxEndEvents n k x s) = setup s := by simp [oxEndEvents]
@[simp] theorem setup_armEnds : setup (armEnds n k s) = setup s := by simp [armEnds]
@[simp] theorem setup_armStart (a : ArmReq) : setup (armStart n a k s) = setup s := by simp [armStart]
@[simp] theorem setup_oxEnd : setup (oxEnd n k s) = setup s := by
  unfold oxEnd; dsimp only; split <;> simp
@[simp] theorem setup_oxAbortStart : setup (oxAbortStart n s) = setup s := by simp [oxAbortStart]
@[simp] theorem setup_abortAnswer : setup (abortAnswer s) = setup s := by simp [abortAnswer]
@[simp] theorem setup_oxAbortEnd : setup (oxAbortEnd n s) = setup s := by simp [oxAbortEnd]

/-! #### Hydraulics -/

@[simp] theorem setup_onEst (f : EstSt → EstSt) : setup (onEst f s) = setup s := by simp [onEst]

/-! #### Estimation -/

@[simp] theorem setup_oxStart : setup (oxStart s) = setup s := by simp [oxStart]
@[simp] theorem setup_oxStop : setup (oxStop s) = setup s := by simp [oxStop]
@[simp] theorem setup_oxStopEnd : setup (oxStopEnd s) = setup s := by simp [oxStopEnd]

/-! #### Loops -/

@[simp] theorem setup_onLoop (f : LoopSt → LoopSt) : setup (onLoop n f s) = setup s := by simp [onLoop]
@[simp] theorem setup_loopEvent : setup (loopEvent n s) = setup s := by simp [loopEvent]
@[simp] theorem setup_loopEnter : setup (loopEnter n k s) = setup s := by simp [loopEnter]
@[simp] theorem setup_loopDrive : setup (loopDrive n v s) = setup s := by simp [loopDrive]
@[simp] theorem setup_loopOutput : setup (loopOutput n s) = setup s := by
  unfold loopOutput; split <;> simp
@[simp] theorem setup_loopRestart : setup (loopRestart n s) = setup s := by simp [loopRestart]
@[simp] theorem setup_loopPermitGone : setup (loopPermitGone n s) = setup s := by simp [loopPermitGone]
@[simp] theorem setup_loopStart : setup (loopStart n s) = setup s := by simp [loopStart]
@[simp] theorem setup_loopStop : setup (loopStop n s) = setup s := by simp [loopStop]
@[simp] theorem setup_loopStopEnd : setup (loopStopEnd n s) = setup s := by simp [loopStopEnd]

/-! #### Axes -/

@[simp] theorem setup_onAxis (f : AxisSt → AxisSt) : setup (onAxis n f s) = setup s := by simp [onAxis]
@[simp] theorem setup_axisEvent : setup (axisEvent n s) = setup s := by simp [axisEvent]
@[simp] theorem setup_axisLevels : setup (axisLevels n s) = setup s := by simp [axisLevels]
@[simp] theorem setup_axisEnter : setup (axisEnter n k s) = setup s := by simp [axisEnter]
@[simp] theorem setup_axisUncertain : setup (axisUncertain n s) = setup s := by simp [axisUncertain]
@[simp] theorem setup_axisHalt : setup (axisHalt n s) = setup s := by simp [axisHalt]
@[simp] theorem setup_axisPermitGone : setup (axisPermitGone n s) = setup s := by simp [axisPermitGone]
@[simp] theorem setup_axisStart : setup (axisStart n s) = setup s := by simp [axisStart]
@[simp] theorem setup_axisStop : setup (axisStop n s) = setup s := by simp [axisStop]
@[simp] theorem setup_axisStopEnd : setup (axisStopEnd n s) = setup s := by simp [axisStopEnd]

/-! #### CAN -/

@[simp] theorem setup_onCan (f : CanSt → CanSt) : setup (onCan n f s) = setup s := by simp [onCan]
@[simp] theorem setup_onObj (f : CanObj → CanObj) : setup (onObj n k f s) = setup s := by simp [onObj]
@[simp] theorem setup_canOffer : setup (canOffer n s) = setup s := by
  unfold canOffer; repeat' split
  all_goals simp
@[simp] theorem setup_objPend : setup (objPend n k s) = setup s := by simp [objPend]
@[simp] theorem setup_canRecoverStart : setup (canRecoverStart n s) = setup s := by simp [canRecoverStart]
@[simp] theorem setup_canPermitGone : setup (canPermitGone n k s) = setup s := by simp [canPermitGone]
@[simp] theorem setup_canPermitBack : setup (canPermitBack n k s) = setup s := by simp [canPermitBack]
@[simp] theorem setup_canReassert : setup (canReassert n s) = setup s := by simp [canReassert]
@[simp] theorem setup_canStart : setup (canStart n s) = setup s := by simp [canStart]
@[simp] theorem setup_canStop : setup (canStop n s) = setup s := by
  unfold canStop; split <;> simp
@[simp] theorem setup_canStopEnd : setup (canStopEnd n s) = setup s := by simp [canStopEnd]

/-! #### Acquisition -/

@[simp] theorem setup_onAdc (f : AdcSt → AdcSt) : setup (onAdc f s) = setup s := by simp [onAdc]
@[simp] theorem setup_onCh (f : AdcCh → AdcCh) : setup (onCh n f s) = setup s := by simp [onCh]
@[simp] theorem setup_onRef (f : AdcRef → AdcRef) : setup (onRef f s) = setup s := by simp [onRef]
@[simp] theorem setup_onCal (f : CalSt → CalSt) : setup (onCal f s) = setup s := by simp [onCal]
@[simp] theorem setup_onWav (f : WavSt → WavSt) : setup (onWav n f s) = setup s := by simp [onWav]
@[simp] theorem setup_calTry : setup (calTry s) = setup s := by
  unfold calTry; repeat' split
  all_goals simp
@[simp] theorem setup_wavSave : setup (wavSave n s) = setup s := by simp [wavSave]
@[simp] theorem setup_captureStop : setup (captureStop n s) = setup s := by
  unfold captureStop; split <;> simp
@[simp] theorem setup_refStart : setup (refStart s) = setup s := by simp [refStart]
@[simp] theorem setup_chStart : setup (chStart n s) = setup s := by simp [chStart]
@[simp] theorem setup_wavStart : setup (wavStart n s) = setup s := by simp [wavStart]
@[simp] theorem setup_adcStart : setup (adcStart n s) = setup s := by simp [adcStart]
@[simp] theorem setup_calCut : setup (calCut n s) = setup s := by simp [calCut]
@[simp] theorem setup_adcStop : setup (adcStop n s) = setup s := by simp [adcStop]
@[simp] theorem setup_adcStopEnd : setup (adcStopEnd n s) = setup s := by simp [adcStopEnd]

/-! #### Economic dispatch -/

@[simp] theorem setup_onDsp (f : DspSt → DspSt) : setup (onDsp f s) = setup s := by simp [onDsp]
@[simp] theorem setup_chargeGuess : setup (chargeGuess s) = setup s := by simp [chargeGuess]
@[simp] theorem setup_dispatchStart : setup (dispatchStart s) = setup s := by simp [dispatchStart]
@[simp] theorem setup_dispatchStop : setup (dispatchStop s) = setup s := by simp [dispatchStop]
@[simp] theorem setup_dispatchStopEnd : setup (dispatchStopEnd s) = setup s := by simp [dispatchStopEnd]

/-! #### Aplar logic -/

@[simp] theorem setup_onLogic (f : LogicSt → LogicSt) : setup (onLogic f s) = setup s := by simp [onLogic]
@[simp] theorem setup_permitChange (old : BitVec 576) (new : BitVec 576) : setup (permitChange old new s) = setup s := by
  simp [permitChange]
@[simp] theorem setup_outputImage (q : BitVec 24) (p : BitVec 576) : setup (outputImage q p s) = setup s := by
  simp [outputImage]
@[simp] theorem setup_logicSafe : setup (logicSafe s) = setup s := by simp [logicSafe]
@[simp] theorem setup_logicEnter : setup (logicEnter n s) = setup s := by simp [logicEnter]
@[simp] theorem setup_progTake : setup (progTake p x s) = setup s := by simp [progTake]
@[simp] theorem setup_progEvent : setup (progEvent s) = setup s := by simp [progEvent]
@[simp] theorem setup_logicActivate : setup (logicActivate p x s) = setup s := by simp [logicActivate]
@[simp] theorem setup_logicStart : setup (logicStart s) = setup s := by simp [logicStart]
@[simp] theorem setup_logicStop : setup (logicStop s) = setup s := by simp [logicStop]
@[simp] theorem setup_logicStopEnd : setup (logicStopEnd s) = setup s := by
  unfold logicStopEnd; dsimp only; split <;> simp

/-! #### Metering -/

@[simp] theorem setup_onMeter (f : MeterSt → MeterSt) : setup (onMeter f s) = setup s := by simp [onMeter]
@[simp] theorem setup_onUnit (f : MeterUnit → MeterUnit) : setup (onUnit n f s) = setup s := by simp [onUnit]
@[simp] theorem setup_onPulse (f : Pulse → Pulse) : setup (onPulse n f s) = setup s := by simp [onPulse]
@[simp] theorem setup_meterStart : setup (meterStart n s) = setup s := by simp [meterStart]
@[simp] theorem setup_meterStop : setup (meterStop n s) = setup s := by simp [meterStop]
@[simp] theorem setup_meterStopEnd : setup (meterStopEnd n s) = setup s := by simp [meterStopEnd]

/-! #### Ethernet and ingest -/

@[simp] theorem setup_netStart : setup (netStart n s) = setup s := by simp [netStart]
@[simp] theorem setup_netStopEnd : setup (netStopEnd n s) = setup s := by simp [netStopEnd]

/-! #### The redundant pair -/

@[simp] theorem setup_straitSend : setup (straitSend n x p s) = setup s := by
  unfold straitSend; split <;> simp
@[simp] theorem setup_linkStart : setup (linkStart s) = setup s := by simp [linkStart]
@[simp] theorem setup_canReassertAll : setup (canReassertAll s) = setup s := by simp [canReassertAll]
@[simp] theorem setup_pairStart : setup (pairStart s) = setup s := by simp [pairStart]
@[simp] theorem setup_pairStop : setup (pairStop s) = setup s := by simp [pairStop]
@[simp] theorem setup_pairStopEnd : setup (pairStopEnd s) = setup s := by simp [pairStopEnd]

/-! #### The status panel -/

@[simp] theorem setup_onDisp (f : DispSt → DispSt) : setup (onDisp f s) = setup s := by simp [onDisp]
@[simp] theorem setup_frameStart (u : DispUpd) : setup (frameStart u s) = setup s := by simp [frameStart]
@[simp] theorem setup_updStart (u : DispUpd) : setup (updStart u s) = setup s := by simp [updStart]
@[simp] theorem setup_clearStart : setup (clearStart s) = setup s := by simp [clearStart]
@[simp] theorem setup_dischargeStart : setup (dischargeStart s) = setup s := by simp [dischargeStart]
@[simp] theorem setup_imagesPlace : setup (imagesPlace s) = setup s := by simp [imagesPlace]
@[simp] theorem setup_dispStart : setup (dispStart s) = setup s := by
  unfold dispStart; dsimp only; split <;> simp
@[simp] theorem setup_dispStop : setup (dispStop n s) = setup s := by
  unfold dispStop; dsimp only; repeat' split
  all_goals simp
@[simp] theorem setup_dispStopEnd : setup (dispStopEnd s) = setup s := by simp [dispStopEnd]

/-! #### Enable units -/

@[simp] theorem setup_islReqFollow : setup (islReqFollow s) = setup s := by simp [islReqFollow]
@[simp] theorem setup_unitStart : setup (unitStart n k s) = setup s := by
  unfold unitStart; split <;> simp
@[simp] theorem setup_unitStop : setup (unitStop n k s) = setup s := by
  unfold unitStop; split <;> simp
@[simp] theorem setup_unitStopEnd : setup (unitStopEnd n k s) = setup s := by
  unfold unitStopEnd; split <;> simp
@[simp] theorem setup_islandFor : setup (islandFor n k s) = setup s := by
  unfold islandFor; split <;> simp

end

end Sys2Proof.Machine
end

section
/-! SUPPORT. The state in which a SUBSYS command runs, a unit's state replaced, and what SUBSYS_ENABLE, SUBSYS_DISABLE and the end of a
sequence come to in each of their cases (R148 to R151). -/

namespace Sys2Proof.Machine

/-! ### A unit's state replaced -/

theorem unitsOf_withUnits {u : Units} {a : Nat} (l : List UnitSt) (h : unitsOf u a ≠ []) : unitsOf (withUnits u a l) a = l := by
  unfold unitsOf at h
  split at h
  case h_13 => exact absurd rfl h
  all_goals rfl

theorem unitSt_setUnit_same {a b : Nat} {s : State} (x : UnitSt) (h : b < (unitsOf s.host.units a).length) :
    unitSt (setUnit a b x s) a b = x := by
  have he : unitsOf s.host.units a ≠ [] := List.ne_nil_of_length_pos (by omega)
  rw [unitSt, setUnit, unitsOf_withUnits _ he, nth_set_same {} x h]

theorem unitSt_of_setup {s t : State} (h : setup t = setup s) (a b : Nat) : unitSt t a b = unitSt s a b := by
  rw [unitSt, unitSt, (setup_fields h).1]

/-- A unit's state is replaced among operations that leave the units, the parameters, the OTP and the phase. -/
theorem setup_setUnit {a b : Nat} {x : UnitSt} {s w t : State} (hb : b < (unitsOf s.host.units a).length) (hw : setup w = setup s)
    (ht : setup t = setup (setUnit a b x w)) : unitSt t a b = x ∧ t.power.phase = s.power.phase ∧
      t.host.params = s.host.params ∧ t.sec.otp = s.sec.otp := by
  obtain ⟨wu, wp, wo, wh⟩ := setup_fields hw
  obtain ⟨-, tp, tot, th⟩ := setup_fields ht
  have hbw : b < (unitsOf w.host.units a).length := by rwa [wu]
  exact ⟨(unitSt_of_setup ht a b).trans (unitSt_setUnit_same x hbw), th.trans wh, tp.trans wp, tot.trans wo⟩

/-! ### The state in which a command runs -/

/-- A command is taken in a device that is up, before its ring's wake and after it (R81, R109). -/
theorem takenState_phase {cmd : Nat} {m : Mail} {s : State} (h : taken cmd m s = true) :
    (takenState cmd m s).power.phase = s.power.phase := by
  have hr : mailReaches cmd m s = true := by
    simp only [taken, Bool.and_eq_true] at h
    tauto
  simp only [mailReaches, hostServed, served, inRun, Bool.and_eq_true, beq_iff_eq] at hr
  obtain ⟨⟨⟨⟨⟨before, -⟩, -⟩, -⟩, ⟨⟨⟨after, -⟩, -⟩, -⟩, -⟩, -⟩ := hr
  rw [takenState_power, after, before]

theorem setup_takenState {cmd : Nat} {m : Mail} {s : State} (h : taken cmd m s = true) : setup (takenState cmd m s) = setup s := by
  simp only [setup, takenState_phase h, takenState_otp, takenState_host, ring_host_units, ring_host_params]

theorem takenState_pair (cmd : Nat) (m : Mail) (s : State) : (takenState cmd m s).pair = s.pair := by
  rw [takenState_frame]
  exact ring_pair cmd m s

/-- A command that is let through and not held is answered as its body says. -/
theorem mailOut_responds {cmd : Nat} {m : Mail} {body : State → Answer} {s : State} {r : Answer} (h : taken cmd m s = true)
    (hb : body (takenState cmd m s) = r) (hr : r.held = false) : mailOut cmd m body s = .next (respond (ring cmd m s) cmd m r) := by
  rw [mailOut_taken h, hb, hr]; rfl

/-! ### SUBSYS_ENABLE -/

theorem subsysEnableCmd_of_unit {m : Mail} {s : State} {a b : Nat} (h : subsysUnit m.payload s = .ok (a, b)) :
    subsysEnableCmd m s = subsysEnable m.seq a b s := by
  rw [subsysEnableCmd, h]

theorem failsafeBars_eq_false {s : State} (h : s.pair.failsafe = false) (a : Nat) : failsafeBars s a = false := by
  rw [failsafeBars, h, Bool.false_and]

theorem subsysEnable_of_enabled {s : State} {a b : Nat} (seq : Nat) (hu : unitSt s a b = { enabled := true }) :
    subsysEnable seq a b s = done s [] := by
  simp [subsysEnable, hu]

theorem subsysEnable_of_failing {s : State} {a b r p : Nat} {st : Bool} (seq : Nat) (hu : unitSt s a b = { stopping := st })
    (hf : s.pair.failsafe = false) (hc : unitCheck a b s = some (r, p)) : subsysEnable seq a b s = refuse s r p := by
  simp [subsysEnable, hu, failsafeBars_eq_false hf, hc]

/-- A unit that passes its check waits for its sequence or its island, or is started (R150, R151). -/
theorem subsysEnable_of_passing {s : State} {a b : Nat} {st : Bool} (seq : Nat) (hu : unitSt s a b = { stopping := st })
    (hf : s.pair.failsafe = false) (hc : unitCheck a b s = none) : subsysEnable seq a b s =
      if st = true ∨ islandFalling s a b = true then pendingAns (setUnit a b { stopping := st, pend := some seq } s) (rc a 0x02)
      else done (unitEnable a b s) [] := by
  simp [subsysEnable, hu, failsafeBars_eq_false hf, hc]

/-- A completed start replaces the unit's state and keeps what starts keep (R150). -/
theorem setup_unitEnable (a b : Nat) (s : State) :
    ∃ w, setup w = setup s ∧ setup (unitEnable a b s) = setup (setUnit a b { enabled := true } w) := by
  refine ⟨islandFor a b (if (unitsOf s.host.units a).all (fun u => !u.enabled) then padLoadOwner a s else s), by simp, ?_⟩
  rw [unitEnable, setup_islReqFollow, setup_unitStart]

/-! ### SUBSYS_DISABLE -/

theorem subsysDisableCmd_of_unit {p : Bytes} {s : State} {a b : Nat} (h : subsysUnit p s = .ok (a, b)) :
    subsysDisableCmd p s = subsysDisable a b s := by
  rw [subsysDisableCmd, h]

/-- An ENABLED unit is refused with the first enabled unit that needs it. -/
theorem subsysDisable_of_needed {s : State} {a b c d : Nat} (hu : unitSt s a b = { enabled := true })
    (hd : dependent s a b = some (c, d)) :
    subsysDisable a b s = refuse s (rc a 0x0D) 0 (leBytes 1 c ++ leBytes 1 0 ++ leBytes 2 d) := by
  simp [subsysDisable, hu, hd]

/-- An ENABLED unit that none needs begins its sequence. -/
theorem subsysDisable_of_unneeded {s : State} {a b : Nat} (hu : unitSt s a b = { enabled := true })
    (hd : dependent s a b = none) (hp : pairBars s a = false) :
    subsysDisable a b s = done (unitStop a b (setUnit a b { stopping := true } s)) [] := by
  simp [subsysDisable, hu, hd, hp]

/-- A pending enable of a unit that follows no island is cancelled with its event (R151). -/
theorem subsysDisable_of_pending {s : State} {a b q : Nat} {st : Bool} (hu : unitSt s a b = { stopping := st, pend := some q })
    (hi : unitIsland a b = none) : subsysDisable a b s =
      done (raise 0x0210 9 (a * 65536 + b) (rc a 0x0C) q (setUnit a b { stopping := st } s)) [] := by
  simp only [subsysDisable, pendingCancel, pendingDone, hu, hi, Option.isSome_some, if_true]

/-! ### SUBSYS_CHECK and SUBSYS_STATE_GET -/

theorem subsysStateGet_of_unit {p : Bytes} {s : State} {a b : Nat} (h : subsysUnit p s = .ok (a, b)) :
    subsysStateGet p s = done s (leBytes 1 (unitCode (unitSt s a b))) := by
  rw [subsysStateGet, h]

theorem subsysCheck_of_passing {p : Bytes} {s : State} {a b : Nat} (h : subsysUnit p s = .ok (a, b))
    (hc : unitCheck a b s = none) : subsysCheck p s = done s [] := by
  simp [subsysCheck, h, hc]

theorem subsysCheck_of_failing {p : Bytes} {s : State} {a b r q : Nat} (h : subsysUnit p s = .ok (a, b))
    (hc : unitCheck a b s = some (r, q)) : subsysCheck p s = refuse s r q := by
  simp [subsysCheck, h, hc]

/-! ### The end of a sequence -/

theorem exec_shutdownSequenceEnd {s : State} {a b : Nat} (hr : inRun s = true) (hu : unitSt s a b = { stopping := true })
    (ho : stopOver s a b = true) : exec (.shutdownSequenceEnd a b) s = .next (sequenceEnd a b s) := by
  show execShutdownSequenceEnd a b s = _
  simp [execShutdownSequenceEnd, stopping, hr, hu, ho]

theorem pendingRun_of_none {s : State} {a b : Nat} (h : (unitSt s a b).pend = none) : pendingRun a b s = s := by
  simp only [pendingRun, h]

@[simp] theorem setup_islandIdle (n : Nat) (s : State) : setup (islandIdle n s) = setup s := by simp [islandIdle]

/-- The end of the sequence of a unit without a pending enable leaves it DISABLED (R151). -/
theorem setup_sequenceEnd {s : State} {a b : Nat} (hb : b < (unitsOf s.host.units a).length) (hu : unitSt s a b = { stopping := true }) :
    setup (sequenceEnd a b s) = setup (setUnit a b {} (unitStopEnd a b s)) := by
  have hw := setup_unitStopEnd a b s
  set w := islReqFollow (setUnit a b {} (unitStopEnd a b s)) with ew
  have ht : setup w = setup (setUnit a b {} (unitStopEnd a b s)) := setup_islReqFollow ..
  have hp : pendingRun a b w = w := pendingRun_of_none (by rw [(setup_setUnit hb hw ht).1])
  simp only [sequenceEnd, unitSt_of_setup hw, hu, ← ew, hp, ite_self]
  split
  · exact (setup_islandIdle ..).trans ht
  · exact ht

end Sys2Proof.Machine
end

section
/-! ENABLING, DISABLING AND PENDING ENABLES: O22. -/

namespace Sys2Proof.Machine

/-- Settles O22: each SUBSYS command comes to one case of its effect, and what it starts or stops keeps the other states. -/
theorem enableUnits : Obligations.EnableUnits := by
  unfold Obligations.EnableUnits
  refine ⟨fun m s a b h ok hu => ?again, fun m s a b r q h ok hu hf hc => ?failing, fun m s a b h ok hu hf hc => ?waiting,
    fun m s a b h ok hu hf hc hi hb => ?enabling, fun m s a b h ok hu hd hp hb => ?disabling, fun m s a b c d h ok hu hd => ?needed,
    fun m s a b q st h ok hu hi => ?cancelling, fun m s a b h ok => ?stateGet, fun m s a b h ok => ?check,
    fun s a b hr hu ho _ hb => ?ending⟩
  case again =>
    rw [← unitSt_of_setup (setup_takenState h)] at hu
    exact mailOut_answers h ((subsysEnableCmd_of_unit ok).trans (subsysEnable_of_enabled m.seq hu))
  case failing =>
    rw [← unitSt_of_setup (setup_takenState h)] at hu
    rw [← takenState_pair 0x0201 m s] at hf
    exact mailOut_refuses h ((subsysEnableCmd_of_unit ok).trans (subsysEnable_of_failing m.seq hu hf hc))
  case waiting =>
    rw [← unitSt_of_setup (setup_takenState h)] at hu
    rw [← takenState_pair 0x0201 m s] at hf
    refine mailOut_responds h ?_ rfl
    rw [subsysEnableCmd_of_unit ok, subsysEnable_of_passing m.seq hu hf hc]
    exact if_pos (.inl rfl)
  case enabling =>
    rw [← unitSt_of_setup (setup_takenState h)] at hu
    rw [← takenState_pair 0x0201 m s] at hf
    obtain ⟨w, hw, ht⟩ := setup_unitEnable a b (takenState 0x0201 m s)
    refine ⟨_, mailOut_answers h ?_, setup_setUnit hb (hw.trans (setup_takenState h)) ht⟩
    rw [subsysEnableCmd_of_unit ok, subsysEnable_of_passing m.seq hu hf hc]
    exact if_neg (by simp [hi])
  case disabling =>
    rw [← unitSt_of_setup (setup_takenState h)] at hu
    obtain ⟨stopping, -, params, otp⟩ := setup_setUnit hb (setup_takenState h) (setup_unitStop a b (setUnit a b { stopping := true } _))
    exact ⟨_, mailOut_answers h ((subsysDisableCmd_of_unit ok).trans (subsysDisable_of_unneeded hu hd hp)), stopping, params, otp⟩
  case needed =>
    rw [← unitSt_of_setup (setup_takenState h)] at hu
    exact mailOut_responds h ((subsysDisableCmd_of_unit ok).trans (subsysDisable_of_needed hu hd)) rfl
  case cancelling =>
    rw [← unitSt_of_setup (setup_takenState h)] at hu
    exact mailOut_answers h ((subsysDisableCmd_of_unit ok).trans (subsysDisable_of_pending hu hi))
  case stateGet =>
    rw [← unitSt_of_setup (setup_takenState h)]
    exact mailOut_answers h (subsysStateGet_of_unit ok)
  case check =>
    split
    next hc => exact mailOut_answers h (subsysCheck_of_passing ok hc)
    next r q hc => exact mailOut_refuses h (subsysCheck_of_failing ok hc)
  case ending =>
    obtain ⟨disabled, -, params, otp⟩ := setup_setUnit hb (setup_unitStopEnd a b s) (setup_sequenceEnd hb hu)
    exact ⟨_, exec_shutdownSequenceEnd hr hu ho, disabled, params, otp⟩

end Sys2Proof.Machine
end

section
/-! SUPPORT. The security engine: the state in which one of its commands runs, what such a command answers, and its slots and sessions
replaced (R137, R158, R164, R179). -/

namespace Sys2Proof.Machine

/-! ### The state in which a command runs -/

/-- Taking a command changes of the security engine its sessions alone (R137). -/
theorem takenState_sec (cmd : Nat) (m : Mail) (s : State) :
    (takenState cmd m s).sec = { s.sec with sessions := (takenState cmd m s).sec.sessions } := by
  unfold takenState sessionAccept setSession
  split
  · split <;> simp
  · simp

section

variable (cmd : Nat) (m : Mail) (s : State)

@[simp] theorem takenState_slots : (takenState cmd m s).sec.slots = s.sec.slots := by rw [takenState_sec]
@[simp] theorem takenState_rootOk : (takenState cmd m s).sec.rootOk = s.sec.rootOk := by rw [takenState_sec]
@[simp] theorem takenState_drbgOk : (takenState cmd m s).sec.drbgOk = s.sec.drbgOk := by rw [takenState_sec]
@[simp] theorem takenState_storage : (takenState cmd m s).sec.storage = s.sec.storage := by rw [takenState_sec]
@[simp] theorem takenState_epochs : (takenState cmd m s).sec.epochs = s.sec.epochs := by rw [takenState_sec]
@[simp] theorem takenState_helper0 : (takenState cmd m s).sec.helper0 = s.sec.helper0 := by rw [takenState_sec]
@[simp] theorem takenState_helper1 : (takenState cmd m s).sec.helper1 = s.sec.helper1 := by rw [takenState_sec]
@[simp] theorem takenState_provA : (takenState cmd m s).sec.provA = s.sec.provA := by rw [takenState_sec]
@[simp] theorem takenState_provB : (takenState cmd m s).sec.provB = s.sec.provB := by rw [takenState_sec]
@[simp] theorem takenState_staged : (takenState cmd m s).sec.staged = s.sec.staged := by rw [takenState_sec]
@[simp] theorem takenState_params : (takenState cmd m s).host.params = s.host.params := by
  rw [takenState_host, ring_host_params]

theorem takenState_sessions_length : (takenState cmd m s).sec.sessions.length = s.sec.sessions.length := by
  unfold takenState sessionAccept setSession
  split
  · split <;> simp
  · simp

end

/-! ### What a command of the security engine answers (R179) -/

section

variable {cmd : Nat} {m : Mail} {body : State → Answer} {s t u : State} {p : Bytes} {r : Nat}

theorem mailOut_secBody_answers (h : taken cmd m s = true) (hb : body (takenState cmd m s) = done t p) :
    mailOut cmd m (secBody cmd body) s = answers cmd m s (secShown cmd 0 t) p :=
  mailOut_answers h (by rw [secBody, hb]; rfl)

theorem mailOut_secBody_refuses (h : taken cmd m s = true) (hb : body (takenState cmd m s) = refuse t r) :
    mailOut cmd m (secBody cmd body) s = refuses cmd m s (secShown cmd r t) r 0 :=
  mailOut_refuses h (by rw [secBody, hb]; rfl)

/-- A command that a condition decides is answered or refused by it. -/
theorem mailOut_secBody_ite {c : Prop} [Decidable c] (h : taken cmd m s = true)
    (hb : body (takenState cmd m s) = if c then done t p else refuse u r) :
    mailOut cmd m (secBody cmd body) s =
      if c then answers cmd m s (secShown cmd 0 t) p else refuses cmd m s (secShown cmd r u) r 0 := by
  split
  next hc => exact mailOut_secBody_answers h (hb.trans (if_pos hc))
  next hc => exact mailOut_secBody_refuses h (hb.trans (if_neg hc))

end

section

variable (cmd r : Nat) (s : State)

theorem secShown_eq : secShown cmd r s =
    { s with sec := { s.sec with cmd := Config.secCmd cmd % 2 ^ 32, cmdStat := 65536 * r } } := rfl

/-! The rules below rewrite by `secShown_eq`: as definitional equalities they would have the kernel compare whole states. -/

@[simp] theorem secShown_slots : (secShown cmd r s).sec.slots = s.sec.slots := by rw [secShown_eq]
@[simp] theorem secShown_sessions : (secShown cmd r s).sec.sessions = s.sec.sessions := by rw [secShown_eq]
@[simp] theorem secShown_epochs : (secShown cmd r s).sec.epochs = s.sec.epochs := by rw [secShown_eq]
@[simp] theorem secShown_rootOk : (secShown cmd r s).sec.rootOk = s.sec.rootOk := by rw [secShown_eq]
@[simp] theorem secShown_otp : (secShown cmd r s).sec.otp = s.sec.otp := by rw [secShown_eq]
@[simp] theorem secShown_helper0 : (secShown cmd r s).sec.helper0 = s.sec.helper0 := by rw [secShown_eq]
@[simp] theorem secShown_helper1 : (secShown cmd r s).sec.helper1 = s.sec.helper1 := by rw [secShown_eq]
@[simp] theorem secShown_provA : (secShown cmd r s).sec.provA = s.sec.provA := by rw [secShown_eq]
@[simp] theorem secShown_provB : (secShown cmd r s).sec.provB = s.sec.provB := by rw [secShown_eq]
@[simp] theorem secShown_staged : (secShown cmd r s).sec.staged = s.sec.staged := by rw [secShown_eq]
@[simp] theorem secShown_host : (secShown cmd r s).host = s.host := by rw [secShown_eq]
@[simp] theorem secShown_recorder : (secShown cmd r s).recorder = s.recorder := by rw [secShown_eq]
@[simp] theorem secShown_mgmt : (secShown cmd r s).mgmt = s.mgmt := by rw [secShown_eq]

end

/-! ### Slots and sessions -/

section

variable (k : Nat) (x : Option Session) (s : State)

@[simp] theorem setSession_sessions : (setSession k x s).sec.sessions = s.sec.sessions.set k x := by rw [setSession]
@[simp] theorem setSession_slots : (setSession k x s).sec.slots = s.sec.slots := by rw [setSession]
@[simp] theorem setSession_otp : (setSession k x s).sec.otp = s.sec.otp := by rw [setSession]
@[simp] theorem setSession_host : (setSession k x s).host = s.host := by rw [setSession]

end

section

variable (n : Nat) (k : KeySlot) (s : State)

@[simp] theorem setSlot_slots : (setSlot n k s).sec.slots = s.sec.slots.set n k := by rw [setSlot, onSec_sec]
@[simp] theorem setSlot_epochs : (setSlot n k s).sec.epochs = s.sec.epochs := by rw [setSlot, onSec_sec]
@[simp] theorem setSlot_otp : (setSlot n k s).sec.otp = s.sec.otp := by rw [setSlot, onSec_sec]
@[simp] theorem setSlot_provA : (setSlot n k s).sec.provA = s.sec.provA := by rw [setSlot, onSec_sec]

end

/-- A key request reads the key store; a refused one is counted and recorded (R158). -/
theorem slotAsk_sec (slot engine : Nat) (s : State) :
    (slotAsk slot engine s).sec = { s.sec with bindViol := (slotAsk slot engine s).sec.bindViol } := by
  unfold slotAsk
  split <;> simp

@[simp] theorem slotAsk_slots (slot engine : Nat) (s : State) : (slotAsk slot engine s).sec.slots = s.sec.slots := by
  rw [slotAsk_sec]

@[simp] theorem slotAsk_sessions (slot engine : Nat) (s : State) : (slotAsk slot engine s).sec.sessions = s.sec.sessions := by
  rw [slotAsk_sec]

@[simp] theorem slotAsk_otp (slot engine : Nat) (s : State) : (slotAsk slot engine s).sec.otp = s.sec.otp := by
  rw [slotAsk_sec]

@[simp] theorem slotAsk_epochs (slot engine : Nat) (s : State) : (slotAsk slot engine s).sec.epochs = s.sec.epochs := by
  rw [slotAsk_sec]

@[simp] theorem slotAsk_time (slot engine : Nat) (s : State) : (slotAsk slot engine s).time = s.time := by
  unfold slotAsk
  split <;> simp

@[simp] theorem slotAsk_params (slot engine : Nat) (s : State) : (slotAsk slot engine s).host.params = s.host.params := by
  obtain ⟨-, params, -⟩ := setup_fields (setup_slotAsk slot engine s)
  exact params

/-- What a key request gets depends on the slots alone. -/
theorem slotOk_congr {s t : State} (h : t.sec.slots = s.sec.slots) (slot engine : Nat) : slotOk t slot engine = slotOk s slot engine := by
  rw [slotOk, slotOk, h]

theorem slotKey_congr {s t : State} (h : t.sec.slots = s.sec.slots) (slot engine : Nat) :
    slotKey t slot engine = slotKey s slot engine := by
  rw [slotKey, slotKey, slotOk_congr h, h]

theorem nth_none_eq_some {α : Type} {l : List (Option α)} {k : Nat} {x : α} : nth none l k = some x ↔ l[k]? = some (some x) := by
  rw [nth_eq]
  cases l[k]? <;> simp

/-- The number found for a SESSION ID is that of an open session. -/
theorem sessionNo_eq_some {s : State} {id k : Nat} (h : sessionNo s id = some k) :
    k < 4 ∧ ∃ x, s.sec.sessions[k]? = some (some x) ∧ x.isOpen = true := by
  have hk := List.mem_of_find?_eq_some h
  have hx := List.find?_some h
  refine ⟨List.mem_range.mp hk, ?_⟩
  split at hx
  next x e => exact ⟨x, nth_none_eq_some.mp e, (Bool.and_eq_true_iff.mp hx).2⟩
  next => exact absurd hx Bool.false_ne_true

theorem openingNo_lt {s : State} {id k : Nat} (h : openingNo s id = some k) : k < 4 :=
  List.mem_range.mp (List.mem_of_find?_eq_some h)

/-- An open session that ends leaves with its two slots and its event (R164). -/
theorem endSession_open {s : State} {k : Nat} {x : Session} (h : s.sec.sessions[k]? = some (some x)) (ho : x.isOpen = true) :
    endSession k s = raise 0x0211 10 x.id 0 0 { s with sec := { s.sec with
      sessions := s.sec.sessions.set k none, slots := (s.sec.slots.set (12 + 2 * k) {}).set (13 + 2 * k) {} } } := by
  rw [endSession, nth_none_eq_some.mpr h]
  exact if_pos ho

/-- Two elements of a list replaced, as the two slots of a session are (R160). -/
theorem getElem?_set_set {α : Type} {l : List α} {i j : Nat} (a b : α) (hi : i < l.length) (hj : j < l.length) (h : i ≠ j) :
    ((l.set i a).set j b)[i]? = some a ∧ ((l.set i a).set j b)[j]? = some b ∧
      ∀ n, n ≠ i → n ≠ j → ((l.set i a).set j b)[n]? = l[n]? := by
  refine ⟨?_, ?_, fun n hni hnj => ?_⟩
  · rw [List.getElem?_set_ne h.symm, List.getElem?_set_self hi]
  · rw [List.getElem?_set_self (by simpa using hj)]
  · rw [List.getElem?_set_ne hnj.symm, List.getElem?_set_ne hni.symm]

end Sys2Proof.Machine
end

section
/-! Sessions: O31. -/

namespace Sys2Proof.Machine

/-! ### SEC_SESSION_OPEN (R162) -/

/-- The OPENING session of a SEC_SESSION_OPEN with payload `p`. -/
def openingSession (p : Bytes) (s : State) : Session :=
  let id := 1 + leNat (drbg s 2 4) % (2 ^ 32 - 1)
  { id := id
    transcript := Config.sha384 (p ++ Config.p384Public (drbg s 0 48) ++ drbg s 1 32 ++ leBytes 4 id ++ uidBytes s)
    z := Config.ecdhX (drbg s 0 48) (p.take 96), last := s.time.ont }

theorem openingSession_id (p : Bytes) (s : State) : (openingSession p s).id ≠ 0 ∧ (openingSession p s).id < 2 ^ 32 := by
  simp only [openingSession]
  omega

theorem sessionOpen_free {p : Bytes} {s : State} {k : Nat} (hl : p.length = 128) (hr : s.sec.rootOk = true)
    (hd : s.sec.drbgOk = true) (hk : freeSession s = some k) : ∃ b, sessionOpen p s =
      if Config.p384Valid (p.take 96) then
        done (setSession k (some (openingSession p s)) (slotAsk 0 3 s.drawn.drawn.drawn)) (leBytes 4 (openingSession p s).id ++ b)
      else refuse s 0x0318 := by
  refine ⟨Config.p384Public (drbg s 0 48) ++ drbg s 1 32 ++ Config.ecdsaSign (slotKey s 0 3) (openingSession p s).transcript, ?_⟩
  rw [sessionOpen, if_neg (by simp [hl]), if_neg (by simp [hr]), if_neg (by simp [hd]), hk]
  cases Config.p384Valid (p.take 96)
  · rfl
  · simp [openingSession]

theorem sessionOpen_full {p : Bytes} {s : State} (hl : p.length = 128) (hr : s.sec.rootOk = true) (hd : s.sec.drbgOk = true)
    (hk : freeSession s = none) : sessionOpen p s = refuse s (if Config.p384Valid (p.take 96) then 0x0307 else 0x0318) := by
  rw [sessionOpen, if_neg (by simp [hl]), if_neg (by simp [hr]), if_neg (by simp [hd]), hk]
  cases Config.p384Valid (p.take 96) <;> rfl

/-- Without its root or its random bit generator the engine opens no session. -/
theorem sessionOpen_unready {p : Bytes} {s : State} (hl : p.length = 128) (h : s.sec.rootOk = false ∨ s.sec.drbgOk = false) :
    sessionOpen p s = refuse s (if s.sec.rootOk then 0x0319 else 0x0313) := by
  rw [sessionOpen, if_neg (by simp [hl])]
  cases hr : s.sec.rootOk
  · rfl
  · have hd : s.sec.drbgOk = false := by simpa [hr] using h
    rw [if_neg (by simp), if_pos (by simp [hd])]
    rfl

/-! ### SEC_SESSION_CONFIRM (R162, R163) -/

/-- Session `k` confirmed: its keys stand in its two slots and it accepts commands from SEQ 0. -/
def sessionConfirmed (k : Nat) (x : Session) (s : State) : State :=
  setSession k (some { x with isOpen := true, z := [], seq := 0, misses := 0, last := s.time.ont })
    (setSlot (13 + 2 * k) ⟨1, 4, 3, kdf x.z (ascii "DN-SENC") x.transcript 256⟩
      (setSlot (12 + 2 * k) ⟨1, 4, 3, kdf x.z (ascii "DN-SMAC") x.transcript 256⟩ s))

theorem sessionConfirm_opening {id pos k : Nat} {x : Session} {sig : Bytes} {s : State} (hid : id < 2 ^ 32) (hp : pos ≤ 1)
    (hl : sig.length = 96) (hr : s.sec.rootOk = true) (hk : openingNo s id = some k)
    (hx : s.sec.sessions[k]? = some (some x)) :
    sessionConfirm (leBytes 4 id ++ leBytes 1 pos ++ zeros 3 ++ sig) s =
      if slotOk s (8 + pos) 2 = true ∧ Config.ecdsaVerify (nth {} s.sec.slots (8 + pos)).key
          (Config.sha384 (x.transcript ++ ascii "HOST")) sig = true then
        done (sessionConfirmed k x (slotAsk (8 + pos) 2 s)) []
      else refuse (setSession k none (slotAsk (8 + pos) 2 s)) 0x0314 := by
  have hpos : byteField (leBytes 4 id ++ leBytes 1 pos ++ zeros 3 ++ sig) 4 1 = pos := by
    simp [byteField_front, byteField_skip]; omega
  have hrsv : byteField (leBytes 4 id ++ leBytes 1 pos ++ zeros 3 ++ sig) 5 3 = 0 := by
    simp [byteField_skip, byteField_zeros]
  have hno : byteField (leBytes 4 id ++ leBytes 1 pos ++ zeros 3 ++ sig) 0 4 = id := by
    simp [byteField_front]; omega
  have hsig : (leBytes 4 id ++ leBytes 1 pos ++ zeros 3 ++ sig).drop 8 = sig := List.drop_left' (by simp)
  rw [sessionConfirm]
  simp only [hpos, hrsv, hno, hsig]
  rw [if_neg (by simp [hl]), if_neg (by simp [hr]), if_neg (by omega), hk]
  simp only [nth_none_eq_some.mpr hx]
  cases hok : slotOk s (8 + pos) 2
  · simp
  · simp only [slotKey, hok, Bool.true_and, true_and, if_true]
    rfl

/-- Confirming session `k` fills its record and its two slots, and nothing else of either store. -/
theorem sessionConfirmed_stores {k : Nat} {x : Session} {s : State} (hk : k < s.sec.sessions.length) :
    (∃ y, (sessionConfirmed k x s).sec.sessions[k]? = some (some y) ∧ y.isOpen = true ∧ y.id = x.id ∧ y.seq = 0) ∧
    (∀ j, j ≠ k → (sessionConfirmed k x s).sec.sessions[j]? = s.sec.sessions[j]?) ∧
    (sessionConfirmed k x s).sec.slots =
      (s.sec.slots.set (12 + 2 * k) ⟨1, 4, 3, kdf x.z (ascii "DN-SMAC") x.transcript 256⟩).set (13 + 2 * k)
        ⟨1, 4, 3, kdf x.z (ascii "DN-SENC") x.transcript 256⟩ :=
  ⟨⟨_, List.getElem?_set_self hk, rfl, rfl, rfl⟩, fun _ hj => List.getElem?_set_ne hj.symm, rfl⟩

/-! ### The end of a session (R164) -/

theorem sessionClose_open {m : Mail} {s : State} {k : Nat} (hp : m.payload = []) (ha : mailAuth m = true)
    (hk : sessionNo s m.session = some k) : sessionClose m s = done (endSession k s) [] := by
  rw [sessionClose, if_neg (by simp [hp]), if_neg (by simp [ha]), hk]

theorem exec_sessionOpeningTimeout {s : State} {k : Nat} {x : Session} (h : s.sec.sessions[k]? = some (some x)) :
    exec (.sessionOpeningTimeout k) s = .next (if x.isOpen then s else setSession k none s) := by
  show execSessionOpeningTimeout k s = _
  rw [execSessionOpeningTimeout, nth_none_eq_some.mpr h]
  cases ho : x.isOpen <;> simp [ho]

theorem exec_sessionIdleTimeout {s : State} {k : Nat} {x : Session} (h : s.sec.sessions[k]? = some (some x)) :
    exec (.sessionIdleTimeout k) s = .next (if x.isOpen then endSession k s else s) := by
  show execSessionIdleTimeout k s = _
  rw [execSessionIdleTimeout, nth_none_eq_some.mpr h]

theorem exec_secSessionOpen (m : Mail) (s : State) :
    exec (.secSessionOpen m) s = mailOut 0x0310 m (secBody 0x0310 (sessionOpen m.payload)) s := rfl

theorem exec_secSessionConfirm (m : Mail) (s : State) :
    exec (.secSessionConfirm m) s = mailOut 0x0311 m (secBody 0x0311 (sessionConfirm m.payload)) s := rfl

theorem exec_secSessionClose (m : Mail) (s : State) :
    exec (.secSessionClose m) s = mailOut 0x0312 m (secBody 0x0312 (sessionClose m)) s := rfl

/-- Settles O31: each command's effect in each of its cases, and the two timeouts by the session's state. What SEC_CMD and
SEC_CMD_STAT show is the model's choice (log 10), and so is the order of the checks of SEC_SESSION_OPEN, the random bit generator before
the point. -/
theorem sessions : Obligations.Sessions := by
  unfold Obligations.Sessions
  refine ⟨fun m s k h hl hr hd hk hlen => ?opening, fun m s h hl hr hd hk => ?full, fun m s h hl hu => ?unready,
    fun m s id pos k x sig h hid hp hl hm hr hk hx hs => ?confirm, fun m s k h ha hm hk hs => ?close,
    fun s k x hx ho => ⟨?_, ?_⟩, fun s k x hx ho => ⟨?_, ?_⟩⟩
  case opening =>
    rw [exec_secSessionOpen]
    obtain ⟨b, hb⟩ := sessionOpen_free (s := takenState 0x0310 m s) hl (by simpa) (by simpa) hk
    refine ⟨_, _, b, mailOut_secBody_ite h hb, ?_, rfl, (openingSession_id ..).1, (openingSession_id ..).2, fun j hj => ?_, ?_, ?_, ?_⟩
    · simp [takenState_sessions_length, hlen]
    · simp [List.getElem?_set_ne hj.symm]
    · simp
    · simp [takenState_otp]
    · simp
  case full =>
    rw [exec_secSessionOpen]
    exact mailOut_secBody_refuses h (sessionOpen_full hl (by simpa) (by simpa) hk)
  case unready =>
    rw [exec_secSessionOpen]
    rw [← takenState_rootOk 0x0310 m s] at hu ⊢
    rw [← takenState_drbgOk 0x0310 m s] at hu
    exact mailOut_secBody_refuses h (sessionOpen_unready hl hu)
  case confirm =>
    rw [exec_secSessionConfirm]
    have hk4 := openingNo_lt hk
    have hkl : k < (takenState 0x0311 m s).sec.sessions.length := (List.getElem?_eq_some_iff.mp hx).1
    have hc := sessionConfirm_opening hid hp hl (by simpa) hk hx
    rw [← hm, slotOk_congr (takenState_slots ..), takenState_slots] at hc
    obtain ⟨hopen, hothers, hslots⟩ := sessionConfirmed_stores (k := k) (x := x) (s := slotAsk (8 + pos) 2 (takenState 0x0311 m s))
      (by simpa)
    rw [slotAsk_slots, takenState_slots] at hslots
    rw [slotAsk_sessions] at hothers
    obtain ⟨hmac, henc, hrest⟩ := getElem?_set_set (l := s.sec.slots) (i := 12 + 2 * k) (j := 13 + 2 * k)
      ⟨1, 4, 3, kdf x.z (ascii "DN-SMAC") x.transcript 256⟩ ⟨1, 4, 3, kdf x.z (ascii "DN-SENC") x.transcript 256⟩
      (by omega) (by omega) (by omega)
    rw [← hslots] at hmac henc hrest
    refine ⟨_, _, mailOut_secBody_ite h hc, ?_, ?_, ?_, ?_, ?_, ?_, fun j hj => ⟨?_, ?_⟩⟩
    · simpa using hopen
    · simpa using hmac
    · simpa using henc
    · simpa using hrest
    · simp [hkl]
    · simp
    · simpa using hothers j hj
    · simp [List.getElem?_set_ne hj.symm]
  case close =>
    rw [exec_secSessionClose]
    obtain ⟨hk4, x, hx, ho⟩ := sessionNo_eq_some hk
    have hkl : k < (takenState 0x0312 m s).sec.sessions.length := (List.getElem?_eq_some_iff.mp hx).1
    obtain ⟨hmac, henc, hrest⟩ := getElem?_set_set (l := s.sec.slots) (i := 12 + 2 * k) (j := 13 + 2 * k) {} {}
      (by omega) (by omega) (by omega)
    have hc := sessionClose_open hm ha hk
    rw [endSession_open hx ho] at hc
    refine ⟨_, mailOut_secBody_answers h hc, ?_, ?_, ?_, ?_, fun j hj => ?_⟩
    · simp [hkl]
    · simpa using hmac
    · simpa using henc
    · simpa using hrest
    · simp [List.getElem?_set_ne hj.symm]
  · rw [exec_sessionOpeningTimeout hx, ho]
    rfl
  · rw [exec_sessionIdleTimeout hx, ho]
    rfl
  · rw [exec_sessionOpeningTimeout hx, ho]
    rfl
  · rw [exec_sessionIdleTimeout hx, ho, endSession_open hx ho]
    rfl

end Sys2Proof.Machine
end

section
/-! SUPPORT. Fuses read and set (R169), key positions filled and emptied (R167, R168), and the payloads that name a position. -/

namespace Sys2Proof.Machine

/-! ### Fuses (R169) -/

theorem lookupNat_insertNat_same {α : Type} (k : Nat) (a : α) (l : List (Nat × α)) : lookupNat k (insertNat k a l) = some a := by
  induction l with
  | nil => simp [insertNat, lookupNat]
  | cons x r ih =>
    simp only [insertNat]
    split
    · simp [lookupNat]
    · split
      · simp [lookupNat]
      · next hk => simp [lookupNat, Ne.symm hk, ih]

theorem lookupNat_insertNat_other {α : Type} {j k : Nat} (a : α) (l : List (Nat × α)) (h : j ≠ k) :
    lookupNat j (insertNat k a l) = lookupNat j l := by
  induction l with
  | nil => simp [insertNat, lookupNat, h.symm]
  | cons x r ih =>
    simp only [insertNat]
    split
    · simp [lookupNat, h.symm]
    · split
      · next hk => simp [lookupNat, ← hk, h.symm]
      · simp [lookupNat, ih]

@[simp] theorem otpSet_slots (w v : Nat) (s : State) : (otpSet w v s).sec.slots = s.sec.slots := by rw [otpSet, onSec_sec]

@[simp] theorem otpSet_sessions (w v : Nat) (s : State) : (otpSet w v s).sec.sessions = s.sec.sessions := by
  rw [otpSet, onSec_sec]

theorem otpWord_otpSet_same (w v : Nat) (s : State) : otpWord (otpSet w v s) w = otpWord s w ||| v := by
  simp [otpWord, otpSet, lookupNat_insertNat_same]

theorem otpWord_otpSet_other {j w : Nat} (v : Nat) (s : State) (h : j ≠ w) : otpWord (otpSet w v s) j = otpWord s j := by
  simp [otpWord, otpSet, lookupNat_insertNat_other _ _ h]

/-- Setting one fuse of a word sets that bit and no other. -/
theorem bit_or_two_pow (v n b : Nat) : bit (v ||| 2 ^ n) b = (bit v b || decide (b = n)) := by
  rw [bit_eq_testBit, bit_eq_testBit, Nat.testBit_or, Nat.testBit_two_pow]
  simp [eq_comm]

section

variable {s t : State} (h : t.sec.otp = s.sec.otp)
include h

theorem otpWord_congr (w : Nat) : otpWord t w = otpWord s w := by
  rw [otpWord, otpWord, h]

theorem lifecycle_congr : lifecycle t = lifecycle s := by
  rw [lifecycle, lifecycle, otpWord_congr h]

theorem uid_congr : uid t = uid s := by
  rw [uid, uid, otpWord_congr h, otpWord_congr h]

theorem uidBytes_congr : uidBytes t = uidBytes s := by
  rw [uidBytes, uidBytes, uid_congr h]

theorem otpKey_congr (key pos : Nat) : otpKey t key pos = otpKey s key pos := by
  simp only [otpKey, otpWord_congr h]

theorem otpKeyLive_congr (key pos : Nat) : otpKeyLive t key pos = otpKeyLive s key pos := by
  rw [otpKeyLive, otpKeyLive, otpKey_congr h, otpWord_congr h]

end

/-- `n` words of OTP from word `b` on take the bits `f` gives them. -/
def otpProgram (b : Nat) (f : Nat → Nat) (n : Nat) (s : State) : State := (upTo n).foldl (fun s i => otpSet (b + i) (f i) s) s

theorem otpProgram_succ (b : Nat) (f : Nat → Nat) (n : Nat) (s : State) :
    otpProgram b f (n + 1) s = otpSet (b + n) (f n) (otpProgram b f n s) := by
  simp [otpProgram, upTo, List.range_succ]

theorem otpWord_otpProgram (b : Nat) (f : Nat → Nat) (n : Nat) (s : State) :
    (∀ k, k < n → otpWord (otpProgram b f n s) (b + k) = otpWord s (b + k) ||| f k) ∧
      ∀ w, w < b ∨ b + n ≤ w → otpWord (otpProgram b f n s) w = otpWord s w := by
  induction n with
  | zero => exact ⟨fun k hk => absurd hk (Nat.not_lt_zero k), fun w _ => rfl⟩
  | succ n ih =>
    obtain ⟨inside, outside⟩ := ih
    simp only [otpProgram_succ]
    refine ⟨fun k hk => ?_, fun w hw => ?_⟩
    · obtain rfl | hlt := Nat.eq_or_lt_of_le (Nat.le_of_lt_succ hk)
      · rw [otpWord_otpSet_same, outside _ (.inr le_rfl)]
      · rw [otpWord_otpSet_other _ _ (by omega), inside k hlt]
    · rw [otpWord_otpSet_other _ _ (by omega), outside w (by omega)]

/-- Programming words leaves the rest of the engine. -/
theorem otpProgram_sec (b : Nat) (f : Nat → Nat) (n : Nat) (s : State) :
    (otpProgram b f n s).sec = { s.sec with otp := (otpProgram b f n s).sec.otp } := by
  induction n with
  | zero => rfl
  | succ n ih => rw [otpProgram_succ, otpSet, onSec_sec, ih]

/-- A key whose 24 words are blank is not there. -/
theorem allZero_otpKey {s : State} {key pos : Nat} (h : ∀ k, k < 24 → otpWord s (12 + 24 * (2 * key + pos) + k) = 0) :
    allZero (otpKey s key pos) = true := by
  have blank : allZero (leBytes 4 0) = true := by decide
  rw [allZero, otpKey, List.all_flatMap, List.all_eq_true]
  intro i hi
  rw [h i (List.mem_range.mp hi)]
  exact blank

/-! ### A key position (R167, R168) -/

/-- What an event records hangs on the writer's power state, ONT and the recorder (R544). -/
theorem raise_recorder_congr {s t : State} (hp : t.power = s.power) (ht : t.time = s.time) (hr : t.recorder = s.recorder)
    (c k p q r : Nat) : (raise c k p q r t).recorder = (raise c k p q r s).recorder := by
  have runs : writerRuns t = writerRuns s := by rw [writerRuns, writerRuns, hp]
  rw [raise, raise, raiseBy, raiseBy, runs, ht, hr]
  split
  · rfl
  · exact hr

/-- Rewriting the provisioning record changes its two copies alone (R168). -/
theorem provWrite_eq (f : Provision → Provision) (s : State) :
    ∃ a b, provWrite f s = onSec (fun c => { c with provA := a, provB := b }) s := by
  rw [provWrite]
  dsimp only
  split <;> exact ⟨_, _, rfl⟩

/-- The rewritten record in its own rules. -/
theorem provWrite_frame (f : Provision → Provision) (s : State) : (provWrite f s).sec.slots = s.sec.slots ∧
    (provWrite f s).sec.epochs = s.sec.epochs ∧ (provWrite f s).sec.otp = s.sec.otp ∧ (provWrite f s).power = s.power ∧
    (provWrite f s).time = s.time ∧ (provWrite f s).recorder = s.recorder := by
  obtain ⟨a, b, h⟩ := provWrite_eq f s
  simp [h]

/-- The slot of a key placed at a position; empty where there is none. -/
def placedSlot (k : Nat) : Option Bytes → KeySlot
  | some b => posSlot k b
  | none => {}

theorem posSlot_eq {cls pos : Nat} (hc : cls = 1 ∨ cls = 2) (hp : pos ≤ 1) (key : Bytes) :
    posSlot (2 * (cls - 1) + pos) key = ⟨if cls = 1 then 5 else 1, if cls = 1 then 1 else 2, 3, key⟩ := by
  obtain rfl | rfl := hc
  · simp [posSlot, show pos < 2 by omega]
  · simp [posSlot]
    omega

/-- A key placed takes its slot and its epoch, and the event records it; the fuses stand. -/
theorem keyPlace_stores (cls pos epoch : Nat) (key : Option Bytes) (s : State) :
    (keyPlace cls pos epoch key s).sec.slots =
        s.sec.slots.set (20 + (2 * (cls - 1) + pos)) (placedSlot (2 * (cls - 1) + pos) key) ∧
      (keyPlace cls pos epoch key s).sec.epochs = s.sec.epochs.set (2 * (cls - 1) + pos) (if key.isSome then epoch else 0) ∧
      (keyPlace cls pos epoch key s).sec.otp = s.sec.otp ∧
      (keyPlace cls pos epoch key s).recorder = (raise 0x0312 13 cls pos epoch s).recorder := by
  unfold keyPlace
  dsimp only
  generalize hw : provWrite _ s = w
  obtain ⟨slots, epochs, otp, power, time, recorder⟩ : _ := hw ▸ provWrite_frame _ s
  refine ⟨?_, ?_, ?_, raise_recorder_congr (by exact power) (by exact time) (by exact recorder) ..⟩
  · cases key <;> simp [placedSlot, slots]
  · simp [epochs]
  · simp [otp]

/-! ### Payloads that name a position (R166, R167, R170) -/

/-- Two bytes, two reserved bytes, and what follows. -/
theorem keyPos_fields {p r : Bytes} {a b : Nat} (hp : p = leBytes 1 a ++ leBytes 1 b ++ zeros 2 ++ r) (ha : a < 256) (hb : b < 256) :
    byteField p 0 1 = a ∧ byteField p 1 1 = b ∧ byteField p 2 2 = 0 ∧ p.length = 4 + r.length ∧ p.drop 4 = r ∧
      ∀ i n, byteField p (4 + i) n = byteField r i n := by
  subst hp
  refine ⟨?_, ?_, ?_, ?_, List.drop_left' (by simp), fun i n => ?_⟩
  · simpa [byteField_front] using ha
  · simpa [byteField_skip, byteField_front] using hb
  · simp [byteField_skip, byteField_zeros]
  · simp only [List.length_append, length_leBytes, length_zeros]
  · rw [byteField_skip _ _ _ _ (by simp)]
    simp

end Sys2Proof.Machine
end

section
/-! Keys and OTP: O32. -/

namespace Sys2Proof.Machine

/-! ### SEC_KEY_IMPORT and SEC_KEY_CLEAR (R166, R167) -/

theorem exec_secKeyImport (m : Mail) (s : State) :
    exec (.secKeyImport m) s = mailOut 0x0330 m (secBody 0x0330 (keyImport m)) s := rfl

theorem exec_secKeyClear (m : Mail) (s : State) :
    exec (.secKeyClear m) s = mailOut 0x0331 m (secBody 0x0331 (keyClear m.payload)) s := rfl

section

variable {m : Mail} {s : State} {n cls pos e : Nat} {ct : Bytes} (ha : mailAuth m = true)
  (hn : sessionNo s m.session = some n) (hc : cls = 1 ∨ cls = 2) (hp : pos ≤ 1) (he : e < 2 ^ 32) (hl : ct.length = 48)
  (hm : m.payload = leBytes 1 cls ++ leBytes 1 pos ++ zeros 2 ++ leBytes 4 e ++ ct)
include ha hn hc hp he hl hm

/-- A well-formed import goes by what its session's K_enc opens of the secret. -/
theorem keyImport_opens (key : Option Bytes) (hg : Config.gcmOpen (slotKey s (13 + 2 * n) 2)
      (leBytes 4 m.session ++ leBytes 4 m.seq ++ leBytes 4 2) (m.payload.take 8) ct = key) :
    keyImport m s = key.elim (refuse (slotAsk (13 + 2 * n) 2 s) 0x0314)
      (fun key => done (keyPlace cls pos e (some key) (slotAsk (13 + 2 * n) 2 s)) []) := by
  obtain ⟨hcls, hpos, hrsv, hlen, -, hrest⟩ := keyPos_fields (p := m.payload) (r := leBytes 4 e ++ ct) (by simpa using hm)
    (by omega : cls < 256) (by omega : pos < 256)
  have hepoch : byteField m.payload 4 4 = e := by
    rw [hrest 0 4, byteField_front]
    exact Nat.mod_eq_of_lt he
  have hct : m.payload.drop 8 = ct := by
    rw [hm]
    exact List.drop_left' (by simp)
  rw [keyImport]
  simp only [hcls, hpos, hrsv, hepoch, hct]
  rw [if_neg (by simp [ha]), if_neg (by simp [hlen, hl]), if_neg (by omega), hn]
  simp only [hg]
  cases key <;> rfl

end

theorem keyClear_position {p : Bytes} {s : State} {cls pos : Nat} (hc : cls = 1 ∨ cls = 2) (hp : pos ≤ 1)
    (hm : p = leBytes 1 cls ++ leBytes 1 pos ++ zeros 2) :
    keyClear p s = done (keyPlace cls pos (nth 0 s.sec.epochs (2 * (cls - 1) + pos)) none s) [] := by
  obtain ⟨hcls, hpos, hrsv, hlen, -⟩ := keyPos_fields (p := p) (r := []) (by simpa using hm)
    (by omega : cls < 256) (by omega : pos < 256)
  rw [keyClear]
  simp only [hcls, hpos, hrsv]
  rw [if_neg (by simp [hlen]), if_neg (by omega)]

/-! ### SEC_OTP_KEY_SET and SEC_KEY_REVOKE (R170) -/

theorem exec_secOtpKeySet (m : Mail) (s : State) :
    exec (.secOtpKeySet m) s = mailOut 0x0321 m (secBody 0x0321 (otpKeySet m.payload)) s := rfl

theorem exec_secKeyRevoke (m : Mail) (s : State) :
    exec (.secKeyRevoke m) s = mailOut 0x0322 m (secBody 0x0322 (keyRevoke m.payload)) s := rfl

/-- A public key programmed into the words of its position, and loaded into its slot. -/
def otpKeyProgrammed (key pos : Nat) (pt : Bytes) (s : State) : State :=
  let t := otpProgram (12 + 24 * (2 * key + pos)) (fun i => byteField pt (4 * i) 4) 24 s
  setSlot (4 + 2 * key + pos) (otpSlot t key pos) t

theorem otpKeySet_blank {p pt : Bytes} {s : State} {key pos : Nat} (hk : key ≤ 2) (hp : pos ≤ 1) (hl : pt.length = 96)
    (hm : p = leBytes 1 key ++ leBytes 1 pos ++ zeros 2 ++ pt) (hc : lifecycle s = 1 ∨ (pos = 1 ∧ lifecycle s = 2))
    (hb : allZero (otpKey s key pos) = true) : otpKeySet p s =
      if Config.p384Valid pt then done (otpKeyProgrammed key pos pt s) [] else refuse s 0x0318 := by
  obtain ⟨hkey, hpos, hrsv, hlen, hpt, hrest⟩ := keyPos_fields hm (by omega : key < 256) (by omega : pos < 256)
  rw [otpKeySet]
  simp only [hkey, hpos, hrsv, hpt, hrest]
  rw [if_neg (by simp [hlen, hl]), if_neg (by omega), if_neg (by omega), if_neg (by simp [hb])]
  cases Config.p384Valid pt <;> rfl

/-- The words of the position hold the point, where they were blank; no other word changes, and one slot alone. -/
theorem otpKeyProgrammed_stores (key pos : Nat) (pt : Bytes) (s : State) :
    (∀ k, k < 24 → otpWord s (12 + 24 * (2 * key + pos) + k) = 0 →
      otpWord (otpKeyProgrammed key pos pt s) (12 + 24 * (2 * key + pos) + k) = byteField pt (4 * k) 4) ∧
    (∀ w, w < 12 + 24 * (2 * key + pos) ∨ 36 + 24 * (2 * key + pos) ≤ w →
      otpWord (otpKeyProgrammed key pos pt s) w = otpWord s w) ∧
    (∀ j, j ≠ 4 + 2 * key + pos → (otpKeyProgrammed key pos pt s).sec.slots[j]? = s.sec.slots[j]?) ∧
    (otpKeyProgrammed key pos pt s).sec.provA = s.sec.provA := by
  obtain ⟨inside, outside⟩ := otpWord_otpProgram (12 + 24 * (2 * key + pos)) (fun i => byteField pt (4 * i) 4) 24 s
  have hsec := otpProgram_sec (12 + 24 * (2 * key + pos)) (fun i => byteField pt (4 * i) 4) 24 s
  have words (w : Nat) : otpWord (otpKeyProgrammed key pos pt s) w =
      otpWord (otpProgram (12 + 24 * (2 * key + pos)) (fun i => byteField pt (4 * i) 4) 24 s) w := otpWord_congr (setSlot_otp ..) w
  refine ⟨fun k hk h0 => ?_, fun w hw => ?_, fun j hj => ?_, ?_⟩
  · rw [words, inside k hk, h0, Nat.zero_or]
  · rw [words, outside w (by omega)]
  · rw [otpKeyProgrammed, setSlot_slots, List.getElem?_set_ne hj.symm, hsec]
  · rw [otpKeyProgrammed, setSlot_provA, hsec]

section

variable {p : Bytes} {s : State} {key pos : Nat} (hk : key ≤ 2) (hp : pos ≤ 1)
  (hm : p = leBytes 1 key ++ leBytes 1 pos ++ zeros 2)
include hk hp hm

/-- A key is revoked while the key of its other position is alive. -/
theorem keyRevoke_eq : keyRevoke p s = if otpKeyLive s key (1 - pos) then
      done (setSlot (4 + 2 * key + pos) {} (otpSet 10 (2 ^ revokeBit key pos) s)) []
    else refuse s 0x0306 := by
  obtain ⟨hkey, hpos, hrsv, hlen, -⟩ := keyPos_fields (p := p) (r := []) (by simpa using hm)
    (by omega : key < 256) (by omega : pos < 256)
  rw [keyRevoke]
  simp only [hkey, hpos, hrsv]
  rw [if_neg (by simp [hlen]), if_neg (by omega)]
  cases otpKeyLive s key (1 - pos) <;> rfl

end

/-- Settles O32: each command's effect in each of its cases. What SEC_CMD and SEC_CMD_STAT show, the payload of SEC_KEY_REVOKE and the
epoch after SEC_KEY_CLEAR are the model's choices (log 10). -/
theorem keysAndOtp : Obligations.KeysAndOtp := by
  unfold Obligations.KeysAndOtp
  refine ⟨fun m s n cls pos e ct h ha hn hc hp he hl hm hs hep => ?imported, fun m s cls pos h hc hp hm hs => ?cleared,
    fun m s key pos pt h hk hp hl hm hc hb => ?programmed, fun m s key pos h hk hp hm hlive hs => ?revoked,
    fun m s key pos h hk hp hm hdead => ?last, fun s hd => ?_, fun s p hp ht => ?_⟩
  case imported =>
    rw [exec_secKeyImport]
    have hopen := keyImport_opens (s := takenState 0x0330 m s) ha hn hc hp he hl hm
    rw [slotKey_congr (takenState_slots ..)] at hopen
    refine ⟨fun key => secShown 0x0330 0 (keyPlace cls pos e (some key) (slotAsk (13 + 2 * n) 2 (takenState 0x0330 m s))), ?_,
      fun key => ?_⟩
    · split
      next hg => exact mailOut_secBody_refuses h (hopen none hg)
      next key hg => exact mailOut_secBody_answers h (hopen (some key) hg)
    · obtain ⟨slots, epochs, otp, recorder⟩ :=
        keyPlace_stores cls pos e (some key) (slotAsk (13 + 2 * n) 2 (takenState 0x0330 m s))
      have hk : 20 + 2 * (cls - 1) + pos = 20 + (2 * (cls - 1) + pos) := by omega
      refine ⟨?_, fun j hj => ?_, ?_, ?_, ?_⟩
      · rw [secShown_slots, slots, hk, List.getElem?_set_self (by simp; omega), placedSlot, posSlot_eq hc hp]
      · rw [secShown_slots, slots, List.getElem?_set_ne (by omega)]
        simp
      · rw [secShown_epochs, epochs, List.getElem?_set_self (by simp; omega)]
        rfl
      · rw [secShown_otp, otp, slotAsk_otp, takenState_otp]
      · rw [secShown_recorder, recorder]
  case cleared =>
    rw [exec_secKeyClear]
    have hclear := keyClear_position (s := takenState 0x0331 m s) hc hp hm
    obtain ⟨slots, -, otp, recorder⟩ :=
      keyPlace_stores cls pos (nth 0 (takenState 0x0331 m s).sec.epochs (2 * (cls - 1) + pos)) none (takenState 0x0331 m s)
    have hk : 20 + 2 * (cls - 1) + pos = 20 + (2 * (cls - 1) + pos) := by omega
    refine ⟨_, mailOut_secBody_answers h hclear, ?_, fun j hj => ?_, ?_, ?_⟩
    · rw [secShown_slots, slots, hk, List.getElem?_set_self (by simp; omega), placedSlot]
    · rw [secShown_slots, slots, List.getElem?_set_ne (by omega), takenState_slots]
    · rw [secShown_otp, otp, takenState_otp]
    · rw [secShown_recorder, recorder, takenState_epochs]
  case programmed =>
    rw [exec_secOtpKeySet]
    have hotp := takenState_otp 0x0321 m s
    have hset := otpKeySet_blank (s := takenState 0x0321 m s) hk hp hl hm (by rwa [lifecycle_congr hotp])
      (by rw [otpKey_congr hotp]; exact allZero_otpKey hb)
    obtain ⟨inside, outside, slots, prov⟩ := otpKeyProgrammed_stores key pos pt (takenState 0x0321 m s)
    simp only [otpWord_congr hotp, takenState_slots, takenState_provA] at inside outside slots prov
    refine ⟨_, mailOut_secBody_ite h hset, fun k hk => ?_, fun w hw => ?_, ?_, ?_⟩
    · rw [otpWord_congr (secShown_otp ..), inside k hk (hb k hk)]
    · rw [otpWord_congr (secShown_otp ..), outside w hw]
    · rwa [secShown_slots]
    · rwa [secShown_provA]
  case revoked =>
    rw [exec_secKeyRevoke]
    have hotp := takenState_otp 0x0322 m s
    have hrevoke := keyRevoke_eq (s := takenState 0x0322 m s) hk hp hm
    rw [otpKeyLive_congr hotp, if_pos hlive] at hrevoke
    have words (w : Nat) : otpWord (secShown 0x0322 0 (setSlot (4 + 2 * key + pos) {}
        (otpSet 10 (2 ^ revokeBit key pos) (takenState 0x0322 m s)))) w =
          otpWord (otpSet 10 (2 ^ revokeBit key pos) (takenState 0x0322 m s)) w :=
      otpWord_congr (by rw [secShown_otp, setSlot_otp]) w
    refine ⟨_, mailOut_secBody_answers h hrevoke, ?_, fun b hb => ?_, fun w hw => ?_, ?_, fun j hj => ?_⟩
    · rw [words, otpWord_otpSet_same, bit_or_two_pow, revokeBit]
      simp
    · rw [words, otpWord_otpSet_same, bit_or_two_pow, revokeBit, otpWord_congr hotp]
      simp [hb]
    · rw [words, otpWord_otpSet_other _ _ hw, otpWord_congr hotp]
    · rw [secShown_slots, setSlot_slots, List.getElem?_set_self (by simp; omega)]
    · simp [List.getElem?_set_ne hj.symm]
  case last =>
    rw [exec_secKeyRevoke]
    have hrevoke := keyRevoke_eq (s := takenState 0x0322 m s) hk hp hm
    rw [otpKeyLive_congr (takenState_otp ..), hdead] at hrevoke
    exact mailOut_secBody_refuses h hrevoke
  · exact congrArg Host.Outcome.next (if_pos hd)
  · exact congrArg Host.Outcome.next (if_pos ⟨hp, ht⟩)

end Sys2Proof.Machine
end

section
/-! SUPPORT. The provisioning record (R168), helper data (R153, R174), lifecycle fuses (R171, R172), and the payloads that lead with one
byte: what the commands of R171 to R177 read and change. -/

namespace Sys2Proof.Machine

/-! ### The provisioning record (R168) -/

/-- The record in force hangs on its two copies, the root and the storage key. -/
theorem provision_congr {s t : State} (ha : t.sec.provA = s.sec.provA) (hb : t.sec.provB = s.sec.provB)
    (hr : t.sec.rootOk = s.sec.rootOk) (hk : t.sec.storage = s.sec.storage) : provision t = provision s := by
  have valid : provValid t = provValid s := funext fun p => by rw [provValid, provValid, hr, hk]
  rw [provision, provision, ha, hb, valid]

theorem provision_takenState (cmd : Nat) (m : Mail) (s : State) : provision (takenState cmd m s) = provision s :=
  provision_congr (takenState_provA ..) (takenState_provB ..) (takenState_rootOk ..) (takenState_storage ..)

/-- No valid copy has a higher sequence than the record in force. -/
theorem le_provision_seq {s : State} {q : Provision} (hq : s.sec.provA = some q ∨ s.sec.provB = some q) (hv : provValid s q = true) :
    ∃ p, provision s = some p ∧ q.seq ≤ p.seq := by
  unfold provision
  obtain h | h := hq
  · cases hb : s.sec.provB.filter (provValid s) with
    | none => exact ⟨q, by simp [h, hv], le_rfl⟩
    | some b =>
      simp only [h, hv, Option.filter_some, if_true]
      split
      · exact ⟨q, rfl, le_rfl⟩
      · exact ⟨b, rfl, by omega⟩
  · cases ha : s.sec.provA.filter (provValid s) with
    | none => exact ⟨q, by simp [h, hv], le_rfl⟩
    | some a =>
      simp only [h, hv, Option.filter_some, if_true]
      split
      · exact ⟨a, rfl, by omega⟩
      · exact ⟨q, rfl, le_rfl⟩

/-- A valid copy whose sequence is above that of every other valid copy is in force. -/
theorem provision_newest {s : State} {p : Provision} (hv : provValid s p = true)
    (h : (s.sec.provA = some p ∧ ∀ b, s.sec.provB = some b → provValid s b = true → b.seq < p.seq) ∨
      (s.sec.provB = some p ∧ ∀ a, s.sec.provA = some a → provValid s a = true → a.seq < p.seq)) : provision s = some p := by
  unfold provision
  obtain ⟨hp, hother⟩ | ⟨hp, hother⟩ := h
  · cases hb : s.sec.provB.filter (provValid s) with
    | none => simp [hp, hv]
    | some b =>
      obtain ⟨hb, hbv⟩ := Option.filter_eq_some_iff.mp hb
      simp only [hp, hv, Option.filter_some, if_true]
      rw [if_pos (.inl (hother b hb hbv))]
  · cases ha : s.sec.provA.filter (provValid s) with
    | none => simp [hp, hv]
    | some a =>
      obtain ⟨ha, hav⟩ := Option.filter_eq_some_iff.mp ha
      have := hother a ha hav
      simp only [hp, hv, Option.filter_some, if_true]
      rw [if_neg (by omega)]

/-- The record that a rewrite starts from. -/
def provBase (s : State) : Provision := (provision s).getD { seq := 0, devCert := [], caCert := [] }

/-- The copy that a rewrite makes: the changed content under the next sequence and its own HMAC. -/
def provNext (f : Provision → Provision) (s : State) : Provision :=
  { f (provBase s) with
    seq := wrapInc 32 (provBase s).seq
    mac := provMac s.sec.storage { f (provBase s) with seq := wrapInc 32 (provBase s).seq } }

theorem provWrite_provNext (f : Provision → Provision) (s : State) : provWrite f s =
    if (provNext f s).seq % 2 = 0 then onSec (fun c => { c with provA := some (provNext f s) }) s
    else onSec (fun c => { c with provB := some (provNext f s) }) s := rfl

/-- The HMAC of a copy leaves itself out. -/
theorem provNext_mac (f : Provision → Provision) (s : State) : (provNext f s).mac = provMac s.sec.storage (provNext f s) := rfl

/-- A copy under its own HMAC is valid. -/
theorem provValid_of_mac {s : State} {p : Provision} (h : p.mac = provMac s.sec.storage p) : provValid s p = true := by
  simp [provValid, ← h]

/-- The copy that is written is in force afterwards. -/
theorem provision_provWrite (f : Provision → Provision) {s : State} (h : (provBase s).seq + 1 < 2 ^ 32) :
    provision (provWrite f s) = some (provNext f s) := by
  have hseq : (provNext f s).seq = (provBase s).seq + 1 := Nat.mod_eq_of_lt h
  have below (q : Provision) (hq : s.sec.provA = some q ∨ s.sec.provB = some q) (hv : provValid s q = true) :
      q.seq < (provNext f s).seq := by
    obtain ⟨p, hp, hle⟩ := le_provision_seq hq hv
    rw [hseq, provBase, hp, Option.getD_some]
    omega
  rw [provWrite_provNext]
  split
  · exact provision_newest (provValid_of_mac (provNext_mac f s)) (.inl ⟨rfl, fun b hb hv => below b (.inr hb) hv⟩)
  · exact provision_newest (provValid_of_mac (provNext_mac f s)) (.inr ⟨rfl, fun a ha hv => below a (.inl ha) hv⟩)

/-- Written twice, the content stands in both copies under neighbouring sequences. -/
theorem provWrite_twice (f : Provision → Provision) {s : State} (h : (provBase s).seq + 2 < 2 ^ 32) :
    ∃ a b, provWrite f (provWrite f s) = onSec (fun c => { c with provA := some a, provB := some b }) s ∧ a.seq ≠ b.seq ∧
      ∀ p, p = a ∨ p = b → p.mac = provMac s.sec.storage p ∧ ∃ r, p.devCert = (f r).devCert ∧ p.caCert = (f r).caCert ∧
        p.wrapped = (f r).wrapped := by
  have hfirst : (provNext f s).seq = (provBase s).seq + 1 := Nat.mod_eq_of_lt (by omega)
  have hbase : provBase (provWrite f s) = provNext f s := by
    rw [provBase, provision_provWrite f (by omega), Option.getD_some]
  have hsecond : (provNext f (provWrite f s)).seq = (provBase s).seq + 2 := by
    rw [provNext, hbase, hfirst]
    exact Nat.mod_eq_of_lt h
  have hkey : (provWrite f s).sec.storage = s.sec.storage := by
    obtain ⟨a, b, e⟩ := provWrite_eq f s
    rw [e, onSec_sec]
  have content (p : Provision) (hp : p = provNext f s ∨ p = provNext f (provWrite f s)) : p.mac = provMac s.sec.storage p ∧
      ∃ r, p.devCert = (f r).devCert ∧ p.caCert = (f r).caCert ∧ p.wrapped = (f r).wrapped := by
    obtain rfl | rfl := hp
    · exact ⟨provNext_mac f s, _, rfl, rfl, rfl⟩
    · exact ⟨hkey ▸ provNext_mac f (provWrite f s), _, rfl, rfl, rfl⟩
  have hwrite := provWrite_provNext f (provWrite f s)
  generalize provNext f (provWrite f s) = second at *
  by_cases heven : (provNext f s).seq % 2 = 0
  · refine ⟨provNext f s, second, ?_, by omega, content⟩
    rw [hwrite, if_neg (by omega), provWrite_provNext, if_pos heven]
    rfl
  · refine ⟨second, provNext f s, ?_, by omega, fun p hp => content p hp.symm⟩
    rw [hwrite, if_pos (by omega), provWrite_provNext, if_neg heven]
    rfl

/-! ### Helper data (R153, R174) -/

theorem length_padTo (n : Nat) (b : Bytes) : (padTo n b).length = n := by
  simp [padTo]
  omega

theorem byteField_whole (n v : Nat) : byteField (leBytes n v) 0 n = v % 256 ^ n := by
  simpa using byteField_front n v []

theorem helperPasses_congr {s t : State} (h : t.sec.otp = s.sec.otp) (b : Bytes) : helperPasses t b = helperPasses s b := by
  rw [helperPasses, helperPasses, uidBytes_congr h]

/-- 2,044 bytes that lead with MAGIC and hold UID at byte 8 pass under their checksum. -/
theorem helperPasses_of_body {s : State} {b x r : Bytes} (hb : b = leBytes 4 0xD7429F1D ++ (x ++ (uidBytes s ++ r)))
    (hx : x.length = 4) (hl : b.length = 2044) : helperPasses s (b ++ leBytes 4 (crc32cNat b)) = true := by
  have hcrc : crc32cNat b < 256 ^ 4 := (crc32c b).isLt
  have huid : (uidBytes s).length = 8 := length_leBytes ..
  generalize hc : crc32cNat b = c at hcrc ⊢
  have magic : byteField (b ++ leBytes 4 c) 0 4 = 0xD7429F1D := by
    rw [hb, List.append_assoc, byteField_front]
    rfl
  have uid : ((b ++ leBytes 4 c).drop 8).take 8 = uidBytes s := by
    have e : b ++ leBytes 4 c = (leBytes 4 0xD7429F1D ++ x) ++ (uidBytes s ++ (r ++ leBytes 4 c)) := by
      simp only [hb, List.append_assoc]
    rw [e, List.drop_left' (by simp [hx]), List.take_left' huid]
  have crc : byteField (b ++ leBytes 4 c) 0x7FC 4 = c := by
    rw [byteField_skip _ _ _ _ hl.le, hl, Nat.sub_self, byteField_whole, Nat.mod_eq_of_lt hcrc]
  have body : (b ++ leBytes 4 c).take 0x7FC = b := List.take_left' hl
  simp [helperPasses, magic, uid, crc, body, hc, hl]

/-- The helper data that is made passes its own checks. -/
theorem helperPasses_helperBytes (s : State) (offset verifier : Bytes) : helperPasses s (helperBytes s offset verifier) = true :=
  helperPasses_of_body (x := leBytes 2 1 ++ leBytes 2 8) (r := padTo 32 verifier ++ padTo 1275 offset ++ zeros 721)
    (by simp only [List.append_assoc]) (by simp) (by simp only [List.length_append, length_leBytes, length_padTo, length_zeros, uidBytes])

/-- Regeneration loads the key store and leaves helper data, fuses, provisioning record and parameters. -/
theorem regenerate_frame (s : State) : (regenerate s).sec.helper0 = s.sec.helper0 ∧ (regenerate s).sec.helper1 = s.sec.helper1 ∧
    (regenerate s).sec.otp = s.sec.otp ∧ (regenerate s).sec.provA = s.sec.provA ∧ (regenerate s).host = s.host := by
  unfold regenerate
  dsimp only
  split <;> simp

/-! ### Lifecycle fuses (R171, R172) -/

/-- The fuse of the next state advances the lifecycle by one. -/
theorem lifecycle_otpSet {s : State} {n : Nat} (h : n = lifecycle s + 1) (hn : n ≤ 3) :
    lifecycle (otpSet 0 (2 ^ (n - 1)) s) = n := by
  simp only [lifecycle, otpWord_otpSet_same, bit_or_two_pow] at h ⊢
  split at h
  · omega
  · split at h
    · simp [h]
    · split at h
      · simp_all
      · simp_all

@[simp] theorem endSession_otp (k : Nat) (s : State) : (endSession k s).sec.otp = s.sec.otp := by
  unfold endSession
  split
  · rfl
  · dsimp only
    split <;> simp

theorem clearSlots_otp (s : State) : (clearSlots s).sec.otp = s.sec.otp := by
  simp [clearSlots, upTo, List.range_succ]

/-! ### Payloads that lead with one byte -/

/-- One byte, three reserved bytes, and what follows. -/
theorem leadByte_fields {p r : Bytes} {a : Nat} (hp : p = leBytes 1 a ++ zeros 3 ++ r) (ha : a < 256) :
    byteField p 0 1 = a ∧ byteField p 1 3 = 0 ∧ p.length = 4 + r.length ∧ ∀ i n, byteField p (4 + i) n = byteField r i n := by
  subst hp
  refine ⟨?_, ?_, ?_, fun i n => ?_⟩
  · simpa [byteField_front] using ha
  · simp [byteField_skip, byteField_zeros]
  · simp only [List.length_append, length_leBytes, length_zeros]
  · rw [byteField_skip _ _ _ _ (by simp)]
    simp

end Sys2Proof.Machine
end

section
/-! Lifecycle, enrolment and attestation: O33. -/

namespace Sys2Proof.Machine

/-! ### SEC_LIFECYCLE_ADVANCE (R171, R172) -/

theorem exec_secLifecycleAdvance (m : Mail) (s : State) :
    exec (.secLifecycleAdvance m) s = mailOut 0x0320 m (secBody 0x0320 (lifecycleAdvance m.payload)) s := rfl

/-- The confirm word, the target and the preconditions, in this order. -/
theorem lifecycleAdvance_eq {p : Bytes} {n c : Nat} (s : State) (hp : p = leBytes 1 n ++ zeros 3 ++ leBytes 4 c) (hn : n < 256)
    (hc : c < 2 ^ 32) : lifecycleAdvance p s =
      if c ≠ otpWord s 2 then refuse s 0x0317
      else if n ≠ lifecycle s + 1 ∨ 3 < n then refuse s 0x0306
      else if n = 1 ∧ !(s.sec.rootOk && certStored s) then refuse s 0x0316
      else if n = 2 ∧ (upTo 3).any (fun k => allZero (otpKey s k 0)) then refuse s 0x0316
      else done (advance n s) [] := by
  obtain ⟨htarget, hrsv, hlen, hrest⟩ := leadByte_fields hp hn
  have hconfirm : byteField p 4 4 = c := by
    rw [hrest 0 4, byteField_whole]
    exact Nat.mod_eq_of_lt hc
  rw [lifecycleAdvance]
  simp only [htarget, hrsv, hconfirm]
  rw [if_neg (by simp [hlen])]

theorem par_congr {s t : State} (h : t.host.params = s.host.params) (id : Nat) : par t id = par s id := by
  rw [par, par, h]

/-- An advance short of RETIRED sets its fuse, records it and decides whether commands need a session. -/
theorem advance_frame {n : Nat} (s : State) (h : n ≠ 3) : (advance n s).sec = (otpSet 0 (2 ^ (n - 1)) s).sec ∧
    (advance n s).recorder = (raise 0x0311 12 0 0 0 s).recorder ∧
    (advance n s).host.sessionRequired = (n == 2 && par s 0x0200 == 1) := by
  rw [advance]
  dsimp only
  rw [if_neg h, onHost_sec, onHost_recorder, onHost_host, raise_sec]
  refine ⟨rfl, raise_recorder_congr (by rfl) (by rfl) (by rfl) .., ?_⟩
  dsimp only
  rw [par_congr (raise_host_params ..)]
  rfl

/-- RETIRED erases keys, sessions, records and helper data, and restarts (R172). -/
theorem advance_retired (s : State) : (advance 3 s).sec.slots = List.replicate 64 {} ∧
    (advance 3 s).sec.sessions = [none, none, none, none] ∧ (advance 3 s).sec.provA = none ∧ (advance 3 s).sec.provB = none ∧
    (advance 3 s).sec.helper0 = [] ∧ (advance 3 s).sec.helper1 = [] ∧ (advance 3 s).mgmt.restart = some 0 := by
  rw [advance]
  exact ⟨rfl, rfl, rfl, rfl, rfl, rfl, rfl⟩

theorem advance_otp (n : Nat) (s : State) : (advance n s).sec.otp = (otpSet 0 (2 ^ (n - 1)) s).sec.otp := by
  by_cases h : n = 3
  · subst h
    rw [advance]
    dsimp only
    rw [if_pos rfl, retireErase, onSec_sec, clearSlots_otp, onHost_sec, raise_sec]
  · rw [(advance_frame s h).1]

/-- The right confirm word and the next state as target advance the lifecycle, where the preconditions hold. -/
theorem exec_secLifecycleAdvance_next {m : Mail} {s : State} {n : Nat} (h : taken 0x0320 m s = true)
    (hm : m.payload = leBytes 1 n ++ zeros 3 ++ leBytes 4 (otpWord s 2)) (hw : otpWord s 2 < 2 ^ 32) (hl : n = lifecycle s + 1)
    (hn : n ≤ 3) (hcert : n = 1 → s.sec.rootOk = true ∧ certStored s = true)
    (hkeys : n = 2 → ∀ k, k < 3 → allZero (otpKey s k 0) = false) :
    exec (.secLifecycleAdvance m) s = answers 0x0320 m s (secShown 0x0320 0 (advance n (takenState 0x0320 m s))) [] ∧
      lifecycle (secShown 0x0320 0 (advance n (takenState 0x0320 m s))) = n := by
  have hotp := takenState_otp 0x0320 m s
  refine ⟨mailOut_secBody_answers h ?_, ?_⟩
  · have hroot (h1 : n = 1) : ((takenState 0x0320 m s).sec.rootOk && certStored (takenState 0x0320 m s)) = true := by
      rw [certStored, provision_takenState, takenState_rootOk]
      exact Bool.and_eq_true_iff.mpr (hcert h1)
    have hany (h2 : n = 2) : (upTo 3).any (fun k => allZero (otpKey (takenState 0x0320 m s) k 0)) = false :=
      List.any_eq_false.mpr fun k hk => by simp [otpKey_congr hotp, hkeys h2 k (List.mem_range.mp hk)]
    rw [lifecycleAdvance_eq _ hm (by omega) hw, otpWord_congr hotp, lifecycle_congr hotp, if_neg (by simp), if_neg (by omega),
      if_neg fun ⟨h1, hno⟩ => by rw [hroot h1] at hno; exact Bool.false_ne_true hno,
      if_neg fun ⟨h2, hz⟩ => Bool.false_ne_true ((hany h2).symm.trans hz)]
  · rw [lifecycle_congr (secShown_otp ..), lifecycle_congr (advance_otp ..)]
    exact lifecycle_otpSet (by rw [lifecycle_congr hotp, hl]) hn

/-! ### SEC_ENROL (R174) -/

theorem exec_secEnrol (m : Mail) (s : State) :
    exec (.secEnrol m) s = mailOut 0x0323 m (secBody 0x0323 (enrol m.payload)) s := rfl

/-- Helper data `h` written to both copies, and the root regenerated from it. -/
def enrolled (h : Bytes) (s : State) : State :=
  regenerate (onSec (fun c => { c with helper0 := h, helper1 := h }) { s with free := s.free + 17 })

theorem enrolled_frame (h : Bytes) (s : State) : (enrolled h s).sec.helper0 = h ∧ (enrolled h s).sec.helper1 = h ∧
    (enrolled h s).sec.otp = s.sec.otp ∧ (enrolled h s).sec.provA = s.sec.provA ∧ (enrolled h s).host = s.host :=
  regenerate_frame _

theorem enrol_blank {s : State} (hl : lifecycle s = 0) (h0 : helperPasses s s.sec.helper0 = false)
    (h1 : helperPasses s s.sec.helper1 = false) (hd : s.sec.drbgOk = true) : ∃ h, helperPasses s h = true ∧
      enrol [] s = if (enrolled h s).sec.rootOk then done (enrolled h s) [] else refuse (enrolled h s) 0x0310 := by
  refine ⟨_, helperPasses_helperBytes s (xorBytes (arrayMajority s.free) (pufEncode (drbg s 16 131)))
    (verifierOf (rootOf s (drbg s 16 131))), ?_⟩
  rw [enrol, if_neg (by simp), if_neg (by simp [hl, h0, h1]), if_neg (by simp [hd])]
  rfl

theorem enrol_enrolled {s : State} (h : lifecycle s ≠ 0 ∨ helperPasses s s.sec.helper0 = true ∨ helperPasses s s.sec.helper1 = true) :
    enrol [] s = refuse s 0x0306 := by
  rw [enrol, if_neg (by simp), if_pos h]

/-! ### Certificates (R175, R176) -/

theorem exec_secDikGet (m : Mail) (s : State) :
    exec (.secDikGet m) s = mailOut 0x0344 m (secBody 0x0344 (dikGet m.payload)) s := rfl

theorem exec_secCertWrite (m : Mail) (s : State) :
    exec (.secCertWrite m) s = mailOut 0x0342 m (secBody 0x0342 (certWrite m.payload)) s := rfl

theorem exec_secCertCommit (m : Mail) (s : State) :
    exec (.secCertCommit m) s = mailOut 0x0343 m (secBody 0x0343 (certCommit m.payload)) s := rfl

theorem exec_secCertGet (m : Mail) (s : State) :
    exec (.secCertGet m) s = mailOut 0x0341 m (secBody 0x0341 (certGet m.payload)) s := rfl

/-- The certificate commands work in MANUFACTURE under a root. -/
theorem certState_none {s : State} (hl : lifecycle s = 0) (hr : s.sec.rootOk = true) : certState s = none := by
  rw [certState, if_neg (by simp [hl]), if_neg (by simp [hr])]

theorem dikGet_eq {s : State} (hl : lifecycle s = 0) (hr : s.sec.rootOk = true) :
    dikGet [] s = done s (uidBytes s ++ dikPublic s) := by
  rw [dikGet, if_neg (by simp), certState_none hl hr]

/-- A staged certificate with a range written to it; a new total starts it anew. -/
def stagedWith (total off : Nat) (b : Bytes) (x : Staged) : Staged :=
  { total := total, ranges := (if x.total = total then x.ranges else []) ++ [(off, b)] }

theorem certWrite_staged {p b : Bytes} {s : State} {c n o : Nat} (hl : lifecycle s = 0) (hr : s.sec.rootOk = true) (hc : c ≤ 1)
    (hn : n ≤ 2048) (hb : b.length ≤ 960) (ho : o + b.length ≤ n)
    (hp : p = leBytes 1 c ++ zeros 3 ++ leBytes 4 n ++ leBytes 4 o ++ leBytes 4 b.length ++ b) :
    certWrite p s = done (onSec (fun k => { k with staged := modNth k.staged c (stagedWith n o b) }) s) [] := by
  obtain ⟨hno, hrsv, hlen, hrest⟩ := leadByte_fields (p := p) (r := leBytes 4 n ++ (leBytes 4 o ++ (leBytes 4 b.length ++ b)))
    (by simpa using hp) (by omega : c < 256)
  simp only [List.length_append, length_leBytes] at hlen
  have htotal : byteField p 4 4 = n := by
    rw [hrest 0 4, byteField_front]
    omega
  have hoff : byteField p 8 4 = o := by
    rw [hrest 4 4, byteField_skip _ _ _ _ (by simp), length_leBytes, byteField_front]
    omega
  have hcount : byteField p 12 4 = b.length := by
    rw [hrest 8 4, byteField_skip _ _ _ _ (by simp), byteField_skip _ _ _ _ (by simp), length_leBytes, length_leBytes,
      byteField_front]
    omega
  have hdata : p.drop 16 = b := by
    rw [hp]
    exact List.drop_left' (by simp)
  rw [certWrite]
  simp only [hno, hrsv, htotal, hoff, hcount, hdata]
  rw [if_neg (by omega), certState_none hl hr]
  exact if_neg (by omega)

/-- The provisioning record with the staged certificates and empty key positions. -/
def certified (s : State) (r : Provision) : Provision :=
  { r with devCert := stagedBytes (nth {} s.sec.staged 0), caCert := stagedBytes (nth {} s.sec.staged 1)
           wrapped := [none, none, none, none] }

theorem certCommit_eq {s : State} (hl : lifecycle s = 0) (hr : s.sec.rootOk = true) : certCommit [] s =
    if certChecks s ≠ 0 then refuse s 0x031A 0 (leBytes 1 (certChecks s))
    else done (provWrite (certified s) (provWrite (certified s) s)) [] := by
  rw [certCommit, if_neg (by simp), certState_none hl hr]
  rfl

/-- The checks read the staged certificates, the identity key and the die number. -/
theorem certChecks_congr {s t : State} (hst : t.sec.staged = s.sec.staged) (hs : t.sec.slots = s.sec.slots)
    (ho : t.sec.otp = s.sec.otp) : certChecks t = certChecks s := by
  have hd : dikPublic t = dikPublic s := by rw [dikPublic, dikPublic, hs]
  have hu : uidText t = uidText s := by rw [uidText, uidText, uid_congr ho]
  rw [certChecks, certChecks, hst, hd, hu]

theorem certGet_bytes {b : Bytes} {s : State} {c o n : Nat} {p : Provision} (hc : c ≤ 1) (hn : n ≤ 960) (ho : o < 2 ^ 32)
    (hb : b = leBytes 1 c ++ zeros 3 ++ leBytes 4 o ++ leBytes 4 n) (hp : provision s = some p)
    (hlen : o + n ≤ (if c = 0 then p.devCert else p.caCert).length) :
    certGet b s = done s (((if c = 0 then p.devCert else p.caCert).drop o).take n) := by
  obtain ⟨hno, hrsv, hl, hrest⟩ := leadByte_fields (p := b) (r := leBytes 4 o ++ leBytes 4 n) (by simpa using hb)
    (by omega : c < 256)
  have hoff : byteField b 4 4 = o := by
    rw [hrest 0 4, byteField_front]
    omega
  have hcount : byteField b 8 4 = n := by
    rw [hrest 4 4, byteField_skip _ _ _ _ (by simp), length_leBytes, byteField_whole]
    omega
  rw [certGet]
  simp only [hno, hrsv, hoff, hcount, hp]
  rw [if_neg (by simp [hl]), if_neg (by omega)]

/-! ### SEC_ATTEST (R177) -/

theorem exec_secAttest (m : Mail) (s : State) :
    exec (.secAttest m) s = mailOut 0x0340 m (secBody 0x0340 (attest m.payload)) s := rfl

/-- The statement's first bytes: MAGIC, version, length, identity, lifecycle and MODE. -/
def attestHead (s : State) : Bytes :=
  leBytes 4 0xD742A77E ++ leBytes 2 1 ++ leBytes 2 480 ++ uidBytes s ++ leBytes 4 (idVariant s) ++ leBytes 1 (lifecycle s) ++
    leBytes 1 (attestMode s)

theorem attestBody_head (s : State) (nonce : Bytes) : ∃ r, attestBody s nonce = attestHead s ++ r := by
  unfold attestBody attestHead
  simp only [List.append_assoc]
  exact ⟨_, rfl⟩

theorem attest_signed {p : Bytes} {s : State} (hl : p.length = 32) (hr : s.sec.rootOk = true) :
    attest p s = done (slotAsk 0 3 s) (attestBody s p ++ Config.ecdsaSign (slotKey s 0 3) (Config.sha384 (attestBody s p))) := by
  rw [attest, if_neg (by simp [hl]), if_neg (by simp [hr])]

theorem attest_rootless {p : Bytes} {s : State} (hl : p.length = 32) (hr : s.sec.rootOk = false) :
    attest p s = refuse s 0x0313 := by
  rw [attest, if_neg (by simp [hl]), if_pos (by simp [hr])]

/-- Settles O33: each command's effect in each of its cases. What SEC_CMD and SEC_CMD_STAT show and the staging that a new total starts
anew are the model's choices (log 10), as are the parameters of the lifecycle's event (log 8). -/
theorem lifecycleEnrolmentAttestation : Obligations.LifecycleEnrolmentAttestation := by
  unfold Obligations.LifecycleEnrolmentAttestation
  refine ⟨fun m s n c v h hn hc hm hv hbad => ?unconfirmed, fun m s h hm hw hl hr hcert => ?provisioned,
    fun m s h hm hw hl hkeys => ?field, fun m s k h hm hw hl hk hz => ?keyless, fun m s h hm hw hl => ?retired,
    fun m s h hm hl h0 h1 hd => ?enrolled, fun m s h hm hbad => ?again, fun m s h hm hl hr => ?identity,
    fun m s c n o b x h hl hr hc hn hb ho hm hx => ?staged, fun m s h hm hl hr hseq => ?committed,
    fun m s c o n p h hc hn ho hm hp hlen => ?read, fun m s h hlen hr => ?attested, fun m s h hlen hr => ?rootless⟩
  case unconfirmed =>
    have hotp := takenState_otp 0x0320 m s
    have ha := lifecycleAdvance_eq (takenState 0x0320 m s) hm hn hc
    rw [otpWord_congr hotp, lifecycle_congr hotp, hv] at ha
    rw [exec_secLifecycleAdvance]
    refine mailOut_secBody_refuses h (ha.trans ?_)
    by_cases hcv : c = v
    · rw [if_neg (by simpa), if_pos (.inl (hbad.resolve_left (by simpa))), if_neg (by simpa)]
    · rw [if_pos hcv, if_pos hcv]
  case provisioned =>
    obtain ⟨hexec, hnext⟩ := exec_secLifecycleAdvance_next h hm hw (by rw [hl]) (by omega) (fun _ => ⟨hr, hcert⟩) (by omega)
    obtain ⟨hsec, hrec, -⟩ := advance_frame (n := 1) (takenState 0x0320 m s) (by omega)
    refine ⟨_, hexec, hnext, ?_, fun w hw => ?_, ?_⟩
    · rw [secShown_slots, hsec, otpSet_slots, takenState_slots]
    · rw [otpWord_congr (secShown_otp ..), otpWord_congr (advance_otp ..), otpWord_otpSet_other _ _ hw,
        otpWord_congr (takenState_otp ..)]
    · rw [secShown_recorder, hrec]
  case field =>
    obtain ⟨hexec, hnext⟩ := exec_secLifecycleAdvance_next h hm hw (by rw [hl]) (by omega) (by omega) (fun _ => hkeys)
    obtain ⟨hsec, -, hreq⟩ := advance_frame (n := 2) (takenState 0x0320 m s) (by omega)
    refine ⟨_, hexec, hnext, ?_, ?_, ?_⟩
    · rw [secShown_slots, hsec, otpSet_slots, takenState_slots]
    · rw [secShown_sessions, hsec, otpSet_sessions]
    · rw [secShown_host, hreq, par_congr (takenState_params ..)]
      simp
  case keyless =>
    have hotp := takenState_otp 0x0320 m s
    have hany : (upTo 3).any (fun k => allZero (otpKey (takenState 0x0320 m s) k 0)) = true :=
      List.any_eq_true.mpr ⟨k, List.mem_range.mpr hk, by rwa [otpKey_congr hotp]⟩
    rw [exec_secLifecycleAdvance]
    refine mailOut_secBody_refuses h ?_
    rw [lifecycleAdvance_eq _ hm (by omega) hw, otpWord_congr hotp, lifecycle_congr hotp, hl, if_neg (by simp), if_neg (by omega),
      if_neg (by omega), if_pos ⟨rfl, hany⟩]
  case retired =>
    obtain ⟨hexec, hnext⟩ := exec_secLifecycleAdvance_next h hm hw (by rw [hl]) le_rfl (by omega) (by omega)
    obtain ⟨slots, sessions, provA, provB, helper0, helper1, restart⟩ := advance_retired (takenState 0x0320 m s)
    refine ⟨_, hexec, hnext, fun k x hx => ?_, ?_, ?_, ?_, ?_, ?_, ?_⟩
    · rw [secShown_slots, slots] at hx
      exact List.eq_of_mem_replicate (List.mem_of_getElem? hx)
    · rw [secShown_sessions, sessions]
      simp
    · rw [secShown_provA, provA]
    · rw [secShown_provB, provB]
    · rw [secShown_helper0, helper0]
    · rw [secShown_helper1, helper1]
    · rw [secShown_mgmt, restart]
  case enrolled =>
    have hotp := takenState_otp 0x0323 m s
    obtain ⟨b, hb, he⟩ := enrol_blank (s := takenState 0x0323 m s) (by rw [lifecycle_congr hotp, hl])
      (by rw [helperPasses_congr hotp, takenState_helper0, h0]) (by rw [helperPasses_congr hotp, takenState_helper1, h1])
      (by rw [takenState_drbgOk, hd])
    obtain ⟨helper0, helper1, otp, provA, host⟩ := enrolled_frame b (takenState 0x0323 m s)
    rw [exec_secEnrol, hm]
    refine ⟨secShown 0x0323 (if (enrolled b (takenState 0x0323 m s)).sec.rootOk then 0 else 0x0310)
      (enrolled b (takenState 0x0323 m s)), b, ?_, ?_, ?_, ?_, ?_, ?_, ?_⟩
    · rw [mailOut_secBody_ite h he, secShown_rootOk]
      cases (enrolled b (takenState 0x0323 m s)).sec.rootOk <;> rfl
    · rw [secShown_helper0, helper0]
    · rw [secShown_helper1, helper1]
    · rwa [← helperPasses_congr hotp]
    · rw [secShown_otp, otp, hotp]
    · rw [secShown_provA, provA, takenState_provA]
    · rw [secShown_host, host, takenState_params]
  case again =>
    have hotp := takenState_otp 0x0323 m s
    rw [← lifecycle_congr hotp, ← helperPasses_congr hotp, ← helperPasses_congr hotp, ← takenState_helper0 0x0323 m s,
      ← takenState_helper1 0x0323 m s] at hbad
    rw [exec_secEnrol, hm]
    exact mailOut_secBody_refuses h (enrol_enrolled hbad)
  case identity =>
    have hotp := takenState_otp 0x0344 m s
    have hd := dikGet_eq (s := takenState 0x0344 m s) (by rw [lifecycle_congr hotp, hl]) (by rw [takenState_rootOk, hr])
    rw [uidBytes_congr hotp, dikPublic, takenState_slots] at hd
    rw [exec_secDikGet, hm]
    exact mailOut_secBody_answers h hd
  case staged =>
    have hw := certWrite_staged (s := takenState 0x0342 m s) (by rw [lifecycle_congr (takenState_otp ..), hl])
      (by rw [takenState_rootOk, hr]) hc hn hb ho hm
    rw [exec_secCertWrite]
    refine ⟨_, stagedWith n o b x, mailOut_secBody_answers h hw, ?_, rfl, ?_, fun ht r hr => ?_, fun j hj => ?_, ?_, ?_⟩
    · rw [secShown_staged, onSec_sec, takenState_staged, getElem?_modNth_same, hx]
      rfl
    · simp [stagedWith]
    · simp [stagedWith, ht, hr]
    · rw [secShown_staged, onSec_sec, takenState_staged, getElem?_modNth_other _ _ _ _ hj]
    · rw [secShown_provA, onSec_sec, takenState_provA]
    · rw [secShown_otp, onSec_sec, takenState_otp]
  case committed =>
    have hotp := takenState_otp 0x0343 m s
    have hc := certCommit_eq (s := takenState 0x0343 m s) (by rw [lifecycle_congr hotp, hl]) (by rw [takenState_rootOk, hr])
    rw [certChecks_congr (takenState_staged ..) (takenState_slots ..) hotp] at hc
    obtain ⟨a, b, hw, hab, hcopy⟩ := provWrite_twice (certified (takenState 0x0343 m s)) (s := takenState 0x0343 m s) (by
      rw [provBase, provision_takenState]
      cases hp : provision s with
      | none => decide
      | some p => exact hseq p hp)
    rw [hw] at hc
    obtain ⟨ha, ra, ha1, ha2, ha3⟩ := hcopy a (.inl rfl)
    obtain ⟨hb, rb, hb1, hb2, hb3⟩ := hcopy b (.inr rfl)
    rw [takenState_storage] at ha hb
    simp only [certified, takenState_staged] at ha1 ha2 ha3 hb1 hb2 hb3
    rw [exec_secCertCommit, hm]
    refine ⟨secShown 0x0343 0 (onSec (fun c => { c with provA := some a, provB := some b }) (takenState 0x0343 m s)), a, b,
      ?_, ?_, ?_, ?_, ha1, ?_, ha2, ha3, ?_, hab, fun p hp => ?_, ?_⟩
    · split
      next h0 => exact mailOut_secBody_answers h (hc.trans (if_neg (by simp [h0])))
      next h0 => exact mailOut_responds h (by rw [secBody, hc, if_pos h0]; rfl) rfl
    · rw [secShown_provA, onSec_sec]
    · rw [secShown_provB, onSec_sec]
    · rw [ha1, hb1]
    · rw [ha2, hb2]
    · rw [ha3, hb3]
    · obtain rfl | rfl := hp
      · exact ha
      · exact hb
    · rw [secShown_slots, onSec_sec, takenState_slots]
  case read =>
    rw [exec_secCertGet]
    exact mailOut_secBody_answers h (certGet_bytes hc hn ho hm (by rwa [provision_takenState]) hlen)
  case attested =>
    have hotp := takenState_otp 0x0340 m s
    have ha := attest_signed (s := takenState 0x0340 m s) hlen (by rw [takenState_rootOk, hr])
    obtain ⟨r, hbody⟩ := attestBody_head (takenState 0x0340 m s) m.payload
    rw [hbody, slotKey_congr (takenState_slots ..)] at ha
    rw [exec_secAttest]
    refine ⟨attestHead (takenState 0x0340 m s), r, mailOut_secBody_answers h ha, ?_⟩
    rw [attestHead, uidBytes_congr hotp, lifecycle_congr hotp, idVariant, otpWord_congr hotp, attestMode, takenState_host,
      ring_host_minimal, ring_host_ready]
    rfl
  case rootless =>
    rw [exec_secAttest]
    exact mailOut_secBody_refuses h (attest_rootless hlen (by rw [takenState_rootOk, hr]))

end Sys2Proof.Machine
end

section
/-! SUPPORT. The sub-station table's entries, written and read back (R205, R206), and the state in which a command on them runs. -/

namespace Sys2Proof.Machine

/-! ### Entries written and read back (R205, R206) -/

theorem lookupNat_eraseNat_same {α : Type} (k : Nat) (l : List (Nat × α)) : lookupNat k (eraseNat k l) = none := by
  induction l with
  | nil => rfl
  | cons x r ih =>
    by_cases h : x.1 = k
    · simpa [eraseNat, h] using ih
    · simpa [eraseNat, h, lookupNat] using ih

theorem lookupNat_eraseNat_other {α : Type} {j k : Nat} (l : List (Nat × α)) (h : j ≠ k) :
    lookupNat j (eraseNat k l) = lookupNat j l := by
  induction l with
  | nil => rfl
  | cons x r ih =>
    by_cases hk : x.1 = k
    · simpa [eraseNat, hk, lookupNat, h.symm] using ih
    · simp only [eraseNat, ne_eq, hk, not_false_eq_true, bne_iff_ne, List.filter_cons_of_pos, lookupNat] at ih ⊢
      rw [ih]

/-- Entries are read from the table alone. -/
theorem entry_congr {s t : State} (h : t.model.table = s.model.table) (k : Nat) : entry t k = entry s k := by
  rw [entry, entry, h]

theorem entry_setEntry_same (k : Nat) (e : Entry) (s : State) : entry (setEntry k e s) k = e := by
  by_cases h : e = {}
  · simp [entry, setEntry, onModel, h, lookupNat_eraseNat_same]
  · simp [entry, setEntry, onModel, h, lookupNat_insertNat_same]

theorem entry_setEntry_other {j k : Nat} (e : Entry) (s : State) (h : j ≠ k) : entry (setEntry k e s) j = entry s j := by
  by_cases he : e = {}
  · simp [entry, setEntry, onModel, he, lookupNat_eraseNat_other _ h]
  · simp [entry, setEntry, onModel, he, lookupNat_insertNat_other _ _ h]

/-- An entry that is written changes the table alone. -/
theorem setEntry_frame (k : Nat) (e : Entry) (s : State) :
    ∃ l, setEntry k e s = { s with model := { s.model with table := l } } := ⟨_, rfl⟩

/-- An accepted update writes its entry; beside it only what a snapshot to come still needs is kept (R18 to R20). -/
theorem acceptEntry_eq (k : Nat) (e : Entry) (s : State) :
    ∃ l, acceptEntry k e s = setEntry k e { s with model := { s.model with prior := l } } := by
  unfold acceptEntry
  dsimp only
  split
  · split <;> exact ⟨_, rfl⟩
  · exact ⟨_, rfl⟩

theorem entry_acceptEntry_same (k : Nat) (e : Entry) (s : State) : entry (acceptEntry k e s) k = e := by
  obtain ⟨l, h⟩ := acceptEntry_eq k e s
  rw [h, entry_setEntry_same]

theorem entry_acceptEntry_other {j k : Nat} (e : Entry) (s : State) (h : j ≠ k) :
    entry (acceptEntry k e s) j = entry s j := by
  obtain ⟨l, hl⟩ := acceptEntry_eq k e s
  rw [hl, entry_setEntry_other _ _ h]
  exact entry_congr rfl j

theorem acceptEntry_frame (k : Nat) (e : Entry) (s : State) :
    ∃ l p, acceptEntry k e s = { s with model := { s.model with table := l, prior := p } } := by
  obtain ⟨p, h⟩ := acceptEntry_eq k e s
  obtain ⟨l, hl⟩ := setEntry_frame k e { s with model := { s.model with prior := p } }
  exact ⟨l, p, h.trans hl⟩

/-! ### The state in which a command runs -/

theorem takenState_model (cmd : Nat) (m : Mail) (s : State) : (takenState cmd m s).model = s.model := by
  rw [takenState_frame]
  exact ring_model cmd m s

theorem takenState_recorder (cmd : Nat) (m : Mail) (s : State) : (takenState cmd m s).recorder = s.recorder := by
  rw [takenState_frame]
  exact ring_recorder cmd m s

theorem entry_takenState (cmd : Nat) (m : Mail) (s : State) (k : Nat) : entry (takenState cmd m s) k = entry s k :=
  entry_congr (by rw [takenState_model]) k

end Sys2Proof.Machine
end

section
/-! Sub-station measurements from the host: O35. -/

namespace Sys2Proof.Machine

/-! ### One record (R209 to R211) -/

/-- A record is checked against the model, the time and the parameters alone. -/
theorem substFail_congr {s t : State} (hm : t.model = s.model) (ht : t.time = s.time) (hp : t.host.params = s.host.params) (r : Bytes) :
    substFail t r = substFail s r := by
  have hpar : parN t 0x0800 = parN s 0x0800 := congrArg Int.toNat (par_congr hp _)
  unfold substFail modelHere attrN entry
  rw [hm, ht, hpar]

theorem substFail_takenState (cmd : Nat) (m : Mail) (s : State) (r : Bytes) : substFail (takenState cmd m s) r = substFail s r :=
  substFail_congr (takenState_model ..) (takenState_time ..) (takenState_params ..) r

theorem substFormOk_iff (r : Bytes) : substFormOk r = true ↔
    byteField r 2 2 < 64 ∧ byteField r 4 4 = 0 ∧ byteField r 0x1E 2 = 0 ∧ byteField r 0x24 4 = 0 := by
  simp [substFormOk, and_assoc]

theorem tempOk_eq_false_iff (p : Bool) (t : Int) : tempOk p t = false ↔ p = true ∧ (t < -5000 ∨ 20000 < t) := by
  cases p with
  | false => simp [tempOk]
  | true => simp [tempOk]; omega

/-- The entry that a host update leaves (R207, R211). -/
def hostUpdate (r : Bytes) (ont : Nat) (e : Entry) : Entry :=
  { withMeas (byteField r 2 2) (byteFieldS r 0x10 2) (byteFieldS r 0x12 2) (byteFieldS r 0x14 4)
      (byteFieldS r 0x18 4) (byteField r 0x1C 2) (byteFieldS r 0x20 4) e with
    gen := wrapInc 32 e.gen, tMeas := byteField r 8 8, tAcc := ont, srcHost := true, keyEpoch := 0 }

theorem substApply_skipped {r : Bytes} {s : State} (h : byteField r 8 8 ≤ (entry s (byteField r 0 2)).tMeas) :
    substApply r s = (s, false) := by
  simp only [substApply, if_pos h]

theorem substApply_replaces {r : Bytes} {s : State} {e : Entry} (he : e = entry s (byteField r 0 2))
    (hlater : e.tMeas < byteField r 8 8) (hfirst : e.tAcc ≠ s.time.ont ∨ e.srcHost = true) :
    substApply r s = (acceptEntry (byteField r 0 2) (hostUpdate r s.time.ont e) s, true) := by
  have hcycle : ¬(e.tAcc = s.time.ont ∧ e.srcHost = false ∧ 0 < e.tMeas) := fun ⟨h1, h2, _⟩ => by simp [h1, h2] at hfirst
  subst he
  simp only [substApply, if_neg hlater.not_ge, if_neg hcycle]
  rfl

/-- An ingest update of the same fabric cycle prevails: the generation alone moves (R18, log 23). -/
theorem substApply_outrun {r : Bytes} {s : State} {e : Entry} (he : e = entry s (byteField r 0 2))
    (hlater : e.tMeas < byteField r 8 8) (hcycle : e.tAcc = s.time.ont ∧ e.srcHost = false ∧ 0 < e.tMeas) :
    substApply r s = (acceptEntry (byteField r 0 2) { e with gen := wrapInc 32 e.gen } s, true) := by
  subst he
  simp only [substApply, if_neg hlater.not_ge, if_pos hcycle]

/-! ### One command (R209 to R211) -/

theorem substRec_payload (n : Nat) (b : Bytes) (k : Nat) :
    substRec (leBytes 2 n ++ [0, 0] ++ b) k = (b.drop (40 * k)).take 40 := by
  have hl : (leBytes 2 n ++ [0, 0] : Bytes).length = 4 := rfl
  rw [substRec, ← List.drop_drop, List.drop_left' hl]

/-- Records that pass do not end the search for a failing one. -/
theorem substFirst_append {s : State} {p : Bytes} {l : List Nat} (h : ∀ j ∈ l, substFail s (substRec p j) = none) (l' : List Nat) :
    substFirst s p (l ++ l') = substFirst s p l' := by
  induction l with
  | nil => rfl
  | cons k l ih =>
    rw [List.cons_append, substFirst, h k List.mem_cons_self]
    exact ih fun j hj => h j (List.mem_cons_of_mem k hj)

theorem substFirst_upTo {s : State} {p : Bytes} {n k r : Nat} (hk : k < n)
    (hpass : ∀ j, j < k → substFail s (substRec p j) = none) (hfail : substFail s (substRec p k) = some r) :
    substFirst s p (upTo n) = some (k, r) := by
  obtain ⟨c, rfl⟩ : ∃ c, n = k + (c + 1) := ⟨n - k - 1, by omega⟩
  rw [upTo, List.range_add, substFirst_append fun j hj => hpass j (List.mem_range.mp hj), List.range_succ_eq_map, List.map_cons,
    substFirst, Nat.add_zero, hfail]

theorem substPayload_fields {n : Nat} {b : Bytes} (h24 : n ≤ 24) (hb : b.length = 40 * n) :
    byteField (leBytes 2 n ++ [0, 0] ++ b) 0 2 = n ∧ byteField (leBytes 2 n ++ [0, 0] ++ b) 2 2 = 0 ∧
      (leBytes 2 n ++ [0, 0] ++ b).length = 4 + 40 * n := by
  refine ⟨?_, ?_, ?_⟩
  · rw [List.append_assoc, byteField_front]
    omega
  · rw [List.append_assoc, byteField_skip _ _ _ _ (length_leBytes 2 n).le]
    rfl
  · simp only [List.length_append, length_leBytes, List.length_cons, List.length_nil, hb]

/-- A failing record refuses the whole command (R210). -/
theorem substWrite_refused {n k r : Nat} {b : Bytes} {s : State} (h1 : 1 ≤ n) (h24 : n ≤ 24) (hb : b.length = 40 * n)
    (hfirst : substFirst s (leBytes 2 n ++ [0, 0] ++ b) (upTo n) = some (k, r)) :
    substWrite (leBytes 2 n ++ [0, 0] ++ b) s = refuse s r 0 (leBytes 2 k) := by
  obtain ⟨hcount, hrsv, hlen⟩ := substPayload_fields h24 hb
  simp only [substWrite, hcount, hrsv, hlen, hfirst]
  rw [if_neg (by omega)]

/-- A command whose records all pass: they are applied, and the answer counts them (R211). -/
theorem substWrite_applied {n a k : Nat} {b : Bytes} {s t : State} (h1 : 1 ≤ n) (h24 : n ≤ 24) (hb : b.length = 40 * n)
    (hfirst : substFirst s (leBytes 2 n ++ [0, 0] ++ b) (upTo n) = none)
    (hall : substAll (leBytes 2 n ++ [0, 0] ++ b) (upTo n) s = (t, a, k)) :
    substWrite (leBytes 2 n ++ [0, 0] ++ b) s = done t (leBytes 2 a ++ leBytes 2 (n - a) ++ leBytes 4 k) := by
  obtain ⟨hcount, hrsv, hlen⟩ := substPayload_fields h24 hb
  simp only [substWrite, hcount, hrsv, hlen, hfirst, hall]
  rw [if_neg (by omega)]

/-- A command of one record that passes: it is applied and counted, or skipped and counted (R211). -/
theorem substWrite_one {r : Bytes} {s t : State} {ok : Bool} (hr : r.length = 40) (hpass : substFail s r = none)
    (happly : substApply r s = (t, ok)) : substWrite ([1, 0, 0, 0] ++ r) s = done t
      (if ok then [1, 0, 0, 0, 0, 0, 0, 0] else [0, 0, 1, 0, 1, 0, 0, 0]) := by
  have hrec : substRec (leBytes 2 1 ++ [0, 0] ++ r) 0 = r := by
    rw [substRec_payload, Nat.mul_zero, List.drop_zero, List.take_of_length_le hr.le]
  have hone : upTo 1 = [0] := rfl
  have hfirst : substFirst s (leBytes 2 1 ++ [0, 0] ++ r) (upTo 1) = none := by
    simp only [hone, substFirst, hrec, hpass]
  have hall : substAll (leBytes 2 1 ++ [0, 0] ++ r) (upTo 1) s = (t, if ok then 1 else 0, if ok then 0 else 1) := by
    simp only [hone, substAll, hrec, happly, Nat.zero_add, Nat.pow_zero]
  refine (substWrite_applied (by decide) (by decide) hr hfirst hall).trans ?_
  cases ok <;> rfl

theorem exec_modelSubstWrite (m : Mail) (s : State) :
    exec (.modelSubstWrite m) s = mailOut 0x0810 m (substWrite m.payload) s := rfl

/-- The answer to a command of one record that passes. -/
theorem exec_modelSubstWrite_one {m : Mail} {s t : State} {r : Bytes} {ok : Bool} (h : taken 0x0810 m s = true)
    (hm : m.payload = [1, 0, 0, 0] ++ r) (hr : r.length = 40) (hpass : substFail s r = none)
    (happly : substApply r (takenState 0x0810 m s) = (t, ok)) :
    exec (.modelSubstWrite m) s = answers 0x0810 m s t (if ok then [1, 0, 0, 0, 0, 0, 0, 0] else [0, 0, 1, 0, 1, 0, 0, 0]) := by
  rw [exec_modelSubstWrite, hm]
  exact mailOut_answers h (substWrite_one hr (by rw [substFail_takenState, hpass]) happly)

/-- Settles O35: a record by its place in time, a failing record by the search for the first one, and the checks read off. That an
ingest update of the same ONT prevails is the model's choice (log 23). -/
theorem substationWrites : Obligations.SubstationWrites := by
  unfold Obligations.SubstationWrites
  refine ⟨fun m s r k mp e ht hm hr hpass hk hmp he hlater hfirst => ?replaced,
    fun m s r k e ht hm hr hpass hk he hlater hpos hacc hsrc => ?outrun,
    fun m s r ht hm hr hpass hle => ?skipped,
    fun m s n k r b ht hm h1 h24 hb hk hbefore hfail => ?refused,
    fun s r hmp hrsv4 hrsv30 hrsv36 => ?checks⟩
  case replaced =>
    subst hk hmp
    have hT := takenState_time 0x0810 m s
    have happly := substApply_replaces (s := takenState 0x0810 m s) (he.trans (entry_takenState ..).symm) hlater (by rwa [hT])
    obtain ⟨l, p, hframe⟩ := acceptEntry_frame (byteField r 0 2) (hostUpdate r s.time.ont e) (takenState 0x0810 m s)
    rw [hT] at happly
    have hrun := exec_modelSubstWrite_one ht hm hr hpass happly
    rw [if_pos rfl] at hrun
    refine ⟨_, hrun, entry_acceptEntry_same .., fun j hj => ?_, ?_, ?_, ?_⟩
    · rw [entry_acceptEntry_other _ _ hj, entry_takenState]
    · rw [hframe, ← takenState_model 0x0810 m s]
    · rw [hframe, ← hT]
    · rw [hframe, ← takenState_recorder 0x0810 m s]
  case outrun =>
    subst hk
    have happly := substApply_outrun (s := takenState 0x0810 m s) (he.trans (entry_takenState ..).symm) hlater
      ⟨by rw [takenState_time, hacc], hsrc, hpos⟩
    have hrun := exec_modelSubstWrite_one ht hm hr hpass happly
    rw [if_pos rfl] at hrun
    refine ⟨_, hrun, entry_acceptEntry_same .., fun j hj => ?_⟩
    rw [entry_acceptEntry_other _ _ hj, entry_takenState]
  case skipped =>
    rw [exec_modelSubstWrite_one ht hm hr hpass (substApply_skipped (by rwa [entry_takenState])), if_neg Bool.false_ne_true]
  case refused =>
    have hfirst : substFirst (takenState 0x0810 m s) (leBytes 2 n ++ [0, 0] ++ b) (upTo n) = some (k, r) :=
      substFirst_upTo hk (fun j hj => by rw [substRec_payload, substFail_takenState, hbefore j hj])
        (by rw [substRec_payload, substFail_takenState, hfail])
    rw [exec_modelSubstWrite, hm, mailOut_taken ht, substWrite_refused h1 h24 hb hfirst]
    rfl
  case checks =>
    have hform : substFormOk r = true := (substFormOk_iff r).mpr ⟨hmp, hrsv4, hrsv30, hrsv36⟩
    simp [substFail, hform, modelHere, ← tempOk_eq_false_iff]

end Sys2Proof.Machine
end

section
/-! Replacing the model: O34. What a revert leaves of a boot record whose SEQ has run out (R98, R202). -/

namespace Sys2Proof.Machine

/-! ### The pass and the boot headers -/

/-- Entries written one after the other leave the boot headers. -/
theorem foldl_setEntry_mgmt (f : Nat → Entry → Entry) (l : List Nat) (s : State) :
    (l.foldl (fun s i => setEntry i (f i (entry s i)) s) s).mgmt = s.mgmt := by
  induction l generalizing s with
  | nil => rfl
  | cons i l ih => exact ih _

theorem attributePass_mgmt (img : Bytes) (s : State) : (attributePass img s).mgmt = s.mgmt :=
  foldl_setEntry_mgmt (passEntry img) _ s

theorem switchCancel_mgmt (s : State) : (switchCancel s).mgmt = s.mgmt := by
  unfold switchCancel
  split
  · exact attributePass_mgmt ..
  · rfl

/-! ### SEQ has run out (R98) -/

/-- Behind the last SEQ a new record carries SEQ 0, and the record in header B stays the one with the higher SEQ. -/
theorem bootRec_bootWrite_last (f : BootRec → BootRec) {s : State} {r : BootRec} (hb : bootParse s.mgmt.bootB = some r)
    (hr : bootRec s = r) (hlast : r.seq = 2 ^ 32 - 1) : bootRec (bootWrite f s) = r := by
  have hn : wrapInc 32 (bootRec s).seq = 0 := by rw [hr, hlast]; rfl
  unfold bootWrite
  dsimp only
  rw [hn]
  refine bootRec_newest (.inr ⟨hb, fun a ha => ?_⟩)
  have hnew := bootParse_bootBytes (r := { f (bootRec s) with seq := 0 }) (Nat.two_pow_pos 32)
  obtain rfl : _ = a := Option.some.inj (hnew.symm.trans ha)
  rw [hlast]
  exact Nat.sub_pos_of_lt (Nat.one_lt_two_pow (by decide))

/-- A revert with the switch pending: the event, the boot record and the cancelled switch (R202). -/
theorem modelTrialRevert_pending {s : State} (ht : (bootRec s).modelTrial = true) (hs : s.model.switching = true) :
    modelTrialRevert [] s = done (switchCancel (raise 0x0813 49 0 0 0 (modelFallback s))) [] := by
  unfold modelTrialRevert
  simp only [ht, hs]
  rfl

/-- At the last SEQ a revert with the switch pending leaves the model on trial. -/
theorem bootRec_revert_last {m : Mail} {s t : State} {r : BootRec} (h : taken 0x0802 m s = true) (hm : m.payload = [])
    (hs : s.model.switching = true) (ht : r.modelTrial = true) (hb : bootParse s.mgmt.bootB = some r) (hr : bootRec s = r)
    (hlast : r.seq = 2 ^ 32 - 1) (he : exec (.modelTrialRevert m) s = answers 0x0802 m s t []) : bootRec t = r := by
  have hmgmt := takenState_mgmt 0x0802 m s
  have hboot : bootRec (takenState 0x0802 m s) = r := (bootRec_congr (by rw [hmgmt]) (by rw [hmgmt])).trans hr
  have hrun : exec (.modelTrialRevert m) s = _ := mailOut_answers_of_payload (body := modelTrialRevert) h hm
    (modelTrialRevert_pending (hboot.symm ▸ ht) (by rw [takenState_model, hs]))
  have hsame : t.mgmt = (modelFallback (takenState 0x0802 m s)).mgmt := by
    injection he.symm.trans hrun with hout
    exact (congrArg State.mgmt hout).trans ((switchCancel_mgmt _).trans (raise_mgmt ..))
  rw [bootRec_congr (s := modelFallback (takenState 0x0802 m s)) (by rw [hsame]) (by rw [hsame])]
  exact bootRec_bootWrite_last _ (by rw [hmgmt, hb]) hboot hlast

/-! ### A part at that SEQ -/

/-- The last boot record, with a model on trial. -/
def lastBootRec : BootRec := { seq := 2 ^ 32 - 1, modelTrial := true }

/-- A running part whose header B holds that record and whose model switch is pending. -/
def lastBootPart : State :=
  { State.reset with
    power := { phase := .up, clkLock := 1 }
    mgmt := { malorRuns := true, bootB := bootBytes lastBootRec }
    host := { ready := true }
    model := { switching := true } }

/-- MODEL_TRIAL_REVERT without a session in mailbox 0. -/
def revertMail : Mail :=
  { mbox := 0, flags := 0, seq := 1, len := 0, rsv1 := zeros 2, session := 0, rsv2 := zeros 16, payload := [], tag := [] }

theorem bootParse_lastBootPart : bootParse lastBootPart.mgmt.bootB = some lastBootRec := bootParse_bootBytes (by decide)

theorem bootRec_lastBootPart : bootRec lastBootPart = lastBootRec :=
  bootRec_newest (.inr ⟨bootParse_lastBootPart, fun a ha => by simp [lastBootPart, bootParse, byteField, leNat] at ha⟩)

theorem taken_revertMail : taken 0x0802 revertMail lastBootPart = true := by decide

/-- Refutes O34: the clause of MODEL_TRIAL_REVERT with the switch pending has no premise that SEQ has a successor. At SEQ 2^32 - 1 in
header B the new record carries SEQ 0, the old one stays in force (R98), and the model stays on trial. -/
theorem not_replacingTheModel : ¬ Obligations.ReplacingTheModel := by
  unfold Obligations.ReplacingTheModel
  rintro ⟨-, -, hrevert, -⟩
  obtain ⟨t, hexec, -, -, -, -, -, -, -, htrial, -⟩ := hrevert revertMail lastBootPart taken_revertMail rfl
    (by rw [bootRec_lastBootPart]; rfl) rfl
  rw [bootRec_revert_last taken_revertMail rfl rfl rfl bootParse_lastBootPart bootRec_lastBootPart rfl hexec] at htrial
  exact absurd htrial (by decide)

end Sys2Proof.Machine
end

section
/-! SUPPORT. Ox: one queue changed, its STICKY flags and the marks of the programs, and what the result unit leaves of Ox and of the
mailboxes (R226, R231 to R237, R246). -/

namespace Sys2Proof.Machine

/-! ### One queue changed -/

theorem oxq_congr {s t : State} (h : t.ox.q = s.ox.q) (q : Nat) : oxq t q = oxq s q := by
  rw [oxq, oxq, h]

theorem modNth_const {α : Type} (d : α) (l : List α) (i : Nat) (f : α → α) : modNth l i f = modNth l i (fun _ => f (nth d l i)) := by
  induction l generalizing i with
  | nil => rfl
  | cons a l ih =>
    cases i with
    | zero => rfl
    | succ i => exact congrArg (a :: ·) (ih i)

theorem modNth_modNth_const {α : Type} (l : List α) (i : Nat) (a b : α) :
    modNth (modNth l i fun _ => a) i (fun _ => b) = modNth l i fun _ => b := by
  induction l generalizing i with
  | nil => rfl
  | cons c l ih =>
    cases i with
    | zero => rfl
    | succ i => exact congrArg (c :: ·) (ih i)

/-- Queue `q` becomes `y`, and nothing else changes: the form to which the operations on one queue are brought. -/
def setQ (q : Nat) (y : OxQueue) (s : State) : State := onQ q (fun _ => y) s

theorem onQ_eq_setQ (q : Nat) (f : OxQueue → OxQueue) (s : State) : onQ q f s = setQ q (f (oxq s q)) s := by
  simp only [onQ, setQ, oxq, onOx]
  rw [modNth_const {}]

@[simp] theorem setQ_setQ (q : Nat) (y z : OxQueue) (s : State) : setQ q y (setQ q z s) = setQ q y s := by
  simp only [setQ, onQ, onOx, modNth_modNth_const]

@[simp] theorem length_setQ (q : Nat) (y : OxQueue) (s : State) : (setQ q y s).ox.q.length = s.ox.q.length := length_modNth ..

theorem oxq_setQ_same {q : Nat} {s : State} (y : OxQueue) (h : q < s.ox.q.length) : oxq (setQ q y s) q = y :=
  nth_modNth_same _ (nth_of_lt {} h)

theorem oxq_setQ_other {p q : Nat} (y : OxQueue) (s : State) (h : p ≠ q) : oxq (setQ q y s) p = oxq s p :=
  nth_modNth_other _ _ _ _ _ h

theorem onQ_setQ {q : Nat} {s : State} (f : OxQueue → OxQueue) (y : OxQueue) (h : q < s.ox.q.length) :
    onQ q f (setQ q y s) = setQ q (f y) s := by
  rw [onQ_eq_setQ, oxq_setQ_same _ h, setQ_setQ]

theorem jobLate_congr {s t : State} {q : Nat} (hl : (oxq t q).late = (oxq s q).late) (ha : (oxq t q).arm = (oxq s q).arm)
    (ht : t.time = s.time) : jobLate t q = jobLate s q := by
  rw [jobLate, jobLate, hl, ha, deadlineReached, deadlineReached, ht]

/-! ### STICKY (R246) -/

/-- A register with one flag set. -/
def withFlag (v b : Nat) : Nat := if bit v b then v else v + 2 ^ b

/-- Adding a bit that is clear carries into no other. -/
theorem bit_add_other {v b k : Nat} (h : bit v b = false) (hk : k ≠ b) : bit (v + 2 ^ b) k = bit v k := by
  have heven : v / 2 ^ b % 2 = 0 := by simpa [bit] using h
  rcases Nat.lt_or_gt_of_ne hk with hlow | hhigh
  · obtain ⟨d, rfl⟩ : ∃ d, b = k + (d + 1) := ⟨b - k - 1, by omega⟩
    have hdiv : (v + 2 ^ (k + (d + 1))) / 2 ^ k = v / 2 ^ k + 2 * 2 ^ d := by
      rw [Nat.pow_add, Nat.add_mul_div_left _ _ (Nat.two_pow_pos k), Nat.pow_succ']
    rw [bit, bit, hdiv, Nat.add_mul_mod_self_left]
  · obtain ⟨d, rfl⟩ : ∃ d, k = b + (d + 1) := ⟨k - b - 1, by omega⟩
    have hdiv : (v + 2 ^ b) / 2 ^ (b + (d + 1)) = v / 2 ^ (b + (d + 1)) := by
      rw [Nat.pow_add, Nat.pow_succ', ← Nat.div_div_eq_div_mul, ← Nat.div_div_eq_div_mul, ← Nat.div_div_eq_div_mul,
        ← Nat.div_div_eq_div_mul, Nat.add_div_right _ (Nat.two_pow_pos b)]
      congr 1
      omega
    rw [bit, bit, hdiv]

@[simp] theorem bit_withFlag (v b k : Nat) : bit (withFlag v b) k = (bit v k || decide (k = b)) := by
  by_cases hk : k = b
  · subst hk
    unfold withFlag
    split
    · next h => simp [h]
    · next h => simp [bit_add _ _ (eq_false_of_ne_true h)]
  · unfold withFlag
    split
    · simp [hk]
    · next h => simp [bit_add_other (eq_false_of_ne_true h) hk, hk]

theorem bit_withFlag_same (v b : Nat) : bit (withFlag v b) b = true := by
  simp

/-- A flag of a job whose registers no arm has taken over goes to STICKY. -/
theorem stick_eq {q : Nat} {s : State} (b : Nat) (h : (oxq s q).prev = none) :
    stick q b s = setQ q { oxq s q with sticky := withFlag (oxq s q).sticky b } s := by
  rw [stick, onQ_eq_setQ]
  generalize oxq s q = x at h
  cases x
  cases h
  rfl

theorem stick_setQ {q : Nat} {s : State} {y : OxQueue} (b : Nat) (hq : q < s.ox.q.length) (h : y.prev = none) :
    stick q b (setQ q y s) = setQ q { y with sticky := withFlag y.sticky b } s := by
  have hy := oxq_setQ_same y hq
  rw [stick_eq b (by rw [hy, h]), hy, setQ_setQ]

/-- The marks of the lanes: flags 0 to 3, the saturations (R246). -/
def LaneMarks (l : Marks) : Prop := ∀ m ∈ l, m.1 < 4

/-- What marks leave: a queue that differs in STICKY and in its first saturation, no flag from 4 on among them. -/
theorem marks_setQ {q : Nat} {s : State} (prog : Nat) {l : Marks} (hl : LaneMarks l) (hq : q < s.ox.q.length) {y : OxQueue}
    (h : y.prev = none) : ∃ v c p, marks q prog l (setQ q y s) = setQ q { y with sticky := v, satCol := c, satProg := p } s ∧
      ∀ b, 4 ≤ b → bit v b = bit y.sticky b := by
  induction l generalizing y with
  | nil => exact ⟨_, _, _, rfl, fun _ _ => rfl⟩
  | cons m l ih =>
    obtain ⟨c, p, hm⟩ : ∃ c p, mark q prog m (setQ q y s) =
        setQ q { y with sticky := withFlag y.sticky m.1, satCol := c, satProg := p } s := by
      rw [mark, onQ_setQ _ _ hq]
      cases hc : y.satCol with
      | none => exact ⟨_, _, stick_setQ _ hq h⟩
      | some a => exact ⟨_, _, stick_setQ _ hq h⟩
    obtain ⟨v, c', p', hrest, hbits⟩ := ih (fun a ha => hl a (List.mem_cons_of_mem m ha))
      (y := { y with sticky := withFlag y.sticky m.1, satCol := c, satProg := p }) h
    refine ⟨v, c', p', ?_, fun b hb => ?_⟩
    · rw [← hrest, ← hm]
      rfl
    · have := hl m List.mem_cons_self
      rw [hbits b hb, bit_withFlag, decide_eq_false (by omega), Bool.or_false]

/-! ### The marks of the programs (R232 to R237) -/

theorem laneMarks_nil : LaneMarks [] := fun _ h => nomatch h

theorem LaneMarks.append {a b : Marks} (ha : LaneMarks a) (hb : LaneMarks b) : LaneMarks (a ++ b) :=
  fun m h => (List.mem_append.mp h).elim (ha m) (hb m)

theorem laneMarks_ite {b col : Nat} (f : Bool) (hb : b < 4) : LaneMarks (if f then [(b, col)] else []) := by
  intro m hm
  split at hm
  · rw [List.mem_singleton.mp hm]
    exact hb
  · exact nomatch hm

theorem laneMarks_flatMap {α : Type} {l : List α} {f : α → Marks} (h : ∀ a ∈ l, LaneMarks (f a)) :
    LaneMarks (l.flatMap f) := by
  intro m hm
  obtain ⟨a, ha, hma⟩ := List.mem_flatMap.mp hm
  exact h a ha m hma

theorem laneMarks_lane {b : Nat} (col : Nat) (e : Int) (l : List Product) (hb : b < 4) :
    LaneMarks (lane b col e l).2 := (laneMarks_ite (b := 1) _ (by decide)).append (laneMarks_ite _ hb)

theorem laneMarks_vecOf {k : Nat} {f : Nat → Int × Marks} (h : ∀ c, LaneMarks (f c).2) : LaneMarks (vecOf k f).2 := by
  refine laneMarks_flatMap fun x hx => ?_
  obtain ⟨c, -, rfl⟩ := List.mem_map.mp hx
  exact h c

theorem laneMarks_of_lane {b col : Nat} {l : List Product} {e m : Int} {mk : Marks} (h : lane b col e l = (m, mk))
    (hb : b < 4) : LaneMarks mk := by
  have hmk := laneMarks_lane col e l hb
  rwa [h] at hmk

theorem laneMarks_remaining (f : Frame) (mat : List Int) (done : List Elim) (r c : Nat) (ed : Int) :
    LaneMarks (remaining f mat done r c ed).2 := by
  unfold remaining
  exact laneMarks_lane c ed _ (by decide)

theorem laneMarks_elimColumn (f : Frame) (mat : List Int) (tau delta : Nat) (done : List Elim) (c : Nat) (el ed : Int)
    (later : List Nat) : LaneMarks (elimColumn f mat tau delta done c el ed later).2 := by
  have hpivot := laneMarks_remaining f mat done c c ed
  unfold elimColumn
  generalize remaining f mat done c c ed = pivot at hpivot
  dsimp only
  refine hpivot.append (laneMarks_flatMap fun x hx => ?_)
  rcases List.mem_append.mp hx with hw | hl
  · obtain ⟨r, -, rfl⟩ := List.mem_map.mp hw
    exact laneMarks_remaining f mat done r c ed
  · obtain ⟨w, -, rfl⟩ := List.mem_map.mp hl
    exact laneMarks_lane c el _ (by decide)

theorem laneMarks_eliminate (f : Frame) (mat : List Int) (tau delta : Nat) (l : List (Nat × Int × Int)) {a : List Elim × Marks}
    (h : LaneMarks a.2) : LaneMarks (eliminate f mat tau delta l a).2 := by
  induction l generalizing a with
  | nil => exact h
  | cons x l ih =>
    have hcol := laneMarks_elimColumn f mat tau delta a.1 x.1 x.2.1 x.2.2 (l.map (·.1))
    rw [eliminate]
    generalize elimColumn f mat tau delta a.1 x.1 x.2.1 x.2.2 (l.map (·.1)) = col at hcol
    exact ih (h.append hcol)

theorem laneMarks_factorise (f : Frame) (mat : List Int) (tau delta : Nat) : LaneMarks (factorise f mat tau delta).2 :=
  laneMarks_eliminate f mat tau delta f.order laneMarks_nil

theorem laneMarks_forward (f : Frame) (b : Nat → Product) (l : List FacCol) (d : List (FacCol × Int)) {mk : Marks}
    (h : LaneMarks mk) : LaneMarks (forward f b l d mk).2 := by
  induction l generalizing d mk with
  | nil => exact h
  | cons k l ih =>
    rw [forward]
    split
    next y m hm => exact ih _ (h.append (laneMarks_of_lane hm (by decide)))

theorem laneMarks_backward (f : Frame) (l : List (FacCol × Int)) (x : List (Nat × Int)) {mk : Marks} (h : LaneMarks mk) :
    LaneMarks (backward f l x mk).2 := by
  induction l generalizing x mk with
  | nil => exact h
  | cons k l ih =>
    rw [backward]
    split
    next v m hm => exact ih _ (h.append (laneMarks_of_lane hm (by decide)))

theorem laneMarks_solveFactor (f : Frame) (fac : List FacCol) (b : Nat → Product) : LaneMarks (solveFactor f fac b).2 := by
  have hforward := laneMarks_forward f b fac [] laneMarks_nil
  unfold solveFactor
  generalize forward f b fac [] [] = y at hforward
  refine laneMarks_backward f _ _ (hforward.append (laneMarks_flatMap fun x hx => ?_))
  obtain ⟨p, -, rfl⟩ := List.mem_map.mp (List.mem_reverse.mp hx)
  exact laneMarks_lane p.1.col _ _ (by decide)

theorem laneMarks_residualOf (f : Frame) (mat b x : List Int) : LaneMarks (residualOf f mat b x).2 :=
  laneMarks_vecOf fun _ => laneMarks_ite (b := 1) _ (by decide)

/-! ### What the result unit leaves (R226, R261, R300) -/

/-- Ox beside the mailboxes. -/
abbrev solverSide (s : State) : OxSt × List Bytes × List Nat × BitVec 8 × BitVec 8 :=
  (s.ox, s.host.mbox, s.host.waiting, s.host.owner, s.host.done)

theorem solverSide_ite (c : Prop) [Decidable c] (a b : State) :
    solverSide (if c then a else b) = if c then solverSide a else solverSide b := apply_ite solverSide c a b

theorem solverSide_raise (c k p q r : Nat) (s : State) : solverSide (raise c k p q r s) = solverSide s := by simp

theorem solverSide_publishConverged (r : JobResult) (s : State) : solverSide (publishConverged r s) = solverSide s := by
  simp only [publishConverged, dspEvent, solverSide_ite, solverSide_raise]
  exact ite_self _

theorem solverSide_dispatchJobEnd (n : Nat) (s : State) : solverSide (dispatchJobEnd n s) = solverSide s := by
  unfold dispatchJobEnd
  split
  · rfl
  · split
    · rw [solverSide_ite, solverSide_publishConverged]
      exact ite_self _
    all_goals rfl

theorem solverSide_newtonCause (n : Nat) (s : State) : solverSide (newtonCause n s) = solverSide s := by
  unfold newtonCause
  split <;> rfl

theorem solverSide_bulkNew (o : Bulk) (s : State) : solverSide (bulkNew o s) = solverSide s := by
  unfold bulkNew
  split <;> rfl

/-- The result unit changes neither Ox nor a mailbox. -/
theorem solverSide_oxHear (s : State) : solverSide (oxHear s) = solverSide s := by
  have hnewton : solverSide (if s.est.phase = 2 ∧ s.est.job = (oxq s 0).job ∧ (oxq s 0).state = 0 then newtonCause (oxq s 0).outcome s
      else s) = solverSide s := by
    rw [solverSide_ite, solverSide_newtonCause, ite_self]
  rw [← hnewton]
  unfold oxHear
  dsimp only
  repeat' split
  all_goals simp only [solverSide_bulkNew, solverSide_dispatchJobEnd]

theorem oxHear_ox (s : State) : (oxHear s).ox = s.ox := congrArg Prod.fst (solverSide_oxHear s)

end Sys2Proof.Machine
end

section
/-! SUPPORT. The program calls of a job and the block that carries one: factorisation, solve and residual, and the boundary after which
the job goes on (R223, R226, R234 to R237, R240). -/

namespace Sys2Proof.Machine

/-! ### A job that goes on after a block (R23, R223, R226) -/

/-- The job of queue `q` runs in time, no error has met it, and no estimation job waits to suspend it. -/
structure GoesOn (s : State) (q : Nat) : Prop where
  queue : q < s.ox.q.length
  runs : jobRuns s q = true
  state : (oxq s q).state = 2
  own : (oxq s q).prev = none
  inTime : jobLate s q = false
  sound : ∀ b, b = 8 ∨ b = 9 ∨ b = 10 → bit (oxq s q).sticky b = false
  alone : q = 1 → (oxq s 0).state ≠ 1

/-- What a program call leaves of its job: it runs on for the same arm, and has the errors it had. -/
structure CallKeeps (x y : OxQueue) : Prop where
  state : y.state = x.state
  prev : y.prev = x.prev
  late : y.late = x.late
  arm : y.arm = x.arm
  block : y.block = x.block
  errors : ∀ b, 8 ≤ b → bit y.sticky b = bit x.sticky b

/-- A boundary at which nothing stops, ends or suspends the job. -/
theorem blockBoundary_of {q : Nat} {w u : State} (hu : onQ q (fun x => { x with block := x.block + 1 }) w = u)
    (hstate : (oxq u q).state = 2) (hlate : jobLate u q = false)
    (hsound : ∀ b, b = 8 ∨ b = 9 ∨ b = 10 → bit (jobSticky (oxq u q)) b = false) (halone : q = 1 → (oxq u 0).state ≠ 1) :
    blockBoundary q w = u := by
  have hwait : ¬(q = 1 ∧ (oxq u 0).state = 1) := fun h => halone h.1 h.2
  simp [blockBoundary, hu, hstate, hlate, hsound 8 (by decide), hsound 9 (by decide), hsound 10 (by decide), hwait]

/-- The boundary counts the block, and the job goes on. -/
theorem blockBoundary_goesOn {q : Nat} {s w : State} {y : OxQueue} (hj : GoesOn s q) (hk : CallKeeps (oxq s q) y)
    (hw : w.ox.q = (setQ q y s).ox.q) (ht : w.time = s.time) : blockBoundary q w = setQ q { y with block := y.block + 1 } w := by
  have hlen : q < w.ox.q.length := by rw [hw, length_setQ]; exact hj.queue
  have hy : oxq w q = y := (oxq_congr hw q).trans (oxq_setQ_same y hj.queue)
  have hq := oxq_setQ_same { y with block := y.block + 1 } hlen
  refine blockBoundary_of (by rw [onQ_eq_setQ, hy]) ?state ?late (fun b hb => ?sound) (fun h1 => ?alone)
  case state =>
    rw [hq]
    exact hk.state.trans hj.state
  case late =>
    rw [← hj.inTime]
    exact jobLate_congr (by rw [hq]; exact hk.late) (by rw [hq]; exact hk.arm) ht
  case sound =>
    rw [hq, jobSticky, hk.prev, hj.own]
    exact (hk.errors b (by omega)).trans (hj.sound b hb)
  case alone =>
    subst h1
    rw [oxq_setQ_other _ _ (by decide), oxq_congr hw, oxq_setQ_other _ _ (by decide)]
    exact hj.alone rfl

theorem boundaryRelock_ox (s : State) : (boundaryRelock s).ox = s.ox := by
  unfold boundaryRelock
  split <;> rfl

theorem exec_oxBlockEnd (q n : Nat) (h : BlockHead) (s : State) :
    exec (.oxBlockEnd q h n) s = .next (oxHear (oxBlockEnd q h n s)) := rfl

/-- A valid block that carried one program call: the call's effect, with the block counted. -/
theorem exec_oxBlockEnd_call {q : Nat} {h : BlockHead} {s : State} {y : OxQueue} (hj : GoesOn s q) (hok : blockOk s h = true)
    (hstage : (oxq s q).stage ≠ .over) (hk : CallKeeps (oxq s q) y) (hcall : (jobCall q s).ox.q = (setQ q y s).ox.q)
    (ht : (jobCall q s).time = s.time) : ∃ t, exec (.oxBlockEnd q h 1) s = .next t ∧
      oxq t q = { y with dramNs := y.dramNs + h.dramNs, block := y.block + 1 } ∧ (∀ p, p ≠ q → oxq t p = oxq s p) ∧
      t.ox.factor = (jobCall q s).ox.factor := by
  have hlen : q < (jobCall q s).ox.q.length := by rw [hcall, length_setQ]; exact hj.queue
  have hy : oxq (jobCall q s) q = y := (oxq_congr hcall q).trans (oxq_setQ_same y hj.queue)
  have hcalls : jobCalls q 1 s = jobCall q s := if_neg hstage
  have hdram : onQ q (fun x => { x with dramNs := x.dramNs + h.dramNs }) (jobCall q s) =
      setQ q { y with dramNs := y.dramNs + h.dramNs } (jobCall q s) := by
    rw [onQ_eq_setQ, hy]
  have hqueues : (setQ q { y with dramNs := y.dramNs + h.dramNs } (jobCall q s)).ox.q =
      (setQ q { y with dramNs := y.dramNs + h.dramNs } s).ox.q := by
    rw [← setQ_setQ q _ y s]
    exact congrArg (fun l => modNth l q fun _ => { y with dramNs := y.dramNs + h.dramNs }) hcall
  have hkeeps : CallKeeps (oxq s q) { y with dramNs := y.dramNs + h.dramNs } := ⟨hk.1, hk.2, hk.3, hk.4, hk.5, hk.6⟩
  have hbound := blockBoundary_goesOn hj hkeeps hqueues ht
  have hox : (oxHear (oxBlockEnd q h 1 s)).ox =
      (setQ q { y with dramNs := y.dramNs + h.dramNs, block := y.block + 1 } (jobCall q s)).ox := by
    simp only [oxHear_ox, oxBlockEnd, hj.runs, Bool.not_true, hok, if_true, hcalls, hdram, hbound, boundaryRelock_ox, setQ_setQ,
      Bool.false_eq_true, if_false]
  refine ⟨_, exec_oxBlockEnd .., ?_, fun p hp => ?_, by rw [hox]; rfl⟩
  · rw [oxq_congr (congrArg OxSt.q hox), oxq_setQ_same _ hlen]
  · rw [oxq_congr (congrArg OxSt.q hox), oxq_setQ_other _ _ hp, oxq_congr hcall, oxq_setQ_other _ _ hp]

/-! ### EST_FACT and KKT_FACT (R234, R235, R240) -/

/-- The queue after its factor's replaced pivots have been counted, and flagged where there are some or too many (R234). -/
def pivotsIn (fac : List FacCol) (y : OxQueue) : OxQueue :=
  let cols := (fac.filter (fun k => k.bad)).map (·.col)
  let flagged := if cols.length = 0 then y.sticky else withFlag y.sticky 4
  { y with
    pivCur := cols.length, pivCnt := max y.pivCnt cols.length
    pivFirst := match y.pivFirst with | some c => some c | none => cols.head?
    sticky := if y.pivLimit < cols.length then withFlag flagged 5 else flagged }

theorem stickIf_setQ {q : Nat} {s : State} {y : OxQueue} (c : Prop) [Decidable c] (b : Nat) (hq : q < s.ox.q.length)
    (h : y.prev = none) : (if c then stick q b (setQ q y s) else setQ q y s) =
      setQ q { y with sticky := if c then withFlag y.sticky b else y.sticky } s := by
  split
  · exact stick_setQ b hq h
  · rfl

theorem stickUnless_setQ {q : Nat} {s : State} {y : OxQueue} (c : Prop) [Decidable c] (b : Nat) (hq : q < s.ox.q.length)
    (h : y.prev = none) : (if c then setQ q y s else stick q b (setQ q y s)) =
      setQ q { y with sticky := if c then y.sticky else withFlag y.sticky b } s := by
  split
  · rfl
  · exact stick_setQ b hq h

theorem pivotCount_setQ {q : Nat} {s : State} {y : OxQueue} (fac : List FacCol) (hq : q < s.ox.q.length) (h : y.prev = none) :
    pivotCount q fac (setQ q y s) = setQ q (pivotsIn fac y) s := by
  unfold pivotCount pivotsIn
  dsimp only
  rw [onQ_setQ _ _ hq, stickUnless_setQ _ 4 hq (by exact h), oxq_setQ_same _ hq]
  exact stickIf_setQ _ 5 hq h

/-- The queue that holds a new factor, with which the right-hand side is solved next. -/
def withFactor (fac : List FacCol) (x : OxQueue) : OxQueue :=
  { x with mem := { x.mem with fac := fac }, nFact := x.nFact + 1, refact := true, fresh := true, stage := .solve }

/-- A factor is held, and its replaced pivots are counted and flagged (R234, R235). -/
structure Factorised (fac : List FacCol) (x y : OxQueue) : Prop where
  keeps : CallKeeps x y
  mem : y.mem = { x.mem with fac := fac }
  stage : y.stage = .solve
  nFact : y.nFact = x.nFact + 1
  pivCur : y.pivCur = (fac.filter (fun k => k.bad)).length
  overLimit : x.pivLimit < y.pivCur → bit y.sticky 5 = true
  replaced : 0 < y.pivCur → bit y.sticky 4 = true

theorem factorised_pivotsIn {fac : List FacCol} {x : OxQueue} {v : Nat} (c : Option Nat) (p : Nat)
    (hv : ∀ b, 4 ≤ b → bit v b = bit x.sticky b) :
    Factorised fac x (pivotsIn fac { withFactor fac x with sticky := v, satCol := c, satProg := p }) := by
  refine ⟨⟨rfl, rfl, rfl, rfl, rfl, fun b hb => ?_⟩, rfl, rfl, rfl, List.length_map _, fun h => ?_, fun h => ?_⟩
  · have h4 : b ≠ 4 := by omega
    have h5 : b ≠ 5 := by omega
    rw [← hv b (by omega)]
    unfold pivotsIn
    dsimp only
    split <;> split <;> simp [h4, h5]
  · unfold pivotsIn at h ⊢
    dsimp only at h ⊢
    rw [if_pos (by exact h)]
    simp
  · unfold pivotsIn at h ⊢
    dsimp only at h ⊢
    rw [if_neg h.ne']
    split <;> simp

/-- What OX_FACTOR_STATE shows of a finished factor (R228, R240, R241). -/
def factorState (y : OxQueue) : Nat := if y.facBad || y.oldModel then 0 else if isDegraded y then 2 else 1

/-- A factorisation ends: the factor's state is that of its queue. -/
def closeFactor (q : Nat) (s : State) : State := setFactor q (factorState (oxq s q)) (oxq s q).pivCur s

theorem factEnd_eq_closeFactor {q : Nat} {s : State} {F : List FacCol × Marks}
    (hF : F = factorise (oxFrame s q) (oxq s q).mem.mat (oxq s q).tau (oxq s q).delta) :
    factEnd q s = closeFactor q (pivotCount q F.1 (marks q (if q = 0 then 2 else 6) F.2 (onQ q (withFactor F.1) s))) := by
  subst hF
  rfl

theorem factEnd_eq {q : Nat} {s : State} {F : List FacCol × Marks} (hq : q < s.ox.q.length) (hprev : (oxq s q).prev = none)
    (hF : F = factorise (oxFrame s q) (oxq s q).mem.mat (oxq s q).tau (oxq s q).delta) :
    ∃ y, Factorised F.1 (oxq s q) y ∧ y.facBad = (oxq s q).facBad ∧ y.oldModel = (oxq s q).oldModel ∧
      factEnd q s = setFactor q (factorState y) y.pivCur (setQ q y s) := by
  have hlanes : LaneMarks F.2 := hF ▸ laneMarks_factorise _ _ _ _
  obtain ⟨v, c, p, hmarks, hbits⟩ := marks_setQ (if q = 0 then 2 else 6) hlanes hq (y := withFactor F.1 (oxq s q)) hprev
  refine ⟨_, factorised_pivotsIn c p hbits, rfl, rfl, ?_⟩
  rw [factEnd_eq_closeFactor hF, onQ_eq_setQ, hmarks, pivotCount_setQ _ hq (by exact hprev), closeFactor, oxq_setQ_same _ hq]

theorem jobCall_fact {s : State} (h : (oxq s 0).stage = .fact) {y : OxQueue} (hq : 0 < s.ox.q.length)
    (hend : (factEnd 0 s).ox.q = (setQ 0 y s).ox.q) (hstage : y.stage = .solve) : jobCall 0 s = factEnd 0 s := by
  have hy : (oxq (factEnd 0 s) 0).stage = .solve := by rw [oxq_congr hend, oxq_setQ_same _ hq, hstage]
  simp [jobCall, h, storeWrite, hy]

/-! ### KKT_SOLVE of a bench job that is not refined (R236, R237, R248) -/

/-- The queue that holds a solution of a solve that is not refined. -/
def withSolution (sol : List Int) (x : OxQueue) : OxQueue :=
  { x with mem := { x.mem with sol := sol }, nSolve := x.nSolve + 1, stage := .solved, fresh := false }

theorem solveEnd_eq {q : Nat} {s : State} {F : List Int × Marks} (hq : q < s.ox.q.length) (hprev : (oxq s q).prev = none)
    (hfresh : (oxq s q).fresh = false)
    (hF : F = solveFactor (oxFrame s q) (oxq s q).mem.fac (rhsOps (oxFrame s q) (oxq s q).mem.rhs)) :
    ∃ v c p, (∀ b, 4 ≤ b → bit v b = bit (oxq s q).sticky b) ∧
      solveEnd q s = setQ q { withSolution F.1 (oxq s q) with sticky := v, satCol := c, satProg := p } s := by
  have hlanes : LaneMarks F.2 := hF ▸ laneMarks_solveFactor _ _ _
  obtain ⟨v, c, p, hmarks, hbits⟩ := marks_setQ (if q = 0 then 3 else 7) hlanes hq (y := withSolution F.1 (oxq s q)) hprev
  refine ⟨v, c, p, hbits, hmarks ▸ ?_⟩
  unfold solveEnd
  dsimp only
  rw [← hF]
  simp only [onQ_eq_setQ, hfresh, Bool.false_and, Bool.false_eq_true, if_false]
  rfl

/-- The solve of a bench job is its last call (R248). -/
theorem jobCall_benchSolve {s : State} {F : List Int × Marks} (hq : 1 < s.ox.q.length) (hprev : (oxq s 1).prev = none)
    (hfresh : (oxq s 1).fresh = false) (hstage : (oxq s 1).stage = .solve) (hbench : (oxq s 1).arm.bench = true)
    (hstore : s.ox.storeBad = false)
    (hF : F = solveFactor (oxFrame s 1) (oxq s 1).mem.fac (rhsOps (oxFrame s 1) (oxq s 1).mem.rhs)) :
    ∃ y, CallKeeps (oxq s 1) y ∧ y.mem = { (oxq s 1).mem with sol := F.1 } ∧ y.nSolve = (oxq s 1).nSolve + 1 ∧ y.stage = .over ∧
      jobCall 1 s = setQ 1 y s := by
  obtain ⟨v, c, p, hbits, hend⟩ := solveEnd_eq hq hprev hfresh hF
  have hread : storeRead 1 s = s := if_neg (by simp [hstore])
  have harm : (withSolution F.1 (oxq s 1)).arm.bench = true := hbench
  have hsolved : (withSolution F.1 (oxq s 1)).stage = .solved := rfl
  refine ⟨{ withSolution F.1 (oxq s 1) with sticky := v, satCol := c, satProg := p, stage := .over },
    ⟨rfl, rfl, rfl, rfl, rfl, fun b hb => hbits b (by omega)⟩, rfl, rfl, rfl, ?_⟩
  simp [jobCall, hstage, hread, hend, oxq_setQ_same _ hq, hsolved, jobSolved, harm, onQ_setQ _ _ hq]

/-! ### EST_SPMV whose residual asks for a correction (R237) -/

/-- The queue that holds the accumulators of a residual, and its norm. -/
def withResidual (f : Frame) (acc : List Int) (x : OxQueue) : OxQueue :=
  { x with mem := { x.mem with resid := acc }, resNow := [residualNorm f acc] }

theorem residEnd_eq {q : Nat} {s : State} {F : List Int × Marks} (hq : q < s.ox.q.length) (hprev : (oxq s q).prev = none)
    (hF : F = residualOf (oxFrame s q) (oxq s q).mem.mat (oxq s q).mem.rhs (oxq s q).mem.sol)
    (htol : refTol (oxq s q) < residualNorm (oxFrame s q) F.1) (hsteps : (oxq s q).refDone < (oxq s q).refSteps) :
    ∃ v c p, (∀ b, 4 ≤ b → bit v b = bit (oxq s q).sticky b) ∧ residEnd q s =
      setQ q { withResidual (oxFrame s q) F.1 (oxq s q) with stage := .corr, sticky := v, satCol := c, satProg := p } s := by
  have hlanes : LaneMarks F.2 := hF ▸ laneMarks_residualOf _ _ _ _
  obtain ⟨v, c, p, hmarks, hbits⟩ :=
    marks_setQ (if q = 0 then 4 else 8) hlanes hq (y := withResidual (oxFrame s q) F.1 (oxq s q)) hprev
  have hend : residEnd q s = refineNext q (marks q (if q = 0 then 4 else 8) F.2
      (onQ q (withResidual (oxFrame s q) F.1) s)) := by
    subst hF
    rfl
  refine ⟨v, c, p, hbits, ?_⟩
  rw [hend, onQ_eq_setQ, hmarks]
  unfold refineNext
  rw [oxq_setQ_same _ hq]
  exact (if_pos ⟨htol, hsteps⟩).trans (onQ_setQ _ _ hq)

/-- A residual above the tolerance: a correction is the next call (R237). -/
theorem jobCall_resid {s : State} {F : List Int × Marks} (hq : 0 < s.ox.q.length) (hprev : (oxq s 0).prev = none)
    (hstage : (oxq s 0).stage = .resid)
    (hF : F = residualOf (oxFrame s 0) (oxq s 0).mem.mat (oxq s 0).mem.rhs (oxq s 0).mem.sol)
    (htol : refTol (oxq s 0) < residualNorm (oxFrame s 0) F.1) (hsteps : (oxq s 0).refDone < (oxq s 0).refSteps) :
    ∃ y, CallKeeps (oxq s 0) y ∧ y.mem = { (oxq s 0).mem with resid := F.1 } ∧ y.resNow = [residualNorm (oxFrame s 0) F.1] ∧
      y.stage = .corr ∧ jobCall 0 s = setQ 0 y s := by
  obtain ⟨v, c, p, hbits, hend⟩ := residEnd_eq hq hprev hF htol hsteps
  refine ⟨{ withResidual (oxFrame s 0) F.1 (oxq s 0) with stage := .corr, sticky := v, satCol := c, satProg := p },
    ⟨rfl, rfl, rfl, rfl, rfl, fun b hb => hbits b (by omega)⟩, rfl, rfl, rfl, ?_⟩
  simp [jobCall, hstage, hend, oxq_setQ_same _ hq]

end Sys2Proof.Machine
end

section
/-! SUPPORT. Errors and the reload of the schedule set, the arm of a bench job, and the end of an abort (R224, R225, R227, R240, R241,
R248). -/

namespace Sys2Proof.Machine

/-! ### An uncorrectable error (R241) -/

/-- An uncorrectable error is counted. -/
def eccCount (s : State) : State := onOx (fun o => { o with eccUncorr := min 65535 (o.eccUncorr + 1) }) s

/-- What an uncorrectable error of a kind leaves, before its event: counted, flagged, the factor INVALID or the schedule set reloading. -/
def eccMet (q k : Nat) (s : State) : State :=
  onOx (fun o => { o with
      factor := if k = 1 then o.factor.set q 0 else o.factor
      factorPiv := if k = 1 then o.factorPiv.set q 0 else o.factorPiv
      reloading := if k = 2 then true else o.reloading })
    (setQ q { oxq s q with
      sticky := withFlag (oxq s q).sticky (if k = 2 then 9 else 8)
      facBad := if k = 1 then true else (oxq s q).facBad } (eccCount s))

/-- The event of an error carries the job's STICKY and JOB. -/
def eccEvent (q : Nat) (s : State) : State := raise 0x0713 35 q (jobSticky (oxq s q)) (jobNo (oxq s q)) s

theorem oxDataEcc_eq {q : Nat} (k : Nat) {s : State} (hq : q < s.ox.q.length) (hprev : (oxq s q).prev = none) :
    oxDataEcc q k s = eccEvent q (eccMet q k s) := by
  have hstick (b : Nat) : stick q b (eccCount s) = setQ q { oxq s q with sticky := withFlag (oxq s q).sticky b } (eccCount s) :=
    stick_eq b hprev
  by_cases h1 : k = 1
  · subst h1
    show eccEvent q (setFactor q 0 0 (onQ q (fun x => { x with facBad := true }) (stick q 8 (eccCount s)))) = _
    rw [hstick, onQ_setQ (s := eccCount s) _ _ hq]
    rfl
  · by_cases h2 : k = 2
    · subst h2
      show eccEvent q (onOx (fun o => { o with reloading := true }) (stick q 9 (eccCount s))) = _
      rw [hstick]
      rfl
    · have hmet : eccMet q k s = stick q 8 (eccCount s) := by
        rw [hstick]
        simp only [eccMet, if_neg h1, if_neg h2]
        rfl
      unfold oxDataEcc
      dsimp only
      rw [hmet, if_neg h1, if_neg h2, if_neg h2]
      rfl

theorem eccEvent_ox (q : Nat) (s : State) : (eccEvent q s).ox = s.ox := raise_ox ..

theorem oxq_eccMet_same {q : Nat} (k : Nat) {s : State} (hq : q < s.ox.q.length) : oxq (eccMet q k s) q = { oxq s q with
    sticky := withFlag (oxq s q).sticky (if k = 2 then 9 else 8)
    facBad := if k = 1 then true else (oxq s q).facBad } := oxq_setQ_same _ hq

theorem oxq_eccMet_other {p q : Nat} (k : Nat) (s : State) (h : p ≠ q) : oxq (eccMet q k s) p = oxq s p := oxq_setQ_other _ _ h

/-- The event of an error that meets a job whose registers no arm has taken over. -/
theorem eccEvent_recorder {q : Nat} (k : Nat) {s : State} (hq : q < s.ox.q.length) (hprev : (oxq s q).prev = none) :
    (eccEvent q (eccMet q k s)).recorder =
      (raise 0x0713 35 q (withFlag (oxq s q).sticky (if k = 2 then 9 else 8)) (oxq s q).job s).recorder := by
  rw [eccEvent, oxq_eccMet_same k hq, jobSticky, jobNo, hprev]
  exact raise_recorder_congr (s := s) (t := eccMet q k s) rfl rfl rfl _ _ _ _ _

/-! ### Waiting jobs are started (R224) -/

theorem oxRun_eq_setQ (q : Nat) (s : State) : oxRun q s =
    setQ q { oxq s q with state := 2, startOnt := s.time.ont, ptStart := s.power.oppOx, ptEnd := s.power.oppOx } s := onQ_eq_setQ ..

theorem oxKick_estimation {s : State} (hrun : oxCanRun s = true) (h0 : (oxq s 0).state = 1) (h1 : (oxq s 1).state = 0) :
    oxKick s = oxRun 0 s := by
  simp [oxKick, hrun, h0, h1]

theorem oxKick_dispatch {s : State} (hrun : oxCanRun s = true) (h0 : (oxq s 0).state = 0) (h1 : (oxq s 1).state = 1) :
    oxKick s = oxRun 1 s := by
  simp [oxKick, hrun, h0, h1]

/-- An idle queue 1 stays as it is. -/
theorem oxq_oxKick_idle {s : State} (h : (oxq s 1).state = 0) : oxq (oxKick s) 1 = oxq s 1 := by
  unfold oxKick
  split
  · rfl
  · split
    · rw [oxRun_eq_setQ, oxq_setQ_other _ _ (by decide)]
    · simp [h]

theorem oxKick_host (s : State) : (oxKick s).host = s.host := by
  unfold oxKick
  repeat' split
  all_goals rfl

theorem oxCanRun_iff (s : State) : oxCanRun s = true ↔ (isl s 8 = .on ∧ pllLock s 1 = true) ∧
    s.power.islDown.contains 8 = false ∧ s.ox.reloading = false ∧ s.power.oxRelockDue = false := by
  simp only [oxCanRun, oxClock, Bool.and_eq_true, beq_iff_eq, Bool.not_eq_true', and_assoc]

theorem oxNeed_of_canRun {s : State} (h : oxCanRun s = true) : oxNeed s = s := by
  obtain ⟨⟨hon, -⟩, hdown, -, -⟩ := (oxCanRun_iff s).mp h
  unfold oxNeed
  rw [if_neg (by rw [hdown]; exact Bool.false_ne_true), if_pos (.inl hon)]

/-! ### An arm of an idle queue (R224, R225, R240) -/

/-- The registers of a queue whose arm is taken. -/
def armedQ (q : Nat) (a : ArmReq) (s : State) : OxQueue :=
  armRecord q a s.time.ont s { oxq s q with sticky := 0, job := wrapInc 32 (oxq s q).job, lateNext := false }

theorem oxArm_idle {q : Nat} {s : State} (a : ArmReq) (h : (oxq s q).state = 0) : oxArm q a s = some (armNow q a s) := if_pos h

theorem oxArm_busy {s : State} (a : ArmReq) (h : (oxq s 1).state ≠ 0)
    (hb : (oxq s 1).state ≠ 5 ∨ (oxq s 1).next.isSome = true) : oxArm 1 a s = none := by
  have habort : ¬((oxq s 1).state = 5 ∧ ¬((1 : Nat) = 1 ∧ (oxq s 1).next.isSome = true)) := fun ⟨h5, hn⟩ =>
    hb.elim (fun h => h h5) fun h => hn ⟨rfl, h⟩
  unfold oxArm
  dsimp only
  rw [if_neg h, if_neg habort, if_neg (by decide)]

theorem armRecord_armCount {q : Nat} {s : State} (a : ArmReq) (hq : q < s.ox.q.length) :
    onQ q (armRecord q a s.time.ont (armCount q s)) (armCount q s) = setQ q (armedQ q a s) s := by
  have hcount : armCount q s = setQ q { oxq s q with sticky := 0, job := wrapInc 32 (oxq s q).job, lateNext := false } s :=
    onQ_eq_setQ ..
  rw [hcount, onQ_setQ _ _ hq]
  rfl

theorem jobLate_armed {q : Nat} {s : State} {a : ArmReq} (hq : q < s.ox.q.length) (h : deadlineReached s a.deadline = false) :
    jobLate (setQ q (armedQ q a s) s) q = false := by
  rw [jobLate, oxq_setQ_same _ hq]
  exact h

/-- A job whose factor can be used starts where Ox may run it. -/
theorem armNow_runs {s : State} {a : ArmReq} (hq : 1 < s.ox.q.length) (hd : deadlineReached s a.deadline = false)
    (hf : factorUnusable s 1 a = false) (hrun : oxCanRun s = true) (h0 : (oxq s 0).state = 0) : armNow 1 a s = setQ 1
      { armedQ 1 a s with state := 2, startOnt := s.time.ont, ptStart := s.power.oppOx, ptEnd := s.power.oppOx } s := by
  have hcan : oxCanRun (setQ 1 (armedQ 1 a s) s) = true := hrun
  have hf' : factorUnusable (setQ 1 (armedQ 1 a s) s) 1 a = false := hf
  have hwait : (oxq (setQ 1 (armedQ 1 a s) s) 1).state = 1 := by rw [oxq_setQ_same _ hq]; rfl
  have hfree : (oxq (setQ 1 (armedQ 1 a s) s) 0).state = 0 := by rw [oxq_setQ_other _ _ (by decide), h0]
  unfold armNow armStart
  dsimp only
  rw [armRecord_armCount a hq, jobLate_armed hq hd, hf', if_neg Bool.false_ne_true, if_neg Bool.false_ne_true,
    oxNeed_of_canRun hcan, oxKick_dispatch hcan hfree hwait, oxRun_eq_setQ, oxq_setQ_same _ hq, setQ_setQ]
  rfl

theorem onQ_queues {q : Nat} {s t : State} {y : OxQueue} (f : OxQueue → OxQueue) (hq : q < s.ox.q.length)
    (h : t.ox.q = (setQ q y s).ox.q) : (onQ q f t).ox.q = (setQ q (f y) s).ox.q := by
  rw [← onQ_setQ f y hq]
  exact congrArg (fun l => modNth l q f) h

theorem oxEndEvents_queues (q n : Nat) (x : OxQueue) (s : State) : (oxEndEvents q n x s).ox.q = s.ox.q := by
  simp only [oxEndEvents, apply_ite State.ox, apply_ite OxSt.q, raise_ox, onOx_ox, ite_self]

theorem oxEndEvents_boxes (q n : Nat) (x : OxQueue) (s : State) :
    ((oxEndEvents q n x s).host.mbox, (oxEndEvents q n x s).host.waiting) = (s.host.mbox, s.host.waiting) := by
  simp only [oxEndEvents, apply_ite State.host, apply_ite HostSt.mbox, apply_ite HostSt.waiting, raise_host_mbox,
    raise_host_waiting, onOx_host, ite_self]

/-- A publication of a diagnostic set changes its buffer alone of the queues (R247). -/
theorem diagPublish_queues {q : Nat} {s t : State} {y : OxQueue} (x : OxQueue) (hq : q < s.ox.q.length)
    (h : t.ox.q = (setQ q y s).ox.q) : ∃ d, (diagPublish q x t).ox.q = (setQ q { y with diag := d } s).ox.q :=
  ⟨_, onQ_queues _ hq h⟩

/-- A job that would solve on a factor that is not VALID ends at its arm, as DEGRADED (R240). -/
theorem armEnds_degraded {q : Nat} {s : State} {y : OxQueue} (hq : q < s.ox.q.length) (hprev : y.prev = none) :
    ∃ z, (armEnds q 1 (setQ q y s)).ox.q = (setQ q z s).ox.q ∧ z.state = 0 ∧ z.outcome = 1 ∧ z.sticky = withFlag y.sticky 10 := by
  have hended : onQ q (fun x => { x with state := 0, outcome := 1, endOnt := s.time.ont }) (stick q 10 (setQ q y s)) =
      setQ q { y with sticky := withFlag y.sticky 10, state := 0, outcome := 1, endOnt := s.time.ont } s := by
    rw [stick_setQ 10 hq hprev, onQ_setQ _ _ hq]
  obtain ⟨d, hd⟩ := diagPublish_queues { y with sticky := withFlag y.sticky 10, state := 0, outcome := 1, endOnt := s.time.ont } hq
    (onQ_queues (fun x => { x with hadPert := false }) hq (oxEndEvents_queues q 1
      { y with sticky := withFlag y.sticky 10, state := 0, outcome := 1, endOnt := s.time.ont }
      (setQ q { y with sticky := withFlag y.sticky 10, state := 0, outcome := 1, endOnt := s.time.ont } s)))
  refine ⟨_, Eq.trans ?_ hd, rfl, rfl, rfl⟩
  unfold armEnds
  dsimp only
  rw [if_pos rfl, show (stick q 10 (setQ q y s)).time = s.time from rfl, hended, oxq_setQ_same _ hq]

theorem armNow_unusable {q : Nat} {s : State} {a : ArmReq} (hq : q < s.ox.q.length) (hd : deadlineReached s a.deadline = false)
    (hf : factorUnusable s q a = true) : armNow q a s = armEnds q 1 (setQ q (armedQ q a s) s) := by
  have hf' : factorUnusable (setQ q (armedQ q a s) s) q a = true := hf
  unfold armNow armStart
  dsimp only
  rw [armRecord_armCount a hq, jobLate_armed hq hd, hf', if_neg Bool.false_ne_true, if_pos rfl]

/-- A deadline ahead of ONT, within what the difference of R225 holds, is not reached. -/
theorem deadlineReached_ahead (s : State) {d : Nat} (h0 : 0 < d) (hd : d < 2 ^ 47) : deadlineReached s (s.time.ont + d) = false := by
  have hdiff : (((s.time.ont + d) % 2 ^ 48 : Nat) - ((s.time.ont % 2 ^ 48 : Nat) : Int)) % (2 ^ 48 : Nat) = d := by omega
  have hwrap : signedDiff 48 ((s.time.ont + d) % 2 ^ 48) (s.time.ont % 2 ^ 48) = d := by
    rw [signedDiff, wrapS, toBits, hdiff, signExtend]
    simp only [Int.toNat_natCast]
    rw [Nat.mod_eq_of_lt (by omega), if_pos (by omega)]
  rw [deadlineReached, hwrap]
  exact decide_eq_false (by omega)

/-! ### OX_SOLVE_ARM (R248) -/

/-- The payload of OX_SOLVE_ARM: MODE and the deadline's offset in ms. -/
def solvePayload (a n : Nat) : Bytes := leBytes 1 a ++ zeros 3 ++ leBytes 4 n

theorem solvePayload_fields {a n : Nat} (ha : a < 256) (hn : n < 2 ^ 32) : (solvePayload a n).length = 8 ∧
    byteField (solvePayload a n) 0 1 = a ∧ byteField (solvePayload a n) 1 3 = 0 ∧ byteField (solvePayload a n) 4 4 = n := by
  unfold solvePayload
  refine ⟨by simp, ?_, ?_, ?_⟩
  · rw [List.append_assoc, byteField_front]
    omega
  · rw [List.append_assoc, byteField_skip _ _ _ _ (length_leBytes 1 a).le, length_leBytes]
    exact byteField_zeros 3 3 _ le_rfl
  · rw [byteField_skip _ _ _ _ (by simp)]
    rw [show 4 - (leBytes 1 a ++ zeros 3).length = 0 by simp, byteField_whole]
    omega

/-- What a bench arm writes. -/
def benchReq (a n : Nat) (s : State) : ArmReq :=
  { prog := 0x0A, iterLimit := 0, bench := true, deadline := s.time.ont + n * 1000000, refact := a == 0 }

theorem oxSolveArm_done {a n : Nat} {s t : State} (ha : a ≤ 1) (h1 : 1 ≤ n) (hn : n ≤ 60000) (hd : unitActive s 9 0 = false)
    (hm : s.model.image ≠ []) (harm : oxArm 1 (benchReq a n s) s = some t) : oxSolveArm (solvePayload a n) s = done t [] := by
  obtain ⟨hlen, hmode, hrsv, hoff⟩ := solvePayload_fields (a := a) (n := n) (by omega) (by omega)
  have hrange : ¬(1 < a ∨ n = 0 ∨ 60000 < n) := by omega
  unfold oxSolveArm
  rw [benchReq] at harm
  simp [hlen, hmode, hrsv, hoff, hd, modelHere, hm, hrange, harm]

theorem oxSolveArm_refused {a n : Nat} {s : State} (ha : a < 256) (hn : n < 2 ^ 32)
    (h : unitActive s 9 0 = true ∨ s.model.image = [] ∨ 1 < a ∨ n = 0 ∨ 60000 < n ∨
      ((oxq s 1).state ≠ 0 ∧ ((oxq s 1).state ≠ 5 ∨ (oxq s 1).next.isSome = true))) :
    oxSolveArm (solvePayload a n) s = refuse s (if unitActive s 9 0 then 0x0706 else if s.model.image = [] then 0x0711
      else if 1 < a ∨ n = 0 ∨ 60000 < n then 0x0705 else 0x0701) := by
  obtain ⟨hlen, hmode, hrsv, hoff⟩ := solvePayload_fields ha hn
  unfold oxSolveArm
  simp only [hlen, hmode, hrsv, hoff, modelHere, ne_eq, not_true, or_self, if_false]
  by_cases hd : unitActive s 9 0 = true
  · simp [hd]
  by_cases hm : s.model.image = []
  · simp [hd, hm]
  by_cases hr : 1 < a ∨ n = 0 ∨ 60000 < n
  · simp [hd, hm, hr]
  obtain ⟨hstate, hwaits⟩ : (oxq s 1).state ≠ 0 ∧ ((oxq s 1).state ≠ 5 ∨ (oxq s 1).next.isSome = true) := by tauto
  simp [hd, hm, hr, oxArm_busy _ hstate hwaits]

/-! ### The state in which a command runs -/

theorem oxq_takenState (cmd : Nat) (m : Mail) (s : State) (q : Nat) : oxq (takenState cmd m s) q = oxq s q :=
  oxq_congr (congrArg OxSt.q (takenState_ox cmd m s)) q

theorem takenState_est (cmd : Nat) (m : Mail) (s : State) : (takenState cmd m s).est = s.est := by
  rw [takenState_frame]
  exact ring_est cmd m s

theorem takenState_dsp (cmd : Nat) (m : Mail) (s : State) : (takenState cmd m s).dsp = s.dsp := by
  rw [takenState_frame]
  exact ring_dsp cmd m s

theorem unitActive_takenState {cmd : Nat} {m : Mail} {s : State} (h : taken cmd m s = true) (a b : Nat) :
    unitActive (takenState cmd m s) a b = unitActive s a b := by
  simp only [unitActive, enabled, stopping, unitSt_of_setup (setup_takenState h)]

theorem latchWake_oxPower (n : Nat) (s : State) : isl (latchWake n s) 8 = isl s 8 ∧
    (latchWake n s).power.islDown = s.power.islDown ∧ (latchWake n s).power.oxRelockDue = s.power.oxRelockDue := by
  have hidle : isl (idleExit s) 8 = isl s 8 ∧ (idleExit s).power.islDown = s.power.islDown ∧
      (idleExit s).power.oxRelockDue = s.power.oxRelockDue := by
    unfold idleExit
    split
    · refine ⟨?_, rfl, rfl⟩
      simp [isl, setIsl, nth_eq]
    · exact ⟨rfl, rfl, rfl⟩
  have hwake (p : PowerSt) : (wakeAct p).isl = p.isl ∧ (wakeAct p).islDown = p.islDown ∧
      (wakeAct p).oxRelockDue = p.oxRelockDue := by
    unfold wakeAct
    repeat' split
    all_goals exact ⟨rfl, rfl, rfl⟩
  obtain ⟨h1, h2, h3⟩ := hidle
  rw [← h1, ← h2, ← h3]
  unfold latchWake
  generalize idleExit s = u
  dsimp only
  split
  · exact ⟨rfl, rfl, rfl⟩
  · split
    · obtain ⟨w1, w2, w3⟩ := hwake { u.power with
        wakeLatch := if bit u.power.wakeLatch n then u.power.wakeLatch else u.power.wakeLatch + 2 ^ n
        wakeFirst := some (wakeFirstOf n u.power)
        wakeTick := match u.power.wakeFirst with | some _ => u.power.wakeTick | none => u.power.aonTick % 2 ^ 48 }
      exact ⟨congrArg (nth IslSt.off · 8) w1, w2, w3⟩
    · exact ⟨rfl, rfl, rfl⟩

theorem oxCanRun_takenState (cmd : Nat) (m : Mail) (s : State) : oxCanRun (takenState cmd m s) = oxCanRun s := by
  have hring : isl (ring cmd m s) 8 = isl s 8 ∧ (ring cmd m s).power.islDown = s.power.islDown ∧
      (ring cmd m s).power.oxRelockDue = s.power.oxRelockDue := by
    unfold ring
    split
    · exact ⟨rfl, rfl, rfl⟩
    · exact latchWake_oxPower 11 s
  obtain ⟨h1, h2, h3⟩ := hring
  have hisl : isl (takenState cmd m s) 8 = isl s 8 := by rw [← h1, isl, isl, takenState_power]
  rw [oxCanRun, oxCanRun, oxClock, oxClock, hisl, pllLock, pllLock, takenState_clkLock, takenState_power, h2, h3, takenState_ox]

/-! ### OX_ABORT and the end of an abort (R227, R248) -/

theorem oxAbort_bench {s : State} (h : (oxq s 1).state ≠ 0) (hb : (oxq s 1).arm.bench = true) :
    oxAbort [] s = later (oxAbortStart 1 s) := (if_neg (fun hn => hn rfl)).trans (if_pos ⟨h, hb⟩)

theorem oxAbort_nothing {s : State} (h : (oxq s 1).state = 0 ∨ (oxq s 1).arm.bench = false) : oxAbort [] s = done s [] := by
  refine (if_neg (fun hn => hn rfl)).trans (if_neg fun ⟨hs, hb⟩ => ?_)
  rcases h with h | h
  · exact hs h
  · rw [h] at hb
    exact Bool.false_ne_true hb

/-- A command that is let through and held keeps its mailbox and waits on hardware (R133, R134). -/
theorem mailOut_later {cmd : Nat} {m : Mail} {body : State → Answer} {s t : State} (h : taken cmd m s = true)
    (hb : body (takenState cmd m s) = later t) :
    mailOut cmd m body s = .next (onHost (fun x => { x with waiting := x.waiting ++ [m.mbox] }) t) := by
  rw [mailOut_taken h, hb]
  rfl

/-- An abort that starts: no further block is issued and no arm waits (R227). -/
theorem oxAbortStart_eq {q : Nat} {s : State} (h : (oxq s q).state ≠ 0) : ∃ y, oxAbortStart q s = setQ q y s ∧ y.state = 5 ∧
    y.next = none :=
  ⟨_, (if_neg h).trans (onQ_eq_setQ ..), rfl, rfl⟩

/-- The part owns the mailbox whose command it takes (R133). -/
theorem takenState_owner {cmd : Nat} {m : Mail} {s : State} (h : taken cmd m s = true) :
    (takenState cmd m s).host.owner.getLsbD m.mbox = true := by
  have hbox : m.mbox < 8 := by
    simp only [taken, mailReaches, Bool.and_eq_true, decide_eq_true_eq] at h
    tauto
  rw [takenState_host, ring]
  split
  · next ho => exact ho
  · simp [ringOne, one_shiftLeft_getLsbD _ hbox]

/-- An aborted job ends without a publication; the mailboxes stay as they are, until those that wait are answered (R227). -/
theorem oxEnd_aborted {s : State} (hq : 1 < s.ox.q.length) (hnext : (oxq s 1).next = none) :
    ∃ u, oxEnd 1 3 s = oxKick u ∧ (oxq u 1).state = 0 ∧ (oxq u 1).outcome = 3 ∧
      (u.host.mbox, u.host.waiting) = (s.host.mbox, s.host.waiting) := by
  unfold oxEnd
  extract_lets s1 s2 x s3 s4 s5
  have hs1 : s1.ox.q = (setQ 1 _ s).ox.q := congrArg (fun u => u.ox.q) (onQ_eq_setQ ..)
  have hs2 : s2.ox.q = s1.ox.q := by
    simp only [s2]
    split <;> rfl
  have hx : x = _ := (oxq_congr (hs2.trans hs1) 1).trans (oxq_setQ_same _ hq)
  have hs4 : s4.ox.q = _ := onQ_queues _ hq ((oxEndEvents_queues 1 3 x s2).trans (hs2.trans hs1))
  have hxnext : x.next = none := by
    rw [hx, ← hnext]
    dsimp only
    split <;> rfl
  have hboxes : (s2.host.mbox, s2.host.waiting) = (s.host.mbox, s.host.waiting) := by
    simp only [s2]
    split <;> rfl
  have h4 := (oxq_congr hs4 1).trans (oxq_setQ_same _ hq)
  rw [hxnext]
  refine ⟨s4, rfl, ?_, ?_, (oxEndEvents_boxes 1 3 x s2).trans hboxes⟩
  · rw [h4]
  · rw [h4]

theorem respond_waiting (k : State) (c : Nat) (m : Mail) (a : Answer) :
    (respond k c m a).host.waiting = a.st.host.waiting.filter (fun j => j != m.mbox) := by
  unfold respond deliver
  dsimp only
  split <;> simp

theorem abortAnswer_one {s : State} {k : Nat} (hw : s.host.waiting = [k]) (hc : boxCmd s k = 0x0711) :
    abortAnswer s = respond s 0x0711 (boxMail s k) (done s []) := by
  have hk : (s.host.waiting.filter (fun k => boxCmd s k == 0x0711)) = [k] := by simp [hw, hc]
  rw [abortAnswer, hk]
  rfl

end Sys2Proof.Machine
end

section
/-! Ox programs, errors and the bench job: O37. -/

namespace Sys2Proof.Machine

/-! ### Pivots (R234) -/

theorem pivotBad_iff (tau : Nat) (m : Int) (neg : Bool) : pivotBad tau m neg = true ↔
    m = 0 ∨ m.natAbs < 2 ^ (31 - tau) ∨ (m < 0 ∧ neg = false) ∨ (0 ≤ m ∧ neg = true) := by
  cases neg <;> simp [pivotBad, or_assoc]

theorem pivotTake_replaced {tau : Nat} (delta : Nat) {m : Int} {neg : Bool}
    (h : m = 0 ∨ m.natAbs < 2 ^ (31 - tau) ∨ (m < 0 ∧ neg = false) ∨ (0 < m ∧ neg = true)) :
    pivotTake tau delta m neg = if neg then -(2 : Int) ^ (31 - delta) else (2 : Int) ^ (31 - delta) := by
  have hbad : pivotBad tau m neg = true := (pivotBad_iff ..).mpr (h.imp_right (.imp_right (.imp_right (.imp_left Int.le_of_lt))))
  rw [pivotTake, if_pos hbad]
  push_cast
  rfl

theorem pivotTake_kept {tau delta : Nat} {m : Int} {neg : Bool} (hbig : 2 ^ (31 - tau) ≤ m.natAbs) (hsign : m < 0 ↔ neg = true)
    (h0 : m ≠ 0) : pivotTake tau delta m neg = m := by
  refine if_neg fun hbad => ?_
  rcases (pivotBad_iff ..).mp hbad with h | h | ⟨h, hn⟩ | ⟨h, hn⟩
  · exact h0 h
  · exact absurd h hbig.not_gt
  · rw [hsign, hn] at h
    exact Bool.false_ne_true h
  · exact absurd (hsign.mpr hn) h.not_gt

/-! ### The operations' answers -/

theorem exec_oxSolveArm (m : Mail) (s : State) : exec (.oxSolveArm m) s = mailOut 0x0710 m (oxSolveArm m.payload) s := rfl

theorem exec_oxAbort (m : Mail) (s : State) : exec (.oxAbort m) s = mailOut 0x0711 m (oxAbort m.payload) s := rfl

theorem exec_oxDataEcc {q : Nat} (k : Nat) {s : State} (hq : q < 2) (hl : s.ox.q.length = 2) (hprev : (oxq s q).prev = none) :
    exec (.oxDataEcc q k) s = .next (eccEvent q (eccMet q k s)) := by
  rw [← oxDataEcc_eq k (by omega) hprev]
  exact congrArg _ (if_pos hq)

/-- The end of the reload frees the estimation job that waits for it (R241). -/
theorem exec_oxScheduleReloadDone {s : State} (hr : s.ox.reloading = true) (hm : malorWorks s = true) (hc : oxClock s = true)
    (hd : s.power.islDown.contains 8 = false) (hlock : s.power.oxRelockDue = false) (h0 : (oxq s 0).state = 1)
    (h1 : (oxq s 1).state = 0) :
    exec .oxScheduleReloadDone s = .next (oxRun 0 (onOx (fun o => { o with reloading := false }) s)) := by
  have hon : isl s 8 = .on ∧ pllLock s 1 = true := by simpa [oxClock] using hc
  have hrun : oxCanRun (onOx (fun o => { o with reloading := false }) s) = true := (oxCanRun_iff _).mpr ⟨hon, hd, rfl, hlock⟩
  rw [← oxKick_estimation hrun h0 h1]
  exact congrArg _ (if_pos (by rw [hr, hm]; rfl))

/-- OX_SOLVE_ARM of an idle queue 1 is answered with the state that the arm leaves (R248). -/
theorem exec_oxSolveArm_armed {m : Mail} {s : State} {a n : Nat} (ht : taken 0x0710 m s = true) (ha : a ≤ 1) (h1 : 1 ≤ n)
    (hn : n ≤ 60000) (hp : m.payload = leBytes 1 a ++ zeros 3 ++ leBytes 4 n) (hd : unitActive s 9 0 = false)
    (hm : s.model.image ≠ []) (hidle : (oxq s 1).state = 0) : exec (.oxSolveArm m) s =
      answers 0x0710 m s (armNow 1 (benchReq a n (takenState 0x0710 m s)) (takenState 0x0710 m s)) [] :=
  mailOut_answers_of_payload ht hp (oxSolveArm_done ha h1 hn (by rwa [unitActive_takenState ht]) (by rwa [takenState_model])
    (oxArm_idle _ (by rwa [oxq_takenState])))

/-- The deadline of a bench arm lies ahead (R225, R248). -/
theorem benchReq_ahead (a : Nat) {n : Nat} (s : State) (h1 : 1 ≤ n) (hn : n ≤ 60000) :
    deadlineReached s (benchReq a n s).deadline = false := deadlineReached_ahead s (by omega) (by omega)

/-- The end of an abort is heard by the result unit; the one OX_ABORT that waits for it is answered (R227, R248). -/
theorem exec_solverAbortEnd_answered {s : State} {k : Nat} (hq : 1 < s.ox.q.length) (h5 : (oxq s 1).state = 5)
    (hn : (oxq s 1).next = none) (hw : s.host.waiting = [k]) (hc : boxCmd s k = 0x0711) :
    ∃ u, exec (.solverAbortEnd 1) s = .next (oxHear (respond u 0x0711 (boxMail u k) (done u []))) ∧ (oxq u 1).state = 0 ∧
      (oxq u 1).outcome = 3 ∧ u.host.waiting = [k] := by
  obtain ⟨u, hend, hstate, hout, hboxes⟩ := oxEnd_aborted hq hn
  obtain ⟨hmbox, hwaiting⟩ := Prod.mk.inj hboxes
  rw [hw] at hwaiting
  have hbox : boxCmd (oxKick u) k = 0x0711 := by
    rw [← hc, boxCmd, boxCmd, oxKick_host, hmbox]
  have habort : oxAbortEnd 1 s = respond (oxKick u) 0x0711 (boxMail (oxKick u) k) (done (oxKick u) []) := by
    rw [← abortAnswer_one (by rw [oxKick_host, hwaiting]) hbox, ← hend]
    exact if_pos h5
  refine ⟨oxKick u, ?_, ?_, ?_, by rw [oxKick_host, hwaiting]⟩
  · rw [← habort]
    rfl
  · rw [oxq_oxKick_idle hstate, hstate]
  · rw [oxq_oxKick_idle hstate, hout]

/-! ### The blocks of the programs (R223, R234 to R237) -/

/-- The block of EST_FACT leaves the factor in OXMEM, and its state by the job's flags (R240). -/
theorem exec_oxBlockEnd_fact {s : State} {h : BlockHead} {F : List FacCol × Marks} (hj : GoesOn s 0) (hok : blockOk s h = true)
    (hstage : (oxq s 0).stage = .fact)
    (hF : F = factorise (oxFrame s 0) (oxq s 0).mem.mat (oxq s 0).tau (oxq s 0).delta) :
    ∃ t y, exec (.oxBlockEnd 0 h 1) s = .next t ∧ Factorised F.1 (oxq s 0) y ∧
      oxq t 0 = { y with dramNs := y.dramNs + h.dramNs, block := y.block + 1 } ∧ oxq t 1 = oxq s 1 ∧
      t.ox.factor = s.ox.factor.set 0 (if (oxq s 0).facBad || (oxq s 0).oldModel then 0 else if isDegraded y then 2 else 1) := by
  obtain ⟨y, hfac, hbad, hold, hend⟩ := factEnd_eq hj.queue hj.own hF
  have hcall : jobCall 0 s = setFactor 0 (factorState y) y.pivCur (setQ 0 y s) := by
    rw [← hend]
    exact jobCall_fact hstage hj.queue (by rw [hend]; rfl) hfac.stage
  obtain ⟨t, hexec, hself, hother, hfactor⟩ := exec_oxBlockEnd_call hj hok (by rw [hstage]; decide) hfac.keeps
    (by rw [hcall]; rfl) (by rw [hcall]; rfl)
  refine ⟨t, y, hexec, hfac, hself, hother 1 (by decide), ?_⟩
  rw [hfactor, hcall, ← hbad, ← hold]
  rfl

/-- The block of a bench job's KKT_SOLVE leaves the solution in OXMEM, and the job's program is over (R236, R248). -/
theorem exec_oxBlockEnd_benchSolve {s : State} {h : BlockHead} {F : List Int × Marks} (hj : GoesOn s 1) (hok : blockOk s h = true)
    (hstage : (oxq s 1).stage = .solve) (hfresh : (oxq s 1).fresh = false) (hbench : (oxq s 1).arm.bench = true)
    (hstore : s.ox.storeBad = false)
    (hF : F = solveFactor (oxFrame s 1) (oxq s 1).mem.fac (rhsOps (oxFrame s 1) (oxq s 1).mem.rhs)) :
    ∃ t, exec (.oxBlockEnd 1 h 1) s = .next t ∧ (oxq t 1).mem = { (oxq s 1).mem with sol := F.1 } ∧
      (oxq t 1).nSolve = (oxq s 1).nSolve + 1 ∧ (oxq t 1).stage = .over ∧ oxq t 0 = oxq s 0 := by
  obtain ⟨y, hkeeps, hmem, hcount, hover, hcall⟩ := jobCall_benchSolve hj.queue hj.own hfresh hstage hbench hstore hF
  obtain ⟨t, hexec, hself, hother, -⟩ := exec_oxBlockEnd_call hj hok (by rw [hstage]; decide) hkeeps (by rw [hcall])
    (by rw [hcall]; rfl)
  exact ⟨t, hexec, by rw [hself, ← hmem], by rw [hself, ← hcount], by rw [hself, ← hover], hother 0 (by decide)⟩

/-- The block of EST_SPMV leaves the residual's accumulators in OXMEM, and above the tolerance a correction is next (R237). -/
theorem exec_oxBlockEnd_resid {s : State} {h : BlockHead} {F : List Int × Marks} (hj : GoesOn s 0) (hok : blockOk s h = true)
    (hstage : (oxq s 0).stage = .resid)
    (hF : F = residualOf (oxFrame s 0) (oxq s 0).mem.mat (oxq s 0).mem.rhs (oxq s 0).mem.sol)
    (htol : refTol (oxq s 0) < residualNorm (oxFrame s 0) F.1) (hsteps : (oxq s 0).refDone < (oxq s 0).refSteps) :
    ∃ t, exec (.oxBlockEnd 0 h 1) s = .next t ∧ (oxq t 0).mem = { (oxq s 0).mem with resid := F.1 } ∧
      (oxq t 0).resNow = [residualNorm (oxFrame s 0) F.1] ∧ (oxq t 0).stage = .corr ∧ oxq t 1 = oxq s 1 := by
  obtain ⟨y, hkeeps, hmem, hres, hcorr, hcall⟩ := jobCall_resid hj.queue hj.own hstage hF htol hsteps
  obtain ⟨t, hexec, hself, hother, -⟩ := exec_oxBlockEnd_call hj hok (by rw [hstage]; decide) hkeeps (by rw [hcall])
    (by rw [hcall]; rfl)
  exact ⟨t, hexec, by rw [hself, ← hmem], by rw [hself, ← hres], by rw [hself, ← hcorr], hother 1 (by decide)⟩

/-- Settles O37: an error by its kind, an arm by what the queue and the factor allow, an abort by whose job it meets, and a block by the
program call that it carries. That the calls come with their block's end (log 14) and what an error leaves of the factor (log 41) are the
model's choices. -/
theorem oxErrorsAndBench : Obligations.OxErrorsAndBench := by
  unfold Obligations.OxErrorsAndBench
  refine ⟨fun s q k hq hl hprev hk => ?error, fun s hl hr hm h0 h1 hc hd hlock => ?reloaded,
    fun m s a n ht ha h1 hn hp hd hm hidle h0 hl hrun hf => ?armed, fun m s n ht h1 hn hp hd hm hidle hl hf => ?unusable,
    fun m s a n ht ha hn hp h => ?refused, fun m s ht hp hl hs hb => ?aborts, fun s k hl h5 hn hw hk hc => ?abortEnds,
    fun m s ht hp h => ?nothing, fun s h x n hl hlf hruns hx hs hprev hn hok hlate hsound hstage hcount => ?factorised,
    fun s h x hl hruns hx hs hprev hn hok hlate h0 hsound hstage hfresh hb hstore => ?solved,
    fun s h x hl hruns hx hs hprev hn hok hlate hsound hstage htol hsteps => ?residual,
    fun tau delta m neg => ⟨fun h => pivotTake_replaced delta h, fun hbig hsign h0 => pivotTake_kept hbig hsign h0⟩⟩
  case error =>
    have hlen : q < s.ox.q.length := by omega
    have hox := eccEvent_ox q (eccMet q k s)
    have hself := (oxq_congr (congrArg OxSt.q hox) q).trans (oxq_eccMet_same k hlen)
    refine ⟨_, exec_oxDataEcc k hq hl hprev, ?_, by rw [hself], by rw [hself], ?_, by rw [hox]; rfl, fun h2 => ?_, fun h2 => ?_,
      fun h1 => ⟨?_, ?_⟩, fun h1 => ?_, raise_power .., raise_est .., ?_⟩
    · rw [hself, bit_withFlag_same]
    · exact (oxq_congr (congrArg OxSt.q hox) _).trans (oxq_eccMet_other k s (by omega))
    · rw [hox]
      exact if_pos h2
    · rw [hox]
      exact if_neg h2
    · rw [hox]
      exact if_pos h1
    · rw [hself]
      exact if_pos h1
    · rw [hox]
      exact if_neg h1
    · rw [hself, eccEvent_recorder k hlen hprev]
  case reloaded =>
    have hq : 0 < s.ox.q.length := by omega
    refine ⟨_, exec_oxScheduleReloadDone hr hm hc hd hlock h0 h1, rfl, ?_, ?_, rfl⟩
    · rw [oxRun_eq_setQ, oxq_setQ_same _ (by exact hq)]
    · rw [oxRun_eq_setQ, oxq_setQ_other _ _ (by decide)]
      rfl
  case armed =>
    have hq : 1 < (takenState 0x0710 m s).ox.q.length := by rw [takenState_ox]; omega
    have hfactor : factorUnusable (takenState 0x0710 m s) 1 (benchReq a n (takenState 0x0710 m s)) = false := by
      rw [factorUnusable, takenState_ox]
      rcases hf with rfl | hf
      · rfl
      · simp [hf]
    have harm := armNow_runs hq (benchReq_ahead a _ h1 hn) hfactor (by rw [oxCanRun_takenState, hrun])
      (by rw [oxq_takenState, h0])
    refine ⟨_, exec_oxSolveArm_armed ht ha h1 hn hp hd hm hidle, ?_⟩
    rw [harm, oxq_setQ_same _ hq, oxq_setQ_other _ _ (by decide), oxq_takenState]
    refine ⟨rfl, rfl, rfl, rfl, rfl, ?_, ?_, rfl, takenState_est .., takenState_dsp ..⟩
    · rw [← takenState_time 0x0710 m s]
      rfl
    · rw [← oxq_takenState 0x0710 m s]
      rfl
  case unusable =>
    have hq : 1 < (takenState 0x0710 m s).ox.q.length := by rw [takenState_ox]; omega
    have hfactor : factorUnusable (takenState 0x0710 m s) 1 (benchReq 1 n (takenState 0x0710 m s)) = true := by
      rw [factorUnusable, takenState_ox]
      simpa [benchReq] using hf
    have harm := armNow_unusable hq (benchReq_ahead 1 _ h1 hn) hfactor
    obtain ⟨z, hend, hstate, hout, hsticky⟩ := armEnds_degraded (s := takenState 0x0710 m s) hq
      (y := armedQ 1 (benchReq 1 n (takenState 0x0710 m s)) (takenState 0x0710 m s)) rfl
    rw [← harm] at hend
    have hself := (oxq_congr hend 1).trans (oxq_setQ_same z hq)
    have hother := (oxq_congr hend 0).trans (oxq_setQ_other z _ (by decide))
    refine ⟨_, exec_oxSolveArm_armed ht le_rfl h1 hn hp hd hm hidle, by rw [hself, hstate], by rw [hself, hout], ?_,
      hother.trans (oxq_takenState ..)⟩
    rw [hself, hsticky, bit_withFlag_same]
  case refused =>
    have hrefused := oxSolveArm_refused (s := takenState 0x0710 m s) ha hn
      (by rwa [unitActive_takenState ht, takenState_model, oxq_takenState])
    rw [unitActive_takenState ht, takenState_model] at hrefused
    exact mailOut_refuses_of_payload ht hp hrefused
  case aborts =>
    obtain ⟨y, hstart, h5, hnext⟩ := oxAbortStart_eq (s := takenState 0x0711 m s) (q := 1) (by rwa [oxq_takenState])
    have hbody : oxAbort m.payload (takenState 0x0711 m s) = later (setQ 1 y (takenState 0x0711 m s)) := by
      rw [hp, ← hstart]
      exact oxAbort_bench (by rwa [oxq_takenState]) (by rwa [oxq_takenState])
    have hself := oxq_setQ_same (s := takenState 0x0711 m s) y (q := 1) (by rw [takenState_ox]; omega)
    refine ⟨_, mailOut_later ht hbody, (congrArg OxQueue.state hself).trans h5, (congrArg OxQueue.next hself).trans hnext, ?_,
      takenState_owner ht, ?_, takenState_est .., takenState_dsp ..⟩
    · show (takenState 0x0711 m s).host.waiting ++ [m.mbox] = _
      rw [takenState_host, ring_host_waiting]
    · show (takenState 0x0711 m s).host.resDiagDsp = _
      rw [takenState_host, ring_host_resDiagDsp]
  case abortEnds =>
    obtain ⟨u, hexec, hstate, hout, hwaiting⟩ := exec_solverAbortEnd_answered (by omega) h5 hn hw hc
    have hside := solverSide_oxHear (respond u 0x0711 (boxMail u k) (done u []))
    simp only [solverSide, Prod.mk.injEq] at hside
    obtain ⟨hox, -, hwait, howner, hdone⟩ := hside
    have hself : oxq (oxHear (respond u 0x0711 (boxMail u k) (done u []))) 1 = oxq u 1 := oxq_congr (congrArg OxSt.q hox) 1
    refine ⟨_, hexec, by rw [hself, hstate], by rw [hself, hout], ?_, ?_, ?_⟩
    · rw [hwait, respond_waiting]
      simp [done, hwaiting, boxMail]
    · rw [howner, respond, deliver_owner_bit _ _ _ hk]
      simp [boxMail]
    · rw [hdone, respond, deliver_done_bit _ _ _ hk]
      simp [boxMail]
  case nothing =>
    exact mailOut_answers_of_payload ht hp (oxAbort_nothing (by rwa [oxq_takenState]))
  case factorised =>
    subst hx
    have hj : GoesOn s 0 := ⟨by omega, hruns, hs, hprev, hlate, hsound, fun h => absurd h (by decide)⟩
    obtain ⟨t, y, hexec, hfac, hself, hother, hfactor⟩ := exec_oxBlockEnd_fact hj hok hstage rfl
    refine ⟨t, hexec, ?_⟩
    rw [hself, hcount.trans hfac.pivCur.symm]
    refine ⟨hfac.mem, hfac.stage, hfac.nFact, rfl, hfac.overLimit, hfac.replaced, congrArg (· + 1) hfac.keeps.block, ?_, hother, ?_⟩
    · rw [hfactor, nth_set_same _ _ (by omega)]
      rfl
    · rw [hfactor]
      simp [nth_eq]
  case solved =>
    subst hx
    have hj : GoesOn s 1 := ⟨by omega, hruns, hs, hprev, hlate, hsound, fun _ => by omega⟩
    obtain ⟨t, hexec, hmem, hcount, hover, hother⟩ := exec_oxBlockEnd_benchSolve hj hok hstage hfresh hb hstore rfl
    exact ⟨t, hexec, hmem, hcount, hover, by rw [hother]⟩
  case residual =>
    subst hx
    have hj : GoesOn s 0 := ⟨by omega, hruns, hs, hprev, hlate, hsound, fun h => absurd h (by decide)⟩
    obtain ⟨t, hexec, hmem, hres, hcorr, hother⟩ := exec_oxBlockEnd_resid hj hok hstage rfl htol hsteps
    exact ⟨t, hexec, hmem, by rw [hres, hmem], hcorr, hother⟩

end Sys2Proof.Machine
end

section
/-! Dispatch inputs: O40. -/

namespace Sys2Proof.Machine

/-! ### The state in which a command runs -/

theorem stepNs_takenState (cmd : Nat) (m : Mail) (s : State) : stepNs (takenState cmd m s) = stepNs s := by
  simp only [stepNs, parN, par, takenState_params]

theorem storeN_takenState (cmd : Nat) (m : Mail) (s : State) (k off n : Nat) :
    storeN (takenState cmd m s) k off n = storeN s k off n := by
  rw [storeN, storeN, takenState_model]

/-! ### DISPATCH_INPUT_WRITE (R290) -/

/-- The payload of DISPATCH_INPUT_WRITE: block, object, first interval and count, then the values at offset 12 (log 17). -/
def inputPayload (b o f n : Nat) (v : Bytes) : Bytes :=
  leBytes 1 b ++ [0] ++ leBytes 2 o ++ leBytes 2 f ++ leBytes 2 n ++ zeros 4 ++ v

theorem inputPayload_fields {b o f n : Nat} (v : Bytes) (hb : b < 256) (ho : o < 2 ^ 16) (hf : f < 2 ^ 16) (hn : n < 2 ^ 16) :
    (inputPayload b o f n v).length = 12 + v.length ∧ byteField (inputPayload b o f n v) 0 1 = b ∧
      byteField (inputPayload b o f n v) 1 1 = 0 ∧ byteField (inputPayload b o f n v) 2 2 = o ∧
      byteField (inputPayload b o f n v) 4 2 = f ∧ byteField (inputPayload b o f n v) 6 2 = n ∧
      byteField (inputPayload b o f n v) 8 4 = 0 ∧ ∀ i k, byteFieldS (inputPayload b o f n v) (12 + i) k = byteFieldS v i k := by
  have hrsv : ([0] : Bytes) = leBytes 1 0 := rfl
  norm_num at ho hf hn
  unfold inputPayload
  rw [hrsv]
  refine ⟨by simp; omega, ?_, ?_, ?_, ?_, ?_, ?_, fun i k => ?values⟩
  case values =>
    rw [byteFieldS, byteField_skip _ _ _ _ (by simp)]
    simp [byteFieldS]
  all_goals simp [byteField_skip, byteField_front, byteField_zeros, Nat.mod_eq_of_lt hb, Nat.mod_eq_of_lt ho,
    Nat.mod_eq_of_lt hf, Nat.mod_eq_of_lt hn]

/-- The staged values after a write of `n` intervals from `f` on. -/
def stageValues (b o f n : Nat) (v : Bytes) (l : List (Nat × Int)) : List (Nat × Int) :=
  (upTo n).foldl (fun l i => insertNat (inputKey b o (f + i)) (byteFieldS v (4 * i) 4) l) l

theorem stageValues_succ (b o f n : Nat) (v : Bytes) (l : List (Nat × Int)) : stageValues b o f (n + 1) v l =
    insertNat (inputKey b o (f + n)) (byteFieldS v (4 * n) 4) (stageValues b o f n v l) := by
  simp [stageValues, upTo, List.range_succ]

/-- Every interval of the write holds its value. -/
theorem lookupNat_stageValues_written {b o f n k : Nat} (v : Bytes) (l : List (Nat × Int)) (hk : k < n) :
    lookupNat (inputKey b o (f + k)) (stageValues b o f n v l) = some (byteFieldS v (4 * k) 4) := by
  induction n with
  | zero => exact absurd hk (Nat.not_lt_zero k)
  | succ n ih =>
    rw [stageValues_succ]
    rcases Nat.lt_succ_iff_lt_or_eq.mp hk with hlt | rfl
    · have hkey : inputKey b o (f + k) ≠ inputKey b o (f + n) := by unfold inputKey; omega
      rw [lookupNat_insertNat_other _ _ hkey, ih hlt]
    · exact lookupNat_insertNat_same ..

/-- Every other staged value stays. -/
theorem lookupNat_stageValues_other {b o f n j : Nat} (v : Bytes) (l : List (Nat × Int))
    (hj : ∀ k, k < n → j ≠ inputKey b o (f + k)) : lookupNat j (stageValues b o f n v l) = lookupNat j l := by
  induction n with
  | zero => rfl
  | succ n ih =>
    rw [stageValues_succ, lookupNat_insertNat_other _ _ (hj n n.lt_succ_self), ih fun k hk => hj k (Nat.lt_succ_of_lt hk)]

/-- A write of 1 to 240 whole values is staged where its target exists, and refused with INPUT where not. -/
theorem inputWrite_payload {b o f n : Nat} {v : Bytes} (s : State) (hb : b < 256) (ho : o < 2 ^ 16) (hf : f < 2 ^ 16) (h1 : 1 ≤ n)
    (hn : n ≤ 240) (hv : v.length = 4 * n) : inputWrite (inputPayload b o f n v) s =
      if inputTarget s.model.image b o f n then done (onDsp (fun d => { d with staging := stageValues b o f n v d.staging }) s) []
      else refuse s 0x0916 := by
  obtain ⟨hlen, hblock, hrsv, hobj, hfirst, hcount, hrsv8, hval⟩ := inputPayload_fields v hb ho hf (n := n) (by omega)
  have hcounted : ¬(n = 0 ∨ 240 < n) := by omega
  unfold inputWrite stageValues
  simp only [hlen, hblock, hrsv, hobj, hfirst, hcount, hrsv8, hval, hv, hcounted]
  cases inputTarget s.model.image b o f n <;> simp

/-! ### DISPATCH_INPUT_COMMIT (R291) -/

/-- The payload of DISPATCH_INPUT_COMMIT: start and count. -/
def commitPayload (a n : Nat) : Bytes := leBytes 8 a ++ leBytes 2 n ++ zeros 6

theorem inputCommit_payload {a n : Nat} (s : State) (ha : a < 2 ^ 64) (hn : n < 2 ^ 16) : inputCommit (commitPayload a n) s =
    if n = 0 ∨ 384 < n ∨ a % stepNs s ≠ 0 then refuse s 0x0905
    else done (onDsp (fun d => { d with
      active := some { tIn := a, nInt := n, commit := s.time.ont, vals := d.staging }, staging := [] }) s) [] := by
  have hlen : (commitPayload a n).length = 16 := by simp [commitPayload]
  have hstart : byteField (commitPayload a n) 0 8 = a := by
    norm_num at ha
    simp [commitPayload, byteField_front, Nat.mod_eq_of_lt ha]
  have hcount : byteField (commitPayload a n) 8 2 = n := by
    norm_num at hn
    simp [commitPayload, byteField_skip, byteField_front, Nat.mod_eq_of_lt hn]
  have hrsv : allZero ((commitPayload a n).drop 10) = true := by
    rw [commitPayload, List.drop_left' (by simp)]
    rfl
  unfold inputCommit
  simp only [hlen, hstart, hcount, hrsv, ne_eq, not_true, or_self, if_false]

/-! ### DISPATCH_STORE_SET (R288) -/

/-- DISPATCH_STORE_SET has a payload of the shape of OX_SOLVE_ARM's: one byte, three reserved bytes and a word. -/
theorem storeSet_payload {k e : Nat} (s : State) (hk : k < 256) (he : e < 2 ^ 32) : storeSet (solvePayload k e) s =
    if nStore s.model.image ≤ k ∨ storeN s k 0 4 < e then refuse s 0x0905
    else done (onDsp (fun d => { d with charge := modNth d.charge k fun _ => ((e : Rat), false) }) s) [] := by
  obtain ⟨hlen, hstore, hrsv, henergy⟩ := solvePayload_fields hk he
  unfold storeSet
  simp only [hlen, hstore, hrsv, henergy, ne_eq, not_true, or_self, if_false]

/-! ### The commands -/

/-- Settles O40: each command's effect on its decoded payload. That the values of DISPATCH_INPUT_WRITE begin at offset 12 (log 17) and
that DISPATCH_STATUS_GET answers with Config.layout (log 9) are the model's choices. -/
theorem dispatchInputs : Obligations.DispatchInputs := by
  unfold Obligations.DispatchInputs
  refine ⟨fun m s b o f n v ht hb ho hf h1 hn hv hp htarget => ?staged, fun m s b o f n v ht hb ho hf h1 hn hv hp htarget => ?noTarget,
    fun m s a n ht ha h1 hn hstep hp => ?committed, fun m s a n ht ha hn hbad hp => ?uncommitted,
    fun m s k e ht hk hk8 he hcap hlen hp => ?charged, fun m s k e ht hk he hbad hp => ?uncharged,
    fun m s ht hp => ?status⟩
  case staged =>
    have hbody := inputWrite_payload (takenState 0x0910 m s) hb ho hf h1 hn hv
    rw [takenState_model, if_pos htarget] at hbody
    refine ⟨_, mailOut_answers_of_payload (body := inputWrite) ht hp hbody, fun k hk => lookupNat_stageValues_written v _ hk,
      fun j hj => (lookupNat_stageValues_other v _ hj).trans ?_, ?_, ?_, takenState_params ..⟩
    · rw [takenState_dsp]
    · rw [onDsp_dsp, takenState_dsp]
    · rw [onDsp_dsp, takenState_dsp]
  case noTarget =>
    have hbody := inputWrite_payload (takenState 0x0910 m s) hb ho hf h1 hn hv
    rw [takenState_model, htarget, if_neg Bool.false_ne_true] at hbody
    exact mailOut_refuses_of_payload ht hp hbody
  case committed =>
    have hbody := inputCommit_payload (takenState 0x0911 m s) ha (n := n) (by omega)
    rw [stepNs_takenState, if_neg (by omega), takenState_time] at hbody
    refine ⟨_, mailOut_answers_of_payload (body := inputCommit) ht hp hbody, ?_, takenState_ox ..⟩
    rw [onDsp_dsp, takenState_dsp]
  case uncommitted =>
    have hbody := inputCommit_payload (takenState 0x0911 m s) ha hn
    rw [stepNs_takenState, if_pos hbad] at hbody
    exact mailOut_refuses_of_payload ht hp hbody
  case charged =>
    have hbody := storeSet_payload (takenState 0x0912 m s) hk8 he
    rw [takenState_model, storeN_takenState, if_neg (by omega)] at hbody
    refine ⟨_, mailOut_answers_of_payload (body := storeSet) ht hp hbody, ?_, fun j hj => ?_, ?_, ?_⟩
    · rw [onDsp_dsp, takenState_dsp, getElem?_modNth_same, List.getElem?_eq_getElem hlen]
      rfl
    · rw [onDsp_dsp, takenState_dsp, getElem?_modNth_other _ _ _ _ hj]
    · rw [onDsp_dsp, takenState_dsp]
    · rw [onDsp_dsp, takenState_dsp]
  case uncharged =>
    have hbody := storeSet_payload (takenState 0x0912 m s) hk he
    rw [takenState_model, storeN_takenState, if_pos hbad] at hbody
    exact mailOut_refuses_of_payload ht hp hbody
  case status =>
    refine ⟨dispatchStatusValues (takenState 0x0913 m s), mailOut_answers_of_payload ht hp (if_neg (not_not_intro rfl)), ?_⟩
    rw [← takenState_dsp 0x0913 m s]
    rfl

end Sys2Proof.Machine
end

section
/-! SUPPORT. What Ox leaves of what the dispatch period reads and of what it publishes, the end of a job whose program is over, and the
stopping test (R226, R247, R294). -/

namespace Sys2Proof.Machine

/-! ### What the dispatch period reads -/

/-- Dispatch's state, the model, the index of its publications, the signature, the parameters and the units. This does not unfold by
itself, so that `simp` compares what Ox keeps of two states as one value. -/
def dispatchSide (d : DspSt) (m : ModelSt) (k sig : Nat) (params uncommitted : List (Nat × Int)) (units : Units) :
    DspSt × ModelSt × Nat × Nat × List (Nat × Int) × List (Nat × Int) × Units := (d, m, k, sig, params, uncommitted, units)

/-- What the dispatch period reads of a state. -/
abbrev dspView (s : State) : DspSt × ModelSt × Nat × Nat × List (Nat × Int) × List (Nat × Int) × Units :=
  dispatchSide s.dsp s.model s.host.resDsp s.host.modelSig s.host.params s.host.uncommitted s.host.units

/-- Two states that dispatch does not tell apart. -/
structure SameDispatch (s t : State) : Prop where
  dsp : t.dsp = s.dsp
  model : t.model = s.model
  resDsp : t.host.resDsp = s.host.resDsp
  modelSig : t.host.modelSig = s.host.modelSig
  params : t.host.params = s.host.params
  uncommitted : t.host.uncommitted = s.host.uncommitted
  units : t.host.units = s.host.units

theorem SameDispatch.of_dspView {s t : State} (h : dspView t = dspView s) : SameDispatch s t := by
  simp only [dspView, dispatchSide, Prod.mk.injEq] at h
  obtain ⟨hdsp, hmodel, hres, hsig, hparams, huncommitted, hunits⟩ := h
  exact ⟨hdsp, hmodel, hres, hsig, hparams, huncommitted, hunits⟩

theorem SameDispatch.enabled {s t : State} (h : SameDispatch s t) (a b : Nat) : enabled t a b = enabled s a b := by
  rw [Machine.enabled, Machine.enabled, unitSt, unitSt, h.units]

theorem SameDispatch.act {s t : State} (h : SameDispatch s t) (id : Nat) : act t id = act s id := by
  rw [Machine.act, Machine.act, par, par, h.uncommitted, h.params]

theorem SameDispatch.shiftOf {s t : State} (h : SameDispatch s t) (from0 : Nat) : shiftOf t from0 = shiftOf s from0 := by
  simp only [Machine.shiftOf, step0, stepNs, parN, par, h.dsp, h.params]

theorem converged_congr {s t : State} (h : ∀ id, act t id = act s id) (r : JobResult) : converged t r = converged s r := by
  have hscale (n : Rat) : stopScale t n = stopScale s n := by simp only [stopScale, h]
  rw [converged, converged, hscale, hscale]

/-! ### Functions that leave it as it is -/

@[simp] theorem dspView_ite (c : Prop) [Decidable c] (a b : State) :
    dspView (if c then a else b) = if c then dspView a else dspView b := apply_ite dspView c a b

section

variable (n k i j a : Nat) (s : State)

@[simp] theorem dspView_raise : dspView (raise n k i j a s) = dspView s := by simp [dspView]
@[simp] theorem dspView_onOx (f : OxSt → OxSt) : dspView (onOx f s) = dspView s := rfl
@[simp] theorem dspView_onQ (f : OxQueue → OxQueue) : dspView (onQ n f s) = dspView s := rfl
@[simp] theorem dspView_stick : dspView (stick n k s) = dspView s := rfl
@[simp] theorem dspView_setFactor : dspView (setFactor n k i s) = dspView s := rfl
@[simp] theorem dspView_diagPublish (x : OxQueue) : dspView (diagPublish n x s) = dspView s := by
  unfold diagPublish; split <;> rfl
@[simp] theorem dspView_oxNeed : dspView (oxNeed s) = dspView s := by simp [oxNeed]
@[simp] theorem dspView_oxRun : dspView (oxRun n s) = dspView s := rfl
@[simp] theorem dspView_oxResume : dspView (oxResume s) = dspView s := rfl
@[simp] theorem dspView_oxKick : dspView (oxKick s) = dspView s := by
  simp only [oxKick, dspView_ite, dspView_oxRun, dspView_oxResume, ite_self]
@[simp] theorem dspView_oxEndEvents (x : OxQueue) : dspView (oxEndEvents n k x s) = dspView s := by
  simp only [oxEndEvents, dspView_ite, dspView_raise, dspView_onOx, ite_self]
@[simp] theorem dspView_armEnds : dspView (armEnds n k s) = dspView s := by
  simp only [armEnds, dspView_diagPublish, dspView_onQ, dspView_oxEndEvents, dspView_ite, dspView_stick, ite_self]
@[simp] theorem dspView_armStart (r : ArmReq) : dspView (armStart n r k s) = dspView s := by
  simp only [armStart, dspView_ite, dspView_armEnds, dspView_oxKick, dspView_oxNeed, dspView_onQ, ite_self]
@[simp] theorem dspView_oxEnd : dspView (oxEnd n k s) = dspView s := by
  unfold oxEnd; dsimp only; split
  all_goals simp only [dspView_armStart, dspView_oxKick, dspView_ite, dspView_diagPublish, dspView_onQ, dspView_oxEndEvents,
    dspView_setFactor, ite_self]
@[simp] theorem dspView_oxTimeout : dspView (oxTimeout n s) = dspView s := by
  simp only [oxTimeout, dspView_ite, dspView_onQ, dspView_oxEnd, ite_self]
@[simp] theorem dspView_boundaryRelock : dspView (boundaryRelock s) = dspView s := by
  unfold boundaryRelock; split <;> rfl
@[simp] theorem dspView_blockBoundary : dspView (blockBoundary n s) = dspView s := by
  simp only [blockBoundary, dspView_ite, dspView_onQ, dspView_oxEnd, dspView_oxKick, dspView_stick, ite_self]
@[simp] theorem dspView_newtonCause : dspView (newtonCause n s) = dspView s := by
  unfold newtonCause; split <;> rfl
@[simp] theorem dspView_bulkNew (o : Bulk) : dspView (bulkNew o s) = dspView s := by
  unfold bulkNew; split <;> rfl

end

/-- A block brings to dispatch what its program calls bring. -/
theorem dspView_oxBlockEnd {q : Nat} {h : BlockHead} {s : State} (n : Nat) (hruns : jobRuns s q = true) (hok : blockOk s h = true) :
    dspView (oxBlockEnd q h n s) = dspView (jobCalls q n s) := by
  simp [oxBlockEnd, hruns, hok]

/-- What the result unit hears of the estimation job. -/
def hearNewton (s : State) : State :=
  if s.est.phase = 2 ∧ s.est.job = (oxq s 0).job ∧ (oxq s 0).state = 0 then newtonCause (oxq s 0).outcome s else s

@[simp] theorem dspView_hearNewton (s : State) : dspView (hearNewton s) = dspView s := by
  simp only [hearNewton, dspView_ite, dspView_newtonCause, ite_self]

theorem hearNewton_ox (s : State) : (hearNewton s).ox = s.ox := by
  unfold hearNewton newtonCause
  repeat' split
  all_goals rfl

/-- While a job is on queue 1 the result unit leaves dispatch alone. -/
theorem dspView_oxHear_of_job {s : State} (h : (oxq s 1).state ≠ 0) : dspView (oxHear s) = dspView s := by
  have hq : (oxq (hearNewton s) 1).state ≠ 0 := by rwa [oxq_congr (congrArg OxSt.q (hearNewton_ox s))]
  rw [← dspView_hearNewton s]
  exact congrArg dspView (if_neg fun hc => hq hc.2.1)

/-- The candidate that a converged period leaves is queued for the peer. -/
def candidateOut (s : State) : State :=
  if s.dsp.phase = 3 ∧ s.dsp.cause = 0 then
    match s.dsp.own with
    | some w => bulkNew { obj := 1, sig := w.sig, tag := w.step0, aux := toBits 8 w.rhoK, rangeId := w.rangeId
                          body := w.vec.flatMap (leIntBytes 4) } s
    | none => s
  else s

@[simp] theorem dspView_candidateOut (s : State) : dspView (candidateOut s) = dspView s := by
  unfold candidateOut
  split
  · split
    · exact dspView_bulkNew ..
    · rfl
  · rfl

/-- The outcome of the period's job is taken. -/
theorem dspView_oxHear_of_end {s : State} (hphase : s.dsp.phase = 2) (hidle : (oxq s 1).state = 0) (hbench : (oxq s 1).arm.bench = false)
    (hcause : s.dsp.jobCause = none) : dspView (oxHear s) = dspView (dispatchJobEnd (oxq s 1).outcome (hearNewton s)) := by
  have hq : oxq (hearNewton s) 1 = oxq s 1 := oxq_congr (congrArg OxSt.q (hearNewton_ox s)) 1
  have hdsp := (SameDispatch.of_dspView (dspView_hearNewton s)).dsp
  have hheard : oxHear s = candidateOut (dispatchJobEnd (oxq (hearNewton s) 1).outcome (hearNewton s)) := by
    refine if_pos (c := (hearNewton s).dsp.phase = 2 ∧ (oxq (hearNewton s) 1).state = 0 ∧ (oxq (hearNewton s) 1).arm.bench = false ∧
      (hearNewton s).dsp.jobCause = none) ?_
    rw [hq, hdsp]
    exact ⟨hphase, hidle, hbench, hcause⟩
  rw [hheard, dspView_candidateOut, hq]

/-! ### The end of a job whose program is over (R226) -/

theorem exec_oxJobEnd (q d : Nat) (s : State) : exec (.oxJobEnd q d) s = .next (oxHear (oxJobEnd q d s)) := rfl

theorem jobCalls_over {q : Nat} {s : State} (n : Nat) (h : (oxq s q).stage = .over) : jobCalls q n s = s := by
  cases n with
  | zero => rfl
  | succ n => exact if_pos h

/-- The queue after `d` ns more of waiting for DRAM. -/
def withDram (d : Nat) (x : OxQueue) : OxQueue := { x with dramNs := x.dramNs + d }

/-- A job that ran to its end in time and met nothing that degrades it is COMPLETE. -/
theorem oxJobEnd_complete {q : Nat} {s : State} (d : Nat) (hq : q < s.ox.q.length) (hclock : oxClock s = true)
    (hstate : (oxq s q).state = 2) (hstage : (oxq s q).stage = .over) (hlate : jobLate s q = false)
    (hsound : isDegraded (oxq s q) = false) :
    oxJobEnd q d s = boundaryRelock (oxEnd q 0 (setQ q (withDram d (oxq s q)) s)) := by
  have hself := oxq_setQ_same (withDram d (oxq s q)) hq
  have hwaited : onQ q (fun x => { x with dramNs := x.dramNs + d }) s = setQ q (withDram d (oxq s q)) s := onQ_eq_setQ ..
  have hlate' : jobLate (setQ q (withDram d (oxq s q)) s) q = false := by
    rw [← hlate]
    exact jobLate_congr (by rw [hself]; rfl) (by rw [hself]; rfl) rfl
  have houtcome : oxOutcome (setQ q (withDram d (oxq s q)) s) q = 0 := by
    have hstate' : (withDram d (oxq s q)).state = 2 := hstate
    have hdegraded : isDegraded (withDram d (oxq s q)) = false := hsound
    simp [oxOutcome, hself, hstate', hlate', hdegraded]
  unfold oxJobEnd
  rw [if_neg (by simp [jobRuns, hclock, hstate]), hwaited, jobCalls_over _ (by rw [hself]; exact hstage)]
  dsimp only
  rw [houtcome]

/-- A job that ends with a publication of its diagnostic set leaves its queue IDLE with its outcome and its arm. -/
theorem oxEnd_published {n : Nat} {s : State} (hn : n ≠ 3) (hq : 1 < s.ox.q.length) (hnext : (oxq s 1).next = none) :
    (oxq (oxEnd 1 n s) 1).state = 0 ∧ (oxq (oxEnd 1 n s) 1).outcome = n ∧ (oxq (oxEnd 1 n s) 1).arm = (oxq s 1).arm := by
  unfold oxEnd
  extract_lets s1 s2 x s3 s4 s5
  have hs1 : s1.ox.q = (setQ 1 _ s).ox.q := congrArg (fun u => u.ox.q) (onQ_eq_setQ ..)
  have hs2 : s2.ox.q = s1.ox.q := by
    simp only [s2]
    split <;> rfl
  have hx : x = _ := (oxq_congr (hs2.trans hs1) 1).trans (oxq_setQ_same _ hq)
  have hs4 : s4.ox.q = _ := onQ_queues _ hq ((oxEndEvents_queues 1 n x s2).trans (hs2.trans hs1))
  obtain ⟨d, hd⟩ := diagPublish_queues x hq hs4
  have hs5 : s5.ox.q = _ := (congrArg (fun u : State => u.ox.q) (if_neg hn)).trans hd
  have h5 := (oxq_congr hs5 1).trans (oxq_setQ_same _ hq)
  have hxnext : x.next = none := by
    rw [hx, ← hnext]
    dsimp only
    split <;> rfl
  rw [hxnext]
  dsimp only
  rw [oxq_oxKick_idle (by rw [h5]), h5]
  refine ⟨rfl, rfl, ?_⟩
  dsimp only
  split <;> rfl

/-! ### KKT_SPMV for the stopping test (R294) -/

theorem laneMarks_toMant {b : Nat} (col : Nat) (e : Int) (v : Rat) (hb : b < 4) : LaneMarks (toMant b col e v).2 :=
  laneMarks_ite _ hb

theorem laneMarks_admmRhs (s : State) (x : Scaled) (a : Admm) : LaneMarks (admmRhs s x a).2 :=
  laneMarks_vecOf fun _ => laneMarks_toMant _ _ _ (by decide)

/-- The queue with the right-hand side of the next iteration. -/
def withRhs (b : List Int) (x : OxQueue) : OxQueue := { x with stage := .solve, mem := { x.mem with rhs := b } }

/-- The next iteration's solve is the next call. -/
theorem admmNext_eq {s : State} (hq : 1 < s.ox.q.length) (hprev : (oxq s 1).prev = none) :
    ∃ y, CallKeeps (oxq s 1) y ∧ y.stage = .solve ∧ admmNext s = setQ 1 y s := by
  have hlanes := laneMarks_admmRhs s (jobProblem s) (admmOf s.model.image (oxq s 1).mem.x)
  have hnext : admmNext s = marks 1 10 (admmRhs s (jobProblem s) (admmOf s.model.image (oxq s 1).mem.x)).2
      (onQ 1 (withRhs (admmRhs s (jobProblem s) (admmOf s.model.image (oxq s 1).mem.x)).1) s) := rfl
  generalize admmRhs s (jobProblem s) (admmOf s.model.image (oxq s 1).mem.x) = b at hlanes hnext
  obtain ⟨v, c, p, hmarks, hbits⟩ := marks_setQ 10 hlanes hq (y := withRhs b.1 (oxq s 1)) hprev
  refine ⟨{ withRhs b.1 (oxq s 1) with sticky := v, satCol := c, satProg := p },
    ⟨rfl, rfl, rfl, rfl, rfl, fun k hk => hbits k (by omega)⟩, rfl, ?_⟩
  rw [hnext, onQ_eq_setQ, hmarks]

/-- Dispatch holds what its job finds at a residual check. -/
def withFound (r : JobResult) (s : State) : State := onDsp (fun d => { d with result := r }) s

theorem converged_withFound (r : JobResult) (s : State) (x : JobResult) : converged (withFound r s) x = converged s x :=
  converged_congr (fun _ => rfl) x

/-- The call that follows a residual check: none where the job has converged or is at its limit, else the next iteration's solve. -/
def testNext (s : State) : OxStage :=
  if converged s (admmResult s) || decide ((oxq s 1).arm.iterLimit ≤ (oxq s 1).iter) then .over else .solve

theorem admmTest_eq {s : State} (hq : 1 < s.ox.q.length) (hprev : (oxq s 1).prev = none) :
    ∃ y, CallKeeps (oxq s 1) y ∧ y.stage = testNext s ∧ admmTest s = setQ 1 y (withFound (admmResult s) s) := by
  unfold admmTest testNext
  generalize admmResult s = r
  have hqueue : oxq (withFound r s) 1 = oxq s 1 := rfl
  dsimp only
  rw [← withFound, converged_withFound, hqueue]
  split
  · exact ⟨{ oxq s 1 with stage := .over }, ⟨rfl, rfl, rfl, rfl, rfl, fun _ _ => rfl⟩, rfl, onQ_eq_setQ ..⟩
  · exact admmNext_eq (s := withFound r s) hq hprev

theorem jobCall_test {s : State} (hq : 1 < s.ox.q.length) (hprev : (oxq s 1).prev = none) (hstage : (oxq s 1).stage = .test) :
    ∃ y, CallKeeps (oxq s 1) y ∧ y.stage = testNext s ∧ jobCall 1 s = setQ 1 y (withFound (admmResult s) s) := by
  obtain ⟨y, hkeeps, hnext, htest⟩ := admmTest_eq hq hprev
  refine ⟨y, hkeeps, hnext, ?_⟩
  have hsolved : y.stage ≠ .solved := by
    rw [hnext, testNext]
    split <;> decide
  generalize admmResult s = r at htest
  have hself : oxq (setQ 1 y (withFound r s)) 1 = y := oxq_setQ_same y hq
  simp [jobCall, hstage, htest, hself, hsolved]

/-- The block of KKT_SPMV: the job keeps what it found (R294). -/
theorem exec_oxBlockEnd_test {s : State} {h : BlockHead} (hj : GoesOn s 1) (hok : blockOk s h = true) (hstage : (oxq s 1).stage = .test) :
    ∃ t, exec (.oxBlockEnd 1 h 1) s = .next t ∧ t.dsp.result = admmResult s ∧ t.host.resDsp = s.host.resDsp ∧
      (oxq t 1).stage = testNext s := by
  obtain ⟨y, hkeeps, hnext, hcall⟩ := jobCall_test hj.queue hj.own hstage
  generalize admmResult s = r at hcall ⊢
  have hover : (oxq s 1).stage ≠ .over := by rw [hstage]; decide
  obtain ⟨t, hexec, hself, -, -⟩ := exec_oxBlockEnd_call hj hok hover hkeeps (by rw [hcall]; rfl) (by rw [hcall]; rfl)
  obtain rfl : oxHear (oxBlockEnd 1 h 1 s) = t := by
    injection (exec_oxBlockEnd ..).symm.trans hexec
  have hruns : (oxq (oxBlockEnd 1 h 1 s) 1).state ≠ 0 := by
    rw [← oxq_congr (congrArg OxSt.q (oxHear_ox _)), hself]
    simp [hkeeps.state, hj.state]
  have hone : jobCalls 1 1 s = jobCall 1 s := if_neg hover
  have hsame := SameDispatch.of_dspView ((dspView_oxHear_of_job hruns).trans (dspView_oxBlockEnd 1 hj.runs hok))
  rw [hone, hcall] at hsame
  exact ⟨_, hexec, by rw [hsame.dsp]; rfl, hsame.resDsp, by rw [hself]; exact hnext⟩

end Sys2Proof.Machine
end

section
/-! SUPPORT. Publications of the dispatch period: a converged job's, the shifted one and the EMPTY one (R300 to R302, R308). -/

namespace Sys2Proof.Machine

/-- The number of the next publication. -/
def nextNumber (s : State) : Nat := (s.host.resDsp + 1) % 2 ^ 32

/-- What a publication leaves: it is published under its number as the one of the period, at tdl no other is due, and it becomes the last
one unless it is EMPTY. -/
structure PublishedAs (sched : List Int) (tdSol : Nat) (shifted empty : Bool) (cause : Nat) (s t : State) (c : Pub) : Prop where
  number : c.number = nextNumber s
  sched : c.sched = sched
  td : c.td = s.dsp.td
  tdSol : c.tdSol = tdSol
  isShifted : c.shifted = shifted
  isEmpty : c.empty = empty
  phase : t.dsp.phase = 3
  tdlDue : t.dsp.tdlDue = false
  cause : t.dsp.cause = cause
  cur : t.dsp.cur = some c
  last : t.dsp.last = if empty then s.dsp.last else some c
  shiftRun : t.dsp.shiftRun = s.dsp.shiftRun
  resDsp : t.host.resDsp = nextNumber s

theorem publish_publishedAs (sched : List Int) (tdSol : Nat) (shifted empty : Bool) (cause shift : Nat) (r : JobResult) (s : State) :
    ∃ c, PublishedAs sched tdSol shifted empty cause s (publish sched tdSol shifted empty cause shift r s) c :=
  ⟨_, rfl, rfl, rfl, rfl, rfl, rfl, rfl, rfl, rfl, rfl, rfl, rfl, rfl⟩

theorem dspView_dspEvent (code src : Nat) (s : State) : dspView (dspEvent code src s) = dspView s := dspView_raise ..

/-! ### A converged job (R295, R296) -/

/-- The own candidate that a converged job leaves. -/
def warmOf (r : JobResult) (img : Bytes) (s : State) : Warm :=
  { sig := s.host.modelSig, step0 := step0 s, rangeId := rangeId img, rhoK := s.dsp.rhoK, vec := r.warm }

/-- The run of SHIFTED results ends: neither its alarm nor its stop stands any longer. -/
def runEnded (s : State) : State :=
  onDsp (fun d => { d with shiftRun := 0, convCnt := satInc 32 d.convCnt, stopped := false, alarmed := false }) s

/-- The candidate and the residuals of a published job are kept. -/
def candidateKept (r : JobResult) (img : Bytes) (s : State) : State :=
  onDsp (fun d => { d with
    own := some (warmOf r img s)
    lastRes := some (s.host.modelSig, r.rp / stopScale s r.normP, r.rd / stopScale s r.normD) }) s

/-- A converged job's publication but for its events. -/
theorem dspView_publishConverged (r : JobResult) (s : State) : dspView (publishConverged r s) =
    dspView (candidateKept r s.model.image (publish (r.x.map (satS 32)) s.dsp.td false false 0 0 r (runEnded s))) := by
  unfold publishConverged
  dsimp only
  rw [dspView_ite, dspView_dspEvent, dspView_dspEvent, ite_self]
  rfl

/-- A converged job is published, becomes the own candidate and ends a run of SHIFTED results. -/
theorem publishConverged_publishes (r : JobResult) (s : State) :
    ∃ c w, PublishedAs (r.x.map (satS 32)) s.dsp.td false false 0 (runEnded s) (publishConverged r s) c ∧
      (publishConverged r s).dsp.own = some w ∧ w.vec = r.warm ∧ w.sig = s.host.modelSig ∧
      (publishConverged r s).dsp.stopped = false := by
  obtain ⟨c, hc⟩ := publish_publishedAs (r.x.map (satS 32)) s.dsp.td false false 0 0 r (runEnded s)
  have hsame := SameDispatch.of_dspView (dspView_publishConverged r s)
  have hstopped : (publish (r.x.map (satS 32)) s.dsp.td false false 0 0 r (runEnded s)).dsp.stopped = false := rfl
  have hsig : (publish (r.x.map (satS 32)) s.dsp.td false false 0 0 r (runEnded s)).host.modelSig = s.host.modelSig := rfl
  generalize publish (r.x.map (satS 32)) s.dsp.td false false 0 0 r (runEnded s) = p at hc hsame hstopped hsig
  refine ⟨c, warmOf r s.model.image p, ⟨hc.number, hc.sched, hc.td, hc.tdSol, hc.isShifted, hc.isEmpty, ?_, ?_, ?_, ?_, ?_, ?_, ?_⟩,
    ?_, rfl, hsig, ?_⟩
  all_goals simp only [hsame.dsp, hsame.resDsp, candidateKept, onDsp_dsp, onDsp_host, hc.phase, hc.tdlDue, hc.cause, hc.cur, hc.last,
    hc.shiftRun, hc.resDsp, hstopped]

/-! ### A period without a converged job (R300, R301, R308) -/

/-- The run of SHIFTED results grows by one. -/
def runLonger (s : State) : State := onDsp (fun d => { d with shiftRun := d.shiftRun + 1, shiftCnt := min 65535 (d.shiftCnt + 1) }) s

/-- The alarm and the stop that a long run raises. -/
def runAlarms (s : State) : State :=
  let s := if actN s 0x090E != 0 && decide (actN s 0x090E ≤ s.dsp.shiftRun) && !s.dsp.alarmed then
      dspEvent 0x0912 42 (onDsp (fun d => { d with alarmed := true }) s)
    else s
  if actN s 0x090F != 0 && decide (actN s 0x090F ≤ s.dsp.shiftRun) && !s.dsp.stopped then
    dspEvent 0x0913 42 (onDsp (fun d => { d with stopped := true }) s)
  else s

theorem dspEvent_dsp (code src : Nat) (s : State) : (dspEvent code src s).dsp = s.dsp := raise_dsp ..

theorem dspEvent_resDsp (code src : Nat) (s : State) : (dspEvent code src s).host.resDsp = s.host.resDsp := raise_host_resDsp ..

/-- They change nothing but themselves. -/
theorem runAlarms_frame (s : State) : (∃ a b, (runAlarms s).dsp = { s.dsp with alarmed := a, stopped := b }) ∧
    (runAlarms s).host.resDsp = s.host.resDsp := by
  unfold runAlarms
  dsimp only
  constructor
  · split <;> split
    case isFalse.isFalse => exact ⟨_, _, rfl⟩
    all_goals
      simp only [dspEvent_dsp, onDsp_dsp]
      exact ⟨_, _, rfl⟩
  · split <;> split
    all_goals simp only [dspEvent_resDsp, onDsp_host]

/-- What a period without a converged job leaves when it has published. -/
def shiftedEnd (sh : Nat) (s : State) : State := runAlarms (raise 0x0911 41 s.host.resDsp s.dsp.cause sh s)

theorem PublishedAs.shiftedEnd {sched : List Int} {tdSol : Nat} {shifted empty : Bool} {cause : Nat} {s t : State} {c : Pub}
    (h : PublishedAs sched tdSol shifted empty cause s t c) (sh : Nat) :
    PublishedAs sched tdSol shifted empty cause s (shiftedEnd sh t) c := by
  obtain ⟨⟨a, b, hdsp⟩, hres⟩ := runAlarms_frame (raise 0x0911 41 t.host.resDsp t.dsp.cause sh t)
  rw [raise_dsp] at hdsp
  rw [raise_host_resDsp] at hres
  refine ⟨h.number, h.sched, h.td, h.tdSol, h.isShifted, h.isEmpty, ?_, ?_, ?_, ?_, ?_, ?_, hres.trans h.resDsp⟩
  all_goals rw [Machine.shiftedEnd, hdsp]
  exacts [h.phase, h.tdlDue, h.cause, h.cur, h.last, h.shiftRun]

/-- The last publication of the model in effect is published shifted. -/
theorem publishShifted_of_last {s : State} {p : Pub} (cause : Nat) (hlast : s.dsp.last = some p) (hsig : p.sig = s.host.modelSig) :
    ∃ c, PublishedAs (shiftVec (horizon s.model.image) (nVar s.model.image) (shiftOf s p.step0) p.sched) p.tdSol true false cause
      (runLonger s) (publishShifted cause s) c := by
  have heq : publishShifted cause s = shiftedEnd (shiftOf s p.step0) (publish (shiftVec (horizon s.model.image) (nVar s.model.image)
      (shiftOf s p.step0) p.sched) p.tdSol true false cause (shiftOf s p.step0) {} (runLonger s)) := by
    have hlast' : (runLonger s).dsp.last = some p := hlast
    have hsig' : p.sig = (runLonger s).host.modelSig := hsig
    unfold publishShifted
    dsimp only
    rw [← runLonger, hlast']
    simp only [if_pos hsig']
    rfl
  obtain ⟨c, hc⟩ := publish_publishedAs (shiftVec (horizon s.model.image) (nVar s.model.image) (shiftOf s p.step0) p.sched) p.tdSol
    true false cause (shiftOf s p.step0) {} (runLonger s)
  exact ⟨c, heq ▸ hc.shiftedEnd _⟩

/-- Without a publication of the model in effect the period's is EMPTY. -/
theorem publishShifted_empty {s : State} (cause : Nat) (hlast : ∀ p, s.dsp.last = some p → p.sig ≠ s.host.modelSig) :
    ∃ c, PublishedAs (List.replicate (horizon s.model.image * nVar s.model.image) 0) 0 true true cause (runLonger s)
      (publishShifted cause s) c := by
  have heq : publishShifted cause s = shiftedEnd 0 (publish (List.replicate (horizon s.model.image * nVar s.model.image) 0) 0 true true
      cause 0 {} (runLonger s)) := by
    unfold publishShifted
    dsimp only
    rw [← runLonger]
    cases hp : (runLonger s).dsp.last with
    | none => rfl
    | some p =>
      have hsig : ¬p.sig = (runLonger s).host.modelSig := hlast p hp
      simp only [if_neg hsig]
      rfl
  obtain ⟨c, hc⟩ := publish_publishedAs (List.replicate (horizon s.model.image * nVar s.model.image) 0) 0 true true cause 0 {}
    (runLonger s)
  exact ⟨c, heq ▸ hc.shiftedEnd _⟩

end Sys2Proof.Machine
end

section
/-! SUPPORT. The build of the dispatch period and its arm (R281, R293, R297), and the hand-off (R303). -/

namespace Sys2Proof.Machine

/-! ### What the build leaves (R295, R297, R302) -/

/-- What the build leaves as it is: the queues, the time, estimation, the publications, the parameters, the period and its candidates. -/
structure BuildKeeps (s t : State) : Prop where
  queues : t.ox.q = s.ox.q
  time : t.time = s.time
  est : t.est = s.est
  resDsp : t.host.resDsp = s.host.resDsp
  params : t.host.params = s.host.params
  uncommitted : t.host.uncommitted = s.host.uncommitted
  td : t.dsp.td = s.dsp.td
  tdl : t.dsp.tdl = s.dsp.tdl
  own : t.dsp.own = s.dsp.own
  peer : t.dsp.peer = s.dsp.peer

theorem BuildKeeps.refl (s : State) : BuildKeeps s s := ⟨rfl, rfl, rfl, rfl, rfl, rfl, rfl, rfl, rfl, rfl⟩

section

variable {s t : State} (h : BuildKeeps s t)

include h

theorem BuildKeeps.raise (c k p q r : Nat) : BuildKeeps s (raise c k p q r t) := by
  constructor <;> simp only [raise_ox, raise_time, raise_est, raise_host_resDsp, raise_host_params, raise_host_uncommitted, raise_dsp]
  exacts [h.queues, h.time, h.est, h.resDsp, h.params, h.uncommitted, h.td, h.tdl, h.own, h.peer]

theorem BuildKeeps.setFactor (q st piv : Nat) : BuildKeeps s (setFactor q st piv t) :=
  ⟨h.queues, h.time, h.est, h.resDsp, h.params, h.uncommitted, h.td, h.tdl, h.own, h.peer⟩

theorem BuildKeeps.drawn : BuildKeeps s t.drawn :=
  ⟨h.queues, h.time, h.est, h.resDsp, h.params, h.uncommitted, h.td, h.tdl, h.own, h.peer⟩

theorem BuildKeeps.onDsp {f : DspSt → DspSt}
    (hf : ∀ d, ((f d).td, (f d).tdl, (f d).own, (f d).peer) = (d.td, d.tdl, d.own, d.peer) := by exact fun _ => rfl) :
    BuildKeeps s (onDsp f t) := by
  have hd := hf t.dsp
  simp only [Prod.mk.injEq] at hd
  obtain ⟨htd, htdl, hown, hpeer⟩ := hd
  exact ⟨h.queues, h.time, h.est, h.resDsp, h.params, h.uncommitted, htd.trans h.td, htdl.trans h.tdl, hown.trans h.own,
    hpeer.trans h.peer⟩

theorem BuildKeeps.adaptSigma : BuildKeeps s (adaptSigma t) := by
  unfold Machine.adaptSigma
  split
  · exact h
  · exact .setFactor h.onDsp ..

theorem BuildKeeps.setPenalty (k : Int) (r : Rat) : BuildKeeps s (setPenalty k r t) := by
  unfold Machine.setPenalty
  dsimp only
  exact .raise (.setFactor h.onDsp ..) ..

theorem BuildKeeps.adaptPenalty : BuildKeeps s (adaptPenalty t) := by
  unfold Machine.adaptPenalty
  split
  · exact h
  · dsimp only
    split
    · exact h
    · split
      · exact h
      · refine .setPenalty ?_ ..
        split
        · exact h.drawn
        · exact h

theorem BuildKeeps.inputEvent : BuildKeeps s (inputEvent t) := by
  unfold Machine.inputEvent
  dsimp only
  split
  · exact .raise h.onDsp ..
  · exact h.onDsp

theorem BuildKeeps.chooseStart : BuildKeeps s (chooseStart t) := by
  unfold Machine.chooseStart
  split
  · exact h.onDsp
  · exact .raise h.onDsp ..

end

/-- Without a candidate the job starts cold (R297). -/
theorem chooseStart_cold {s : State} (hown : s.dsp.own = none) (hpeer : s.dsp.peer = none) :
    (chooseStart s).dsp.cold = true ∧ (chooseStart s).dsp.problem.start = none := by
  have hstart : warmStart s = .error 0x0911 := by simp [warmStart, warmChoice, hown, hpeer]
  unfold chooseStart
  rw [hstart]
  simp

/-! ### The arm of the build's job (R281, R293) -/

/-- The problem is built, before its starting vector is chosen. -/
def problemBuilt (s : State) : State :=
  inputEvent (onDsp (fun d => { d with flags := buildFlags s, problem := buildProblem s, rebuild := false }) s).drawn

/-- The build is finished, and says whether its job refactorises. -/
def buildDone (s : State) : State := onDsp (fun d => { d with building := false, refact := nth 0 s.ox.factor 1 != 1 }) s

/-- The state in which the job is armed. -/
def armState (s : State) : State := buildDone (chooseStart (problemBuilt (adaptPenalty (adaptSigma s))))

theorem BuildKeeps.problemBuilt {s t : State} (h : BuildKeeps s t) : BuildKeeps s (problemBuilt t) :=
  .inputEvent (.drawn h.onDsp)

theorem buildKeeps_armState (s : State) : BuildKeeps s (armState s) := by
  unfold armState buildDone
  exact (BuildKeeps.refl s).adaptSigma.adaptPenalty.problemBuilt.chooseStart.onDsp

theorem armState_cold {s : State} (hown : s.dsp.own = none) (hpeer : s.dsp.peer = none) :
    (armState s).dsp.cold = true ∧ (armState s).dsp.problem.start = none := by
  have hkeeps := (BuildKeeps.refl s).adaptSigma.adaptPenalty.problemBuilt
  exact chooseStart_cold (hkeeps.own.trans hown) (hkeeps.peer.trans hpeer)

/-- What the build writes to arm its job. -/
def admmReq (s : State) : ArmReq :=
  { prog := 0x0A, iterLimit := actN s 0x0904, bench := false, deadline := s.dsp.tdl, refact := nth 0 s.ox.factor 1 != 1 }

/-- The arm is noted: a job that ended at its arm gives its cause at once. -/
def armNoted (s : State) : State :=
  onDsp (fun d => { d with armed := true, phase := 2, result := {}, jobCause := if (oxq s 1).state = 0 then some 3 else none }) s

theorem dispatchArm_armed {s t : State} (hworks : malorWorks s = true) (henabled : enabled s 9 0 = true)
    (hbuilding : s.dsp.building = true) (himage : s.model.image ≠ []) (harm : oxArm 1 (admmReq (armState s)) (armState s) = some t) :
    dispatchArm s = armNoted t := by
  have hbuilt : dispatchArm s = match oxArm 1 (admmReq (armState s)) (armState s) with
      | none => armState s
      | some u => armNoted u := if_neg (by simp [hworks, henabled, hbuilding, modelHere, himage])
  rw [hbuilt, harm]

theorem oxNeed_frame (s : State) : ∃ p, oxNeed s = { s with power := p } := by
  unfold oxNeed
  repeat' split
  all_goals exact ⟨_, rfl⟩

/-- A job armed in time on a factor that can be used waits for Ox or runs. -/
theorem armNow_waits_or_runs {s : State} {a : ArmReq} (hq : 1 < s.ox.q.length) (hd : deadlineReached s a.deadline = false)
    (hf : factorUnusable s 1 a = false) (h0 : (oxq s 0).state = 0) : (oxq (armNow 1 a s) 1).state ≠ 0 ∧
      (oxq (armNow 1 a s) 1).arm = a ∧ (oxq (armNow 1 a s) 1).job = wrapInc 32 (oxq s 1).job ∧ (armNow 1 a s).dsp = s.dsp ∧
      (armNow 1 a s).est = s.est ∧ (armNow 1 a s).host = s.host := by
  have hf' : factorUnusable (setQ 1 (armedQ 1 a s) s) 1 a = false := hf
  have hnow : armNow 1 a s = oxKick (oxNeed (setQ 1 (armedQ 1 a s) s)) := by
    unfold armNow armStart
    dsimp only
    rw [armRecord_armCount a hq, jobLate_armed hq hd, hf', if_neg Bool.false_ne_true, if_neg Bool.false_ne_true]
  obtain ⟨p, hneed⟩ := oxNeed_frame (setQ 1 (armedQ 1 a s) s)
  have hself : oxq (oxNeed (setQ 1 (armedQ 1 a s) s)) 1 = armedQ 1 a s := by
    rw [hneed]
    exact oxq_setQ_same _ hq
  have hfree : (oxq (oxNeed (setQ 1 (armedQ 1 a s) s)) 0).state = 0 := by
    rw [hneed]
    exact (congrArg OxQueue.state (oxq_setQ_other (armedQ 1 a s) s (Nat.zero_ne_one))).trans h0
  have hlen : 1 < (oxNeed (setQ 1 (armedQ 1 a s) s)).ox.q.length := by
    rw [hneed]
    exact (length_setQ ..).symm ▸ hq
  rw [hnow]
  cases hrun : oxCanRun (oxNeed (setQ 1 (armedQ 1 a s) s)) with
  | false =>
    have hwaits : oxKick (oxNeed (setQ 1 (armedQ 1 a s) s)) = oxNeed (setQ 1 (armedQ 1 a s) s) := if_pos (by simp [hrun])
    rw [hwaits, hself, hneed]
    exact ⟨Nat.one_ne_zero, rfl, rfl, rfl, rfl, rfl⟩
  | true =>
    rw [oxKick_dispatch hrun hfree (by rw [hself]; rfl), oxRun_eq_setQ, oxq_setQ_same _ hlen, hself, hneed]
    exact ⟨Nat.succ_ne_zero 1, rfl, rfl, rfl, rfl, rfl⟩

/-- A finished build arms its job for tdl. -/
theorem dispatchArm_arms {s : State} (hworks : malorWorks s = true) (henabled : enabled s 9 0 = true)
    (hbuilding : s.dsp.building = true) (himage : s.model.image ≠ []) (hq : 1 < s.ox.q.length) (h1 : (oxq s 1).state = 0)
    (h0 : (oxq s 0).state = 0) (hahead : deadlineReached s s.dsp.tdl = false) :
    ∃ u, dispatchArm s = armNoted u ∧ (oxq u 1).state ≠ 0 ∧ (oxq u 1).arm = admmReq (armState s) ∧
      (oxq u 1).job = wrapInc 32 (oxq s 1).job ∧ u.dsp = (armState s).dsp ∧ u.est = s.est ∧ u.host.resDsp = s.host.resDsp := by
  have hkeeps := buildKeeps_armState s
  have hidle (q : Nat) : oxq (armState s) q = oxq s q := oxq_congr hkeeps.queues q
  have hdead : deadlineReached (armState s) (admmReq (armState s)).deadline = false := by
    rw [← hahead, admmReq, deadlineReached, deadlineReached, hkeeps.time, hkeeps.tdl]
  have husable : factorUnusable (armState s) 1 (admmReq (armState s)) = false := by
    simp [factorUnusable, admmReq]
  obtain ⟨hstate, harm, hjob, hdsp, hest, hhost⟩ := armNow_waits_or_runs (by rwa [hkeeps.queues]) hdead husable (by rwa [hidle])
  exact ⟨_, dispatchArm_armed hworks henabled hbuilding himage (oxArm_idle _ (by rwa [hidle])), hstate, harm,
    by rw [hjob, hidle], hdsp, hest.trans hkeeps.est, (congrArg HostSt.resDsp hhost).trans hkeeps.resDsp⟩

/-! ### What the hand-off leaves of dispatch (R303, R504, R529) -/

/-- Dispatch's state and the index of its publications. This does not unfold by itself, so that `simp` compares it as one value. -/
def publications (d : DspSt) (k : Nat) : DspSt × Nat := (d, k)

/-- What the destinations of a hand-off leave of dispatch. -/
abbrev handSide (s : State) : DspSt × Nat := publications s.dsp s.host.resDsp

theorem handSide_fields {s t : State} (h : handSide t = handSide s) : t.dsp = s.dsp ∧ t.host.resDsp = s.host.resDsp := by
  simpa [handSide, publications] using h

@[simp] theorem handSide_ite (c : Prop) [Decidable c] (a b : State) :
    handSide (if c then a else b) = if c then handSide a else handSide b := apply_ite handSide c a b

@[simp] theorem handSide_foldl {α : Type} {f : State → α → State} (h : ∀ s a, handSide (f s a) = handSide s) (l : List α)
    (s : State) : handSide (l.foldl f s) = handSide s := by
  induction l generalizing s with
  | nil => rfl
  | cons a l ih => rw [List.foldl_cons, ih, h]

section

variable (n k i j a : Nat) (b : Bytes) (v : Int) (s : State)

@[simp] theorem handSide_raise : handSide (raise n k i j a s) = handSide s := by simp [handSide]
@[simp] theorem handSide_onNet (f : NetSt → NetSt) : handSide (onNet f s) = handSide s := rfl
@[simp] theorem handSide_loopHand : handSide (loopHand n v s) = handSide s := by
  unfold loopHand; split <;> rfl
@[simp] theorem handSide_axisTarget : handSide (axisTarget n v s).1 = handSide s := by
  unfold axisTarget; dsimp only; repeat' split
  all_goals rfl
@[simp] theorem handSide_axisHand : handSide (axisHand n v s) = handSide s := by
  unfold axisHand; dsimp only; split
  · rfl
  · exact handSide_axisTarget ..
@[simp] theorem handSide_onObj (f : CanObj → CanObj) : handSide (onObj n k f s) = handSide s := rfl
@[simp] theorem handSide_canOffer : handSide (canOffer n s) = handSide s := by
  unfold canOffer; repeat' split
  all_goals rfl
@[simp] theorem handSide_canWrite : handSide (canWrite n k i b s) = handSide s := by
  simp only [canWrite, objPend, handSide_ite, handSide_canOffer, handSide_onObj, ite_self]
@[simp] theorem handSide_canHand : handSide (canHand n k i v s) = handSide s := by
  unfold canHand; split
  · rfl
  · rfl
  · rfl
  · rw [handSide_onObj, handSide_canWrite]
@[simp] theorem handSide_portSend (m : OutMsg) : handSide (portSend n m s) = handSide s := rfl
@[simp] theorem handSide_bcastSend : handSide (bcastSend b s n) = handSide s := by
  unfold bcastSend; dsimp only; repeat' split
  all_goals simp only [handSide_onNet, handSide_portSend]
@[simp] theorem handSide_bcastGroup : handSide (bcastGroup n b s k) = handSide s := by simp [bcastGroup]
@[simp] theorem handSide_broadcast : handSide (broadcast n b s) = handSide s := by
  unfold broadcast; repeat' split
  all_goals simp
@[simp] theorem handSide_bcastNew : handSide (bcastNew n b s) = handSide s := by simp [bcastNew]
@[simp] theorem handSide_bulkNew (o : Bulk) : handSide (bulkNew o s) = handSide s := by
  unfold bulkNew; split <;> rfl
@[simp] theorem handSide_handEntry (p : Pub) : handSide (handEntry p n s) = handSide s := by
  unfold handEntry; dsimp only; split <;> simp

end

/-- What a hand-off notes of the publication that it applied: its step 0, and that the period's hand-off has taken place. -/
theorem handApply_notes (p : Pub) (s : State) : (∃ tc d w, (handApply p s).dsp = { s.dsp with
      lastTc := tc, lastD := d, appliedW := w, handoffs := satInc 32 s.dsp.handoffs, entries := (usedHand s).length, skipped := false
      lastShifted := p.shifted }) ∧ (handApply p s).host.resDsp = s.host.resDsp := by
  have hsent (o : Bulk) (pt : Bytes) : handSide (bulkNew o (bcastNew p.number pt ((usedHand s).foldl (fun s i => handEntry p i s) s))) =
      handSide s := by simp
  unfold handApply
  dsimp only
  rw [onDsp_dsp, onDsp_host, (handSide_fields (hsent _ _)).1, (handSide_fields (hsent _ _)).2]
  exact ⟨⟨_, _, _, rfl⟩, rfl⟩

end Sys2Proof.Machine
end

section
/-! The dispatch period: O39. -/

namespace Sys2Proof.Machine

/-! ### The boundary (R278) -/

/-- No switch comes before a boundary at a held pulse that it does not precede (R200). -/
theorem switchFirst_skips {s : State} {n : Nat} (hpulse : s.time.pulse15 = some n)
    (hswitch : s.model.switching = false ∨ n < s.model.tsw) : switchFirst 15 s = s := by
  have hdue : dueBoundary 15 s = some n := by simp [dueBoundary, hpulse]
  unfold switchFirst
  rw [hdue]
  dsimp only
  split
  · next hle =>
    have hoff : s.model.switching = false := hswitch.resolve_right (by omega)
    exact if_pos (by simp [hoff])
  · rfl

/-- A boundary takes its pulse and begins the period. -/
theorem exec_dispatchBoundary_begins {s : State} {n : Nat} (hsolving : solving s = true) (henabled : enabled s 9 0 = true)
    (hpulse : s.time.pulse15 = some n) (hswitch : s.model.switching = false ∨ n < s.model.tsw) :
    exec .dispatchBoundary s = .next (dispatchBegin n (onTime (fun t => { t with pulse15 := none }) s)) := by
  have htake : takePulse 15 s = (some n, onTime (fun t => { t with pulse15 := none }) s) := by
    simp [takePulse, hpulse]
  show Host.Outcome.next (dspBoundary (switchFirst 15 s)) = _
  rw [switchFirst_skips hpulse hswitch, dspBoundary, hsolving, henabled, htake]
  rfl

/-! ### A job that has ended (R294, R300, R301) -/

/-- The outcome of a converged job is its publication. -/
theorem dispatchJobEnd_converged {s : State} (henabled : enabled s 9 0 = true) (harmed : s.dsp.armed = true)
    (hdue : s.dsp.tdlDue = true) (hconverged : converged s s.dsp.result = true) :
    dispatchJobEnd 0 s = publishConverged s.dsp.result s := by
  unfold dispatchJobEnd
  rw [if_neg (by simp [henabled, harmed, hdue])]
  exact if_pos hconverged

/-- A job whose program is over, in time and converged: the result unit publishes it. -/
theorem exec_oxJobEnd_converged {s : State} (d : Nat) (henabled : enabled s 9 0 = true) (harmed : s.dsp.armed = true)
    (hdue : s.dsp.tdlDue = true) (hphase : s.dsp.phase = 2) (hcause : s.dsp.jobCause = none) (hq : 1 < s.ox.q.length)
    (hclock : oxClock s = true) (hstate : (oxq s 1).state = 2) (hnext : (oxq s 1).next = none) (hstage : (oxq s 1).stage = .over)
    (hbench : (oxq s 1).arm.bench = false) (hlate : jobLate s 1 = false) (hsound : isDegraded (oxq s 1) = false)
    (hconverged : converged s s.dsp.result = true) :
    ∃ t w, exec (.oxJobEnd 1 d) s = .next t ∧ SameDispatch s w ∧ dspView t = dspView (publishConverged s.dsp.result w) := by
  have hlen : 1 < (setQ 1 (withDram d (oxq s 1)) s).ox.q.length := by rwa [length_setQ]
  have hself := oxq_setQ_same (withDram d (oxq s 1)) hq
  obtain ⟨hidle, houtcome, harm⟩ := oxEnd_published (n := 0) (by decide) hlen (by rw [hself]; exact hnext)
  have hend := oxJobEnd_complete d hq hclock hstate hstage hlate hsound
  have hview : dspView (oxJobEnd 1 d s) = dspView s := by
    rw [hend, dspView_boundaryRelock, dspView_oxEnd]
    rfl
  have hqueue : oxq (oxJobEnd 1 d s) 1 = oxq (oxEnd 1 0 (setQ 1 (withDram d (oxq s 1)) s)) 1 := by
    rw [hend]
    exact oxq_congr (congrArg OxSt.q (boundaryRelock_ox _)) 1
  have hsame := SameDispatch.of_dspView ((dspView_hearNewton _).trans hview)
  have hdsp := (SameDispatch.of_dspView hview).dsp
  have hheard := dspView_oxHear_of_end (s := oxJobEnd 1 d s) (by rw [hdsp, hphase]) (by rw [hqueue, hidle])
    (by rw [hqueue, harm, hself]; exact hbench) (by rw [hdsp, hcause])
  rw [hqueue, houtcome, dispatchJobEnd_converged (by rw [hsame.enabled, henabled]) (by rw [hsame.dsp, harmed])
    (by rw [hsame.dsp, hdue]) (by rw [converged_congr hsame.act, hsame.dsp, hconverged]), hsame.dsp] at hheard
  exact ⟨_, _, exec_oxJobEnd .., hsame, hheard⟩

/-! ### tdl (R300, R301) -/

/-- A moment of the period that is due and reached is not passed over. -/
theorem moment_reached {a b due hit late : Bool} (ha : a = true) (hb : b = true) (hdue : due = true) (h : hit = true ∨ late = true) :
    ¬((!(a && b && due && (hit || late))) = true) := by
  rcases h with h | h <;> simp [ha, hb, hdue, h]

/-- A moment that is not due or not reached is passed over. -/
theorem moment_ahead {a b due hit late : Bool} (h : due = false ∨ (hit = false ∧ late = false)) :
    (!(a && b && due && (hit || late))) = true := by
  rcases h with h | ⟨hhit, hlate⟩
  · simp [h]
  · simp [hhit, hlate]

/-- The cause of a period without a converged result. -/
def missCause (d : DspSt) : Nat := if d.noState then 5 else if d.armed then d.jobCause.getD 3 else 4

/-- At tdl the period's cause is published, after a job that still runs has been stopped. -/
theorem exec_dispatchDeadline_publishes {s : State} (hruns : plantRuns s = true) (henabled : enabled s 9 0 = true)
    (hdue : s.dsp.tdlDue = true) (hreached : s.dsp.tdlHit = true ∨ deadlineReached s s.dsp.tdl = true) :
    ∃ w, exec .dispatchDeadline s = .next (publishShifted (missCause s.dsp) w) ∧ SameDispatch s w := by
  have hview : dspView (if s.dsp.armed then oxTimeout 1 s else s) = dspView s := by
    rw [dspView_ite, dspView_oxTimeout, ite_self]
  have hsame := SameDispatch.of_dspView hview
  refine ⟨_, ?_, hsame⟩
  show Host.Outcome.next (dispatchDeadline s) = _
  unfold dispatchDeadline
  rw [if_neg (moment_reached hruns henabled hdue hreached)]
  dsimp only
  rw [hsame.dsp, missCause]
  cases s.dsp.armed <;> rfl

/-! ### ta (R303) -/

/-- The period's hand-off is due no more. -/
def taTaken (s : State) : State := onDsp (fun d => { d with taDue := false }) s

/-- The period's hand-off is skipped. -/
def handSkipped (s : State) : State := onDsp (fun d => { d with skipped := true, entries := 0 }) s

section

variable {s : State} (hrun : inRun s = true) (henabled : enabled s 9 0 = true) (hdue : s.dsp.taDue = true)
  (hreached : s.dsp.taHit = true ∨ deadlineReached s s.dsp.ta = true)

include hrun henabled hdue hreached

theorem exec_dispatchApply_reached : exec .dispatchApply s = .next (match s.dsp.cur with
    | some p => if p.empty = true ∨ s.dsp.stopped = true then handSkipped (taTaken s) else handApply p (taTaken s)
    | none => handSkipped (taTaken s)) :=
  congrArg Host.Outcome.next (if_neg (moment_reached hrun henabled hdue hreached))

/-- At ta a publication that is EMPTY, stopped or missing is skipped. -/
theorem exec_dispatchApply_skips
    (hnone : s.dsp.cur = none ∨ s.dsp.stopped = true ∨ ∃ p, s.dsp.cur = some p ∧ p.empty = true) :
    exec .dispatchApply s = .next (handSkipped (taTaken s)) := by
  rw [exec_dispatchApply_reached hrun henabled hdue hreached]
  cases hcur : s.dsp.cur with
  | none => rfl
  | some p =>
    have hskip : p.empty = true ∨ s.dsp.stopped = true := by simpa [hcur, or_comm] using hnone
    exact congrArg _ (if_pos hskip)

/-- At ta another publication is handed off. -/
theorem exec_dispatchApply_hands {p : Pub} (hcur : s.dsp.cur = some p) (hempty : p.empty = false) (hstopped : s.dsp.stopped = false) :
    exec .dispatchApply s = .next (handApply p (taTaken s)) := by
  rw [exec_dispatchApply_reached hrun henabled hdue hreached, hcur]
  exact congrArg _ (if_neg (by simp [hempty, hstopped]))

end

/-! ### The period -/

/-- Settles O39: each moment of the period by the rule of its operation. That program calls come with their block's end (log 14) and what
EMPTY and SHIFTED publications carry (log 17) are the model's choices. -/
theorem dispatchPeriod : Obligations.DispatchPeriod := by
  unfold Obligations.DispatchPeriod
  refine ⟨fun s n hsolving hen hpulse hswitch => ?begins, fun s hworks hen hb hm hl h1 h0 hd => ?arms, fun s hb => ?noBuild,
    fun s h hclock hl hs hprev hnext hok hlate h0 hsound hstage => ?tested,
    fun s r d hen harmed hdue hphase hcause hl hclock hs hnext hprev hstage hbench hlate hsound hr hconv => ?converged,
    fun s hruns hen hdue hreached => ?shifted, fun s h => ?early, fun s hrun hen hdue hreached hnone => ?skipped,
    fun s p hrun hen hdue hreached hcur hempty hstopped => ?handed, fun s h => ?waiting⟩
  case begins =>
    exact ⟨_, exec_dispatchBoundary_begins hsolving hen hpulse hswitch, rfl,
      rfl, rfl, rfl, rfl, rfl, rfl, rfl, rfl, rfl, rfl, rfl, rfl, rfl⟩
  case arms =>
    obtain ⟨u, harm, hstate, hreq, hjob, hdsp, hest, hres⟩ := dispatchArm_arms hworks hen hb hm (by omega) h1 h0 hd
    have hkeeps := buildKeeps_armState s
    have hqueue : oxq (armNoted u) 1 = oxq u 1 := rfl
    refine ⟨armNoted u, congrArg _ harm, congrArg DspSt.building hdsp, rfl, rfl, if_neg hstate, ?_, ?_, ?_, hjob, fun hown hpeer => ?_,
      (congrArg DspSt.td hdsp).trans hkeeps.td, hest, hres⟩
    · rw [hqueue, hreq]
      rfl
    · rw [hqueue, hreq]
      exact hkeeps.tdl
    · rw [hqueue, hreq]
      simp only [admmReq, actN, act, par, hkeeps.uncommitted, hkeeps.params]
    · obtain ⟨hcold, hstart⟩ := armState_cold hown hpeer
      exact ⟨(congrArg DspSt.cold hdsp).trans hcold, (congrArg (fun d : DspSt => d.problem.start) hdsp).trans hstart⟩
  case noBuild =>
    exact congrArg _ (if_pos (by simp [hb]))
  case tested =>
    exact exec_oxBlockEnd_test ⟨by omega, by simp [jobRuns, hclock, hs], hs, hprev, hlate, hsound, fun _ => by omega⟩ hok hstage
  case converged =>
    subst hr
    obtain ⟨t, u, hexec, hsame, hview⟩ := exec_oxJobEnd_converged d hen harmed hdue hphase hcause (by omega) hclock hs hnext hstage
      hbench hlate hsound hconv
    obtain ⟨c, w, hpub, hown, hvec, hsig, hstopped⟩ := publishConverged_publishes s.dsp.result u
    have hout := SameDispatch.of_dspView hview
    have hres : t.host.resDsp = nextNumber (runEnded u) := hout.resDsp.trans hpub.resDsp
    refine ⟨t, c, w, hexec, ?_, ?_, ?_, ?_, ?_, ?_, hpub.number.trans hres.symm, hpub.sched, hpub.isShifted, hpub.isEmpty, ?_, ?_, ?_,
      hvec, hsig.trans hsame.modelSig, ?_⟩
    · rw [hout.dsp, hpub.phase]
    · rw [hout.dsp, hpub.cause]
    · rw [hout.dsp, hpub.shiftRun]
      rfl
    · rw [hout.dsp, hpub.tdlDue]
    · rw [hres, ← hsame.resDsp]
      rfl
    · rw [hout.dsp, hpub.cur]
    · rw [hpub.td, ← hsame.dsp]
      rfl
    · rw [hout.dsp, hpub.last]
      rfl
    · rw [hout.dsp, hown]
    · rw [hout.dsp, hstopped]
  case shifted =>
    obtain ⟨u, hexec, hsame⟩ := exec_dispatchDeadline_publishes hruns hen hdue hreached
    have hrun : (runLonger u).dsp.shiftRun = s.dsp.shiftRun + 1 := congrArg (fun d => d.shiftRun + 1) hsame.dsp
    have hnumber : nextNumber (runLonger u) = (s.host.resDsp + 1) % 2 ^ 32 := congrArg (fun k => (k + 1) % 2 ^ 32) hsame.resDsp
    have hlast : (runLonger u).dsp.last = s.dsp.last := (congrArg DspSt.last hsame.dsp :)
    by_cases hbase : ∃ p, s.dsp.last = some p ∧ p.sig = s.host.modelSig
    · obtain ⟨p, hp, hsig⟩ := hbase
      obtain ⟨c, hc⟩ := publishShifted_of_last (s := u) (missCause s.dsp) (by rw [hsame.dsp, hp]) (by rw [hsame.modelSig, hsig])
      refine ⟨_, c, hexec, hc.phase, hc.tdlDue, hc.shiftRun.trans hrun, hc.resDsp.trans hnumber, hc.cur, hc.number.trans hc.resDsp.symm,
        hc.cause, fun p' hp' _ => ?_, fun hother => absurd hsig (hother p hp)⟩
      obtain rfl : p = p' := Option.some.inj (hp.symm.trans hp')
      refine ⟨hc.isShifted, hc.isEmpty, hc.tdSol, ?_, hc.last⟩
      rw [hc.sched, hsame.model, hsame.shiftOf]
    · have hother (p : Pub) (hp : s.dsp.last = some p) : p.sig ≠ s.host.modelSig := fun hsig => hbase ⟨p, hp, hsig⟩
      obtain ⟨c, hc⟩ := publishShifted_empty (s := u) (missCause s.dsp) (by rw [hsame.dsp, hsame.modelSig]; exact hother)
      refine ⟨_, c, hexec, hc.phase, hc.tdlDue, hc.shiftRun.trans hrun, hc.resDsp.trans hnumber, hc.cur, hc.number.trans hc.resDsp.symm,
        hc.cause, fun p hp hsig => absurd hsig (hother p hp), fun _ => ⟨hc.isEmpty, ?_, hc.last.trans hlast⟩⟩
      rw [hc.sched, hsame.model]
  case early =>
    exact congrArg _ (if_pos (moment_ahead h))
  case skipped =>
    exact exec_dispatchApply_skips hrun hen hdue hreached hnone
  case handed =>
    obtain ⟨⟨tc, dd, w, hdsp⟩, hres⟩ := handApply_notes p (taTaken s)
    exact ⟨_, exec_dispatchApply_hands hrun hen hdue hreached hcur hempty hstopped, congrArg DspSt.taDue hdsp,
      congrArg DspSt.skipped hdsp, congrArg DspSt.lastShifted hdsp, congrArg DspSt.handoffs hdsp, congrArg DspSt.entries hdsp, hres,
      (congrArg DspSt.last hdsp :)⟩
  case waiting =>
    exact congrArg _ (if_pos (moment_ahead h))

end Sys2Proof.Machine
end

section
/-! SUPPORT. Steps of ONT (R318, R333): what a comparison of the trigger units in full makes of each unit and leaves of the part, and
what a step writes. -/

namespace Sys2Proof.Machine

/-! ### What stands beside the time unit -/

/-- The power controller, MGMT and the written parameters. This does not unfold by itself, so that `simp` compares it as one value. -/
def surroundings (p : PowerSt) (m : MgmtSt) (l : List (Nat × Int)) : PowerSt × MgmtSt × List (Nat × Int) := (p, m, l)

/-- What the operations of the time unit leave. -/
abbrev besideTime (s : State) : PowerSt × MgmtSt × List (Nat × Int) := surroundings s.power s.mgmt s.host.params

theorem besideTime_fields {s t : State} (h : besideTime t = besideTime s) :
    t.power = s.power ∧ t.mgmt = s.mgmt ∧ t.host.params = s.host.params := by
  simpa [besideTime, surroundings] using h

@[simp] theorem besideTime_ite (c : Prop) [Decidable c] (a b : State) :
    besideTime (if c then a else b) = if c then besideTime a else besideTime b := apply_ite besideTime c a b

@[simp] theorem besideTime_raise (c k p q r : Nat) (s : State) : besideTime (raise c k p q r s) = besideTime s := by
  simp [besideTime]

/-! ### Trigger units that fire -/

/-- From `s` to `t` only trigger units and what takes their pulses have changed; ONT and the servo stand. -/
structure TriggersOnly (s t : State) : Prop where
  time : ∃ l p q, t.time = { s.time with trg := l, pulse14 := p, pulse15 := q }
  rtc : t.rtc = s.rtc
  beside : besideTime t = besideTime s

theorem TriggersOnly.refl (s : State) : TriggersOnly s s := ⟨⟨_, _, _, rfl⟩, rfl, rfl⟩

theorem TriggersOnly.trans {s t u : State} (a : TriggersOnly s t) (b : TriggersOnly t u) : TriggersOnly s u := by
  obtain ⟨_, _, _, ha⟩ := a.time
  obtain ⟨_, _, _, hb⟩ := b.time
  exact ⟨⟨_, _, _, by rw [hb, ha]⟩, b.rtc.trans a.rtc, b.beside.trans a.beside⟩

theorem TriggersOnly.then_raise {s t : State} (a : TriggersOnly s t) (c k p q r : Nat) : TriggersOnly s (raise c k p q r t) where
  time := by rw [raise_time]; exact a.time
  rtc := by rw [raise_rtc]; exact a.rtc
  beside := (besideTime_raise ..).trans a.beside

theorem triggersOnly_emitPulse (n x : Nat) (late : Bool) (f : Trigger → Trigger) (s : State) :
    TriggersOnly s (emitPulse n x late f s) := by
  obtain ⟨p, q, e, -, -⟩ := handPulse_frame n x (captPulse n late (onTrg n f s))
  rw [emitPulse, e]
  exact ⟨⟨_, _, _, rfl⟩, rfl, rfl⟩

/-- A late pulse and, where it is due, its event (R333). -/
theorem trgLate_eq {n : Nat} {g : Trigger} {s : State} (h : s.time.trg[n]? = some g) :
    trgLate n s =
      let k := periodsPassed s.time.ont g
      let t := emitPulse n (g.target + k * g.period) true (trgAdvance k true) s
      if g.evt || 14 ≤ n then raise 0x0515 28 n (min k 65535) (g.target + k * g.period) t else t := by
  rw [trgLate, h]; rfl

theorem triggersOnly_trgLate {n : Nat} {g : Trigger} {s : State} (h : s.time.trg[n]? = some g) : TriggersOnly s (trgLate n s) := by
  have pulse := triggersOnly_emitPulse n (g.target + periodsPassed s.time.ont g * g.period) true
    (trgAdvance (periodsPassed s.time.ont g) true) s
  rw [trgLate_eq h]
  dsimp only
  split
  · exact pulse.then_raise _ _ _ _ _
  · exact pulse

/-! ### The comparison in full (R318, R333) -/

/-- What a comparison with ONT makes of a unit: one late pulse where it is armed and its target is reached. -/
def compared (ont : Nat) (g : Trigger) : Trigger :=
  if g.armed && g.target ≤ ont then trgAdvance (periodsPassed ont g) true g else g

theorem compared_waiting {ont : Nat} {g : Trigger} (h : g.armed = false ∨ ont < g.target) : compared ont g = g := by
  rcases h with h | h <;> simp [compared, h]

theorem compared_reached {ont : Nat} {g : Trigger} (ha : g.armed = true) (ht : g.target ≤ ont) :
    compared ont g = trgAdvance (periodsPassed ont g) true g := by
  simp [compared, ha, ht]

/-- One unit compared. -/
def trgCompare (s : State) (n : Nat) : State :=
  match s.time.trg[n]? with
  | some t => if t.armed && t.target ≤ s.time.ont then trgLate n s else s
  | none => s

theorem trgFull_eq (s : State) : trgFull s = (upTo 16).foldl trgCompare s := rfl

/-- A comparison of unit `n` changes that unit, and else only what takes its pulse. -/
theorem trgCompare_sets (s : State) (n : Nat) : TriggersOnly s (trgCompare s n) ∧
    ∀ k, (trgCompare s n).time.trg[k]? = if k = n then s.time.trg[k]?.map (compared s.time.ont) else s.time.trg[k]? := by
  have same (k : Nat) (h : s.time.trg[n]?.map (compared s.time.ont) = s.time.trg[n]?) :
      s.time.trg[k]? = if k = n then s.time.trg[k]?.map (compared s.time.ont) else s.time.trg[k]? := by
    split
    · next hk => rw [hk, h]
    · rfl
  unfold trgCompare
  cases hg : s.time.trg[n]? with
  | none => exact ⟨.refl s, fun k => same k (by rw [hg]; rfl)⟩
  | some g =>
    dsimp only
    split
    · next hc =>
      have fired := trgLate_sets hg
      refine ⟨triggersOnly_trgLate hg, fun k => ?_⟩
      by_cases hk : k = n
      · rw [if_pos hk, hk, fired.unit, hg, Option.map_some, compared, if_pos hc]
      · rw [if_neg hk, fired.others k hk]
    · next hc => exact ⟨.refl s, fun k => same k (by rw [hg, Option.map_some, compared, if_neg hc])⟩

/-- Comparing distinct units changes each of them once. -/
theorem foldl_trgCompare {l : List Nat} (h : l.Nodup) (s : State) : TriggersOnly s (l.foldl trgCompare s) ∧
    ∀ k, (l.foldl trgCompare s).time.trg[k]? = if k ∈ l then s.time.trg[k]?.map (compared s.time.ont) else s.time.trg[k]? := by
  induction l generalizing s with
  | nil => exact ⟨.refl s, fun k => by simp⟩
  | cons n l ih =>
    obtain ⟨hn, hl⟩ := List.nodup_cons.mp h
    obtain ⟨hone, hunit⟩ := trgCompare_sets s n
    obtain ⟨hrest, hunits⟩ := ih hl (trgCompare s n)
    have hont : (trgCompare s n).time.ont = s.time.ont := by
      obtain ⟨_, _, _, e⟩ := hone.time
      rw [e]
    refine ⟨hone.trans hrest, fun k => ?_⟩
    rw [List.foldl_cons, hunits k, hont, hunit k]
    by_cases hk : k = n
    · simp [hk, hn]
    · simp [hk]

theorem trgFull_sets (s : State) : TriggersOnly s (trgFull s) ∧
    ∀ k, (trgFull s).time.trg[k]? = if k < 16 then s.time.trg[k]?.map (compared s.time.ont) else s.time.trg[k]? := by
  rw [trgFull_eq]
  obtain ⟨hframe, hunits⟩ := foldl_trgCompare (l := upTo 16) List.nodup_range s
  exact ⟨hframe, fun k => by rw [hunits k]; simp [upTo]⟩

/-! ### A step (R318) -/

/-- What a step itself writes in the time unit: ONT, its counter and size, and the moment of the last update as it reads after it. -/
def stepped (new : Nat) (t : TimeSt) : TimeSt :=
  { t with
    ont := new % 2 ^ 64, stepCnt := satInc 32 t.stepCnt, lastStep := satS 32 (((new % 2 ^ 64 : Nat) : Int) - t.ont)
    lastUpdate := movedBy (((new % 2 ^ 64 : Nat) : Int) - t.ont) t.lastUpdate }

/-- A step before the trigger units are compared. -/
def stepWritten (new : Nat) (s : State) : State :=
  raise 0x0511 25 (s32sat (((new % 2 ^ 64 : Nat) : Int) - s.time.ont)) s.time.ont (new % 2 ^ 64)
    (onTime (stepped new) (deadlinesLatch s))

theorem stepOnt_eq (new : Nat) (s : State) : stepOnt new s =
    if s.time.ont ≤ new % 2 ^ 64 then trgFull (stepWritten new s) else stepWritten new s := rfl

theorem stepWritten_time (new : Nat) (s : State) : (stepWritten new s).time = stepped new s.time := raise_time ..

theorem triggersOnly_stepOnt (new : Nat) (s : State) : TriggersOnly (onTime (stepped new) s) (stepOnt new s) := by
  have moved : TriggersOnly (onTime (stepped new) s) (onTime (stepped new) (deadlinesLatch s)) := ⟨⟨_, _, _, rfl⟩, rfl, rfl⟩
  have written : TriggersOnly (onTime (stepped new) s) (stepWritten new s) := moved.then_raise ..
  rw [stepOnt_eq]
  split
  · exact written.trans (trgFull_sets _).1
  · exact written

theorem stepOnt_backward {new : Nat} {s : State} (h : new % 2 ^ 64 < s.time.ont) : (stepOnt new s).time.trg = s.time.trg := by
  rw [stepOnt_eq, if_neg (by omega), stepWritten_time]; rfl

theorem stepOnt_forward {new : Nat} {s : State} (h : s.time.ont ≤ new % 2 ^ 64) (k : Nat) :
    (stepOnt new s).time.trg[k]? = if k < 16 then s.time.trg[k]?.map (compared (new % 2 ^ 64)) else s.time.trg[k]? := by
  rw [stepOnt_eq, if_pos h, (trgFull_sets _).2, stepWritten_time]; rfl

/-- A unit that waits, waits on over a step in either direction (R318). -/
theorem stepOnt_waiting {new k : Nat} {g : Trigger} {s : State} (hg : s.time.trg[k]? = some g)
    (h : g.armed = false ∨ new % 2 ^ 64 < g.target) : (stepOnt new s).time.trg[k]? = some g := by
  by_cases hf : s.time.ont ≤ new % 2 ^ 64
  · rw [stepOnt_forward hf, hg, Option.map_some, compared_waiting h, ite_self]
  · rw [stepOnt_backward (by omega), hg]

/-- A unit whose target a forward step reaches gives one late pulse (R333). -/
theorem stepOnt_reached {new k : Nat} {g : Trigger} {s : State} (hf : s.time.ont ≤ new % 2 ^ 64) (hk : k < 16)
    (hg : s.time.trg[k]? = some g) (ha : g.armed = true) (ht : g.target ≤ new % 2 ^ 64) :
    (stepOnt new s).time.trg[k]? = some (trgAdvance (periodsPassed (new % 2 ^ 64) g) true g) := by
  rw [stepOnt_forward hf, if_pos hk, hg, Option.map_some, compared_reached ha ht]

end Sys2Proof.Machine
end

section
/-! TIME_SET and TIME_STATUS_GET: O27. -/

namespace Sys2Proof.Machine

/-! ### The payload (R319) -/

theorem length_leIntBytes (n : Nat) (v : Int) : (leIntBytes n v).length = n := length_leBytes ..

/-- A signed field reads back what was written (R7). -/
theorem byteFieldS_leIntBytes {d : Int} (h : -(2 ^ 63) ≤ d) (h' : d < 2 ^ 63) : byteFieldS (leIntBytes 8 d) 0 8 = d := by
  simp only [byteFieldS, leIntBytes, byteField_whole, signExtend]
  omega

/-- What ONT is to become: the value of absolute mode, or ONT moved by that of relative mode. -/
def setResult (mode : Nat) (b : Bytes) (ont : Nat) : Int := if mode = 0 then byteField b 0 8 else ont + byteFieldS b 0 8

theorem setResult_absolute {v : Nat} (ont : Nat) (h : v < 2 ^ 64) : setResult 0 (leBytes 8 v) ont = v := by
  rw [setResult, if_pos rfl, byteField_whole, Nat.mod_eq_of_lt (by omega)]

theorem setResult_relative {d : Int} (ont : Nat) (h : -(2 ^ 63) ≤ d) (h' : d < 2 ^ 63) :
    setResult 1 (leIntBytes 8 d) ont = ont + d := by
  rw [setResult, if_neg (by decide), byteFieldS_leIntBytes h h']

/-- ONT set by TIME_SET (R319). -/
def setOnt (mode new : Nat) (s : State) : State :=
  raise 0x0518 30 s.time.ont new mode (onTime (fun t => { t with valid := true }) (stepOnt new s))

/-- TIME_SET with a mode that R319 gives: its two refusals, or a step. -/
theorem timeSet_eq {mode : Nat} {b : Bytes} (s : State) (hm : mode ≤ 1) (hb : b.length = 8) :
    timeSet ([BitVec.ofNat 8 mode] ++ zeros 7 ++ b) s =
      if 8 ∈ s.time.portState ∨ 9 ∈ s.time.portState then refuse s 0x0506
      else if setResult mode b s.time.ont < 0 ∨ (2 ^ 64 : Int) ≤ setResult mode b s.time.ont then refuse s 0x0505
      else done (setOnt mode (setResult mode b s.time.ont).toNat s) [] := by
  generalize hp : [BitVec.ofNat 8 mode] ++ zeros 7 ++ b = p
  have hmode : byteField p 0 1 = mode := by
    rw [← hp]
    exact (byteField_front 1 mode _).trans (Nat.mod_eq_of_lt (by omega))
  have hvalue : byteField p 8 8 = byteField b 0 8 := by
    rw [← hp, byteField_skip _ _ _ _ (by simp)]
    simp
  have hform : ¬ (p.length ≠ 16 ∨ ¬ allZero ((p.drop 1).take 7)) := by
    subst hp
    simp [hb, zeros, allZero]
  have hports : (s.time.portState.any (fun x => x == 8 || x == 9)) = true ↔ 8 ∈ s.time.portState ∨ 9 ∈ s.time.portState := by
    simp [and_or_left, exists_or]
  have hnew : (if mode = 0 then (byteField p 8 8 : Int) else s.time.ont + byteFieldS p 8 8) = setResult mode b s.time.ont := by
    rw [byteFieldS, hvalue]; rfl
  simp only [timeSet, if_neg hform, hmode, if_neg (show ¬ 1 < mode by omega), hports, hnew]
  rfl

/-- ONT and the rest of the time unit once it is set (R318, R319). The fraction stays, which rests on log 11. -/
theorem setOnt_time (mode new : Nat) (s : State) : ∃ l p q, (setOnt mode new s).time =
    { stepped new s.time with valid := true, trg := l, pulse14 := p, pulse15 := q } := by
  obtain ⟨l, p, q, e⟩ := (triggersOnly_stepOnt new s).time
  refine ⟨l, p, q, ?_⟩
  rw [setOnt, raise_time, onTime_time, e]
  rfl

theorem setOnt_trg (mode new : Nat) (s : State) : (setOnt mode new s).time.trg = (stepOnt new s).time.trg := by
  rw [setOnt, raise_time]; rfl

theorem setOnt_frame (mode new : Nat) (s : State) :
    (setOnt mode new s).rtc = s.rtc ∧ (setOnt mode new s).host.params = s.host.params := by
  have step := triggersOnly_stepOnt new s
  exact ⟨(raise_rtc ..).trans step.rtc, (raise_host_params ..).trans (besideTime_fields step.beside).2.2⟩

/-- TIME_SET carried out. -/
theorem exec_timeSet {m : Mail} {s : State} {mode n : Nat} {b : Bytes} (ht : taken 0x0510 m s = true)
    (hm : m.payload = [BitVec.ofNat 8 mode] ++ zeros 7 ++ b) (hmode : mode ≤ 1) (hb : b.length = 8) (h8 : 8 ∉ s.time.portState)
    (h9 : 9 ∉ s.time.portState) (hn : setResult mode b s.time.ont = n) (hlt : n < 2 ^ 64) :
    exec (.timeSet m) s = answers 0x0510 m s (setOnt mode n (takenState 0x0510 m s)) [] := by
  refine mailOut_answers_of_payload ht hm ?_
  rw [timeSet_eq _ hmode hb, takenState_time, if_neg (by simp [h8, h9]), hn, if_neg (by omega), Int.toNat_natCast]

/-- Settles O27: a TIME_SET with room for its result steps ONT, which fires each unit it reaches once; the others are refused in the
order of R319. The fraction that a step keeps rests on log 11. -/
theorem timeSetAndStatus : Obligations.TimeSetAndStatus := by
  unfold Obligations.TimeSetAndStatus
  refine ⟨fun m s v ht hm hv h8 h9 => ?absolute, fun m s d ht hm hlo hhi h8 h9 h0 h64 => ?relative,
    fun m s d ht hm hlo hhi h8 h9 hr => ?range, fun m s a v ht ha hm hp => ?slave, fun m s ht hm => ?status⟩
  case absolute =>
    have run := exec_timeSet (mode := 0) ht hm (by decide) (length_leBytes ..) h8 h9 (setResult_absolute _ hv) hv
    have htime := takenState_time 0x0510 m s
    have hrtc := takenState_rtc 0x0510 m s
    have hpar := takenState_params (cmd := 0x0510) (m := m) (s := s)
    generalize takenState 0x0510 m s = w at run htime hrtc hpar
    obtain ⟨l, p, q, e⟩ := setOnt_time 0 v w
    obtain ⟨er, ep⟩ := setOnt_frame 0 v w
    have hmod : v % 2 ^ 64 = v := Nat.mod_eq_of_lt hv
    have etrg := setOnt_trg 0 v w
    refine ⟨_, run, ?_⟩
    rw [er, hrtc, ep, hpar, etrg, e, htime]
    refine ⟨hmod, rfl, rfl, ?_, rfl, rfl, rfl, rfl, rfl, rfl, fun hlt => ?_, fun k g hk hg ha hper h0 hle hf => ?_, fun k g hg h => ?_⟩
    · show satS 32 (((v % 2 ^ 64 : Nat) : Int) - s.time.ont) = _
      rw [hmod]
    · rw [stepOnt_backward (by rwa [hmod, htime]), htime]
    · refine ⟨_, stepOnt_reached (by rwa [hmod, htime]) hk (htime ▸ hg) ha (by rwa [hmod]), ?_⟩
      have bounds := lateTarget_bounds h0 hle
      rw [hmod, periodsPassed, if_pos hper]
      simpa [trgAdvance, hper, Nat.add_mul, Nat.add_assoc] using bounds
    · exact stepOnt_waiting (htime ▸ hg) (by rwa [hmod])
  case relative =>
    obtain ⟨n, hn⟩ : ∃ n : Nat, (n : Int) = s.time.ont + d := ⟨_, Int.toNat_of_nonneg h0⟩
    have run := exec_timeSet (mode := 1) ht hm (by decide) (length_leIntBytes ..) h8 h9
      ((setResult_relative _ hlo hhi).trans hn.symm) (by omega)
    have htime := takenState_time 0x0510 m s
    generalize takenState 0x0510 m s = w at run htime
    obtain ⟨l, p, q, e⟩ := setOnt_time 1 n w
    have hmod : n % 2 ^ 64 = n := Nat.mod_eq_of_lt (by omega)
    refine ⟨_, run, ?_⟩
    rw [e, htime]
    refine ⟨?_, rfl, ?_⟩
    · show ((n % 2 ^ 64 : Nat) : Int) = _
      rw [hmod, hn]
    · show satS 32 (((n % 2 ^ 64 : Nat) : Int) - s.time.ont) = _
      rw [hmod, hn, add_sub_cancel_left]
  case range =>
    refine mailOut_refuses_of_payload (b := [BitVec.ofNat 8 1] ++ zeros 7 ++ leIntBytes 8 d) ht hm ?_
    rw [timeSet_eq (mode := 1) _ (by decide) (length_leIntBytes ..), takenState_time, if_neg (by simp [h8, h9]),
      setResult_relative _ hlo hhi, if_pos hr]
  case slave =>
    refine mailOut_refuses_of_payload ht hm ?_
    rw [timeSet_eq _ ha (length_leBytes ..), takenState_time, if_pos hp]
  case status =>
    refine ⟨timeStatusValues (takenState 0x0500 m s), mailOut_answers_of_payload ht hm (if_neg (by simp)), ?_⟩
    simp [timeStatusValues, takenState_time]

end Sys2Proof.Machine
end

section
/-! SUPPORT. The servo (R325 to R328): what a measurement, a step, the loss of lock and HOLDOVER make of the time unit, and the
parameters that a Sync commits (R30). -/

namespace Sys2Proof.Machine

/-! ### LOCKED and steps (R318, R326, R327) -/

@[simp] theorem besideTime_onTime (f : TimeSt → TimeSt) (s : State) : besideTime (onTime f s) = besideTime s := rfl

theorem clearLocked_time (s : State) : (clearLocked s).time = { s.time with locked := false } := by
  unfold clearLocked
  split
  · rfl
  · next h => rw [← Bool.eq_false_iff.mpr h]

@[simp] theorem besideTime_clearLocked (s : State) : besideTime (clearLocked s) = besideTime s := by
  unfold clearLocked; split <;> rfl

theorem clearLocked_rtcTime (s : State) : (clearLocked s).rtc.time = s.rtc.time := by
  unfold clearLocked; split <;> rfl

theorem leaveLock_time (x : Int) (s : State) :
    (leaveLock x s).time = { s.time with servo := unlockedCode s, lockRun := 0, confirm := 0, locked := false } := by
  unfold leaveLock
  dsimp only
  split
  · rw [raise_time, clearLocked_time]; rfl
  · rw [clearLocked_time]; rfl

@[simp] theorem besideTime_leaveLock (x : Int) (s : State) : besideTime (leaveLock x s) = besideTime s := by
  unfold leaveLock; simp

/-- A phase step by the servo; one that would end below 0 ends at 0, which is log 6's choice. -/
theorem servoStep_time (x : Int) (s : State) : ∃ l p q, (servoStep x s).time =
    { stepped ((s.time.ont : Int) - x).toNat s.time with
      trg := l, pulse14 := p, pulse15 := q, servo := unlockedCode s, lockRun := 0, confirm := 0, locked := false } := by
  obtain ⟨l, p, q, e⟩ := (triggersOnly_stepOnt ((s.time.ont : Int) - x).toNat s).time
  refine ⟨l, p, q, ?_⟩
  rw [servoStep, leaveLock_time, unlockedCode, e]
  rfl

@[simp] theorem besideTime_servoStep (x : Int) (s : State) : besideTime (servoStep x s) = besideTime s := by
  rw [servoStep, besideTime_leaveLock]
  exact (triggersOnly_stepOnt _ s).beside

/-! ### The update (R325) -/

theorem clamp_bounds {lo hi : Int} (h : lo ≤ hi) (v : Int) : lo ≤ clamp lo hi v ∧ clamp lo hi v ≤ hi := by
  unfold clamp
  split
  · exact ⟨le_rfl, h⟩
  · split
    · exact ⟨h, le_rfl⟩
    · omega

/-- The integral after a measurement `x` at `n` ns from the last. -/
def nextInteg (ki x : Int) (n : Nat) (i : Int) : Int :=
  clamp (-128000000) 128000000 (i + divRound (ki * x * 256000000000) (2 ^ 14 * n))

/-- The frequency after it, from the integral. -/
def nextRate (kp x : Int) (n : Nat) (i : Int) : Int :=
  clamp (-128000000) 128000000 (divRound (kp * x * 256000000000) (2 ^ 14 * n) + i)

theorem servoPi_time (x : Int) (n : Nat) (s : State) : (servoPi x n s).time =
    let i := nextInteg (act s 0x050C) x n s.time.integ
    let y := nextRate (act s 0x050B) x n i
    { s.time with integ := i, rate := y, yHist := (y :: s.time.yHist).take 64, lastUpdate := some s.time.ont } := by
  have gain (k : Int) : k * x * 256 * 1000000000 = k * x * 256000000000 := mul_assoc ..
  simp only [servoPi, gain]
  rfl

@[simp] theorem besideTime_servoPi (x : Int) (n : Nat) (s : State) : besideTime (servoPi x n s) = besideTime s := rfl

/-! ### The lock rule (R327) -/

/-- The lock rule moves the servo's code, LOCKED, VALID and the run of measurements within TIME_LOCK_THRESH. -/
theorem servoLock_frame {x : Int} {s : State} (h : s.time.confirm = 0) :
    ∃ a l v r, (servoLock x s).time = { s.time with servo := a, locked := l, valid := v, lockRun := r } := by
  unfold servoLock
  dsimp only
  split
  · split
    · rw [raise_time]; exact ⟨_, _, _, _, rfl⟩
    · exact ⟨_, _, _, _, rfl⟩
  · split
    · rw [leaveLock_time, ← h]; exact ⟨_, _, _, _, rfl⟩
    · exact ⟨_, _, _, _, rfl⟩

/-- The measurement that completes the run locks. -/
theorem servoLock_locks {x : Int} {s : State} (hx : (x.natAbs : Int) ≤ act s 0x050F) (hs : s.time.servo ≠ lockedCode s)
    (hr : act s 0x0510 ≤ s.time.lockRun + 1) : (servoLock x s).time =
      { s.time with lockRun := s.time.lockRun + 1, servo := lockedCode s, locked := true, valid := true } := by
  unfold servoLock
  dsimp only
  rw [if_pos hx, if_pos ⟨hs, hr⟩, raise_time]
  rfl

@[simp] theorem besideTime_servoLock (x : Int) (s : State) : besideTime (servoLock x s) = besideTime s := by
  unfold servoLock; simp

/-! ### One measurement (R325 to R327) -/

/-- The last offset is noted. -/
def measured (x : Int) (s : State) : State := onTime (fun t => { t with offset := satS 32 x }) s

/-- A servo that leaves HOLDOVER acquires. -/
def reacquire (s : State) : State :=
  if s.time.servo = 5 then clearLocked (onTime (fun t => { t with servo := unlockedCode s, lockRun := 0 }) s) else s

theorem reacquire_frame (s : State) : ∃ a l r, (reacquire s).time = { s.time with servo := a, locked := l, lockRun := r } := by
  unfold reacquire
  split
  · rw [clearLocked_time]; exact ⟨_, _, _, rfl⟩
  · exact ⟨_, _, _, rfl⟩

/-- A measurement beyond TIME_STEP_THRESH steps, unless a locked servo still waits for its confirmation (R326). -/
theorem servoRun_step {x : Int} {s : State} (n : Nat) (hfar : act s 0x050D < x.natAbs)
    (h : s.time.servo = lockedCode s → act s 0x050E ≤ s.time.confirm + 1) : servoRun x n s = servoStep x (measured x s) := by
  unfold servoRun
  refine (if_pos hfar).trans ?_
  split
  · next hl => exact if_pos (h hl)
  · rfl

theorem servoRun_step_time {x : Int} {s : State} (n : Nat) (hfar : act s 0x050D < x.natAbs)
    (h : s.time.servo = lockedCode s → act s 0x050E ≤ s.time.confirm + 1) : ∃ l p q, (servoRun x n s).time =
      { stepped ((s.time.ont : Int) - x).toNat s.time with
        offset := satS 32 x, trg := l, pulse14 := p, pulse15 := q, servo := unlockedCode s, lockRun := 0, confirm := 0
        locked := false } := by
  rw [servoRun_step n hfar h]
  exact servoStep_time x (measured x s)

/-- Until then it is an outlier, which moves nothing but its counts (R326). -/
theorem servoRun_outlier_time {x : Int} {s : State} (n : Nat) (hfar : act s 0x050D < x.natAbs) (hl : s.time.servo = lockedCode s)
    (hc : s.time.confirm + 1 < act s 0x050E) : (servoRun x n s).time = { s.time with
      offset := satS 32 x, confirm := s.time.confirm + 1, outliers := satInc 32 s.time.outliers } := by
  unfold servoRun
  exact congrArg State.time ((if_pos hfar).trans ((if_pos hl).trans (if_neg (not_le.mpr hc))))

/-- Any other measurement is used (R325, R327). -/
theorem servoRun_used {x : Int} {s : State} (n : Nat) (hnear : (x.natAbs : Int) ≤ act s 0x050D) : servoRun x n s =
    servoLock x (reacquire (servoPi x n (onTime (fun t => { t with confirm := 0 }) (measured x s)))) := by
  unfold servoRun
  exact if_neg (not_lt.mpr hnear)

@[simp] theorem besideTime_servoRun (x : Int) (n : Nat) (s : State) : besideTime (servoRun x n s) = besideTime s := by
  unfold servoRun; simp

theorem servoRun_used_time {x : Int} {s : State} (n : Nat) (hnear : (x.natAbs : Int) ≤ act s 0x050D) :
    let i := nextInteg (act s 0x050C) x n s.time.integ
    ∃ a l v r h, (servoRun x n s).time = { s.time with
      offset := satS 32 x, confirm := 0, integ := i, rate := nextRate (act s 0x050B) x n i, yHist := h
      lastUpdate := some s.time.ont, servo := a, locked := l, valid := v, lockRun := r } := by
  dsimp only
  rw [servoRun_used n hnear]
  obtain ⟨a, l, r, e⟩ := reacquire_frame (servoPi x n (onTime (fun t => { t with confirm := 0 }) (measured x s)))
  rw [servoPi_time] at e
  generalize reacquire _ = u at e ⊢
  obtain ⟨a', l', v', r', e'⟩ := servoLock_frame (x := x) (s := u) (by rw [e]; rfl)
  rw [e', e]
  exact ⟨a', l', v', r', _, rfl⟩

/-- A servo outside HOLDOVER locks with the measurement that completes its run (R327). -/
theorem servoRun_locks {x : Int} {s : State} (n : Nat) (hnear : (x.natAbs : Int) ≤ act s 0x050D)
    (hx : (x.natAbs : Int) ≤ act s 0x050F) (hs : s.time.servo ≠ lockedCode s) (h5 : s.time.servo ≠ 5)
    (hr : act s 0x0510 ≤ s.time.lockRun + 1) : (servoRun x n s).time.servo = lockedCode s ∧
      (servoRun x n s).time.locked = true ∧ (servoRun x n s).time.valid = true := by
  rw [servoRun_used n hnear, reacquire, if_neg (by exact h5), servoLock_locks (by exact hx) (by exact hs) (by exact hr)]
  exact ⟨rfl, rfl, rfl⟩

/-- Whatever becomes of a measurement, it is the last offset; the path delay and the ports stand. -/
theorem servoRun_frame (x : Int) (n : Nat) (s : State) : (servoRun x n s).time.offset = satS 32 x ∧
    (servoRun x n s).time.mpd = s.time.mpd ∧ (servoRun x n s).time.portState = s.time.portState := by
  by_cases hnear : (x.natAbs : Int) ≤ act s 0x050D
  · obtain ⟨_, _, _, _, _, e⟩ := servoRun_used_time n hnear
    rw [e]; exact ⟨rfl, rfl, rfl⟩
  · by_cases hw : s.time.servo = lockedCode s ∧ s.time.confirm + 1 < act s 0x050E
    · rw [servoRun_outlier_time n (not_le.mp hnear) hw.1 hw.2]; exact ⟨rfl, rfl, rfl⟩
    · obtain ⟨_, _, _, e⟩ := servoRun_step_time n (not_le.mp hnear) fun hl => not_lt.mp fun hc => hw ⟨hl, hc⟩
      rw [e]; exact ⟨rfl, rfl, rfl⟩

/-! ### Sync (R30, R325) -/

theorem lookupNat_filter_dropped {α : Type} {p : Nat → Bool} {k : Nat} (h : p k = true) (l : List (Nat × α)) :
    lookupNat k (l.filter (fun x => !p x.1)) = none := by
  induction l with
  | nil => rfl
  | cons a l ih =>
    by_cases ha : p a.1 = true
    · simpa [ha] using ih
    · have hk : a.1 ≠ k := by rintro rfl; exact ha h
      simpa [ha, lookupNat, hk] using ih

theorem act_parCommit {p : Nat → Bool} {id : Nat} (s : State) (h : p id = true) : act (parCommit p s) id = par s id := by
  have dropped : lookupNat id (parCommit p s).host.uncommitted = none := lookupNat_filter_dropped h _
  rw [act, dropped]; rfl

/-- The commit of TIME makes each parameter of TIME what was written (R30). -/
theorem act_timeCommit {id : Nat} {i : PInfo} (s : State) (hi : pInfo id = some i) (ho : i.owner = 5) :
    act (timeCommit s) id = par s id :=
  act_parCommit s (by simp [hi, ho])

/-- A port's latency of ingress and its asymmetry are parameters of TIME. -/
theorem act_timeCommit_port {p : Nat} (s : State) (hp : p < 2) :
    act (timeCommit s) (0x0523 + 8 * p) = par s (0x0523 + 8 * p) ∧ act (timeCommit s) (0x0524 + 8 * p) = par s (0x0524 + 8 * p) := by
  match p, hp with
  | 0, _ => exact ⟨act_timeCommit s rfl rfl, act_timeCommit s rfl rfl⟩
  | 1, _ => exact ⟨act_timeCommit s rfl rfl, act_timeCommit s rfl rfl⟩

/-- A port that leaves UNCALIBRATED for SLAVE, or is there (R321). -/
theorem portSet_slave {p : Nat} {s : State} (hp : p < 2) (h : s.time.portState[p]? = some 8 ∨ s.time.portState[p]? = some 9) :
    (portSet p 9 s).time = { s.time with portState := s.time.portState.set p 9 } ∧ besideTime (portSet p 9 s) = besideTime s := by
  rcases h with h | h
  · have hold : nth 3 s.time.portState p = 8 := nth_of_getElem? h
    have e : portSet p 9 s = raise 0x0513 27 p 8 9 (onTime (fun t => { t with portState := t.portState.set p 9 }) s) := by
      rw [portSet, hold]
      exact (if_neg (by omega)).trans (if_neg (by omega))
    rw [e]
    exact ⟨raise_time .., besideTime_raise ..⟩
  · have hset : s.time.portState.set p 9 = s.time.portState := by
      obtain ⟨hlt, hv⟩ := List.getElem?_eq_some_iff.mp h
      rw [← hv, List.set_getElem_self]
    rw [portSet, if_pos (Or.inl (nth_of_getElem? h)), hset]
    exact ⟨rfl, rfl⟩

/-- The state in which a measurement of a Sync is used: its frame counted, TIME committed, the Sync's own difference kept. -/
def syncState (p : Nat) (d : Int) (s : State) : State :=
  onTime (fun t => { t with lastSync := some d }) (timeCommit (portRx p s))

theorem act_syncState {id : Nat} {i : PInfo} (p : Nat) (d : Int) (s : State) (hi : pInfo id = some i) (ho : i.owner = 5) :
    act (syncState p d s) id = par s id :=
  act_timeCommit (portRx p s) hi ho

section

variable {s : State} {p o i : Nat} {c d x : Int} (hp : p < 2) (hr : ptpRuns s p = true)
    (hs : s.time.portState[p]? = some 8 ∨ s.time.portState[p]? = some 9) (hk : s.time.mpdKnown = true) (hm : s.mgmt.malorRuns = true)
    (hd : d = ((i : Int) - par s (0x0523 + 8 * p) - o) * 65536 - c)
    (hx : x = divRound (d - par s (0x0524 + 8 * p) * 65536 - s.time.mpd) 65536)
include hp hr hs hk hm hd hx

/-- A Sync of a slave port is one measurement, and its port is SLAVE (R321, R325). -/
theorem exec_ptpSyncReceived :
    exec (.ptpSyncReceived p o i c) s = .next (portSet p 9 (servoRun x (servoInterval s) (syncState p d s))).drawn := by
  obtain ⟨hin, has⟩ := act_timeCommit_port (portRx p s) hp
  have hslave : (ptpRuns (portRx p s) p && (nth 3 s.time.portState p == 8 || nth 3 s.time.portState p == 9)) = true := by
    rw [Bool.and_eq_true]
    exact ⟨hr, by rcases hs with hs | hs <;> rw [nth_of_getElem? hs] <;> rfl⟩
  have hdiff : ((i : Int) - act (timeCommit (portRx p s)) (0x0523 + 8 * p) - o) * 65536 - c = d := by rw [hin, hd]; rfl
  have hoff : divRound (d - asymOf (syncState p d s) p - s.time.mpd) 65536 = x := by
    rw [hx, show asymOf (syncState p d s) p = par s (0x0524 + 8 * p) * 65536 from congrArg (· * 65536) has]
  have hruns : (servoRun x (servoInterval s) (syncState p d s)).mgmt.malorRuns = true := by
    rw [(besideTime_fields (besideTime_servoRun ..)).2.1]
    exact hm
  show Host.Outcome.next (ptpSync p o i c (ptpGot p s)) = _
  rw [ptpGot, if_pos hr, ptpSync]
  refine congrArg _ ((if_pos hslave).trans ?_)
  dsimp only
  rw [hdiff]
  refine (if_pos hk).trans (congrArg State.drawn ?_)
  rw [← hoff] at hruns ⊢
  exact if_pos hruns

/-- What a Sync of a slave port leaves: the servo's outcome, and its port SLAVE. -/
theorem ptpSyncReceived_frame :
    ∃ t, exec (.ptpSyncReceived p o i c) s = .next t ∧
      t.time = { (servoRun x (servoInterval s) (syncState p d s)).time with portState := s.time.portState.set p 9 } ∧
      t.power = s.power ∧ t.host.params = s.host.params := by
  have hports : (servoRun x (servoInterval s) (syncState p d s)).time.portState = s.time.portState := (servoRun_frame ..).2.2
  obtain ⟨hset, hleft⟩ := portSet_slave hp (hports.symm ▸ hs)
  obtain ⟨hpower, -, hparams⟩ := besideTime_fields (hleft.trans (besideTime_servoRun ..))
  exact ⟨_, exec_ptpSyncReceived hp hr hs hk hm hd hx, by rw [← hports]; exact hset, hpower, hparams⟩

end

/-! ### Delay responses and HOLDOVER (R325, R328) -/

/-- The outstanding request of a port is answered. -/
def requestTaken (p : Nat) (s : State) : State := onTime (fun t => { t with reqSent := t.reqSent.set p none }) s

/-- A response of the peer delay mechanism (R325). -/
theorem ptpDelay_peer {s : State} {p t3 : Nat} (r i : Nat) (c : Int) (hr : ptpRuns s p = true)
    (hq : s.time.reqSent[p]? = some (some t3)) (ha : act s 0x0501 = 1) : ptpDelay p r i c s =
      onTime (mpdFilter (divRound (((i : Int) - act s (0x0523 + 8 * p) - t3) * 65536 - c - asymOf s p) 2) (actN s 0x0515))
        (requestTaken p s) := by
  rw [ptpDelay, if_pos hr, show reqTime s p = some t3 from nth_of_getElem? hq]
  exact if_pos ha

/-- A response of the end-to-end mechanism, against the last Sync (R325). -/
theorem ptpDelay_endToEnd {s : State} {p t3 : Nat} {d : Int} (r i : Nat) (c : Int) (hr : ptpRuns s p = true)
    (hq : s.time.reqSent[p]? = some (some t3)) (ha : act s 0x0501 = 0) (hd : s.time.lastSync = some d) : ptpDelay p r i c s =
      onTime (mpdFilter (divRound (d - asymOf s p + ((r : Int) - t3) * 65536 - c) 2) (actN s 0x0515)) (requestTaken p s) := by
  have h1 : ¬ act s 0x0501 = 1 := by rw [ha]; decide
  rw [ptpDelay, if_pos hr, show reqTime s p = some t3 from nth_of_getElem? hq]
  refine (if_neg h1).trans ?_
  rw [onTime_time, hd]
  rfl

theorem mpdFilter_first {t : TimeSt} (new : Int) (k : Nat) (h : t.mpdKnown = false) : (mpdFilter new k t).mpd = new := by
  simp [mpdFilter, h]

theorem mpdFilter_next {t : TimeSt} (new : Int) (k : Nat) (h : t.mpdKnown = true) :
    (mpdFilter new k t).mpd = t.mpd + shiftRound (new - t.mpd) k := by
  simp [mpdFilter, h]

theorem exec_ptpDelayResponse {s : State} {p : Nat} (r i : Nat) (c : Int) (hr : ptpRuns s p = true) :
    exec (.ptpDelayResponse p r i c) s = .next (ptpDelay p r i c (portRx p s)) := by
  show Host.Outcome.next (ptpDelay p r i c (ptpGot p s)) = _
  rw [ptpGot, if_pos hr]

/-- HOLDOVER holds the mean frequency in y and I and leaves LOCKED (R328). -/
theorem holdover_time (s : State) : (holdover s).time = { s.time with
    rate := meanY s.time, integ := meanY s.time, lockRun := 0, confirm := 0, servo := if s.time.bellwether then 1 else 5 } :=
  raise_time ..

theorem meanY_eq {t : TimeSt} (h : t.yHist ≠ []) : meanY t = divRound (t.yHist.foldl (· + ·) 0) t.yHist.length := by
  unfold meanY
  split
  · next he => exact absurd he h
  · rfl

end Sys2Proof.Machine
end

section
/-! The servo: O29. -/

namespace Sys2Proof.Machine

/-- Settles O29: a Sync is one measurement, which steps, waits as an outlier or is used and may lock; a response filters the path
delay; HOLDOVER and the end of its LOCKED are read off. A step below 0 that ends at 0 rests on log 6. -/
theorem servo : Obligations.Servo := by
  unfold Obligations.Servo
  refine ⟨fun s p o i c x hp hr hs hk hb hm hx => ?sync, fun s p t3 r i c hp hr hq ha => ?peer,
    fun s p t3 r i c d hp hr hq ha hd hk => ?endToEnd, fun s hr he hv hb hy => ?holdover, fun s hl hv => ?expiry⟩
  case sync =>
    obtain ⟨d, hd⟩ : ∃ d : Int, d = ((i : Int) - par s (0x0523 + 8 * p) - o) * 65536 - c := ⟨_, rfl⟩
    obtain ⟨t, run, ht, hpower, hparams⟩ :=
      ptpSyncReceived_frame hp hr hs hk hm hd (hx.trans (by rw [hd]; congr 1; ring))
    refine ⟨t, run, ?_⟩
    have hpar {id : Nat} {j : PInfo} (hi : pInfo id = some j) (ho : j.owner = 5) : par s id = act (syncState p d s) id :=
      (act_syncState p d s hi ho).symm
    have htime : (syncState p d s).time = { s.time with lastSync := some d } := rfl
    have hlocked : lockedCode (syncState p d s) = 4 := by rw [lockedCode, htime, hb]; rfl
    have hunlocked : unlockedCode (syncState p d s) = 3 := by rw [unlockedCode, htime, hb]; rfl
    have hinterval (u : Nat) (hu : s.time.lastUpdate = some u) (hlt : u < s.time.ont) : servoInterval s = s.time.ont - u := by
      rw [servoInterval, hu]; exact if_pos hlt
    rw [ht, hpower, hparams, hpar (id := 0x050D) rfl rfl, hpar (id := 0x050E) rfl rfl, hpar (id := 0x050F) rfl rfl,
      hpar (id := 0x0510) rfl rfl, hpar (id := 0x050B) rfl rfl, hpar (id := 0x050C) rfl rfl]
    generalize servoInterval s = n at hinterval
    generalize syncState p d s = w at htime hlocked hunlocked
    have hservo : w.time.servo = s.time.servo := by rw [htime]
    have hconfirm : w.time.confirm = s.time.confirm := by rw [htime]
    obtain ⟨hoff, hmpd, -⟩ := servoRun_frame x n w
    refine ⟨hoff, ?slave, hmpd.trans (by rw [htime]), rfl, rfl, fun hfar hs4 => ?step, fun hfar hs4 hc => ?outlier,
      fun hfar hs4 hc => ?confirmed, fun hnear => ?used, fun u hnear hu hlt => ?update, fun hnear hlt hs3 hc => ?locks⟩
    case slave =>
      have hlt : p < s.time.portState.length := by rcases hs with hs | hs <;> exact (List.getElem?_eq_some_iff.mp hs).1
      simp [hlt]
    case step =>
      obtain ⟨_, _, _, e⟩ := servoRun_step_time n hfar fun h => absurd (hservo.symm.trans (h.trans hlocked)) hs4
      rw [e, hunlocked, htime]
      exact ⟨rfl, rfl, rfl, rfl⟩
    case outlier =>
      rw [servoRun_outlier_time n hfar (hservo.trans (hs4.trans hlocked.symm)) (hconfirm ▸ hc), htime]
      exact ⟨rfl, rfl, rfl, rfl, rfl, hs4, rfl⟩
    case confirmed =>
      obtain ⟨_, _, _, e⟩ := servoRun_step_time n hfar fun _ => hconfirm ▸ hc
      rw [e, hunlocked, htime]
      exact ⟨rfl, rfl, rfl⟩
    case used =>
      obtain ⟨_, _, _, _, _, e⟩ := servoRun_used_time n hnear
      rw [e, htime]
      exact ⟨rfl, rfl, clamp_bounds (by decide) _, clamp_bounds (by decide) _, rfl⟩
    case update =>
      obtain ⟨_, _, _, _, _, e⟩ := servoRun_used_time n hnear
      rw [e, htime, hinterval u hu hlt]
      exact ⟨rfl, rfl⟩
    case locks =>
      rw [← hservo] at hs3
      rw [← hlocked]
      exact servoRun_locks n hnear hlt (by rw [hs3, hlocked]; decide) (by rw [hs3]; decide) (by rw [htime]; exact hc)
  case peer =>
    have run := ptpDelay_peer (s := portRx p s) r i c hr hq ha
    exact ⟨_, (exec_ptpDelayResponse r i c hr).trans (congrArg _ run), rfl, rfl, rfl, rfl, rfl, mpdFilter_first _ _, mpdFilter_next _ _⟩
  case endToEnd =>
    have run := ptpDelay_endToEnd (s := portRx p s) r i c hr hq ha hd
    exact ⟨_, (exec_ptpDelayResponse r i c hr).trans (congrArg _ run), rfl, rfl, mpdFilter_first _ _ hk⟩
  case holdover =>
    have enters : exec .servoHoldoverTimeout s = .next (holdover s) := by
      refine congrArg _ (if_pos ?_)
      rcases hv with hv | hv <;> simp [hr, he, hv]
    refine ⟨_, enters, ?_⟩
    rw [holdover_time, hb, meanY_eq hy]
    exact ⟨rfl, rfl, rfl, rfl, rfl, rfl, rfl, raise_power ..⟩
  case expiry =>
    have expires : exec .holdLockedExpiry s = .next (raise 0x0512 26 0 0 0 (clearLocked s)) := congrArg _ (if_pos (by simp [hl, hv]))
    refine ⟨_, expires, (raise_time ..).trans (clearLocked_time s), ?_, ?_⟩
    · rw [raise_power, (besideTime_fields (besideTime_clearLocked s)).1]
    · rw [raise_rtc, clearLocked_rtcTime]

end Sys2Proof.Machine
end

section
/-! The calendar: O23. -/

namespace Sys2Proof.Machine

/-! ### Months and years (R343) -/

theorem monthStart_one (y : Nat) : monthStart y 1 = 0 := rfl

theorem monthStart_succ (y : Nat) {m : Nat} (h : 1 ≤ m) : monthStart y (m + 1) = monthStart y m + monthDays y m := by
  obtain ⟨k, rfl⟩ := Nat.exists_eq_add_of_le' h
  simp [monthStart, upTo, List.range_succ]

/-- The days of a year. -/
def yearDays (y : Nat) : Nat := if leapYear y then 366 else 365

/-- December ends the year: its months add up to the year's days. -/
theorem monthStart_december (y : Nat) : monthStart y 12 + 31 = yearDays y := by
  simp only [monthStart_succ y (show 1 ≤ 11 by decide), monthStart_succ y (show 1 ≤ 10 by decide),
    monthStart_succ y (show 1 ≤ 9 by decide), monthStart_succ y (show 1 ≤ 8 by decide), monthStart_succ y (show 1 ≤ 7 by decide),
    monthStart_succ y (show 1 ≤ 6 by decide), monthStart_succ y (show 1 ≤ 5 by decide), monthStart_succ y (show 1 ≤ 4 by decide),
    monthStart_succ y (show 1 ≤ 3 by decide), monthStart_succ y (show 1 ≤ 2 by decide), monthStart_succ y (show 1 ≤ 1 by decide),
    monthStart_one]
  simp only [monthDays, yearDays]
  cases leapYear y <;> rfl

theorem leapYear_iff (y : Nat) : leapYear y = true ↔ y % 4 = 0 ∧ (y % 100 ≠ 0 ∨ y % 400 = 0) := by
  simp [leapYear]

/-- The next year starts a year's days later. -/
theorem yearStart_succ (y : Nat) : yearStart (y + 1) = yearStart y + yearDays y := by
  have h4 : (y + 1 + 3) / 4 = (y + 3) / 4 + if y % 4 = 0 then 1 else 0 := by split <;> omega
  have h100 : (y + 1 + 99) / 100 = (y + 99) / 100 + if y % 100 = 0 then 1 else 0 := by split <;> omega
  have h400 : (y + 1 + 399) / 400 = (y + 399) / 400 + if y % 400 = 0 then 1 else 0 := by split <;> omega
  have hrange : (y + 99) / 100 ≤ 365 * y + (y + 3) / 4 := by omega
  have hdays : yearDays y + (if y % 100 = 0 then 1 else 0) = 365 + (if y % 4 = 0 then 1 else 0) + if y % 400 = 0 then 1 else 0 := by
    have h1 : y % 400 = 0 → y % 100 = 0 := by omega
    have h2 : y % 100 = 0 → y % 4 = 0 := by omega
    simp only [yearDays, leapYear_iff]
    by_cases a : y % 4 = 0 <;> by_cases b : y % 100 = 0 <;> by_cases c : y % 400 = 0 <;> simp_all
  have hrange : (y + 99) / 100 ≤ 365 * y + (y + 3) / 4 := by omega
  rw [yearStart, yearStart, h4, h100, h400]
  omega

/-- A month starts no later than December and ends within the year. -/
theorem monthStart_add_monthDays_le (y : Nat) {m : Nat} (h1 : 1 ≤ m) (h2 : m ≤ 12) : monthStart y m + monthDays y m ≤ yearDays y := by
  have rising (k : Nat) : monthStart y m + monthDays y m ≤ monthStart y (m + 1 + k) := by
    induction k with
    | zero => exact (monthStart_succ y h1).ge
    | succ k ih =>
      have := monthStart_succ y (show 1 ≤ m + 1 + k by omega)
      rw [← Nat.add_assoc]
      omega
  have hlast := monthStart_succ y (show 1 ≤ 12 by decide)
  have hdec := monthStart_december y
  have := rising (12 - m)
  rw [show m + 1 + (12 - m) = 13 by omega, hlast, show monthDays y 12 = 31 by rfl] at this
  omega

/-- The range of the calendar ends within year 399 (R343). -/
theorem yearStart_add_yearDays_le {y : Nat} (h : y ≤ 399) : yearStart y + yearDays y ≤ 146097 := by
  rw [← yearStart_succ, yearStart]
  omega

theorem calendarEnd_eq : calendarEnd = 86400 * 146097 := by decide

/-- A possible date lies in the range, and its SEC runs to 59. -/
theorem rtcSeconds_lt_of_dateOk {t : RtcTime} (h : dateOk t = true) : t.sec ≤ 59 ∧ rtcSeconds t < calendarEnd := by
  simp only [dateOk, Bool.and_eq_true, decide_eq_true_eq] at h
  obtain ⟨⟨⟨⟨⟨⟨⟨hyear, hm1⟩, hm12⟩, hd1⟩, hd⟩, hhour⟩, hmin⟩, hsec⟩ := h
  have hin := monthStart_add_monthDays_le t.year hm1 hm12
  have hy := yearStart_add_yearDays_le hyear
  refine ⟨hsec, ?_⟩
  rw [calendarEnd_eq, rtcSeconds, dayNumber, daySecond]
  omega

/-- Settles O23: months and years follow each other without a gap, and a possible date lies before the range's end. -/
theorem rtcCalendar : Obligations.RtcCalendar := by
  unfold Obligations.RtcCalendar
  refine ⟨fun y hy => ?leap, fun y => ?lengths, rfl, fun y m d _ _ hd _ => ?day, fun y m hm _ => ?month, fun y => ?year, fun d => rfl,
    fun t => rtcSeconds_lt_of_dateOk, rfl⟩
  case leap =>
    rw [Bool.eq_iff_iff, leapYear_iff]
    simp only [Bool.and_eq_true, decide_eq_true_eq, Bool.not_eq_true', decide_eq_false_iff_not]
    omega
  case lengths => rfl
  case day =>
    simp only [dayNumber]
    omega
  case month =>
    have hlen : 1 ≤ monthDays y m := by
      unfold monthDays
      split
      · split <;> omega
      · split
        · omega
        · rw [if_pos ⟨hm, by omega⟩]
          omega
    simp only [dayNumber, monthStart_succ y hm]
    omega
  case year =>
    have := monthStart_december y
    simp only [dayNumber, yearStart_succ, monthStart_one]
    omega

end Sys2Proof.Machine
end

section
/-! SUPPORT. What an event leaves: from the state before it only flags, messages of the vectors and records have moved (R130, R131, R544). -/

namespace Sys2Proof.Machine

/-- From `s` to `t` events have been reported and nothing else has changed. -/
structure Reported (s t : State) : Prop where
  eq : t = { s with
    host := { s.host with evtStatus := t.host.evtStatus, sent := t.host.sent, pba := t.host.pba }, recorder := t.recorder }
  out : outSent t = outSent s

theorem Reported.refl (s : State) : Reported s s := ⟨rfl, rfl⟩

theorem Reported.trans {s t u : State} (a : Reported s t) (b : Reported t u) : Reported s u := by
  refine ⟨?_, b.out.trans a.out⟩
  rw [b.eq, a.eq]

theorem msixDue_out (v : Nat) (h : HostSt) : (msixDue v h).sent = h.sent ∨ (msixDue v h).sent = msixMsg v h :: h.sent := by
  unfold msixDue
  split
  · split
    · exact .inl rfl
    · exact .inr rfl
  · exact .inl rfl

theorem outSent_setSource (n : Nat) (s : State) : outSent { s with host := setSource n s.host } = outSent s := by
  have due (h : HostSt) (hs : h.sent = s.host.sent) : outSent { s with host := msixDue (n / 8) h } = outSent s := by
    rcases msixDue_out (n / 8) h with e | e
    · simp only [outSent, e, hs]
    · simp only [outSent, e, hs]
      rfl
  unfold setSource
  split
  · dsimp only
    split
    · exact due _ rfl
    · rfl
  · rfl

theorem reported_raiseBy (rom : Bool) (c k p q r : Nat) (s : State) : Reported s (raiseBy rom c k p q r s) := by
  unfold raiseBy
  split
  · refine ⟨?_, outSent_setSource k s⟩
    rw [setSource_frame]
  · exact .refl s

theorem reported_raise (c k p q r : Nat) (s : State) : Reported s (raise c k p q r s) := reported_raiseBy false c k p q r s

end Sys2Proof.Machine
end

section
/-! SUPPORT. The RTC's parts: what setting it, its alarms and an idle step leave (R342, R344, R345, R349 to R352). -/

namespace Sys2Proof.Machine

/-! ### Firing alarms -/

/-- From `s` to `t` only alarms of the RTC, the wake and reports have changed. -/
structure AlarmsOnly (s t : State) : Prop where
  eq : t = { s with
    host := { s.host with evtStatus := t.host.evtStatus, sent := t.host.sent, pba := t.host.pba }, recorder := t.recorder
    rtc := { s.rtc with alarms := t.rtc.alarms }, power := t.power }
  net : t.power.netTick = s.power.netTick
  aon : t.power.aonTick = s.power.aonTick

theorem AlarmsOnly.refl (s : State) : AlarmsOnly s s := ⟨rfl, rfl, rfl⟩

theorem AlarmsOnly.trans {s t u : State} (a : AlarmsOnly s t) (b : AlarmsOnly t u) : AlarmsOnly s u := by
  refine ⟨?_, b.net.trans a.net, b.aon.trans a.aon⟩
  rw [b.eq, a.eq]

theorem Reported.alarmsOnly {s t : State} (h : Reported s t) : AlarmsOnly s t := by
  refine ⟨?_, ?_, ?_⟩ <;> rw [h.eq]

theorem alarmsOnly_onAlm (n : Nat) (f : Alarm → Alarm) (s : State) : AlarmsOnly s (onAlm n f s) := ⟨rfl, rfl, rfl⟩

theorem wakeAct_netTick (p : PowerSt) : (wakeAct p).netTick = p.netTick := by
  unfold wakeAct
  repeat' split
  all_goals rfl

theorem idleExit_netTick (s : State) : (idleExit s).power.netTick = s.power.netTick := by
  unfold idleExit
  split <;> rfl

theorem latchWake_netTick (n : Nat) (s : State) : (latchWake n s).power.netTick = s.power.netTick := by
  rw [← idleExit_netTick s]
  unfold latchWake
  generalize idleExit s = u
  dsimp only
  split
  · rfl
  · split
    · exact wakeAct_netTick _
    · rfl

/-- A wake changes only the power controller. -/
theorem latchWake_eq (n : Nat) (s : State) : latchWake n s = { s with power := (latchWake n s).power } := by
  have he : idleExit s = { s with power := (idleExit s).power } := by
    unfold idleExit
    split <;> rfl
  unfold latchWake
  dsimp only
  split
  · exact he
  · rw [he]

theorem alarmsOnly_latchWake (n : Nat) (s : State) : AlarmsOnly s (latchWake n s) :=
  ⟨by rw [latchWake_eq], latchWake_netTick n s, (latchWake_clocks n s).2.2.2⟩

theorem alarmsOnly_almRecord (n : Nat) (s : State) : AlarmsOnly s (almRecord n s) := by
  unfold almRecord
  split
  · exact .refl s
  · split
    · exact .refl s
    · split
      · exact (alarmsOnly_onAlm ..).trans (reported_raise ..).alarmsOnly
      · exact .refl s

theorem alarmsOnly_almFire (n k : Nat) (late : Bool) (s : State) : AlarmsOnly s (almFire n k late s) := by
  unfold almFire
  split
  · exact .refl s
  · exact ((alarmsOnly_onAlm ..).trans (alarmsOnly_latchWake ..)).trans (alarmsOnly_almRecord ..)

theorem alarmsOnly_almEvaluate (now n : Nat) (s : State) : AlarmsOnly s (almEvaluate now n s) := by
  unfold almEvaluate
  split
  · exact .refl s
  · dsimp only
    split
    · exact alarmsOnly_almFire ..
    · exact .refl s

theorem alarmsOnly_rtcAlarm (n : Nat) (s : State) : AlarmsOnly s (rtcAlarm n s) := by
  unfold rtcAlarm
  split
  · exact .refl s
  · split
    · split
      · exact alarmsOnly_almFire ..
      · exact alarmsOnly_almEvaluate ..
    · exact .refl s

/-- Recording a firing leaves of its alarm all but what waits to be recorded (R351). -/
theorem almRecord_alarm {n : Nat} {s : State} {a : Alarm} (h : s.rtc.alarms[n]? = some a) :
    ∃ u f, (almRecord n s).rtc.alarms[n]? = some { a with unrecorded := u, firings := f } := by
  unfold almRecord
  rw [h]
  dsimp only
  split
  · exact ⟨a.unrecorded, a.firings, h⟩
  · split
    · refine ⟨none, 0, ?_⟩
      rw [raise_rtc]
      simp [onAlm, onRtc, h]
    · exact ⟨a.unrecorded, a.firings, h⟩

/-- An alarm once it has fired at occurrence `k` of its target (R351). -/
def firedAlarm (k : Nat) (late : Bool) (a : Alarm) : Alarm :=
  let nxt := rtcSeconds a.target + k * almPeriod a.rep + almPeriod a.rep
  let go := almPeriod a.rep != 0 && nxt < calendarEnd
  { a with fired := true, late := late, skip := min k 255, armed := go, target := if go then { ofSeconds nxt with wday := 0 } else a.target }

theorem almFire_alarm {n : Nat} {s : State} {a : Alarm} (k : Nat) (late : Bool) (h : s.rtc.alarms[n]? = some a) :
    ∃ u f, (almFire n k late s).rtc.alarms[n]? = some { firedAlarm k late a with unrecorded := u, firings := f } := by
  unfold almFire
  rw [h]
  refine almRecord_alarm (a := { firedAlarm k late a with
    unrecorded := match a.unrecorded with
      | some u => some u
      | none => some (late, (rtcSeconds a.target + k * almPeriod a.rep) / 86400, (rtcSeconds a.target + k * almPeriod a.rep) % 86400)
    firings := a.firings + 1 }) ?_
  rw [latchWake_rtc, onAlm, onRtc_rtc, getElem?_modNth_same, h]
  rfl

/-! ### Setting and releasing -/

theorem shadow_onShadow (g : Bool) (f : Shadow → Shadow) (s : State) :
    shadow g (onShadow g f s) = f (shadow g s) ∧ shadow (!g) (onShadow g f s) = shadow (!g) s := by
  cases g <;> exact ⟨rfl, rfl⟩

theorem onShadow_eq (g : Bool) (f : Shadow → Shadow) (s : State) :
    ∃ h m, onShadow g f s = { s with rtc := { s.rtc with hostShadow := h, mgmtShadow := m } } := by
  cases g <;> exact ⟨_, _, rfl⟩

/-- The RTC that is halted with an impossible date stays halted (R349). -/
theorem rtcRelease_invalid {s : State} (h : s.rtc.halt = true) (hd : dateOk s.rtc.time = false) : rtcRelease s =
    raise 0x0612 22 (rtcTime0 s.rtc.time) (rtcTime1 s.rtc.time) 0 (onRtc (fun r => { r with dateInvalid := true }) s) := by
  simp [rtcRelease, h, hd]

/-- The RTC that is halted with a possible date runs from it; only its alarms may move further (R349, R352). -/
theorem rtcRelease_rtc {s : State} (h : s.rtc.halt = true) (hd : dateOk s.rtc.time = true) : ∃ l, (rtcRelease s).rtc = { s.rtc with
    halt := false, dateInvalid := false, lost := false, ended := false
    time := { s.rtc.time with wday := weekday (dayNumber s.rtc.time) }, alarms := l } := by
  rw [rtcRelease, if_neg (by simp [h]), if_neg (by simp [hd])]
  dsimp only
  rw [raise_rtc, ((alarmsOnly_almEvaluate ..).trans (alarmsOnly_almEvaluate ..)).eq]
  exact ⟨_, rfl⟩

/-- A write of RTC_CTRL that reaches the RTC ends the writer's freeze and halts or releases (R347 to R349). -/
theorem exec_rtcCtrlWrite {s : State} {g : Bool} (v : Nat) (h : rtcReach g s = true) : exec (.rtcCtrlWrite v g) s = .next
    (let u := onShadow g (fun x => { x with frozen := false }) s
     if bit v 0 then (if u.rtc.halt then u else onRtc (fun r => { r with halt := true, haltReading := rtcReading r.time }) u)
     else rtcRelease u) := by
  refine congrArg Host.Outcome.next (if_neg ?_)
  simp [h]

/-- The range's end halts the RTC that passes it (R344). -/
theorem rtcEnd_reached {s : State} (hr : rtcRunning s = true) (he : rtcEndReached s.rtc.time = true) :
    rtcEnd s = raise 0x0613 22 (rtcTime0 s.rtc.time) (rtcTime1 s.rtc.time) 0 { s with rtc :=
      { s.rtc with halt := true, ended := true, haltReading := rtcReading s.rtc.time } } :=
  if_pos (by simp [hr, he])

/-! ### The idle step -/

theorem netClock_power (s : State) :
    (netClock s).power = { s.power with netTick := s.power.netTick + b2n (plantRuns s) } := by
  unfold netClock
  split <;> rename_i h
  · rw [(changesReported_rtc_power _).2, h]
    rfl
  · rw [Bool.not_eq_true _ |>.mp h]
    rfl

/-- A crystal edge falls in the period. -/
theorem aonClock_edge {s : State} (h : 125000000 ≤ s.power.tickPhase + 32768) : aonClock s =
    rtcEdge (onPower (fun p => { p with tickPhase := s.power.tickPhase + 32768 - 125000000, aonTick := p.aonTick + 1 }) s) := by
  unfold aonClock
  dsimp only
  rw [if_neg (Nat.not_lt.mpr h)]

theorem aonClock_between {s : State} (h : s.power.tickPhase + 32768 < 125000000) :
    aonClock s = onPower (fun p => { p with tickPhase := s.power.tickPhase + 32768 }) s := by
  unfold aonClock
  dsimp only
  rw [if_pos h]

/-- A crystal edge of a running RTC moves the reading and may fire alarms (R342). -/
theorem rtcEdge_eq (s : State) : ∃ r, AlarmsOnly { s with rtc := r } (rtcEdge s) := by
  unfold rtcEdge
  split
  · exact ⟨s.rtc, .refl s⟩
  · split
    · unfold rtcEnd
      split
      · exact ⟨_, (reported_raise ..).alarmsOnly⟩
      · exact ⟨s.rtc, .refl s⟩
    · exact ⟨_, (alarmsOnly_rtcAlarm ..).trans (alarmsOnly_rtcAlarm ..)⟩

end Sys2Proof.Machine
end

section
/-! The RTC: O24, O25 and O26. -/

namespace Sys2Proof.Machine

/-- Settles O24: the event and the crystal edge that pass the last tick halt the RTC there. That an idle step brings the edge is the
model's choice (log 2). -/
theorem rtcRangeEnd : Obligations.RtcRangeEnd := by
  unfold Obligations.RtcRangeEnd
  refine ⟨fun s hr he => congrArg Host.Outcome.next (rtcEnd_reached hr he), fun s hq hm hp hr he ht => ?edge⟩
  case edge =>
    obtain ⟨hrtc, -⟩ := netClock_rtc s
    have hpower := netClock_power s
    have hidle : step s = .next (idleTick s) := by rw [step, hq, idleStep, hm]
    refine ⟨_, hidle, ?_⟩
    rw [idleTick, if_neg hp, aonClock_edge (by rw [hpower]; exact ht)]
    generalize hu : onPower _ (netClock s) = u
    have hur : u.rtc = s.rtc := by rw [← hu]; exact hrtc
    have hrun : rtcRunning u = true := by
      rw [rtcRunning, hur, ← hu, onPower_power, hpower]
      exact hr
    have hend : rtcEndReached u.rtc.time = true := by rw [hur]; exact he
    rw [rtcEdge, if_neg (by simp [hrun]), if_pos hend, rtcEnd_reached hrun hend, raise_rtc, hur]
    exact ⟨rfl, rfl, rfl⟩

/-- Settles O25: a write of RTC_CTRL halts or releases the RTC, writes set a halted one only, and reads move the reader's shadow. -/
theorem rtcSetAndRead : Obligations.RtcSetAndRead := by
  unfold Obligations.RtcSetAndRead
  refine ⟨fun s v g hr hv hh => ?halt, fun s v g hr hv hh hd => ?invalid, fun s v g hr hv hh hd => ?release,
    fun s r v hr hrun => ?discarded, fun s v hr hrun => ?time0, fun s v hr hrun => ?time1, fun s hr hf => ?read0, fun s hr hf => ?read1,
    fun s g hf => ?expiry⟩
  case halt =>
    refine ⟨_, exec_rtcCtrlWrite v hr, ?_⟩
    obtain ⟨hsame, hother⟩ := shadow_onShadow g (fun x => { x with frozen := false }) s
    obtain ⟨h, m, e⟩ := onShadow_eq g (fun x => { x with frozen := false }) s
    have hu : (onShadow g (fun x => { x with frozen := false }) s).rtc.halt = false := by rw [e]; exact hh
    simp only [hv, hu, if_true, Bool.false_eq_true, if_false]
    have hs (k : Bool) (u : State) : shadow k (onRtc (fun r => { r with halt := true, haltReading := rtcReading r.time }) u) = shadow k u := rfl
    rw [hs, hs, hsame, hother, e]
    exact ⟨rfl, rfl, rfl, rfl, rfl, rfl, rfl, rfl⟩
  case invalid =>
    refine ⟨_, exec_rtcCtrlWrite v hr, ?_⟩
    obtain ⟨h, m, e⟩ := onShadow_eq g (fun x => { x with frozen := false }) s
    simp only [hv, Bool.false_eq_true, if_false, e]
    refine (congrArg (fun u : State => u.rtc.halt = true ∧ u.rtc.dateInvalid = true ∧ u.rtc.time = s.rtc.time ∧
      u.rtc.alarms = s.rtc.alarms) (rtcRelease_invalid (s := { s with rtc := { s.rtc with hostShadow := h, mgmtShadow := m } }) hh hd)).mpr ?_
    simp only [raise_rtc]
    exact ⟨hh, rfl, rfl, rfl⟩
  case release =>
    refine ⟨_, exec_rtcCtrlWrite v hr, ?_⟩
    obtain ⟨h, m, e⟩ := onShadow_eq g (fun x => { x with frozen := false }) s
    simp only [hv, Bool.false_eq_true, if_false, e]
    obtain ⟨l, el⟩ := rtcRelease_rtc (s := { s with rtc := { s.rtc with hostShadow := h, mgmtShadow := m } }) hh hd
    rw [el]
    exact ⟨rfl, rfl, rfl, rfl, rfl⟩
  case discarded => exact congrArg Host.Outcome.next ((if_neg (by simp [hr])).trans (if_pos hrun))
  case time0 => exact congrArg Host.Outcome.next ((if_neg (by simp [hr])).trans (if_neg (by simp [hrun])))
  case time1 => exact congrArg Host.Outcome.next ((if_neg (by simp [hr])).trans (if_neg (by simp [hrun])))
  case read0 =>
    refine ⟨_, congrArg Host.Outcome.next (if_pos hr), ?_⟩
    simp [rtcTime0Read, shadowTime, shadow, rtcFreeze, onShadow, onRtc, send, hf]
  case read1 =>
    refine ⟨_, congrArg Host.Outcome.next (if_pos hr), ?_⟩
    simp [rtcTime1Read, shadowTime, shadow, rtcUnfreeze, onShadow, onRtc, send, hf]
  case expiry =>
    refine ⟨_, congrArg Host.Outcome.next (if_pos hf), ?_⟩
    obtain ⟨hsame, hother⟩ := shadow_onShadow g (fun x => { x with frozen := false }) s
    obtain ⟨h, m, e⟩ := onShadow_eq g (fun x => { x with frozen := false }) s
    have hs (k : Bool) (u : State) : shadow k (onRtc (fun r => { r with frzExp := true }) u) = shadow k u := rfl
    rw [hs, hs, hsame, hother, e]
    exact ⟨rfl, rfl, rfl, rfl, rfl⟩

/-- A wake source enabled in RUN is latched (R74). -/
theorem latchWake_latched {n : Nat} {s : State} (he : bit s.power.wakeEn n = true) (hc : s.power.cur = .run) (hp : s.power.phase ≠ .porLow) :
    bit (latchWake n s).power.wakeLatch n = true := by
  have hi : idleExit s = s := if_neg (by simp [hc])
  simp only [latchWake, hi, he, hc]
  rw [if_neg (by simp [hp])]
  show bit (if bit s.power.wakeLatch n then s.power.wakeLatch else s.power.wakeLatch + 2 ^ n) n = true
  split
  · assumption
  · exact bit_add _ _ (Bool.eq_false_iff.mpr ‹_›)

theorem almRecord_power (n : Nat) (s : State) : (almRecord n s).power = s.power := by
  unfold almRecord
  repeat' split
  all_goals simp [onAlm, onRtc]

theorem almFire_latched {n k : Nat} {late : Bool} {s : State} {a : Alarm} (h : s.rtc.alarms[n]? = some a)
    (he : bit s.power.wakeEn 1 = true) (hc : s.power.cur = .run) (hp : s.power.phase ≠ .porLow) :
    bit (almFire n k late s).power.wakeLatch 1 = true := by
  unfold almFire
  rw [h]
  dsimp only
  rw [almRecord_power]
  exact latchWake_latched he hc hp

/-- An armed alarm whose target second the running RTC has reached fires (R351). -/
theorem exec_rtcAlarm_due {s : State} {n : Nat} {a : Alarm} (hr : rtcRunning s = true) (ha : s.rtc.alarms[n]? = some a)
    (harm : a.armed = true) (ht : rtcSeconds a.target = rtcNow s) : exec (.rtcAlarm n) s = .next (almFire n 0 false s) := by
  show Host.Outcome.next (rtcAlarm n s) = _
  rw [rtcAlarm, ha]
  dsimp only
  rw [if_pos (by simp [almDue, ha, hr, harm, ht]), if_pos ht]

/-- A write of an alarm's control register that reaches the RTC (R346, R350). -/
theorem exec_rtcAlmCtrlWrite {s : State} {n : Nat} {a : Alarm} (v : Nat) (hr : rtcReach false s = true) (ha : s.rtc.alarms[n]? = some a) :
    exec (.rtcAlmCtrlWrite n v) s = .next
      (let u := onAlm n (fun a => { a with rep := bits v 1 2, fired := a.fired && !bit v 4 }) s
       if !bit v 0 then onAlm n (fun a => { a with armed := false, late := bit v 5 }) u
       else if !dateOk a.target then onAlm n (fun a => { a with armed := false, late := bit v 5, invalid := true }) u
       else onAlm n (fun a => { a with armed := true, invalid := false }) u) := by
  show Host.Outcome.next (almCtrlWrite n v s) = _
  rw [almCtrlWrite, ha]
  dsimp only
  rw [if_neg (by simp [hr])]

theorem onAlm_onAlm_alarm {s : State} {n : Nat} {a : Alarm} (f g : Alarm → Alarm) (ha : s.rtc.alarms[n]? = some a) :
    (onAlm n f (onAlm n g s)).rtc.alarms[n]? = some (f (g a)) := by
  simp [onAlm, onRtc, ha]

/-- The check of a locked, running RTC (R353, R354). -/
theorem exec_rtcTrimCheck {s : State} (hv : s.time.valid = true) (hl : s.time.locked = true) (hr : rtcRunning s = true)
    (hm : malorWorks s = true) : exec .rtcTrimCheck s = .next
      (if (rtcError s).natAbs < 1000000000 then
        onRtc (fun r => { r with
          rf := trimRate (rtcError s) s.rtc, ePrev := some (rtcError s), mismatch := false
          trim := clamp (-30000) 30000 (divRound (-((match trimRate (rtcError s) s.rtc with
            | some f => f
            | none => (Config.freeNat s.free : Int)) * 10240) - rtcError s * 2 ^ 24) (2 ^ 24 * 10240)) }) s.drawn
      else if s.rtc.mismatch then s
      else raise 0x0614 23 (s32sat (divRound (rtcError s) 1000000)) 0 0 (onRtc (fun r => { r with mismatch := true }) s)) :=
  congrArg Host.Outcome.next (if_pos (by simp [hv, hl, hr, hm]))

/-- Settles O26: an arm checks its target, a due alarm fires and moves on by its period, and the check trims or reports. -/
theorem rtcAlarmsAndTrim : Obligations.RtcAlarmsAndTrim := by
  unfold Obligations.RtcAlarmsAndTrim
  refine ⟨fun s n v a hr ha hv hd => ?arm, fun s n v a hr ha hv hd => ?invalid, fun s n v a hr ha hv => ?disarm,
    fun s n a hr ha harm ht hrep => ?once, fun s n a hr ha harm ht hrep hend => ?daily, fun s hv hl hr hm he => ?trim,
    fun s hv hl hr hm he => ?mismatch⟩
  case arm =>
    have run := exec_rtcAlmCtrlWrite v hr ha
    simp only [hv, hd, Bool.not_true, Bool.false_eq_true, if_false] at run
    refine ⟨_, _, run, onAlm_onAlm_alarm _ _ ha, rfl, rfl, rfl, rfl, rfl, ?_, ?_, rfl, rfl⟩ <;> intro h4 <;> simp [h4]
  case invalid =>
    have run := exec_rtcAlmCtrlWrite v hr ha
    simp only [hv, hd, Bool.not_true, Bool.not_false, Bool.false_eq_true, if_false, if_true] at run
    exact ⟨_, _, run, onAlm_onAlm_alarm _ _ ha, rfl, rfl⟩
  case disarm =>
    have run := exec_rtcAlmCtrlWrite v hr ha
    simp only [hv, Bool.not_false, if_true] at run
    exact ⟨_, _, run, onAlm_onAlm_alarm _ _ ha, rfl, rfl⟩
  case once =>
    obtain ⟨u, f, e⟩ := almFire_alarm 0 false ha
    refine ⟨_, _, exec_rtcAlarm_due hr ha harm ht, e, rfl, rfl, ?_, rfl, ?_, ?_, fun he hc hp => almFire_latched ha he hc hp⟩
    · simp [firedAlarm, almPeriod, hrep]
    · simp [firedAlarm, almPeriod, hrep]
    · exact almFire_rtcTime ..
  case daily =>
    obtain ⟨u, f, e⟩ := almFire_alarm 0 false ha
    refine ⟨_, _, exec_rtcAlarm_due hr ha harm ht, e, rfl, ?_, ?_⟩
    · simp [firedAlarm, almPeriod, hrep, ht, hend]
    · simp [firedAlarm, almPeriod, hrep, ht, hend]
  case trim =>
    refine ⟨_, (exec_rtcTrimCheck hv hl hr hm).trans (congrArg _ (if_pos he)), ?_⟩
    obtain ⟨hlow, hhigh⟩ := clamp_bounds (lo := -30000) (hi := 30000) (by decide) (divRound (-((match trimRate (rtcError s) s.rtc with
            | some f => f
            | none => (Config.freeNat s.free : Int)) * 10240) - rtcError s * 2 ^ 24) (2 ^ 24 * 10240))
    exact ⟨hlow, hhigh, rfl, rfl, rfl, rfl, rfl⟩
  case mismatch =>
    have run := exec_rtcTrimCheck hv hl hr hm
    rw [if_neg (Nat.not_lt.mpr he)] at run
    refine ⟨_, run, ?_⟩
    split
    · exact ⟨‹_›, rfl, rfl, fun _ => rfl⟩
    · rw [raise_rtc]
      exact ⟨rfl, rfl, rfl, fun h => absurd h ‹_›⟩

end Sys2Proof.Machine
end

section
/-! A step runs the front command: O1. -/

namespace Sys2Proof.Machine

theorem loopEvent_quiet {n : Nat} {s : State} (h : (loopOf s n).changes = 0) : loopEvent n s = s := by
  unfold loopEvent
  dsimp only
  rw [if_neg (by simp [h])]

theorem axisEvent_quiet {n : Nat} {s : State} (h : (axisOf s n).changes = 0) : axisEvent n s = s := by
  unfold axisEvent
  dsimp only
  rw [if_neg (by simp [h])]

theorem foldl_fixed {α β : Type} {f : β → α → β} {s : β} (h : ∀ a, f s a = s) (l : List α) : l.foldl f s = s := by
  induction l with
  | nil => rfl
  | cons a l ih => rw [List.foldl_cons, h, ih]

/-- Where no state change waits to be reported, none is. -/
theorem changesReported_quiet {s : State} (hl : ∀ x ∈ s.loops, x.changes = 0) (ha : ∀ x ∈ s.axes, x.changes = 0) : changesReported s = s := by
  have loops (n : Nat) : (loopOf s n).changes = 0 := by
    cases h : s.loops[n]? with
    | none => simp [loopOf, nth_eq, h]
    | some x => simpa [loopOf, nth_eq, h] using hl x (List.mem_of_getElem? h)
  have axes (n : Nat) : (axisOf s n).changes = 0 := by
    cases h : s.axes[n]? with
    | none => simp [axisOf, nth_eq, h]
    | some x => simpa [axisOf, nth_eq, h] using ha x (List.mem_of_getElem? h)
  unfold changesReported
  dsimp only
  rw [foldl_fixed (f := fun s n => loopEvent n s) fun n => loopEvent_quiet (loops n),
    foldl_fixed (f := fun s n => axisEvent n s) fun n => axisEvent_quiet (axes n)]

theorem changesReported_counted {s : State} (x : TimeSt) (n : Nat) (hl : ∀ x ∈ s.loops, x.changes = 0) (ha : ∀ x ∈ s.axes, x.changes = 0) :
    changesReported { s with time := x, power := { s.power with netTick := n } } =
      onPower (fun p => { p with netTick := n }) (onTime (fun _ => x) s) :=
  changesReported_quiet (s := onPower (fun p => { p with netTick := n }) (onTime (fun _ => x) s))
    (by rw [onPower_loops, onTime_loops]; exact hl) (by rw [onPower_axes, onTime_axes]; exact ha)

/-- A period in which no state change waits to be reported moves ONT and the tick count alone. -/
theorem netClock_quiet {s : State} (hl : ∀ x ∈ s.loops, x.changes = 0) (ha : ∀ x ∈ s.axes, x.changes = 0) : ∃ x,
    netClock s = onPower (fun p => { p with netTick := s.power.netTick + b2n (plantRuns s) }) (onTime (fun _ => x) s) := by
  unfold netClock
  split <;> rename_i h
  · exact ⟨_, (changesReported_counted _ _ hl ha).trans (by rw [h, show b2n true = 1 from rfl])⟩
  · exact ⟨s.time, by rw [Bool.eq_false_iff.mpr h]; rfl⟩

/-- The mailbox whose turn it is holds a rung command that does not wait on hardware. -/
theorem mailNext_rung {s : State} {k : Nat} (h : mailNext s = some k) : k ∈ s.host.rung ∧ s.host.waiting.contains k = false := by
  unfold mailNext at h
  dsimp only at h
  generalize hl : s.host.rung.filter _ = l at h
  have hk : k ∈ l := by
    split at h
    · exact Option.some.inj h ▸ List.mem_of_find?_eq_some ‹_›
    · exact List.mem_of_mem_head? h
  rw [← hl, List.mem_filter] at hk
  simp only [Bool.and_eq_true, Bool.not_eq_true'] at hk
  exact ⟨hk.1, hk.2.1⟩

/-- Settles O1: the front command runs, else the mailbox command whose turn it is, else one period passes. The latter two are the
model's choice (logs 2 and 3). -/
theorem stepRunsFrontCommand : Obligations.StepRunsFrontCommand := by
  unfold Obligations.StepRunsFrontCommand
  refine ⟨fun c s rest h => ?front, fun s k hq hm => ?mail, fun s k hm => ?due, fun s hq hm hp => ?held, fun s hq hm hp hl ha => ?idle⟩
  case front => rw [step, h]
  case mail => rw [step, hq, idleStep, hm]
  case due =>
    unfold mailDue at hm
    split at hm
    · exact ⟨‹_›, mailNext_rung hm⟩
    · simp at hm
  case held => rw [step, hq, idleStep, hm, idleTick, if_pos hp]
  case idle =>
    obtain ⟨x, e⟩ := netClock_quiet hl ha
    refine ⟨idleTick s, by rw [step, hq, idleStep, hm], ?_⟩
    rw [idleTick, if_neg hp, e]
    generalize hw : onPower _ (onTime _ s) = w
    rcases Nat.lt_or_ge (w.power.tickPhase + 32768) 125000000 with h | h
    · rw [aonClock_between h, ← hw]
      exact ⟨hq, rfl, rfl, rfl, rfl, rfl, rfl, rfl, rfl, rfl, rfl, rfl, .inl rfl⟩
    · rw [aonClock_edge h]
      generalize hu : onPower _ _ = u
      obtain ⟨r, hr⟩ := rtcEdge_eq u
      rw [hr.net, hr.aon, hr.eq, ← hu, ← hw]
      exact ⟨hq, rfl, rfl, rfl, rfl, rfl, rfl, rfl, rfl, rfl, rfl, rfl, .inr rfl⟩

end Sys2Proof.Machine
end

section
/-! SUPPORT. The parts of a loop's sample (R358 to R366): each is one rule about the sampled loop, which says what becomes of it beside
its sticky flags and what its reports owe, and that everything else stands. -/

namespace Sys2Proof.Machine

/-! ### A list with one element changed, and a value in range -/

theorem modNth_fixed {α : Type} {l : List α} {i : Nat} {a : α} {f : α → α} (h : l[i]? = some a) (hf : f a = a) : modNth l i f = l := by
  refine List.ext_getElem? fun j => ?_
  rw [getElem?_modNth]
  split
  · next e => rw [e, h, Option.map_some, hf]
  · rfl

/-! ### The sampled loop -/

/-- From `s` to `t` loop `n` has become `y` beside its sticky flags and what its reports owe; of the rest of the part only reports and
the samples that estimation keeps have moved. -/
structure LoopBecomes (n : Nat) (y : LoopSt) (s t : State) : Prop where
  eq : t = { s with
    host := { s.host with evtStatus := t.host.evtStatus, sent := t.host.sent, pba := t.host.pba }, recorder := t.recorder
    loops := t.loops, est := t.est }
  here : ∃ k c e, t.loops[n]? = some { y with sticky := k, changes := c, lastEvt := e }
  others : ∀ m, m ≠ n → t.loops[m]? = s.loops[m]?

section

variable {n : Nat} {x y z : LoopSt} {s t u : State}

theorem LoopBecomes.refl (h : s.loops[n]? = some x) : LoopBecomes n x s s := ⟨rfl, ⟨_, _, _, h⟩, fun _ _ => rfl⟩

theorem LoopBecomes.trans (a : LoopBecomes n y s t) (b : LoopBecomes n z t u) : LoopBecomes n z s u := by
  refine ⟨?_, b.here, fun m hm => (b.others m hm).trans (a.others m hm)⟩
  rw [b.eq, a.eq]

theorem LoopBecomes.reported (a : LoopBecomes n y s t) (b : Reported t u) : LoopBecomes n y s u := by
  have hl : u.loops = t.loops := by rw [b.eq]
  refine ⟨?_, by rw [hl]; exact a.here, fun m hm => by rw [hl]; exact a.others m hm⟩
  rw [b.eq, a.eq]

/-- A change of the loop, which takes its sticky flags and reports as they are. -/
theorem LoopBecomes.update (a : LoopBecomes n y s t) {f : LoopSt → LoopSt}
    (hf : ∀ k c e, ∃ k' c' e', f { y with sticky := k, changes := c, lastEvt := e } = { z with sticky := k', changes := c', lastEvt := e' } := by
      intro _ _ _; exact ⟨_, _, _, rfl⟩) : LoopBecomes n z s (onLoop n f t) := by
  obtain ⟨k, c, e, h⟩ := a.here
  obtain ⟨k', c', e', e1⟩ := hf k c e
  exact a.trans ⟨rfl, ⟨k', c', e', by simp [onLoop, h, e1]⟩, fun m hm => getElem?_modNth_other _ _ _ _ hm⟩

theorem loopOf_of_getElem? (h : s.loops[n]? = some x) : loopOf s n = x := nth_of_getElem? h

/-! ### What the committed parameters and the gates are after a part of the sample -/

theorem LoopBecomes.act_eq (a : LoopBecomes n y s t) (id : Nat) : act t id = act s id := by rw [a.eq]; rfl

theorem LoopBecomes.lp_eq (a : LoopBecomes n y s t) (k : Nat) : lp t n k = lp s n k := a.act_eq _

theorem LoopBecomes.lpN_eq (a : LoopBecomes n y s t) (k : Nat) : lpN t n k = lpN s n k := congrArg Int.toNat (a.lp_eq k)

theorem LoopBecomes.loopGain_eq (a : LoopBecomes n y s t) (e : Int) : loopGain t n e = loopGain s n e := by rw [a.eq]; rfl

/-! ### Sticky flags, states and outputs -/

/-- A sticky flag is all that R362 sets. -/
theorem LoopBecomes.stick (a : LoopBecomes n y s t) (b : Nat) (cond : Bool) : LoopBecomes n y s (loopStick n b cond t) := by
  unfold loopStick
  dsimp only
  split
  · have set : LoopBecomes n y s (onLoop n (fun l => { l with sticky := l.sticky + 2 ^ b }) t) := a.update
    split
    · exact set.reported (reported_raise ..)
    · exact set
  · exact a

theorem LoopBecomes.event (a : LoopBecomes n y s t) : LoopBecomes n y s (loopEvent n t) := by
  unfold loopEvent
  dsimp only
  split
  · exact LoopBecomes.reported a.update (reported_raise ..)
  · exact a

/-- RUN is entered with the supervision timer kept (R366, R369). -/
theorem LoopBecomes.enterRun (a : LoopBecomes n y s t) : LoopBecomes n { y with state := 2 } s (loopEnter n 2 t) := by
  obtain ⟨k, c, e, h⟩ := a.here
  unfold loopEnter
  rw [loopOf_of_getElem? h]
  split
  · next hs => exact ⟨a.eq, ⟨k, c, e, h.trans (by rw [← show y.state = 2 from hs])⟩, a.others⟩
  · exact a.update.event

/-! ### The profile (R365) -/

theorem profileStep_still (target p v a : Int) (amax jmax h : Nat) : profileStep target p v a 0 amax jmax h = ((target * 65536, 0, 0), false) := rfl

theorem divRound_zero (d : Nat) : divRound 0 d = 0 := by
  rcases Nat.eq_zero_or_pos d with rfl | h
  · rfl
  · have : (d : Int) / (2 * d) = 0 := Int.ediv_eq_zero_of_lt (by omega) (by omega)
    simpa [divRound] using this

theorem timesH_zero (h : Nat) : timesH 0 h = 0 := by simp [timesH, divRound_zero]

theorem divRound_nonneg {a : Int} (d : Nat) (h : 0 ≤ a) : 0 ≤ divRound a d := by
  rw [divRound, if_pos h]
  positivity

theorem clamp_zero {m : Int} (h : 0 ≤ m) : clamp (-m) m 0 = 0 := by
  rw [clamp, if_neg (by omega), if_neg (by omega)]

/-- At rest on its target the profile wants neither velocity nor acceleration. -/
theorem profileVel_rest (vmax amax jmax h : Nat) : profileVel 0 0 0 vmax amax jmax h = (0, 0) := by
  have hj : (0 : Int) ≤ timesH ((jmax : Int) * 65536) h := divRound_nonneg _ (by positivity)
  have ha : (0 : Int) ≤ (amax : Int) * 65536 := by positivity
  simp [profileVel, timesH_zero, divRound_zero, clamp_zero hj, clamp_zero ha]

theorem profileStep_rest (target : Int) (vmax amax jmax h : Nat) :
    profileStep target (target * 65536) 0 0 vmax amax jmax h = ((target * 65536, 0, 0), false) := by
  unfold profileStep
  split
  · rfl
  · simp [profileVel_rest, timesH_zero]

/-- The set-point that a profile step finds for a target. -/
def profileOf (s : State) (n : Nat) (target : Int) (x : LoopSt) : Int × Int × Int :=
  (profileStep target x.p x.v x.a (lpN s n 0x34) (lpN s n 0x35) (lpN s n 0x36) (lpN s n 0x00)).1

/-- A loop after a profile step towards a target. -/
def profiled (s : State) (n : Nat) (target : Int) (x : LoopSt) : LoopSt :=
  { x with
    target := target, p := (profileOf s n target x).1, v := (profileOf s n target x).2.1, a := (profileOf s n target x).2.2
    atTarget := (profileOf s n target x).1 == target * 65536 }

/-- The target is the loop's own, or the cascade's (R364). -/
theorem LoopBecomes.profile (a : LoopBecomes n y s t) :
    ∃ g, (lp s n 0x30 ≠ 1 → g = y.target) ∧ LoopBecomes n (profiled s n g y) s (loopProfile n t) := by
  obtain ⟨g, hg, b⟩ : ∃ g, (lp s n 0x30 ≠ 1 → g = y.target) ∧ LoopBecomes n { y with target := g } s
      (if lp t n 0x30 = 1 then onLoop n (fun l => { l with target := cascadeTarget t n }) t else t) := by
    split
    · next h => exact ⟨cascadeTarget t n, fun hn => absurd ((a.lp_eq _).symm.trans h) hn, a.update⟩
    · exact ⟨y.target, fun _ => rfl, a⟩
  refine ⟨g, hg, ?_⟩
  unfold loopProfile
  generalize (if lp t n 0x30 = 1 then _ else t) = w at b ⊢
  obtain ⟨k, c, e, h⟩ := b.here
  dsimp only
  rw [loopOf_of_getElem? h]
  have hp : ((profileOf s n g y), (profileStep g y.p y.v y.a (lpN w n 0x34) (lpN w n 0x35) (lpN w n 0x36) (lpN w n 0x00)).2) =
      profileStep g y.p y.v y.a (lpN w n 0x34) (lpN w n 0x35) (lpN w n 0x36) (lpN w n 0x00) := by
    simp only [profileOf, b.lpN_eq]
  dsimp only
  rw [← hp]
  dsimp only
  split
  · exact LoopBecomes.reported (b.update.stick 8 _) (reported_raise ..)
  · exact b.update.stick 8 _

/-! ### The filter and the evaluation (R360, R361) -/

/-- The unclamped output of the filter, and the value its states are fed with. -/
def filterY (s : State) (n : Nat) (w : Int) (x : LoopSt) : Int := satS 32 (coefMul s n 0 w + x.s1)
def filterU (s : State) (n : Nat) (w : Int) (x : LoopSt) : Int := clamp (lp s n 0x21) (lp s n 0x22) (filterY s n w x)
def filterF (s : State) (n : Nat) (w : Int) (x : LoopSt) : Int := if lp s n 0x18 = 1 then filterU s n w x else filterY s n w x

/-- A loop after the filter (R361). -/
def filtered (s : State) (n : Nat) (w : Int) (x : LoopSt) : LoopSt :=
  { x with
    s1 := satS 32 (coefMul s n 1 w - coefMul s n 4 (filterF s n w x) + x.s2)
    s2 := satS 32 (coefMul s n 2 w - coefMul s n 5 (filterF s n w x) + x.s3)
    s3 := satS 32 (coefMul s n 3 w - coefMul s n 6 (filterF s n w x)), out := filterU s n w x }

theorem LoopBecomes.coefMul_eq (a : LoopBecomes n y s t) (k : Nat) (v : Int) : coefMul t n k v = coefMul s n k v := by
  simp only [coefMul, a.lp_eq, a.lpN_eq]

theorem LoopBecomes.filter (a : LoopBecomes n y s t) (w : Int) : LoopBecomes n (filtered s n w y) s (loopFilter n w t) := by
  obtain ⟨k, c, e, h⟩ := a.here
  unfold loopFilter
  rw [loopOf_of_getElem? h]
  simp only [satFlag, a.coefMul_eq, a.lp_eq]
  exact (((((a.stick 3 _).stick 4 _).stick 5 _).stick 6 _).stick 7 _).update

/-- The error, the scheduled gain and the scaled error of an evaluation (R360). -/
def errOf (x : LoopSt) : Int := satS 32 (shiftRound x.p 16 - x.pv)
def gainOf (s : State) (n : Nat) (x : LoopSt) : Nat := loopGain s n (errOf x)
def scaledOf (s : State) (n : Nat) (x : LoopSt) : Int := satS 32 (shiftRound ((gainOf s n x : Int) * errOf x) (lpN s n 0x04))

/-- A loop with its error and its scheduled gain. -/
def erred (s : State) (n : Nat) (x : LoopSt) : LoopSt := { x with err := errOf x, gain := gainOf s n x }

/-- A loop after an evaluation whose following error is not supervised, from the loop with its set-point. -/
def evaluated (s : State) (n : Nat) (x : LoopSt) : LoopSt :=
  { filtered s n (scaledOf s n x) (erred s n x) with
    state := 2, feTmr := 0, drive := filterU s n (scaledOf s n x) x, driven := true
    level := if lp s n 0x27 ≤ filterU s n (scaledOf s n x) x then true
      else if filterU s n (scaledOf s n x) x ≤ lp s n 0x28 then false else x.level }

theorem LoopBecomes.drive (a : LoopBecomes n y s t) (v : Int) : LoopBecomes n { y with
    drive := v, driven := true, level := if lp s n 0x27 ≤ v then true else if v ≤ lp s n 0x28 then false else y.level } s (loopDrive n v t) := by
  unfold loopDrive
  rw [a.lp_eq, a.lp_eq]
  exact a.update

/-- With a limit of 0 the following error is not supervised (R366). -/
theorem LoopBecomes.supervise (a : LoopBecomes n y s t) (h : lp s n 0x38 = 0) : LoopBecomes n { y with feTmr := 0 } s (loopSupervise n t) := by
  unfold loopSupervise
  have hl : lpN t n 0x38 = 0 := by rw [a.lpN_eq, lpN, h]; rfl
  rw [hl]
  have b : LoopBecomes n { y with feTmr := 0 } s
      (onLoop n (fun l => { l with feTmr := if (0 : Nat) ≠ 0 ∧ 0 < (loopOf t n).err.natAbs then l.feTmr + 1 else 0 }) t) := a.update
  dsimp only
  have hf : feReached (onLoop n (fun l => { l with feTmr := if (0 : Nat) ≠ 0 ∧ 0 < (loopOf t n).err.natAbs then l.feTmr + 1 else 0 }) t) n =
      false := by
    rw [feReached, b.lp_eq, h]; rfl
  rw [if_neg (by rw [hf]; decide)]
  exact b

theorem LoopBecomes.evaluate (a : LoopBecomes n y s t) (c d : Bool) : LoopBecomes n (filtered s n (scaledOf s n y) (erred s n y)) s
    (loopFilter n (scaledOf s n y) (loopStick n 2 d (loopStick n 1 c
      (onLoop n (fun l => { l with err := errOf y, gain := gainOf s n y }) t)))) :=
  LoopBecomes.filter (((LoopBecomes.update (z := erred s n y) a).stick 1 c).stick 2 d) _

/-- One evaluation in RUN (R360 to R365). -/
theorem LoopBecomes.run (a : LoopBecomes n y s t) (hr : y.realign = false) (h : lp s n 0x38 = 0) :
    ∃ g, (lp s n 0x30 ≠ 1 → g = y.target) ∧ LoopBecomes n (evaluated s n (profiled s n g y)) s (loopRun n t) := by
  obtain ⟨k, c, e, hx⟩ := a.here
  unfold loopRun
  rw [if_neg (by simp [loopOf_of_getElem? hx, hr])]
  obtain ⟨g, hg, b⟩ := a.profile
  refine ⟨g, hg, ?_⟩
  dsimp only
  generalize loopProfile n t = w at b ⊢
  obtain ⟨k, c, e, hw⟩ := b.here
  simp only [satFlag, loopOf_of_getElem? hw, b.loopGain_eq, b.lpN_eq]
  generalize hv : loopFilter n _ _ = v
  have hf : LoopBecomes n _ s v := hv ▸ b.evaluate _ _
  obtain ⟨k, c, e, hy⟩ := hf.here
  rw [show (loopOf v n).out = filterU s n (scaledOf s n (profiled s n g y)) (profiled s n g y) from
    congrArg LoopSt.out (loopOf_of_getElem? hy)]
  exact (hf.enterRun.drive _).supervise h

/-! ### The latch, the choice of state and the sample (R357 to R359, R368) -/

theorem LoopBecomes.hold (a : LoopBecomes n y s t) (i j : Nat) : LoopBecomes n y s (holdSample i j t) := by
  unfold holdSample
  split
  · exact a
  · refine ⟨?_, a.here, a.others⟩
    rw [a.eq]

/-- A loop after the latch of a sample that has a source value (R359). -/
def latched (s : State) (n : Nat) (v : Int) (age : Nat) (x : LoopSt) : LoopSt :=
  { x with
    permit := loopPermit s n, samples := wrapInc 32 x.samples, ts := ontLo s, handed := false
    pv := satS 32 (divRound (v * lp s n 0x05 + lp s n 0x06 * 65536) 65536), valAt := some s.time.ont, stale := loopStale s n age }

theorem loopLatch_value (v : Int) (age : Nat) (h : s.loops[n]? = some x) :
    LoopBecomes n (latched s n v age x) s (loopLatch n (some (v, age)) s) := by
  have a := LoopBecomes.update (z := { x with
      permit := loopPermit s n, samples := wrapInc 32 x.samples, ts := ontLo s, handed := false })
    (f := fun l => { l with permit := loopPermit s n, samples := wrapInc 32 l.samples, ts := ontLo s, handed := false }) (.refl h)
  unfold loopLatch
  generalize onLoop n _ s = w at a ⊢
  have hpv : (loopPv w n v).1 = satS 32 (divRound (v * lp s n 0x05 + lp s n 0x06 * 65536) 65536) := by
    simp only [loopPv, satFlag, a.lp_eq]
  have b := a.hold 5 n
  have hst : loopStale (holdSample 5 n w) n age = loopStale s n age := by simp only [loopStale, b.lp_eq, b.lpN_eq]
  have hont : (holdSample 5 n w).time.ont = s.time.ont := by rw [b.eq]
  dsimp only
  rw [hpv, hst, hont]
  exact b.update.stick 0 _

/-- Without a clear that waits the sample begins with the loop as it is (R374). -/
theorem loopClears_none (h : s.loops[n]? = some x) (hc : x.clearDue = 0) : loopClears n s = s := by
  have same : onLoop n (fun l => { l with clearDue := 0, sticky := if bit 0 0 then 0 else l.sticky }) s = s := by
    have fixed : { x with clearDue := 0, sticky := if bit 0 0 then 0 else x.sticky } = x := by
      cases x
      cases hc
      rfl
    rw [onLoop, modNth_fixed h fixed]
  unfold loopClears
  rw [loopOf_of_getElem? h, hc]
  dsimp only
  rw [same, if_neg (by simp [bit])]

/-- In RUN conditions the sample is evaluated (R368). -/
theorem LoopBecomes.decide_active (a : LoopBecomes n y s t) (src : Option (Int × Nat)) (hs : standby s = false) (hh : holdLine s = false)
    (hc : y.cause = 0) (hp : y.permit = true) : loopDecide n src t = loopActive n src t := by
  obtain ⟨k, c, e, h⟩ := a.here
  have hst : standby t = false := by rw [a.eq]; exact hs
  have hho : holdLine t = false := by rw [a.eq]; exact hh
  rw [loopDecide, hst, hho, loopOf_of_getElem? h]
  simp [hc, hp]

/-- An error that waits for the sample is none (R367). -/
theorem LoopBecomes.ecc_none (a : LoopBecomes n y s t) (h : y.eccDue = none) : loopEcc n t = t := by
  obtain ⟨k, c, e, hx⟩ := a.here
  rw [loopEcc, loopOf_of_getElem? hx]
  simp [h]

/-- A running loop whose source is not stale is evaluated (R366). -/
theorem LoopBecomes.active_started (a : LoopBecomes n y s t) (v : Int) {age : Nat} (hy : y.started = true)
    (hs : loopStale s n age = false) : loopActive n (some (v, age)) t = loopRun n t := by
  obtain ⟨k, c, e, h⟩ := a.here
  have hst : loopStale t n age = false := by simpa only [loopStale, a.lp_eq, a.lpN_eq] using hs
  rw [loopActive, loopOf_of_getElem? h]
  simp [hy, hst]

/-- A loop at rest on its measured value. -/
def begun (x : LoopSt) : LoopSt := { x with started := true, target := x.pv, p := x.pv * 65536, v := 0, a := 0 }

/-- The first source value starts the loop (R370). -/
theorem LoopBecomes.active_first (a : LoopBecomes n y s t) (v : Int) {age : Nat} (hy : y.started = false) :
    ∃ w, LoopBecomes n (begun y) s w ∧ loopActive n (some (v, age)) t = loopRun n w := by
  refine ⟨onLoop n begun t, a.update, ?_⟩
  obtain ⟨k, c, e, h⟩ := a.here
  rw [loopActive, loopOf_of_getElem? h]
  simp only [hy, Bool.not_false, if_true]
  rw [loopStarting, if_pos rfl]
  exact congrArg (fun f => loopRun n (onLoop n f t)) (funext fun _ => rfl)

end

/-! ### A sample with RUN conditions -/

/-- The conditions under which a sample of loop `n`, which was `x`, is an evaluation with the source value `v` taken at `ts`, its
parameters being `c` (R357 to R359, R368). -/
structure SampleRuns (n : Nat) (x : LoopSt) (v : Int) (ts : Nat) (c : Nat → Int) (s : State) : Prop where
  params : ∀ k, c k = par s (0x2000 + 0x80 * n + k)
  plant : plantRuns s = true
  unit : enabled s 10 n = true
  going : stopping s 10 n = false
  instant : loopInstant s n = true
  loop : s.loops[n]? = some x
  parked : x.parked = false
  waitScan : x.waitScan = false
  clearDue : x.clearDue = 0
  eccDue : x.eccDue = none
  cause : x.cause = 0
  realign : x.realign = false
  standby : standby s = false
  hold : holdLine s = false
  permit : c 0x3A = 0 ∨ permitBit s n = true
  source : sourceValue s (c 1).toNat (c 2).toNat (c 3).toNat = some (v, ts)
  supervised : c 0x38 = 0

/-- The state in which the evaluation of loop `n` runs: its parameters are committed (R358). -/
abbrev loopCommitted (n : Nat) (s : State) : State := parCommit (loopParams n) s

section

variable {n : Nat} {x : LoopSt} {v : Int} {ts : Nat} {c : Nat → Int} {s : State}

theorem SampleRuns.lp (h : SampleRuns n x v ts c s) {k : Nat} (hk : k < 0x80) : lp (loopCommitted n s) n k = c k := by
  rw [h.params]
  refine act_parCommit (id := loopId n k) s ?_
  simp [loopParams, loopId, hk]

theorem SampleRuns.lpN (h : SampleRuns n x v ts c s) {k : Nat} (hk : k < 0x80) : lpN (loopCommitted n s) n k = (c k).toNat :=
  congrArg Int.toNat (h.lp hk)

/-- The latched loop, and the sample as the evaluation of it. -/
theorem SampleRuns.sample (h : SampleRuns n x v ts c s) : ∃ t,
    LoopBecomes n (latched (loopCommitted n s) n v (s.time.ont - ts) x) (loopCommitted n s) t ∧
      loopSample n s = loopEvent n (loopActive n (some (v, s.time.ont - ts)) t) := by
  have hx : (loopCommitted n s).loops[n]? = some x := h.loop
  have a := loopLatch_value v (s.time.ont - ts) hx
  have hsrc : loopSource (loopCommitted n s) n = some (v, s.time.ont - ts) := by
    rw [loopSource, h.lpN (by decide), h.lpN (by decide), h.lpN (by decide)]
    exact congrArg (Option.map fun x => (x.1, s.time.ont - x.2)) h.source
  have hpermit : loopPermit (loopCommitted n s) n = true := by
    rw [loopPermit, h.lp (by decide), Bool.or_eq_true, beq_iff_eq]
    exact h.permit
  refine ⟨_, a, ?_⟩
  rw [← a.decide_active _ h.standby h.hold h.cause hpermit, loopSample]
  dsimp only
  rw [loopOf_of_getElem? h.loop, if_neg (by simp [h.plant, h.unit, h.instant, h.going, h.parked, h.waitScan]),
    loopClears_none hx h.clearDue, hsrc, a.ecc_none h.eccDue]

end

end Sys2Proof.Machine
end

section
/-! One evaluation of a loop: O41. -/

namespace Sys2Proof.Machine

/-- The events of one cycle differ from the events in their order only (R544). -/
theorem oneCycle_eq (f : State → State) (s : State) : ∃ r, oneCycle f s = { f s with recorder := r } := ⟨_, rfl⟩

/-- A sample of a loop is one cycle; what it makes of the part beside the records is the sample's. -/
theorem exec_loopSample_becomes {n : Nat} {y : LoopSt} {s w : State} (hw : w.axes = s.axes ∧ w.power = s.power ∧
    w.host.params = s.host.params ∧ w.loops = s.loops) (h : LoopBecomes n y w (loopSample n s)) : ∃ t,
    exec (.loopSample n) s = .next t ∧ (∃ k c e, t.loops[n]? = some { y with sticky := k, changes := c, lastEvt := e }) ∧
      (∀ m, m ≠ n → t.loops[m]? = s.loops[m]?) ∧ t.axes = s.axes ∧ t.power = s.power ∧ t.host.params = s.host.params := by
  obtain ⟨ha, hp, hh, hl⟩ := hw
  refine ⟨oneCycle (loopSample n) s, rfl, h.here, fun m hm => (h.others m hm).trans (by rw [hl]), ?_, ?_, ?_⟩
  · rw [oneCycle_axes, h.eq, ha]
  · rw [oneCycle_power, h.eq, hp]
  · rw [oneCycle_host, h.eq, ← hh]

/-- The gain between two entries of the table (R360). -/
theorem loopGain_unsigned {s : State} {n p f : Nat} {e : Int} {g : Nat → Nat} (hm : lp s n 0x19 = 0)
    (hp : p = e.natAbs / 2 ^ lpN s n 0x1A) (hf : f = e.natAbs * 65536 / 2 ^ lpN s n 0x1A % 65536)
    (hg : ∀ k, g k = tabN s (0x2000 + 0x80 * n + 0x1B) (4 * k) 4) :
    (63 ≤ p → loopGain s n e = g 63) ∧ (p < 63 → (loopGain s n e : Int) = g p + ((g (p + 1) : Int) - g p) * f / 65536) := by
  have hfrac : f < 65536 := hf ▸ Nat.mod_lt _ (by decide)
  have hpos : (e.natAbs * 65536 : Int) / (2 ^ lpN s n 0x1A : Nat) = (e.natAbs * 65536 / 2 ^ lpN s n 0x1A : Nat) := by push_cast; rfl
  have hint : e.natAbs * 65536 / 2 ^ lpN s n 0x1A / 65536 = p := by
    rw [hp, Nat.div_div_eq_div_mul, Nat.mul_div_mul_right _ _ (by decide)]
  unfold loopGain
  dsimp only
  rw [if_pos hm, hpos]
  generalize e.natAbs * 65536 / 2 ^ lpN s n 0x1A = q at hf hint
  have hclamp : (clamp 0 (63 * 65536) (q : Int)).toNat = if 63 * 65536 < q then 63 * 65536 else q := by
    rw [clamp, if_neg (by omega)]
    split <;> split <;> omega
  simp only [hclamp, loopId, ← hg]
  constructor
  · intro h
    rw [if_pos]
    split <;> omega
  · intro h
    rw [if_neg (show ¬ 63 * 65536 < q by omega), hint, if_neg (by omega), ← hf]
    have hbase : -(g p : Int) * 65536 ≤ ((g (p + 1) : Int) - g p) * f := by
      have h1 : (0 : Int) ≤ (g (p + 1) : Int) * f := by positivity
      have h2 : (g p : Int) * f ≤ (g p : Int) * 65536 := by
        exact mul_le_mul_of_nonneg_left (by omega) (by positivity)
      linarith [sub_mul (g (p + 1) : Int) (g p) f]
    generalize ((g (p + 1) : Int) - g p) * f = d at hbase
    omega

/-- Nothing is recorded in a cycle in which nothing happens. -/
theorem oneCycle_idle {f : State → State} {s : State} (h : f s = s) : oneCycle f s = s := by
  simp [oneCycle, h, renumber, upTo]

/-- Whole positions lose nothing when their fraction is cut off. -/
theorem shiftRound_whole (v : Int) : shiftRound (v * 65536) 16 = v := by
  simp only [shiftRound, divRound]
  split <;> omega

theorem satS_bounds (v : Int) : -(2 ^ 31) ≤ satS 32 v ∧ satS 32 v < 2 ^ 31 := by
  have := clamp_bounds (lo := -(2 ^ 31 : Nat)) (hi := (2 ^ 31 : Nat) - 1) (by decide) v
  exact ⟨this.1, Int.lt_of_le_sub_one this.2⟩

/-- Settles O41: a sample with RUN conditions is the evaluation of the loop it latched; the first source value starts it from rest on PV.
That the profile comes before the error rests on log 18. -/
theorem loopEvaluation : Obligations.LoopEvaluation := by
  unfold Obligations.LoopEvaluation
  refine ⟨fun s n c x v ts hc hp he hst hi hx hpk hws hcd hecc hcause hstart hre hsb hh hperm hsrc hage hsup => ?evaluation,
    fun s n hi => ?between, fun s n p f e g hm hp hf hg => loopGain_unsigned hm hp hf hg,
    fun s n c x v ts hc hp he hst hi hx hpk hws hcd hecc hcause hstart hre hsb hh hperm hown hsrc hsup => ?first⟩
  case evaluation =>
    have runs : SampleRuns n x v ts c s := ⟨hc, hp, he, hst, hi, hx, hpk, hws, hcd, hecc, hcause, hre, hsb, hh, hperm, hsrc, hsup⟩
    have lpC {k : Nat} (hk : k < 0x80) := runs.lp hk
    have lpCN {k : Nat} (hk : k < 0x80) := runs.lpN hk
    obtain ⟨t, a, e⟩ := runs.sample
    have fresh : loopStale (loopCommitted n s) n (s.time.ont - ts) = false := by
      rw [loopStale, lpC (by decide), lpCN (by decide)]
      rcases hage with h | h
      · simp [h]
      · simp [Nat.not_lt.mpr h]
    rw [a.active_started v hstart fresh] at e
    obtain ⟨g, hg, b⟩ := a.run hre ((lpC (by decide)).trans hsup)
    rw [lpC (by decide)] at hg
    have hb := b.event
    rw [← e] at hb
    obtain ⟨u, run, ⟨k, ch, ev, here⟩, others, frame⟩ := exec_loopSample_becomes (s := s) (w := loopCommitted n s) ⟨rfl, rfl, rfl, rfl⟩ hb
    generalize hl : latched (loopCommitted n s) n v (s.time.ont - ts) x = l at here hg
    generalize hq : profiled (loopCommitted n s) n g l = q at here
    have hs1 : q.s1 = x.s1 := by rw [← hq, ← hl]; rfl
    have hs2 : q.s2 = x.s2 := by rw [← hq, ← hl]; rfl
    have hs3 : q.s3 = x.s3 := by rw [← hq, ← hl]; rfl
    have hcnt : q.samples = wrapInc 32 x.samples := by rw [← hq, ← hl]; rfl
    have hpv : q.pv = satS 32 (divRound (v * c 5 + c 6 * 65536) 65536) := by
      rw [← lpC (k := 5) (by decide), ← lpC (k := 6) (by decide), ← hq, ← hl]; rfl
    have htarget (h : c 0x30 = 0) : q.target = x.target := by
      have := hg (by rw [h]; decide)
      rw [← hq]
      exact this.trans (by rw [← hl]; rfl)
    have hstill (h : (c 0x34).toNat = 0) : q.p = q.target * 65536 ∧ q.v = 0 ∧ q.a = 0 ∧ q.atTarget = true := by
      have hv : profileOf (loopCommitted n s) n g l = (g * 65536, 0, 0) := by
        rw [profileOf, lpCN (by decide), h, profileStep_still]
      rw [← hq, profiled, hv]
      exact ⟨rfl, rfl, rfl, by simp⟩
    refine ⟨u, _, scaledOf (loopCommitted n s) n q, filterF (loopCommitted n s) n (scaledOf (loopCommitted n s) n q) q,
      run, here, rfl, hcnt, hpv, htarget, hstill, rfl, rfl, ?_, ?_, ?_, ?_, ?_, ?_, rfl, others, frame⟩
    · rw [scaledOf, lpCN (by decide)]; rfl
    · show filterU _ _ _ q = _
      rw [filterU, filterY, coefMul, hs1, lpC (by decide), lpC (by decide), lpC (by decide), lpCN (by decide)]
    · rw [filterF, lpC (by decide), filterY, coefMul, hs1, lpC (by decide), lpCN (by decide)]; rfl
    · show satS 32 (coefMul _ _ 1 _ - coefMul _ _ 4 _ + q.s2) = _
      rw [coefMul, coefMul, hs2, lpC (by decide), lpC (by decide), lpCN (by decide), lpCN (by decide)]; rfl
    · show satS 32 (coefMul _ _ 2 _ - coefMul _ _ 5 _ + q.s3) = _
      rw [coefMul, coefMul, hs3, lpC (by decide), lpC (by decide), lpCN (by decide), lpCN (by decide)]; rfl
    · show satS 32 (coefMul _ _ 3 _ - coefMul _ _ 6 _) = _
      rw [coefMul, coefMul, lpC (by decide), lpC (by decide), lpCN (by decide), lpCN (by decide)]; rfl
  case between =>
    have idle : loopSample n s = s := by
      rw [loopSample]
      exact if_pos (by simp [hi])
    exact congrArg _ (oneCycle_idle idle)
  case first =>
    have runs : SampleRuns n x v ts c s := ⟨hc, hp, he, hst, hi, hx, hpk, hws, hcd, hecc, hcause, hre, hsb, hh, hperm, hsrc, hsup⟩
    have lpC {k : Nat} (hk : k < 0x80) := runs.lp hk
    obtain ⟨t, a, e⟩ := runs.sample
    obtain ⟨w, a, e1⟩ := a.active_first v hstart
    obtain ⟨g, hg, b⟩ := a.run hre ((lpC (by decide)).trans hsup)
    have hb := b.event
    rw [← e1, ← e] at hb
    obtain ⟨u, run, ⟨k, ch, ev, here⟩, others, frame⟩ := exec_loopSample_becomes (s := s) (w := loopCommitted n s) ⟨rfl, rfl, rfl, rfl⟩ hb
    have hpv := satS_bounds (divRound (v * lp (loopCommitted n s) n 0x05 + lp (loopCommitted n s) n 0x06 * 65536) 65536)
    generalize hl : latched (loopCommitted n s) n v (s.time.ont - ts) x = l at here hg
    obtain rfl : g = l.pv := hg (by rw [lpC (by decide), hown]; decide)
    generalize hq : profiled (loopCommitted n s) n l.pv (begun l) = q at here
    have hrest : profileOf (loopCommitted n s) n l.pv (begun l) = (l.pv * 65536, 0, 0) := congrArg Prod.fst (profileStep_rest ..)
    have hp : q.p = l.pv * 65536 := by rw [← hq, profiled, hrest]
    have hqpv : q.pv = l.pv := by rw [← hq]; rfl
    refine ⟨u, _, run, here, rfl, by rw [← hq]; rfl, by rw [← hq]; rfl, hp.trans (by rw [← hqpv]; rfl), ?_, ?_, ?_⟩
    · show -(2 ^ 31) ≤ q.pv
      rw [hqpv, ← hl]
      exact hpv.1
    · show q.pv < 2 ^ 31
      rw [hqpv, ← hl]
      exact hpv.2
    · show errOf q = 0
      rw [errOf, hp, hqpv, shiftRound_whole, sub_self]
      rfl

end Sys2Proof.Machine
end

section
/-! SUPPORT. The instructions of the Aplar logic engine: what each leaves in ACC, the stack, the image, the timers and the counters
(R401, R405 to R407). -/

namespace Sys2Proof.Machine

section
variable {ps : Presets} {op a k c i j : Nat} {x : Exec}

/-! #### Decoding (R405) -/

theorem execOne_formatA (h : opFormat op = 1) (ha : a < 2 ^ 16) : execOne ps (op * 2 ^ 24 + a) i x = (execA op a x, i + 1) := by
  have hop : (op * 2 ^ 24 + a) / 2 ^ 24 = op := by omega
  have hw : (op * 2 ^ 24 + a) % 2 ^ 16 = a := by omega
  simp only [execOne, hop, h, hw]

theorem execOne_formatB (h : opFormat op = 2) (hk : k < 2 ^ 8) :
    execOne ps (op * 2 ^ 24 + k) i x = (execB ps op k i x, i + 1) := by
  have hop : (op * 2 ^ 24 + k) / 2 ^ 24 = op := by omega
  have hw : (op * 2 ^ 24 + k) % 2 ^ 8 = k := by omega
  simp only [execOne, hop, h, hw]

theorem execOne_formatJ (h : opFormat op = 3) (hj : j < 2 ^ 15) : execOne ps (op * 2 ^ 24 + j) i x =
    (x, if op == 0x40 || (op == 0x41 && x.acc) || (op == 0x42 && !x.acc) then j else i + 1) := by
  have hop : (op * 2 ^ 24 + j) / 2 ^ 24 = op := by omega
  have hw : (op * 2 ^ 24 + j) % 2 ^ 15 = j := by omega
  simp only [execOne, hop, h, hw]

theorem execOne_formatN (h : opFormat op = 4) (h' : op ≠ 0x48) : execOne ps (op * 2 ^ 24) i x = (execN op x, i + 1) := by
  have hop : op * 2 ^ 24 / 2 ^ 24 = op := by omega
  simp only [execOne, hop, h, if_neg h']

theorem opFormat_store (h : 0x10 ≤ op) (h' : op ≤ 0x13) : opFormat op = 1 := if_pos (by omega)

theorem opFormat_timer (h : 0x30 ≤ op) (h' : op ≤ 0x32) : opFormat op = 2 := by
  rw [opFormat, if_neg (by omega), if_pos (by omega)]

theorem opFormat_counter (h : 0x38 ≤ op) (h' : op ≤ 0x3B) : opFormat op = 2 := by
  rw [opFormat, if_neg (by omega), if_pos (by omega)]

/-! #### Bits of the image (R401) -/

theorem bvSet_same {n : Nat} (v : BitVec n) (b : Bool) (h : k < n) : (bvSet v k b).getLsbD k = b := by
  cases b <;> simp [bvSet, h]

theorem bvSet_other {n : Nat} (v : BitVec n) (b : Bool) (h : j ≠ k) : (bvSet v k b).getLsbD j = v.getLsbD j := by
  have hbit : ((1#n) <<< k).getLsbD j = false := by
    simp only [BitVec.getLsbD_shiftLeft, BitVec.getLsbD_one]
    by_cases hjk : j < k
    · simp [hjk]
    · have : j - k ≠ 0 := by omega
      simp [this]
  by_cases hj : j < n
  · cases b <;> simp only [bvSet, if_true, Bool.false_eq_true, if_false, BitVec.getLsbD_or, BitVec.getLsbD_and, BitVec.getLsbD_not,
      hbit, hj, Bool.or_false, Bool.not_false, decide_true, Bool.and_true]
  · rw [BitVec.getLsbD_of_ge _ _ (by omega), BitVec.getLsbD_of_ge _ _ (by omega)]

theorem imgBit_imgSet_same (m : Image) (b : Bool) (h1 : 1 ≤ a / 4096) (h4 : a / 4096 ≤ 4) (hb : a % 4096 < areaBits (a / 4096)) :
    imgBit (imgSet a b m) a = b := by
  rcases (by omega : a / 4096 = 1 ∨ a / 4096 = 2 ∨ a / 4096 = 3 ∨ a / 4096 = 4) with h | h | h | h <;>
  · rw [h] at hb
    simp only [imgBit, imgSet, h]
    exact bvSet_same _ _ hb

theorem imgBit_imgSet_other (m : Image) (b : Bool) (h : k ≠ a) : imgBit (imgSet a b m) k = imgBit m k := by
  have keeps (n : Nat) (v : BitVec n) (hk : k / 4096 = a / 4096) : (bvSet v (a % 4096) b).getLsbD (k % 4096) = v.getLsbD (k % 4096) :=
    bvSet_other v b (by omega)
  unfold imgSet
  dsimp only
  split
  case h_5 => rfl
  all_goals
    unfold imgBit
    dsimp only
    split <;> simp only [*]

theorem counterBits_count (preset count : Int) (v : BitVec 512) (h : c < 256) :
    (counterBits c preset count v).getLsbD c = decide (preset ≤ count) := by
  rw [counterBits, bvSet_other _ _ (by omega), bvSet_same _ _ (by omega)]

theorem counterBits_zero (preset count : Int) (v : BitVec 512) (h : c < 256) :
    (counterBits c preset count v).getLsbD (256 + c) = decide (count ≤ 0) :=
  bvSet_same _ _ (by omega)

theorem counterBits_other (preset count : Int) (v : BitVec 512) (h : j ≠ c) (h' : j ≠ 256 + c) :
    (counterBits c preset count v).getLsbD j = v.getLsbD j := by
  rw [counterBits, bvSet_other _ _ h', bvSet_other _ _ h]

/-! #### Stores (R405) -/

/-- What a store or a SET or RST puts into its bit; none where it leaves the bit. -/
def stored (op : Nat) (acc : Bool) : Option Bool :=
  if op = 0x10 then some acc else if op = 0x11 then some (!acc) else if acc then some (decide (op = 0x12)) else none

theorem execA_store (h : 0x10 ≤ op) (h' : op ≤ 0x13) : execA op a x = match stored op x.acc with
    | some v => { x with l := { x.l with img := imgSet a v x.l.img } }
    | none => x := by
  rcases (by omega : op = 0x10 ∨ op = 0x11 ∨ op = 0x12 ∨ op = 0x13) with rfl | rfl | rfl | rfl <;>
    cases hx : x.acc <;> simp [execA, stored, hx]

theorem execOne_store (h : 0x10 ≤ op) (h' : op ≤ 0x13) (h1 : 1 ≤ a / 4096) (h4 : a / 4096 ≤ 4)
    (hb : a % 4096 < areaBits (a / 4096)) : ∃ y, execOne ps (op * 2 ^ 24 + a) i x = ({ x with l := { x.l with img := y } }, i + 1) ∧
      imgBit y a = (if op = 0x10 then x.acc else if op = 0x11 then !x.acc else if x.acc = true then decide (op = 0x12)
        else imgBit x.l.img a) ∧ ∀ k, k ≠ a → imgBit y k = imgBit x.l.img k := by
  rw [execOne_formatA (opFormat_store h h') (by omega), execA_store h h']
  cases hv : stored op x.acc with
  | none =>
    refine ⟨x.l.img, rfl, ?_, fun k _ => rfl⟩
    unfold stored at hv
    split_ifs at hv with h10 h11 ha
    rw [if_neg h10, if_neg h11, if_neg ha]
  | some v =>
    refine ⟨imgSet a v x.l.img, rfl, ?_, fun k hk => imgBit_imgSet_other _ _ hk⟩
    rw [imgBit_imgSet_same _ _ h1 h4 hb]
    unfold stored at hv
    split_ifs at hv ⊢ <;> simpa using hv.symm

/-! #### Timers and counters (R406, R407) -/

theorem timerStep_inPrev (op lt pt : Nat) (acc : Bool) (y : Tmr) : (timerStep op lt pt acc y).inPrev = acc := rfl

theorem execOne_timer (h : 0x30 ≤ op) (h' : op ≤ 0x32) (hk : k < 256) {y : Tmr} (hy : x.l.timers[k]? = some y) :
    execOne ps (op * 2 ^ 24 + k) i x =
      ({ x with
          acc := (timerStep op x.l.lt (ps.tmr k) x.acc y).q
          l := { x.l with
            timers := x.l.timers.set k (timerStep op x.l.lt (ps.tmr k) x.acc y)
            img := { x.l.img with t := bvSet x.l.img.t k (timerStep op x.l.lt (ps.tmr k) x.acc y).q } } }, i + 1) := by
  rw [execOne_formatB (opFormat_timer h h') hk]
  simp only [execB, if_neg (by omega : ¬ op = 0x50), if_pos (by omega : op < 0x38), nth_of_getElem? hy]

theorem execOne_counter (h : 0x38 ≤ op) (h' : op ≤ 0x3B) (hc : c < 256) {y : Ctr} (hy : x.l.counters[c]? = some y) :
    execOne ps (op * 2 ^ 24 + c) i x =
      ({ x with
          acc := decide (ps.ctr c ≤ (counterStep op (ps.ctr c) x.acc y).count)
          l := { x.l with
            counters := x.l.counters.set c (counterStep op (ps.ctr c) x.acc y)
            img := { x.l.img with
              c := counterBits c (ps.ctr c) (counterStep op (ps.ctr c) x.acc y).count x.l.img.c } } }, i + 1) := by
  rw [execOne_formatB (opFormat_counter h h') hc]
  simp only [execB, if_neg (by omega : ¬ op = 0x50), if_neg (by omega : ¬ op < 0x38), nth_of_getElem? hy, counterBits_count _ _ _ hc]

section
variable {lt pt : Nat} {y : Tmr}

theorem timerStep_ton_off : (timerStep 0x30 lt pt false y).run = false ∧ (timerStep 0x30 lt pt false y).q = false := ⟨rfl, rfl⟩

theorem timerStep_ton_on : (timerStep 0x30 lt pt true y).run = true ∧
    (timerStep 0x30 lt pt true y).start = (if y.run then y.start else lt) ∧
    (timerStep 0x30 lt pt true y).q = decide (pt ≤ lt - (timerStep 0x30 lt pt true y).start) := by
  cases h : y.run <;> simp [timerStep, h]

theorem timerStep_tof_on : (timerStep 0x31 lt pt true y).run = false ∧ (timerStep 0x31 lt pt true y).q = true := ⟨rfl, rfl⟩

theorem timerStep_tof_rest (h : y.q = false) : (timerStep 0x31 lt pt false y).q = false ∧
    (timerStep 0x31 lt pt false y).run = y.run ∧ (timerStep 0x31 lt pt false y).start = y.start := by
  simp [timerStep, h]

theorem timerStep_tof_delay (h : y.q = true) : (timerStep 0x31 lt pt false y).start = (if y.run then y.start else lt) ∧
    (timerStep 0x31 lt pt false y).q = decide (lt - (timerStep 0x31 lt pt false y).start < pt) ∧
    (timerStep 0x31 lt pt false y).run = (timerStep 0x31 lt pt false y).q := by
  cases hr : y.run
  · by_cases hp : pt = 0
    · simp [timerStep, h, hr, hp]
    · simp [timerStep, h, hr, hp, Nat.pos_of_ne_zero hp]
  · by_cases hp : pt ≤ lt - y.start
    · simp [timerStep, h, hr, hp]
    · simp [timerStep, h, hr, hp, Nat.lt_of_not_le hp]

theorem timerStep_tp_begin (h : y.inPrev = false) (h' : y.run = false) : (timerStep 0x32 lt pt true y).start = lt ∧
    (timerStep 0x32 lt pt true y).run = decide (0 < pt) ∧ (timerStep 0x32 lt pt true y).q = decide (0 < pt) := by
  simp only [timerStep, h, h']
  cases pt <;> simp

theorem timerStep_tp_running (acc : Bool) (h : y.run = true) : (timerStep 0x32 lt pt acc y).start = y.start ∧
    (pt ≤ lt - y.start → (timerStep 0x32 lt pt acc y).q = false ∧ (timerStep 0x32 lt pt acc y).run = false) ∧
    (lt - y.start < pt → (timerStep 0x32 lt pt acc y).q = y.q ∧ (timerStep 0x32 lt pt acc y).run = true) := by
  by_cases hp : pt ≤ lt - y.start
  · simp [timerStep, h, hp]
  · simp [timerStep, h, hp]

theorem timerStep_tp_rest (acc : Bool) (h : y.run = false) (h' : acc = false ∨ y.inPrev = true) :
    (timerStep 0x32 lt pt acc y).q = y.q ∧ (timerStep 0x32 lt pt acc y).run = false ∧
    (timerStep 0x32 lt pt acc y).start = y.start := by
  rcases h' with rfl | h' <;> simp [timerStep, *]

end

/-! #### EVT (R405) -/

theorem execOne_evt (hk : k < 256) : execOne ps (0x50 * 2 ^ 24 + k) i x = (execEvt k i x, i + 1) :=
  execOne_formatB (by decide) hk

theorem execEvt_keeps : (execEvt k i x).acc = x.acc ∧ (execEvt k i x).stack = x.stack ∧ (execEvt k i x).l.img = x.l.img := by
  unfold execEvt
  dsimp only
  split_ifs <;> exact ⟨rfl, rfl, rfl⟩

theorem execEvt_evtOn : (execEvt k i x).l.evtOn =
    if x.acc then (if x.l.evtOn.contains i then x.l.evtOn else i :: x.l.evtOn) else x.l.evtOn.filter (· != i) := by
  unfold execEvt
  dsimp only
  split_ifs <;> rfl

theorem execEvt_contains_same : (execEvt k i x).l.evtOn.contains i = x.acc := by
  rw [execEvt_evtOn]
  cases ha : x.acc
  · simp
  · rw [if_pos rfl]
    split
    · assumption
    · simp

theorem execEvt_contains_other (h : j ≠ i) : (execEvt k i x).l.evtOn.contains j = x.l.evtOn.contains j := by
  rw [execEvt_evtOn]
  cases ha : x.acc
  · rw [Bool.eq_iff_iff]
    simp [h]
  · rw [if_pos rfl]
    split
    · rfl
    · simp [h]

theorem execEvt_noEdge (h : x.acc = false ∨ x.l.evtOn.contains i = true) :
    (execEvt k i x).evts = x.evts ∧ (execEvt k i x).l.evtDrop = x.l.evtDrop := by
  have hc : ¬ (x.acc && !x.l.evtOn.contains i) = true := by
    rcases h with h | h <;> rw [h] <;> simp only [Bool.false_and, Bool.not_true, Bool.and_false, Bool.false_eq_true, not_false_eq_true]
  simp only [execEvt, if_neg hc, and_self]

theorem execEvt_edge (ha : x.acc = true) (hw : x.l.evtOn.contains i = false) :
    (x.evts.length < 16 → (execEvt k i x).evts = (k, i) :: x.evts ∧ (execEvt k i x).l.evtDrop = x.l.evtDrop) ∧
    (16 ≤ x.evts.length → (execEvt k i x).evts = x.evts ∧ (execEvt k i x).l.evtDrop = satInc 32 x.l.evtDrop) := by
  have hc : (x.acc && !x.l.evtOn.contains i) = true := by simp only [ha, hw]; rfl
  constructor
  · intro h
    simp only [execEvt, if_pos hc, if_pos h, and_self]
  · intro h
    simp only [execEvt, if_pos hc, if_neg (by omega : ¬ x.evts.length < 16), and_self]

end

/-- Settles O46: each class of instructions by its decoding and its operation. -/
theorem logicInstructions : Obligations.LogicInstructions := by
  unfold Obligations.LogicInstructions
  refine ⟨fun ps a i x ha => ?loads, fun ps op a i x h h' h1 h4 hb => execOne_store h h' h1 h4 hb, fun ps i x b st => ?stack,
    fun ps j i x hj => ⟨?jmp, ?jmpc, ?jmpn⟩, fun ps w i j ws x => ⟨rfl, fun h => ?skip, fun h => ?runs⟩,
    fun ps op k i x y h h' hk hy => ?timer, fun ps op c i x y h h' hc hy => ?counter, fun ps k i x hk => ?evt⟩
  case loads =>
    refine ⟨?_, ?_, ?_, ?_, ?_, ?_, ?_, ?_, ?_, ?_, ?_, ?_, ?_, ?_, rfl, rfl⟩ <;> exact execOne_formatA rfl ha
  case stack =>
    refine ⟨?_, ?_, ?_, ?_, ?_, rfl, (by decide : 0x4000 < 0x8000), ?_, ?_, ?_, ?_⟩ <;> exact execOne_formatN rfl (by decide)
  case jmp => rw [execOne_formatJ (by decide) hj]; rfl
  case jmpc => rw [execOne_formatJ (by decide) hj]; simp
  case jmpn => rw [execOne_formatJ (by decide) hj]; cases x.acc <;> rfl
  case skip => rw [runProg, if_pos h]
  case runs => rw [runProg, if_neg (by omega)]
  case timer =>
    refine ⟨timerStep op x.l.lt (ps.tmr k) x.acc y, _, execOne_timer h h' hk hy, rfl, bvSet_same _ _ hk,
      fun j hj => bvSet_other _ _ hj, rfl, rfl, rfl, rfl, ?_, ?_, ?_, ?_, ?_, ?_, ?_, ?_⟩
    · rintro rfl ha; rw [ha]; exact timerStep_ton_off
    · rintro rfl ha; rw [ha]; exact timerStep_ton_on
    · rintro rfl ha; rw [ha]; exact timerStep_tof_on
    · rintro rfl ha hq; rw [ha]; exact timerStep_tof_rest hq
    · rintro rfl ha hq; rw [ha]; exact timerStep_tof_delay hq
    · rintro rfl ha hi hr; rw [ha]; exact timerStep_tp_begin hi hr
    · rintro rfl hr; exact timerStep_tp_running _ hr
    · rintro rfl hr ha; exact timerStep_tp_rest _ hr ha
  case counter =>
    refine ⟨counterStep op (ps.ctr c) x.acc y, _, execOne_counter h h' hc hy, rfl, counterBits_count _ _ _ hc,
      counterBits_zero _ _ _ hc, fun j hj hj' => counterBits_other _ _ _ hj hj', rfl, rfl, ?_, ?_, ?_, ?_⟩ <;>
    · rintro rfl
      exact ⟨rfl, rfl, rfl⟩
  case evt =>
    obtain ⟨hacc, hstack, himg⟩ := execEvt_keeps (k := k) (i := i) (x := x)
    exact ⟨_, execOne_evt hk, hacc, hstack, himg, execEvt_contains_same, fun j hj => execEvt_contains_other hj,
      execEvt_noEdge, execEvt_edge⟩

end Sys2Proof.Machine
end

section
/-! SUPPORT. Reading the event recorder: the request of REC_READ, its answer and its seal, and the status word (R557 to R562). -/

namespace Sys2Proof.Machine

section
variable {p : Bytes} {s : State} {area n fl start : Nat}

/-! #### The request of REC_READ (R560) -/

/-- The payload of a REC_READ with its fields: area, number of records, flags and start. -/
structure ReadReq (p : Bytes) (area n fl start : Nat) : Prop where
  length : p.length = 8
  area : byteField p 0 1 = area
  count : byteField p 1 1 = n
  flags : byteField p 2 1 = fl
  reserved : byteField p 3 1 = 0
  start : byteField p 4 4 = start

theorem readReq_bytes (ha : area < 256) (hn : n < 256) (hf : fl < 256) (hs : start < 2 ^ 32) :
    ReadReq (leBytes 1 area ++ leBytes 1 n ++ leBytes 1 fl ++ zeros 1 ++ leBytes 4 start) area n fl start where
  length := rfl
  area := by
    simp only [List.append_assoc, byteField_front]
    omega
  count := by
    simp only [List.append_assoc, byteField_skip, byteField_front, length_leBytes, le_refl, Nat.sub_self]
    omega
  flags := by
    simp only [List.append_assoc, byteField_skip, byteField_front, length_leBytes, Nat.reduceLeDiff, Nat.reduceSub]
    omega
  reserved := by
    simp only [List.append_assoc, byteField_skip, byteField_zeros, length_leBytes, Nat.reduceLeDiff, Nat.reduceSub, le_refl]
  start := by
    simp only [List.append_assoc, byteField_skip, byteField_whole, length_leBytes, length_zeros, Nat.reduceLeDiff, Nat.reduceSub]
    omega

/-- A REC_READ of well-formed fields is checked for its range, then its seal, then its area (R557, R560). -/
theorem recRead_eq (q : ReadReq p area n fl start) (hf : fl < 2) : recRead p s =
    if 2 < area ∨ n = 0 ∨ 30 - fl < n then refuse s 0x1205
    else if fl = 1 ∧ s.sec.rootOk = false then refuse s 0x1206
    else if area = 0 then
      if 1 < signedDiff 32 start (newest s.recorder) then refuse s 0x1205
      else done s (recResponse s (fl == 1) ((recsFrom s.recorder
        (if signedDiff 32 start (oldest s.recorder) < 0 then oldest s.recorder else start) n).map recBytes)
        (unflushed s.recorder).length)
    else if (if area = 1 then 8192 else 2048) ≤ start then refuse s 0x1205
    else done s (recResponse s (fl == 1) (slotsFrom (if area = 1 then s.recorder.perm else s.recorder.status)
      (if area = 1 then 8192 else 2048) start n) (if area = 1 then s.recorder.perm else s.recorder.status).length) := by
  obtain ⟨hlen, harea, hcount, hflags, hres, hstart⟩ := q
  have form : ¬ (p.length ≠ 8 ∨ 1 < byteField p 2 1 ∨ byteField p 3 1 ≠ 0) := by omega
  unfold recRead
  dsimp only
  rw [if_neg form, harea, hcount, hflags, hstart]
  obtain rfl | rfl : fl = 0 ∨ fl = 1 := by omega
  · rfl
  · cases hr : s.sec.rootOk <;> simp [bit]

theorem recRead_range (q : ReadReq p area n fl start) (hf : fl < 2) (h : n = 0 ∨ 30 - fl < n) :
    recRead p s = refuse s 0x1205 := by
  rw [recRead_eq q hf, if_pos (.inr h)]

theorem recRead_rootless (q : ReadReq p area n 1 start) (ha : area ≤ 2) (h0 : 0 < n) (hn : n ≤ 29) (h : s.sec.rootOk = false) :
    recRead p s = refuse s 0x1206 := by
  rw [recRead_eq q (by omega), if_neg (by omega), if_pos ⟨rfl, h⟩]

section
variable (hf : fl < 2) (h0 : 0 < n) (hn : n ≤ 30 - fl) (hr : s.sec.rootOk = true ∨ fl = 0)
include hf h0 hn hr

theorem recRead_permitted (q : ReadReq p area n fl start) (ha : area ≤ 2) : recRead p s =
    if area = 0 then
      if 1 < signedDiff 32 start (newest s.recorder) then refuse s 0x1205
      else done s (recResponse s (fl == 1) ((recsFrom s.recorder
        (if signedDiff 32 start (oldest s.recorder) < 0 then oldest s.recorder else start) n).map recBytes)
        (unflushed s.recorder).length)
    else if (if area = 1 then 8192 else 2048) ≤ start then refuse s 0x1205
    else done s (recResponse s (fl == 1) (slotsFrom (if area = 1 then s.recorder.perm else s.recorder.status)
      (if area = 1 then 8192 else 2048) start n) (if area = 1 then s.recorder.perm else s.recorder.status).length) := by
  rw [recRead_eq q hf, if_neg (by omega), if_neg]
  rintro ⟨hfl, hroot⟩
  rcases hr with h | h
  · rw [hroot] at h
    cases h
  · omega

end

/-! #### The answer (R557) -/

/-- The header of a REC_READ answer and its records. -/
def readBody (r : RecorderSt) (fl : Nat) (recs : List Bytes) (fill : Nat) : Bytes :=
  leBytes 4 (oldest r) ++ leBytes 4 (newest r) ++ leBytes 2 recs.length ++ leBytes 2 (b2n r.ramOnly + 2 * fl) ++
    leBytes 4 fill ++ recs.flatten

theorem recResponse_eq (hf : fl < 2) (recs : List Bytes) (fill : Nat) : recResponse s (fl == 1) recs fill =
    readBody s.recorder fl recs fill ++ if fl = 1 then recSeal s (readBody s.recorder fl recs fill) else [] := by
  obtain rfl | rfl : fl = 0 ∨ fl = 1 := by omega
  · exact (List.append_nil _).symm
  · rfl

theorem recSeal_takenState (cmd : Nat) (m : Mail) (b : Bytes) :
    recSeal (takenState cmd m s) b = (Config.hmac384 (slotKey s 1 5) (uidBytes s ++ b)).take 16 := by
  rw [recSeal, slotKey_congr (takenState_slots ..), uidBytes_congr (takenState_otp ..)]

theorem length_slotsFrom (l : List Slot) (size : Nat) : (slotsFrom l size start n).length = min n (size - start) := by
  simp [slotsFrom, upTo]

theorem slotsFrom_getElem? (l : List Slot) (size k : Nat) (hk : k < (slotsFrom l size start n).length) :
    (slotsFrom l size start n)[k]? = some (match l[start + k]? with
      | some (.record x) => recBytes x
      | some .damaged => Config.damagedSlot
      | none => List.replicate 32 0xFF) := by
  rw [length_slotsFrom] at hk
  simp only [slotsFrom, upTo, List.getElem?_map, List.getElem?_range hk, Option.map_some]
  cases l[start + k]? with
  | none => rfl
  | some x => cases x <;> rfl

/-! #### REC_VERIFY (R559) -/

theorem recVerify_form (h : p.length < 32 ∨ p.length ≠ 32 + 32 * byteField p 8 2) : recVerify p s = refuse s 0x120A :=
  if_pos h

variable {b tag : Bytes} (ht : tag.length = 16) (hb : 16 ≤ b.length) (hn : b.length = 16 + 32 * byteField b 8 2)
include ht hb hn

theorem recVerify_sealed : recVerify (b ++ tag) s =
    if s.sec.rootOk = false then refuse s 0x1206 else done s [if recSeal s b = tag then 1 else 0] := by
  have hcount : byteField (b ++ tag) 8 2 = byteField b 8 2 := by
    have : ((b ++ tag).drop 8).take 2 = (b.drop 8).take 2 := by
      rw [List.drop_append_of_le_length (by omega), List.take_append_of_le_length (by simp; omega)]
    rw [byteField, byteField, this]
  have form : ¬ ((b ++ tag).length < 32 ∨ (b ++ tag).length ≠ 32 + 32 * byteField (b ++ tag) 8 2) := by
    rw [hcount, List.length_append]
    omega
  have hlen : (b ++ tag).length - 16 = b.length := by
    rw [List.length_append]
    omega
  unfold recVerify
  rw [if_neg form, hlen]
  simp only [List.take_left, List.drop_left, Bool.not_eq_true']

end

/-! #### The status word (R562) -/

theorem b2n_le (b : Bool) : b2n b ≤ 1 := by cases b <;> decide

/-- A flag is the bit that it was placed at. -/
theorem bit_of_div {w k : Nat} {b : Bool} (h : w / 2 ^ k % 2 = b2n b) : bit w k = b := by
  rw [bit, h]
  cases b <;> rfl

section
variable {r : RecorderSt}

theorem recStatus_lt (hc : goodCount r.circ < 64) (hs : goodCount r.save < 16) : recStatus r < 2 ^ 21 := by
  have h1 := b2n_le r.ramOnly
  have h2 := b2n_le (8192 ≤ r.perm.length)
  have h3 := b2n_le (2048 ≤ r.status.length)
  have h4 := b2n_le r.flushing
  have h5 := b2n_le (!(failedPos r).isEmpty)
  rw [recStatus]
  omega

theorem recStatus_bits (hc : goodCount r.circ < 64) (hs : goodCount r.save < 16) :
    bits (recStatus r) 0 6 = goodCount r.circ ∧ bits (recStatus r) 8 4 = goodCount r.save ∧ bits (recStatus r) 6 2 = 0 ∧
    bits (recStatus r) 12 4 = 0 ∧ bit (recStatus r) 16 = r.ramOnly ∧ bit (recStatus r) 17 = decide (8192 ≤ r.perm.length) ∧
    bit (recStatus r) 18 = decide (2048 ≤ r.status.length) ∧ bit (recStatus r) 19 = r.flushing ∧
    bit (recStatus r) 20 = !(failedPos r).isEmpty := by
  have h1 := b2n_le r.ramOnly
  have h2 := b2n_le (8192 ≤ r.perm.length)
  have h3 := b2n_le (2048 ≤ r.status.length)
  have h4 := b2n_le r.flushing
  have h5 := b2n_le (!(failedPos r).isEmpty)
  simp only [bits]
  refine ⟨?_, ?_, ?_, ?_, bit_of_div ?_, bit_of_div ?_, bit_of_div ?_, bit_of_div ?_, bit_of_div ?_⟩ <;>
  · rw [recStatus]
    omega

theorem malorWord_eq (v : Nat) : malorWord r v = (if r.regsValid then 1 else 0) * v := by
  rw [malorWord]
  split <;> simp

end

theorem recStatusWords_eq (s : State) : recStatusWords s = let r := s.recorder
    let st := if r.regsValid then 1 else 0
    [st * recStatus r, r.seqAon % 2 ^ 32, st * oldest r, newest r, if r.flushEnd = 0 then 0 else st * ((r.flushEnd - 1) % 2 ^ 32),
      (unflushed r).length, st * r.perm.length, st * r.status.length, st * r.spare.length, st * eraseMax r, r.ovfCnt, r.dropCnt] := by
  simp only [recStatusWords, recReg, malorWord_eq, recFlushed, spareFree, mul_ite, mul_zero]

/-- Settles O58: REC_READ in the order of its checks, REC_VERIFY over the answer's own bytes, and the twelve values. -/
theorem recorderReading : Obligations.RecorderReading := by
  unfold Obligations.RecorderReading
  refine ⟨fun m s n fl start r ht hr hn hf hs hp => ?records, fun m s area n start r ht hr ha h0 hn hs hp => ?slots,
    fun m s ht h => ?readForm, fun m s b tag ht hp htag hb hcount => ?verify, fun m s ht h => ?verifyForm,
    fun m s r st ht hp hr hc hs => ?status, fun m s ht hp => ?statusForm⟩
  case records =>
    have q := readReq_bytes (area := 0) (by omega) hn (by omega : fl < 256) hs
    have hroot := takenState_rootOk (cmd := 0x1210) (m := m) (s := s)
    have hrec := takenState_recorder 0x1210 m s
    subst hr
    refine ⟨fun h => mailOut_refuses_of_payload ht hp (recRead_range q hf h), ?_, fun h0 hn' hroot' hnew => ?_,
      fun h0 hn' hroot' hnew => ?_⟩
    · rintro h0 hn' rfl h
      exact mailOut_refuses_of_payload ht hp (recRead_rootless q (by omega) h0 hn' (hroot.trans h))
    · refine mailOut_refuses_of_payload ht hp ?_
      rw [recRead_permitted hf h0 hn' (by rwa [hroot]) q (by omega), if_pos rfl, hrec, if_pos hnew]
    · refine ⟨_, readBody s.recorder fl ((recsFrom s.recorder (if signedDiff 32 start (oldest s.recorder) < 0 then oldest s.recorder
        else start) n).map recBytes) (unflushed s.recorder).length, fun f hf => by rw [hf], ?_, mailOut_answers_of_payload ht hp ?_⟩
      · rw [readBody, List.length_map, List.flatMap_def]
        rfl
      · rw [recRead_permitted hf h0 hn' (by rwa [hroot]) q (by omega), if_pos rfl, hrec, if_neg (by omega), recResponse_eq hf, hrec,
          recSeal_takenState]
  case slots =>
    have q := readReq_bytes (area := area) (by omega) (by omega : n < 256) (by omega : 0 < 256) hs
    have hrec := takenState_recorder 0x1210 m s
    have hp' : m.payload = leBytes 1 area ++ leBytes 1 n ++ leBytes 1 0 ++ zeros 1 ++ leBytes 4 start := by
      rw [hp, List.append_assoc (leBytes 1 area ++ leBytes 1 n)]
      rfl
    have hsize : 2048 * (if area = 1 then 4 else 1) = if area = 1 then 8192 else 2048 := by split <;> rfl
    subst hr
    rw [hsize]
    refine ⟨fun h => mailOut_refuses_of_payload ht hp' ?_, fun h => ⟨_, length_slotsFrom (if area = 1 then s.recorder.perm else
      s.recorder.status) _, slotsFrom_getElem? _ _, mailOut_answers_of_payload ht hp' ?_⟩⟩
    · rw [recRead_permitted (by omega) h0 hn (.inr rfl) q (by omega), if_neg (by omega), if_pos h]
    · rw [recRead_permitted (by omega) h0 hn (.inr rfl) q (by omega), if_neg (by omega), if_neg (by omega), recResponse_eq (by omega), hrec]
      exact congrArg _ (List.append_nil _)
  case readForm => exact mailOut_refuses ht (if_pos (by omega))
  case verify =>
    have eq := recVerify_sealed (s := takenState 0x1211 m s) htag hb hcount
    rw [takenState_rootOk, recSeal_takenState] at eq
    refine ⟨fun h => mailOut_refuses_of_payload ht hp (eq.trans (if_pos h)), fun h => ⟨decide (_ = tag), decide_eq_true_iff,
      mailOut_answers_of_payload ht hp ?_⟩⟩
    rw [eq, if_neg (by simp [h])]
    simp only [decide_eq_true_eq]
  case verifyForm => exact mailOut_refuses ht (recVerify_form h)
  case status =>
    subst hr
    obtain ⟨circ, save, gap, gap', ram, perm, status, flushing, failed⟩ := recStatus_bits hc hs
    refine ⟨recStatus s.recorder, recStatus_lt hc hs, circ, save, gap, gap', ram, perm, status, flushing, failed, ?_⟩
    rintro rfl
    refine mailOut_answers ht ?_
    rw [recStatusGet, if_neg (by simp [hp]), recStatusWords_eq, takenState_recorder]
  case statusForm => exact mailOut_refuses ht (if_pos hp)

end Sys2Proof.Machine
end

section
/-! The logic commands: O47. What LOGIC_TRIAL_REVERT leaves of a boot record whose SEQ has run out (R98, R413). -/

namespace Sys2Proof.Machine

/-- The boot record that names the fallback program, not on trial (R413). -/
def aplarFallback (r : BootRec) : BootRec := { r with aplarActive := !r.aplarActive, aplarTrial := false }

theorem logicActivate_mgmt (img : Bytes) (slot : Bool) (s : State) : (logicActivate img slot s).mgmt = s.mgmt := by
  unfold logicActivate
  split
  · exact raise_mgmt ..
  · rfl

/-- A revert changes the boot headers by its new record alone, whether the fallback passes its checks or not. -/
theorem logicTrialRevert_mgmt {s : State} (h : (bootRec s).aplarTrial = true) :
    (logicTrialRevert [] s).st.mgmt = (bootWrite aplarFallback s).mgmt ∧ (logicTrialRevert [] s).held = false := by
  unfold logicTrialRevert
  rw [if_neg (by decide), if_neg (by rw [h]; decide)]
  dsimp only
  split
  · exact ⟨rfl, rfl⟩
  · exact ⟨logicActivate_mgmt .., rfl⟩

/-- At the last SEQ a revert leaves the boot record in force, whatever it answers. -/
theorem bootRec_aplarRevert_last {m : Mail} {s t : State} {r : BootRec} {a : Answer} (h : taken 0x0C15 m s = true) (hm : m.payload = [])
    (ht : r.aplarTrial = true) (hb : bootParse s.mgmt.bootB = some r) (hr : bootRec s = r) (hlast : r.seq = 2 ^ 32 - 1)
    (ha : a.st = t) (he : exec (.logicTrialRevert m) s = .next (respond (ring 0x0C15 m s) 0x0C15 m a)) : bootRec t = r := by
  have hmgmt := takenState_mgmt 0x0C15 m s
  have hboot : bootRec (takenState 0x0C15 m s) = r := (bootRec_congr (by rw [hmgmt]) (by rw [hmgmt])).trans hr
  obtain ⟨hst, hheld⟩ := logicTrialRevert_mgmt (hboot.symm ▸ ht : (bootRec (takenState 0x0C15 m s)).aplarTrial = true)
  have hrun : exec (.logicTrialRevert m) s = _ := mailOut_taken (body := logicTrialRevert m.payload) h
  rw [hm, if_neg (by rw [hheld]; decide)] at hrun
  have hsame : t.mgmt = (bootWrite aplarFallback (takenState 0x0C15 m s)).mgmt := by
    rw [← ha]
    injection he.symm.trans hrun with hout
    exact (congrArg State.mgmt hout).trans hst
  rw [bootRec_congr (s := bootWrite aplarFallback (takenState 0x0C15 m s)) (by rw [hsame]) (by rw [hsame])]
  exact bootRec_bootWrite_last _ (by rw [hmgmt, hb]) hboot hlast

/-- The last boot record, with a program on trial. -/
def lastAplarRec : BootRec := { seq := 2 ^ 32 - 1, aplarTrial := true }

/-- A running part whose header B holds that record. -/
def lastAplarPart : State :=
  { State.reset with
    power := { phase := .up, clkLock := 1 }
    mgmt := { malorRuns := true, bootB := bootBytes lastAplarRec }
    host := { ready := true } }

theorem bootParse_lastAplarPart : bootParse lastAplarPart.mgmt.bootB = some lastAplarRec := bootParse_bootBytes (by decide)

theorem bootRec_lastAplarPart : bootRec lastAplarPart = lastAplarRec :=
  bootRec_newest (.inr ⟨bootParse_lastAplarPart, fun a ha => by simp [lastAplarPart, bootParse, byteField, leNat] at ha⟩)

theorem taken_aplarRevertMail : taken 0x0C15 revertMail lastAplarPart = true := by decide

/-- Refutes O47: the clause of LOGIC_TRIAL_REVERT has no premise that SEQ has a successor. At SEQ 2^32 - 1 in header B the new
record carries SEQ 0, the old one stays in force (R98), and the program stays on trial. -/
theorem not_logicCommands : ¬ Obligations.LogicCommands := by
  unfold Obligations.LogicCommands
  rintro ⟨-, -, -, -, -, -, -, -, hrevert, -⟩
  obtain ⟨t, -, htrial, -, -, hrun⟩ := hrevert revertMail lastAplarPart false _ taken_aplarRevertMail rfl
    (by rw [bootRec_lastAplarPart]; rfl) (by rw [bootRec_lastAplarPart]; rfl) rfl
  have stays (a : Answer) (ha : a.st = t) (he : exec (.logicTrialRevert revertMail) lastAplarPart =
      .next (respond (ring 0x0C15 revertMail lastAplarPart) 0x0C15 revertMail a)) : False := by
    rw [bootRec_aplarRevert_last taken_aplarRevertMail rfl rfl bootParse_lastAplarPart bootRec_lastAplarPart rfl ha he] at htrial
    exact absurd htrial (by decide)
  split at hrun
  · exact stays _ rfl hrun.1
  · exact stays _ rfl hrun.1

end Sys2Proof.Machine
end

section
/-! SUPPORT. What a change of the permit image reaches: loops, axes and CAN objects, with what they report and the CAN parameters that a
frame's start commits (R26, R369, R387, R480, R481). -/

namespace Sys2Proof.Machine

/-- From `s` to `t` only loops, axes, CAN controllers and reports have changed, and of the parameters only those of CAN were committed. -/
structure PlantOnly (s t : State) : Prop where
  eq : t = { s with
    host := { s.host with
      evtStatus := t.host.evtStatus, sent := t.host.sent, pba := t.host.pba
      uncommitted := t.host.uncommitted, tabUncommitted := t.host.tabUncommitted }
    recorder := t.recorder, loops := t.loops, axes := t.axes, can := t.can }
  act : ∀ id, (∀ c, canParams c id = false) → act t id = act s id

section
variable {s t u : State} {n c o : Nat}

theorem PlantOnly.refl (s : State) : PlantOnly s s := ⟨rfl, fun _ _ => rfl⟩

theorem PlantOnly.trans (a : PlantOnly s t) (b : PlantOnly t u) : PlantOnly s u := by
  refine ⟨?_, fun id h => (b.act id h).trans (a.act id h)⟩
  rw [b.eq, a.eq]

theorem PlantOnly.reported (a : PlantOnly s t) (b : Reported t u) : PlantOnly s u := by
  refine a.trans ⟨?_, fun id _ => ?_⟩
  · rw [b.eq]
  · rw [b.eq]; rfl

theorem PlantOnly.report (a : PlantOnly s t) (c k p q r : Nat) : PlantOnly s (raise c k p q r t) := a.reported (reported_raise ..)

theorem PlantOnly.loop (a : PlantOnly s t) (f : LoopSt → LoopSt) : PlantOnly s (onLoop n f t) := a.trans ⟨rfl, fun _ _ => rfl⟩

theorem PlantOnly.axis (a : PlantOnly s t) (f : AxisSt → AxisSt) : PlantOnly s (onAxis n f t) := a.trans ⟨rfl, fun _ _ => rfl⟩

theorem PlantOnly.can (a : PlantOnly s t) (f : CanSt → CanSt) : PlantOnly s (onCan c f t) := a.trans ⟨rfl, fun _ _ => rfl⟩

theorem PlantOnly.obj (a : PlantOnly s t) (f : CanObj → CanObj) : PlantOnly s (onObj c o f t) := a.can _

theorem PlantOnly.ite {p : Prop} [Decidable p] (a : p → PlantOnly s t) (b : ¬p → PlantOnly s u) : PlantOnly s (if p then t else u) := by
  split
  · exact a ‹_›
  · exact b ‹_›

theorem PlantOnly.fold {α : Type} {f : State → α → State} (hf : ∀ t a, PlantOnly s t → PlantOnly s (f t a)) (l : List α)
    (a : PlantOnly s t) : PlantOnly s (l.foldl f t) := by
  induction l generalizing t with
  | nil => exact a
  | cons x l ih => exact ih (hf t x a)

/-! #### Parameters (R30) -/

theorem lookupNat_filter_kept {α : Type} {p : Nat → Bool} {k : Nat} (h : p k = false) (l : List (Nat × α)) :
    lookupNat k (l.filter (fun x => !p x.1)) = lookupNat k l := by
  induction l with
  | nil => rfl
  | cons a l ih =>
    by_cases hk : a.1 = k
    · simp [lookupNat, hk, h]
    · by_cases ha : p a.1 = true
      · simpa [ha, lookupNat, hk] using ih
      · simp [ha, lookupNat, hk, ih]

/-- A commit of other parameters leaves the value in force. -/
theorem act_parCommit_other {p : Nat → Bool} {id : Nat} (s : State) (h : p id = false) : act (parCommit p s) id = act s id := by
  have kept : lookupNat id (parCommit p s).host.uncommitted = lookupNat id s.host.uncommitted := lookupNat_filter_kept h _
  rw [act, act, kept]
  rfl

theorem PlantOnly.commit (a : PlantOnly s t) : PlantOnly s (parCommit (canParams c) t) :=
  a.trans ⟨rfl, fun _ h => act_parCommit_other t (h c)⟩

/-! #### Loops and axes (R369, R387, R388) -/

theorem PlantOnly.loopReports (a : PlantOnly s t) : PlantOnly s (loopEvent n t) :=
  .ite (fun _ => (a.loop _).report ..) fun _ => a

theorem PlantOnly.loopEnters (a : PlantOnly s t) (st : Nat) : PlantOnly s (loopEnter n st t) :=
  .ite (fun _ => a) fun _ => (a.loop _).loopReports

theorem PlantOnly.loopDrives (a : PlantOnly s t) : PlantOnly s (loopOutput n t) := by
  unfold loopOutput
  split
  · exact a.loop _
  · exact a

theorem PlantOnly.loopInhibits (a : PlantOnly s t) : PlantOnly s (loopPermitGone n t) :=
  .ite (fun _ => ((a.loop _).loopEnters 3).loopDrives) fun _ => a

theorem PlantOnly.axisReports (a : PlantOnly s t) : PlantOnly s (axisEvent n t) :=
  .ite (fun _ => (a.axis _).report ..) fun _ => a

theorem PlantOnly.axisEnters (a : PlantOnly s t) (st : Nat) : PlantOnly s (axisEnter n st t) :=
  .ite (fun _ => a.axis _) fun _ => ((a.axis _).axis _).axisReports

theorem PlantOnly.axisHalts (a : PlantOnly s t) : PlantOnly s (axisHalt n t) :=
  PlantOnly.axis (.ite (fun _ => (a.axis _).report ..) fun _ => a) _

theorem PlantOnly.axisInhibits (a : PlantOnly s t) : PlantOnly s (axisPermitGone n t) :=
  .ite (fun _ => (a.axisHalts.axis _).axisEnters 5) fun _ => a

/-! #### CAN objects (R480, R481) -/

theorem PlantOnly.canOffers (a : PlantOnly s t) : PlantOnly s (canOffer c t) := by
  unfold canOffer
  split
  · split
    · exact (a.commit.can _).obj _
    · exact a
  · exact a

theorem PlantOnly.objPends (a : PlantOnly s t) : PlantOnly s (objPend c o t) := (a.obj _).canOffers

theorem PlantOnly.canInhibits (a : PlantOnly s t) : PlantOnly s (canPermitGone c o t) :=
  .ite (fun _ => .ite (fun _ => (a.obj _).objPends) fun _ => a.obj _) fun _ => a

theorem PlantOnly.canRestores (a : PlantOnly s t) : PlantOnly s (canPermitBack c o t) :=
  .ite (fun _ => a.objPends) fun _ => a

/-! #### The permit image (R26, R403) -/

theorem PlantOnly.permitGone (a : PlantOnly s t) (i : Nat) : PlantOnly s (if i < 32 then loopPermitGone i t
    else if i < 48 then axisPermitGone (i - 32) t else canPermitGone ((i - 64) / 128) ((i - 64) % 128) t) :=
  .ite (fun _ => a.loopInhibits) fun _ => .ite (fun _ => a.axisInhibits) fun _ => a.canInhibits

theorem PlantOnly.permitBack (a : PlantOnly s t) (i : Nat) :
    PlantOnly s (if 64 ≤ i then canPermitBack ((i - 64) / 128) ((i - 64) % 128) t else t) :=
  .ite (fun _ => a.canRestores) fun _ => a

theorem PlantOnly.permits (a : PlantOnly s t) (old new : BitVec 576) : PlantOnly s (permitChange old new t) := by
  unfold permitChange
  exact .fold (fun _ i b => b.permitBack i) _ (.fold (fun _ i b => b.permitGone i) _ a)

/-- The output stage as it takes levels and a permit image. -/
def outputTaken (q : BitVec 24) (p : BitVec 576) (l : LogicSt) : LogicSt := { l with dout := q, doutOn := true, permit := p }

theorem plantOnly_outputImage (q : BitVec 24) (p : BitVec 576) (s : State) :
    PlantOnly (onLogic (outputTaken q p) s) (outputImage q p s) := by
  unfold outputImage
  exact (PlantOnly.refl (onLogic (outputTaken q p) s)).permits s.logic.permit p

end

end Sys2Proof.Machine
end

section
/-! SUPPORT. A scan instant of the Aplar logic engine: the latched image, the run of the program, the mode and what the instant leaves
(R403, R404, R408 to R414). -/

namespace Sys2Proof.Machine

/-! ### What an instant leaves -/

/-- What stands by while the logic engine works: the parameters as written, the meter and the acquisition. -/
def bystanders (s : State) : List (Nat × Int) × MeterSt × AdcSt := (s.host.params, s.meter, s.adc)

section
variable {s t : State}

theorem Reported.bystanders (a : Reported s t) : bystanders t = bystanders s := by rw [a.eq]; rfl

theorem PlantOnly.bystanders (a : PlantOnly s t) : bystanders t = bystanders s := by rw [a.eq]; rfl

theorem Reported.logic (a : Reported s t) : t.logic = s.logic := by rw [a.eq]

theorem PlantOnly.logic (a : PlantOnly s t) : t.logic = s.logic := by rw [a.eq]

@[simp] theorem bystanders_raise (c k p q r : Nat) : bystanders (raise c k p q r s) = bystanders s := (reported_raise ..).bystanders

@[simp] theorem bystanders_onLogic (f : LogicSt → LogicSt) : bystanders (onLogic f s) = bystanders s := rfl

@[simp] theorem bystanders_onPair (f : PairSt → PairSt) : bystanders (onPair f s) = bystanders s := rfl

@[simp] theorem bystanders_drawn : bystanders s.drawn = bystanders s := rfl

@[simp] theorem bystanders_logicLatch (a b : Bool) : bystanders (logicLatch a b s) = bystanders s := rfl

@[simp] theorem bystanders_logicInit (a : Bool) : bystanders (logicInit a s) = bystanders s := rfl

@[simp] theorem bystanders_progTake (img : Bytes) (b : Bool) : bystanders (progTake img b s) = bystanders s := rfl

@[simp] theorem bystanders_outputImage (q : BitVec 24) (p : BitVec 576) : bystanders (outputImage q p s) = bystanders s :=
  (plantOnly_outputImage q p s).bystanders

@[simp] theorem bystanders_ite (c : Prop) [Decidable c] (a b : State) :
    bystanders (if c then a else b) = if c then bystanders a else bystanders b := apply_ite bystanders c a b

theorem bystanders_foldl {α : Type} {f : State → α → State} (h : ∀ s a, bystanders (f s a) = bystanders s) (l : List α) (s : State) :
    bystanders (l.foldl f s) = bystanders s := by
  induction l generalizing s with
  | nil => rfl
  | cons a l ih => rw [List.foldl_cons, ih, h]

@[simp] theorem bystanders_raiseEvts (l : List (Nat × Nat)) : bystanders (raiseEvts l s) = bystanders s :=
  bystanders_foldl (fun _ _ => bystanders_raise ..) _ _

@[simp] theorem bystanders_logicScan (init : Bool) : bystanders (logicScan init s) = bystanders s := by simp [logicScan]

@[simp] theorem bystanders_logicSafe : bystanders (logicSafe s) = bystanders s := by simp [logicSafe]

@[simp] theorem bystanders_logicEnter (m : Nat) : bystanders (logicEnter m s) = bystanders s := by simp [logicEnter]

@[simp] theorem bystanders_stepEnd : bystanders (stepEnd s) = bystanders s := by simp [stepEnd]

@[simp] theorem bystanders_progEvent : bystanders (progEvent s) = bystanders s := by simp [progEvent]

@[simp] theorem bystanders_progSwitch : bystanders (progSwitch s).2 = bystanders s := by
  unfold progSwitch
  split
  · rfl
  · split
    · rfl
    · split
      · simp
      · rfl

theorem bystanders_mirrorEach {f : Nat → Bytes → State → State} (h : ∀ i b s, bystanders (f i b s) = bystanders s) (kind n : Nat) :
    bystanders (mirrorEach kind n f s) = bystanders s := by
  refine bystanders_foldl (fun s i => ?_) _ _
  have taken : bystanders (mirrorTake kind i s).2 = bystanders s := by
    unfold mirrorTake
    split
    · rfl
    · split <;> rfl
  split
  · next b u e =>
    rw [e] at taken
    exact (h ..).trans taken
  · next u e =>
    rw [e] at taken
    exact taken

@[simp] theorem bystanders_logicMirror : bystanders (logicMirror s) = bystanders s := by
  unfold logicMirror
  rw [bystanders_mirrorEach, bystanders_mirrorEach, bystanders_mirrorEach, bystanders_mirrorEach, bystanders_mirrorEach] <;>
    exact fun _ _ _ => rfl

/-! ### The image as it is latched (R402, R403, R409) -/

/-- Logic time advances by one scan period (R406). -/
def ltAdvance (s : State) : State := onLogic (fun l => { l with lt := (l.lt + actN s 0x0C00) % 2 ^ 64 }) s

/-- The engine's state with logic time advanced and the image latched, ready for the program. -/
def scanReady (init : Bool) (s : State) : State :=
  let s := ltAdvance s
  let changed := init && s.logic.changeDue
  let s := logicLatch init changed (if init then logicInit s.logic.initKeep s else s)
  if init then onLogic (fun l => { l with prev := l.img, initDue := false, initKeep := false, changeDue := false }) s else s

/-- What the program leaves of the state in which a scan is ready. -/
def scanRun (s : State) : Exec := runProg (presets s) (progWords s.logic.image) 0 0 { l := s.logic }

/-- The engine's state after a scan that found `x`, with its counts and times. -/
def scanDone (init changed : Bool) (x : Exec) (ts free : Nat) : LogicSt :=
  { x.l with
    firstScan := init, progChanged := changed, scanCnt := wrapInc 32 x.l.scanCnt, ts, scanTime := free
    scanMax := max x.l.scanMax free, prev := x.l.img, dout := x.l.img.q, doutOn := true, permit := x.l.img.p }

theorem raiseEvts_logic (l : List (Nat × Nat)) (s : State) : (raiseEvts l s).logic = s.logic := by
  unfold raiseEvts
  induction l.reverse generalizing s with
  | nil => rfl
  | cons a l ih => exact (ih _).trans (raise_logic ..)

/-- The counts, the outputs and the events of a scan that found `x` (R403 step 4). -/
def scanTransfer (init changed : Bool) (x : Exec) (s : State) : State :=
  let free := Config.freeNat s.free % 65536
  let s := onLogic (fun _ => { x.l with
    firstScan := init, progChanged := changed, scanCnt := wrapInc 32 x.l.scanCnt, ts := ontLo s, scanTime := free
    scanMax := max x.l.scanMax free, prev := x.l.img }) s.drawn
  raiseEvts x.evts (outputImage s.logic.img.q s.logic.img.p s)

theorem logicScan_eq (init : Bool) (s : State) : logicScan init s =
    scanTransfer init (init && (ltAdvance s).logic.changeDue) (scanRun (scanReady init s)) (scanReady init s) := by
  simp only [logicScan, scanTransfer, scanRun, scanReady, ltAdvance]

theorem scanTransfer_logic (init changed : Bool) (x : Exec) (s : State) :
    (scanTransfer init changed x s).logic = scanDone init changed x (ontLo s) (Config.freeNat s.free % 65536) := by
  unfold scanTransfer
  rw [raiseEvts_logic, (plantOnly_outputImage ..).logic]
  rfl

theorem statusBits_eq (s : State) (first changed : Bool) : ∃ r, statusBits s first changed =
    BitVec.ofNat 256 (b2n first + 2 * b2n changed + 4 * b2n (grant s) + 8 * b2n (holdLine s) + 16 * b2n s.time.valid + 32 * r) := by
  have split (low n : Nat) (h : n % 32 = low % 32) (hl : low ≤ n) : ∃ r, BitVec.ofNat 256 n = BitVec.ofNat 256 (low + 32 * r) :=
    ⟨(n - low) / 32, congrArg _ (by omega)⟩
  unfold statusBits bitsFrom
  dsimp only
  exact split _ _ (by omega) (by omega)

/-- FIRST_SCAN, PROGRAM_CHANGED, grant and time validity stand in the first bits of the S area (R402). -/
theorem statusBits_low (s : State) (first changed : Bool) : (statusBits s first changed).getLsbD 0 = first ∧
    (statusBits s first changed).getLsbD 1 = changed ∧ (statusBits s first changed).getLsbD 2 = grant s ∧
    (statusBits s first changed).getLsbD 4 = s.time.valid := by
  obtain ⟨r, e⟩ := statusBits_eq s first changed
  have h0 := b2n_le first
  have h1 := b2n_le changed
  have h2 := b2n_le (grant s)
  have h3 := b2n_le (holdLine s)
  have h4 := b2n_le s.time.valid
  have bitAt (n k : Nat) (b : Bool) (hk : k < 256) (h : n / 2 ^ k % 2 = b2n b) : (BitVec.ofNat 256 n).getLsbD k = b := by
    rw [BitVec.getLsbD_ofNat, decide_eq_true hk, Bool.true_and, ← bit_eq_testBit]
    exact bit_of_div h
  rw [e]
  refine ⟨bitAt _ _ _ (by omega) (by omega), bitAt _ _ _ (by omega) (by omega), bitAt _ _ _ (by omega) (by omega),
    bitAt _ _ _ (by omega) (by omega)⟩

theorem statusBits_first (s : State) (a b : Bool) : (statusBits s a b).getLsbD 0 = a := (statusBits_low s a b).1
theorem statusBits_changed (s : State) (a b : Bool) : (statusBits s a b).getLsbD 1 = b := (statusBits_low s a b).2.1
theorem statusBits_grant (s : State) (a b : Bool) : (statusBits s a b).getLsbD 2 = grant s := (statusBits_low s a b).2.2.1
theorem statusBits_valid (s : State) (a b : Bool) : (statusBits s a b).getLsbD 4 = s.time.valid := (statusBits_low s a b).2.2.2

theorem scanReady_latched (init : Bool) (s : State) :
    (scanReady init s).logic.lt = (s.logic.lt + actN s 0x0C00) % 2 ^ 64 ∧
    (scanReady init s).logic.img.i = BitVec.ofNat 24 (dinLevels s) ∧
    (scanReady init s).logic.img.h = s.logic.hostBits.foldl wordPut s.logic.img.h ∧
    (scanReady init s).logic.img.s.getLsbD 0 = init ∧ (scanReady init s).logic.img.s.getLsbD 1 = (init && s.logic.changeDue) ∧
    (scanReady init s).logic.img.s.getLsbD 2 = grant s ∧ (scanReady init s).logic.img.s.getLsbD 4 = s.time.valid ∧
    (scanReady init s).logic.img.r = s.logic.img.r ∧ (scanReady init s).logic.evtOn = s.logic.evtOn ∧
    (scanReady init s).logic.hostBits = [] ∧ (scanReady init s).logic.initDue = (s.logic.initDue && !init) := by
  cases init <;>
  · simp only [scanReady, ltAdvance, logicLatch, logicInit, onLogic, if_true, if_false, Bool.false_eq_true, Bool.false_and, Bool.true_and,
      statusBits_first, statusBits_changed, statusBits_grant, statusBits_valid, Bool.not_true, Bool.not_false, Bool.and_true,
      Bool.and_false, dinLevels, grant, and_self]

/-- What no scan's latch touches. -/
theorem scanReady_kept (init : Bool) (s : State) :
    (scanReady init s).logic.scanCnt = s.logic.scanCnt ∧ (scanReady init s).logic.mode = s.logic.mode ∧
    (scanReady init s).logic.image = s.logic.image ∧ (scanReady init s).logic.steps = s.logic.steps ∧
    (scanReady init s).logic.stepping = s.logic.stepping ∧ (scanReady init s).logic.slot = s.logic.slot ∧
    (scanReady init s).logic.next = s.logic.next ∧ (scanReady init s).logic.skipCnt = s.logic.skipCnt := by
  cases init <;> simp only [scanReady, ltAdvance, logicLatch, logicInit, onLogic, if_true, if_false, Bool.false_eq_true, and_self]

/-- A scan that is not initialising keeps what the program left. -/
theorem scanReady_plain (s : State) : (scanReady false s).logic.img.q = s.logic.img.q ∧ (scanReady false s).logic.img.p = s.logic.img.p ∧
    (scanReady false s).logic.img.m = s.logic.img.m ∧ (scanReady false s).logic.img.t = s.logic.img.t ∧
    (scanReady false s).logic.img.c = s.logic.img.c ∧ (scanReady false s).logic.timers = s.logic.timers ∧
    (scanReady false s).logic.counters = s.logic.counters ∧ (scanReady false s).logic.prev = s.logic.prev := by
  simp only [scanReady, ltAdvance, logicLatch, onLogic, if_false, Bool.false_eq_true, and_self]

/-- An initialising scan starts its images, timers and counters anew (R409). -/
theorem scanReady_init (s : State) : (scanReady true s).logic.prev = (scanReady true s).logic.img ∧
    (scanReady true s).logic.img.m = 0 ∧ (scanReady true s).logic.img.q = (if s.logic.initKeep then s.logic.img.q else 0) ∧
    (scanReady true s).logic.img.p = (if s.logic.initKeep then s.logic.img.p else 0) ∧
    (scanReady true s).logic.counters = s.logic.counters.map (fun c => { c with up := false, down := false }) ∧
    ∀ k y, k < 256 → s.logic.timers[k]? = some y → (scanReady true s).logic.timers[k]? = some (if tmrRetained s k then y
      else { y with q := false, run := false, inPrev := false }) := by
  refine ⟨rfl, rfl, rfl, rfl, rfl, fun k y hk hy => ?_⟩
  have pair : (s.logic.timers.zip (upTo 256))[k]? = some (y, k) := List.getElem?_zip_eq_some.mpr ⟨hy, by simp [upTo, hk]⟩
  show ((s.logic.timers.zip (upTo 256)).map _)[k]? = _
  rw [List.getElem?_map, pair]
  rfl

/-! ### What a program changes (R401, R405) -/

/-- A program changes its areas Q, P, M, R, T and C, its timers and counters and what its EVT instructions keep. -/
structure ProgOnly (l m : LogicSt) : Prop where
  eq : m = { l with
    img := { l.img with q := m.img.q, p := m.img.p, m := m.img.m, r := m.img.r, t := m.img.t, c := m.img.c }
    timers := m.timers, counters := m.counters, evtOn := m.evtOn, evtDrop := m.evtDrop }

theorem ProgOnly.refl (l : LogicSt) : ProgOnly l l := ⟨rfl⟩

theorem ProgOnly.trans {a b c : LogicSt} (h : ProgOnly a b) (k : ProgOnly b c) : ProgOnly a c := by
  refine ⟨?_⟩
  rw [k.eq, h.eq]

theorem progOnly_imgSet (a : Nat) (b : Bool) (l : LogicSt) : ProgOnly l { l with img := imgSet a b l.img } := by
  refine ⟨?_⟩
  unfold imgSet
  dsimp only
  split <;> rfl

theorem progOnly_execA (op a : Nat) (x : Exec) : ProgOnly x.l (execA op a x).l := by
  unfold execA
  dsimp only
  split
  case h_15 | h_16 => exact progOnly_imgSet ..
  case h_17 | h_18 =>
    split
    · exact progOnly_imgSet ..
    · exact .refl _
  all_goals exact .refl _

theorem progOnly_execB (ps : Presets) (op k i : Nat) (x : Exec) : ProgOnly x.l (execB ps op k i x).l := by
  unfold execB
  split
  · unfold execEvt
    dsimp only
    split_ifs <;> exact ⟨rfl⟩
  · split <;> exact ⟨rfl⟩

theorem progOnly_execN (op : Nat) (x : Exec) : ProgOnly x.l (execN op x).l := by
  unfold execN
  split <;> exact .refl _

theorem progOnly_execOne (ps : Presets) (w i : Nat) (x : Exec) : ProgOnly x.l (execOne ps w i x).1.l := by
  unfold execOne
  dsimp only
  split
  · exact progOnly_execA ..
  · exact progOnly_execB ..
  · exact .refl _
  · split
    · exact .refl _
    · exact progOnly_execN ..

theorem progOnly_runProg (ps : Presets) (ws : List Nat) (i j : Nat) (x : Exec) : ProgOnly x.l (runProg ps ws i j x).l := by
  induction ws generalizing i j x with
  | nil => exact .refl _
  | cons w ws ih =>
    unfold runProg
    split
    · exact ih ..
    · exact (progOnly_execOne ps w i x).trans (ih ..)

/-- What the program leaves of the engine it runs on. -/
theorem scanRun_kept (s : State) : ProgOnly s.logic (scanRun s).l := by
  unfold scanRun
  exact progOnly_runProg _ _ 0 0 { l := s.logic }

/-! ### A mode change (R408, R409, R410, R414) -/

theorem logicEnter_same {m : Nat} (h : m = s.logic.mode) : logicEnter m s = s := if_pos h

/-- A mode that drives nothing of its own is entered from any mode but STANDBY. -/
theorem logicEnter_quiet {m : Nat} (h5 : s.logic.mode ≠ 5) (hm : ¬ (m = 2 ∨ m = 6)) :
    Reported (onLogic (fun l => { l with mode := m }) s) (logicEnter m s) := by
  unfold logicEnter
  dsimp only
  split
  · next h =>
    have : onLogic (fun l => { l with mode := m }) s = s := by rw [h]; rfl
    rw [this]
    exact .refl s
  · exact reported_raise ..

theorem PlantOnly.logicToo (a : PlantOnly s t) (f : LogicSt → LogicSt) : PlantOnly (onLogic f s) (onLogic f t) := by
  refine ⟨?_, a.act⟩
  rw [onLogic, onLogic, a.eq]

theorem PlantOnly.doutSafe (a : PlantOnly s t) : doutSafe t = doutSafe s := by
  unfold Machine.doutSafe actN
  rw [a.act 0x0C02 fun c => by simp [canParams, canId, canObjId]; omega]

/-- STOP and FAULT are entered with the safe outputs and without a permit. -/
theorem logicEnter_safe {m : Nat} (h5 : s.logic.mode ≠ 5) (hm : m = 2 ∨ m = 6) (h : m ≠ s.logic.mode) :
    PlantOnly (onLogic (fun l => { l with
      mode := m, img := { l.img with q := 0, p := 0 }, dout := doutSafe s, doutOn := true, permit := 0, initDue := true
      initKeep := false }) s) (logicEnter m s) := by
  unfold logicEnter
  dsimp only
  rw [if_neg h]
  simp only [if_pos hm]
  generalize hr : raise 0x0C10 72 s.logic.mode m (b2n (m == 6)) (onLogic (fun l => { l with mode := m }) s) = r
  have a : PlantOnly (onLogic (fun l => { l with mode := m }) s) r := hr ▸ (PlantOnly.refl _).report ..
  have b := ((a.logicToo fun l => { l with img := { l.img with q := 0, p := 0 } }).logicToo (outputTaken (Machine.doutSafe r) 0)).trans
    (plantOnly_outputImage ..)
  have hd : Machine.doutSafe r = Machine.doutSafe s := a.doutSafe
  rw [hd] at b
  have c := b.logicToo fun l => { l with initDue := true, initKeep := false }
  have hl : ¬ s.logic.mode = 5 := h5
  simp only [if_neg hl, logicSafe, hd]
  exact c

/-! ### The parts of an instant (R403, R408 to R414) -/

/-- An error that waited for the instant latches FAULT (R414). -/
def logicJudged (s : State) : State := onLogic (fun l => { l with eccDue := false, faulted := l.faulted || l.eccDue }) s

/-- What the engine does at an instant in its mode, where the instant's scan may be skipped. -/
def instantDo (skip : Bool) (s : State) : State :=
  if s.logic.mode = 5 then logicMirror s
  else if s.logic.mode = 2 ∨ s.logic.mode = 6 then onLogic (fun l => { l with dout := doutSafe s }) s
  else if skip then s
  else if s.logic.mode = 1 then logicScan s.logic.initDue s
  else if s.logic.mode = 3 ∧ s.logic.stepping ∧ 0 < s.logic.steps then
    let s := logicScan (s.logic.initDue && s.logic.initKeep) (onLogic (fun l => { l with steps := l.steps - 1 }) s)
    if s.logic.steps = 0 then stepEnd s else s
  else s

/-- A stepping that was cut ends, and a program that waits is switched in. -/
def instantWork (s : State) : State :=
  let s := if s.logic.stepping && (s.logic.stepCut || s.logic.mode != 3) then stepEnd s else s
  instantDo (progSwitch s).1 (progSwitch s).2

theorem onLogic_fixed {f : LogicSt → LogicSt} (h : f s.logic = s.logic) : onLogic f s = s := by
  rw [onLogic, h]

theorem logicJudged_noError (h : s.logic.eccDue = false) : logicJudged s = s := by
  refine onLogic_fixed ?_
  rw [h, Bool.or_false, ← h]

theorem logicInstant_eq (s : State) : logicInstant s = instantWork (logicEnter (logicWanted (logicJudged s)) (logicJudged s)) := by
  have judged : (if s.logic.eccDue then onLogic (fun l => { l with eccDue := false, faulted := true }) s else s) = logicJudged s := by
    cases h : s.logic.eccDue
    · exact (logicJudged_noError h).symm
    · simp only [logicJudged, onLogic, h, Bool.or_true, if_true]
  unfold logicInstant instantWork instantDo
  rw [judged]

theorem bystanders_instantWork (s : State) : bystanders (instantWork s) = bystanders s := by
  have done (skip : Bool) (s : State) : bystanders (instantDo skip s) = bystanders s := by
    unfold instantDo
    dsimp only
    split_ifs <;> simp
  unfold instantWork
  dsimp only
  rw [done, bystanders_progSwitch, bystanders_ite, bystanders_stepEnd, ite_self]

theorem bystanders_logicInstant (s : State) : bystanders (logicInstant s) = bystanders s := by
  rw [logicInstant_eq, bystanders_instantWork, bystanders_logicEnter]
  exact bystanders_onLogic _

theorem progSwitch_none (h : s.logic.next = none) : progSwitch s = (false, s) := by
  unfold progSwitch
  rw [h]

theorem instantDo_standby (skip : Bool) (hm : s.logic.mode = 5) : instantDo skip s = logicMirror s := if_pos hm

theorem instantDo_safe (skip : Bool) (hm : s.logic.mode = 2 ∨ s.logic.mode = 6) :
    instantDo skip s = onLogic (fun l => { l with dout := doutSafe s }) s := by
  rw [instantDo, if_neg (by omega), if_pos hm]

theorem instantDo_skipped (hm : s.logic.mode = 1) : instantDo true s = s := by
  rw [instantDo, if_neg (by omega), if_neg (by omega), if_pos rfl]

theorem instantDo_run (hm : s.logic.mode = 1) : instantDo false s = logicScan s.logic.initDue s := by
  rw [instantDo, if_neg (by omega), if_neg (by omega), if_neg (by decide), if_pos hm]

theorem instantDo_held (hs : s.logic.stepping = false) (hm : s.logic.mode = 3 ∨ s.logic.mode = 4) : instantDo false s = s := by
  rw [instantDo, if_neg (by omega), if_neg (by omega), if_neg (by decide), if_neg (by omega), if_neg (by simp [hs])]

theorem instantWork_steady (hs : s.logic.stepping = false) :
    instantWork s = instantDo (progSwitch s).1 (progSwitch s).2 := by
  rw [instantWork, if_neg (by simp [hs])]

/-- Without a stepping and a program that waits, an instant does what its mode says. -/
theorem instantWork_plain (hs : s.logic.stepping = false) (hn : s.logic.next = none) : instantWork s = instantDo false s := by
  rw [instantWork_steady hs, progSwitch_none hn]

/-- In STANDBY without a mirrored period nothing enters (R526). -/
theorem logicMirror_none (h : s.pair.period = none) : logicMirror s = s := by
  have each (kind n : Nat) (f : Nat → Bytes → State → State) : mirrorEach kind n f s = s := by
    unfold mirrorEach
    refine foldl_fixed (fun i => ?_) _
    have : mirrorTake kind i s = (none, s) := by
      unfold mirrorTake
      rw [h]
    rw [this]
  unfold logicMirror
  simp only [each]

/-! ### A scan instant (R403) -/

/-- The state at a scan instant: the samples are in and the engine's parameters committed. -/
def atInstant (d : List (Nat × Nat)) (s : State) : State := parCommit logicParams (dinFeed d s)

theorem actN_atInstant (d : List (Nat × Nat)) (s : State) {id : Nat} (h : logicParams id = true) : actN (atInstant d s) id = parN s id := by
  rw [actN, atInstant, act_parCommit _ h]
  rfl

theorem doutSafe_atInstant (d : List (Nat × Nat)) (s : State) : doutSafe (atInstant d s) = BitVec.ofNat 24 (parN s 0x0C02) := by
  rw [doutSafe, actN_atInstant d s (by decide)]

theorem exec_logicScan_between {d : List (Nat × Nat)} (hp : plantRuns s = true) (h : scanInstant s = false) :
    exec (.logicScan d) s = .next (dinFeed d s) := by
  have hn : (!(plantRuns (dinFeed d s) && isl (dinFeed d s) 5 == .on && scanInstant (dinFeed d s))) = true := by
    rw [show scanInstant (dinFeed d s) = false from h, Bool.and_false]
    rfl
  have tick : logicTick d s = dinFeed d s := by
    unfold logicTick
    rw [if_pos hp]
    exact if_pos hn
  exact congrArg _ tick

section
variable {d : List (Nat × Nat)} (hp : plantRuns s = true) (hi : isl s 5 = .on) (hsc : scanInstant s = true)
include hp hi hsc

theorem logicTick_at : logicTick d s = padRelease (if enabled s 12 0 then logicInstant (atInstant d s)
    else if s.power.padHold ∨ s.logic.doutOn ∧ s.logic.mode = 0 then
      onLogic (fun l => { l with dout := doutSafe (dinFeed d s), doutOn := true }) (dinFeed d s)
    else dinFeed d s) := by
  have hn : ¬ (!(plantRuns (dinFeed d s) && isl (dinFeed d s) 5 == .on && scanInstant (dinFeed d s))) = true := by
    rw [show plantRuns (dinFeed d s) = true from hp, show isl (dinFeed d s) 5 = .on from hi, show scanInstant (dinFeed d s) = true from hsc]
    decide
  unfold logicTick
  rw [if_pos hp]
  exact if_neg hn

theorem exec_logicScan_enabled (he : enabled s 12 0 = true) :
    exec (.logicScan d) s = .next (padRelease (logicInstant (atInstant d s))) := by
  have tick := logicTick_at (d := d) hp hi hsc
  rw [if_pos he] at tick
  exact congrArg _ tick

theorem exec_logicScan_disabled (he : enabled s 12 0 = false) : exec (.logicScan d) s = .next (padRelease
    (if s.power.padHold ∨ s.logic.doutOn ∧ s.logic.mode = 0 then
      onLogic (fun l => { l with dout := doutSafe (dinFeed d s), doutOn := true }) (dinFeed d s)
    else dinFeed d s)) := by
  have tick := logicTick_at (d := d) hp hi hsc
  rw [if_neg (by simp [he])] at tick
  exact congrArg _ tick

end

end

end Sys2Proof.Machine
end

section
/-! The scans and modes of the Aplar logic engine: O45. -/

namespace Sys2Proof.Machine

section
variable {s : State} {d : List (Nat × Nat)}

theorem scanReady_host (init : Bool) (s : State) : (scanReady init s).host = s.host := by
  cases init <;> simp only [scanReady, ltAdvance, logicLatch, logicInit, onLogic, if_true, if_false, Bool.false_eq_true]

theorem presets_congr {t : State} (h : t.host.tables = s.host.tables) : presets t = presets s := by
  unfold presets tab
  rw [h]

theorem scanRun_scanReady (init : Bool) (s : State) : scanRun (scanReady init s) =
    runProg (presets s) (progWords s.logic.image) 0 0 { l := (scanReady init s).logic } := by
  obtain ⟨-, -, image, -⟩ := scanReady_kept init s
  unfold scanRun
  rw [presets_congr (t := scanReady init s) (s := s) (by rw [scanReady_host]), image]

/-- What a scan counts, and what it keeps (R403, R417). -/
theorem logicScan_counts (init : Bool) (s : State) : let t := logicScan init s
    t.logic.scanCnt = wrapInc 32 s.logic.scanCnt ∧ t.logic.mode = s.logic.mode ∧ t.logic.image = s.logic.image ∧
    t.logic.firstScan = init ∧ t.logic.progChanged = (init && s.logic.changeDue) ∧ t.logic.initDue = (s.logic.initDue && !init) ∧
    t.logic.hostBits = [] ∧ t.logic.lt = (s.logic.lt + actN s 0x0C00) % 2 ^ 64 ∧ t.logic.steps = s.logic.steps ∧
    t.logic.stepping = s.logic.stepping ∧ t.logic.img.i = BitVec.ofNat 24 (dinLevels s) ∧ t.logic.slot = s.logic.slot ∧
    t.logic.next = s.logic.next ∧ t.logic.skipCnt = s.logic.skipCnt := by
  obtain ⟨lt, i, -, -, -, -, -, -, -, hostBits, initDue⟩ := scanReady_latched init s
  obtain ⟨cnt, mode, image, steps, stepping, slot, next, skipCnt⟩ := scanReady_kept init s
  have kept := (scanRun_kept (scanReady init s)).eq
  dsimp only
  rw [logicScan_eq, scanTransfer_logic]
  generalize scanRun (scanReady init s) = x at kept ⊢
  generalize hl : (scanReady init s).logic = l at *
  simp only [scanDone]
  rw [kept]
  exact ⟨congrArg _ cnt, mode, image, trivial, rfl, initDue, hostBits, lt, steps, stepping, i, slot, next, skipCnt⟩

/-! ### The mode at an instant (R408) -/

theorem logicWanted_standby (h : standby s = true) : logicWanted s = 5 := if_pos h

theorem logicWanted_holdLine (hst : standby s = false) (h : holdLine s = true) : logicWanted s = 4 := by
  rw [logicWanted, if_neg (by simp [hst]), if_pos h]

theorem logicWanted_gated (hst : standby s = false) (hh : holdLine s = false) :
    logicWanted s = if s.logic.faulted then 6 else nth 1 [1, 2, 3] s.logic.cmd := by
  rw [logicWanted, if_neg (by simp [hst]), if_neg (by simp [hh])]

theorem logicInstant_sameMode (he : s.logic.eccDue = false) (hm : logicWanted s = s.logic.mode) : logicInstant s = instantWork s := by
  rw [logicInstant_eq, logicJudged_noError he, logicEnter_same hm]

/-- An instant with the mode that the command gives, unhindered. -/
theorem logicInstant_commanded (hst : standby s = false) (hh : holdLine s = false) (hf : s.logic.faulted = false)
    (he : s.logic.eccDue = false) (hm : nth 1 [1, 2, 3] s.logic.cmd = s.logic.mode) : logicInstant s = instantWork s := by
  refine logicInstant_sameMode he ?_
  rw [logicWanted_gated hst hh, if_neg (by simp [hf]), hm]

/-- The mode reached from a mode other than STANDBY, where it drives nothing of its own. -/
theorem logicInstant_quiet (hs : s.logic.stepping = false) (hn : s.logic.next = none) (h5 : s.logic.mode ≠ 5)
    (hp : logicWanted (logicJudged s) = 5 → s.pair.period = none)
    (hm : logicWanted (logicJudged s) = 3 ∨ logicWanted (logicJudged s) = 4 ∨ logicWanted (logicJudged s) = 5) :
    (logicInstant s).logic = { s.logic with
      mode := logicWanted (logicJudged s), eccDue := false, faulted := s.logic.faulted || s.logic.eccDue } := by
  rw [logicInstant_eq]
  generalize logicWanted (logicJudged s) = m at *
  have a : Reported (onLogic (fun l => { l with mode := m }) (logicJudged s)) (logicEnter m (logicJudged s)) :=
    logicEnter_quiet h5 (by omega)
  have entered : (logicEnter m (logicJudged s)).logic = { s.logic with
      mode := m, eccDue := false, faulted := s.logic.faulted || s.logic.eccDue } := a.logic
  have period : (logicEnter m (logicJudged s)).pair.period = s.pair.period := by rw [a.eq]; rfl
  generalize logicEnter m (logicJudged s) = u at *
  have hs' : u.logic.stepping = false := by rw [entered]; exact hs
  have hn' : u.logic.next = none := by rw [entered]; exact hn
  have hm' : u.logic.mode = m := by rw [entered]
  rcases hm with h | h | h
  · rw [instantWork_plain hs' hn', instantDo_held hs' (.inl (hm'.trans h)), entered]
  · rw [instantWork_plain hs' hn', instantDo_held hs' (.inr (hm'.trans h)), entered]
  · rw [instantWork_plain hs' hn', instantDo_standby _ (hm'.trans h), logicMirror_none (period.trans (hp h)), entered]

/-- STOP and FAULT drive the safe outputs (R408). -/
theorem logicInstant_safe {m : Nat} (hs : s.logic.stepping = false) (hn : s.logic.next = none) (h5 : s.logic.mode ≠ 5)
    (hw : logicWanted (logicJudged s) = m) (hm : m = 2 ∨ m = 6) : (logicInstant s).logic =
      if m = s.logic.mode then { s.logic with eccDue := false, faulted := s.logic.faulted || s.logic.eccDue, dout := doutSafe s }
      else { s.logic with
        eccDue := false, faulted := s.logic.faulted || s.logic.eccDue, mode := m, img := { s.logic.img with q := 0, p := 0 }
        dout := doutSafe s, doutOn := true, permit := 0, initDue := true, initKeep := false } := by
  rw [logicInstant_eq, hw]
  split
  · next h =>
    rw [logicEnter_same (s := logicJudged s) h, instantWork_plain (s := logicJudged s) hs hn, instantDo_safe (s := logicJudged s) _ (h ▸ hm)]
    rfl
  · next h =>
    have a := logicEnter_safe (s := logicJudged s) (m := m) h5 hm h
    have entered := a.logic
    have driven : doutSafe (logicEnter m (logicJudged s)) = doutSafe s := a.doutSafe
    generalize logicEnter m (logicJudged s) = u at *
    have hs' : u.logic.stepping = false := by rw [entered]; exact hs
    have hn' : u.logic.next = none := by rw [entered]; exact hn
    have hm' : u.logic.mode = m := by rw [entered]; rfl
    rw [instantWork_plain hs' hn', instantDo_safe _ (by rw [hm']; exact hm), driven]
    simp only [onLogic_logic, entered]
    rfl

/-! ### Stepping and the program switch (R411, R413) -/

theorem stepEnd_logic (s : State) :
    (stepEnd s).logic = { s.logic with stepping := false, stepCut := false, steps := 0 } := by
  simp only [stepEnd, raise_logic, onLogic_logic]

theorem instantWork_cut (hs : s.logic.stepping = true) (hc : s.logic.stepCut = true) (hn : s.logic.next = none) (hm : s.logic.mode = 3) :
    (instantWork s).logic = { s.logic with stepping := false, stepCut := false, steps := 0 } := by
  have ended := stepEnd_logic s
  rw [instantWork, if_pos (by simp [hs, hc]), progSwitch_none (by rw [ended]; exact hn),
    instantDo_held (by rw [ended]) (.inl (by rw [ended]; exact hm)), ended]

theorem instantDo_step {k : Nat} (hs : s.logic.stepping = true) (hm : s.logic.mode = 3) (hk : s.logic.steps = k + 1) :
    instantDo false s =
      if k = 0 then stepEnd (logicScan (s.logic.initDue && s.logic.initKeep) (onLogic (fun l => { l with steps := k }) s))
      else logicScan (s.logic.initDue && s.logic.initKeep) (onLogic (fun l => { l with steps := k }) s) := by
  have one : onLogic (fun l => { l with steps := l.steps - 1 }) s = onLogic (fun l => { l with steps := k }) s := by
    rw [onLogic, hk]
    rfl
  obtain ⟨-, -, -, -, -, -, -, -, steps, -⟩ := logicScan_counts (s.logic.initDue && s.logic.initKeep)
    (onLogic (fun l => { l with steps := k }) s)
  rw [instantDo, if_neg (by rw [hm]; decide), if_neg (by rw [hm]; decide), if_neg (by decide), if_neg (by rw [hm]; decide),
    if_pos ⟨hm, hs, by rw [hk]; exact Nat.succ_pos k⟩, one]
  dsimp only
  rw [steps]
  rfl

/-- One scan of a stepping, which ends with its last (R411). -/
theorem instantDo_stepped {k : Nat} (hs : s.logic.stepping = true) (hm : s.logic.mode = 3) (hk : s.logic.steps = k + 1) :
    let t := instantDo false s
    t.logic.mode = 3 ∧ t.logic.steps = k ∧ t.logic.stepping = decide (k ≠ 0) ∧
    t.logic.lt = (s.logic.lt + actN s 0x0C00) % 2 ^ 64 ∧ t.logic.scanCnt = wrapInc 32 s.logic.scanCnt ∧
    t.logic.img.i = BitVec.ofNat 24 (dinLevels s) := by
  obtain ⟨cnt, mode, -, -, -, -, -, lt, steps, stepping, i, -⟩ :=
    logicScan_counts (s.logic.initDue && s.logic.initKeep) (onLogic (fun l => { l with steps := k }) s)
  dsimp only
  rw [instantDo_step hs hm hk]
  generalize logicScan _ _ = u at *
  split
  · next h =>
    rw [stepEnd_logic]
    exact ⟨mode.trans hm, h.symm, by simp [h], lt, cnt, i⟩
  · next h => exact ⟨mode.trans hm, steps, stepping.trans (by simp [h, hs]), lt, cnt, i⟩

theorem instantDo_stepless (hm : s.logic.mode = 3) (hk : s.logic.steps = 0) : instantDo false s = s := by
  rw [instantDo, if_neg (by omega), if_neg (by omega), if_neg (by decide), if_neg (by omega), if_neg (by omega)]

theorem instantWork_uncut (hc : s.logic.stepCut = false) (hn : s.logic.next = none) (hm : s.logic.mode = 3) :
    instantWork s = instantDo false s := by
  rw [instantWork, if_neg (by simp [hc, hm]), progSwitch_none hn]

section
variable {g : Bytes} {b : Bool} (hn : s.logic.next = some (g, b))
include hn

/-- The switch of a program begins with the first scan it skips. -/
theorem progSwitch_first (hk : s.logic.skipLeft = 0) : ∃ n, progSwitch s =
    (true, onLogic (fun l => { l with skipLeft := n + 1, skipped := 1, skipCnt := satInc 32 l.skipCnt }) s.drawn) := by
  refine ⟨Config.freeNat s.free % ((2000 + actN s 0x0C00 - 1) / actN s 0x0C00), ?_⟩
  unfold progSwitch
  simp only [hn, if_pos hk, Nat.add_comm]

theorem progSwitch_skips (hk : 1 < s.logic.skipLeft) : progSwitch s = (true,
    onLogic (fun l => { l with skipLeft := l.skipLeft - 1, skipped := l.skipped + 1, skipCnt := satInc 32 l.skipCnt }) s) := by
  unfold progSwitch
  simp only [hn, if_neg (by omega : ¬ s.logic.skipLeft = 0), if_neg (by omega : ¬ s.logic.skipLeft = 1)]

theorem instantWork_switchFirst (hs : s.logic.stepping = false) (hm : s.logic.mode = 1) (hk : s.logic.skipLeft = 0) : ∃ n,
    (instantWork s).logic = { s.logic with skipLeft := n + 1, skipped := 1, skipCnt := satInc 32 s.logic.skipCnt } := by
  obtain ⟨n, first⟩ := progSwitch_first hn hk
  have work := instantWork_steady hs
  rw [first] at work
  exact ⟨n, congrArg State.logic (work.trans (instantDo_skipped hm))⟩

theorem instantWork_switchSkips (hs : s.logic.stepping = false) (hm : s.logic.mode = 1) (hk : 1 < s.logic.skipLeft) :
    (instantWork s).logic =
      { s.logic with skipLeft := s.logic.skipLeft - 1, skipped := s.logic.skipped + 1, skipCnt := satInc 32 s.logic.skipCnt } := by
  have work := instantWork_steady hs
  rw [progSwitch_skips hn hk] at work
  exact congrArg State.logic (work.trans (instantDo_skipped hm))

theorem progSwitch_last (hk : s.logic.skipLeft = 1) : progSwitch s = (false, progEvent (onLogic (fun l => { l with
    next := none, skipLeft := 0, initDue := true, initKeep := true, changeDue := true }) (progTake g b s))) := by
  unfold progSwitch
  simp only [hn, hk, if_true]
  rfl

/-- After the last scan it skips, the switch takes the program and runs it in an initialising scan. -/
theorem instantWork_switchLast (hs : s.logic.stepping = false) (hm : s.logic.mode = 1) (hk : s.logic.skipLeft = 1) :
    ∃ u, instantWork s = logicScan true u ∧ u.logic = { s.logic with
      image := g, slot := b, evtOn := [], next := none, skipLeft := 0, initDue := true, initKeep := true, changeDue := true } := by
  have taken (v : State) : (progEvent v).logic = v.logic := raise_logic ..
  have work := instantWork_steady hs
  rw [progSwitch_last hn hk] at work
  generalize hv : onLogic (fun l => { l with
    next := none, skipLeft := 0, initDue := true, initKeep := true, changeDue := true }) (progTake g b s) = v at work
  have logic : (progEvent v).logic = { s.logic with
      image := g, slot := b, evtOn := [], next := none, skipLeft := 0, initDue := true, initKeep := true, changeDue := true } := by
    rw [taken, ← hv]
    rfl
  have run := work.trans (instantDo_run (by rw [logic]; exact hm))
  rw [logic] at run
  exact ⟨_, run, logic⟩

end

/-- Where a scan leaves what its program made. -/
theorem logicScan_left (init : Bool) (s : State) : let x := scanRun (scanReady init s)
    let t := logicScan init s
    t.logic.img = x.l.img ∧ t.logic.timers = x.l.timers ∧ t.logic.counters = x.l.counters ∧ t.logic.prev = x.l.img ∧
    t.logic.dout = x.l.img.q ∧ t.logic.permit = x.l.img.p := by
  dsimp only
  rw [logicScan_eq, scanTransfer_logic]
  generalize scanRun (scanReady init s) = x
  simp only [scanDone, and_self]

theorem bystanders_instant (d : List (Nat × Nat)) (s : State) :
    bystanders (padRelease (logicInstant (atInstant d s))) = bystanders s := bystanders_logicInstant (atInstant d s)

theorem padRelease_padHold (s : State) : (padRelease s).power.padHold = false := rfl

theorem padRelease_logic (s : State) : (padRelease s).logic = s.logic := rfl

theorem judged_unhindered (m : Nat) (l : LogicSt) (hf : l.faulted = false) (he : l.eccDue = false) :
    { l with mode := m, eccDue := false, faulted := l.faulted || l.eccDue } = { l with mode := m } := by
  rw [hf, he]
  cases l
  simp_all

/-- The mode of an engine that is gated by neither the pair nor its own command to run or hold (R408, R414). -/
theorem logicWanted_stop (d : List (Nat × Nat)) (hst : standby s = false) (hh : holdLine s = false)
    (hstop : s.logic.faulted = true ∨ s.logic.eccDue = true ∨ s.logic.cmd = 1) : logicWanted (logicJudged (atInstant d s)) =
      if s.logic.faulted = true ∨ s.logic.eccDue = true then 6 else 2 := by
  have gated : logicWanted (logicJudged (atInstant d s)) = if (s.logic.faulted || s.logic.eccDue) = true then 6
      else nth 1 [1, 2, 3] s.logic.cmd := logicWanted_gated (s := logicJudged (atInstant d s)) hst hh
  rw [gated]
  simp only [Bool.or_eq_true]
  split
  · rfl
  · next h =>
    rw [(by tauto : s.logic.cmd = 1)]
    rfl

theorem logicWanted_hold (d : List (Nat × Nat)) (hst : standby s = false) (hh : holdLine s = false) (hf : s.logic.faulted = false)
    (he : s.logic.eccDue = false) (hc : s.logic.cmd = 2) : logicWanted (logicJudged (atInstant d s)) = 3 := by
  have gated : logicWanted (logicJudged (atInstant d s)) = if (s.logic.faulted || s.logic.eccDue) = true then 6
      else nth 1 [1, 2, 3] s.logic.cmd := logicWanted_gated (s := logicJudged (atInstant d s)) hst hh
  rw [gated, hf, he, hc]
  rfl

theorem actN_scanPeriod (d : List (Nat × Nat)) (s : State) : actN (atInstant d s) 0x0C00 = parN s 0x0C00 :=
  actN_atInstant d s (by decide)

end

/-- Settles O45: the latched image and its run, the modes, the stepping, the switch and the pad hold. The runs of input samples
between instants are the model's choice of log 42. -/
theorem logicScans : Obligations.LogicScans := by
  unfold Obligations.LogicScans
  refine ⟨fun s d l hl hp hi hsc he hst hh hf hecc hc hm hs hn => ?run, fun s d l hl hp hi hsc he hs hn h5 => ?modes,
    fun s d k l hl hp hi hsc he hst hh hf hecc hc hm hs hn => ?stepping,
    fun s d g b l hl hp hi hsc he hst hh hf hecc hc hm hs hn => ?switch,
    fun s d hp hsc => exec_logicScan_between hp hsc, fun s d hp hi hsc he hm => ?disabled⟩
  case run =>
    subst hl
    have scan : logicInstant (atInstant d s) = logicScan s.logic.initDue (atInstant d s) := by
      rw [logicInstant_commanded (s := atInstant d s) hst hh hf hecc (by show nth 1 [1, 2, 3] s.logic.cmd = s.logic.mode; rw [hc, hm]; rfl),
        instantWork_plain (s := atInstant d s) hs hn, instantDo_run (s := atInstant d s) hm]
      rfl
    have still := bystanders_instant d s
    have run := exec_logicScan_enabled (d := d) hp hi hsc he
    obtain ⟨lt, i, h, s0, s1, s2, s4, r, evtOn, -⟩ := scanReady_latched s.logic.initDue (atInstant d s)
    obtain ⟨img, timers, counters, prev, dout, permit⟩ := logicScan_left s.logic.initDue (atInstant d s)
    obtain ⟨cnt, mode, image, first, -, initDue, hostBits, ltDone, -⟩ := logicScan_counts s.logic.initDue (atInstant d s)
    rw [scan] at run still
    clear scan
    generalize logicScan s.logic.initDue (atInstant d s) = u at *
    refine ⟨_, (scanReady s.logic.initDue (atInstant d s)).logic, scanRun (scanReady s.logic.initDue (atInstant d s)), run,
      by rw [lt, actN_scanPeriod]; rfl, i, h, s0, s1, s2, s4, r, evtOn, ?plain, ?init, ?program, img, timers, counters, prev,
      dout, permit, ltDone.trans lt.symm, cnt, mode.trans hm, image, first, initDue.trans (Bool.and_not_self _), hostBits, padRelease_padHold _,
      congrArg (·.1) still, congrArg (·.2.1) still, congrArg (·.2.2) still⟩
    case plain =>
      intro h0
      rw [h0]
      exact scanReady_plain (atInstant d s)
    case init =>
      intro h1
      rw [h1]
      obtain ⟨prev, m, q, p, counters, timers⟩ := scanReady_init (atInstant d s)
      exact ⟨prev, m, q, p, counters, timers⟩
    case program =>
      rw [scanRun_scanReady]
      rfl
  case modes =>
    subst hl
    have still := bystanders_instant d s
    have quiet := logicInstant_quiet (s := atInstant d s) hs hn h5
    have safe := logicInstant_safe (s := atInstant d s) hs hn h5 rfl
    refine ⟨_, exec_logicScan_enabled (d := d) hp hi hsc he, fun hst hper => ?standby, fun hst hh => ?hold,
      fun hst hh hf hecc hc => ?held, fun hst hh hstop => ?stopped, padRelease_padHold _, congrArg (·.1) still⟩
    case standby =>
      have hw : logicWanted (logicJudged (atInstant d s)) = 5 := logicWanted_standby hst
      rw [hw] at quiet
      rw [padRelease_logic]
      exact quiet (fun _ => hper) (by omega)
    case hold =>
      have hw : logicWanted (logicJudged (atInstant d s)) = 4 := logicWanted_holdLine hst hh
      rw [hw] at quiet
      rw [padRelease_logic]
      exact quiet (fun h => by omega) (by omega)
    case held =>
      rw [logicWanted_hold d hst hh hf hecc hc] at quiet
      rw [padRelease_logic]
      exact (quiet (fun h => by omega) (by omega)).trans (judged_unhindered 3 s.logic hf hecc)
    case stopped =>
      have hw := logicWanted_stop d hst hh hstop
      rw [hw] at safe
      have hm : (if s.logic.faulted = true ∨ s.logic.eccDue = true then 6 else 2) = 2 ∨
          (if s.logic.faulted = true ∨ s.logic.eccDue = true then 6 else 2) = 6 := by split <;> omega
      have safe := safe hm
      rw [doutSafe_atInstant] at safe
      rw [padRelease_logic]
      generalize (if s.logic.faulted = true ∨ s.logic.eccDue = true then 6 else 2) = m at *
      generalize (logicInstant (atInstant d s)).logic = u at *
      clear quiet still
      split at safe
      · next h =>
        subst safe
        exact ⟨h.symm, rfl, rfl, rfl, rfl, rfl, rfl, rfl, fun _ => ⟨rfl, rfl⟩, fun h' => absurd rfl h'⟩
      · next h =>
        subst safe
        exact ⟨rfl, rfl, rfl, rfl, rfl, rfl, rfl, rfl, fun h' => absurd h'.symm h, fun _ => ⟨rfl, rfl, rfl⟩⟩
  case stepping =>
    subst hl
    have run := exec_logicScan_enabled (d := d) hp hi hsc he
    have work : logicInstant (atInstant d s) = instantWork (atInstant d s) :=
      logicInstant_commanded (s := atInstant d s) hst hh hf hecc (by show nth 1 [1, 2, 3] s.logic.cmd = s.logic.mode; rw [hc, hm]; rfl)
    rw [work] at run
    refine ⟨_, run, ?_⟩
    rw [padRelease_logic]
    cases hcut : s.logic.stepCut
    · rw [instantWork_uncut (s := atInstant d s) hcut hn hm]
      have stepped {k : Nat} (hk : s.logic.steps = k + 1) := instantDo_stepped (s := atInstant d s) hs hm hk
      refine ⟨?_, nofun, fun _ hk => ?_⟩
      · cases hk : s.logic.steps with
        | zero => rw [instantDo_stepless (s := atInstant d s) hm hk]; exact hm
        | succ j => exact (stepped hk).1
      · obtain ⟨-, steps, stepping, lt, cnt, i⟩ := stepped hk
        exact ⟨steps, stepping, lt.trans (by rw [actN_scanPeriod]; rfl), cnt, i⟩
    · have cut : (instantWork (atInstant d s)).logic = _ := instantWork_cut (s := atInstant d s) hs hcut hn hm
      rw [cut]
      exact ⟨hm, fun _ => ⟨rfl, rfl, rfl, rfl, rfl⟩, nofun⟩
  case switch =>
    subst hl
    have run := exec_logicScan_enabled (d := d) hp hi hsc he
    have work : logicInstant (atInstant d s) = instantWork (atInstant d s) :=
      logicInstant_commanded (s := atInstant d s) hst hh hf hecc (by show nth 1 [1, 2, 3] s.logic.cmd = s.logic.mode; rw [hc, hm]; rfl)
    rw [work] at run
    refine ⟨_, run, ?_⟩
    rw [padRelease_logic]
    refine ⟨fun hk => ?_, instantWork_switchSkips (s := atInstant d s) hn hs hm, fun hk => ?_⟩
    · obtain ⟨n, first⟩ := instantWork_switchFirst (s := atInstant d s) hn hs hm hk
      rw [first]
      exact ⟨Nat.le_add_left 1 n, rfl, rfl, rfl, rfl, rfl, rfl, rfl⟩
    · obtain ⟨u, last, logic⟩ := instantWork_switchLast (s := atInstant d s) hn hs hm hk
      obtain ⟨cnt, -, image, first, changed, -, -, -, -, -, -, slot, next, skipCnt⟩ := logicScan_counts true u
      rw [last]
      rw [logic] at cnt image changed slot next skipCnt
      exact ⟨image, slot, next, first, changed, cnt, skipCnt⟩
  case disabled =>
    have run := exec_logicScan_disabled (d := d) hp hi hsc he
    have released (u : State) (hl : u.loops = s.loops) (ha : u.axes = s.axes) :
        (∀ j : Nat, (padRelease u).loops[j]? = s.loops[j]?.map (fun y => { y with waitScan := false })) ∧
        ∀ j : Nat, (padRelease u).axes[j]? = s.axes[j]?.map (fun y => { y with waitScan := false }) :=
      ⟨fun j => by rw [padRelease, hl, List.getElem?_map], fun j => by rw [padRelease, ha, List.getElem?_map]⟩
    split at run
    · next h =>
      obtain ⟨loops, axes⟩ := released (onLogic (fun l => { l with dout := doutSafe (dinFeed d s), doutOn := true }) (dinFeed d s)) rfl rfl
      refine ⟨_, run, ?_, padRelease_padHold _, loops, axes, rfl, rfl⟩
      rw [if_pos (h.imp_right And.left)]
      rfl
    · next h =>
      obtain ⟨loops, axes⟩ := released (dinFeed d s) rfl rfl
      refine ⟨_, run, ?_, padRelease_padHold _, loops, axes, rfl, rfl⟩
      rw [if_neg (by tauto)]
      rfl

end Sys2Proof.Machine
end

section
/-! SUPPORT. The bistable panel: the bytes of its images, the start of a frame, the end of an update and the discharge
(R567, R570 to R577). -/

namespace Sys2Proof.Machine

section
variable {s t : State} {u : DispUpd}

/-! ### The bytes of an image (R567) -/

theorem imgByte_imgPut_same (o v : Nat) (l : List (Nat × Nat)) : imgByte (imgPut o v l) o = v := by
  unfold imgPut imgByte
  split
  · next h => rw [lookupNat_eraseNat_same, h]; rfl
  · rw [lookupNat_insertNat_same]; rfl

theorem imgByte_imgPut_other {o j : Nat} (v : Nat) (l : List (Nat × Nat)) (h : j ≠ o) : imgByte (imgPut o v l) j = imgByte l j := by
  unfold imgPut imgByte
  split
  · rw [lookupNat_eraseNat_other _ h]
  · rw [lookupNat_insertNat_other _ _ h]

/-- Bytes put one after the other, each at its offset: an offset has its own byte, any other its old one. -/
theorem imgByte_foldl_imgPut (v : Nat → Nat) (offs : List Nat) (l : List (Nat × Nat)) (o : Nat) :
    imgByte (offs.foldl (fun l o => imgPut o (v o) l) l) o = if o ∈ offs then v o else imgByte l o := by
  induction offs generalizing l with
  | nil => rfl
  | cons a offs ih =>
    rw [List.foldl_cons, ih]
    by_cases h : o = a
    · subst h
      simp [imgByte_imgPut_same]
    · simp [h, imgByte_imgPut_other _ _ h]

/-- The bytes of a run lie one behind the other from its offset on. -/
theorem imgByte_run (o : Nat) (v : Nat → Nat) (n : Nat) (l : List (Nat × Nat)) (j : Nat) :
    imgByte ((upTo n).foldl (fun l i => imgPut (o + i) (v i) l) l) j = if o ≤ j ∧ j < o + n then v (j - o) else imgByte l j := by
  induction n with
  | zero => rw [if_neg (by omega)]; rfl
  | succ n ih =>
    rw [upTo, List.range_succ, List.foldl_append]
    show imgByte (imgPut (o + n) (v n) _) j = _
    by_cases h : j = o + n
    · rw [h, imgByte_imgPut_same, if_pos (by omega), Nat.add_sub_cancel_left]
    · rw [imgByte_imgPut_other _ _ h]
      refine ih.trans (if_congr ?_ rfl rfl)
      omega

theorem mem_rectOffs (o : Nat) : o ∈ rectOffs s u ↔
    ∃ i j, i < u.w / 2 ∧ j < u.h ∧ o = (u.y0 + j) * (parN s 0x1300 / 2) + (u.x0 + 2 * i) / 2 := by
  simp only [rectOffs, upTo, List.mem_flatMap, List.mem_map, List.mem_range, imgOff]
  constructor
  · rintro ⟨j, hj, i, hi, rfl⟩
    exact ⟨i, j, hi, hj, rfl⟩
  · rintro ⟨i, j, hi, hj, rfl⟩
    exact ⟨j, hj, i, hi, rfl⟩

/-! ### The band (R571) -/

/-- The band depends on the temperature, not on what the display shows. -/
theorem bandNow_onDisp {f : DispSt → DispSt} (h : (f s.disp).hostTemp = s.disp.hostTemp) : bandNow (onDisp f s) = bandNow s := by
  have temp : panelTemp (onDisp f s) = panelTemp s := by
    unfold panelTemp
    rw [onDisp_disp, h]
    rfl
  have valid : tempValid (onDisp f s) = tempValid s := by
    unfold tempValid
    rw [temp]
    rfl
  unfold bandNow
  rw [valid]
  rfl

/-! ### What leaves the part -/

theorem outSent_send_panelFrame (n f : Nat) (d : Bool) (s : State) :
    outSent (send (.panelFrame n f d) s) = .panelFrame n f d :: outSent s := rfl

theorem outSent_onDisp (f : DispSt → DispSt) (s : State) : outSent (onDisp f s) = outSent s := rfl

theorem Reported.disp (a : Reported s t) : t.disp = s.disp := by rw [a.eq]

/-- What a display event records does not depend on the display. -/
theorem raise_recorder_onDisp (c k p q r : Nat) (f : DispSt → DispSt) (s : State) :
    (raise c k p q r (onDisp f s)).recorder = (raise c k p q r s).recorder := raise_recorder_congr (s := s) (t := onDisp f s) rfl rfl rfl c k p q r

/-! ### A frame (R570, R572) -/

/-- The display with a frame of update `u` begun in a band. -/
def frameBegun (u : DispUpd) (band : Nat) (d : DispSt) : DispSt :=
  { d with
    state := 3, frameLost := false, flag := updFlag u d.band d.frame
    bandChanged := d.bandChanged || decide (band ≠ d.band) }

theorem frameStart_spec (u : DispUpd) (s : State) : (frameStart u s).disp = frameBegun u (bandNow s).1 s.disp ∧
    outSent (frameStart u s) = .panelFrame u.num s.disp.frame false :: outSent s ∧
    (frameStart u s).recorder = if s.disp.bandChanged = false ∧ (bandNow s).1 ≠ s.disp.band then
      (raise 0x1313 123 u.num s.disp.band (bandNow s).1 s).recorder else s.recorder := by
  unfold frameStart frameBegun
  dsimp only
  generalize (bandNow s).1 = b
  by_cases hc : s.disp.bandChanged = false ∧ b ≠ s.disp.band
  · have a := reported_raise 0x1313 123 u.num s.disp.band b (onDisp (fun d => { d with bandChanged := true }) s)
    rw [if_pos hc, if_pos (by simp [hc.1, hc.2]), outSent_send_panelFrame, outSent_onDisp, a.out, outSent_onDisp]
    refine ⟨?_, ?_, raise_recorder_onDisp ..⟩
    · show ({ (raise _ _ _ _ _ _).disp with state := 3, frameLost := false, flag := _ } : DispSt) = _
      rw [a.disp, hc.1]
      simp [hc.2]
    · rw [a.disp]
      rfl
  · have same : (s.disp.bandChanged || decide (b ≠ s.disp.band)) = s.disp.bandChanged := by
      by_cases hb : b = s.disp.band
      · simp [hb]
      · simp [Bool.eq_true_of_not_eq_false fun h => hc ⟨h, hb⟩]
    rw [if_neg hc, if_neg (by simpa [and_comm] using hc), same]
    exact ⟨rfl, rfl, rfl⟩

/-! ### The end of an update (R570, R575, R577, R583) -/

theorem updEnd_spec (u : DispUpd) (outcome : Nat) (s : State) :
    (updEnd u outcome s).disp = { s.disp with cur := none, result := dispResult s.disp u outcome } ∧
    (updEnd u outcome s).recorder = (raise 0x1310 120 u.num (dispResult s.disp u outcome) (ontLo s) s).recorder ∧
    Reported (onDisp (fun d => { d with cur := none, result := dispResult s.disp u outcome }) s) (updEnd u outcome s) :=
  ⟨(reported_raise ..).disp, raise_recorder_onDisp .., reported_raise ..⟩

/-- The fields of DISP_UPD_RESULT (R583). -/
theorem dispResult_bits (d : DispSt) (u : DispUpd) {outcome : Nat} (ho : outcome < 8) (hb : d.band < 16) (hd : d.driven < 256) :
    bits (dispResult d u outcome) 0 3 = outcome ∧ bit (dispResult d u outcome) 3 = d.bandChanged ∧
    bit (dispResult d u outcome) 4 = d.noTemp ∧ bit (dispResult d u outcome) 5 = d.tempHigh ∧
    bit (dispResult d u outcome) 6 = d.asFull ∧ bit (dispResult d u outcome) 7 = u.clearing ∧
    bits (dispResult d u outcome) 8 4 = d.band ∧ bits (dispResult d u outcome) 16 8 = d.driven := by
  have h3 := b2n_le d.bandChanged
  have h4 := b2n_le d.noTemp
  have h5 := b2n_le d.tempHigh
  have h6 := b2n_le d.asFull
  have h7 := b2n_le u.clearing
  simp only [bits]
  refine ⟨?_, bit_of_div ?_, bit_of_div ?_, bit_of_div ?_, bit_of_div ?_, bit_of_div ?_, ?_, ?_⟩ <;>
  · rw [dispResult]
    omega

/-- The outcome alone needs no bounds. -/
theorem dispResult_outcome (d : DispSt) (u : DispUpd) {outcome : Nat} (ho : outcome < 8) : bits (dispResult d u outcome) 0 3 = outcome := by
  simp only [bits, dispResult]
  omega

theorem nextStart_idle (h : s.disp.queued = none) : nextStart s = s := by
  unfold nextStart
  rw [h]

/-- The display after the last frame of an update: SHOWN, what is known of it, and the result. -/
def updDone (s : State) (u : DispUpd) : DispSt :=
  let d := { s.disp with
    shown := shownTake s u
    shownKnown := if s.disp.updLost then false else s.disp.shownKnown || (u.full && wholePanel s u)
    clearDue := s.disp.clearDue && !(u.clearing && !s.disp.updLost)
    flag := s.disp.flag / 2 * 2 }
  { d with cur := none, result := dispResult d u (if s.disp.updLost then 2 else 0) }

theorem lastFrame_spec (hq : s.disp.queued = none) (hs : s.disp.stop = 0) :
    (lastFrame u s).disp = (if parN s 0x1307 = 0 then { updDone s u with state := 5, dscStep := 1 } else { updDone s u with state := 4 }) ∧
    (lastFrame u s).recorder = (raise 0x1310 120 u.num (updDone s u).result (ontLo s) s).recorder := by
  obtain ⟨disp, rec, rep⟩ := updEnd_spec u (if s.disp.updLost then 2 else 0) (onDisp (fun d => { d with
    shown := shownTake s u
    shownKnown := if s.disp.updLost then false else d.shownKnown || (u.full && wholePanel s u)
    clearDue := d.clearDue && !(u.clearing && !s.disp.updLost)
    flag := d.flag / 2 * 2 }) s)
  have hdisp : _ = updDone s u := disp
  have hpar := congrArg (fun w => parN w 0x1307) rep.eq
  rw [raise_recorder_onDisp] at rec
  unfold lastFrame
  dsimp only at hpar ⊢
  generalize updEnd u _ _ = w at *
  have hrec : w.recorder = (raise 0x1310 120 u.num (updDone s u).result (ontLo s) s).recorder := rec
  have hp : parN w 0x1307 = parN s 0x1307 := hpar
  have hq' : w.disp.queued = none := by rw [hdisp]; exact hq
  have hs' : w.disp.stop = 0 := by rw [hdisp]; exact hs
  rw [if_neg (by simp [hq']), hp]
  by_cases hh : parN s 0x1307 = 0
  · rw [if_pos (.inr hh), if_pos hh]
    exact ⟨by rw [← hdisp]; rfl, hrec⟩
  · rw [if_neg (by simp [hs', hh]), if_neg hh]
    exact ⟨by rw [← hdisp]; rfl, hrec⟩

/-! ### The discharge (R574, R576) -/

theorem dscEnter_rail {k r : Nat} (hk : 3 ≤ k) (hr : k + r = 6) : dscEnter k s = onDisp (fun d => { d with
    dscStep := k, good := d.good &&& (15 - 2 ^ r), dsc := d.dsc ||| 2 ^ r }) s := by
  have hrail : dscRail k = r := by unfold dscRail; omega
  unfold dscEnter
  simp only [if_neg (by omega : ¬ k = 2), if_pos (by omega : k < 7), hrail]

/-- The display when a discharge is over. -/
def discharged (d : DispSt) : DispSt := { d with dscStep := 0, dsc := 15, good := 0 }

theorem dscOver_idle (hr : s.disp.railFail = none) (hq : s.disp.stop = 0 → s.disp.queued = none) : dscOver s =
    onDisp (fun d => { discharged d with state := 1, dscStep := if s.disp.stop ≠ 0 then 7 else 0 }) s := by
  unfold dscOver
  simp only [onDisp_disp, hr]
  by_cases hs : s.disp.stop = 0
  · rw [if_neg (by simp [hs])]
    refine (nextStart_idle ?_).trans ?_
    · exact hq hs
    · simp only [hs]
      rfl
  · rw [if_pos hs]
    simp only [if_pos hs]
    rfl

theorem dscOver_failed {r c fb : Nat} (hr : s.disp.railFail = some (r, c, fb)) (hc : s.disp.cur = some u) (hs : s.disp.stop = 0)
    (hq : s.disp.queued = none) : let result := dispResult (discharged s.disp) u 1
    (dscOver s).disp = { discharged s.disp with
      cur := none, result, state := 6, railFail := none, shownKnown := if c = 1 then false else s.disp.shownKnown } ∧
    (dscOver s).recorder = (raise 0x1312 122 r c fb (raise 0x1310 120 u.num result (ontLo s) s)).recorder := by
  obtain ⟨disp, rec, rep⟩ := updEnd_spec u 1 (onDisp discharged s)
  rw [raise_recorder_onDisp] at rec
  generalize hw : updEnd u 1 (onDisp discharged s) = w at *
  have failed := reported_raise 0x1312 122 r c fb (onDisp (fun d => { d with
    state := 6, railFail := none, shownKnown := if c = 1 then false else d.shownKnown }) w)
  have shown := failed.disp
  simp only [onDisp_disp, disp] at shown
  have recorded : (raise 0x1312 122 r c fb (onDisp (fun d => { d with
      state := 6, railFail := none, shownKnown := if c = 1 then false else d.shownKnown }) w)).recorder =
      (raise 0x1312 122 r c fb (raise 0x1310 120 u.num (dispResult (discharged s.disp) u 1) (ontLo s) s)).recorder := by
    have htime : w.time = s.time := by rw [rep.eq]; rfl
    have hpower : w.power = s.power := by rw [rep.eq]; rfl
    rw [raise_recorder_onDisp]
    exact raise_recorder_congr (s := raise 0x1310 120 u.num (dispResult (discharged s.disp) u 1) (ontLo s) s)
      (by simpa using hpower) (by simpa using htime) rec ..
  have ended : dscOver s = (let v := raise 0x1312 122 r c fb (onDisp (fun d => { d with
      state := 6, railFail := none, shownKnown := if c = 1 then false else d.shownKnown }) w)
      if v.disp.stop ≠ 0 then onDisp (fun d => { d with dscStep := 7 }) v else nextStart v) := by
    rw [← hw]
    unfold dscOver
    simp only [onDisp_disp, hr, hc]
    rfl
  generalize raise 0x1312 122 r c fb (onDisp _ w) = v at *
  dsimp only at ended ⊢
  rw [ended, if_neg (by rw [shown]; exact not_not.mpr hs), nextStart_idle (by rw [shown]; exact hq)]
  exact ⟨shown, recorded⟩

/-! ### The end of a frame (R570, R574) -/

/-- The display with a driven frame counted. -/
def frameCounted (d : DispSt) : DispSt := { d with frameCnt := satInc 32 d.frameCnt, driven := d.driven + 1 }

theorem frameEnd_none (h : s.disp.cur = none ∨ s.disp.state ≠ 3) : frameEnd s = s := by
  unfold frameEnd
  cases hc : s.disp.cur with
  | none => rfl
  | some u => exact if_pos (h.resolve_left (by simp [hc]))

section
variable (hc : s.disp.cur = some u) (hs : s.disp.state = 3)
include hc hs

theorem frameEnd_eq : frameEnd s = if s.disp.railFail.isSome then dischargeStart (onDisp frameCounted s)
    else if s.disp.frame + 1 < s.disp.frames then frameStart u (onDisp (fun d => { frameCounted d with frame := d.frame + 1 }) s)
    else lastFrame u (onDisp frameCounted s) := by
  unfold frameEnd
  simp only [hc, hs, ne_eq, not_true_eq_false, if_false]
  rfl

theorem frameEnd_failed (hr : s.disp.railFail.isSome = true) : frameEnd s = dischargeStart (onDisp frameCounted s) := by
  rw [frameEnd_eq hc hs, if_pos hr]

theorem frameEnd_next (hr : s.disp.railFail = none) (hf : s.disp.frame + 1 < s.disp.frames) :
    frameEnd s = frameStart u (onDisp (fun d => { frameCounted d with frame := d.frame + 1 }) s) := by
  rw [frameEnd_eq hc hs, if_neg (by simp [hr]), if_pos hf]

theorem frameEnd_last (hr : s.disp.railFail = none) (hf : s.disp.frames = s.disp.frame + 1) :
    frameEnd s = lastFrame u (onDisp frameCounted s) := by
  rw [frameEnd_eq hc hs, if_neg (by simp [hr]), if_neg (by omega)]

end

theorem railGood_none (h : s.disp.powerStep < 2 ∨ 5 < s.disp.powerStep) : railGood s = s := if_pos h

theorem railTimeout_none (fb : Nat) (h : s.disp.powerStep < 2 ∨ 5 < s.disp.powerStep) : railTimeout fb s = s := if_pos h

theorem vcomSettled_none (h : s.disp.powerStep ≠ 6 ∨ s.disp.cur = none) : vcomSettled s = s := by
  unfold vcomSettled
  cases hc : s.disp.cur with
  | none => rfl
  | some u => exact if_neg (h.resolve_right (by simp [hc]))

theorem vcomSettled_start (hp : s.disp.powerStep = 6) (hc : s.disp.cur = some u) :
    vcomSettled s = frameStart u (onDisp (fun d => { d with powerStep := 0 }) s) := by
  unfold vcomSettled
  rw [hc]
  exact if_pos hp

theorem frameFetchLost_spec (hc : s.disp.cur = some u) (hs : s.disp.state = 3) (hl : s.disp.frameLost = false) :
    (frameFetchLost s).disp = { s.disp with
      frameLost := true, updLost := true, lostCnt := satInc 32 s.disp.lostCnt, shownKnown := false } := by
  have lost : frameFetchLost s = raise 0x1314 124 u.num s.disp.frame 0 (onDisp (fun d => { d with
      frameLost := true, updLost := true, lostCnt := satInc 32 d.lostCnt, shownKnown := false }) s) := by
    unfold frameFetchLost
    rw [hc]
    exact if_neg (by simp [hs, hl])
  rw [lost]
  exact (reported_raise ..).disp

theorem exec_displayFrameEnd (h : frameEnd s = t) : exec .displayFrameEnd s = .next t := congrArg _ h

theorem exec_vcomSettleDone (h : vcomSettled s = t) : exec .vcomSettleDone s = .next t := congrArg _ h

theorem exec_railLost {r fb : Nat} (h : railLost r fb s = t) : exec (.railLost r fb) s = .next t := congrArg _ h

theorem exec_dischargeStepDone (h : dscNext s = t) : exec .dischargeStepDone s = .next t := congrArg _ h

/-! ### A rail lost (R574) -/

section
variable {r fb : Nat} (h : r < 4) (hg : bit s.disp.good r = true)
include h hg

theorem railLost_outside (hc : s.disp.cur = none ∨ s.disp.railFail ≠ none) :
    railLost r fb s = onDisp (fun d => { d with good := d.good &&& (15 - 2 ^ r) }) s := by
  unfold railLost
  dsimp only
  rw [if_neg (by simp [hg]; omega)]
  exact if_pos (hc.imp (by simp) Option.isSome_iff_ne_none.mpr)

theorem railLost_during (hc : s.disp.cur ≠ none) (hr : s.disp.railFail = none) : railLost r fb s =
    (if s.disp.powerStep = 0 then id else dischargeStart) (onDisp (fun d => { d with
      railFail := some (r, 1, fb), powerStep := 0, good := d.good &&& (15 - 2 ^ r) }) s) := by
  unfold railLost
  dsimp only
  rw [if_neg (by simp [hg]; omega)]
  refine (if_neg ?_).trans ?_
  · simp [hc, hr]
  · split <;> rfl

end

theorem imgByte_shownTake_clearing (h : u.clearing = true) (o : Nat) : imgByte (shownTake s u) o = 255 := by
  rw [shownTake, if_pos h]
  rfl

theorem imgByte_shownTake (h : u.clearing = false) (o : Nat) : imgByte (shownTake s u) o =
    if o ∈ rectOffs s u then imgByte s.disp.pend o else imgByte s.disp.shown o := by
  rw [shownTake, if_neg (by simp [h])]
  exact imgByte_foldl_imgPut ..

theorem exec_dischargeStepDone_move (h : ¬ (s.disp.dscStep = 0 ∨ 7 ≤ s.disp.dscStep)) (h6 : s.disp.dscStep ≠ 6) :
    exec .dischargeStepDone s = .next (dscEnter (s.disp.dscStep + 1) s) := by
  have moved : dscNext s = dscEnter (s.disp.dscStep + 1) s := by rw [dscNext, if_neg h, if_neg h6]
  exact congrArg _ moved

theorem exec_dischargeStepDone_end (h : s.disp.dscStep = 6) : exec .dischargeStepDone s = .next (dscOver s) := by
  have moved : dscNext s = dscOver s := by rw [dscNext, if_neg (by omega), if_pos h]
  exact congrArg _ moved

end

/-- Settles O60: a frame's end by what is left of the update, the power-up, the failures and the discharge by their step. That a
rail lost in the power-up discharges at once and that a frame boundary lies at each frame's start are DEDUCED in log 45. -/
theorem displayEngine : Obligations.DisplayEngine := by
  unfold Obligations.DisplayEngine
  refine ⟨fun s h => ?noFrame, fun s u d hd hc hs hr hf => ?frame, fun s u hc hs hr => ?failed, fun s u d hd hc hs hr hf hq hst hb hdr => ?last,
    fun s h => ?noStep, fun s k hk h2 h5 => ?good, fun s h => ?noSettle, fun s u hp hc => ?settled, fun s k fb hk h2 h5 => ?timeout,
    fun s r fb => ⟨fun h => ?noRail, fun h hg hc => ?lostIdle, fun h hg hc hr hp => ?lostFrame, fun h hg hc hr hp => ?lostPowerUp⟩,
    fun s => ?hold, fun s => ⟨fun h => ?noDischarge, fun h => ?vcom, fun k r hk h2 h5 hr => ?rail, fun h hr hst hq => ?idle,
      fun h hr hst => ?stops⟩, fun s u r c fb h hr hc hst hq => ?railFailed, fun s fb => ⟨fun h => ?noSlow, fun h3 h6 => ?slow⟩,
    fun s u a hi ho hc hs hl => ?fetch⟩
  case noFrame =>
    exact congrArg _ (frameEnd_none h)
  case frame =>
    subst hd
    obtain ⟨disp, out, rec⟩ := frameStart_spec u (onDisp (fun d => { frameCounted d with frame := d.frame + 1 }) s)
    rw [bandNow_onDisp rfl] at disp rec
    have run : exec .displayFrameEnd s = .next _ := exec_displayFrameEnd (frameEnd_next hc hs hr hf)
    refine ⟨_, run, disp.trans ?_, out, rec.trans ?_⟩
    · simp only [frameBegun, frameCounted, onDisp_disp, hs]
    · rw [raise_recorder_onDisp]
      rfl
  case failed =>
    exact congrArg _ (frameEnd_failed hc hs hr)
  case last =>
    subst hd
    have run : exec .displayFrameEnd s = .next _ := exec_displayFrameEnd (frameEnd_last hc hs hr hf)
    obtain ⟨disp, rec⟩ := lastFrame_spec (s := onDisp frameCounted s) (u := u) hq hst
    rw [raise_recorder_onDisp] at rec
    have hres := dispResult_bits (outcome := if s.disp.updLost then 2 else 0) (frameCounted s.disp) u
      (by split <;> omega) hb (Nat.succ_lt_succ hdr)
    have hdone : (lastFrame u (onDisp frameCounted s)).disp = { updDone (onDisp frameCounted s) u with
        state := if parN s 0x1307 = 0 then 5 else 4, dscStep := if parN s 0x1307 = 0 then 1 else s.disp.dscStep } := by
      refine disp.trans ?_
      show (if parN s 0x1307 = 0 then _ else _) = _
      split <;> rfl
    clear disp
    generalize lastFrame u (onDisp frameCounted s) = t at *
    refine ⟨t, run, ?_⟩
    obtain ⟨outcome, band3, noTemp, tempHigh, asFull, clearing, band, driven⟩ := hres
    have htaken := fun o => mem_rectOffs (s := onDisp frameCounted s) (u := u) o
    rw [hdone]
    refine ⟨rfl, rfl, ?flag, rfl, fun hcl => ?cleared, fun hcl => ⟨fun i j hi hj => ?inside, fun o ho => ?outside⟩, ?known, ?clearDue,
      rfl, rfl, outcome, band3, noTemp, tempHigh, asFull, clearing, band, driven, rec⟩
    case flag =>
      show bit (s.disp.flag / 2 * 2) 0 = false
      simp [bit]
    case cleared => exact imgByte_shownTake_clearing (s := onDisp frameCounted s) hcl
    case inside =>
      exact (imgByte_shownTake (s := onDisp frameCounted s) hcl _).trans (if_pos ((htaken _).mpr ⟨i, j, hi, hj, rfl⟩))
    case outside =>
      refine (imgByte_shownTake (s := onDisp frameCounted s) hcl _).trans (if_neg fun hm => ?_)
      obtain ⟨i, j, hi, hj, e⟩ := (htaken o).mp hm
      exact ho i j hi hj e
    case known =>
      show (if s.disp.updLost then false else s.disp.shownKnown || (u.full && wholePanel s u)) = _
      cases s.disp.updLost <;> rfl
    case clearDue =>
      show (s.disp.clearDue && !(u.clearing && !s.disp.updLost)) = _
      cases u.clearing <;> cases s.disp.updLost <;> rfl
  case noStep =>
    exact ⟨congrArg _ (railGood_none h), fun fb => congrArg _ (railTimeout_none fb h)⟩
  case good =>
    subst hk
    exact congrArg _ (if_neg (by omega))
  case noSettle =>
    exact congrArg _ (vcomSettled_none h)
  case settled =>
    obtain ⟨disp, out, -⟩ := frameStart_spec u (onDisp (fun d => { d with powerStep := 0 }) s)
    rw [bandNow_onDisp rfl] at disp
    have run : exec .vcomSettleDone s = .next _ := exec_vcomSettleDone (vcomSettled_start hp hc)
    exact ⟨_, run, disp, out⟩
  case timeout =>
    subst hk
    refine ⟨_, ?_, rfl⟩
    have fails : railTimeout fb s = _ := (if_neg (by omega)).trans (dscEnter_rail (k := 8 - s.disp.powerStep)
      (r := s.disp.powerStep - 2) (by omega) (by omega))
    exact congrArg _ fails
  case noRail =>
    exact congrArg _ (if_pos (by simpa using h))
  case lostIdle =>
    exact exec_railLost (railLost_outside h hg hc)
  case lostFrame =>
    refine exec_railLost ((railLost_during h hg hc hr).trans ?_)
    rw [if_pos hp, ← hp]
    rfl
  case lostPowerUp =>
    refine exec_railLost ((railLost_during h hg hc hr).trans ?_)
    rw [if_neg hp]
    rfl
  case hold =>
    rfl
  case noDischarge =>
    exact exec_dischargeStepDone (if_pos h)
  case vcom =>
    rw [exec_dischargeStepDone_move (by omega) (by omega), h]
    rfl
  case rail =>
    rw [exec_dischargeStepDone_move (by omega) (by omega), hk, dscEnter_rail (k := k + 1) (r := r) (by omega) (by omega)]
    rfl
  case idle =>
    rw [exec_dischargeStepDone_end h, dscOver_idle hr (fun _ => hq), hst]
    rfl
  case stops =>
    rw [exec_dischargeStepDone_end h, dscOver_idle hr (fun h0 => absurd h0 hst), if_pos hst]
    rfl
  case railFailed =>
    obtain ⟨disp, rec⟩ := dscOver_failed (u := u) hr hc hst hq
    refine ⟨_, exec_dischargeStepDone_end h, ?_⟩
    rw [rec, disp]
    refine ⟨rfl, rfl, rfl, rfl, rfl, dispResult_outcome _ _ (by omega), rfl, ?_, rfl⟩
    by_cases h1 : c = 1 <;> simp [h1]
  case noSlow =>
    exact congrArg _ (if_neg (by omega))
  case slow =>
    exact congrArg _ (if_pos ⟨h3, h6⟩)
  case fetch =>
    have run : exec (.dramError 9 a) s = .next (raiseAddr 0x0140 9 a (dramLost 9 s)) := congrArg _ (if_pos (by simp [hi, ho]))
    refine ⟨_, run, (reported_raise ..).disp.trans ?_⟩
    exact frameFetchLost_spec hc hs hl

end Sys2Proof.Machine
end

section
/-! SUPPORT. The display commands: their payloads, the checks of DISP_IMAGE_WRITE, DISP_TEMP_SET and DISP_UPDATE, and the start of an
update (R567 to R573, R578). -/

namespace Sys2Proof.Machine

/-! ### What the display's rules read of the part -/

/-- Two states agree in what the display's rules read. -/
structure SamePanel (t s : State) : Prop where
  disp : t.disp = s.disp
  params : t.host.params = s.host.params
  tables : t.host.tables = s.host.tables
  units : t.host.units = s.host.units
  time : t.time = s.time
  adc : t.adc = s.adc

theorem samePanel_takenState (cmd : Nat) (m : Mail) (s : State) : SamePanel (takenState cmd m s) s where
  disp := by rw [takenState_frame]; exact ring_disp cmd m s
  params := takenState_params ..
  tables := by rw [takenState_host]; exact ring_host_tables cmd m s
  units := by rw [takenState_host]; exact ring_host_units cmd m s
  time := takenState_time cmd m s
  adc := by rw [takenState_frame]; exact ring_adc cmd m s

section
variable {s t : State} (a : SamePanel t s)
include a

theorem SamePanel.enabled_eq (k n : Nat) : enabled t k n = enabled s k n := by
  rw [enabled, enabled, unitSt, unitSt, a.units]

theorem SamePanel.par_eq (id : Nat) : par t id = par s id := by
  rw [par, par, a.params]

theorem SamePanel.parN_eq (id : Nat) : parN t id = parN s id := congrArg Int.toNat (a.par_eq id)

theorem SamePanel.tabN_eq (id off n : Nat) : tabN t id off n = tabN s id off n := by
  rw [tabN, tabN, tab, tab, a.tables]

theorem SamePanel.frameTime_eq : frameTime t = frameTime s := by
  simp only [frameTime, lineTime, a.parN_eq]

theorem SamePanel.fFull_eq (b : Nat) : fFull t b = fFull s b := a.tabN_eq ..

theorem SamePanel.fPart_eq (b : Nat) : fPart t b = fPart s b := a.tabN_eq ..

theorem SamePanel.bandNow_eq : bandNow t = bandNow s := by
  have tabS_eq (id off n : Nat) : tabS t id off n = tabS s id off n := by rw [tabS, tabS, tab, tab, a.tables]
  have temp : panelTemp t = panelTemp s := by
    simp only [panelTemp, a.par_eq, a.parN_eq, a.disp, sourceValue, a.adc]
  have valid : tempValid t = tempValid s := by
    simp only [tempValid, temp, a.parN_eq, a.time]
  simp only [bandNow, valid, a.parN_eq, tabS_eq]

end

/-! ### DISP_IMAGE_WRITE (R567, R568) -/

section
variable {s : State} {p d : Bytes} {x y n : Nat}

theorem imageWrite_disabled (hl : p.length = 8 + byteField p 4 2 / 2) (h8 : 8 ≤ p.length) (hr : byteField p 6 2 = 0)
    (he : enabled s 0x13 0 = false) : imageWrite p s = refuse s 0x1303 := by
  unfold imageWrite dispOn
  dsimp only
  rw [if_neg (by omega), if_pos (by simp [he])]

/-- The payload of a DISP_IMAGE_WRITE. -/
def imagePayload (x y n : Nat) (d : Bytes) : Bytes := leBytes 2 x ++ leBytes 2 y ++ leBytes 2 n ++ zeros 2 ++ d

theorem imagePayload_fields (hx : x < 65536) (hy : y < 65536) (hn : n < 65536) : byteField (imagePayload x y n d) 0 2 = x ∧
    byteField (imagePayload x y n d) 2 2 = y ∧ byteField (imagePayload x y n d) 4 2 = n ∧ byteField (imagePayload x y n d) 6 2 = 0 := by
  simp only [imagePayload, List.append_assoc, byteField_skip, byteField_front, byteField_zeros, length_leBytes, le_refl, Nat.sub_self,
    Nat.reduceLeDiff, Nat.reduceSub]
  exact ⟨by omega, by omega, by omega, trivial⟩

theorem byteField_one {d : Bytes} {i : Nat} (hi : i < d.length) : byteField d i 1 = (nth 0 d i).toNat := by
  rw [byteField, List.drop_eq_getElem_cons hi, nth_eq, List.getElem?_eq_getElem hi]
  simp only [List.take_succ_cons, List.take_zero, leNat, Option.getD_some, Nat.mul_zero, Nat.add_zero]

theorem imagePayload_byte {i : Nat} (hi : i < d.length) : byteField (imagePayload x y n d) (8 + i) 1 = (nth 0 d i).toNat := by
  rw [imagePayload, byteField_skip _ _ _ _ (by simp), ← byteField_one hi]
  congr 1
  simp

section
variable (hx : x < 65536) (hy : y < 65536) (hn : n < 65536) (hd : d.length = n / 2) (he : enabled s 0x13 0 = true)
include hx hy hn hd he

theorem imageWrite_eq : imageWrite (imagePayload x y n d) s =
    if x % 2 = 1 ∨ n % 2 = 1 ∨ n < 2 ∨ 1920 < n ∨ parN s 0x1300 < x + n ∨ parN s 0x1301 ≤ y then refuse s 0x1305
    else if (match s.disp.cur with | some u => runOverlaps x y n u | none => false) then refuse s 0x1301
    else done (onDisp (fun e => { e with
      pend := (upTo (n / 2)).foldl (fun l i => imgPut (imgOff s x y + i) (byteField (imagePayload x y n d) (8 + i) 1) l) e.pend }) s) [] := by
  obtain ⟨fx, fy, fn, fr⟩ := imagePayload_fields (d := d) hx hy hn
  have hlen : (imagePayload x y n d).length = 8 + n / 2 := by simp [imagePayload, hd]; omega
  unfold imageWrite dispOn
  dsimp only
  rw [fx, fy, fn, fr, if_neg (by omega), if_neg (by simp [he])] <;> rfl

theorem imageWrite_range (h : x % 2 = 1 ∨ n % 2 = 1 ∨ n < 2 ∨ 1920 < n ∨ parN s 0x1300 < x + n ∨ parN s 0x1301 ≤ y) :
    imageWrite (imagePayload x y n d) s = refuse s 0x1305 := by
  rw [imageWrite_eq hx hy hn hd he, if_pos h]

section
variable (h : ¬ (x % 2 = 1 ∨ n % 2 = 1 ∨ n < 2 ∨ 1920 < n ∨ parN s 0x1300 < x + n ∨ parN s 0x1301 ≤ y))
include h

theorem imageWrite_overlap {u : DispUpd} (hc : s.disp.cur = some u) (ho : runOverlaps x y n u = true) :
    imageWrite (imagePayload x y n d) s = refuse s 0x1301 := by
  rw [imageWrite_eq hx hy hn hd he, if_neg h, hc]
  exact if_pos ho

theorem imageWrite_done (ho : ∀ u, s.disp.cur = some u → runOverlaps x y n u = false) : ∃ l,
    imageWrite (imagePayload x y n d) s = done (onDisp (fun e => { e with pend := l }) s) [] ∧
    ∀ j, imgByte l j = if imgOff s x y ≤ j ∧ j < imgOff s x y + n / 2 then (nth 0 d (j - imgOff s x y)).toNat
      else imgByte s.disp.pend j := by
  refine ⟨(upTo (n / 2)).foldl (fun l i => imgPut (imgOff s x y + i) (byteField (imagePayload x y n d) (8 + i) 1) l) s.disp.pend, ?_,
    fun j => ?_⟩
  · rw [imageWrite_eq hx hy hn hd he, if_neg h]
    refine (if_neg ?_).trans ?_
    · split
      · next u hu => simp [ho u hu]
      · simp
    · rfl
  · rw [imgByte_run (imgOff s x y) (fun i => byteField (imagePayload x y n d) (8 + i) 1)]
    split
    · next hj => exact imagePayload_byte (by omega)
    · rfl

end

end

end

/-! ### DISP_TEMP_SET (R571) -/

section
variable {s : State} {p : Bytes}

theorem dispTempSet_disabled (hl : p.length = 4) (hr : byteField p 2 2 = 0) (he : enabled s 0x13 0 = false) :
    dispTempSet p s = refuse s 0x1303 := by
  unfold dispTempSet dispOn
  rw [if_neg (by omega), if_pos (by simp [he])]

theorem dispTempSet_eq {v : Int} (hv : -32768 ≤ v) (hv' : v < 32768) (he : enabled s 0x13 0 = true) :
    dispTempSet (leIntBytes 2 v ++ zeros 2) s = if par s 0x130A = 1 then refuse s 0x1306
      else done (onDisp (fun d => { d with hostTemp := some (v, s.time.ont) }) s) [] := by
  have field : byteFieldS (leIntBytes 2 v ++ zeros 2) 0 2 = v := by
    simp only [byteFieldS, leIntBytes, byteField_front, signExtend]
    omega
  have rest : byteField (leIntBytes 2 v ++ zeros 2) 2 2 = 0 := by
    rw [leIntBytes, byteField_skip _ _ _ _ (by simp)]
    rfl
  unfold dispTempSet dispOn
  rw [field, rest, if_neg (by simp [leIntBytes]), if_neg (by simp [he])]

/-! ### The band (R571) -/

theorem bandNow_none (h : tempValid s = none) : bandNow s = (parN s 0x1310, false, true) := by
  unfold bandNow
  rw [h]

theorem bandNow_found {v : Int} {b : Nat} (h : tempValid s = some v) (hb : b < parN s 0x130F) (hv : v ≤ tabS s 0x7800 (2 * b) 2)
    (hlow : ∀ j < b, tabS s 0x7800 (2 * j) 2 < v) : bandNow s = (b, false, false) := by
  have found : (upTo (parN s 0x130F)).find? (fun b => decide (v ≤ tabS s 0x7800 (2 * b) 2)) = some b := by
    rw [upTo, List.find?_range_eq_some]
    exact ⟨decide_eq_true hv, List.mem_range.mpr hb, fun j hj => by simpa using hlow j hj⟩
  unfold bandNow
  rw [h]
  dsimp only
  rw [found]

theorem bandNow_high {v : Int} (h : tempValid s = some v) (hlow : ∀ j < parN s 0x130F, tabS s 0x7800 (2 * j) 2 < v) :
    bandNow s = (parN s 0x130F - 1, true, false) := by
  have found : (upTo (parN s 0x130F)).find? (fun b => decide (v ≤ tabS s 0x7800 (2 * b) 2)) = none := by
    rw [upTo, List.find?_eq_none]
    intro j hj
    have := hlow j (List.mem_range.mp hj)
    simpa using this
  unfold bandNow
  rw [h]
  dsimp only
  rw [found]

theorem tempValid_host {v : Int} {a : Nat} (hp : par s 0x130A = 0) (h : s.disp.hostTemp = some (v, a)) :
    tempValid s = if s.time.ont ≤ a + parN s 0x130E * 1000000000 then some v else none := by
  unfold tempValid panelTemp
  rw [if_pos hp, h]

end

/-! ### DISP_UPDATE (R569, R570, R578) -/

section
variable {s : State} {p : Bytes} {mode x0 y0 w h : Nat}

/-- The fields of a DISP_UPDATE. -/
structure UpdReq (p : Bytes) (mode x0 y0 w h : Nat) : Prop where
  length : p.length = 12
  mode : byteField p 0 1 = mode
  reserved : byteField p 1 3 = 0
  x0 : byteField p 4 2 = x0
  y0 : byteField p 6 2 = y0
  w : byteField p 8 2 = w
  h : byteField p 10 2 = h

theorem updReq_bytes (hm : mode < 256) (hx : x0 < 65536) (hy : y0 < 65536) (hw : w < 65536) (hh : h < 65536) :
    UpdReq (leBytes 1 mode ++ zeros 3 ++ leBytes 2 x0 ++ leBytes 2 y0 ++ leBytes 2 w ++ leBytes 2 h) mode x0 y0 w h := by
  constructor <;>
    simp only [List.append_assoc, byteField_skip, byteField_front, byteField_whole, byteField_zeros, length_leBytes, length_zeros,
      List.length_append, le_refl, Nat.sub_self, Nat.reduceLeDiff, Nat.reduceSub, Nat.reduceAdd]
  all_goals omega

/-- The rectangle is in range (R569). -/
def RectOk (s : State) (mode x0 y0 w h : Nat) : Prop :=
  8 ≤ w ∧ 8 ≤ h ∧ x0 + w ≤ parN s 0x1300 ∧ y0 + h ≤ parN s 0x1301 ∧ x0 % 8 = 0 ∧ w % 8 = 0 ∧ mode ≤ 1

theorem dispUpdate_disabled (hl : p.length = 12) (he : enabled s 0x13 0 = false) : dispUpdate p s = refuse s 0x1303 := by
  unfold dispUpdate dispOn
  dsimp only
  rw [if_neg (by omega), if_pos (by simp [he])]

section
variable (q : UpdReq p mode x0 y0 w h) (he : enabled s 0x13 0 = true)
include q he

/-- The update that a DISP_UPDATE asks for. -/
def asked (s : State) (mode x0 y0 w h : Nat) : DispUpd :=
  { num := (s.disp.lastNum + 1) % 2 ^ 32, full := decide (mode = 0), x0, y0, w, h }

omit he in
theorem updFieldsOk_iff : updFieldsOk s p = true ↔ RectOk s mode x0 y0 w h := by
  obtain ⟨-, hmode, hres, hx, hy, hw, hh⟩ := q
  unfold updFieldsOk RectOk
  simp only [hmode, hres, hx, hy, hw, hh, Bool.and_eq_true, decide_eq_true_eq, beq_iff_eq, and_assoc, and_true]

theorem dispUpdate_range (hr : ¬ RectOk s mode x0 y0 w h) : dispUpdate p s = refuse s 0x1305 := by
  have bad : (!updFieldsOk s p) = true := by
    rw [Bool.not_eq_true', ← Bool.not_eq_true, updFieldsOk_iff q]
    exact hr
  obtain ⟨hlen, -⟩ := q
  unfold dispUpdate dispOn
  dsimp only
  rw [if_neg (by omega), if_neg (by simp [he]), if_pos bad]

/-- Behind the range come what a PARTIAL update needs, the rate, and the one that waits (R569). -/
theorem dispUpdate_eq (hr : RectOk s mode x0 y0 w h) : dispUpdate p s =
    if mode = 1 ∧ (s.disp.shownKnown = false ∨ s.disp.clearDue = true) then refuse s 0x1306
    else if 128 * frameTime s < (mode + 1) * (w * h * 1000) then refuse s 0x1313
    else if s.disp.queued.isSome then refuse s 0x1301
    else done (updAccept (asked s mode x0 y0 w h) s) (leBytes 4 (asked s mode x0 y0 w h).num ++
      [if (updAccept (asked s mode x0 y0 w h) s).disp.queued.isSome then 1 else 0]) := by
  have ok := (updFieldsOk_iff q).mpr hr
  obtain ⟨hlen, hmode, hres, hx, hy, hw, hh⟩ := q
  obtain ⟨-, -, -, -, -, -, hm⟩ := hr
  unfold dispUpdate dispOn rateOk asked
  dsimp only
  rw [hmode, hx, hy, hw, hh, ok, if_neg (by omega), if_neg (by simp [he]), if_neg (by decide)]
  generalize w * h = area
  obtain rfl | rfl : mode = 0 ∨ mode = 1 := by omega
  · exact if_congr (by simp) rfl (if_congr (by simp) rfl rfl)
  · exact if_congr (by simp) rfl (if_congr (by simp; omega) rfl rfl)

end

/-! ### An accepted update starts or waits (R570, R573, R578) -/

/-- The display that takes update `u` and starts it in a band. -/
def updBegun (s : State) (u : DispUpd) (b : Nat) (hi no : Bool) (d : DispSt) : DispSt :=
  let asFull := !u.full && (fPart s b == 0 || !s.disp.shownKnown)
  { d with
    cur := some u, updNum := u.num, rect := (u.x0, u.y0, u.w, u.h), band := b, noTemp := no, tempHigh := hi, asFull
    bandChanged := false, frame := 0, frames := if u.full || asFull then fFull s b else fPart s b, driven := 0
    wf := wfTable s b (u.full || asFull), frameLost := false, updLost := false, railFail := none, flag := updFlag u b 0 }

section
variable {u : DispUpd} {b : Nat} {hi no : Bool} (hb : bandNow s = (b, hi, no))
include hb

theorem updStart_powerUp (h : s.disp.state ≠ 3) (h' : s.disp.state ≠ 4) : updStart u s = onDisp (fun d => { updBegun s u b hi no d with
    state := if s.disp.state = 6 then 6 else 2, powerStep := 2, vcomSet := 0, dsc := 0 }) s := by
  unfold updStart
  rw [hb]
  dsimp only
  rw [if_neg (by simp [h, h'])]
  rfl

theorem updStart_holding (h : s.disp.state = 4) : updStart u s = frameStart u (onDisp (updBegun s u b hi no) s) := by
  unfold updStart
  rw [hb]
  dsimp only
  rw [if_pos (by simp [h])]
  rfl

end

theorem updAccept_waits {u : DispUpd} (h : s.disp.cur.isSome = true ∨ s.disp.state = 5 ∨ s.disp.state = 2 ∨ s.disp.stop ≠ 0) :
    updAccept u s = onDisp (fun d => { d with lastNum := u.num, queued := some u }) s := by
  unfold updAccept
  refine if_neg ?_
  simp only [onDisp_disp, Bool.and_eq_true, Bool.or_eq_true, beq_iff_eq, ← Option.not_isSome]
  rcases h with h | h | h | h
  · simp [h]
  · simp [h]
  · simp [h]
  · simp [h]

theorem updAccept_starts {u : DispUpd} (hst : s.disp.stop = 0) (hc : s.disp.cur = none) (hs : s.disp.state = 1 ∨ s.disp.state = 4 ∨ s.disp.state = 6) :
    updAccept u s = nextStart (onDisp (fun d => { d with lastNum := u.num, queued := some u }) s) := by
  unfold updAccept
  exact if_pos (by simp [hst, hc, hs, or_assoc])

theorem nextStart_queued {u : DispUpd} (hq : s.disp.queued = some u) (hc : s.disp.clearDue = false) :
    nextStart s = updStart u (onDisp (fun d => { d with queued := none }) s) := by
  unfold nextStart
  rw [hq]
  exact if_neg (by simp [hc])

theorem nextStart_clearing {u : DispUpd} (hq : s.disp.queued = some u) (hc : s.disp.clearDue = true) : nextStart s = clearStart s := by
  unfold nextStart
  rw [hq]
  exact if_pos hc

theorem updAccept_begins {u : DispUpd} (hst : s.disp.stop = 0) (hc : s.disp.cur = none)
    (hs : s.disp.state = 1 ∨ s.disp.state = 4 ∨ s.disp.state = 6) (hcl : s.disp.clearDue = false) :
    updAccept u s = updStart u (onDisp (fun d => { d with lastNum := u.num, queued := none }) s) := by
  rw [updAccept_starts hst hc hs]
  refine (nextStart_queued (u := u) ?_ ?_).trans rfl
  · rfl
  · exact hcl

/-- A frame that begins in the band of its update flags nothing. -/
theorem frameStart_sameBand {u : DispUpd} (h : (bandNow s).1 = s.disp.band) : frameStart u s =
    send (.panelFrame u.num s.disp.frame false)
      (onDisp (fun d => { d with state := 3, frameLost := false, flag := updFlag u d.band d.frame }) s) := by
  unfold frameStart
  simp [h]

/-- The state in which an accepted update that starts has been taken from the queue. -/
def updTaken (u : DispUpd) (s : State) : State := onDisp (fun d => { d with lastNum := u.num, queued := none }) s

section
variable {u : DispUpd} {b : Nat} {hi no : Bool} (hst : s.disp.stop = 0) (hc : s.disp.cur = none) (hcl : s.disp.clearDue = false)
  (hb : bandNow s = (b, hi, no))
include hst hc hcl hb

/-- With the rails down an accepted update starts the power-up (R573). -/
theorem updAccept_powerUp (hs : s.disp.state = 1 ∨ s.disp.state = 6) : updAccept u s =
    onDisp (fun d => { updBegun (updTaken u s) u b hi no d with
      state := if s.disp.state = 6 then 6 else 2, powerStep := 2, vcomSet := 0, dsc := 0 }) (updTaken u s) := by
  rw [updAccept_begins hst hc (by omega) hcl]
  refine updStart_powerUp ((bandNow_onDisp ?_).trans hb) (show s.disp.state ≠ 3 by omega) (show s.disp.state ≠ 4 by omega)
  rfl

/-- From HOLDING an accepted update starts with its first frame (R570, R575). -/
theorem updAccept_holding (hs : s.disp.state = 4) : updAccept u s = send (.panelFrame u.num 0 false)
    (onDisp (fun d => { d with state := 3, frameLost := false, flag := updFlag u d.band d.frame })
      (onDisp (updBegun (updTaken u s) u b hi no) (updTaken u s))) := by
  have band : bandNow (updTaken u s) = (b, hi, no) := (bandNow_onDisp rfl).trans hb
  have begun : bandNow (onDisp (updBegun (updTaken u s) u b hi no) (updTaken u s)) = (b, hi, no) := (bandNow_onDisp rfl).trans band
  rw [updAccept_begins hst hc (by omega) hcl]
  refine (updStart_holding (s := updTaken u s) band hs).trans ?_
  refine (frameStart_sameBand ?_).trans rfl
  rw [begun]
  rfl

/-- What an update that starts has latched, and what leaves the part (R570, R571). -/
theorem updAccept_started (hs : s.disp.state = 1 ∨ s.disp.state = 4 ∨ s.disp.state = 6) :
    let t := updAccept u s
    let full := !u.full && (fPart s b == 0 || !s.disp.shownKnown)
    t.disp.cur = some u ∧ t.disp.queued = none ∧ t.disp.updNum = u.num ∧ t.disp.rect = (u.x0, u.y0, u.w, u.h) ∧ t.disp.band = b ∧
    t.disp.tempHigh = hi ∧ t.disp.noTemp = no ∧ t.disp.asFull = full ∧ t.disp.frame = 0 ∧ t.disp.driven = 0 ∧
    t.disp.flag = updFlag u b 0 ∧ t.disp.frames = (if u.full || full then fFull s b else fPart s b) ∧ t.disp.pend = s.disp.pend ∧
    t.disp.shown = s.disp.shown ∧ t.disp.shownKnown = s.disp.shownKnown ∧ t.host.params = s.host.params ∧
    (s.disp.state ≠ 4 → t.disp.powerStep = 2 ∧ t.disp.vcomSet = 0 ∧ t.disp.dsc = 0 ∧ t.host.sent = s.host.sent ∧
      t.disp.state = if s.disp.state = 6 then 6 else 2) ∧
    (s.disp.state = 4 → t.disp.state = 3 ∧ t.host.sent = .panelFrame u.num 0 false :: s.host.sent) := by
  by_cases h4 : s.disp.state = 4
  · rw [updAccept_holding hst hc hcl hb h4]
    exact ⟨rfl, rfl, rfl, rfl, rfl, rfl, rfl, rfl, rfl, rfl, rfl, rfl, rfl, rfl, rfl, rfl, fun h => absurd h4 h, fun _ => ⟨rfl, rfl⟩⟩
  · rw [updAccept_powerUp hst hc hcl hb (by omega)]
    exact ⟨rfl, rfl, rfl, rfl, rfl, rfl, rfl, rfl, rfl, rfl, rfl, rfl, rfl, rfl, rfl, rfl, fun _ => ⟨rfl, rfl, rfl, rfl, rfl⟩,
      fun h => absurd h h4⟩

end

/-- A clearing update that is due goes before the one accepted (R578). -/
theorem updAccept_clears {u : DispUpd} (hst : s.disp.stop = 0) (hc : s.disp.cur = none) (hcl : s.disp.clearDue = true)
    (hs : s.disp.state = 1) : ∃ n, let t := updAccept u s
    t.disp.queued = some u ∧ t.disp.cur = some { clearUpd s with num := n } := by
  rcases hb : bandNow s with ⟨b, hi, no⟩
  have band : bandNow (onDisp (fun d => { d with lastNum := (u.num + 1) % 2 ^ 32 })
      (onDisp (fun d => { d with lastNum := u.num, queued := some u }) s)) = (b, hi, no) :=
    (bandNow_onDisp rfl).trans ((bandNow_onDisp rfl).trans hb)
  refine ⟨(u.num + 1) % 2 ^ 32, ?_⟩
  dsimp only
  have begun : updAccept u s = clearStart (onDisp (fun d => { d with lastNum := u.num, queued := some u }) s) := by
    rw [updAccept_starts hst hc (.inl hs)]
    refine nextStart_clearing (u := u) ?_ ?_
    · rfl
    · exact hcl
  have started := updStart_powerUp (u := clearUpd (onDisp (fun d => { d with lastNum := u.num, queued := some u }) s)) band
    (show s.disp.state ≠ 3 by omega) (show s.disp.state ≠ 4 by omega)
  rw [begun, clearStart]
  refine ⟨(congrArg (·.disp.queued) started).trans rfl, (congrArg (·.disp.cur) started).trans rfl⟩

theorem updFlag_bits (u : DispUpd) (b f : Nat) : bit (updFlag u b f) 0 = true ∧ bit (updFlag u b f) 1 = u.clearing := by
  have h := b2n_le u.clearing
  refine ⟨bit_of_div (b := true) ?_, bit_of_div ?_⟩ <;>
  · simp only [updFlag, b2n, if_true] at h ⊢
    omega

end

/-- Settles O59: the payloads' checks, the run's bytes, the band, and what becomes of an accepted update. That one accepted in FAULT
starts and one accepted while the controller stops waits are the model's choices of logs 24 and 45. -/
theorem displayCommands : Obligations.DisplayCommands := by
  unfold Obligations.DisplayCommands
  refine ⟨fun m s he => ⟨fun ht h8 hl hr => ?imageOff, fun ht hl => ?updateOff, fun ht hl hr => ?tempOff⟩,
    fun m s x y n o d ht he hx hy hn hp hd ho => ?image, fun m s v ht he hv hv' hp => ?temp,
    fun s n hn => ⟨bandNow_none, fun v b h hb => ?found, fun v h => ?high⟩,
    fun s v a hp h => tempValid_host hp h, fun m s mode x0 y0 w h ht he hm hx hy hw hh hp => ?update⟩
  case imageOff =>
    have a := samePanel_takenState 0x1310 m s
    exact mailOut_refuses ht (imageWrite_disabled hl h8 hr (by rw [a.enabled_eq, he]))
  case updateOff =>
    have a := samePanel_takenState 0x1311 m s
    exact mailOut_refuses ht (dispUpdate_disabled hl (by rw [a.enabled_eq, he]))
  case tempOff =>
    have a := samePanel_takenState 0x1312 m s
    exact mailOut_refuses ht (dispTempSet_disabled hl hr (by rw [a.enabled_eq, he]))
  case image =>
    have a := samePanel_takenState 0x1310 m s
    have he' : enabled (takenState 0x1310 m s) 0x13 0 = true := by rw [a.enabled_eq, he]
    subst ho
    refine ⟨fun h => mailOut_refuses_of_payload ht hp (imageWrite_range hx hy hn hd he' (by rw [a.parN_eq, a.parN_eq]; exact h)),
      fun h1 h2 h3 h4 h5 h6 => ?_⟩
    have inside : ¬ (x % 2 = 1 ∨ n % 2 = 1 ∨ n < 2 ∨ 1920 < n ∨ parN (takenState 0x1310 m s) 0x1300 < x + n ∨
        parN (takenState 0x1310 m s) 0x1301 ≤ y) := by
      rw [a.parN_eq, a.parN_eq]
      omega
    refine ⟨fun ⟨u, hc, hover⟩ => mailOut_refuses_of_payload ht hp (imageWrite_overlap hx hy hn hd he' inside (a.disp ▸ hc) ?_),
      fun hfree => ?_⟩
    · simpa [runOverlaps, and_assoc] using hover
    · obtain ⟨l, hl, hbytes⟩ := imageWrite_done hx hy hn hd he' inside fun u hc => by
        have := hfree u (a.disp ▸ hc)
        simp only [runOverlaps, Bool.and_eq_false_iff, decide_eq_false_iff_not]
        omega
      rw [imgOff, a.parN_eq, a.disp] at hbytes
      refine ⟨l, mailOut_answers_of_payload ht hp (hl.trans ?_), hbytes⟩
      rw [onDisp, a.disp]
  case temp =>
    have a := samePanel_takenState 0x1312 m s
    have eq := dispTempSet_eq (s := takenState 0x1312 m s) hv hv' (by rw [a.enabled_eq, he])
    rw [a.par_eq, a.time, onDisp, a.disp] at eq
    exact ⟨fun h => mailOut_refuses_of_payload ht hp (eq.trans (if_pos h)),
      fun h => mailOut_answers_of_payload ht hp (eq.trans (if_neg h))⟩
  case found =>
    subst hn
    exact fun hv hlow => bandNow_found h hb hv hlow
  case high =>
    subst hn
    exact bandNow_high h
  case update =>
    have a := samePanel_takenState 0x1311 m s
    have q := updReq_bytes hm hx hy hw hh
    have he' : enabled (takenState 0x1311 m s) 0x13 0 = true := by rw [a.enabled_eq, he]
    refine ⟨fun hr => mailOut_refuses_of_payload ht hp (dispUpdate_range q he' ?_), fun h1 h2 h3 h4 h5 h6 h7 => ?_⟩
    · unfold RectOk
      rw [a.parN_eq, a.parN_eq]
      omega
    · have eq := dispUpdate_eq q he' (by unfold RectOk; rw [a.parN_eq, a.parN_eq]; exact ⟨h1, h2, h3, h4, h5, h6, h7⟩)
      rw [a.frameTime_eq, a.disp] at eq
      refine ⟨fun hm1 hk => ?unknown, fun hm1 hk hc hrate => ?ratePartial, fun hm0 hrate => ?rateFull, fun hok hrate u hu => ?accepted⟩
      case unknown => exact mailOut_refuses_of_payload ht hp (eq.trans (if_pos ⟨hm1, hk⟩))
      case ratePartial =>
        refine mailOut_refuses_of_payload ht hp (eq.trans ((if_neg ?_).trans (if_pos ?_)))
        · simp [hk, hc]
        · rw [hm1]
          omega
      case rateFull =>
        refine mailOut_refuses_of_payload ht hp (eq.trans ((if_neg ?_).trans (if_pos ?_)))
        · omega
        · rw [hm0]
          omega
      case accepted =>
        have hask : asked (takenState 0x1311 m s) mode x0 y0 w h = u := by rw [asked, a.disp, hu]
        have hfull : u.full = decide (mode = 0) := by rw [hu]
        have hrect : (u.x0, u.y0, u.w, u.h) = (x0, y0, w, h) := by rw [hu]
        have hclearing : u.clearing = false := by rw [hu]
        rw [hask] at eq
        have pass := eq.trans ((if_neg (by rintro ⟨h1, h2⟩; simp_all)).trans (if_neg (by omega)))
        clear eq hu hask
        refine ⟨fun v hq => ?busy, fun hq hwait => ?waits, fun b hi no hst hq hc hcl hb af haf hstate => ?starts,
          fun hst hq hc hcl hstate => ?clears⟩
        case busy => exact mailOut_refuses_of_payload ht hp (pass.trans (if_pos (by simp [hq])))
        case waits =>
          have done := pass.trans (if_neg (by simp [hq]))
          rw [updAccept_waits (by rw [a.disp]; exact hwait), onDisp, a.disp] at done
          exact mailOut_answers_of_payload ht hp done
        case starts =>
          have done := pass.trans (if_neg (by simp [hq]))
          have hb' : bandNow (takenState 0x1311 m s) = (b, hi, no) := by rw [a.bandNow_eq, hb]
          have hst' : (takenState 0x1311 m s).disp.stop = 0 := by rw [a.disp, hst]
          have hc' : (takenState 0x1311 m s).disp.cur = none := by rw [a.disp, hc]
          have hcl' : (takenState 0x1311 m s).disp.clearDue = false := by rw [a.disp, hcl]
          obtain ⟨flag0, flag1⟩ := updFlag_bits u b 0
          obtain ⟨cur, queued, num, rect, band, high, noTemp, asFull, frame, driven, flag, frames, pend, shown, known, params, up, held⟩ :=
            updAccept_started (u := u) hst' hc' hcl' hb' (by rw [a.disp]; exact hstate)
          have hasFull : (!u.full && (fPart s b == 0 || !s.disp.shownKnown)) = af := by
            rw [haf, hfull]
            obtain h0 | h1 : mode = 0 ∨ mode = 1 := by omega
            · simp [h0]
            · have hknown : s.disp.shownKnown = true := (hok.resolve_left (by omega)).1
              rw [h1, hknown, beq_eq_decide]
              simp
          rw [a.fPart_eq, a.disp, hasFull] at asFull
          rw [a.fPart_eq, a.fFull_eq, a.disp, hasFull, hfull] at frames
          rw [a.disp] at pend shown known up held
          refine ⟨_, mailOut_answers_of_payload ht hp (by rw [done, queued]; rfl), cur, queued, num, rect.trans hrect, band, high, noTemp,
            asFull, frame, driven, by rw [flag, flag0], by rw [flag, flag1, hclearing], by rw [frames]; simp, pend, shown, known,
            by rw [params, a.params], up, held⟩
        case clears =>
          have done := pass.trans (if_neg (by simp [hq]))
          obtain ⟨n, queued, cur⟩ := updAccept_clears (u := u) (s := takenState 0x1311 m s) (by rw [a.disp, hst]) (by rw [a.disp, hc])
            (by rw [a.disp, hcl]) (by rw [a.disp, hstate])
          exact ⟨_, _, mailOut_answers_of_payload ht hp (by rw [done, queued]; rfl), queued, cur, rfl, rfl, rfl, rfl, a.parN_eq _, a.parN_eq _⟩

end Sys2Proof.Machine
end

section
/-! SUPPORT. The parts of an axis's tick (R378 to R392): what leaves every other axis and the rest of the part, and what becomes of the
axis itself. -/

namespace Sys2Proof.Machine

/-! ### What an axis's tick leaves -/

/-- From `s` to `t` only axis `n`, reports and the samples that estimation keeps have changed; the axis counts as many ticks. -/
structure AxisOnly (n : Nat) (s t : State) : Prop where
  eq : t = { s with
    host := { s.host with evtStatus := t.host.evtStatus, sent := t.host.sent, pba := t.host.pba }, recorder := t.recorder
    axes := t.axes, est := t.est }
  others : ∀ m, m ≠ n → t.axes[m]? = s.axes[m]?
  length : t.axes.length = s.axes.length
  ticks : (axisOf t n).ticks = (axisOf s n).ticks

section

variable {n : Nat} {s t u : State}

theorem AxisOnly.refl (s : State) : AxisOnly n s s := ⟨rfl, fun _ _ => rfl, rfl, rfl⟩

theorem AxisOnly.trans (a : AxisOnly n s t) (b : AxisOnly n t u) : AxisOnly n s u := by
  refine ⟨?_, fun m hm => (b.others m hm).trans (a.others m hm), b.length.trans a.length, b.ticks.trans a.ticks⟩
  rw [b.eq, a.eq]

theorem AxisOnly.reported (a : AxisOnly n s t) (b : Reported t u) : AxisOnly n s u := by
  have hl : u.axes = t.axes := by rw [b.eq]
  refine ⟨?_, fun m hm => by rw [hl]; exact a.others m hm, by rw [hl]; exact a.length, by rw [axisOf, hl]; exact a.ticks⟩
  rw [b.eq, a.eq]

theorem AxisOnly.report (a : AxisOnly n s t) (c k p q r : Nat) : AxisOnly n s (raise c k p q r t) := a.reported (reported_raise ..)

theorem AxisOnly.inCycle {f : State → State} (a : AxisOnly n s (f t)) : AxisOnly n s (oneCycle f t) := by
  refine ⟨?_, a.others, a.length, a.ticks⟩
  rw [oneCycle_frame, a.eq]

theorem axisOf_onAxis (f : AxisSt → AxisSt) (s : State) :
    axisOf (onAxis n f s) n = if n < s.axes.length then f (axisOf s n) else {} := by
  simp only [axisOf, onAxis, nth_eq, getElem?_modNth_same]
  split
  · next h => simp [List.getElem?_eq_getElem h]
  · next h => simp [List.getElem?_eq_none (Nat.not_lt.mp h)]

theorem axisOf_absent (h : ¬ n < s.axes.length) : axisOf s n = {} := by
  simp [axisOf, nth_eq, List.getElem?_eq_none (Nat.not_lt.mp h)]

theorem AxisOnly.update (a : AxisOnly n s t) {f : AxisSt → AxisSt} (hf : ∀ l, (f l).ticks = l.ticks := by intro _; rfl) :
    AxisOnly n s (onAxis n f t) := by
  refine a.trans ⟨rfl, fun m hm => getElem?_modNth_other _ _ _ _ hm, length_modNth .., ?_⟩
  rw [axisOf_onAxis]
  split
  · exact hf _
  · rw [axisOf_absent ‹_›]

theorem AxisOnly.ite {c : Prop} [Decidable c] {b : State} (a : AxisOnly n s t) (h : AxisOnly n s b) : AxisOnly n s (if c then t else b) := by
  split
  · exact a
  · exact h

theorem AxisOnly.event (a : AxisOnly n s t) : AxisOnly n s (axisEvent n t) := by
  unfold axisEvent
  exact .ite (a.update.report ..) a

theorem AxisOnly.levels (a : AxisOnly n s t) : AxisOnly n s (axisLevels n t) := a.update

theorem AxisOnly.enter (a : AxisOnly n s t) (st : Nat) : AxisOnly n s (axisEnter n st t) := by
  unfold axisEnter
  exact .ite a.levels a.update.levels.event

theorem AxisOnly.wake (a : AxisOnly n s t) : AxisOnly n s (axisWake n t) :=
  a.update fun _ => by split <;> rfl

theorem AxisOnly.lost (a : AxisOnly n s t) : AxisOnly n s (axisUncertain n t) := a.update.report ..

theorem AxisOnly.halt (a : AxisOnly n s t) : AxisOnly n s (axisHalt n t) := by
  unfold axisHalt
  exact (AxisOnly.ite a.lost a).update

theorem AxisOnly.fault (a : AxisOnly n s t) (cause : Nat) : AxisOnly n s (axisFault n cause t) := by
  unfold axisFault
  refine AxisOnly.inCycle ?_
  exact .ite (a.halt.update.report ..) ((a.halt.update.report ..).enter 8)

theorem AxisOnly.emit (a : AxisOnly n s t) (up : Bool) (k : Nat) : AxisOnly n s (axisEmit n up k t) := by
  unfold axisEmit
  exact .ite a a.update

theorem AxisOnly.decel (a : AxisOnly n s t) (rem : Nat) : AxisOnly n s (axisDecel n rem t) := by
  unfold axisDecel
  exact .ite a.update (.ite a (.ite a.update a.update))

theorem AxisOnly.moveEnd (a : AxisOnly n s t) : AxisOnly n s (axisMoveEnd n t) := by
  unfold axisMoveEnd
  exact .ite (a.update.report ..) a.update

theorem AxisOnly.profile (a : AxisOnly n s t) : AxisOnly n s (axisProfile n t) := by
  unfold axisProfile
  exact .ite ((a.decel _).update.emit _ _).moveEnd ((a.decel _).update.emit _ _)

theorem AxisOnly.begin (a : AxisOnly n s t) (g : Int) : AxisOnly n s (axisBegin n g t) := by
  unfold axisBegin
  exact .ite a.update (.ite a.wake (a.update.enter 2).profile)

theorem AxisOnly.homing (a : AxisOnly n s t) : AxisOnly n s (axisHoming n t) := by
  unfold axisHoming
  exact .ite ((a.update.enter 1).report ..) (.ite a.wake (.ite ((a.update.emit _ _).fault 3) (a.update.emit _ _)))

theorem AxisOnly.followEmit (a : AxisOnly n s t) (up : Bool) (k : Nat) : AxisOnly n s (axisFollowEmit n up k t) := by
  unfold axisFollowEmit
  exact .ite ((a.emit _ _).fault 1) (a.emit _ _)

theorem AxisOnly.coarse (a : AxisOnly n s t) : AxisOnly n s (axisCoarse n t) := by
  unfold axisCoarse
  exact a.update.followEmit _ _

theorem AxisOnly.geared (a : AxisOnly n s t) : AxisOnly n s (axisGeared n t) := by
  unfold axisGeared
  exact .ite (a.fault 2) (a.update.followEmit _ _)

theorem AxisOnly.followStart (a : AxisOnly n s t) : AxisOnly n s (axisFollowStart n t) := a.update

theorem AxisOnly.follow (a : AxisOnly n s t) : AxisOnly n s (axisFollow n t) := by
  unfold axisFollow
  exact .ite a.wake (.ite a.coarse a.geared)

theorem AxisOnly.active (a : AxisOnly n s t) : AxisOnly n s (axisActive n t) := by
  unfold axisActive
  refine .ite ((AxisOnly.ite a a.followStart).enter 3).follow ?_
  split
  · exact .ite ((a.enter 2).profile.enter 1) (a.enter 2).profile
  · exact (a.enter 4).homing
  · dsimp only
    split
    · exact .ite (a.enter 1) ((a.enter 1).begin _)
    · exact a.enter 1

theorem AxisOnly.park (a : AxisOnly n s t) : AxisOnly n s (axisPark n t) := by
  unfold axisPark axisStopEnd axisStop
  exact .ite ((a.halt.update.enter 9).enter 0).update a

/-! ### The turn of one among many -/

/-- What every other turn keeps, the state before a turn and the one after it share with the ends of the whole round. -/
theorem foldl_turn {f : Nat → State → State} {R : State → State → Prop} {n k : Nat} (refl : ∀ s, R s s)
    (trans : ∀ {s t u}, R s t → R t u → R s u) (other : ∀ m s, m ≠ n → R s (f m s)) (hn : n < k) (s : State) :
    ∃ u, R s u ∧ R (f n u) ((upTo k).foldl (fun s n => f n s) s) := by
  have round (l : List Nat) (hl : n ∉ l) (s : State) : R s (l.foldl (fun s n => f n s) s) := by
    induction l generalizing s with
    | nil => exact refl s
    | cons m l ih =>
      rw [List.mem_cons, not_or] at hl
      exact trans (other m s (Ne.symm hl.1)) (ih hl.2 _)
  obtain ⟨a, b, hab⟩ := List.append_of_mem (List.mem_range.mpr hn)
  have single : (a ++ n :: b).Nodup := hab ▸ List.nodup_range
  rw [List.nodup_append, List.nodup_cons] at single
  obtain ⟨-, ⟨hb, -⟩, hd⟩ := single
  have ha : n ∉ a := fun h => hd n h n (List.mem_cons_self ..) rfl
  rw [upTo, hab, List.foldl_append, List.foldl_cons]
  exact ⟨_, round a ha s, round b hb _⟩

/-! ### What the committed parameters and the gates are after a part of the tick -/

theorem AxisOnly.act_eq (a : AxisOnly n s t) (id : Nat) : act t id = act s id := by rw [a.eq]; rfl

theorem AxisOnly.ap_eq (a : AxisOnly n s t) (k : Nat) : ap t n k = ap s n k := a.act_eq _

theorem AxisOnly.apN_eq (a : AxisOnly n s t) (k : Nat) : apN t n k = apN s n k := congrArg Int.toNat (a.ap_eq k)

end

/-! ### What becomes of the axis -/

/-- Axis `n` is `y` beside its enable level, its power-up and what its reports owe. -/
structure AxisIs (n : Nat) (y : AxisSt) (t : State) : Prop where
  here : ∃ c e l w, t.axes[n]? = some { y with changes := c, lastEvt := e, en := l, waking := w }

section

variable {n : Nat} {y z : AxisSt} {t u : State}

theorem axisOf_of_getElem? {x : AxisSt} (h : t.axes[n]? = some x) : axisOf t n = x := nth_of_getElem? h

theorem AxisIs.of_getElem? (h : t.axes[n]? = some y) : AxisIs n y t := ⟨_, _, _, _, h⟩

theorem AxisIs.update (a : AxisIs n y t) {f : AxisSt → AxisSt}
    (hf : ∀ c e l w, ∃ c' e' l' w', f { y with changes := c, lastEvt := e, en := l, waking := w } =
      { z with changes := c', lastEvt := e', en := l', waking := w' } := by intro _ _ _ _; exact ⟨_, _, _, _, rfl⟩) :
    AxisIs n z (onAxis n f t) := by
  obtain ⟨c, e, l, w, h⟩ := a.here
  obtain ⟨c', e', l', w', e1⟩ := hf c e l w
  exact ⟨c', e', l', w', by simp [onAxis, h, e1]⟩

theorem AxisIs.reported (a : AxisIs n y t) (b : Reported t u) : AxisIs n y u := by
  have hl : u.axes = t.axes := by rw [b.eq]
  exact ⟨by rw [hl]; exact a.here⟩

theorem AxisIs.report (a : AxisIs n y t) (c k p q r : Nat) : AxisIs n y (raise c k p q r t) := a.reported (reported_raise ..)

theorem AxisIs.ite {c : Prop} [Decidable c] (a : c → AxisIs n y t) (b : ¬c → AxisIs n y u) : AxisIs n y (if c then t else u) := by
  split
  · exact a ‹_›
  · exact b ‹_›

theorem AxisIs.event (a : AxisIs n y t) : AxisIs n y (axisEvent n t) := by
  unfold axisEvent
  exact .ite (fun _ => AxisIs.report a.update ..) fun _ => a

theorem AxisIs.levels (a : AxisIs n y t) : AxisIs n y (axisLevels n t) := a.update

theorem AxisIs.enter (a : AxisIs n y t) (st : Nat) : AxisIs n { y with state := st } (axisEnter n st t) := by
  unfold axisEnter
  split
  · next hs =>
    obtain ⟨c, e, l, w, h⟩ := a.here
    rw [axisOf_of_getElem? h] at hs
    exact AxisIs.levels ⟨c, e, l, w, h.trans (by rw [← show y.state = st from hs])⟩
  · exact AxisIs.event (AxisIs.levels a.update)

theorem AxisIs.wake (a : AxisIs n y t) : AxisIs n y (axisWake n t) :=
  AxisIs.update a (fun c e l w => by split <;> exact ⟨_, _, _, _, rfl⟩)

/-! #### Stops and faults (R388) -/

/-- An axis whose pulses have stopped; `lost` tells whether its position is uncertain. -/
def halted (lost : Bool) (x : AxisSt) : AxisSt :=
  { x with
    doing := 0, v := 0, a := 0, frac := 0, backlog := 0, spread := 0, spreadOut := 0, credit := 0
    pend := if x.doing = 1 then none else x.pend, uncertain := lost }

/-- An axis that moves loses its position when its pulses stop; one at rest keeps its certainty. -/
theorem AxisIs.halt (a : AxisIs n y t) : ∃ lost, (y.doing ≠ 0 → y.v ≠ 0 → lost = true) ∧ (y.doing = 0 → lost = y.uncertain) ∧
    (y.uncertain = true → lost = true) ∧ AxisIs n (halted lost y) (axisHalt n t) := by
  obtain ⟨c, e, l, w, h⟩ := a.here
  unfold axisHalt
  rw [axisOf_of_getElem? h]
  dsimp only
  split
  · next hm =>
    simp only [Bool.and_eq_true, bne_iff_ne] at hm
    refine ⟨true, fun _ _ => rfl, fun h0 => absurd h0 hm.1, fun _ => rfl, AxisIs.update (AxisIs.report (y := { y with uncertain := true }) a.update ..)⟩
  · next hm =>
    simp only [Bool.and_eq_true, Bool.or_eq_true, bne_iff_ne, not_and, not_or] at hm
    exact ⟨y.uncertain, fun h0 hv => absurd hv (hm h0).1, fun _ => rfl, id, a.update⟩

/-- The state an axis shows after a fault. -/
def faultState (st : Nat) : Nat := if st = 6 ∨ st = 7 ∨ st = 9 then st else 8

theorem AxisIs.fault (a : AxisIs n y t) (cause : Nat) : ∃ lost, (y.uncertain = true → lost = true) ∧ AxisIs n { halted lost y with
    cause := cause, state := faultState y.state } (axisFault n cause t) := by
  obtain ⟨lost, -, -, hrest, b⟩ := a.halt
  have b : AxisIs n { halted lost y with cause := cause } (onAxis n (fun l => { l with cause := cause }) (axisHalt n t)) := b.update
  have b := b.report 0x0B10 64 n cause (u32 (axisOf (onAxis n (fun l => { l with cause := cause }) (axisHalt n t)) n).pos)
  refine ⟨lost, hrest, ?_⟩
  unfold axisFault
  have shown (u : State) (b : AxisIs n { halted lost y with cause := cause } u) :
      AxisIs n { halted lost y with cause := cause, state := faultState y.state }
        (if [6, 7, 9].contains (axisOf u n).state then u else axisEnter n 8 u) := by
    obtain ⟨c, e, l, w, h⟩ := b.here
    rw [axisOf_of_getElem? h]
    by_cases hs : y.state = 6 ∨ y.state = 7 ∨ y.state = 9
    · rw [faultState, if_pos hs, if_pos (by simpa [halted] using hs)]
      exact b
    · rw [faultState, if_neg hs, if_neg (by simpa [halted] using hs)]
      exact b.enter 8
  exact ⟨(shown _ b).here⟩

/-! #### Steps (R379) -/

theorem wrapS_of_range {v : Int} (h : -(2 ^ 31) ≤ v) (h' : v < 2 ^ 31) : wrapS 32 v = v := by
  simp only [wrapS, signExtend, toBits]
  omega

/-- Steps that stay within 32 bits. -/
theorem AxisIs.emit (a : AxisIs n y t) (up : Bool) {k : Nat} {p : Int} (hp : p = y.pos + (if up then (k : Int) else -k))
    (h : -(2 ^ 31) ≤ p) (h' : p < 2 ^ 31) : ∃ d i, (d = up ∨ d = y.dir) ∧ AxisIs n { y with pos := p, dir := d, idx := i } (axisEmit n up k t) := by
  unfold axisEmit
  split
  · next h0 =>
    have : p = y.pos := by rw [hp, h0]; cases up <;> simp
    exact ⟨y.dir, y.idx, .inr rfl, by rw [this]; exact a⟩
  · obtain ⟨c, e, l, w, hx⟩ := a.here
    refine ⟨up, if big t then y.idx else (((y.idx : Int) + (if up then (k : Int) else -k)) % ((4 * apN t n 2 : Nat) : Int)).toNat,
      .inl rfl, c, e, l, w, ?_⟩
    rw [onAxis, getElem?_modNth_same, hx, Option.map_some]
    dsimp only
    rw [← hp, wrapS_of_range h h']

/-! #### Moves (R381 to R383) -/

theorem AxisIs.decel (a : AxisIs n y t) (rem : Nat) :
    ∃ d m k, AxisIs n { y with ad := d, amaxSeen := m, decelKept := k } (axisDecel n rem t) := by
  have taken : AxisIs n { y with ad := apN t n 7, amaxSeen := apN t n 7 }
      (onAxis n (fun l => { l with ad := apN t n 7, amaxSeen := apN t n 7 }) t) := a.update
  have kept : AxisIs n { y with amaxSeen := apN t n 7, decelKept := true }
      (onAxis n (fun l => { l with amaxSeen := apN t n 7, decelKept := true }) t) := a.update
  let Some u := ∃ d m k, AxisIs n { y with ad := d, amaxSeen := m, decelKept := k } u
  have taken : Some (onAxis n (fun l => { l with ad := apN t n 7, amaxSeen := apN t n 7 }) t) := ⟨_, _, y.decelKept, taken⟩
  exact iteInduction (motive := Some) (fun _ => taken) fun _ =>
    iteInduction (motive := Some) (fun _ => ⟨y.ad, y.amaxSeen, y.decelKept, a⟩) fun _ =>
      iteInduction (motive := Some) (fun _ => taken) fun _ => ⟨y.ad, _, _, kept⟩

theorem AxisIs.moveEnd (a : AxisIs n y t) : AxisIs n { y with
    doing := 0, v := 0, a := 0, frac := 0, moves := wrapInc 32 y.moves, pend := if y.pend = some y.pos then none else y.pend }
    (axisMoveEnd n t) := by
  unfold axisMoveEnd
  exact .ite (fun _ => AxisIs.report a.update ..) fun _ => a.update

end

end Sys2Proof.Machine
end

section
/-! SUPPORT. The roles of the pair: what leaves the rest of the part when CAN frames become pending, when the plant is taken over and when it
stops for good (R481, R515, R516, R533). -/

namespace Sys2Proof.Machine

section
variable {s t u : State} {n c o : Nat}

/-! ### CAN frames that become pending (R481) -/

/-- From `s` to `t` CAN controllers have changed, and parameters were committed. -/
structure CanOnly (s t : State) : Prop where
  eq : t = { s with host := { s.host with uncommitted := t.host.uncommitted, tabUncommitted := t.host.tabUncommitted }, can := t.can }

theorem CanOnly.refl (s : State) : CanOnly s s := ⟨rfl⟩

theorem CanOnly.trans (a : CanOnly s t) (b : CanOnly t u) : CanOnly s u := ⟨by rw [b.eq, a.eq]⟩

theorem CanOnly.ite {p : Prop} [Decidable p] (a : CanOnly s t) (b : CanOnly s u) : CanOnly s (if p then t else u) := by
  split
  · exact a
  · exact b

theorem CanOnly.fold {α : Type} {f : State → α → State} (hf : ∀ t a, CanOnly s t → CanOnly s (f t a)) (l : List α) (a : CanOnly s t) :
    CanOnly s (l.foldl f t) := by
  induction l generalizing t with
  | nil => exact a
  | cons x l ih => exact ih (hf t x a)

theorem CanOnly.can (a : CanOnly s t) (f : CanSt → CanSt) : CanOnly s (onCan c f t) := a.trans ⟨rfl⟩

theorem CanOnly.commit (a : CanOnly s t) (p : Nat → Bool) : CanOnly s (parCommit p t) := a.trans ⟨rfl⟩

theorem CanOnly.offers (a : CanOnly s t) : CanOnly s (canOffer c t) := by
  unfold canOffer
  split
  · split
    · exact ((a.commit _).can _).can _
    · exact a
  · exact a

theorem CanOnly.reasserts (a : CanOnly s t) : CanOnly s (canReassert c t) :=
  .ite a (.fold (fun _ _ b => .ite (CanOnly.can b _).offers b) _ a)

theorem canOnly_canReassertAll (s : State) : CanOnly s (canReassertAll s) := .fold (fun _ _ a => a.reasserts) _ (.refl s)

theorem PlantOnly.canReasserts (a : PlantOnly s t) : PlantOnly s (canReassert c t) :=
  .ite (fun _ => a) fun _ => .fold (fun _ _ b => .ite (fun _ => b.objPends) fun _ => b) _ a

theorem PlantOnly.canReassertsAll (a : PlantOnly s t) : PlantOnly s (canReassertAll t) := .fold (fun _ _ b => b.canReasserts) _ a

theorem PlantOnly.canClears (a : PlantOnly s t) : PlantOnly s (canPendingGone t) := a.trans ⟨rfl, fun _ _ => rfl⟩

theorem canPendingGone_idle (s : State) : ∀ x ∈ (canPendingGone s).can, ∀ p ∈ x.objs, p.2.pending = false := by
  intro x hx p hp
  obtain ⟨y, -, rfl⟩ := List.mem_map.mp hx
  obtain ⟨q, -, rfl⟩ := List.mem_map.mp hp
  rfl

/-! ### The plant, with its logic -/

/-- From `s` to `t` only the plant, its logic and reports have changed. -/
def PlantLogic (s t : State) : Prop := PlantOnly (onLogic (fun _ => t.logic) s) t

theorem PlantOnly.plantLogic (a : PlantOnly s t) : PlantLogic s t := by
  have h : onLogic (fun _ => t.logic) s = s := onLogic_fixed a.logic
  rw [PlantLogic, h]
  exact a

theorem PlantLogic.trans (a : PlantLogic s t) (b : PlantLogic t u) : PlantLogic s u :=
  (PlantOnly.logicToo a fun _ => u.logic).trans b

theorem plantLogic_onLogic (f : LogicSt → LogicSt) (s : State) : PlantLogic s (onLogic f s) := .refl _

theorem plantLogic_outputImage (q : BitVec 24) (p : BitVec 576) (s : State) : PlantLogic s (outputImage q p s) :=
  (plantLogic_onLogic _ s).trans (plantOnly_outputImage q p s).plantLogic

theorem PlantLogic.pair (a : PlantLogic s t) : t.pair = s.pair := by rw [PlantOnly.eq a]; rfl

theorem PlantLogic.time (a : PlantLogic s t) : t.time = s.time := by rw [PlantOnly.eq a]; rfl

theorem PlantLogic.bystanders (a : PlantLogic s t) : bystanders t = bystanders s := (PlantOnly.bystanders a).trans rfl

theorem plantLogic_logicGrant (s : State) : PlantLogic s (logicGrant s) := by
  unfold logicGrant
  split
  · exact plantLogic_outputImage ..
  · exact (PlantOnly.refl s).plantLogic

theorem PlantOnly.loopTakes (a : PlantOnly s t) : PlantOnly s (loopGrant n t) := .ite (fun _ => a.loop _) fun _ => a

theorem PlantOnly.axisTakes (a : PlantOnly s t) : PlantOnly s (axisGrant n t) := by
  have lost : PlantOnly s (axisUncertain n t) := (a.axis _).report ..
  unfold axisGrant
  exact .ite (fun _ => .ite (fun _ => .axisEnters (.ite (fun _ => lost.axis _) fun _ => a.axis _) _) fun _ =>
    .ite (fun _ => lost.axis _) fun _ => a.axis _) fun _ => a

/-! ### A unit in STANDBY gains grant (R533) -/

/-- The unit has taken its loops and axes over, and not yet its logic. -/
def plantTaken (s : State) : State :=
  (upTo 16).foldl (fun s n => axisGrant n s) ((upTo 32).foldl (fun s n => loopGrant n s)
    (onPair (fun p => { p with period := none, droveDue := false }) s))

theorem plantOnly_plantTaken (s : State) : PlantOnly (onPair (fun p => { p with period := none, droveDue := false }) s) (plantTaken s) :=
  .fold (fun _ _ a => a.axisTakes) _ (.fold (fun _ _ a => a.loopTakes) _ (.refl _))

/-- From `s` to `t` only the network unit, what left the part and reports have changed. -/
structure NetOnly (s t : State) : Prop where
  eq : t = { s with
    host := { s.host with evtStatus := t.host.evtStatus, sent := t.host.sent, pba := t.host.pba }
    recorder := t.recorder, net := t.net }

theorem NetOnly.refl (s : State) : NetOnly s s := ⟨rfl⟩

theorem NetOnly.trans (a : NetOnly s t) (b : NetOnly t u) : NetOnly s u := ⟨by rw [b.eq, a.eq]⟩

theorem NetOnly.reported (a : NetOnly s t) (b : Reported t u) : NetOnly s u := ⟨by rw [b.eq, a.eq]⟩

theorem NetOnly.fold {α : Type} {f : State → α → State} (hf : ∀ t a, NetOnly s t → NetOnly s (f t a)) (l : List α) (a : NetOnly s t) :
    NetOnly s (l.foldl f t) := by
  induction l generalizing t with
  | nil => exact a
  | cons x l ih => exact ih (hf t x a)

theorem NetOnly.ite {p : Prop} [Decidable p] {v : State} (a : NetOnly s u) (b : NetOnly s v) : NetOnly s (if p then u else v) := by
  split
  · exact a
  · exact b

theorem NetOnly.net (a : NetOnly s t) (f : NetSt → NetSt) : NetOnly s (onNet f t) := a.trans ⟨rfl⟩

theorem NetOnly.ports (a : NetOnly s t) (p : Nat) (m : OutMsg) : NetOnly s (portSend p m t) := a.trans ⟨rfl⟩

theorem NetOnly.casts (a : NetOnly s t) (b : Bytes) (p : Nat) : NetOnly s (bcastSend b t p) := by
  unfold bcastSend
  refine .ite a ?_
  dsimp only
  split <;> split
  · exact (((a.ports ..).net _).ports ..).net _
  · exact (a.ports ..).net _
  · exact (a.ports ..).net _
  · exact a

theorem NetOnly.groups (a : NetOnly s t) (pos : Nat) (b : Bytes) (g : Nat) : NetOnly s (bcastGroup pos b t g) :=
  .fold (fun _ _ c => c.casts ..) _ (a.net _)

theorem netOnly_broadcast (pub : Nat) (b : Bytes) (s : State) : NetOnly s (broadcast pub b s) := by
  unfold broadcast
  refine .ite (.refl s) ?_
  split
  · exact ((NetOnly.refl s).net _).reported (reported_raise ..)
  · exact .fold (fun _ _ a => a.groups ..) _ (.refl s)
  · exact .refl s

theorem netOnly_bcastAgain (s : State) : NetOnly s (bcastAgain s) := by
  unfold bcastAgain
  split
  · exact .ite (netOnly_broadcast ..) (.refl s)
  · exact .refl s

/-! ### Hold and failsafe (R515, R516) -/

theorem holdStart_held (why : Nat) (h : s.pair.hold = true) : holdStart why s = s := if_pos h

/-- The hold line with every pending frame cleared. -/
def held (why : Nat) (s : State) : State :=
  canPendingGone (onPair (fun p => { p with hold := true, holdTick := s.power.netTick, holdWhy := why }) s)

theorem reported_holdStart (why : Nat) (h : s.pair.hold = false) : Reported (held why s) (holdStart why s) := by
  unfold holdStart
  rw [if_neg (by simp [h])]
  exact reported_raise ..

theorem reported_holdEnd (s : State) : Reported (onPair (fun p => { p with hold := false }) s) (holdEnd s) := reported_raise ..

/-! ### The plant stops (R516) -/

theorem PlantOnly.loopStops (a : PlantOnly s t) : PlantOnly s (loopStopEnd n (loopStop n t)) :=
  ((a.loopEnters 7).loopDrives.loopEnters 0).loopDrives

theorem PlantOnly.loopParks (a : PlantOnly s t) : PlantOnly s (loopPark n t) := .ite (fun _ => a.loopStops.loop _) fun _ => a

theorem PlantOnly.axisParks (a : PlantOnly s t) : PlantOnly s (axisPark n t) :=
  .ite (fun _ => (((a.axisHalts.axis _).axisEnters 9).axisEnters 0).axis _) fun _ => a

theorem Reported.plantLogic (a : Reported s t) : PlantLogic s t := ((PlantOnly.refl s).reported a).plantLogic

theorem PlantLogic.doutSafe (a : PlantLogic s t) : doutSafe t = doutSafe s :=
  (PlantOnly.doutSafe (s := onLogic (fun _ => t.logic) s) a).trans rfl

theorem plantLogic_ite {p : Prop} [Decidable p] (a : PlantLogic s t) (b : PlantLogic s u) : PlantLogic s (if p then t else u) := by
  split
  · exact a
  · exact b

theorem plantLogic_logicSafe (s : State) : PlantLogic s (logicSafe s) :=
  (plantLogic_onLogic _ s).trans (plantLogic_outputImage ..)

theorem logicSafe_logic (s : State) : (logicSafe s).logic =
    outputTaken (doutSafe s) 0 { s.logic with img := { s.logic.img with q := 0, p := 0 } } := (plantOnly_outputImage ..).logic

/-- A change of mode as it is reported, before the outputs follow. -/
def modeReported (m : Nat) (s : State) : State :=
  let r := raise 0x0C10 72 s.logic.mode m (b2n (m == 6)) (onLogic (fun l => { l with mode := m }) s)
  if s.logic.mode = 5 then onLogic (fun l => { l with initDue := true, initKeep := true }) r else r

theorem logicEnter_eq {m : Nat} (h : m ≠ s.logic.mode) : logicEnter m s = if m = 2 ∨ m = 6 then
    onLogic (fun l => { l with initDue := true, initKeep := false }) (logicSafe (modeReported m s)) else modeReported m s := by
  unfold logicEnter
  dsimp only
  rw [if_neg h]
  rfl

theorem plantLogic_modeReported (m : Nat) (s : State) : PlantLogic s (modeReported m s) := by
  have r := (plantLogic_onLogic (fun l => { l with mode := m }) s).trans (reported_raise 0x0C10 72 s.logic.mode m (b2n (m == 6)) _).plantLogic
  exact plantLogic_ite (r.trans (plantLogic_onLogic ..)) r

theorem modeReported_logic (m : Nat) (s : State) : (modeReported m s).logic.mode = m ∧ (modeReported m s).logic.cmdSaved = s.logic.cmdSaved := by
  unfold modeReported
  dsimp only
  split <;> simp

theorem plantLogic_logicEnter (m : Nat) (s : State) : PlantLogic s (logicEnter m s) := by
  by_cases h : m = s.logic.mode
  · rw [logicEnter_same h]
    exact (PlantOnly.refl s).plantLogic
  · rw [logicEnter_eq h]
    have r := plantLogic_modeReported m s
    exact plantLogic_ite ((r.trans (plantLogic_logicSafe _)).trans (plantLogic_onLogic ..)) r

/-- An engine that stops, whatever it did: the safe outputs and no permit (R408). -/
theorem logicEnter_stop (h : s.logic.mode ≠ 2) : (logicEnter 2 s).logic.mode = 2 ∧ (logicEnter 2 s).logic.dout = doutSafe s ∧
    (logicEnter 2 s).logic.permit = 0 ∧ (logicEnter 2 s).logic.cmdSaved = s.logic.cmdSaved := by
  obtain ⟨hm, hc⟩ := modeReported_logic 2 s
  rw [logicEnter_eq (Ne.symm h), if_pos (.inl rfl), onLogic_logic, logicSafe_logic, (plantLogic_modeReported 2 s).doutSafe]
  exact ⟨hm, rfl, rfl, hc⟩

/-- The engine as it is parked: a stepping ends, and the command is kept for the restart. -/
def parkReady (s : State) : State :=
  onLogic (fun l => { l with cmdSaved := some s.logic.cmd, cmd := 1 }) (if s.logic.stepping then stepEnd s else s)

theorem logicPark_eq (h : logicOn s = true) : logicPark s = logicEnter 2 (parkReady s) := by
  unfold logicPark
  rw [if_pos h]
  rfl

theorem plantLogic_parkReady (s : State) : PlantLogic s (parkReady s) := by
  have ended : PlantLogic s (stepEnd s) := (plantLogic_onLogic _ s).trans (reported_raise ..).plantLogic
  exact (plantLogic_ite ended (PlantOnly.refl s).plantLogic).trans (plantLogic_onLogic ..)

theorem plantLogic_logicPark (s : State) : PlantLogic s (logicPark s) := by
  by_cases h : logicOn s = true
  · rw [logicPark_eq h]
    exact (plantLogic_parkReady s).trans (plantLogic_logicEnter ..)
  · unfold logicPark
    rw [if_neg h]
    exact (PlantOnly.refl s).plantLogic

/-- The logic engine off, with its command kept for the restart. -/
theorem logicPark_logic (h : logicOn s = true) (hm : s.logic.mode ≠ 2) : (logicPark s).logic.mode = 2 ∧
    (logicPark s).logic.dout = doutSafe s ∧ (logicPark s).logic.permit = 0 ∧ (logicPark s).logic.cmdSaved = some s.logic.cmd := by
  have mode : (parkReady s).logic.mode = s.logic.mode := by
    unfold parkReady
    split
    · rw [onLogic_logic, stepEnd_logic]
    · rfl
  rw [logicPark_eq h, ← (plantLogic_parkReady s).doutSafe]
  exact logicEnter_stop (by rw [mode]; exact hm)

/-! #### Which units stop -/

/-- Which loops are parked, and where the axes are. -/
def places (s : State) : List Bool × List Int := (s.loops.map (·.parked), s.axes.map (·.pos))

theorem map_modNth_kept {α β : Type} {g : α → β} {f : α → α} (h : ∀ x, g (f x) = g x) (l : List α) (n : Nat) :
    (modNth l n f).map g = l.map g := by
  refine List.ext_getElem? fun i => ?_
  by_cases hi : i = n
  · subst hi
    rw [List.getElem?_map, getElem?_modNth_same, List.getElem?_map]
    cases l[i]? with
    | none => rfl
    | some x => simp [h]
  · rw [List.getElem?_map, getElem?_modNth_other _ _ _ _ hi, List.getElem?_map]

theorem places_onLoop {f : LoopSt → LoopSt} (h : ∀ x, (f x).parked = x.parked := by intro _; rfl) : places (onLoop n f s) = places s := by
  simp only [places, onLoop, map_modNth_kept h]

theorem places_onAxis {f : AxisSt → AxisSt} (h : ∀ x, (f x).pos = x.pos := by intro _; rfl) : places (onAxis n f s) = places s := by
  simp only [places, onAxis, map_modNth_kept h]

/-- From `s` to `t` no axis has moved and no loop was parked. -/
structure Placed (s t : State) : Prop where
  eq : places t = places s

theorem Placed.refl (s : State) : Placed s s := ⟨rfl⟩

theorem Placed.trans (a : Placed s t) (b : Placed t u) : Placed s u := ⟨b.eq.trans a.eq⟩

theorem Placed.reported (a : Placed s t) (b : Reported t u) : Placed s u := a.trans ⟨by rw [b.eq]; rfl⟩

theorem Placed.report (a : Placed s t) (c k p q r : Nat) : Placed s (raise c k p q r t) := a.reported (reported_raise ..)

theorem Placed.loop (a : Placed s t) {f : LoopSt → LoopSt} (h : ∀ x, (f x).parked = x.parked := by intro _; rfl) : Placed s (onLoop n f t) :=
  a.trans ⟨places_onLoop h⟩

theorem Placed.axis (a : Placed s t) {f : AxisSt → AxisSt} (h : ∀ x, (f x).pos = x.pos := by intro _; rfl) : Placed s (onAxis n f t) :=
  a.trans ⟨places_onAxis h⟩

theorem Placed.same (a : Placed s t) (h : places u = places t := by rfl) : Placed s u := a.trans ⟨h⟩

theorem Placed.ite {p : Prop} [Decidable p] (a : Placed s t) (b : Placed s u) : Placed s (if p then t else u) := by
  split
  · exact a
  · exact b

theorem Placed.fold {α : Type} {f : State → α → State} (hf : ∀ t a, Placed s t → Placed s (f t a)) (l : List α) (a : Placed s t) :
    Placed s (l.foldl f t) := by
  induction l generalizing t with
  | nil => exact a
  | cons x l ih => exact ih (hf t x a)

theorem Placed.loopEnters (a : Placed s t) (st : Nat) : Placed s (loopEnter n st t) := by
  unfold loopEnter loopEvent
  exact .ite a (.ite (a.loop.loop.report ..) a.loop)

theorem Placed.loopDrives (a : Placed s t) : Placed s (loopOutput n t) := by
  unfold loopOutput
  split
  · exact a.loop
  · exact a

theorem Placed.axisEnters (a : Placed s t) (st : Nat) : Placed s (axisEnter n st t) := by
  have levels {t : State} (a : Placed s t) : Placed s (axisLevels n t) := a.axis
  unfold axisEnter axisEvent
  exact .ite (levels a) (.ite ((levels a.axis).axis.report ..) (levels a.axis))

theorem Placed.axisHalts (a : Placed s t) : Placed s (axisHalt n t) := by
  unfold axisHalt axisUncertain
  exact (Placed.ite (a.axis.report ..) a).axis

theorem Placed.canOffers (a : Placed s t) : Placed s (canOffer c t) := by
  unfold canOffer
  split
  · split
    · exact a.same
    · exact a
  · exact a

theorem Placed.objPends (a : Placed s t) : Placed s (objPend c o t) := Placed.canOffers a.same

theorem Placed.permitGone (a : Placed s t) (i : Nat) : Placed s (if i < 32 then loopPermitGone i t
    else if i < 48 then axisPermitGone (i - 32) t else canPermitGone ((i - 64) / 128) ((i - 64) % 128) t) :=
  .ite (.ite ((a.loop.loopEnters 3).loopDrives) a)
    (.ite (.ite (a.axisHalts.axis.axisEnters 5) a) (.ite (.ite (Placed.objPends a.same) a.same) a))

theorem Placed.permitBack (a : Placed s t) (i : Nat) :
    Placed s (if 64 ≤ i then canPermitBack ((i - 64) / 128) ((i - 64) % 128) t else t) :=
  .ite (.ite a.objPends a) a

theorem Placed.permits (a : Placed s t) (old new : BitVec 576) : Placed s (permitChange old new t) := by
  unfold permitChange
  exact .fold (fun _ i b => b.permitBack i) _ (.fold (fun _ i b => b.permitGone i) _ a)

theorem Placed.outputs (a : Placed s t) (q : BitVec 24) (p : BitVec 576) : Placed s (outputImage q p t) := by
  unfold outputImage
  exact (a.trans (u := onLogic (outputTaken q p) t) ⟨rfl⟩).permits t.logic.permit p

theorem Placed.logic (a : Placed s t) (f : LogicSt → LogicSt) : Placed s (onLogic f t) := a.same rfl

theorem Placed.safes (a : Placed s t) : Placed s (logicSafe t) := (a.logic _).outputs ..

theorem Placed.logicEnters (a : Placed s t) (m : Nat) : Placed s (logicEnter m t) := by
  have r : Placed s (raise 0x0C10 72 t.logic.mode m (b2n (m == 6)) (onLogic (fun l => { l with mode := m }) t)) := (a.logic _).report ..
  by_cases h : m = t.logic.mode
  · rw [logicEnter_same h]
    exact a
  · rw [logicEnter_eq h]
    have reported : Placed s (modeReported m t) := .ite (r.logic _) r
    exact .ite (reported.safes.logic _) reported

theorem Placed.logicParks (a : Placed s t) : Placed s (logicPark t) := by
  by_cases h : logicOn t = true
  · rw [logicPark_eq h]
    have ended : Placed s (stepEnd t) := (a.logic _).report ..
    exact ((Placed.ite ended a).logic _).logicEnters 2
  · unfold logicPark
    rw [if_neg h]
    exact a

theorem Placed.axisParks (a : Placed s t) : Placed s (axisPark n t) := by
  unfold axisPark axisStopEnd axisStop
  exact .ite ((a.axisHalts.axis.axisEnters 9).axisEnters 0).axis a

theorem Placed.loopStops (a : Placed s t) : Placed s (loopStopEnd n (loopStop n t)) := ((a.loopEnters 7).loopDrives.loopEnters 0).loopDrives

theorem Placed.parked (a : Placed s t) (n : Nat) : t.loops[n]?.map (·.parked) = s.loops[n]?.map (·.parked) := by
  rw [← List.getElem?_map, ← List.getElem?_map]
  exact congrArg (fun p : List Bool × List Int => p.1[n]?) a.eq

theorem Placed.pos (a : Placed s t) (n : Nat) : t.axes[n]?.map (·.pos) = s.axes[n]?.map (·.pos) := by
  rw [← List.getElem?_map, ← List.getElem?_map]
  exact congrArg (fun p : List Bool × List Int => p.2[n]?) a.eq

/-- A turn of another loop parks that loop alone. -/
theorem loopPark_other {m : Nat} (h : m ≠ n) (s : State) :
    (loopPark m s).loops[n]?.map (·.parked) = s.loops[n]?.map (·.parked) := by
  unfold loopPark
  split
  · rw [onLoop, getElem?_modNth_other _ _ _ _ (Ne.symm h)]
    exact (Placed.loopStops (.refl s)).parked n
  · rfl

theorem loopPark_own (he : enabled s 10 n = true) (h : s.loops[n]?.isSome) :
    (loopPark n s).loops[n]?.map (·.parked) = some true := by
  have h : (loopStopEnd n (loopStop n s)).loops[n]?.map (·.parked) = s.loops[n]?.map (·.parked) := (Placed.loopStops (.refl s)).parked n
  obtain ⟨x, hx⟩ := Option.isSome_iff_exists.mp ‹_›
  rw [hx, Option.map_some, Option.map_eq_some_iff] at h
  obtain ⟨y, hy, -⟩ := h
  rw [loopPark, if_pos he, onLoop, getElem?_modNth_same, hy]
  rfl

theorem loopsPark_parked (hn : n < 32) (he : enabled s 10 n = true) {x : LoopSt} (hx : s.loops[n]? = some x) :
    ((upTo 32).foldl (fun s n => loopPark n s) s).loops[n]?.map (·.parked) = some true := by
  obtain ⟨u, ⟨hu, pu⟩, ht, -⟩ := foldl_turn (f := loopPark) (n := n)
    (R := fun s t => t.loops[n]?.map (·.parked) = s.loops[n]?.map (·.parked) ∧ PlantOnly s t)
    (fun s => ⟨rfl, .refl s⟩) (fun a b => ⟨b.1.trans a.1, a.2.trans b.2⟩) (fun m s h => ⟨loopPark_other h s, (PlantOnly.refl s).loopParks⟩) hn s
  rw [ht]
  refine loopPark_own ?_ ?_
  · rw [pu.eq]
    exact he
  · rw [hx] at hu
    cases h : u.loops[n]? with
    | none => rw [h] at hu; cases hu
    | some y => rfl

/-- The axis stops, goes to OFF and is parked, where it stands (R395). -/
theorem axisPark_own (he : enabled s 11 n = true) {x : AxisSt} (hx : s.axes[n]? = some x) : ∃ y, (axisPark n s).axes[n]? = some y ∧
    y.parked = true ∧ y.state = 0 ∧ y.doing = 0 ∧ y.pos = x.pos := by
  obtain ⟨lost, -, -, -, h⟩ := (AxisIs.of_getElem? hx).halt
  have down : AxisIs n { halted lost x with down := true } (onAxis n (fun l => { l with down := true, waking := false }) (axisHalt n s)) :=
    h.update
  have parked : AxisIs n { halted lost x with down := true, state := 0, parked := true }
      (onAxis n (fun l => { l with parked := true }) (axisStopEnd n (axisStop n s))) := ((down.enter 9).enter 0).update
  obtain ⟨c, e, l, w, h⟩ := parked.here
  rw [axisPark, if_pos he]
  exact ⟨_, h, rfl, rfl, rfl, rfl⟩

theorem axesPark_own (hn : n < 16) (he : enabled s 11 n = true) {x : AxisSt} (hx : s.axes[n]? = some x) :
    ∃ y, ((upTo 16).foldl (fun s n => axisPark n s) s).axes[n]? = some y ∧
      y.parked = true ∧ y.state = 0 ∧ y.doing = 0 ∧ y.pos = x.pos := by
  obtain ⟨u, ⟨hu, pu⟩, ht, -⟩ := foldl_turn (f := axisPark) (n := n)
    (R := fun s t => t.axes[n]? = s.axes[n]? ∧ PlantOnly s t) (fun s => ⟨rfl, .refl s⟩) (fun a b => ⟨b.1.trans a.1, a.2.trans b.2⟩)
    (fun m s h => ⟨((AxisOnly.refl s).park (n := m)).others n (Ne.symm h), (PlantOnly.refl s).axisParks⟩) hn s
  rw [ht]
  refine axisPark_own ?_ (hu.trans hx)
  rw [pu.eq]
  exact he

/-! #### The whole stop -/

/-- The loops, then the logic, then the axes stopped. -/
def plantParked (s : State) : State :=
  (upTo 16).foldl (fun s n => axisPark n s) (logicPark ((upTo 32).foldl (fun s n => loopPark n s) s))

theorem plantStop_eq (s : State) : plantStop s = oneCycle plantParked s := rfl

theorem plantOnly_loopsPark (s : State) : PlantOnly s ((upTo 32).foldl (fun s n => loopPark n s) s) :=
  .fold (fun _ _ a => a.loopParks) _ (.refl s)

theorem plantOnly_axesPark (s : State) : PlantOnly s ((upTo 16).foldl (fun s n => axisPark n s) s) :=
  .fold (fun _ _ a => a.axisParks) _ (.refl s)

theorem PlantOnly.cycle {f : State → State} (a : PlantOnly s (f t)) : PlantOnly s (oneCycle f t) := by
  rw [oneCycle_frame]
  generalize f t = u at a
  exact a.trans ⟨rfl, fun _ _ => rfl⟩

theorem plantLogic_plantStop (s : State) : PlantLogic s (plantStop s) := by
  have a : PlantLogic s (plantParked s) :=
    ((plantOnly_loopsPark s).plantLogic.trans (plantLogic_logicPark _)).trans (plantOnly_axesPark _).plantLogic
  rw [plantStop_eq, PlantLogic, oneCycle_logic]
  exact PlantOnly.cycle a

theorem PlantLogic.enabled_eq (a : PlantLogic s t) (k n : Nat) : enabled t k n = enabled s k n := by
  rw [PlantOnly.eq a]
  rfl

theorem plantStop_logic (he : enabled s 12 0 = true) (hm : s.logic.mode ≠ 2) : (plantStop s).logic.mode = 2 ∧
    (plantStop s).logic.dout = doutSafe s ∧ (plantStop s).logic.permit = 0 ∧ (plantStop s).logic.cmdSaved = some s.logic.cmd := by
  have a := plantOnly_loopsPark s
  rw [plantStop_eq, oneCycle_logic, plantParked, (plantOnly_axesPark _).logic, ← a.logic, ← a.doutSafe]
  exact logicPark_logic ((a.plantLogic.enabled_eq 12 0).trans he) (by rw [a.logic]; exact hm)

theorem loopPark_pos (s : State) : (loopPark n s).axes.map (·.pos) = s.axes.map (·.pos) := by
  have a : Placed s (loopStopEnd n (loopStop n s)) := .loopStops (.refl s)
  unfold loopPark
  generalize loopStopEnd n (loopStop n s) = u at a ⊢
  split
  · exact congrArg Prod.snd a.eq
  · rfl

theorem loopsPark_pos (s : State) : ((upTo 32).foldl (fun s n => loopPark n s) s).axes.map (·.pos) = s.axes.map (·.pos) := by
  have round (l : List Nat) (s : State) : (l.foldl (fun s n => loopPark n s) s).axes.map (·.pos) = s.axes.map (·.pos) := by
    induction l generalizing s with
    | nil => rfl
    | cons n l ih => exact (ih _).trans (loopPark_pos s)
  exact round _ s

theorem plantStop_axis (hn : n < 16) (he : enabled s 11 n = true) {x : AxisSt} (hx : s.axes[n]? = some x) :
    ∃ y, (plantStop s).axes[n]? = some y ∧ y.parked = true ∧ y.state = 0 ∧ y.doing = 0 ∧ y.pos = x.pos := by
  have a := (plantOnly_loopsPark s).plantLogic.trans (plantLogic_logicPark _)
  have p := (Placed.logicParks (.refl ((upTo 32).foldl (fun s n => loopPark n s) s))).pos n
  rw [← List.getElem?_map, ← List.getElem?_map, loopsPark_pos, List.getElem?_map, List.getElem?_map, hx, Option.map_some,
    Option.map_eq_some_iff] at p
  obtain ⟨z, hz, hpos⟩ := p
  rw [plantStop_eq, oneCycle_axes, ← hpos]
  exact axesPark_own hn ((a.enabled_eq 11 n).trans he) hz

theorem plantStop_loop (hn : n < 32) (he : enabled s 10 n = true) {x : LoopSt} (hx : s.loops[n]? = some x) :
    ∃ y, (plantStop s).loops[n]? = some y ∧ y.parked = true := by
  have p : Placed ((upTo 32).foldl (fun s n => loopPark n s) s) (plantParked s) :=
    .fold (fun _ _ a => a.axisParks) _ (Placed.refl _).logicParks
  have hp := p.parked n
  rw [loopsPark_parked hn he hx, Option.map_eq_some_iff] at hp
  rw [plantStop_eq, oneCycle_loops]
  exact hp

/-! ### Grant edges (R514, R515) -/

theorem wakeAct_unitB (p : PowerSt) : (wakeAct p).unitB = p.unitB := by
  unfold wakeAct
  split
  · rfl
  · split <;> rfl

theorem idleExit_unitB (s : State) : (idleExit s).power.unitB = s.power.unitB := by
  unfold idleExit
  split <;> rfl

theorem latchWake_unitB (n : Nat) (s : State) : (latchWake n s).power.unitB = s.power.unitB := by
  refine Eq.trans ?_ (idleExit_unitB s)
  unfold latchWake
  generalize idleExit s = u
  dsimp only
  split
  · rfl
  · split
    · exact wakeAct_unitB _
    · rfl

theorem takenState_unitB (cmd : Nat) (m : Mail) (s : State) : (takenState cmd m s).power.unitB = s.power.unitB := by
  rw [takenState_power, ring]
  split
  · rfl
  · exact latchWake_unitB 11 s

theorem wakeAct_phase {p : PowerSt} (h : p.phase ≠ .up) : (wakeAct p).phase ≠ .up := by
  unfold wakeAct
  split
  · nofun
  · split
    · next h' => exact absurd h'.1 h
    · exact h

theorem wakeAct_up {p : PowerSt} (h : p.phase = .up) : (wakeAct p).phase = .up ∧ (wakeAct p).cur = p.cur ∧ (wakeAct p).isl = p.isl := by
  unfold wakeAct
  rw [if_neg (by simp [h])]
  split
  · exact ⟨h, rfl, rfl⟩
  · exact ⟨h, rfl, rfl⟩

/-- Whether the clock of the plant runs: of the power, its phase, state, islands and PLLs alone. -/
theorem plantRuns_congr (hup : s.power.phase = .up ↔ t.power.phase = .up) (h : s.power.phase = .up → t.power.cur = s.power.cur ∧
    t.power.isl = s.power.isl) (hc : t.power.clkLock = s.power.clkLock) : plantRuns t = plantRuns s := by
  unfold plantRuns awake isl pllLock
  rw [hc]
  by_cases hp : s.power.phase = .up
  · rw [(h hp).1, (h hp).2, hp, hup.mp hp]
  · rw [beq_false_of_ne hp, beq_false_of_ne fun h => hp (hup.mpr h)]
    rfl

/-- A wake does not start or stop the clock of the plant. -/
theorem plantRuns_latchWake (n : Nat) (s : State) : plantRuns (latchWake n s) = plantRuns s := by
  have idle : plantRuns (idleExit s) = plantRuns s := by
    unfold idleExit
    split
    · next h =>
      simp only [Bool.and_eq_true, beq_iff_eq] at h
      unfold plantRuns awake isl setIsl pllLock
      simp [h, nth_eq]
    · rfl
  rw [← idle]
  unfold latchWake
  generalize idleExit s = u
  dsimp only
  split
  · rfl
  · split
    · refine plantRuns_congr ⟨fun h => (wakeAct_up (by exact h)).1, fun h => ?_⟩ (fun h => (wakeAct_up (by exact h)).2) (wakeAct_clocks _).1
      exact Classical.byContradiction fun h' => wakeAct_phase (by exact h') h
    · rfl

/-- The new grant as the unit counts it and reports it. -/
def grantSeen (b : Bool) (s : State) : State :=
  let u := onPair (fun p => { p with
    grantCnt := satInc 32 p.grantCnt, grantT := s.time.ont, dual := p.dual && b }) (onPair (fun p => { p with grant := b }) (latchWake 2 s))
  raise 0x1110 112 (b2n b) (b2n u.pair.dual) (ontLo u) u

/-- What the new grant begins. -/
def grantActs (b : Bool) (role : Nat) (s : State) : State :=
  if b then
    if role = 2 then pairTakeOver s
    else if s.pair.hold && s.pair.holdWhy == 0 && !s.pair.fail then canReassertAll (holdEnd s) else s
  else if role = 1 then holdStart 0 s else s

theorem grantEdge_eq {b : Bool} (h : b ≠ s.pair.grant) : grantEdge b s =
    if s.pair.running = true ∧ plantRuns s = true then grantActs b (pairRole s) (grantSeen b s)
    else onPair (fun p => { p with grant := b }) (latchWake 2 s) := by
  have runs : plantRuns (onPair (fun p => { p with grant := b }) (latchWake 2 s)) = plantRuns s := plantRuns_latchWake 2 s
  have unit : (onPair (fun p => { p with grant := b }) (latchWake 2 s)).pair.running = s.pair.running := by
    rw [onPair_pair, latchWake_pair]
  unfold grantEdge
  rw [if_neg (by simpa using h)]
  dsimp only
  rw [runs, unit]
  by_cases hr : s.pair.running = true ∧ plantRuns s = true
  · rw [if_pos hr, if_neg (by simp [hr]), onPair_time, latchWake_time]
    rfl
  · rw [if_neg hr, if_pos (by rw [Bool.not_eq_true', ← Bool.not_eq_true, Bool.and_eq_true]; exact hr)]

/-- What the edge leaves before the unit acts on it. -/
structure GrantSeen (b : Bool) (s t : State) : Prop where
  pair : t.pair = { s.pair with
    grant := b, grantCnt := satInc 32 s.pair.grantCnt, grantT := s.time.ont, dual := s.pair.dual && b }
  tick : t.power.netTick = s.power.netTick
  time : t.time = s.time
  plant : t.loops = s.loops ∧ t.axes = s.axes ∧ t.logic = s.logic ∧ t.can = s.can
  others : bystanders t = bystanders s

theorem grantSeen_spec (b : Bool) (s : State) : GrantSeen b s (grantSeen b s) where
  pair := by simp [grantSeen]
  tick := by
    show (raise _ _ _ _ _ _).power.netTick = _
    rw [raise_power, onPair_power, onPair_power, latchWake_netTick]
  time := by simp [grantSeen]
  plant := by simp [grantSeen]
  others := by
    rw [grantSeen, bystanders_raise, bystanders_onPair, bystanders_onPair, latchWake_eq]
    rfl

theorem Reported.pair (a : Reported s t) : t.pair = s.pair := by rw [a.eq]
theorem Reported.time (a : Reported s t) : t.time = s.time := by rw [a.eq]
theorem Reported.loops (a : Reported s t) : t.loops = s.loops := by rw [a.eq]
theorem Reported.axes (a : Reported s t) : t.axes = s.axes := by rw [a.eq]
theorem Reported.can (a : Reported s t) : t.can = s.can := by rw [a.eq]

theorem Reported.enabled_eq (a : Reported s t) (k n : Nat) : enabled t k n = enabled s k n := by
  rw [a.eq]
  rfl

theorem Reported.actN_eq (a : Reported s t) (id : Nat) : actN t id = actN s id := by
  rw [a.eq]
  rfl

theorem canReassertAll_kept (s : State) : (canReassertAll s).pair = s.pair ∧ (canReassertAll s).logic = s.logic ∧
    (canReassertAll s).loops = s.loops ∧ (canReassertAll s).axes = s.axes ∧ (canReassertAll s).time = s.time ∧
    bystanders (canReassertAll s) = bystanders s := by
  rw [(canOnly_canReassertAll s).eq]
  exact ⟨rfl, rfl, rfl, rfl, rfl, rfl⟩

/-- A hold that a grant loss began ends with the grant, and its frames become pending again. -/
theorem holdDropped_spec (s : State) : (canReassertAll (holdEnd s)).pair = { s.pair with hold := false } ∧
    (canReassertAll (holdEnd s)).logic = s.logic ∧ (canReassertAll (holdEnd s)).loops = s.loops ∧
    (canReassertAll (holdEnd s)).axes = s.axes ∧ (canReassertAll (holdEnd s)).time = s.time ∧
    bystanders (canReassertAll (holdEnd s)) = bystanders s := by
  obtain ⟨pair, logic, loops, axes, time, others⟩ := canReassertAll_kept (holdEnd s)
  have r := reported_holdEnd s
  rw [pair, logic, loops, axes, time, others, r.bystanders, r.eq]
  exact ⟨rfl, rfl, rfl, rfl, rfl, rfl⟩

theorem NetOnly.pair (a : NetOnly s t) : t.pair = s.pair := by rw [a.eq]
theorem NetOnly.time (a : NetOnly s t) : t.time = s.time := by rw [a.eq]
theorem NetOnly.logic (a : NetOnly s t) : t.logic = s.logic := by rw [a.eq]
theorem NetOnly.bystanders (a : NetOnly s t) : bystanders t = bystanders s := by rw [a.eq]; rfl

/-- A unit in STANDBY that gains grant drives its images and holds nothing. -/
theorem pairTakeOver_spec (s : State) : (pairTakeOver s).pair = { s.pair with period := none, droveDue := false } ∧
    (pairTakeOver s).time = s.time ∧ bystanders (pairTakeOver s) = bystanders s ∧
    (s.logic.mode = 5 → (pairTakeOver s).logic = outputTaken s.logic.img.q s.logic.img.p s.logic) := by
  have b := netOnly_bcastAgain (canReassertAll (logicGrant (plantTaken s)))
  obtain ⟨pair, logic, -, -, time, others⟩ := canReassertAll_kept (logicGrant (plantTaken s))
  have g := plantLogic_logicGrant (plantTaken s)
  have p := plantOnly_plantTaken s
  have hl : (plantTaken s).logic = s.logic := p.logic
  have e : pairTakeOver s = bcastAgain (canReassertAll (logicGrant (plantTaken s))) := rfl
  refine ⟨?_, ?_, ?_, fun hm => ?_⟩
  · rw [e, b.pair, pair, g.pair, p.plantLogic.pair, onPair_pair]
  · rw [e, b.time, time, g.time, p.plantLogic.time, onPair_time]
  · rw [e, b.bystanders, others, g.bystanders, p.bystanders, bystanders_onPair]
  · rw [e, b.logic, logic, logicGrant, hl, if_pos hm, (plantOnly_outputImage ..).logic, onLogic_logic, hl]

/-- What the edge of a running unit leaves and begins (R514, R515, R533). -/
theorem grantEdge_runs {b : Bool} (hb : b ≠ s.pair.grant) (hr : s.pair.running = true ∧ plantRuns s = true) :
    (grantEdge b s).pair.grant = b ∧ (grantEdge b s).pair.fail = s.pair.fail ∧ (grantEdge b s).time = s.time ∧
    bystanders (grantEdge b s) = bystanders s ∧
    ((grantEdge b s).pair.grantCnt = satInc 32 s.pair.grantCnt ∧ (grantEdge b s).pair.grantT = s.time.ont) ∧
    (b = false → s.pair.hold = false → (grantEdge b s).pair.hold = true ∧ (grantEdge b s).pair.holdWhy = 0 ∧
      (grantEdge b s).pair.holdTick = s.power.netTick ∧ (grantEdge b s).loops = s.loops ∧ (grantEdge b s).axes = s.axes ∧
      (grantEdge b s).logic = s.logic ∧ ∀ x ∈ (grantEdge b s).can, ∀ p ∈ x.objs, p.2.pending = false) ∧
    (b = false → s.pair.hold = true → (grantEdge b s).pair.hold = true ∧ (grantEdge b s).pair.holdTick = s.pair.holdTick ∧
      (grantEdge b s).can = s.can) ∧
    (b = true → s.pair.hold = false → (grantEdge b s).pair.hold = false ∧ (grantEdge b s).pair.period = none ∧ (s.logic.mode = 5 →
      (grantEdge b s).logic.dout = s.logic.img.q ∧ (grantEdge b s).logic.permit = s.logic.img.p ∧
      (grantEdge b s).logic.img = s.logic.img)) ∧
    (b = true → s.pair.hold = true → (grantEdge b s).logic = s.logic ∧ (grantEdge b s).loops = s.loops ∧
      (grantEdge b s).axes = s.axes ∧ ((grantEdge b s).pair.hold = false ↔ s.pair.holdWhy = 0 ∧ s.pair.fail = false)) := by
  obtain ⟨pair, tick, time, ⟨loops, axes, logic, can⟩, others⟩ := grantSeen_spec b s
  rw [grantEdge_eq hb, if_pos hr]
  generalize grantSeen b s = g at *
  cases b
  · have hg : s.pair.grant = true := by simpa using Ne.symm hb
    cases hh : s.pair.hold
    · have role : pairRole s = 1 := by simp [pairRole, hr.1, hh, hg]
      have e : grantActs false (pairRole s) g = holdStart 0 g := by rw [role]; rfl
      have h := reported_holdStart 0 (s := g) (by rw [pair]; exact hh)
      have p : (held 0 g).pair = { g.pair with hold := true, holdTick := g.power.netTick, holdWhy := 0 } := rfl
      rw [e, h.bystanders, h.pair, h.time, h.loops, h.axes, h.logic, h.can, p, pair]
      exact ⟨rfl, rfl, time, others, ⟨rfl, rfl⟩, fun _ _ => ⟨rfl, rfl, tick, loops, axes, logic, canPendingGone_idle _⟩, nofun, nofun, nofun⟩
    · have role : pairRole s = 3 := by simp [pairRole, hr.1, hh]
      have e : grantActs false (pairRole s) g = g := by rw [role]; rfl
      rw [e, pair]
      exact ⟨rfl, rfl, time, others, ⟨rfl, rfl⟩, nofun, fun _ _ => ⟨hh, rfl, can⟩, nofun, nofun⟩
  · have hg : s.pair.grant = false := by simpa using Ne.symm hb
    cases hh : s.pair.hold
    · have role : pairRole s = 2 := by simp [pairRole, hr.1, hh, hg]
      have e : grantActs true (pairRole s) g = pairTakeOver g := by rw [role, grantActs, if_pos rfl, if_pos rfl]
      obtain ⟨p, t, o, l⟩ := pairTakeOver_spec g
      rw [e, p, t, o, pair]
      rw [logic] at l
      refine ⟨rfl, rfl, time, others, ⟨rfl, rfl⟩, nofun, nofun, fun _ _ => ⟨hh, rfl, fun hm => ?_⟩, nofun⟩
      rw [l hm]
      exact ⟨rfl, rfl, rfl⟩
    · have role : pairRole s = 3 := by simp [pairRole, hr.1, hh]
      by_cases hd : s.pair.holdWhy = 0 ∧ s.pair.fail = false
      · have e : grantActs true (pairRole s) g = canReassertAll (holdEnd g) := by
          rw [role, grantActs, if_pos rfl, if_neg (by decide), pair, if_pos (by simp [hh, hd])]
        obtain ⟨p, l, lo, ax, t, o⟩ := holdDropped_spec g
        rw [e, p, l, lo, ax, t, o, pair]
        exact ⟨rfl, rfl, time, others, ⟨rfl, rfl⟩, nofun, nofun, nofun, fun _ _ => ⟨logic, loops, axes, fun _ => hd, fun _ => rfl⟩⟩
      · have e : grantActs true (pairRole s) g = g := by
          rw [role, grantActs, if_pos rfl, if_neg (by decide), pair, if_neg (by simpa [hh] using hd)]
        rw [e, pair]
        exact ⟨rfl, rfl, time, others, ⟨rfl, rfl⟩, nofun, nofun, nofun, fun _ _ => ⟨logic, loops, axes, fun h => by simp [hh] at h,
          fun h => absurd h hd⟩⟩

/-! ### A hold that expires (R515, R516) -/

/-- The end of a hold, and on a failed unit that has grant the plant's. -/
def holdOut (s : State) : State :=
  if (holdEnd s).pair.fail && (holdEnd s).pair.grant && !(holdEnd s).pair.failsafe then failsafeStop (holdEnd s) else holdEnd s

theorem reported_failsafeStop (s : State) :
    Reported (canPendingGone (plantStop (onPair (fun p => { p with failsafe := true }) s))) (failsafeStop s) := reported_raise ..

/-- The plant of a failed unit after its hold. -/
structure Failsafe (s t : State) : Prop where
  pair : t.pair = { s.pair with hold := false, failsafe := true }
  frames : ∀ x ∈ t.can, ∀ p ∈ x.objs, p.2.pending = false
  logic : enabled s 12 0 = true → s.logic.mode ≠ 2 → t.logic.mode = 2 ∧ t.logic.dout = BitVec.ofNat 24 (actN s 0x0C02) ∧
    t.logic.permit = 0 ∧ t.logic.cmdSaved = some s.logic.cmd
  axes : ∀ (n : Nat) (x : AxisSt), n < 16 → enabled s 11 n = true → s.axes[n]? = some x → ∃ y, t.axes[n]? = some y ∧
    y.parked = true ∧ y.state = 0 ∧ y.doing = 0 ∧ y.pos = x.pos
  loops : ∀ (n : Nat) (x : LoopSt), n < 32 → enabled s 10 n = true → s.loops[n]? = some x → ∃ y, t.loops[n]? = some y ∧ y.parked = true

/-- The unit as its hold has ended and its plant is about to stop. -/
def failsafeReady (s : State) : State := onPair (fun p => { p with failsafe := true }) (holdEnd s)

theorem failsafe_holdOut (hf : s.pair.fail = true ∧ s.pair.grant = true ∧ s.pair.failsafe = false) :
    bystanders (holdOut s) = bystanders s ∧ Failsafe s (holdOut s) := by
  have h := reported_holdEnd s
  have e : holdOut s = failsafeStop (holdEnd s) := by
    rw [holdOut, h.pair]
    exact if_pos (by simp [hf])
  have r : Reported (canPendingGone (plantStop (failsafeReady s))) (failsafeStop (holdEnd s)) := reported_failsafeStop (holdEnd s)
  have p := plantLogic_plantStop (failsafeReady s)
  have axes : (failsafeReady s).axes = s.axes := h.axes
  have loops : (failsafeReady s).loops = s.loops := h.loops
  have logic : (failsafeReady s).logic = s.logic := h.logic
  have pair : (failsafeReady s).pair = { s.pair with hold := false, failsafe := true } := by
    rw [failsafeReady, onPair_pair, h.pair, onPair_pair]
  have unit (k n : Nat) : enabled (failsafeReady s) k n = enabled s k n := h.enabled_eq k n
  have safe : doutSafe (failsafeReady s) = BitVec.ofNat 24 (actN s 0x0C02) := congrArg (BitVec.ofNat 24) (h.actN_eq 0x0C02)
  have stops := plantStop_logic (s := failsafeReady s)
  rw [unit, logic, safe] at stops
  have parkedAxis (n : Nat) (x : AxisSt) := plantStop_axis (s := failsafeReady s) (n := n) (x := x)
  have parkedLoop (n : Nat) (x : LoopSt) := plantStop_loop (s := failsafeReady s) (n := n) (x := x)
  rw [e]
  generalize plantStop (failsafeReady s) = v at *
  refine ⟨?_, ?_, ?_, fun he hm => ?_, fun n x hn he hx => ?_, fun n x hn he hx => ?_⟩
  · exact (r.bystanders.trans p.bystanders).trans h.bystanders
  · exact (r.pair.trans p.pair).trans pair
  · rw [r.can]
    exact canPendingGone_idle _
  · rw [r.logic]
    exact stops he hm
  · rw [r.axes]
    exact parkedAxis n x hn ((unit 11 n).trans he) (axes ▸ hx)
  · rw [r.loops]
    exact parkedLoop n x hn ((unit 10 n).trans he) (loops ▸ hx)

theorem holdOut_plain (hf : ¬ (s.pair.fail = true ∧ s.pair.grant = true ∧ s.pair.failsafe = false)) : holdOut s = holdEnd s := by
  rw [holdOut, (reported_holdEnd s).pair]
  exact if_neg (by simpa [and_assoc] using hf)

/-! ### Commands and the health word (R518, R519, R540) -/

theorem failLatch_set (h : s.pair.fail = true) (cause : Nat) : failLatch cause s = s := if_pos h

theorem failLatch_spec (h : s.pair.fail = false) (cause : Nat) : (failLatch cause s).pair.fail = true ∧
    (failLatch cause s).pair.cause = cause ∧ (s.pair.running = true → (failLatch cause s).pair.hold = true) := by
  unfold failLatch
  rw [if_neg (by simp [h])]
  dsimp only
  rw [raise_pair, onPair_pair]
  split
  · next hr =>
    by_cases hh : s.pair.hold = true
    · rw [holdStart_held 1 (by exact hh)]
      exact ⟨rfl, rfl, fun _ => hh⟩
    · rw [(reported_holdStart 1 (by simpa using hh)).eq]
      exact ⟨rfl, rfl, fun _ => rfl⟩
  · next hr => exact ⟨rfl, rfl, fun h => absurd h hr⟩

theorem failLatch_params (cause : Nat) (s : State) : (failLatch cause s).host.params = s.host.params := by
  have hold (s : State) : setup (holdStart 1 s) = setup s := by simp [holdStart]
  have same : setup (failLatch cause s) = setup s := by
    unfold failLatch
    split
    · rfl
    · rw [setup_raise]
      split
      · exact hold _
      · rfl
  exact (setup_fields same).2.1

/-- The bits of the health word. -/
theorem healthWord_bits (hs : s.mgmt.shed < 8) (hc : s.pair.count < 256) (hk : s.pair.cause < 16) : let w := healthWord s
    bit w 0 = s.pair.fail ∧ bit w 1 = (s.host.ready && s.mgmt.malorRuns) ∧ bit w 2 = s.pair.grant ∧ bit w 3 = s.pair.hold ∧
    bit w 4 = s.pair.straitUp ∧ bit w 5 = s.pair.sync ∧ bit w 6 = (s.power.cur == .sleep) ∧ bit w 7 = s.time.locked ∧
    bits w 8 3 = s.mgmt.shed ∧ bits w 12 4 = 0 ∧ bits w 16 8 = s.pair.count ∧ bits w 24 4 = s.pair.cause ∧ w < 2 ^ 28 := by
  unfold healthWord
  dsimp only
  generalize (s.host.ready && s.mgmt.malorRuns) = ready
  generalize (List.any _ _ || List.any _ _) = plant
  have h0 := b2n_le s.pair.fail
  have h1 := b2n_le ready
  have h2 := b2n_le s.pair.grant
  have h3 := b2n_le s.pair.hold
  have h4 := b2n_le s.pair.straitUp
  have h5 := b2n_le s.pair.sync
  have h6 := b2n_le (s.power.cur == .sleep)
  have h7 := b2n_le s.time.locked
  have h8 := b2n_le plant
  refine ⟨bit_of_div ?_, bit_of_div ?_, bit_of_div ?_, bit_of_div ?_, bit_of_div ?_, bit_of_div ?_, bit_of_div ?_, bit_of_div ?_,
    show _ / 2 ^ 8 % 2 ^ 3 = _ from ?_, show _ / 2 ^ 12 % 2 ^ 4 = _ from ?_, show _ / 2 ^ 16 % 2 ^ 8 = _ from ?_,
    show _ / 2 ^ 24 % 2 ^ 4 = _ from ?_, ?_⟩ <;> omega

end

/-- Settles O55. The order of the items of PAIR_STATUS_GET (log 9) and a PAIR_RESYNC that changes nothing (log 26) are the model's choices. -/
theorem pairRoles : Obligations.PairRoles := by
  unfold Obligations.PairRoles
  refine ⟨?_, ?_, ?_, ?_, ?_, ?_, ?_, ?_, ?_, ?_⟩
  · intro s
    exact congrArg Host.Outcome.next (if_pos (by simp))
  · intro s b hb
    refine ⟨grantEdge b s, rfl, ?_⟩
    by_cases hr : s.pair.running = true ∧ plantRuns s = true
    · obtain ⟨grant, fail, time, others, counted, acts⟩ := grantEdge_runs hb hr
      obtain ⟨params, meter, adc⟩ : _ ∧ _ ∧ _ := by simpa only [bystanders, Prod.mk.injEq] using others
      exact ⟨grant, meter, adc, params, time, fail, fun h => absurd hr (by rcases h with h | h <;> simp [h]), fun _ _ => ⟨counted.1, counted.2, acts⟩⟩
    · rw [grantEdge_eq hb, if_neg hr, latchWake_eq]
      refine ⟨rfl, rfl, rfl, rfl, rfl, rfl, fun _ => ⟨rfl, rfl, rfl, rfl, rfl⟩, fun h1 h2 => absurd ⟨h1, h2⟩ hr⟩
  · intro s h
    refine congrArg Host.Outcome.next (if_neg ?_)
    simp only [Bool.and_eq_true, not_and, Bool.not_eq_true]
    intro ⟨⟨h1, h2⟩, h3⟩
    simpa [h1, h2, h3] using h
  · intro s hr hh hp ho
    have due : exec .holdExpiry s = .next (oneCycle holdOut s) := congrArg Host.Outcome.next (if_pos (by simp [hr, hh, hp, ho]))
    refine ⟨_, due, ?_⟩
    rw [oneCycle_pair, oneCycle_host, oneCycle_meter, oneCycle_loops, oneCycle_axes, oneCycle_logic, oneCycle_can]
    by_cases hf : s.pair.fail = true ∧ s.pair.grant = true ∧ s.pair.failsafe = false
    · obtain ⟨others, pair, frames, logic, axes, loops⟩ := failsafe_holdOut hf
      obtain ⟨params, meter, -⟩ : _ ∧ _ ∧ _ := by simpa only [bystanders, Prod.mk.injEq] using others
      rw [pair]
      exact ⟨rfl, rfl, rfl, params, meter, fun h => absurd hf (by rcases h with h | h | h <;> simp [h]),
        fun _ _ _ => ⟨rfl, frames, logic, axes, loops⟩⟩
    · have h := reported_holdEnd s
      obtain ⟨params, meter, -⟩ : _ ∧ _ ∧ _ := by simpa only [bystanders, Prod.mk.injEq] using h.bystanders
      rw [holdOut_plain hf, h.pair, h.loops, h.axes, h.logic, h.can]
      exact ⟨rfl, rfl, rfl, params, meter, fun _ => ⟨rfl, rfl, rfl, rfl, rfl⟩, fun h1 h2 h3 => absurd ⟨h1, h2, h3⟩ hf⟩
  · intro s
    refine congrArg Host.Outcome.next ?_
    unfold heartbeat
    simp only [Bool.and_eq_true, and_assoc, beq_iff_eq, Bool.not_eq_true']
    rfl
  · intro s
    exact healthWord_bits
  · intro m s ht hp he
    have pair := takenState_pair 0x1111 m s
    refine ⟨failLatch 1 (takenState 0x1111 m s), ?_, ?_⟩
    · refine mailOut_answers_of_payload (body := pairFailSet) ht hp ?_
      rw [pairFailSet, if_neg (by simp), if_neg]
      rw [(samePanel_takenState 0x1111 m s).enabled_eq, he]
      decide
    · have loops : (failLatch 1 (takenState 0x1111 m s)).loops = s.loops := (sameMain (mainPart_failLatch 1 _)).loops.trans (takenState_plant ..).1
      have params : (failLatch 1 (takenState 0x1111 m s)).host.params = s.host.params :=
        (failLatch_params ..).trans (takenState_params ..)
      cases hf : s.pair.fail
      · obtain ⟨fail, cause, hold⟩ := failLatch_spec (s := takenState 0x1111 m s) (by rw [pair]; exact hf) 1
        rw [pair] at hold
        exact ⟨fail, nofun, fun _ => ⟨cause, hold⟩, loops, params⟩
      · have same := failLatch_set (s := takenState 0x1111 m s) (by rw [pair]; exact hf) 1
        rw [same, pair]
        rw [same] at loops params
        exact ⟨hf, fun _ => rfl, nofun, loops, params⟩
  · intro m s ht hp he
    refine mailOut_refuses_of_payload (body := pairFailSet) ht hp ?_
    rw [pairFailSet, if_neg (by simp), if_pos]
    rw [(samePanel_takenState 0x1111 m s).enabled_eq, he]
    rfl
  · intro m s ht hp
    refine mailOut_answers_of_payload (body := pairStatusGet) ht hp ?_
    have bulk (k : Nat) : latestBulk (takenState 0x1110 m s) k = latestBulk s k := by
      unfold latestBulk pairRole
      rw [takenState_pair]
    have bulks : latestBulk (takenState 0x1110 m s) = latestBulk s := funext bulk
    unfold pairStatusGet pairStatus pairRole
    rw [if_neg (by simp), bulks]
    simp only [takenState_pair, takenState_unitB]
    rfl
  · intro m s ht hp
    have pair := takenState_pair 0x1112 m s
    have unit := (samePanel_takenState 0x1112 m s).enabled_eq 0x11 0
    have standby : s.pair.running = true ∧ s.pair.hold = false ∧ s.pair.grant = false ∧ s.pair.straitUp = true ↔
        ¬ (pairRole s ≠ 2 ∨ s.pair.straitUp = false) := by
      unfold pairRole
      cases s.pair.running <;> cases s.pair.hold <;> cases s.pair.grant <;> simp
    have role : pairRole (takenState 0x1112 m s) = pairRole s := by
      unfold pairRole
      rw [pair]
    by_cases he : enabled s 0x11 0 = false
    · rw [if_pos he]
      refine mailOut_refuses_of_payload (body := pairResync) ht hp ?_
      rw [pairResync, if_neg (by simp), if_pos (by simp [unit, he])]
    · by_cases hs : pairRole s ≠ 2 ∨ s.pair.straitUp = false
      · rw [if_neg he, if_neg (fun h => standby.mp h hs)]
        refine mailOut_refuses_of_payload (body := pairResync) ht hp ?_
        rw [pairResync, if_neg (by simp), if_neg (by simp [unit, he]), role, pair, if_pos hs]
      · rw [if_neg he, if_pos (standby.mpr hs)]
        refine mailOut_answers_of_payload (body := pairResync) ht hp ?_
        rw [pairResync, if_neg (by simp), if_neg (by simp [unit, he]), role, pair, if_neg hs]

end Sys2Proof.Machine
end

section
/-! SUPPORT. The event recorder as it is written: a slot of the circulating area, the status sector, a position that is left, and the
sectors that wear (R546 to R556). -/

namespace Sys2Proof.Machine

section
variable {s t : State} {r : RecorderSt} {p z : RingPos} {x : Rec} {ring pos q : Nat}

/-! ### Positions (R549, R553) -/

theorem modNth_eq_set {α : Type} {l : List α} {i : Nat} {a : α} (h : l[i]? = some a) (f : α → α) : modNth l i f = l.set i (f a) := by
  refine List.ext_getElem? fun j => ?_
  by_cases hj : j = i
  · rw [hj, getElem?_modNth_same, h, List.getElem?_set_self (List.getElem?_eq_some_iff.mp h).1]
    rfl
  · rw [getElem?_modNth_other _ _ _ _ hj, List.getElem?_set_ne (Ne.symm hj)]

theorem set_getElem?_self {α : Type} {l : List α} {i : Nat} {a : α} (h : l[i]? = some a) : l.set i a = l := by
  obtain ⟨hi, rfl⟩ := List.getElem?_eq_some_iff.mp h
  exact List.set_getElem_self hi

/-- A position whose sector is erased. -/
def erased (p : RingPos) : RingPos := { p with slots := [], saves := [], erases := p.erases + 1 }

/-- A position with one slot more. -/
def slotAdded (x : Slot) (p : RingPos) : RingPos := { p with slots := p.slots ++ [x] }

/-- Whether position `q` may take records. -/
def usableAt (l : List RingPos) (q : Nat) : Bool := l[q]?.any posUsable

theorem usableAt_of (h : r.circ[q]? = some p) : usableAt r.circ q = posUsable p := by rw [usableAt, h, Option.any_some]

theorem nextPos_eq (l : List RingPos) (p : Nat) :
    nextPos l p = ((upTo l.length).map (fun k => (p + 1 + k) % l.length)).find? (usableAt l) := by
  refine congrArg (fun f => List.find? f _) (funext fun q => ?_)
  unfold usableAt
  cases l[q]? <;> rfl

theorem nextPos_usable {l : List RingPos} (h : nextPos l pos = some q) : usableAt l q = true := by
  rw [nextPos_eq] at h
  exact List.find?_some h

/-- What comes next depends on which positions may take records alone. -/
theorem nextPos_congr {l m : List RingPos} (hl : m.length = l.length) (hu : usableAt m = usableAt l) (p : Nat) :
    nextPos m p = nextPos l p := by
  rw [nextPos_eq, nextPos_eq, hl, hu]

theorem usableAt_modNth_kept {l : List RingPos} {f : RingPos → RingPos} (h : ∀ p, posUsable (f p) = posUsable p := by intro _; rfl)
    (i : Nat) : usableAt (modNth l i f) = usableAt l := by
  funext j
  unfold usableAt
  by_cases hj : j = i
  · rw [hj, getElem?_modNth_same, Option.any_map]
    exact congrArg (fun g => Option.any g l[i]?) (funext h)
  · rw [getElem?_modNth_other _ _ _ _ hj]

theorem nextPos_modNth_kept {l : List RingPos} {f : RingPos → RingPos} (h : ∀ p, posUsable (f p) = posUsable p := by intro _; rfl)
    (i p : Nat) : nextPos (modNth l i f) p = nextPos l p :=
  nextPos_congr (length_modNth ..) (usableAt_modNth_kept h i) p

/-- A position that fails is not gone to; where another one was next, that one still is. -/
theorem nextPos_failed {l : List RingPos} {f : RingPos → RingPos} (h : ∀ p, posUsable (f p) = false) (hq : nextPos l pos = some q)
    (hne : q ≠ pos) : nextPos (modNth l pos f) pos = some q := by
  have other (j : Nat) (hj : j ≠ pos) : usableAt (modNth l pos f) j = usableAt l j := by
    unfold usableAt
    rw [getElem?_modNth_other _ _ _ _ hj]
  have own : usableAt (modNth l pos f) pos = false := by
    unfold usableAt
    rw [getElem?_modNth_same, Option.any_map]
    cases l[pos]? with
    | none => rfl
    | some p => exact h p
  rw [nextPos_eq, List.find?_eq_some_iff_append] at hq ⊢
  obtain ⟨hu, a, b, hab, hn⟩ := hq
  rw [length_modNth]
  refine ⟨(other q hne).trans hu, a, b, hab, fun j hj => ?_⟩
  by_cases e : j = pos
  · rw [e, own]
    rfl
  · rw [other j e]
    exact hn j hj

/-! ### What the recorder itself raises (R542, R544) -/

/-- The recorder with one event more. -/
def recWritten (code src p1 p2 p3 : Nat) (s : State) : RecorderSt :=
  { s.recorder with
    buf := s.recorder.buf ++ [{
      code, flags := b2n (pinnedCode code) + 2 * b2n s.recorder.ramOnly + 4 * b2n s.mgmt.minimal, source := src
      seq := s.recorder.seqAon, ont := s.time.ont, p1 := p1 % 2 ^ 32, p2 := p2 % 2 ^ 32, p3 := p3 % 2 ^ 32 }]
    seqAon := (s.recorder.seqAon + 1) % 2 ^ 64 }

/-- The event of the full permanent area is pinned (R551). -/
theorem pinned_flag (a b : Bool) : bit (b2n (pinnedCode 0x1216) + 2 * b2n a + 4 * b2n b) 0 = true := by
  cases a <;> cases b <;> decide

theorem recRaise_room {code src p1 p2 p3 : Nat} (hw : writerRuns s = true) (hb : s.recorder.buf.length < 2048) :
    recRaise code src p1 p2 p3 s = { s with host := setSource src s.host, recorder := recWritten code src p1 p2 p3 s } := by
  have full : ¬ 2048 ≤ s.recorder.buf.length := by omega
  rw [recRaise, raiseBy_runs _ _ _ _ _ _ _ hw, writeRec, if_neg (by simp [full]), if_neg full]
  rfl

/-- An event leaves the areas in NOR alone. -/
theorem raiseBy_areas (rom : Bool) (code src p1 p2 p3 : Nat) (s : State) : ∃ b q v o, (raiseBy rom code src p1 p2 p3 s).recorder =
    { s.recorder with buf := b, seqAon := q, ovfCnt := v, ovfOpen := o } := by
  unfold raiseBy
  split
  · dsimp only
    unfold writeRec
    split
    · exact ⟨_, _, _, _, rfl⟩
    · exact ⟨_, _, _, _, rfl⟩
  · exact ⟨_, _, _, _, rfl⟩

/-! ### The status sector (R550) -/

theorem statusPut_room (x : Slot) (h : s.recorder.status.length < 2047) :
    statusPut x s = onRec (fun r => { r with status := r.status ++ [x] }) s := by
  unfold statusPut
  rw [if_neg (by omega)]
  refine if_neg ?_
  simp only [onRec, List.length_append, List.length_singleton, Bool.and_eq_true, decide_eq_true_eq]
  omega

theorem recRaise_perm (code src p1 p2 p3 : Nat) (s : State) : (recRaise code src p1 p2 p3 s).recorder.perm = s.recorder.perm := by
  obtain ⟨_, _, _, _, h⟩ := raiseBy_areas s.mgmt.minimal code src p1 p2 p3 s
  rw [recRaise, h]

theorem statusPut_perm (x : Slot) (s : State) : (statusPut x s).recorder.perm = s.recorder.perm := by
  unfold statusPut
  split
  · rfl
  · dsimp only
    split
    · exact recRaise_perm ..
    · rfl

theorem statusPut_full (x : Slot) (h : 2048 ≤ s.recorder.status.length) : statusPut x s = s := if_pos h

/-! ### The erase-ahead without levelling (R549) -/

theorem eraseAhead_plain (h : s.recorder.levelling = []) : eraseAhead ring q s = onRec (setPos ring q erased) s := by
  have none' : levelSpare ring q s.recorder = none := by
    unfold levelSpare
    rw [h]
    split <;> rfl
  unfold eraseAhead
  rw [none']
  rfl

/-- The circulating area as its failed write position is left. -/
def circLeft (pos : Nat) (r : RecorderSt) : RecorderSt :=
  if r.circPos = pos then
    match nextPos r.circ pos with
    | some q => { r with circ := modNth r.circ q erased, circPos := q }
    | none => r
  else r

theorem leavePos_plain (h : s.recorder.levelling = []) : leavePos 0 pos s = onRec (circLeft pos) s := by
  have left : onRec (circLeft pos) s = if s.recorder.circPos = pos then
      match nextPos s.recorder.circ pos with
      | some q => onRec (fun r => { r with circ := modNth r.circ q erased, circPos := q }) s
      | none => s
    else s := by
    unfold onRec circLeft
    split
    · split <;> rfl
    · rfl
  rw [left]
  unfold leavePos
  show (if s.recorder.circPos = pos then _ else _) = _
  split
  · show (match nextPos s.recorder.circ pos with | some q => _ | none => _) = _
    cases nextPos s.recorder.circ pos with
    | none => rfl
    | some q =>
      dsimp only
      rw [eraseAhead_plain h]
      rfl
  · rfl

/-! ### A slot of the circulating area (R549) -/

theorem seekPos_usable (hp : s.recorder.circ[s.recorder.circPos]? = some p) (hu : posUsable p = true) : seekPos 0 s = s := by
  refine if_pos ?_
  unfold atUsable
  show (match s.recorder.circ[s.recorder.circPos]? with | some p => posUsable p | none => false) = true
  rw [hp]
  exact hu

/-- A usable write position with room takes a slot. -/
theorem circPut_room {y : Slot} (hr : s.recorder.ramOnly = false) (hp : s.recorder.circ[s.recorder.circPos]? = some p)
    (hu : posUsable p = true) (hl : p.slots.length < 2047) :
    circPut y s = onRec (fun r => { r with circ := modNth r.circ r.circPos (slotAdded y) }) s := by
  unfold circPut
  rw [if_neg (by simp [hr]), seekPos_usable hp hu]
  have here : (onRec (setPos 0 s.recorder.circPos (fun p => { p with slots := p.slots ++ [y] })) s).recorder.circ[s.recorder.circPos]? =
      some (slotAdded y p) := (getElem?_modNth_same ..).trans (by rw [hp]; rfl)
  dsimp only
  rw [here]
  dsimp only
  exact if_pos (by simp [slotAdded]; omega)

/-- The slot that fills a position is followed by the erase-ahead of the next good one. -/
theorem circPut_fills {y : Slot} (hr : s.recorder.ramOnly = false) (hp : s.recorder.circ[s.recorder.circPos]? = some p)
    (hu : posUsable p = true) (hl : p.slots.length = 2047) (hq : nextPos s.recorder.circ s.recorder.circPos = some q)
    (he : s.recorder.levelling = []) :
    circPut y s = onRec (fun r => { r with circ := modNth (modNth r.circ r.circPos (slotAdded y)) q erased, circPos := q }) s := by
  unfold circPut
  rw [if_neg (by simp [hr]), seekPos_usable hp hu]
  have here : (onRec (setPos 0 s.recorder.circPos (fun p => { p with slots := p.slots ++ [y] })) s).recorder.circ[s.recorder.circPos]? =
      some (slotAdded y p) := (getElem?_modNth_same ..).trans (by rw [hp]; rfl)
  have next : nextPos (onRec (setPos 0 s.recorder.circPos (fun p => { p with slots := p.slots ++ [y] })) s).recorder.circ
      s.recorder.circPos = some q := (nextPos_modNth_kept ..).trans hq
  dsimp only
  rw [here]
  dsimp only
  rw [if_neg (by simp [slotAdded]; omega), next]
  dsimp only
  rw [eraseAhead_plain (s := onRec (setPos 0 s.recorder.circPos (fun p => { p with slots := p.slots ++ [y] })) s) he]
  rfl

/-- From `s` to `t` the circulating area has been written, and not at position `j`, which takes no records. -/
structure CircOnly (j : Nat) (s t : State) : Prop where
  eq : t = { s with recorder := { s.recorder with circ := t.recorder.circ, circPos := t.recorder.circPos } }
  kept : t.recorder.circ[j]? = s.recorder.circ[j]?
  away : t.recorder.circPos ≠ j

theorem CircOnly.trans {u : State} (a : CircOnly q s t) (b : CircOnly q t u) : CircOnly q s u := by
  refine ⟨?_, b.kept.trans a.kept, b.away⟩
  rw [b.eq, a.eq]

/-- The next good position is erased and gone to. -/
theorem circOnly_advance {j : Nat} (he : s.recorder.levelling = []) (hj : usableAt s.recorder.circ j = false)
    (hq : nextPos s.recorder.circ pos = some q) : CircOnly j s (onRec (fun r => { r with circPos := q }) (eraseAhead 0 q s)) := by
  have hne : j ≠ q := by
    rintro rfl
    rw [nextPos_usable hq] at hj
    cases hj
  rw [eraseAhead_plain he]
  exact ⟨rfl, getElem?_modNth_other _ _ _ _ hne, Ne.symm hne⟩

theorem circOnly_circPut {j : Nat} {y : Slot} (he : s.recorder.levelling = []) (hj : usableAt s.recorder.circ j = false)
    (ha : s.recorder.circPos ≠ j) : CircOnly j s (circPut y s) := by
  have same : CircOnly j s s := ⟨rfl, rfl, ha⟩
  have sought : CircOnly j s (seekPos 0 s) := by
    unfold seekPos
    split
    · exact same
    · unfold leavePos
      rw [if_pos rfl]
      split
      · next h => exact circOnly_advance he hj h
      · exact same
  unfold circPut
  split
  · exact same
  · generalize seekPos 0 s = u at sought ⊢
    have added : CircOnly j u (onRec (setPos 0 u.recorder.circPos (fun p => { p with slots := p.slots ++ [y] })) u) :=
      ⟨rfl, getElem?_modNth_other _ _ _ _ (Ne.symm sought.away), sought.away⟩
    have b := sought.trans added
    dsimp only
    generalize onRec (setPos 0 u.recorder.circPos (fun p => { p with slots := p.slots ++ [y] })) u = v at b ⊢
    have hv : v.recorder.levelling = [] := by rw [b.eq]; exact he
    have hjv : usableAt v.recorder.circ j = false := by rw [usableAt, b.kept]; exact hj
    split
    · exact b
    · split
      · exact b
      · split
        · exact b
        · next h => exact b.trans (circOnly_advance hv hjv h)

/-! ### A flush (R546, R548) -/

theorem served_writerRuns (h : served s = true) : writerRuns s = true := by
  unfold served inRun at h
  unfold writerRuns
  simp only [Bool.and_eq_true, Bool.or_eq_true] at h ⊢
  obtain ⟨⟨⟨⟨hp, hc⟩, -⟩, -⟩, -⟩ := h
  exact ⟨hp, .inl hc⟩

/-- The buffer as a flush takes its records out. -/
def flushBegun (s : State) : State := onRec (fun r => { r with buf := [], kept := (s.recorder.buf.reverse ++ r.kept).take 2048 }) s

/-- A flush that is due programs the unflushed records one by one. -/
theorem exec_recorderFlush (hs : served s = true) (hb : s.recorder.rebuilt = true) (hr : s.recorder.ramOnly = false)
    (ho : s.recorder.ovfOpen = none) (hh : s.recorder.seqHigh = s.recorder.seqAon / 2 ^ 32)
    (hp : s.recorder.circ[s.recorder.circPos]? = some p) (hu : posUsable p = true) (hd : flushDue s = true) :
    exec .recorderFlush s = .next (s.recorder.buf.foldl (fun s x => programRec x s) (flushBegun s)) := by
  have some' : s.recorder.circ.any posUsable = true := List.any_eq_true.mpr ⟨p, List.mem_of_getElem? hp, hu⟩
  have high : seqHighCheck s = s := if_pos hh.symm
  have l : unflushed s.recorder = s.recorder.buf := by simp [unflushed, hr]
  have taken : onRec (bufTake s.recorder.buf) s = flushBegun s := by simp [flushBegun, onRec, bufTake, hr]
  refine congrArg Host.Outcome.next ((if_pos (by simp [hs, hd])).trans ?_)
  unfold flush
  rw [if_neg (by simp [hb, some']), l, high]
  dsimp only
  rw [taken, overflowReport]
  show List.foldl _ (match s.recorder.ovfOpen with | none => _ | some (n, t) => _) _ = _
  rw [ho]

theorem permAppend_room (h : s.recorder.perm.length < 8191) :
    permAppend x s = onRec (fun r => { r with perm := r.perm ++ [.record x] }) s := by
  rw [permAppend, permPut, if_pos (by omega), if_pos (by omega)]
  exact if_neg (by simp [onRec]; omega)

/-- A record finds room in both areas. -/
theorem programRec_room (hr : s.recorder.ramOnly = false) (hp : s.recorder.circ[s.recorder.circPos]? = some p)
    (hu : posUsable p = true) (hl : p.slots.length < 2047) (hm : s.recorder.perm.length < 8191) :
    programRec x s = onRec (fun r => { r with
      perm := r.perm ++ [.record x], circ := modNth r.circ r.circPos (slotAdded (.record x)), flushEnd := x.seq + 1 }) s := by
  rw [programRec, permAppend_room hm, circPut_room (s := onRec (fun r => { r with perm := r.perm ++ [.record x] }) s) hr hp hu hl]
  rfl

/-- Records in order find room in both areas. -/
theorem foldl_programRec_room (l : List Rec) (hr : s.recorder.ramOnly = false) (hp : s.recorder.circ[s.recorder.circPos]? = some p)
    (hu : posUsable p = true) (hl : p.slots.length + l.length < 2048) (hm : s.recorder.perm.length + l.length < 8192) :
    l.foldl (fun s x => programRec x s) s = onRec (fun r => { r with
      perm := r.perm ++ l.map .record
      circ := r.circ.set r.circPos { p with slots := p.slots ++ l.map .record }
      flushEnd := match l.getLast? with | some x => x.seq + 1 | none => r.flushEnd }) s := by
  induction l generalizing s p with
  | nil =>
    have same : s.recorder.circ.set s.recorder.circPos { p with slots := p.slots ++ [].map .record } = s.recorder.circ := by
      rw [List.map_nil, List.append_nil]
      exact set_getElem?_self hp
    refine Eq.trans (b := { s with recorder := { s.recorder with
      perm := s.recorder.perm ++ [].map .record, circ := s.recorder.circ } }) ?_ ?_
    · rw [List.map_nil, List.append_nil]
      rfl
    · exact congrArg (fun c : List RingPos =>
        ({ s with recorder := { s.recorder with perm := s.recorder.perm ++ [].map Slot.record, circ := c } } : State)) same.symm
  | cons x l ih =>
    rw [List.length_cons] at hl hm
    have one : programRec x s = onRec (fun r => { r with
        perm := r.perm ++ [.record x], circ := r.circ.set r.circPos (slotAdded (.record x) p), flushEnd := x.seq + 1 }) s := by
      rw [programRec_room hr hp hu (by omega) (by omega), onRec, onRec, modNth_eq_set hp]
    have at' : s.recorder.circPos < s.recorder.circ.length := (List.getElem?_eq_some_iff.mp hp).1
    rw [List.foldl_cons, ih (s := programRec x s) (p := slotAdded (.record x) p) (by rw [one]; exact hr)
      (by rw [one]; exact List.getElem?_set_self at') hu (by simp [slotAdded]; omega) (by rw [one]; simp [onRec]; omega), one]
    simp only [onRec, slotAdded, List.set_set, List.append_assoc, List.map_cons, List.singleton_append, List.getLast?_cons]
    cases l.getLast? <;> rfl

/-- What the circulating area is written by. -/
def circPart (s : State) : List RingPos × Nat × Bool := (s.recorder.circ, s.recorder.circPos, s.recorder.ramOnly)

theorem circPart_recRaise (c k a b d : Nat) (s : State) : circPart (recRaise c k a b d s) = circPart s := by
  obtain ⟨_, _, _, _, h⟩ := raiseBy_areas s.mgmt.minimal c k a b d s
  rw [circPart, recRaise, h]
  rfl

theorem circPart_statusPut (y : Slot) (s : State) : circPart (statusPut y s) = circPart s := by
  unfold statusPut
  split
  · rfl
  · dsimp only
    split
    · exact circPart_recRaise ..
    · rfl

theorem circPart_permPut (y : Slot) (s : State) : circPart (permPut y s) = circPart s := by
  unfold permPut
  by_cases h : s.recorder.perm.length < 8192
  · rw [if_pos h]
    dsimp only
    by_cases h' : (onRec (fun r => { r with perm := r.perm ++ [y] }) s).recorder.perm.length = 8192
    · rw [if_pos h']
      exact circPart_recRaise ..
    · rw [if_neg h']
      rfl
  · rw [if_neg h]

/-- A record that enters the permanent area or the status sector leaves the circulating area. -/
theorem circPart_permAppend (x : Rec) (s : State) : circPart (permAppend x s) = circPart s := by
  unfold permAppend
  split
  · exact circPart_permPut ..
  · split
    · exact circPart_statusPut ..
    · rfl

theorem permAppend_last (hw : writerRuns s = true) (hb : s.recorder.buf.length < 2048) (h : s.recorder.perm.length = 8191) :
    (permAppend x s).recorder = recWritten 0x1216 55 (s.recorder.seqAon % 2 ^ 32) 0 0
      (onRec (fun r => { r with perm := r.perm ++ [.record x] }) s) := by
  have full : (onRec (fun r => { r with perm := r.perm ++ [.record x] }) s).recorder.perm.length = 8192 := by
    simp [onRec, h]
  rw [permAppend, permPut, if_pos (by omega), if_pos (by omega)]
  dsimp only
  rw [if_pos full]
  exact congrArg State.recorder (recRaise_room (s := onRec (fun r => { r with perm := r.perm ++ [.record x] }) s) hw hb)

theorem permAppend_plain (h : 8192 ≤ s.recorder.perm.length) (hx : bit x.flags 0 = false) : permAppend x s = s := by
  rw [permAppend, if_neg (by omega), if_neg (by simp [hx])]

theorem permAppend_pinned (h : 8192 ≤ s.recorder.perm.length) (hx : bit x.flags 0 = true) :
    permAppend x s = statusPut (.record x) s := by
  rw [permAppend, if_neg (by omega), if_pos hx, statusWrite]

/-- The slot that fills the status sector is followed by its event, once. -/
theorem statusPut_fills (y : Slot) (hw : writerRuns s = true) (hb : s.recorder.buf.length < 2048) (h : s.recorder.status.length = 2047)
    (hf : s.recorder.statusFullRaised = false) : (statusPut y s).recorder = recWritten 0x1217 55 (s.recorder.seqAon % 2 ^ 32) 0 0
      (onRec (fun r => { r with status := r.status ++ [y], statusFullRaised := true }) s) := by
  have full : (decide (2048 ≤ (onRec (fun r => { r with status := r.status ++ [y] }) s).recorder.status.length) &&
      !(onRec (fun r => { r with status := r.status ++ [y] }) s).recorder.statusFullRaised) = true := by
    simp [onRec, h, hf]
  unfold statusPut
  rw [if_neg (by omega)]
  dsimp only
  rw [if_pos full]
  exact congrArg State.recorder (recRaise_room (s := onRec (fun r => { r with statusFullRaised := true })
    (onRec (fun r => { r with status := r.status ++ [y] }) s)) hw hb)

theorem programRec_circ (hr : s.recorder.ramOnly = false) (hp : s.recorder.circ[s.recorder.circPos]? = some p)
    (hu : posUsable p = true) (hl : p.slots.length < 2047) : (programRec x s).recorder = { (permAppend x s).recorder with
      circ := modNth s.recorder.circ s.recorder.circPos (slotAdded (.record x)), flushEnd := x.seq + 1 } := by
  obtain ⟨hc, hcp, hro⟩ : _ ∧ _ ∧ _ := by simpa only [circPart, Prod.mk.injEq] using circPart_permAppend x s
  rw [programRec]
  generalize permAppend x s = u at *
  rw [circPut_room (hro.trans hr) (by rw [hc, hcp]; exact hp) hu hl, ← hc, ← hcp]
  rfl

theorem programRec_fills (hr : s.recorder.ramOnly = false) (hp : s.recorder.circ[s.recorder.circPos]? = some p)
    (hu : posUsable p = true) (hl : p.slots.length = 2047) (hm : s.recorder.perm.length < 8191)
    (hq : nextPos s.recorder.circ s.recorder.circPos = some q) (he : s.recorder.levelling = []) :
    programRec x s = onRec (fun r => { r with
      perm := r.perm ++ [.record x], circPos := q, flushEnd := x.seq + 1
      circ := modNth (modNth r.circ r.circPos (slotAdded (.record x))) q erased }) s := by
  rw [programRec, permAppend_room hm, circPut_fills (s := onRec (fun r => { r with perm := r.perm ++ [.record x] }) s) hr hp hu hl hq he]
  rfl

/-! ### A position that fails (R550, R553) -/

/-- A position that failed and awaits its spare sector. -/
def failed (p : RingPos) : RingPos := { p with good := false, relocPending := true }

/-- A failed position whose last slot was being programmed. -/
def torn (p : RingPos) : RingPos := { p with slots := p.slots.dropLast ++ [.damaged] }

/-- A failure as the status sector and the recorder note it. -/
def failNoted (pos cause : Nat) (p : RingPos) (s : State) : State :=
  recRaise 0x1212 53 0 pos p.sector (statusWrite (statusRec s 0x1221 (mapP1 0 pos p.sector) cause 0) (onRec (setPos 0 pos failed) s))

/-- The failed position is left, and a record that was lost with it is written again. -/
def failLeft (pos cause : Nat) (s : State) : State :=
  if cause = 1 then leavePos 0 pos s
  else if movedFrom 0 pos (leavePos 0 pos s).recorder then rewriteRec pos (leavePos 0 pos s) else leavePos 0 pos s

theorem sectorFail_eq {cause : Nat} (hp : s.recorder.circ[pos]? = some p) (hu : posUsable p = true) :
    sectorFail 0 pos cause s = failLeft pos cause (failNoted pos cause p s) := by
  have here : (ringOf s.recorder 0)[pos]? = some p := hp
  unfold sectorFail
  rw [here]
  dsimp only
  rw [if_neg (by simp [hu])]
  rfl

theorem failNoted_spec {cause : Nat} (hs : s.recorder.status.length < 2047) (hb : s.recorder.buf.length < 2048) (hw : writerRuns s = true) :
    failNoted pos cause p s = { s with
      host := setSource 53 s.host
      recorder := recWritten 0x1212 53 0 pos p.sector (onRec (fun r => { r with
        circ := modNth r.circ pos failed
        status := r.status ++ [.record (statusRec s 0x1221 (mapP1 0 pos p.sector) cause 0)] }) s) } := by
  unfold failNoted statusWrite
  rw [statusPut_room (s := onRec (setPos 0 pos failed) s) _ hs]
  exact recRaise_room (s := onRec (fun r => { r with
        circ := modNth r.circ pos failed
        status := r.status ++ [.record (statusRec s 0x1221 (mapP1 0 pos p.sector) cause 0)] }) s) hw hb

theorem rewriteRec_record (h : s.recorder.circ[pos]? = some p) (hx : p.slots.getLast? = some (.record x)) :
    rewriteRec pos s = circPut (.record x) (onRec (setPos 0 pos torn) s) := by
  have last : (s.recorder.circ[pos]?).bind (fun p => p.slots.getLast?) = some (.record x) := by rw [h]; exact hx
  unfold rewriteRec
  rw [last]
  rfl

theorem rewriteRec_else (h : s.recorder.circ[pos]? = some p) (hx : ∀ x, p.slots.getLast? ≠ some (.record x)) : rewriteRec pos s = s := by
  have last : (s.recorder.circ[pos]?).bind (fun p => p.slots.getLast?) = p.slots.getLast? := by rw [h]; rfl
  unfold rewriteRec
  rw [last]
  split
  · next x hl => exact absurd hl (hx x)
  · rfl

/-- A failed position at which nothing is written is not left. -/
theorem leavePos_away (h : s.recorder.circPos ≠ pos) : leavePos 0 pos s = s := if_neg h

theorem leavePos_to (h : s.recorder.circPos = pos) (hq : nextPos s.recorder.circ pos = some q) :
    leavePos 0 pos s = onRec (fun r => { r with circPos := q }) (eraseAhead 0 q s) := by
  have next : nextPos (ringOf s.recorder 0) pos = some q := hq
  unfold leavePos
  rw [if_pos (show writePos s.recorder 0 = pos from h), next]
  rfl

theorem leavePos_next (he : s.recorder.levelling = []) (h : s.recorder.circPos = pos) (hq : nextPos s.recorder.circ pos = some q) :
    leavePos 0 pos s = onRec (fun r => { r with circ := modNth r.circ q erased, circPos := q }) s := by
  rw [leavePos_to h hq, eraseAhead_plain he]
  rfl

theorem leavePos_stuck (hq : nextPos s.recorder.circ pos = none) : leavePos 0 pos s = s := by
  have next : nextPos (ringOf s.recorder 0) pos = none := hq
  unfold leavePos
  rw [next]
  split <;> rfl

/-- Only the circulating area is written as a failed position is left; the position keeps all but its torn slot. -/
theorem failLeft_spec {cause : Nat} (he : s.recorder.levelling = []) (hp : s.recorder.circ[pos]? = some p) (hu : posUsable p = false) :
    failLeft pos cause s = { s with recorder := { s.recorder with
      circ := (failLeft pos cause s).recorder.circ, circPos := (failLeft pos cause s).recorder.circPos } } ∧
    ∃ l, (failLeft pos cause s).recorder.circ[pos]? = some { p with slots := l } ∧ (cause = 1 → l = p.slots) := by
  have hj : usableAt s.recorder.circ pos = false := (usableAt_of hp).trans hu
  have left : leavePos 0 pos s = s ∧ s.recorder.circPos = pos ∨ CircOnly pos s (leavePos 0 pos s) := by
    by_cases h : s.recorder.circPos = pos
    · cases hq : nextPos s.recorder.circ pos with
      | none => exact .inl ⟨leavePos_stuck hq, h⟩
      | some q =>
        rw [leavePos_to h hq]
        exact .inr (circOnly_advance he hj hq)
    · rw [leavePos_away h]
      exact .inr ⟨rfl, rfl, h⟩
  rcases left with ⟨e, h⟩ | c
  · have stays : failLeft pos cause s = s := by
      unfold failLeft
      rw [e]
      split
      · rfl
      · exact if_neg (by simp [movedFrom, writePos, h])
    rw [stays]
    exact ⟨rfl, p.slots, hp, fun _ => rfl⟩
  · have kept := c.kept.trans hp
    by_cases h1 : cause = 1
    · have e : failLeft pos cause s = leavePos 0 pos s := if_pos h1
      rw [e]
      exact ⟨c.eq, p.slots, kept, fun _ => rfl⟩
    · have e : failLeft pos cause s = rewriteRec pos (leavePos 0 pos s) := by
        unfold failLeft
        rw [if_neg h1]
        exact if_pos (by simpa [movedFrom, writePos] using c.away)
      rw [e]
      by_cases hx : ∃ x, p.slots.getLast? = some (.record x)
      · obtain ⟨x, hx⟩ := hx
        rw [rewriteRec_record kept hx]
        generalize leavePos 0 pos s = v at c kept
        have hv : v.recorder.levelling = [] := by rw [c.eq]; exact he
        have tornHere : (onRec (setPos 0 pos torn) v).recorder.circ[pos]? = some (torn p) :=
          (getElem?_modNth_same ..).trans (by rw [kept]; rfl)
        have d := circOnly_circPut (s := onRec (setPos 0 pos torn) v) (y := .record x) hv
          ((usableAt_of tornHere).trans hu) c.away
        refine ⟨?_, (torn p).slots, d.kept.trans tornHere, fun h => absurd h h1⟩
        rw [d.eq, c.eq]
        rfl
      · rw [rewriteRec_else kept fun x h => hx ⟨x, h⟩]
        exact ⟨c.eq, p.slots, kept, fun h => absurd h h1⟩

/-- The position that was being written is left for the next good one, where a lost record stands first. -/
theorem failLeft_next {cause : Nat} (he : s.recorder.levelling = []) (hr : s.recorder.ramOnly = false) (h : s.recorder.circPos = pos)
    (hq : nextPos s.recorder.circ pos = some q) (hne : q ≠ pos) (hz : s.recorder.circ[q]? = some z) (hp : s.recorder.circ[pos]? = some p) :
    (failLeft pos cause s).recorder.circPos = q ∧ (cause = 1 → (failLeft pos cause s).recorder.circ[q]? = some (erased z)) ∧
    (∀ x, cause ≠ 1 → p.slots.getLast? = some (.record x) → (failLeft pos cause s).recorder.circ[pos]? = some (torn p) ∧
      (failLeft pos cause s).recorder.circ[q]? = some (slotAdded (.record x) (erased z))) := by
  have zUsable : posUsable z = true := by
    have := nextPos_usable hq
    rwa [usableAt_of hz] at this
  have left := leavePos_next he h hq
  have here : (modNth s.recorder.circ q erased)[q]? = some (erased z) := by rw [getElem?_modNth_same, hz]; rfl
  have there : (modNth s.recorder.circ q erased)[pos]? = some p := (getElem?_modNth_other _ _ _ _ (Ne.symm hne)).trans hp
  by_cases h1 : cause = 1
  · have e : failLeft pos cause s = leavePos 0 pos s := if_pos h1
    rw [e, left]
    exact ⟨rfl, fun _ => here, fun _ hc => absurd h1 hc⟩
  · have e : failLeft pos cause s = rewriteRec pos (leavePos 0 pos s) := by
      unfold failLeft
      rw [if_neg h1, left]
      exact if_pos (by simpa [movedFrom, writePos, onRec] using hne)
    rw [e, left]
    have kept : (onRec (fun r => { r with circ := modNth r.circ q erased, circPos := q }) s).recorder.circ[pos]? = some p := there
    by_cases hx : ∃ x, p.slots.getLast? = some (.record x)
    · obtain ⟨x, hx⟩ := hx
      rw [rewriteRec_record kept hx]
      have zTorn : (onRec (setPos 0 pos torn) (onRec (fun r => { r with
          circ := modNth r.circ q erased, circPos := q }) s)).recorder.circ[q]? = some (erased z) :=
        (getElem?_modNth_other _ _ _ _ hne).trans here
      have room := circPut_room (y := .record x) (p := erased z)
        (s := onRec (setPos 0 pos torn) (onRec (fun r => { r with circ := modNth r.circ q erased, circPos := q }) s)) hr
        zTorn zUsable (by simp [erased])
      rw [room]
      refine ⟨rfl, fun hc => absurd hc h1, fun x' _ hx' => ?_⟩
      rw [hx] at hx'
      cases hx'
      refine ⟨?_, ?_⟩
      · exact (getElem?_modNth_other _ _ _ _ (Ne.symm hne)).trans ((getElem?_modNth_same ..).trans (by rw [kept]; rfl))
      · exact (getElem?_modNth_same ..).trans (congrArg (Option.map _) zTorn)
    · rw [rewriteRec_else kept fun x h => hx ⟨x, h⟩]
      exact ⟨rfl, fun hc => absurd hc h1, fun x _ hx' => absurd ⟨x, hx'⟩ hx⟩

/-! ### Relocation (R553, R554) -/

theorem ringOf_setPos (f : RingPos → RingPos) (r : RecorderSt) : ringOf (setPos ring pos f r) ring = modNth (ringOf r ring) pos f := by
  unfold ringOf setPos
  split <;> rfl

/-- A position with a spare sector mapped to it. -/
def mapped (sec e : Nat) (p : RingPos) : RingPos :=
  { p with sector := sec, erases := e + 1, slots := [], saves := [], good := true, relocPending := false }

/-- The lowest spare sector taken from the pool for a failed one. -/
def spareTaken (p : RingPos) (sec : Nat) (r : RecorderSt) : RecorderSt :=
  { r with
    spare := eraseNat sec r.spare, bad := insertNat p.sector p.erases r.bad, levelling := r.levelling.filter (fun x => x.2.2 != sec) }

theorem relocate_spare {sec e : Nat} (hp : (ringOf s.recorder ring)[pos]? = some p) (hs : s.recorder.spare.head? = some (sec, e)) :
    relocate ring pos s = raise 0x1213 53 ring pos sec (mapSector ring pos sec e (onRec (spareTaken p sec) s)) := by
  have low : lowestSpare s.recorder = some (sec, e) := hs
  unfold relocate
  rw [hp]
  dsimp only
  rw [low]
  rfl

/-- A position that no sector is left for. -/
def droppedPos (p : RingPos) : RingPos := { p with relocPending := false, dropped := true }

theorem relocate_none (hp : (ringOf s.recorder ring)[pos]? = some p) (hs : s.recorder.spare = []) : relocate ring pos s =
    if ring = 0 then ramOnlyCheck pos p.sector (raise 0x1210 52 pos p.sector (goodCount (setPos 0 pos droppedPos s.recorder).circ)
      (onRec (setPos 0 pos droppedPos) s))
    else raise 0x1218 52 pos p.sector (goodCount (setPos ring pos droppedPos s.recorder).save) (onRec (setPos ring pos droppedPos) s) := by
  have low : lowestSpare s.recorder = none := by rw [lowestSpare, hs]; rfl
  unfold relocate
  rw [hp]
  dsimp only
  rw [low]
  by_cases h : ring = 0
  · subst h
    rfl
  · simp only [if_neg h]
    rfl

theorem mapSector_recorder {sec e : Nat} (hs : s.recorder.status.length < 2047) : (mapSector ring pos sec e s).recorder =
    { setPos ring pos (mapped sec e) s.recorder with
      status := s.recorder.status ++ [.record (statusRec s 0x1220 (mapP1 ring pos sec) e (mapProgress ring s.recorder))] } := by
  have same : (onRec (setPos ring pos (mapped sec e)) s).recorder.status = s.recorder.status := by
    show (setPos ring pos (mapped sec e) s.recorder).status = _
    unfold setPos
    split <;> rfl
  unfold mapSector statusWrite
  refine (congrArg State.recorder (statusPut_room (s := onRec (setPos ring pos (mapped sec e)) s) _ (by rw [same]; exact hs))).trans ?_
  rw [onRec, same]
  rfl

/-- A position dropped is one good one fewer. -/
theorem goodCount_dropped {l : List RingPos} (hp : l[pos]? = some p) (hd : p.dropped = false) :
    goodCount (modNth l pos droppedPos) + 1 = goodCount l := by
  obtain ⟨hi, rfl⟩ := List.getElem?_eq_some_iff.mp hp
  have one : 0 < l.countP (fun p => !p.dropped) := List.countP_pos_iff.mpr ⟨l[pos], List.getElem_mem hi, by simp [hd]⟩
  unfold goodCount
  rw [← List.countP_eq_length_filter, ← List.countP_eq_length_filter, modNth_eq_set hp, List.countP_set hi]
  simp only [hd, droppedPos]
  simp
  omega

theorem ramOnlyCheck_spec (sec : Nat) (s : State) : (ramOnlyCheck pos sec s).recorder.circ = s.recorder.circ ∧
    (ramOnlyCheck pos sec s).recorder.status = s.recorder.status ∧
    (ramOnlyCheck pos sec s).recorder.ramOnly = (s.recorder.ramOnly || decide (goodCount s.recorder.circ < 4)) := by
  have reported (s : State) : ∃ b q v o, (overflowReport s).recorder =
      { s.recorder with buf := b, seqAon := q, ovfCnt := v, ovfOpen := o } := by
    unfold overflowReport
    split
    · exact ⟨_, _, _, _, rfl⟩
    · obtain ⟨b, q, v, o, h⟩ := raiseBy_areas false 0x1214 54 _ _ 0 (onRec (fun r => { r with ovfOpen := none }) s)
      exact ⟨b, q, v, o, h⟩
  unfold ramOnlyCheck raise
  by_cases h : (goodCount s.recorder.circ < 4 && !s.recorder.ramOnly) = true
  · rw [if_pos h]
    obtain ⟨_, _, _, _, e⟩ := reported (onRec (fun r => { r with
      ramOnly := true, kept := [], buf := (r.kept.reverse ++ r.buf).drop (r.kept.length + r.buf.length - 2048) }) s)
    obtain ⟨_, _, _, _, e'⟩ := raiseBy_areas false 0x1211 52 pos sec (goodCount s.recorder.circ) (overflowReport (onRec (fun r => { r with
      ramOnly := true, kept := [], buf := (r.kept.reverse ++ r.buf).drop (r.kept.length + r.buf.length - 2048) }) s))
    rw [e', e]
    simp only [Bool.and_eq_true, decide_eq_true_eq] at h
    simp [onRec, h.1]
  · rw [if_neg h]
    simp only [Bool.and_eq_true, decide_eq_true_eq, Bool.not_eq_true', not_and, Bool.not_eq_false] at h
    refine ⟨rfl, rfl, ?_⟩
    by_cases hg : goodCount s.recorder.circ < 4
    · rw [h hg, Bool.true_or]
    · simp [hg]

/-! ### Levelling (R555) -/

theorem leastWorn_spec (l : List (Nat × Nat)) : (l ≠ [] → ∃ x, leastWorn l = some x) ∧
    ∀ x, leastWorn l = some x → x ∈ l ∧ ∀ y ∈ l, x.2 ≤ y.2 := by
  induction l with
  | nil => exact ⟨fun h => absurd rfl h, nofun⟩
  | cons a l ih =>
    obtain ⟨found, least⟩ := ih
    cases hl : leastWorn l with
    | none =>
      have empty : l = [] := by
        by_contra h
        obtain ⟨x, hx⟩ := found h
        rw [hl] at hx
        cases hx
      have e : leastWorn (a :: l) = some a := by simp only [leastWorn, hl]
      rw [e, empty]
      exact ⟨fun _ => ⟨a, rfl⟩, by rintro x ⟨⟩; simp⟩
    | some b =>
      obtain ⟨hb, hle⟩ := least b hl
      have e : leastWorn (a :: l) = if b.2 < a.2 then some b else some a := by simp only [leastWorn, hl]
      rw [e]
      split
      · refine ⟨fun _ => ⟨b, rfl⟩, ?_⟩
        rintro x ⟨⟩
        refine ⟨List.mem_cons_of_mem _ hb, fun y hy => ?_⟩
        rcases List.mem_cons.mp hy with rfl | hy
        · omega
        · exact hle y hy
      · refine ⟨fun _ => ⟨a, rfl⟩, ?_⟩
        rintro x ⟨⟩
        refine ⟨List.mem_cons_self .., fun y hy => ?_⟩
        rcases List.mem_cons.mp hy with rfl | hy
        · exact le_rfl
        · exact le_trans (by omega) (hle y hy)

theorem mem_freeSpares (r : RecorderSt) (x : Nat × Nat) : x ∈ freeSpares r ↔ x ∈ r.spare ∧ ∀ y ∈ r.levelling, y.2.2 ≠ x.1 := by
  simp [freeSpares]

end

/-- Settles O57. A slot lost with its position, a flush in one step and levelling from 20,000 on are the model's choices (log 32). -/
theorem recorderWriting : Obligations.RecorderWriting := by
  unfold Obligations.RecorderWriting
  refine ⟨?_, ?_, ?_, ?_, ?_, ?_, ?_, ?_, ?_, mem_freeSpares, ?_⟩
  · intro s h
    refine congrArg Host.Outcome.next ?_
    rcases h with ⟨h1, h2⟩ | h | h
    · exact if_neg (by simp [h1, h2])
    · split
      · exact if_pos (by simp [h])
      · rfl
    · exact if_neg (by simp [h])
  · rintro s r p rfl hs hb hr ho hh hm hp hl hu hd
    rw [exec_recorderFlush hs hb hr ho hh hp hu hd, foldl_programRec_room (s := flushBegun s) _ hr hp hu hl hm]
    rfl
  · rintro s r p z x q rfl hs hb hr ho hh hx hm hp hl hq hne hz he hu hd
    refine ⟨_, exec_recorderFlush hs hb hr ho hh hp hu hd, ?_⟩
    rw [hx, List.foldl_cons, List.foldl_nil, programRec_fills (s := flushBegun s) hr hp hu hl hm hq he]
    have there : (modNth s.recorder.circ s.recorder.circPos (slotAdded (.record x)))[q]? = some z :=
      (getElem?_modNth_other _ _ _ _ hne).trans hz
    refine ⟨rfl, rfl, ?_, ?_, fun j h1 h2 => ?_, rfl, rfl⟩
    · exact (getElem?_modNth_other _ _ _ _ (Ne.symm hne)).trans ((getElem?_modNth_same ..).trans (congrArg (Option.map _) hp))
    · exact (getElem?_modNth_same ..).trans (congrArg (Option.map _) there)
    · exact (getElem?_modNth_other _ _ _ _ h1).trans (getElem?_modNth_other _ _ _ _ h2)
  · rintro s r p x rfl hs hb hr ho hh hx hp hl hu hd
    refine ⟨_, exec_recorderFlush hs hb hr ho hh hp hu hd, ?_⟩
    have hw := served_writerRuns hs
    rw [hx, List.foldl_cons, List.foldl_nil]
    generalize hv : flushBegun s = v
    have vw : writerRuns v = true := by rw [← hv]; exact hw
    have vb : v.recorder.buf = [] := by rw [← hv]; rfl
    have vs : v.recorder.status = s.recorder.status := by rw [← hv]; rfl
    have vp : v.recorder.perm = s.recorder.perm := by rw [← hv]; rfl
    have vq : v.recorder.seqAon = s.recorder.seqAon := by rw [← hv]; rfl
    have vf : v.recorder.statusFullRaised = s.recorder.statusFullRaised := by rw [← hv]; rfl
    have vc : v.recorder.circ = s.recorder.circ := by rw [← hv]; rfl
    have vcp : v.recorder.circPos = s.recorder.circPos := by rw [← hv]; rfl
    have vr : v.recorder.ramOnly = false := by rw [← hv]; exact hr
    have vroom : v.recorder.buf.length < 2048 := by rw [vb]; decide
    rw [programRec_circ vr (by rw [vc, vcp]; exact hp) hu hl, vc, vcp]
    have full (hm : s.recorder.perm.length = 8192) : 8192 ≤ v.recorder.perm.length := by rw [vp, hm]
    refine ⟨rfl, ?_, fun hm => ?_, fun hm => ⟨?_, fun hf => ?_, fun hf hst => ?_, fun hf hst hfr => ?_, fun hst => ?_⟩⟩
    · exact (getElem?_modNth_same ..).trans (congrArg (Option.map _) hp)
    · rw [permAppend_last vw vroom (by rw [vp]; exact hm)]
      exact ⟨congrArg (· ++ _) vp, _, congrArg (· ++ _) vb, rfl, rfl, pinned_flag .., by rw [vq]; simp [onRec]⟩
    · cases hf : bit x.flags 0
      · rw [permAppend_plain (full hm) hf]
        exact vp
      · rw [permAppend_pinned (full hm) hf]
        exact (statusPut_perm ..).trans vp
    · rw [permAppend_plain (full hm) hf]
      exact ⟨vs, vb⟩
    · rw [permAppend_pinned (full hm) hf, statusPut_room _ (by rw [vs]; exact hst)]
      exact ⟨congrArg (· ++ _) vs, vb⟩
    · rw [permAppend_pinned (full hm) hf, statusPut_fills _ vw vroom (by rw [vs]; exact hst) (by rw [vf]; exact hfr)]
      exact ⟨congrArg (· ++ _) vs, _, congrArg (· ++ _) vb, rfl, rfl⟩
    · cases hf : bit x.flags 0
      · rw [permAppend_plain (full hm) hf]
        exact vs
      · rw [permAppend_pinned (full hm) hf, statusPut_full _ (by rw [vs, hst])]
        exact vs
  · intro s ring pos cause h
    refine congrArg Host.Outcome.next ?_
    unfold sectorFail
    cases hp : (ringOf s.recorder ring)[pos]? with
    | none => rfl
    | some p => exact if_pos (by simp [h p hp])
  · rintro s r pos cause p rfl hp hu hst he hb hw
    have noted := failNoted_spec (pos := pos) (p := p) (cause := cause) hst hb hw
    have e : exec (.norSectorFail 0 pos cause) s = .next (failLeft pos cause (failNoted pos cause p s)) :=
      congrArg Host.Outcome.next (sectorFail_eq hp hu)
    generalize failNoted pos cause p s = v at noted e
    have vl : v.recorder.levelling = [] := by rw [noted]; exact he
    have vr : v.recorder.ramOnly = s.recorder.ramOnly := by rw [noted]; rfl
    have vcp : v.recorder.circPos = s.recorder.circPos := by rw [noted]; rfl
    have vc : v.recorder.circ = modNth s.recorder.circ pos failed := by rw [noted]; rfl
    have vp : v.recorder.circ[pos]? = some (failed p) := by rw [vc, getElem?_modNth_same, hp]; rfl
    obtain ⟨frame, l, here, whole⟩ := failLeft_spec (cause := cause) vl vp rfl
    have dropped : p.dropped = false := by
      have u := hu
      simp only [posUsable, Bool.and_eq_true, Bool.not_eq_true'] at u
      exact u.2
    refine ⟨_, { failed p with slots := l }, e, ?_, ?_, here, rfl, rfl, dropped, rfl, ?_, ?_, ?_, whole, ?_, ?_⟩
    · have name : mapP1 0 pos p.sector = pos * 256 + p.sector * 65536 := by
        rw [mapP1]
        omega
      rw [frame, noted, name]
      rfl
    · rw [frame, noted]
      exact ⟨_, rfl, rfl, rfl, rfl, rfl, rfl, rfl, rfl⟩
    · rw [frame, noted]
      rfl
    · rw [frame, noted]
      rfl
    · rw [frame, noted]
      exact setSource_mbox ..
    · intro h1 ha
      have stays : failLeft pos cause v = v := (if_pos h1).trans (leavePos_away (by rw [vcp]; exact ha))
      rw [stays, vc, vcp]
      exact ⟨rfl, fun j hj => getElem?_modNth_other _ _ _ _ hj⟩
    · intro q z hr hcp hq hne hz
      have vz : v.recorder.circ[q]? = some z := by rw [vc, getElem?_modNth_other _ _ _ _ hne, hz]
      have vq : nextPos v.recorder.circ pos = some q := by
        rw [vc]
        exact nextPos_failed (fun _ => rfl) hq hne
      obtain ⟨moved, erased', again⟩ := failLeft_next (cause := cause) vl (vr.trans hr) (vcp.trans hcp) vq hne vz vp
      refine ⟨moved, erased', fun x h1 hx => ?_⟩
      obtain ⟨own, next⟩ := again x h1 hx
      rw [here, Option.some.injEq] at own
      exact ⟨congrArg RingPos.slots own, next⟩
  · intro s h
    refine congrArg Host.Outcome.next ?_
    rcases h with h | h
    · exact if_neg (by simp [h])
    · rw [h]
      split <;> rfl
  · rintro s r l ring pos sec e p rfl hw hf hp hst
    have one : exec .relocation s = .next (relocate ring pos s) := by
      refine congrArg Host.Outcome.next ((if_pos hw).trans ?_)
      rw [hf]
    refine ⟨fun hs => ⟨_, one, ?_⟩, fun hs hd => ⟨_, one, ?_⟩⟩
    · obtain ⟨_, _, _, _, raised⟩ := raiseBy_areas false 0x1213 53 ring pos sec (mapSector ring pos sec e (onRec (spareTaken p sec) s))
      rw [relocate_spare hp hs, raise, raised, mapSector_recorder (s := onRec (spareTaken p sec) s) hst]
      by_cases h : ring = 0
      · subst h
        refine ⟨rfl, ?_, fun j hj => ?_, rfl, rfl, rfl, rfl⟩
        · exact (getElem?_modNth_same ..).trans (congrArg (Option.map _) hp)
        · exact getElem?_modNth_other _ _ _ _ hj
      · have rg (r : RecorderSt) : ringOf r ring = r.save := if_neg h
        have sp (r : RecorderSt) : setPos ring pos (mapped sec e) r = { r with save := modNth r.save pos (mapped sec e) } := if_neg h
        rw [rg] at hp
        simp only [rg, sp, if_neg h, mapProgress]
        refine ⟨rfl, ?_, fun j hj => ?_, rfl, rfl, rfl, rfl⟩
        · exact (getElem?_modNth_same ..).trans (congrArg (Option.map _) hp)
        · exact getElem?_modNth_other _ _ _ _ hj
    · rw [relocate_none hp hs]
      by_cases h : ring = 0
      · subst h
        rw [if_pos rfl]
        obtain ⟨circ, status, ram⟩ := ramOnlyCheck_spec (pos := pos) p.sector (raise 0x1210 52 pos p.sector
          (goodCount (setPos 0 pos droppedPos s.recorder).circ) (onRec (setPos 0 pos droppedPos) s))
        obtain ⟨_, _, _, _, raised⟩ := raiseBy_areas false 0x1210 52 pos p.sector
          (goodCount (setPos 0 pos droppedPos s.recorder).circ) (onRec (setPos 0 pos droppedPos) s)
        have fewer : goodCount (modNth s.recorder.circ pos droppedPos) + 1 = goodCount s.recorder.circ := goodCount_dropped hp hd
        rw [← raise] at raised
        rw [raised] at circ status ram
        generalize ramOnlyCheck _ _ _ = v at *
        have c : v.recorder.circ = modNth s.recorder.circ pos droppedPos := circ
        have o : v.recorder.ramOnly = (s.recorder.ramOnly || decide (goodCount (modNth s.recorder.circ pos droppedPos) < 4)) := ram
        refine ⟨?_, status, fun _ => ⟨by rw [c]; exact fewer, ?_⟩, fun h => absurd rfl h⟩
        · show v.recorder.circ[pos]? = _
          rw [c, getElem?_modNth_same]
          exact congrArg (Option.map _) hp
        · rw [o, ← fewer]
          congr 2
          exact propext ⟨fun h => by omega, fun h => by omega⟩
      · rw [if_neg h]
        have rg (r : RecorderSt) : ringOf r ring = r.save := if_neg h
        have sp : setPos ring pos droppedPos s.recorder = { s.recorder with save := modNth s.recorder.save pos droppedPos } := if_neg h
        obtain ⟨_, _, _, _, raised⟩ := raiseBy_areas false 0x1218 52 pos p.sector
          (goodCount (setPos ring pos droppedPos s.recorder).save) (onRec (setPos ring pos droppedPos) s)
        rw [raise, raised, rg]
        rw [rg] at hp
        have fewer : goodCount (modNth s.recorder.save pos droppedPos) + 1 = goodCount s.recorder.save := goodCount_dropped hp hd
        have at' : (onRec (setPos ring pos droppedPos) s).recorder = { s.recorder with save := modNth s.recorder.save pos droppedPos } := sp
        rw [at']
        exact ⟨(getElem?_modNth_same ..).trans (congrArg (Option.map _) hp), rfl, fun h0 => absurd h0 h, fun _ => ⟨fewer, rfl, rfl⟩⟩
  · intro s ring pos sp e p hw hp hu hl hsp hge
    obtain ⟨some', least⟩ := leastWorn_spec (freeSpares s.recorder)
    obtain ⟨⟨a, b⟩, hab⟩ := some' (List.ne_nil_of_mem hsp)
    obtain ⟨mem, le⟩ := least _ hab
    refine ⟨a, b, mem, le, congrArg Host.Outcome.next ?_⟩
    have lb : b ≤ e := le _ hsp
    rw [if_pos, hp, hab]
    · exact if_pos ⟨hu, by omega⟩
    · simpa [hw] using hl
  · intro s ring pos h
    refine congrArg Host.Outcome.next ?_
    split
    · obtain ⟨-, least⟩ := leastWorn_spec (freeSpares s.recorder)
      split
      · next p sp e hp hle =>
        have := h p hp _ (least _ hle).1
        exact if_neg fun hc => by omega
      · rfl
    · rfl

end Sys2Proof.Machine
end

section
/-! SUPPORT. The CAN FD controllers: what a frame's end, an error and a trigger leave of the part, and what they make of the controller
(R474 to R483). -/

namespace Sys2Proof.Machine

section
variable {s t u : State} {c o : Nat} {x y : CanSt}

/-! ### What a controller's work leaves -/

/-- From `s` to `t` of the controllers only `c` has changed, nothing left the part, and the pair's levels, the loops and the parameters
stand. -/
structure CanTurn (c : Nat) (s t : State) : Prop where
  others : ∀ j, j ≠ c → t.can[j]? = s.can[j]?
  loops : t.loops = s.loops
  params : t.host.params = s.host.params
  out : outSent t = outSent s
  standby : standby t = standby s

theorem CanTurn.refl (c : Nat) (s : State) : CanTurn c s s := ⟨fun _ _ => rfl, rfl, rfl, rfl, rfl⟩

theorem CanTurn.trans (a : CanTurn c s t) (b : CanTurn c t u) : CanTurn c s u :=
  ⟨fun j hj => (b.others j hj).trans (a.others j hj), b.loops.trans a.loops, b.params.trans a.params, b.out.trans a.out,
    b.standby.trans a.standby⟩

theorem CanTurn.reported (a : CanTurn c s t) (b : Reported t u) : CanTurn c s u := by
  refine a.trans ⟨fun j _ => by rw [b.can], b.loops, by rw [b.eq], b.out, ?_⟩
  unfold Machine.standby grant holdLine
  rw [b.pair]

theorem CanTurn.report (a : CanTurn c s t) (e k p q r : Nat) : CanTurn c s (raise e k p q r t) := a.reported (reported_raise ..)

theorem CanTurn.can (a : CanTurn c s t) (f : CanSt → CanSt) : CanTurn c s (onCan c f t) :=
  a.trans ⟨fun _ hj => getElem?_modNth_other _ _ _ _ hj, rfl, rfl, rfl, rfl⟩

theorem CanTurn.commit (a : CanTurn c s t) (p : Nat → Bool) : CanTurn c s (parCommit p t) := a.trans ⟨fun _ _ => rfl, rfl, rfl, rfl, rfl⟩

theorem CanTurn.draws (a : CanTurn c s t) : CanTurn c s t.drawn := a.trans ⟨fun _ _ => rfl, rfl, rfl, rfl, rfl⟩

theorem CanTurn.ite {p : Prop} [Decidable p] (a : CanTurn c s t) (b : CanTurn c s u) : CanTurn c s (if p then t else u) := by
  split
  · exact a
  · exact b

theorem CanTurn.fold {α : Type} {f : State → α → State} (hf : ∀ t a, CanTurn c s t → CanTurn c s (f t a)) (l : List α) (a : CanTurn c s t) :
    CanTurn c s (l.foldl f t) := by
  induction l generalizing t with
  | nil => exact a
  | cons x l ih => exact ih (hf t x a)

theorem CanTurn.held (a : CanTurn c s t) (k i : Nat) : CanTurn c s (holdSample k i t) := by
  unfold holdSample
  split
  · exact a
  · exact a.trans ⟨fun _ _ => rfl, rfl, rfl, rfl, rfl⟩

theorem CanTurn.offers (a : CanTurn c s t) : CanTurn c s (canOffer c t) := by
  unfold canOffer
  split
  · split
    · exact ((a.commit _).can _).can _
    · exact a
  · exact a

theorem CanTurn.mirrors (a : CanTurn c s t) : CanTurn c s (canMirror c t) := by
  unfold canMirror
  refine .ite a (.fold (fun u o b => ?_) _ a)
  have taken : CanTurn c u (mirrorTake 10 (128 * c + o) u).2 := by
    unfold mirrorTake
    split
    · exact .refl ..
    · split
      · exact .refl ..
      · exact ⟨fun _ _ => rfl, rfl, rfl, rfl, rfl⟩
  have b := b.trans taken
  split
  · next h => rw [h] at b; exact b.can _
  · next h => rw [h] at b; exact b

theorem CanTurn.ends (a : CanTurn c s t) : CanTurn c s (canBoundary c t) := ((a.can _).commit _).mirrors

theorem CanTurn.judges (a : CanTurn c s t) (b : CanSt) : CanTurn c s (canErrState c b t) := by
  unfold canErrState
  exact .ite ((a.can _).report ..) (a.can _)

theorem CanTurn.busOff (a : CanTurn c s t) : CanTurn c s (canBusOff c t) := by
  unfold canBusOff
  exact .ite ((a.can _).report ..) a

theorem CanTurn.protocol (a : CanTurn c s t) (k : Nat) : CanTurn c s (canProtocol c k t) := by
  unfold canProtocol
  exact .ite ((a.can _).report ..) a

theorem CanTurn.errs (a : CanTurn c s t) (k p q : Nat) (d : Bool) : CanTurn c s (canError c k d p q t) :=
  ((a.can _).ends.judges _).busOff

/-! ### What becomes of the controller's objects -/

/-- The objects of a controller one of which was put anew. -/
theorem canObj_insert {v : CanObj} (h : y.objs = insertNat o v x.objs) (j : Nat) : canObj y j = if j = o then v else canObj x j := by
  unfold canObj
  rw [h]
  by_cases hj : j = o
  · rw [if_pos hj, hj, lookupNat_insertNat_same]
    rfl
  · rw [if_neg hj, lookupNat_insertNat_other _ _ hj]

theorem lookupNat_map {α β : Type} (f : α → β) (k : Nat) (l : List (Nat × α)) :
    lookupNat k (l.map (fun p => (p.1, f p.2))) = (lookupNat k l).map f := by
  induction l with
  | nil => rfl
  | cons a l ih =>
    by_cases h : a.1 = k
    · simp [lookupNat, h]
    · simp [lookupNat, h, ih]

/-- An object is as before, but for what a boundary and a new attempt clear and, in STANDBY, the mirrored data. -/
structure ObjKept (mirrored : Bool) (a b : CanObj) : Prop where
  eq : b = { a with data := b.data, handed := b.handed, again := b.again }
  data : mirrored = false → b.data = a.data

/-- Every object is as before in that sense. -/
structure ObjsKept (mirrored : Bool) (x y : CanSt) : Prop where
  each : ∀ o, ObjKept mirrored (canObj x o) (canObj y o)

theorem ObjKept.refl (m : Bool) (a : CanObj) : ObjKept m a a := ⟨rfl, fun _ => rfl⟩

theorem ObjKept.trans {m : Bool} {a b d : CanObj} (h : ObjKept m a b) (k : ObjKept m b d) : ObjKept m a d := by
  refine ⟨?_, fun e => (k.data e).trans (h.data e)⟩
  rw [k.eq, h.eq]

theorem ObjsKept.refl (m : Bool) (x : CanSt) : ObjsKept m x x := ⟨fun _ => .refl ..⟩

theorem ObjsKept.trans {m : Bool} {x y z : CanSt} (a : ObjsKept m x y) (b : ObjsKept m y z) : ObjsKept m x z :=
  ⟨fun o => (a.each o).trans (b.each o)⟩

theorem ObjsKept.insert {m : Bool} {v : CanObj} (h : ObjKept m (canObj x o) v) : ObjsKept m x { x with objs := insertNat o v x.objs } := by
  refine ⟨fun j => ?_⟩
  rw [canObj_insert (y := { x with objs := insertNat o v x.objs }) rfl]
  split
  · next e => exact e ▸ h
  · exact .refl ..

theorem canOf_of_getElem? (h : s.can[c]? = some x) : canOf s c = x := nth_of_getElem? h

theorem onCan_getElem? (h : s.can[c]? = some x) (f : CanSt → CanSt) : (onCan c f s).can[c]? = some (f x) := by
  rw [onCan, getElem?_modNth_same, h]
  rfl

theorem onObj_getElem? (h : s.can[c]? = some x) (f : CanObj → CanObj) :
    (onObj c o f s).can[c]? = some { x with objs := insertNat o (f (canObj x o)) x.objs } := onCan_getElem? h _

theorem mirrorTake_can (k i : Nat) (s : State) : (mirrorTake k i s).2.can = s.can := by
  unfold mirrorTake
  split
  · rfl
  · split <;> rfl

/-- Mirrored data that waits for one object enters it. -/
def mirrorInto (c : Nat) (s : State) (o : Nat) : State :=
  match mirrorTake 10 (128 * c + o) s with
  | (some b, s) => onObj c o (fun x => { x with data := b.take 64 }) s
  | (none, s) => s

theorem mirrorInto_spec (o : Nat) (h : s.can[c]? = some x) : ∃ l, (mirrorInto c s o).can[c]? = some { x with objs := l } ∧
    ObjsKept true x { x with objs := l } := by
  have same := mirrorTake_can 10 (128 * c + o) s
  unfold mirrorInto
  generalize mirrorTake 10 (128 * c + o) s = r at same ⊢
  obtain ⟨m, v⟩ := r
  have hv : v.can[c]? = some x := (congrArg (·[c]?) same).trans h
  cases m with
  | none => exact ⟨x.objs, hv, .refl ..⟩
  | some b => exact ⟨_, onObj_getElem? hv _, .insert ⟨rfl, nofun⟩⟩

/-- The controller takes mirrored data in STANDBY alone. -/
theorem canMirror_spec (h : s.can[c]? = some x) : ∃ l, (canMirror c s).can[c]? = some { x with objs := l } ∧
    ObjsKept (standby s) x { x with objs := l } := by
  have round (os : List Nat) (s : State) (x : CanSt) (h : s.can[c]? = some x) :
      ∃ l, (os.foldl (mirrorInto c) s).can[c]? = some { x with objs := l } ∧ ObjsKept true x { x with objs := l } := by
    induction os generalizing s x with
    | nil => exact ⟨x.objs, h, .refl ..⟩
    | cons o os ih =>
      obtain ⟨l, h1, k1⟩ := mirrorInto_spec o h
      obtain ⟨l', h2, k2⟩ := ih _ _ h1
      exact ⟨l', h2, k1.trans k2⟩
  unfold canMirror
  cases hs : standby s
  · exact ⟨x.objs, h, .refl ..⟩
  · exact round _ s x h

/-- An object whose commit period has ended. -/
def handCleared (a : CanObj) : CanObj := { a with handed := [] }

/-- The objects of a controller whose commit period has ended. -/
def handsCleared (x : CanSt) : List (Nat × CanObj) := x.objs.map (fun p => (p.1, handCleared p.2))

theorem objsKept_handsCleared (m : Bool) (x : CanSt) : ObjsKept m x { x with cur := none, objs := handsCleared x } := by
  refine ⟨fun o => ?_⟩
  have e : canObj { x with cur := none, objs := handsCleared x } o = handCleared (canObj x o) := by
    show (lookupNat o (handsCleared x)).getD {} = _
    rw [handsCleared, lookupNat_map, canObj]
    cases lookupNat o x.objs <;> rfl
  rw [e]
  exact ⟨rfl, fun _ => rfl⟩

/-- A frame boundary clears what the frame and its commit period held. -/
theorem canBoundary_spec (h : s.can[c]? = some x) : ∃ l, (canBoundary c s).can[c]? = some { x with cur := none, objs := l } ∧
    ObjsKept (standby s) x { x with cur := none, objs := l } := by
  obtain ⟨l, h', k⟩ := canMirror_spec (s := parCommit (canParams c) (onCan c (fun x => { x with cur := none, objs := handsCleared x }) s))
    (onCan_getElem? h _)
  exact ⟨l, h', (objsKept_handsCleared _ x).trans k⟩

/-- The error state that the counts give a controller on the bus (R475). -/
def errState (x : CanSt) : Nat := if x.state = 2 ∨ x.state = 3 then (if 128 ≤ x.tec ∨ 128 ≤ x.rec_ then 3 else 2) else x.state

theorem canErrState_spec (b : CanSt) (h : s.can[c]? = some x) : (canErrState c b s).can[c]? = some { x with state := errState x } := by
  have judged : (onCan c (fun y => { y with state := errState x }) s).can[c]? = some { x with state := errState x } := onCan_getElem? h _
  have told (p : Prop) [Decidable p] (e k a b d : Nat) (u : State) (hu : u.can[c]? = some { x with state := errState x }) :
      (if p then raise e k a b d u else u).can[c]? = some { x with state := errState x } := by
    split
    · rw [raise_can]
      exact hu
    · exact hu
  unfold canErrState
  rw [canOf_of_getElem? h]
  exact told _ _ _ _ _ _ _ judged

theorem canBusOff_none (h : s.can[c]? = some x) (hx : x.tec ≤ 255) : canBusOff c s = s := by
  unfold canBusOff
  rw [canOf_of_getElem? h]
  exact if_neg (by omega)

/-- BUS_OFF keeps the objects; a controller that a device-state entry took off the bus keeps it through OFFLINE (R483, R487). -/
theorem canBusOff_spec (h : s.can[c]? = some x) (hx : 255 < x.tec) : (canBusOff c s).can[c]? = some { x with
    state := if x.state = 7 then 7 else 4, offKept := x.state == 7, cur := none, busoffCnt := satInc 32 x.busoffCnt } := by
  unfold canBusOff
  rw [canOf_of_getElem? h, if_pos hx, raise_can]
  exact onCan_getElem? h _

theorem canProtocol_spec (k : Nat) (h : s.can[c]? = some x) :
    ∃ l, (canProtocol c k s).can[c]? = some { x with lastProto := l } := by
  unfold canProtocol
  split
  · rw [raise_can]
    exact ⟨_, onCan_getElem? h _⟩
  · exact ⟨_, h⟩

/-- Off the bus no attempt begins. -/
theorem canOffer_off (h : s.can[c]? = some x) (hx : ¬ (x.state = 2 ∨ x.state = 3)) : canOffer c s = s := by
  unfold canOffer canMaySend
  rw [canOf_of_getElem? h]
  refine if_neg ?_
  simp only [not_or] at hx
  simp [hx]

/-- An attempt begins in a controller that is on the bus and idle. -/
theorem canOffer_spec (h : s.can[c]? = some x) : ∃ f l, (canOffer c s).can[c]? = some { x with cur := f, objs := l } ∧
    ObjsKept false x { x with cur := f, objs := l } := by
  unfold canOffer
  split
  · split
    · next o _ =>
      have k : ObjsKept false x { x with objs := insertNat o { canObj x o with again := false } x.objs } := .insert ⟨rfl, fun _ => rfl⟩
      exact ⟨_, _, onObj_getElem? (onCan_getElem? (s := parCommit (canParams c) s) h _) _, ⟨k.each⟩⟩
    · exact ⟨_, _, h, .refl ..⟩
  · exact ⟨_, _, h, .refl ..⟩

theorem ObjsKept.weaken {m : Bool} (a : ObjsKept false x y) : ObjsKept m x y := ⟨fun o => ⟨(a.each o).eq, fun _ => (a.each o).data rfl⟩⟩

/-! ### The end of a frame (R475, R479) -/

/-- A frame ends: its boundary, the error state the counts give, and the next attempt. -/
def canEnd (c : Nat) (b : CanSt) (s : State) : State := canOffer c (canErrState c b (canBoundary c s))

theorem CanTurn.frameEnds (a : CanTurn c s t) (b : CanSt) : CanTurn c s (canEnd c b t) := (a.ends.judges b).offers

theorem canEnd_spec (b : CanSt) (h : s.can[c]? = some x) : ∃ f l, (canEnd c b s).can[c]? = some { x with
    cur := f, objs := l, state := errState x } ∧ ObjsKept (standby s) x { x with cur := f, objs := l, state := errState x } := by
  obtain ⟨l, h1, k1⟩ := canBoundary_spec h
  obtain ⟨f, l', h2, k2⟩ := canOffer_spec (canErrState_spec b h1)
  exact ⟨f, l', h2, ⟨fun o => (k1.each o).trans (k2.weaken.each o)⟩⟩

/-- The frame as the controller takes it, before the counts and the boundary. -/
def canTaken (c : Nat) (f : CanFrame) (s : State) : State :=
  if f.remote then onCan c (fun x => { x with rtr := satInc 32 x.rtr }) s
  else match (upTo 128).find? (fun o => objAccepts s c o f) with
    | none => onCan c (fun x => { x with noMatch := satInc 32 x.noMatch }) s
    | some o =>
      let s := canStore c o (dlcLen f.fdf f.dlc) f s
      if (canSignals s).any (fun g => g.1 == 128 * c + o && decide (dlcLen f.fdf f.dlc < g.2 + 4)) then
        onCan c (fun x => { x with short := satInc 32 x.short }) s
      else s

/-- The success as REC counts it. -/
def recCounted (c : Nat) (x : CanSt) (s : State) : State :=
  let s := onCan c (fun x => { x with rec_ := recAfter s x.rec_ }) s
  if 127 < x.rec_ then s.drawn else s

theorem canReceived_eq {f : CanFrame} (hb : canOnBus s c = true) (h : s.can[c]? = some x) :
    canReceived c f s = canEnd c x (recCounted c x (canTaken c f s)) := by
  unfold canReceived
  rw [if_neg (by simp [hb]), canOf_of_getElem? h]
  rfl

theorem CanTurn.recCounts (a : CanTurn c s t) (x : CanSt) : CanTurn c s (recCounted c x t) := by
  unfold recCounted
  exact .ite (a.can _).draws (a.can _)

theorem recCounted_spec (h : s.can[c]? = some y) (hr : y.rec_ = x.rec_) : ∃ r, (recCounted c x s).can[c]? = some { y with rec_ := r } ∧
    (x.rec_ ≤ 127 → r = x.rec_ - 1) := by
  refine ⟨recAfter s y.rec_, ?_, fun hx => by rw [hr]; exact if_neg (by omega)⟩
  have counted : (onCan c (fun x => { x with rec_ := recAfter s x.rec_ }) s).can[c]? = some { y with rec_ := recAfter s y.rec_ } :=
    onCan_getElem? h _
  unfold recCounted
  dsimp only
  split
  · exact counted
  · exact counted

theorem CanTurn.takes (a : CanTurn c s t) (f : CanFrame) : CanTurn c s (canTaken c f t) := by
  unfold canTaken canStore
  refine .ite (a.can _) ?_
  split
  · exact a.can _
  · exact .ite ((((a.held _ _).can _).can _).can _) (((a.held _ _).can _).can _)

/-- What a received frame makes of its object (R476). -/
def objStored (f : CanFrame) (a : CanObj) : CanObj :=
  { a with
    ident := f.ident % 2 ^ 29 + 2 ^ 30 * b2n f.ide, form := formWord f.dlc f.fdf f.brs f.esi (dlcLen f.fdf f.dlc)
    seq := wrapInc 32 a.seq, ts := f.ts
    frames := (dlcLen f.fdf f.dlc, f.ts, padTo (dlcLen f.fdf f.dlc) f.data) ::
      a.frames.filter (fun y => decide (dlcLen f.fdf f.dlc < y.1)) }

theorem canTaken_remote {f : CanFrame} (h : s.can[c]? = some x) (hf : f.remote = true) :
    (canTaken c f s).can[c]? = some { x with rtr := satInc 32 x.rtr } := by
  rw [canTaken, if_pos hf]
  exact onCan_getElem? h _

theorem canTaken_none {f : CanFrame} (h : s.can[c]? = some x) (hf : f.remote = false)
    (hn : (upTo 128).find? (fun o => objAccepts s c o f) = none) :
    (canTaken c f s).can[c]? = some { x with noMatch := satInc 32 x.noMatch } := by
  rw [canTaken, if_neg (by simp [hf]), hn]
  exact onCan_getElem? h _

theorem holdSample_can (k i : Nat) (s : State) : (holdSample k i s).can = s.can := by
  unfold holdSample
  split <;> rfl

theorem canTaken_some {f : CanFrame} (h : s.can[c]? = some x) (hf : f.remote = false)
    (hn : (upTo 128).find? (fun o => objAccepts s c o f) = some o) : ∃ k, (canTaken c f s).can[c]? = some { x with
      rxCnt := satInc 32 x.rxCnt, objs := insertNat o (objStored f (canObj x o)) x.objs, short := k } := by
  have stored : (canStore c o (dlcLen f.fdf f.dlc) f s).can[c]? = some { x with
      rxCnt := satInc 32 x.rxCnt, objs := insertNat o (objStored f (canObj x o)) x.objs } :=
    onCan_getElem? (onObj_getElem? (s := holdSample 3 (128 * c + o) s) (by rw [holdSample_can]; exact h) _) _
  rw [canTaken, if_neg (by simp [hf]), hn]
  dsimp only
  split
  · exact ⟨_, onCan_getElem? stored _⟩
  · exact ⟨_, stored⟩

/-! ### A transmitted frame (R474, R479) -/

/-- What a transmitted frame makes of its object: pending again where it was written meanwhile (R479, R480). -/
def objSent (s : State) (c o ts : Nat) (d : Bytes) (a : CanObj) : CanObj :=
  { a with
    pending := a.again, again := false, ident := op s c o 1 % 2 ^ 31, seq := wrapInc 32 a.seq, ts := ts
    form := formWord (op s c o 4) (bit (op s c o 3) 0) (bit (op s c o 3) 1) ((canOf s c).state == 3) d.length }

/-- The frame has left the part, and its object and the counts follow. -/
def canLeft (c o ts : Nat) (d : Bytes) (s : State) : State :=
  onCan c (fun x => { x with txCnt := satInc 32 x.txCnt, tec := x.tec - 1 }) (onObj c o (objSent s c o ts d) (send (.can c o (op s c o 1) d) s))

theorem canSent_eq (c o ts : Nat) (d : Bytes) (s : State) : canSent c o ts d s = canEnd c (canOf s c) (canLeft c o ts d s) := rfl

theorem canLeft_turn (c o ts : Nat) (d : Bytes) (s : State) : CanTurn c (send (.can c o (op s c o 1) d) s) (canLeft c o ts d s) :=
  ((CanTurn.refl ..).can _).can _

theorem canLeft_spec (ts : Nat) (d : Bytes) (h : s.can[c]? = some x) : (canLeft c o ts d s).can[c]? = some { x with
    txCnt := satInc 32 x.txCnt, tec := x.tec - 1, objs := insertNat o (objSent s c o ts d (canObj x o)) x.objs } :=
  onCan_getElem? (onObj_getElem? (s := send (.can c o (op s c o 1) d) s) h _) _

theorem canSent_spec (ts : Nat) (d : Bytes) (h : s.can[c]? = some x) : ∃ y, (canSent c o ts d s).can[c]? = some y ∧ y.tdc = x.tdc ∧
    (∀ j, j ≠ c → (canSent c o ts d s).can[j]? = s.can[j]?) ∧ (canSent c o ts d s).host.params = s.host.params ∧
    outSent (canSent c o ts d s) = .can c o (op s c o 1) d :: outSent s ∧
    (canObj y o).pending = (canObj x o).again ∧ (canObj y o).seq = wrapInc 32 (canObj x o).seq ∧ (canObj y o).ts = ts ∧
    (standby s = false → (canObj y o).data = (canObj x o).data) ∧ y.txCnt = satInc 32 x.txCnt ∧ y.tec = x.tec - 1 ∧ y.rec_ = x.rec_ ∧
    ∀ j, j ≠ o → (canObj y j).pending = (canObj x j).pending ∧ (canObj y j).seq = (canObj x j).seq := by
  have turn := (canLeft_turn c o ts d s).frameEnds (canOf s c)
  obtain ⟨f, l, here, k⟩ := canEnd_spec (canOf s c) (canLeft_spec (o := o) ts d h)
  rw [(canLeft_turn c o ts d s).standby] at k
  rw [canSent_eq]
  have own := k.each o
  rw [canObj_insert (o := o) (v := objSent s c o ts d (canObj x o)) (x := x) rfl, if_pos rfl] at own
  refine ⟨_, here, rfl, turn.others, turn.params, turn.out, by rw [own.eq]; rfl, by rw [own.eq]; rfl, by rw [own.eq]; rfl, own.data, rfl, rfl,
    rfl, fun j hj => ?_⟩
  have other := k.each j
  rw [canObj_insert (o := o) (v := objSent s c o ts d (canObj x o)) (x := x) rfl, if_neg hj] at other
  exact ⟨by rw [other.eq], by rw [other.eq]⟩

/-- The measured loop delay and the place of the secondary sample point (R474). -/
def tdcMeasured (s : State) (c n : Nat) (x : CanSt) : CanSt := { x with tdc := (n % 128, (n + actN s (canId c 9)) % 128) }

theorem canTransmitted_plain (ts n : Nat) {d : Bytes} (hb : canOnBus s c = true) (h : s.can[c]? = some x) (hc : x.cur = some (o, d))
    (hg : (act s (canId c 8) == 1 && bit (op s c o 3) 0 && bit (op s c o 3) 1) = false) :
    canTransmitted c ts n s = canSent c o ts d s := by
  unfold canTransmitted
  rw [canOf_of_getElem? h, hc]
  dsimp only
  rw [if_neg (by simp [hb]), if_neg (by simp [hg])]

theorem canTransmitted_tdc (ts n : Nat) {d : Bytes} (hb : canOnBus s c = true) (h : s.can[c]? = some x) (hc : x.cur = some (o, d))
    (hg : (act s (canId c 8) == 1 && bit (op s c o 3) 0 && bit (op s c o 3) 1) = true) : canTransmitted c ts n s =
      if 63 < n then canOffer c (canProtocol c 1 (canError c (4 + Config.freeNat s.free % 2) true 8 0 (onCan c (tdcMeasured s c n) s).drawn))
      else canSent c o ts d (onCan c (tdcMeasured s c n) s) := by
  unfold canTransmitted
  rw [canOf_of_getElem? h, hc]
  dsimp only
  rw [if_neg (by simp [hb]), if_pos hg]
  rfl

/-! ### An error (R475, R483) -/

/-- The controller with an error counted. -/
def errCounted (k p q : Nat) (d : Bool) (x : CanSt) : CanSt :=
  { x with
    lec := k % 8 + 8 * b2n d, errCnt := satInc 32 x.errCnt, tec := min 511 (x.tec + p), rec_ := min 255 (x.rec_ + q) }

theorem canError_on (k p q : Nat) (d : Bool) (h : s.can[c]? = some x) (hp : x.tec + p ≤ 255) :
    ∃ l, (canError c k d p q s).can[c]? = some { errCounted k p q d x with
        cur := none, objs := l, state := errState (errCounted k p q d x) } ∧
      ObjsKept (standby s) x { errCounted k p q d x with cur := none, objs := l, state := errState (errCounted k p q d x) } := by
  obtain ⟨l, h1, k1⟩ := canBoundary_spec (s := onCan c (errCounted k p q d) s) (onCan_getElem? h _)
  have judged := canErrState_spec (canOf s c) h1
  refine ⟨l, ?_, ⟨k1.each⟩⟩
  show (canBusOff c (canErrState c (canOf s c) (canBoundary c (onCan c (errCounted k p q d) s)))).can[c]? = _
  rw [canBusOff_none judged (by simp [errCounted]; omega)]
  exact judged

theorem errState_offline (x : CanSt) : errState x = 7 ↔ x.state = 7 := by
  unfold errState
  split
  · split <;> omega
  · rfl

/-- The controller that an error took off the bus, or kept off it (R483, R487). -/
def errOff (k p q : Nat) (d : Bool) (l : List (Nat × CanObj)) (x : CanSt) : CanSt :=
  { errCounted k p q d x with
    cur := none, objs := l, state := if x.state = 7 then 7 else 4, offKept := x.state == 7, busoffCnt := satInc 32 x.busoffCnt }

theorem canError_off (k p q : Nat) (d : Bool) (h : s.can[c]? = some x) (hp : 255 < x.tec + p) :
    ∃ l, (canError c k d p q s).can[c]? = some (errOff k p q d l x) ∧ ObjsKept (standby s) x (errOff k p q d l x) := by
  obtain ⟨l, h1, k1⟩ := canBoundary_spec (s := onCan c (errCounted k p q d) s) (onCan_getElem? h _)
  have off := canBusOff_spec (canErrState_spec (canOf s c) h1) (by simp [errCounted]; omega)
  have offline : errState (errCounted k p q d x) = 7 ↔ x.state = 7 := errState_offline _
  have same : (errState (errCounted k p q d x) == 7) = (x.state == 7) := by
    rw [Bool.eq_iff_iff, beq_iff_eq, beq_iff_eq]
    exact offline
  refine ⟨l, off.trans (congrArg some ?_), ⟨k1.each⟩⟩
  rw [errOff, ← same, ← if_congr offline rfl rfl]
  rfl

theorem canBusError_exception (k p q : Nat) (d : Bool) (hb : canOnBus s c = true) (ha : act s (canId c 11) = 1) :
    canBusError c k d true p q s = canProtocol c 0 (onCan c (fun x => { x with
      state := if x.state = 6 ∨ x.state = 7 then x.state else 1 }) (canBoundary c s)) := by
  unfold canBusError
  rw [if_neg (by simp [hb]), if_pos (by simp [ha])]

theorem canBusError_counted {px : Bool} (k p q : Nat) (d : Bool) (hb : canOnBus s c = true) (h : ¬ (px = true ∧ act s (canId c 11) = 1)) :
    canBusError c k d px p q s = canOffer c (canError c (if px then 2 else k) d p q s) := by
  unfold canBusError
  rw [if_neg (by simp [hb]), if_neg (by simpa using h)]

/-- An error is counted, whatever state it takes the controller to. -/
theorem canError_spec (k p q : Nat) (d : Bool) (h : s.can[c]? = some x) : ∃ y, (canError c k d p q s).can[c]? = some y ∧
    ObjsKept (standby s) x y ∧ y.tec = min 511 (x.tec + p) ∧ y.rec_ = min 255 (x.rec_ + q) ∧ y.errCnt = satInc 32 x.errCnt ∧
    y.lec = k % 8 + 8 * b2n d ∧ y.tdc = x.tdc ∧ y.txCnt = x.txCnt ∧
    (255 < x.tec + p → y.state = (if x.state = 7 then 7 else 4) ∧ y.offKept = (x.state == 7) ∧ y.cur = none ∧
      y.busoffCnt = satInc 32 x.busoffCnt) ∧
    (x.tec + p ≤ 255 → y.state = errState (errCounted k p q d x) ∧ y.busoffCnt = x.busoffCnt) := by
  by_cases hp : 255 < x.tec + p
  · obtain ⟨l, here, kept⟩ := canError_off k p q d h hp
    exact ⟨_, here, kept, rfl, rfl, rfl, rfl, rfl, rfl, fun _ => ⟨rfl, rfl, rfl, rfl⟩, fun h' => absurd h' (by omega)⟩
  · obtain ⟨l, here, kept⟩ := canError_on k p q d h (by omega)
    exact ⟨_, here, kept, rfl, rfl, rfl, rfl, rfl, rfl, fun h' => absurd h' hp, fun _ => ⟨rfl, rfl⟩⟩

/-! ### The frame offered (R479) -/

/-- An entry of the object list that may be sent. -/
def Sendable (s : State) (c : Nat) (p : Nat × CanObj) : Prop := p.2.pending = true ∧ p.2.stopped = false ∧ op s c p.1 0 = 2

/-- What the search has found among the entries it has seen: a frame that may be sent, of the highest priority so far. -/
def BestOf (s : State) (c : Nat) (l : List (Nat × CanObj)) : Option Nat → Prop
  | none => ∀ p ∈ l, ¬ Sendable s c p
  | some o => (∃ z, (o, z) ∈ l ∧ Sendable s c (o, z)) ∧ ∀ p ∈ l, Sendable s c p → arbField (op s c o 1) ≤ arbField (op s c p.1 1)

/-- One entry is compared with the best one so far. -/
def bestStep (s : State) (c : Nat) (best : Option Nat) (x : Nat × CanObj) : Option Nat :=
  if x.2.pending && !x.2.stopped && op s c x.1 0 == 2 then
    match best with
    | none => some x.1
    | some b => if arbField (op s c x.1 1) < arbField (op s c b 1) then some x.1 else some b
  else best

theorem bestOf_step {l : List (Nat × CanObj)} {b : Option Nat} (h : BestOf s c l b) (p : Nat × CanObj) :
    BestOf s c (l ++ [p]) (bestStep s c b p) := by
  have sends : (p.2.pending && !p.2.stopped && op s c p.1 0 == 2) = true ↔ Sendable s c p := by
    simp [Sendable, and_assoc]
  unfold bestStep
  by_cases hp : Sendable s c p
  · rw [if_pos (sends.mpr hp)]
    cases b with
    | none =>
      refine ⟨⟨p.2, by simp, hp⟩, fun q hq hs => ?_⟩
      rcases List.mem_append.mp hq with hq | hq
      · exact absurd hs (h q hq)
      · rw [List.mem_singleton.mp hq]
    | some o =>
      obtain ⟨⟨z, hz, hsz⟩, least⟩ := h
      dsimp only
      split
      · next hlt =>
        refine ⟨⟨p.2, by simp, hp⟩, fun q hq hs => ?_⟩
        rcases List.mem_append.mp hq with hq | hq
        · exact le_trans hlt.le (least q hq hs)
        · rw [List.mem_singleton.mp hq]
      · next hge =>
        refine ⟨⟨z, by simp [hz], hsz⟩, fun q hq hs => ?_⟩
        rcases List.mem_append.mp hq with hq | hq
        · exact least q hq hs
        · rw [List.mem_singleton.mp hq]
          omega
  · rw [if_neg fun h' => hp (sends.mp h')]
    cases b with
    | none =>
      intro q hq
      rcases List.mem_append.mp hq with hq | hq
      · exact h q hq
      · rw [List.mem_singleton.mp hq]
        exact hp
    | some o =>
      obtain ⟨⟨z, hz, hsz⟩, least⟩ := h
      refine ⟨⟨z, by simp [hz], hsz⟩, fun q hq hs => ?_⟩
      rcases List.mem_append.mp hq with hq | hq
      · exact least q hq hs
      · rw [List.mem_singleton.mp hq] at hs
        exact absurd hs hp

theorem canBest_spec (s : State) (c : Nat) : BestOf s c (canOf s c).objs (canBest s c) := by
  have round (l m : List (Nat × CanObj)) (b : Option Nat) (h : BestOf s c m b) : BestOf s c (m ++ l) (l.foldl (bestStep s c) b) := by
    induction l generalizing m b with
    | nil => simpa using h
    | cons p l ih => simpa using ih _ _ (bestOf_step h p)
  exact round (canOf s c).objs [] none nofun

/-! ### A periodic trigger (R478) -/

/-- A trigger finds its object idle, or late (R478, R481). -/
theorem canPeriodic_eq (hr : canRuns s = true) (hi : canInstant s c o = true) (h : s.can[c]? = some x) (ho : o < 128)
    (h0 : op s c o 0 = 2) (h5 : op s c o 5 ≠ 0) (hs : (canObj x o).stopped = false)
    (hst : objState s c o = 1 ∨ objState s c o = 2 ∧ objSafe s c o = true) : canPeriodic c o s =
      if (canObj x o).pending then
        if elapsed (canOf s c).lastLate 1000000000 s then
          raise 0x0F13 99 c o ((canObj x o).late + 1) (onCan c (fun y => { y with lastLate := some s.time.ont })
            (onObj c o (fun x => { x with late := satInc 32 x.late }) s))
        else onObj c o (fun x => { x with late := satInc 32 x.late }) s
      else objPend c o s := by
  have late : (canOf (onObj c o (fun x => { x with late := satInc 32 x.late }) s) c).lastLate = (canOf s c).lastLate := by
    rw [canOf_of_getElem? (onObj_getElem? h _), canOf_of_getElem? h]
  unfold canPeriodic
  dsimp only
  rw [canOf_of_getElem? h, if_neg (by simp [hr, hi, h0, h5, hs]; omega), if_neg (by rcases hst with hst | hst <;> simp [hst]), late,
    canOf_of_getElem? h]
  rfl

theorem canPeriodic_late (hr : canRuns s = true) (hi : canInstant s c o = true) (h : s.can[c]? = some x) (ho : o < 128)
    (h0 : op s c o 0 = 2) (h5 : op s c o 5 ≠ 0) (hs : (canObj x o).stopped = false)
    (hst : objState s c o = 1 ∨ objState s c o = 2 ∧ objSafe s c o = true) (hp : (canObj x o).pending = true) :
    ∃ e, (canPeriodic c o s).can[c]? = some { x with
      objs := insertNat o { canObj x o with late := satInc 32 (canObj x o).late } x.objs, lastLate := e } := by
  have noted := onObj_getElem? (o := o) h (fun x => { x with late := satInc 32 x.late })
  rw [canPeriodic_eq hr hi h ho h0 h5 hs hst, if_pos hp]
  split
  · rw [raise_can]
    exact ⟨_, onCan_getElem? noted _⟩
  · exact ⟨_, noted⟩

theorem canPeriodic_pend (hr : canRuns s = true) (hi : canInstant s c o = true) (h : s.can[c]? = some x) (ho : o < 128)
    (h0 : op s c o 0 = 2) (h5 : op s c o 5 ≠ 0) (hs : (canObj x o).stopped = false)
    (hst : objState s c o = 1 ∨ objState s c o = 2 ∧ objSafe s c o = true) (hp : (canObj x o).pending = false) :
    ∃ f l, (canPeriodic c o s).can[c]? = some { x with cur := f, objs := l } ∧
      ObjsKept false { x with objs := insertNat o { canObj x o with pending := true } x.objs } { x with cur := f, objs := l } := by
  rw [canPeriodic_eq hr hi h ho h0 h5 hs hst, if_neg (by simp [hp])]
  exact canOffer_spec (onObj_getElem? h _)

theorem CanTurn.pends (a : CanTurn c s t) (o : Nat) : CanTurn c s (objPend c o t) := (a.can _).offers

theorem canPeriodic_turn (c o : Nat) (s : State) : CanTurn c s (canPeriodic c o s) := by
  have a := CanTurn.refl c s
  unfold canPeriodic
  exact .ite a (.ite a (.ite (.ite (((a.can _).can _).report ..) (a.can _)) (a.pends o)))

/-! ### A received frame and its controller (R476) -/

/-- The first receive object that accepts a frame. -/
theorem objFound {f : CanFrame} (h : (upTo 128).find? (fun o => objAccepts s c o f) = some o) :
    o < 128 ∧ objAccepts s c o f = true ∧ ∀ j, j < o → objAccepts s c j f = false := by
  rw [upTo, List.find?_range_eq_some] at h
  obtain ⟨acc, mem, first⟩ := h
  exact ⟨List.mem_range.mp mem, acc, fun j hj => by simpa using first j hj⟩

/-- What the rest of a reception makes of the controller as it took the frame. -/
theorem canReceived_spec {f : CanFrame} (hb : canOnBus s c = true) (h : s.can[c]? = some x) (ht : (canTaken c f s).can[c]? = some y)
    (hr : y.rec_ = x.rec_) : ∃ r q l e, (canReceived c f s).can[c]? = some { y with rec_ := r, cur := q, objs := l, state := e } ∧
      (x.rec_ ≤ 127 → r = x.rec_ - 1) ∧ ObjsKept (standby s) y { y with rec_ := r, cur := q, objs := l, state := e } := by
  obtain ⟨r, h1, hr1⟩ := recCounted_spec (x := x) ht hr
  obtain ⟨q, l, h2, k⟩ := canEnd_spec x h1
  rw [(((CanTurn.refl c s).takes f).recCounts x).standby] at k
  exact ⟨r, q, l, _, (congrArg (fun t : State => t.can[c]?) (canReceived_eq hb h)).trans h2, hr1, ⟨k.each⟩⟩

theorem canReceived_turn {f : CanFrame} (hb : canOnBus s c = true) (h : s.can[c]? = some x) : CanTurn c s (canReceived c f s) := by
  rw [canReceived_eq hb h]
  exact (((CanTurn.refl c s).takes f).recCounts x).frameEnds x

end

/-- Settles O52. A success that lowers TEC and REC by 1 and the increments that come with the event are the model's choices (log 20). -/
theorem canFrames : Obligations.CanFrames := by
  unfold Obligations.CanFrames
  refine ⟨?_, ?_, ?_, ?_, ?_, ?_, ?_⟩
  · intro s c f x hb h
    have turn := canReceived_turn (f := f) hb h
    have same {y : CanSt} {r : Nat} {q : Option (Nat × Bytes)} {l : List (Nat × CanObj)} {e o : Nat}
        (k : ObjsKept (standby s) y { y with rec_ := r, cur := q, objs := l, state := e }) (hy : canObj y o = canObj x o) :
        let b := canObj { y with rec_ := r, cur := q, objs := l, state := e } o
        b.seq = (canObj x o).seq ∧ b.ident = (canObj x o).ident ∧ b.ts = (canObj x o).ts ∧ b.frames = (canObj x o).frames ∧
          b.pending = (canObj x o).pending ∧ (standby s = false → b.data = (canObj x o).data) := by
      have k := k.each o
      rw [hy] at k
      refine ⟨?_, ?_, ?_, ?_, ?_, k.data⟩ <;> rw [k.eq]
    cases hf : f.remote
    · cases hn : (upTo 128).find? (fun o => objAccepts s c o f) with
      | none =>
        have taken := canTaken_none h hf hn
        obtain ⟨r, q, l, e, here, hr, k⟩ := canReceived_spec hb h taken rfl
        have nobody (o : Nat) (ho : o < 128) : objAccepts s c o f = false := by
          simpa using List.find?_eq_none.mp hn o (List.mem_range.mpr ho)
        refine ⟨_, _, rfl, here, turn.others, turn.loops, turn.params, rfl, hr, rfl, fun o _ => same k rfl, nofun, fun _ _ => ⟨rfl, rfl⟩,
          fun o n _ ho ha => ?_⟩
        rw [nobody o ho] at ha
        cases ha
      | some i =>
        obtain ⟨hi, acc, first⟩ := objFound hn
        obtain ⟨w, taken⟩ := canTaken_some h hf hn
        obtain ⟨r, q, l, e, here, hr, k⟩ := canReceived_spec hb h taken rfl
        refine ⟨_, _, rfl, here, turn.others, turn.loops, turn.params, rfl, hr, rfl, fun o ho => ?_, nofun, fun _ none' => ?_, ?_⟩
        · have other : o ≠ i := by
            rintro rfl
            rcases ho with ho | ho | ⟨j, hj, hacc⟩
            · cases ho
            · cases acc.symm.trans ho
            · cases (first j hj).symm.trans hacc
          exact same k ((canObj_insert rfl o).trans (if_neg other))
        · rw [none' i hi] at acc
          cases acc
        · intro o n _ ho ha hfirst hlen
          obtain rfl : o = i := by
            rcases Nat.lt_trichotomy o i with hlt | heq | hgt
            · cases (first o hlt).symm.trans ha
            · exact heq
            · cases (hfirst i hgt).symm.trans acc
          have k := k.each o
          rw [canObj_insert (o := o) (v := objStored f (canObj x o)) (x := x) rfl, if_pos rfl] at k
          subst hlen
          refine ⟨rfl, rfl, ?_, ?_, ?_, ?_, ?_⟩ <;> rw [k.eq] <;> rfl
    · have taken := canTaken_remote h hf
      obtain ⟨r, q, l, e, here, hr, k⟩ := canReceived_spec hb h taken rfl
      exact ⟨_, _, rfl, here, turn.others, turn.loops, turn.params, rfl, hr, rfl, fun o _ => same k rfl, fun _ => ⟨rfl, rfl, rfl⟩,
        nofun, nofun⟩
  · intro s c o f
    unfold objAccepts
    cases f.ide <;> simp [and_assoc, or_assoc]
  · intro s c o ts n d x g hb h hc hg
    have e8 : 0x4808 + 0x40 * c = canId c 8 := by rw [canId]; omega
    have e9 : 0x4809 + 0x40 * c = canId c 9 := by rw [canId]; omega
    rw [e8] at hg
    rw [e9]
    cases g
    · have e := canTransmitted_plain ts n hb h hc hg.symm
      obtain ⟨y, here, -, others, params, out, spec⟩ := canSent_spec ts d h (o := o)
      refine ⟨_, y, congrArg Host.Outcome.next e, here, others, params, nofun, fun _ => ⟨out, spec⟩, nofun⟩
    · have e := canTransmitted_tdc ts n hb h hc hg.symm
      have h1 := onCan_getElem? h (tdcMeasured s c n)
      have t1 : CanTurn c s (onCan c (tdcMeasured s c n) s) := (CanTurn.refl ..).can _
      by_cases hn : 63 < n
      · rw [if_pos hn] at e
        have t2 := ((t1.draws.errs (4 + Config.freeNat s.free % 2) 8 0 true).protocol 1).offers
        obtain ⟨y, h2, k2, tec, -, errs, lec, tdc, tx, -⟩ := canError_spec (4 + Config.freeNat s.free % 2) 8 0 true
          (s := (onCan c (tdcMeasured s c n) s).drawn) h1
        obtain ⟨lp, h3⟩ := canProtocol_spec 1 h2
        obtain ⟨f, l, h4, k4⟩ := canOffer_spec h3
        have own := ((k2.each o).trans (k4.weaken.each o))
        refine ⟨_, _, congrArg Host.Outcome.next e, h4, t2.others, t2.params, fun _ => tdc, fun h' => ?_, fun _ _ =>
          ⟨t2.out, by rw [own.eq]; rfl, by rw [own.eq]; rfl, tx, tec, ?_, errs⟩⟩
        · rcases h' with h' | h'
          · cases h'
          · omega
        · show y.lec = 12 ∨ y.lec = 13
          rw [lec]
          show (4 + Config.freeNat s.free % 2) % 8 + 8 * 1 = 12 ∨ (4 + Config.freeNat s.free % 2) % 8 + 8 * 1 = 13
          omega
      · rw [if_neg hn] at e
        obtain ⟨y, here, tdc, others, params, out, spec⟩ := canSent_spec ts d h1 (o := o)
        exact ⟨_, y, congrArg Host.Outcome.next e, here, fun j hj => (others j hj).trans (t1.others j hj), params, fun _ => tdc,
          fun _ => ⟨out, spec⟩, fun _ h63 => absurd h63 hn⟩
  · intro s c k p q dp px x hb h
    have e11 : 0x480B + 0x40 * c = canId c 11 := by rw [canId]; omega
    rw [e11]
    have kept {y : CanSt} (k : ObjsKept (standby s) x y) (o : Nat) : (canObj y o).pending = (canObj x o).pending ∧
        (canObj y o).seq = (canObj x o).seq ∧ (canObj y o).data = (canObj x o).data ∨ standby s = true := by
      have k := k.each o
      cases hs : standby s
      · exact .inl ⟨by rw [k.eq], by rw [k.eq], k.data hs⟩
      · exact .inr rfl
    by_cases hpx : px = true ∧ act s (canId c 11) = 1
    · obtain ⟨rfl, ha⟩ := hpx
      have e := canBusError_exception k p q dp hb ha
      have turn : CanTurn c s (canBusError c k dp true p q s) := by
        rw [e]
        exact ((CanTurn.refl ..).ends.can _).protocol 0
      obtain ⟨l, h1, k1⟩ := canBoundary_spec h
      obtain ⟨lp, h2⟩ := canProtocol_spec 0 (onCan_getElem? h1 (fun x => { x with state := if x.state = 6 ∨ x.state = 7 then x.state else 1 }))
      refine ⟨_, _, rfl, (congrArg (fun t : State => t.can[c]?) e).trans h2, turn.others, turn.params, turn.out, kept ⟨k1.each⟩,
        fun _ _ => ⟨rfl, rfl, rfl, rfl, rfl⟩, nofun⟩
    · have e := canBusError_counted k p q dp hb hpx
      obtain ⟨y, h1, k1, tec, rec', errs, lec, -, -, off, on⟩ := canError_spec (if px then 2 else k) p q dp h
      have turn : CanTurn c s (canBusError c k dp px p q s) := by
        rw [e]
        exact ((CanTurn.refl ..).errs _ _ _ _).offers
      have notTaken (h1 : px = true) (h2 : act s (canId c 11) = 1) : False := hpx ⟨h1, h2⟩
      have kind (hp : px = false) : (if px then 2 else k) = k := by rw [hp]; rfl
      by_cases hp : 255 < x.tec + p
      · obtain ⟨state, offKept, cur, busoff⟩ := off hp
        have stays : canOffer c (canError c (if px then 2 else k) dp p q s) = canError c (if px then 2 else k) dp p q s :=
          canOffer_off h1 (by rw [state]; split <;> omega)
        rw [stays] at e
        refine ⟨_, y, rfl, (congrArg (fun t : State => t.can[c]?) e).trans h1, turn.others, turn.params, turn.out, kept k1,
          fun h1 h2 => (notTaken h1 h2).elim, fun hf => ⟨tec, rec', errs, by rw [lec, kind hf], fun _ => ⟨state, ?_, cur, busoff⟩, fun h' => by omega⟩⟩
        rw [offKept, Bool.eq_iff_iff]
        simp
      · obtain ⟨state, busoff⟩ := on (by omega)
        obtain ⟨f, l, h2, k2⟩ := canOffer_spec h1
        refine ⟨_, _, rfl, (congrArg (fun t : State => t.can[c]?) e).trans h2, turn.others, turn.params, turn.out, kept (k1.trans k2.weaken),
          fun h1 h2 => (notTaken h1 h2).elim, fun hf => ⟨tec, rec', errs, by rw [← kind hf]; exact lec, fun h' => absurd h' hp,
            fun _ hs => ⟨busoff, ?_⟩⟩⟩
        refine state.trans ((if_pos hs).trans (if_congr ?_ rfl rfl))
        show 128 ≤ min 511 (x.tec + p) ∨ 128 ≤ min 255 (x.rec_ + q) ↔ _
        omega
  · intro s c o x hr hi h ho h0 h5 hs hst
    have turn := canPeriodic_turn c o s
    cases hp : (canObj x o).pending
    · obtain ⟨f, l, here, k⟩ := canPeriodic_pend hr hi h ho h0 h5 hs hst hp
      refine ⟨_, _, rfl, here, turn.others, turn.params, ?_⟩
      have own := k.each o
      rw [canObj_insert (o := o) (x := x) rfl, if_pos rfl] at own
      refine ⟨by rw [own.eq], own.data rfl, by rw [own.eq]; rfl, fun j hj => ?_⟩
      have other := k.each j
      rw [canObj_insert (o := o) (x := x) rfl, if_neg hj] at other
      exact ⟨by rw [other.eq], other.data rfl⟩
    · obtain ⟨e, here⟩ := canPeriodic_late hr hi h ho h0 h5 hs hst hp
      refine ⟨_, _, rfl, here, turn.others, turn.params, ?_⟩
      have own (j : Nat) : canObj { x with
          objs := insertNat o { canObj x o with late := satInc 32 (canObj x o).late } x.objs, lastLate := e } j =
          if j = o then { canObj x o with late := satInc 32 (canObj x o).late } else canObj x j := canObj_insert rfl j
      rw [own, if_pos rfl]
      refine ⟨hp, rfl, rfl, fun j hj => ?_⟩
      rw [own, if_neg hj]
      exact ⟨rfl, rfl⟩
  · intro s c o h
    refine congrArg Host.Outcome.next ?_
    unfold canPeriodic
    by_cases hi : canInstant s c o = true
    · obtain ⟨h1, h2⟩ := h.resolve_right (by simp [hi])
      dsimp only
      split
      · rfl
      · exact if_pos (by rcases h2 with h2 | h2 <;> simp [h1, h2])
    · exact if_pos (by simp [hi])
  · intro s c o h
    have best := canBest_spec s c
    rw [h] at best
    obtain ⟨⟨z, hz, hs⟩, least⟩ := best
    exact ⟨z, hz, hs.1, hs.2.1, hs.2.2, fun j w hw h1 h2 h3 => least (j, w) hw ⟨h1, h2, h3⟩⟩

end Sys2Proof.Machine
end

section
/-! SUPPORT. The strait of the pair: what its frames make of the pair unit, and what they leave (R521 to R531). -/

namespace Sys2Proof.Machine

section
variable {s t u : State} {k i q : Nat} {f pt b : Bytes}

/-! ### What the pair unit's work leaves -/

/-- From `s` to `t` only the pair unit, what left the part, reports, refused key requests and draws have changed. -/
structure PairOnly (s t : State) : Prop where
  eq : t = { s with
    free := t.free
    host := { s.host with evtStatus := t.host.evtStatus, sent := t.host.sent, pba := t.host.pba }
    recorder := t.recorder, sec := { s.sec with bindViol := t.sec.bindViol }, pair := t.pair }

theorem PairOnly.refl (s : State) : PairOnly s s := ⟨rfl⟩

theorem PairOnly.trans (a : PairOnly s t) (b : PairOnly t u) : PairOnly s u := ⟨by rw [b.eq, a.eq]⟩

theorem PairOnly.reported (a : PairOnly s t) (b : Reported t u) : PairOnly s u := a.trans ⟨by rw [b.eq]⟩

theorem PairOnly.report (a : PairOnly s t) (c k p q r : Nat) : PairOnly s (raise c k p q r t) := a.reported (reported_raise ..)

theorem PairOnly.unit (a : PairOnly s t) (f : PairSt → PairSt) : PairOnly s (onPair f t) := a.trans ⟨rfl⟩

theorem PairOnly.draws (a : PairOnly s t) : PairOnly s t.drawn := a.trans ⟨rfl⟩

theorem PairOnly.sends (a : PairOnly s t) (m : OutMsg) : PairOnly s (send m t) := a.trans ⟨rfl⟩

theorem PairOnly.ite {p : Prop} [Decidable p] (a : PairOnly s t) (b : PairOnly s u) : PairOnly s (if p then t else u) := by
  split
  · exact a
  · exact b

theorem PairOnly.asks (a : PairOnly s t) (n e : Nat) : PairOnly s (slotAsk n e t) := by
  unfold slotAsk
  exact .ite ((a.trans ⟨rfl⟩).report ..) a

theorem PairOnly.starts (a : PairOnly s t) : PairOnly s (linkStart t) := by
  unfold linkStart
  exact .ite (a.draws.unit _) (a.unit _)

theorem PairOnly.unsyncs (a : PairOnly s t) : PairOnly s (syncClear t) := by
  unfold syncClear
  exact .ite ((a.unit _).draws.report ..) a

theorem PairOnly.downs (a : PairOnly s t) (c : Nat) : PairOnly s (straitDown c t) := by
  unfold straitDown
  exact ((PairOnly.ite ((a.unit _).report ..) a).unit _).unsyncs.starts

theorem PairOnly.straitSends (a : PairOnly s t) (n : Nat) (l : Bool) (b : Bytes) : PairOnly s (straitSend n l b t) := by
  unfold straitSend
  split
  · exact ((a.asks ..).unit _).sends _
  · exact a

theorem PairOnly.plant (a : PairOnly s t) : t.loops = s.loops ∧ t.logic = s.logic ∧ t.axes = s.axes ∧ t.host.params = s.host.params := by
  rw [a.eq]
  exact ⟨rfl, rfl, rfl, rfl⟩

/-! ### What becomes of the pair unit -/

theorem syncClear_pair (s : State) : (syncClear s).pair = { s.pair with sync := false } := by
  unfold syncClear
  by_cases h : s.pair.sync = true
  · rw [if_pos h, raise_pair]
    rfl
  · rw [if_neg h, ← Bool.eq_false_iff.mpr h]

theorem syncCheck_pair (s : State) : ∃ b, (syncCheck s).pair = { s.pair with sync := b } := by
  unfold syncCheck
  dsimp only
  split
  · rw [raise_pair]
    exact ⟨true, rfl⟩
  · exact ⟨s.pair.sync, rfl⟩

theorem linkStart_pair (s : State) : ∃ l m, (linkStart s).pair = { s.pair with link := l, queue := m } := by
  unfold linkStart
  split
  · exact ⟨_, _, rfl⟩
  · exact ⟨_, _, rfl⟩

/-- The pair unit without the strait. -/
def straitCut (l : Option (Nat × Nat)) (m : List Bulk) (p : PairSt) : PairSt :=
  { p with
    straitUp := false, sync := false, applied := false, listAcc := none, bulkAcc := none, listBad := false, bulkBad := false
    tagRun := 0, link := l, queue := m }

theorem straitDown_pair (c : Nat) (s : State) : ∃ l m, (straitDown c s).pair = straitCut l m s.pair := by
  have up (c d : Nat) : (if s.pair.straitUp then raise 0x1113 115 0 c d (onPair (fun p => { p with straitUp := false }) s) else s).pair =
      { s.pair with straitUp := false } := by
    by_cases h : s.pair.straitUp = true
    · rw [if_pos h, raise_pair]
      rfl
    · rw [if_neg h, ← Bool.eq_false_iff.mpr h]
  unfold straitDown
  dsimp only
  obtain ⟨l, m, h⟩ := linkStart_pair (syncClear (onPair (fun p => { p with
    applied := false, listAcc := none, bulkAcc := none, listBad := false, bulkBad := false, tagRun := 0 })
    (if s.pair.straitUp then raise 0x1113 115 0 c (match s.pair.link with | some l => l.1 | none => 0)
      (onPair (fun p => { p with straitUp := false }) s) else s)))
  refine ⟨l, m, h.trans ?_⟩
  rw [syncClear_pair, onPair_pair, up]
  rfl

theorem mismatchSet_pair (m : Nat × Nat × Nat) (s : State) : ∃ b, (mismatchSet m s).pair = { s.pair with mismatch := m.1, sync := b } := by
  unfold mismatchSet
  split
  · next h => exact ⟨s.pair.sync, by rw [h]⟩
  · dsimp only
    split
    · exact ⟨s.pair.sync, rfl⟩
    · rw [syncClear_pair, raise_pair]
      exact ⟨false, rfl⟩

/-! ### Frames that are sent (R521, R522, R524) -/

theorem slotKey_slotAsk (n e : Nat) (s : State) (slot engine : Nat) : slotKey (slotAsk n e s) slot engine = slotKey s slot engine := by
  unfold slotKey slotOk
  rw [slotAsk_slots]

theorem slotAsk_ok (n e : Nat) (h : slotOk s n e = true) : slotAsk n e s = s := if_neg (by simp [h])

/-- A frame goes out sealed under the next SEQ of the link. -/
theorem straitSend_linked {n : Nat} {l : Bool} (hl : s.pair.link = some (i, q)) (hk : straitPos s = some k) : straitSend n l b s =
    send (.strait (straitHead n i q (nth 0 s.sec.epochs (2 + k)) b.length (b2n l + 2 * k) ++ Config.gcmSeal (slotKey s (22 + k) 1)
      (leBytes 4 i ++ leBytes 8 q) (straitHead n i q (nth 0 s.sec.epochs (2 + k)) b.length (b2n l + 2 * k)) b))
      (onPair (fun p => { p with link := some (i, q + 1) }) (slotAsk (22 + k) 1 s)) := by
  unfold straitSend
  rw [hl, hk]
  dsimp only
  rw [slotAsk_epochs, slotKey_slotAsk]

theorem raise_onPair (g : PairSt → PairSt) (c k p q r : Nat) (s : State) : raise c k p q r (onPair g s) = onPair g (raise c k p q r s) := by
  unfold raise raiseBy
  have same : writerRuns (onPair g s) = writerRuns s := rfl
  rw [same]
  split <;> rfl

/-- A key request does not depend on the pair unit. -/
theorem slotAsk_onPair (g : PairSt → PairSt) (n e : Nat) (s : State) : slotAsk n e (onPair g s) = onPair g (slotAsk n e s) := by
  have same : slotOk (onPair g s) n e = slotOk s n e := rfl
  unfold slotAsk
  rw [same]
  by_cases h : ((nth {} s.sec.slots n).type != 0 && !slotOk s n e) = true
  · exact (if_pos h).trans ((raise_onPair g 0x0315 15 n e 0
      { s with sec := { s.sec with bindViol := satInc 32 s.sec.bindViol } }).trans (congrArg (onPair g) (if_pos h).symm))
  · exact (if_neg h).trans (congrArg (onPair g) (if_neg h).symm)

theorem slotAsk_pair (n e : Nat) (s : State) : (slotAsk n e s).pair = s.pair := by
  unfold slotAsk
  split
  · exact raise_pair ..
  · rfl

/-- Without a link nothing is sent. -/
theorem straitSend_unlinked {n : Nat} {l : Bool} (h : s.pair.link = none) : straitSend n l b s = s := by
  unfold straitSend
  rw [h]

theorem straitSend_keyless {n : Nat} {l : Bool} (h : straitPos s = none) : straitSend n l b s = s := by
  unfold straitSend
  rw [h]
  split
  · next hh => cases hh
  · rfl

theorem straitPos_live (h : straitPos s = some k) : ((nth {} s.sec.slots (22 + k)).type != 0) = true := by
  unfold straitPos at h
  dsimp only at h
  cases h0 : (nth {} s.sec.slots (22 + 0)).type != 0 <;> cases h1 : (nth {} s.sec.slots (22 + 1)).type != 0 <;>
    simp only [h0, h1] at h
  · cases h
  · cases h
    exact h1
  · cases h
    exact h0
  · simp only [Bool.and_self, if_true, Option.some.injEq] at h
    split at h <;> subst h
    · exact h1
    · exact h0

/-- What the period holds does not depend on the pair unit. -/
theorem captureEntry_onPair (g : PairSt → PairSt) (s : State) (kind index : Nat) :
    captureEntry (onPair g s) kind index = captureEntry s kind index := by
  unfold captureEntry
  dsimp only
  split <;> rfl

/-- The period that the unit captures and numbers (R527). -/
def periodBytes (n : Nat) (s : State) : Bytes :=
  leBytes 4 n ++ leBytes 8 s.time.ont ++ leBytes 4 (listCrc s) ++ (mirrorList s).flatMap (fun x => captureEntry s x.1 x.2)

theorem mirrorCapture_one {n : Nat} (hm : mirrorInstant s = true) (hr : s.pair.running = true) (hi : inRun s = true)
    (hg : s.pair.grant = true) (hh : s.pair.hold = false) (hl : s.pair.link = some (i, q)) (hk : straitPos s = some k)
    (hq : s.pair.queue = []) (hn : n = wrapInc 32 s.pair.periodSeq) (hb : (periodBytes n s).length ≤ 2048) :
    mirrorCapture s = straitSend 2 true (periodBytes n s) (onPair (fun p => { p with periodSeq := n }) s) := by
  have role : pairRole s = 1 := by simp [pairRole, hr, hg, hh]
  have same : leBytes 4 n ++ leBytes 8 s.time.ont ++ leBytes 4 (listCrc s) ++ (mirrorList s).flatMap (fun e =>
      captureEntry (onPair (fun p => { p with periodSeq := n }) s) e.1 e.2) = periodBytes n s := by
    simp only [captureEntry_onPair, periodBytes]
  have one : straitFrames 2 (periodBytes n s).length (periodBytes n s) (onPair (fun p => { p with periodSeq := n }) s) =
      straitSend 2 true (periodBytes n s) (onPair (fun p => { p with periodSeq := n }) s) := by
    have pos : ∃ m, (periodBytes n s).length = m + 1 := ⟨(periodBytes n s).length - 1, by simp [periodBytes]; omega⟩
    obtain ⟨m, hm⟩ := pos
    rw [hm, straitFrames, if_pos hb]
  have nothing (v : State) (hv : v.pair.queue = []) : bulkSendAll v = v := by
    unfold bulkSendAll
    rw [hv, List.foldl_nil, ← hv]
    rfl
  have sentQueue : (straitSend 2 true (periodBytes n s) (onPair (fun p => { p with periodSeq := n }) s)).pair.queue = [] := by
    rw [straitSend_linked (s := onPair (fun p => { p with periodSeq := n }) s) hl hk]
    show (slotAsk _ _ _).pair.queue = []
    rw [slotAsk_pair]
    exact hq
  unfold mirrorCapture
  rw [if_pos (by simp [hm, hr, hi, role, hl, hk]), ← hn]
  show bulkSendAll (straitFrames 2 (leBytes 4 n ++ leBytes 8 s.time.ont ++ leBytes 4 (listCrc s) ++ (mirrorList s).flatMap (fun e =>
      captureEntry (onPair (fun p => { p with periodSeq := n }) s) e.1 e.2)).length (leBytes 4 n ++ leBytes 8 s.time.ont ++
      leBytes 4 (listCrc s) ++ (mirrorList s).flatMap (fun e => captureEntry (onPair (fun p => { p with periodSeq := n }) s) e.1 e.2))
      (onPair (fun p => { p with periodSeq := n }) s)) = _
  rw [same, one, nothing _ sentQueue]

/-! ### Frames that arrive (R523 to R528) -/

/-- The pair unit as a CTRL frame of a running peer leaves it. -/
def ctrlHeard (first : Bool) (w : Nat) (a : Bool) (m : Nat) (b : Bool) (p : PairSt) : PairSt :=
  { p with
    peerHealth := w, straitUp := p.straitUp || first || bit w 4, applied := a, dual := p.grant && bit w 2, mismatch := m, sync := b }

/-- STRAIT_UP as a CTRL frame sets it (R525). -/
def ctrlUp (first : Bool) (w : Nat) (s : State) : State :=
  let id := match s.pair.link with | some l => l.1 | none => 0
  if !s.pair.straitUp && (first || bit w 4) then
    raise 0x1113 115 1 0 id (onPair (fun p => { p with straitUp := true, applied := false }) s)
  else s

/-- The double grant as a CTRL frame shows it (R534). -/
def ctrlDual (w : Nat) (s : State) : State :=
  let dual := s.pair.grant && bit w 2
  if dual && !s.pair.dual then raise 0x1110 112 1 1 (ontLo s) (onPair (fun p => { p with dual := true }) s)
  else onPair (fun p => { p with dual := dual }) s

/-- The unit with the peer's health, STRAIT_UP and the double grant set. -/
def ctrlSeen (first : Bool) (w : Nat) (s : State) : State :=
  ctrlDual w (ctrlUp first w (onPair (fun p => { p with peerHealth := w }) s))

theorem ctrlFrame_eq {first : Bool} (h : byteField b 4 1 ≠ 0) : ctrlFrame first b s =
    syncCheck (mismatchSet (mismatchItem (ctrlSeen first (byteField b 0 4) s) b) (ctrlSeen first (byteField b 0 4) s)) := if_neg h

theorem ctrlUp_pair (first : Bool) (w : Nat) (s : State) :
    ∃ a, (ctrlUp first w s).pair = { s.pair with straitUp := s.pair.straitUp || first || bit w 4, applied := a } := by
  unfold ctrlUp
  dsimp only
  split
  · next h =>
    simp only [Bool.and_eq_true, Bool.not_eq_true'] at h
    rw [raise_pair, onPair_pair, h.1, Bool.false_or, h.2]
    exact ⟨false, rfl⟩
  · next h =>
    have same : (s.pair.straitUp || first || bit w 4) = s.pair.straitUp := by
      simp only [Bool.and_eq_true, Bool.not_eq_true', not_and, Bool.not_eq_true] at h
      cases hs : s.pair.straitUp
      · exact h hs
      · rfl
    rw [same]
    exact ⟨s.pair.applied, rfl⟩

theorem ctrlDual_pair (w : Nat) (s : State) : (ctrlDual w s).pair = { s.pair with dual := s.pair.grant && bit w 2 } := by
  unfold ctrlDual
  dsimp only
  split
  · next h =>
    simp only [Bool.and_eq_true] at h
    rw [raise_pair, onPair_pair, h.1.1, h.1.2]
    rfl
  · rfl

theorem ctrlFrame_pair {first : Bool} (h : byteField b 4 1 ≠ 0) :
    ∃ a m y, (ctrlFrame first b s).pair = ctrlHeard first (byteField b 0 4) a m y s.pair := by
  rw [ctrlFrame_eq h]
  obtain ⟨a, e1⟩ := ctrlUp_pair first (byteField b 0 4) (onPair (fun p => { p with peerHealth := byteField b 0 4 }) s)
  have e2 : (ctrlSeen first (byteField b 0 4) s).pair = _ := ctrlDual_pair ..
  generalize ctrlSeen first (byteField b 0 4) s = v at e2 ⊢
  obtain ⟨y, e3⟩ := mismatchSet_pair (mismatchItem v b) v
  obtain ⟨y', e4⟩ := syncCheck_pair (mismatchSet (mismatchItem v b) v)
  refine ⟨a, (mismatchItem v b).1, y', ?_⟩
  rw [e4, e3, e2, e1]
  rfl

theorem writeOne_pair (s : State) (e : Nat × Bytes) : (writeOne s e).pair = s.pair := by
  have effect (n : Nat) (s : State) : (paramEffect n s).pair = s.pair := by
    unfold paramEffect padLoad
    dsimp only
    split
    · split <;> rfl
    · split
      · rfl
      · split <;> rfl
  unfold writeOne
  split
  · rfl
  · split
    · rfl
    · exact effect ..

/-- The mirrored parameters leave the period; its other entries wait. -/
theorem mirrorParams_pair {p : Period} (h : s.pair.period = some p) : ∃ l, (∀ y ∈ l, y ∈ p.items) ∧
    (mirrorParams s).pair = { s.pair with period := some { p with items := l } } := by
  have written (l : List (Nat × Nat × Bytes)) (s : State) : (l.foldl (fun s x =>
      let es := [(x.2.1, x.2.2)]
      if writeFail s (viewAfter s es) es = none then es.foldl writeOne s else s) s).pair = s.pair := by
    induction l generalizing s with
    | nil => rfl
    | cons x l ih =>
      rw [List.foldl_cons, ih]
      dsimp only
      split
      · exact writeOne_pair ..
      · rfl
  unfold mirrorParams
  rw [h]
  dsimp only
  split
  · exact ⟨p.items, fun _ h => h, by rw [← h]⟩
  · rw [written]
    exact ⟨p.items.filter (fun x => x.1 != 11), fun y hy => (List.mem_filter.mp hy).1, rfl⟩

/-- The period that a whole LIST payload holds. -/
def periodOf (s : State) (b : Bytes) : Period :=
  { number := byteField b 0 4, ont := byteField b 4 8, items := periodItems (mirrorList s) (b.drop 16) }

/-- The pair unit with a whole period. -/
theorem periodDone_pair (h : byteField b 12 4 = listCrc s) : ∃ y l, (∀ x ∈ l, x ∈ periodItems (mirrorList s) (b.drop 16)) ∧
    (periodDone b s).pair = { s.pair with
      period := some { periodOf s b with items := l }
      periodSeq := byteField b 0 4, lostRun := 0, applied := true, sync := y } := by
  have e : periodDone b s = syncCheck (mirrorParams (onPair (fun p => { p with
      period := some (periodOf s b), periodSeq := (periodOf s b).number, lostRun := 0, applied := true }) s)) := if_neg (by simp [h])
  have here : (onPair (fun p => { p with
      period := some (periodOf s b), periodSeq := (periodOf s b).number, lostRun := 0, applied := true }) s).pair.period =
      some (periodOf s b) := rfl
  rw [e]
  obtain ⟨l, hl, e1⟩ := mirrorParams_pair here
  obtain ⟨y, e2⟩ := syncCheck_pair (mirrorParams (onPair (fun p => { p with
      period := some (periodOf s b), periodSeq := (periodOf s b).number, lostRun := 0, applied := true }) s))
  rw [e2, e1]
  simp only [periodOf] at hl
  exact ⟨y, l, hl, rfl⟩

theorem periodLost_pair (s : State) : ∃ y, (periodLost s).pair = { s.pair with
    lostCnt := satInc 32 s.pair.lostCnt, lostRun := s.pair.lostRun + 1, sync := y } := by
  unfold periodLost
  dsimp only
  split
  · rw [syncClear_pair]
    exact ⟨false, rfl⟩
  · exact ⟨s.pair.sync, rfl⟩

/-- One frame that holds the whole period: the period is done where its length fits the list, else it is lost. -/
theorem listFrame_whole (ha : s.pair.listAcc = none) (hb : s.pair.listBad = false) : listFrame false true b s =
    if b.length = 16 + listBytes s then periodDone b (onPair (fun p => { p with listAcc := none, listBad := false }) s)
    else periodLost (onPair (fun p => { p with listAcc := none, listBad := false }) s) := by
  have same : listBytes (onPair (fun p => { p with listAcc := none, listBad := false }) s) = listBytes s := rfl
  unfold listFrame
  rw [ha, hb]
  dsimp only
  rw [if_neg (by decide), same]
  by_cases hl : b.length = 16 + listBytes s
  · rw [if_pos hl, if_neg (by simp [hl])]
    rfl
  · rw [if_neg hl, if_pos (by simpa using hl)]

/-- What the links of the pair unit count of the frames that arrive. -/
def linkPart (s : State) : Nat × Nat × List (Nat × Nat) := (s.pair.rxSeq, s.pair.tagRun, s.pair.peerLinks)

theorem linkPart_of {p : PairSt} (h : t.pair = p) (e : (p.rxSeq, p.tagRun, p.peerLinks) = linkPart s := by rfl) :
    linkPart t = linkPart s := by
  rw [linkPart, h, e]

theorem linkPart_syncCheck (s : State) : linkPart (syncCheck s) = linkPart s := by
  obtain ⟨y, h⟩ := syncCheck_pair s
  exact linkPart_of h

theorem linkPart_listFrame (gap last : Bool) (b : Bytes) (s : State) : linkPart (listFrame gap last b s) = linkPart s := by
  have lost (s : State) : linkPart (periodLost s) = linkPart s := by
    obtain ⟨y, h⟩ := periodLost_pair s
    exact linkPart_of h
  have arrived (b : Bytes) (s : State) : linkPart (periodDone b s) = linkPart s := by
    by_cases hc : byteField b 12 4 = listCrc s
    · obtain ⟨y, l, -, h⟩ := periodDone_pair hc
      exact linkPart_of h
    · exact congrArg linkPart (if_pos hc)
  unfold listFrame
  dsimp only
  split
  · rfl
  · split
    · exact lost _
    · exact arrived ..

theorem linkPart_bulkFrame (gap last : Bool) (b : Bytes) (s : State) : linkPart (bulkFrame gap last b s) = linkPart s := by
  have taken (o : Bulk) (s : State) : linkPart (bulkTake o s) = linkPart s := by
    unfold bulkTake bulkRefuse
    dsimp only
    split
    · rfl
    · split
      · exact linkPart_of (raise_pair ..)
      · split
        · exact linkPart_of (raise_pair ..)
        · rfl
    · rfl
    · rfl
  unfold bulkFrame
  dsimp only
  split
  · rfl
  · split
    · rfl
    · exact (linkPart_syncCheck _).trans (taken ..)

/-- A frame that passed its checks, as its link has taken it: a link seen for the first time begins its periods and objects anew. -/
def linkTaken (i q : Nat) (s : State) : State :=
  let u := onPair (fun p => { p with tagRun := 0, peerLinks := insertNat i q p.peerLinks }) s
  if (lookupNat i s.pair.peerLinks).isNone then
    onPair (fun p => { p with listAcc := none, bulkAcc := none, listBad := false, bulkBad := false }) u
  else u

/-- Frames of the link were missed (R523). -/
def linkGap (i q : Nat) (s : State) : Bool := match lookupNat i s.pair.peerLinks with | some p => q != p + 1 | none => q != 0

/-- A CTRL frame ends what a gap has torn. -/
def gapTorn (gap : Bool) (s : State) : State :=
  if gap then onPair (fun p => { p with listBad := p.listAcc.isSome, bulkBad := p.bulkAcc.isSome }) s else s

theorem linkTaken_kept (i q : Nat) (s : State) : ∃ a b c d, (linkTaken i q s).pair = { s.pair with
    tagRun := 0, peerLinks := insertNat i q s.pair.peerLinks, listAcc := a, bulkAcc := b, listBad := c, bulkBad := d } := by
  unfold linkTaken
  dsimp only
  split
  · exact ⟨_, _, _, _, rfl⟩
  · exact ⟨_, _, _, _, rfl⟩

theorem gapTorn_kept (g : Bool) (s : State) : ∃ c d, (gapTorn g s).pair = { s.pair with listBad := c, bulkBad := d } := by
  unfold gapTorn
  split
  · exact ⟨_, _, rfl⟩
  · exact ⟨_, _, rfl⟩

theorem straitAccept_old {p : Nat} (h : lookupNat (byteField f 4 4) s.pair.peerLinks = some p) (hq : byteField f 8 8 ≤ p) :
    straitAccept f pt s = onPair (fun p => { p with rxSeq := satInc 32 p.rxSeq }) s := by
  unfold straitAccept
  dsimp only
  rw [h]
  exact if_pos (by simpa using hq)

/-- What a frame of each type does behind its checks. -/
def frameActs (type : Nat) (first gap last : Bool) (pt : Bytes) (s : State) : State :=
  if type = 1 then ctrlFrame first pt (gapTorn gap s)
  else if type = 2 then (if pairRole s = 2 then listFrame gap last pt s else s)
  else (if pairRole s = 2 then bulkFrame gap last pt s else s)

theorem straitAccept_new (h : ∀ p, lookupNat (byteField f 4 4) s.pair.peerLinks = some p → p < byteField f 8 8) :
    straitAccept f pt s = frameActs (byteField f 3 1) (lookupNat (byteField f 4 4) s.pair.peerLinks).isNone
      (linkGap (byteField f 4 4) (byteField f 8 8) s) (bit (byteField f 0x16 2) 0) pt
      (linkTaken (byteField f 4 4) (byteField f 8 8) s) := by
  have fresh : ¬ (match lookupNat (byteField f 4 4) s.pair.peerLinks with
      | some q => decide (byteField f 8 8 ≤ q) | none => false) = true := by
    cases hl : lookupNat (byteField f 4 4) s.pair.peerLinks with
    | none => simp
    | some p => simpa using h p hl
  have acts (ty : Nat) (a b d : State) : (match ty with | 1 => a | 2 => b | _ => d) = if ty = 1 then a else if ty = 2 then b else d := by
    match ty with
    | 0 => rfl
    | 1 => rfl
    | 2 => rfl
    | n + 3 => rfl
  unfold straitAccept
  exact (if_neg fresh).trans (acts ..)

/-- A CTRL frame with role 0 ends the strait (R536). -/
theorem ctrlFrame_stop {first : Bool} (h : byteField b 4 1 = 0) :
    ∃ l m, (ctrlFrame first b s).pair = straitCut l m { s.pair with peerHealth := byteField b 0 4 } := by
  have e : ctrlFrame first b s = straitDown 2 (onPair (fun p => { p with peerHealth := byteField b 0 4 }) s) := if_pos h
  rw [e]
  exact straitDown_pair ..

theorem linkPart_frameActs (type : Nat) (first gap last : Bool) (pt : Bytes) (hs : s.pair.tagRun = 0) :
    linkPart (frameActs type first gap last pt s) = linkPart s := by
  obtain ⟨c, d, torn⟩ := gapTorn_kept gap s
  unfold frameActs
  split
  · by_cases h : byteField pt 4 1 = 0
    · obtain ⟨l, m, down⟩ := ctrlFrame_stop (first := first) (s := gapTorn gap s) h
      refine linkPart_of down ?_
      rw [torn, linkPart, hs]
      rfl
    · obtain ⟨a, m, y, e⟩ := ctrlFrame_pair (first := first) (s := gapTorn gap s) h
      refine linkPart_of e ?_
      rw [torn]
      rfl
  · split
    · split
      · exact linkPart_listFrame ..
      · rfl
    · split
      · exact linkPart_bulkFrame ..
      · rfl

/-! ### The checks of a frame (R523) -/

theorem straitFrame_bad (hr : s.pair.running = true) (hi : inRun s = true) (h : straitFormOk f = false ∨ straitUnitOk s f = false) :
    straitFrame f s = if straitFormOk f then
        mismatchSet (1, b2n s.power.unitB, b2n (bit (byteField f 4 4) 31)) (onPair (fun p => { p with rxFormat := satInc 32 p.rxFormat }) s)
      else onPair (fun p => { p with rxFormat := satInc 32 p.rxFormat }) s := by
  unfold straitFrame
  rw [if_neg (by simp [hr, hi]), if_pos (by rcases h with h | h <;> simp [h])]
  rfl

theorem straitFrame_keyless (hr : s.pair.running = true) (hi : inRun s = true) (h1 : straitFormOk f = true) (h2 : straitUnitOk s f = true)
    (h : straitKey s f = none) : straitFrame f s = onPair (fun p => { p with rxEpoch := satInc 32 p.rxEpoch }) s := by
  unfold straitFrame
  rw [if_neg (by simp [hr, hi]), if_neg (by simp [h1, h2]), h]

/-- A frame whose tag is wrong counts, and at the limit takes the strait down (R523). -/
def tagFailed (s : State) : State :=
  let u := onPair (fun p => { p with rxTag := satInc 32 p.rxTag, tagRun := p.tagRun + 1 }) s
  if u.pair.straitUp && decide (parN u 0x1103 ≤ u.pair.tagRun) then straitDown 1 u else u

/-- The frame opened under the key of its position. -/
def frameOpened (k : Nat) (f : Bytes) (s : State) : Option Bytes :=
  Config.gcmOpen (slotKey s (22 + k) 1) ((f.drop 4).take 12) (f.take 24) (f.drop 24)

theorem straitFrame_keyed (hr : s.pair.running = true) (hi : inRun s = true) (h1 : straitFormOk f = true) (h2 : straitUnitOk s f = true)
    (h : straitKey s f = some k) : straitFrame f s = match frameOpened k f s with
      | none => tagFailed (slotAsk (22 + k) 1 s)
      | some pt => straitAccept f pt (slotAsk (22 + k) 1 s) := by
  unfold straitFrame
  rw [if_neg (by simp [hr, hi]), if_neg (by simp [h1, h2]), h]
  dsimp only
  rw [slotKey_slotAsk]
  rfl

theorem tagFailed_pair (s : State) : (s.pair.straitUp = true ∧ parN s 0x1103 ≤ s.pair.tagRun + 1 ∧ ∃ l m, (tagFailed s).pair =
      straitCut l m { s.pair with rxTag := satInc 32 s.pair.rxTag, tagRun := s.pair.tagRun + 1 }) ∨
    (¬ (s.pair.straitUp = true ∧ parN s 0x1103 ≤ s.pair.tagRun + 1) ∧ (tagFailed s).pair =
      { s.pair with rxTag := satInc 32 s.pair.rxTag, tagRun := s.pair.tagRun + 1 }) := by
  unfold tagFailed
  by_cases h : s.pair.straitUp = true ∧ parN s 0x1103 ≤ s.pair.tagRun + 1
  · obtain ⟨l, m, down⟩ := straitDown_pair 1 (onPair (fun p => { p with rxTag := satInc 32 p.rxTag, tagRun := p.tagRun + 1 }) s)
    refine .inl ⟨h.1, h.2, l, m, ?_⟩
    have limit : (s.pair.straitUp && decide (parN s 0x1103 ≤ s.pair.tagRun + 1)) = true := by simp [h]
    exact (congrArg (fun v : State => v.pair) (if_pos limit)).trans down
  · refine .inr ⟨h, ?_⟩
    have below : ¬ (s.pair.straitUp && decide (parN s 0x1103 ≤ s.pair.tagRun + 1)) = true := by simpa using h
    exact congrArg (fun v : State => v.pair) (if_neg below)

/-- The pair unit behind a frame whose tag is wrong. -/
theorem tagFailed_unit (s : State) : (tagFailed s).pair.rxTag = satInc 32 s.pair.rxTag ∧ (tagFailed s).pair.peerLinks = s.pair.peerLinks ∧
    (tagFailed s).pair.period = s.pair.period ∧
    (tagFailed s).pair.straitUp = (s.pair.straitUp && decide (s.pair.tagRun + 1 < parN s 0x1103)) ∧
    ((tagFailed s).pair.straitUp = true → (tagFailed s).pair.tagRun = s.pair.tagRun + 1 ∧ (tagFailed s).pair.sync = s.pair.sync) ∧
    (s.pair.straitUp = true → (tagFailed s).pair.straitUp = false → (tagFailed s).pair.sync = false ∧ (tagFailed s).pair.tagRun = 0) := by
  rcases tagFailed_pair s with ⟨up, limit, l, m, e⟩ | ⟨h, e⟩
  · rw [e]
    refine ⟨rfl, rfl, rfl, ?_, nofun, fun _ _ => ⟨rfl, rfl⟩⟩
    simp [straitCut, up, limit]
  · rw [e]
    refine ⟨rfl, rfl, rfl, ?_, fun _ => ⟨rfl, rfl⟩, fun up down => ?_⟩
    · cases up : s.pair.straitUp
      · rfl
      · simpa [up] using h
    · rw [up] at down
      cases down

theorem linkPart_iff {a b : Nat} {l : List (Nat × Nat)} : linkPart s = (a, b, l) ↔ s.pair.rxSeq = a ∧ s.pair.tagRun = b ∧ s.pair.peerLinks = l := by
  simp [linkPart]

theorem PairOnly.takes (a : PairOnly s t) (i q : Nat) : PairOnly s (linkTaken i q t) := by
  unfold linkTaken
  exact .ite ((a.unit _).unit _) (a.unit _)

/-- A link that is known goes on with what it has received. -/
theorem linkTaken_known {p : Nat} (h : lookupNat i s.pair.peerLinks = some p) :
    (linkTaken i q s).pair = { s.pair with tagRun := 0, peerLinks := insertNat i q s.pair.peerLinks } := by
  unfold linkTaken
  dsimp only
  rw [if_neg (by simp [h])]
  rfl

theorem frameActs_ctrl {first gap last : Bool} : frameActs 1 first gap last pt s = ctrlFrame first pt (gapTorn gap s) := if_pos rfl

theorem frameActs_list {first gap last : Bool} (h : pairRole s = 2) : frameActs 2 first gap last pt s = listFrame gap last pt s :=
  (if_neg (by decide)).trans ((if_pos rfl).trans (if_pos h))

/-- A frame that is not CTRL does nothing on a unit that has grant or holds. -/
theorem frameActs_idle {type : Nat} {first gap last : Bool} (ht : type ≠ 1) (h : s.pair.grant = true ∨ s.pair.hold = true) :
    frameActs type first gap last pt s = s := by
  have role : pairRole s ≠ 2 := by
    unfold pairRole
    cases s.pair.running <;> cases hh : s.pair.hold <;> cases hg : s.pair.grant <;> simp_all
  unfold frameActs
  rw [if_neg ht, if_neg role, if_neg role, ite_self]

end

/-- Settles O56: what each frame makes of the pair unit. The staging that a gap tears (log 26), the frames brought at their instants (log 43) and
the CTRL frame with role 0 as the peer's pair stop are the model's choices. -/
theorem pairStrait : Obligations.PairStrait := by
  unfold Obligations.PairStrait
  refine ⟨?_, ?_, ?_, ?_, ?_, ?_, ?_, ?_, ?_, ?_⟩
  · intro s i q k e h hr hi hl hk he hh
    subst he
    have sent := straitSend_linked (n := 1) (l := false) (b := ctrlPayload s (pairRole s)) hl hk
    have flags : b2n false + 2 * k = 2 * k := Nat.zero_add _
    rw [flags, ← hh] at sent
    have due : exec .ctrlFrameTimer s = .next (straitSend 1 false (ctrlPayload s (pairRole s)) s) := by
      refine congrArg Host.Outcome.next ((if_pos (by simp [hr, hi])).trans ?_)
      rw [if_neg (by simp [hl])]
    have a := ((PairOnly.refl s).asks (22 + k) 1).plant
    refine ⟨_, due, ?_⟩
    rw [sent]
    refine ⟨rfl, ?_, a.1, a.2.1, fun ho => ?_⟩
    · exact congrArg (fun p : PairSt => { p with link := some (i, q + 1) }) (slotAsk_pair ..)
    · rw [slotAsk_ok _ _ ho]
      rfl
  · intro s hr hi hl
    have due : exec .ctrlFrameTimer s = .next (straitSend 1 false (ctrlPayload (linkStart s) (pairRole (linkStart s))) (linkStart s)) := by
      refine congrArg Host.Outcome.next ((if_pos (by simp [hr, hi])).trans ?_)
      rw [if_pos (by simp [hl])]
    have a := (((PairOnly.refl s).starts).straitSends 1 false (ctrlPayload (linkStart s) (pairRole (linkStart s)))).plant
    refine ⟨_, due, fun hd => ?_, fun hd => ?_, a.1, a.2.1, a.2.2.2⟩
    · have e : linkStart s = onPair (fun p => { p with link := none }) s := if_neg (by simp [hd])
      rw [e, straitSend_unlinked (s := onPair (fun p => { p with link := none }) s) rfl]
      exact ⟨rfl, rfl⟩
    · have pos : straitPos (linkStart s) = straitPos s := by
        unfold linkStart
        split <;> rfl
      have started : ∃ i, i / 2 ^ 31 = b2n s.power.unitB ∧ (linkStart s).pair.link = some (i, 0) := by
        refine ⟨leNat (drbg s 0 4) % 2 ^ 31 + b2n s.power.unitB * 2 ^ 31, by omega, ?_⟩
        unfold linkStart
        rw [if_pos (by simp [hd, hr])]
        rfl
      obtain ⟨i, hb, link⟩ := started
      refine ⟨i, hb, fun hn => ?_, fun hn => ?_⟩
      · rw [straitSend_keyless (pos.trans hn)]
        exact link
      · obtain ⟨k, hk⟩ := Option.ne_none_iff_exists'.mp hn
        rw [straitSend_linked link (pos.trans hk)]
        rfl
  · intro s i q k e n b h hm hr hi hg hh hl hk hq hn he hb hlen hhd
    have hb : b = periodBytes n s := hb
    subst hb he
    have one := mirrorCapture_one hm hr hi hg hh hl hk hq hn hlen
    rw [straitSend_linked (s := onPair (fun p => { p with periodSeq := n }) s) hl hk] at one
    have flags : b2n true + 2 * k = 1 + 2 * k := rfl
    rw [flags] at one
    have epochs : (onPair (fun p => { p with periodSeq := n }) s).sec.epochs = s.sec.epochs := rfl
    rw [epochs, ← hhd] at one
    rw [slotAsk_onPair] at one
    have a := ((PairOnly.refl s).asks (22 + k) 1).plant
    have asked := slotAsk_pair (22 + k) 1 s
    have quiet := slotAsk_ok (s := s) (22 + k) 1
    generalize slotAsk (22 + k) 1 s = v at *
    refine ⟨_, congrArg Host.Outcome.next one, rfl, ?_, a.1, a.2.1, fun ho => ?_⟩
    · exact congrArg (fun p : PairSt => { p with link := some (i, q + 1), periodSeq := n }) asked
    · rw [quiet ho]
      rfl
  · intro s k hk
    have live := straitPos_live hk
    unfold slotKey slotOk
    rw [live, Bool.true_and]
  · intro s h
    refine congrArg Host.Outcome.next (if_neg ?_)
    unfold pairRole
    rcases h with h | h | h | h | h | h
    · simp [h]
    · simp [h]
    · cases hr : s.pair.running <;> cases hh : s.pair.hold <;> simp [h]
    · cases hr : s.pair.running <;> simp [h]
    · simp [h]
    · simp [h]
  · intro s f hr hi h
    have e : exec (.straitFrameReceived f) s = .next (straitFrame f s) := rfl
    rw [straitFrame_bad hr hi h] at e
    refine ⟨_, e, ?_⟩
    cases hf : straitFormOk f
    · exact ⟨rfl, rfl, rfl, rfl, rfl, fun _ => rfl, nofun⟩
    · obtain ⟨y, m⟩ := mismatchSet_pair (1, b2n s.power.unitB, b2n (bit (byteField f 4 4) 31))
        (onPair (fun p => { p with rxFormat := satInc 32 p.rxFormat }) s)
      rw [if_pos rfl, m]
      exact ⟨rfl, rfl, rfl, rfl, rfl, nofun, fun _ => rfl⟩
  · intro s f hr hi h1 h2 h
    exact congrArg Host.Outcome.next (straitFrame_keyless hr hi h1 h2 h)
  · intro s f k i q hr hi h1 h2 hk hi' hq'
    have e : exec (.straitFrameReceived f) s = .next (straitFrame f s) := rfl
    rw [straitFrame_keyed hr hi h1 h2 hk] at e
    refine ⟨_, e, ?_⟩
    have asked : PairOnly s (slotAsk (22 + k) 1 s) := (PairOnly.refl s).asks ..
    have same := slotAsk_pair (22 + k) 1 s
    generalize slotAsk (22 + k) 1 s = v at asked same ⊢
    have runs : v.pair.running = true := by rw [same]; exact hr
    have par : parN v 0x1103 = parN s 0x1103 := by rw [asked.eq]; rfl
    have list : mirrorList v = mirrorList s := by rw [asked.eq]; rfl
    have bytes : listBytes v = listBytes s := by rw [asked.eq]; rfl
    have crc : listCrc v = listCrc s := by rw [asked.eq]; rfl
    unfold frameOpened
    cases Config.gcmOpen (slotKey s (22 + k) 1) ((f.drop 4).take 12) (f.take 24) (f.drop 24) with
    | none =>
      rw [← same, ← par]
      exact tagFailed_unit v
    | some pt =>
      dsimp only
      obtain ⟨loops, logic, -, -⟩ := asked.plant
      rw [← same, ← list, ← bytes, ← crc]
      subst hi' hq'
      refine ⟨fun ⟨p, h, hq⟩ => ?_, fun h => ?_⟩
      · rw [straitAccept_old h hq]
        exact ⟨rfl, loops, logic⟩
      · rw [straitAccept_new h]
        obtain ⟨a, b, c, d, taken⟩ := linkTaken_kept (byteField f 4 4) (byteField f 8 8) v
        have run : (linkTaken (byteField f 4 4) (byteField f 8 8) v).pair.tagRun = 0 := by rw [taken]
        have part := linkPart_frameActs (byteField f 3 1) (lookupNat (byteField f 4 4) v.pair.peerLinks).isNone
          (linkGap (byteField f 4 4) (byteField f 8 8) v) (bit (byteField f 0x16 2) 0) (pt := pt) run
        have kept {p : Nat} := linkTaken_known (s := v) (i := byteField f 4 4) (q := byteField f 8 8) (p := p)
        have only : PairOnly v (linkTaken (byteField f 4 4) (byteField f 8 8) v) := (PairOnly.refl v).takes ..
        generalize linkTaken (byteField f 4 4) (byteField f 8 8) v = u at taken run part kept only ⊢
        have part := part.trans (show linkPart u = (v.pair.rxSeq, 0, insertNat (byteField f 4 4) (byteField f 8 8) v.pair.peerLinks) by
          rw [linkPart, taken])
        obtain ⟨seq, tags, links⟩ := linkPart_iff.mp part
        have list : mirrorList u = mirrorList v := by rw [only.eq]; rfl
        have bytes : listBytes u = listBytes v := by rw [only.eq]; rfl
        have crc : listCrc u = listCrc v := by rw [only.eq]; rfl
        refine ⟨seq, tags, ?_, fun ty role => ?_, fun ty role => ?_, fun ty held => ?_, fun ty hg hh known ha hb last => ?_⟩
        · rw [links]
          exact lookupNat_insertNat_same ..
        · obtain ⟨c, d, torn⟩ := gapTorn_kept (linkGap (byteField f 4 4) (byteField f 8 8) v) u
          rw [ty, frameActs_ctrl]
          obtain ⟨x, m, y, e⟩ := ctrlFrame_pair (first := (lookupNat (byteField f 4 4) v.pair.peerLinks).isNone)
            (s := gapTorn (linkGap (byteField f 4 4) (byteField f 8 8) v) u) role
          rw [e, torn, taken]
          refine ⟨rfl, rfl, ?_, rfl⟩
          cases lookupNat (byteField f 4 4) v.pair.peerLinks <;> rfl
        · rw [ty, frameActs_ctrl]
          obtain ⟨l, m, down⟩ := ctrlFrame_stop (first := (lookupNat (byteField f 4 4) v.pair.peerLinks).isNone)
            (s := gapTorn (linkGap (byteField f 4 4) (byteField f 8 8) v) u) role
          rw [down]
          exact ⟨rfl, rfl⟩
        · rw [frameActs_idle ty (by rw [taken]; exact held), taken]
          exact ⟨rfl, rfl, rfl, rfl⟩
        · have next : linkGap (byteField f 4 4) (byteField f 8 8) v = false := by
            have := h _ known
            rw [linkGap, known]
            simp only [bne_eq_false_iff_eq]
            omega
          have same := kept known
          have standby : pairRole u = 2 := by
            rw [pairRole, same]
            simp [runs, hg, hh]
          rw [ty, frameActs_list standby, next, last, listFrame_whole (by rw [same]; exact ha) (by rw [same]; exact hb), bytes]
          refine ⟨fun len check => ?_, fun len => ?_⟩
          · rw [if_pos len]
            have check : byteField pt 12 4 = listCrc (onPair (fun p => { p with listAcc := none, listBad := false }) u) := check.trans crc.symm
            have items : mirrorList (onPair (fun p => { p with listAcc := none, listBad := false }) u) = mirrorList v := list
            obtain ⟨y, l, hl, arrived⟩ := periodDone_pair check
            rw [items] at hl
            rw [arrived]
            exact ⟨rfl, rfl, rfl, _, rfl, rfl, rfl, hl⟩
          · rw [if_neg len]
            obtain ⟨y, lost⟩ := periodLost_pair (onPair (fun p => { p with listAcc := none, listBad := false }) u)
            rw [lost, onPair_pair, same]
            exact ⟨rfl, rfl, rfl⟩
  · intro s h
    refine congrArg Host.Outcome.next (if_neg ?_)
    rcases h with h | h | h <;> simp [h]
  · intro s hr hp hu
    have e : exec .straitTimeout s = .next (straitDown 0 s) := congrArg Host.Outcome.next (if_pos (by simp [hr, hp, hu]))
    obtain ⟨l, m, down⟩ := straitDown_pair 0 s
    obtain ⟨loops, logic, axes, params⟩ := ((PairOnly.refl s).downs 0).plant
    refine ⟨_, e, ?_⟩
    rw [down]
    exact ⟨rfl, rfl, rfl, rfl, rfl, loops, axes, logic, params⟩

end Sys2Proof.Machine
end

section
/-! Ingest of datagrams: O54. What the rate limit of a port compares with (R30, R500). -/

namespace Sys2Proof.Machine

/-- A datagram of 18 zeros to 10.0.0.1, in a broadcast frame without its FCS: IPv4 and UDP headers, UDP checksum 0. -/
def shortDatagramBody : Bytes :=
  List.replicate 6 0xFF ++ [2, 0, 0, 0, 0, 2, 8, 0] ++
    [0x45, 0, 0, 0x2E, 0, 0, 0, 0, 0x40, 17, 0x66, 0xBD, 10, 0, 0, 2, 10, 0, 0, 1] ++ [0x12, 0x34, 0xB9, 0x3C, 0, 26, 0, 0] ++ zeros 18

/-- The frame with its FCS. -/
def shortDatagramFrame : Bytes := shortDatagramBody ++ fcsOf shortDatagramBody

/-- A port that has admitted one datagram in this second: a limit of 5 a second is committed, one of 1 written behind it. -/
def ratedPart : State :=
  { State.reset with
    power := { phase := .up }
    host := {
      units := { State.reset.host.units with net := [{ enabled := true }, {}, { enabled := true }] }
      params := [(0x6004, 0x0A000001), (0x6009, 1)], uncommitted := [(0x6009, 5)] }
    net := { ports := [{ link := true, admitted := 1 }, {}] } }

theorem portUp_ratedPart : portUp ratedPart 0 = true := by decide

theorem frameKind_shortDatagram : frameKind ratedPart 0 shortDatagramFrame = .telemetry (zeros 18) := by
  have fcs : (fcsOf shortDatagramBody).length = 4 := length_leBytes ..
  have len : shortDatagramFrame.length = 64 := by
    rw [shortDatagramFrame, List.length_append, fcs]
    rfl
  have body : shortDatagramFrame.take 60 = shortDatagramBody := List.take_left' rfl
  have tail : shortDatagramFrame.drop 60 = fcsOf shortDatagramBody := List.drop_left' rfl
  have dst : shortDatagramFrame.take 6 = List.replicate 6 0xFF := by
    calc shortDatagramFrame.take 6 = (shortDatagramFrame.take 60).take 6 := by rw [List.take_take]; rfl
      _ = List.replicate 6 0xFF := by rw [body]; rfl
  unfold frameKind
  rw [len]
  dsimp only
  rw [body, tail, dst, if_neg (by decide), if_neg (by decide), if_neg (by simp)]
  decide

theorem ingestReject_rejRate (step index : Nat) (s : State) : (ingestReject step index s).net.rejRate = s.net.rejRate := by
  unfold ingestReject
  dsimp only
  split
  · rw [raise_net]
    rfl
  · rfl

/-- A port works with the rate limit that it has committed: below it a datagram is checked, not dropped. -/
theorem telemetry_short {p : Nat} {d : Bytes} {s : State} (h : enabled s 16 2 = true) (hd : d.length ≠ 64)
    (hn : (if (portOf s p).second = s.time.ont / 1000000000 then (portOf s p).admitted else 0) < actN s (portId p 9)) :
    (telemetry p d s).net.rejRate = s.net.rejRate := by
  unfold telemetry
  rw [if_neg (by simp [h])]
  dsimp only
  rw [if_pos hn]
  unfold ingest
  dsimp only
  rw [if_pos (.inl hd), ingestReject_rejRate]
  rfl

/-- Refutes O54: the clauses of the rate limit compare with the parameter as last written, where a port works with the value that it
has committed (R30). With 1 a second written behind a committed 5, the second datagram of a second is checked, and none is counted
as dropped. -/
theorem not_networkIngest : ¬ Obligations.NetworkIngest := by
  unfold Obligations.NetworkIngest
  rintro ⟨-, hrate, -⟩
  obtain ⟨t, hrun, hdropped, -⟩ := hrate ratedPart 0 0 shortDatagramFrame (zeros 18) { link := true, admitted := 1 } portUp_ratedPart
    frameKind_shortDatagram (by decide) rfl rfl (by decide)
  have checked : exec (.telemetryDatagram 0 shortDatagramFrame) ratedPart = .next (telemetry 0 (zeros 18) (portRx 0 ratedPart)) := by
    show Host.Outcome.next (frameIn 0 shortDatagramFrame ratedPart) = _
    unfold frameIn
    rw [if_neg (by rw [portUp_ratedPart]; decide), frameKind_shortDatagram]
  have none : (telemetry 0 (zeros 18) (portRx 0 ratedPart)).net.rejRate = 0 :=
    telemetry_short (s := portRx 0 ratedPart) (by decide) (by decide) (by decide)
  injection hrun.symm.trans checked with same
  rw [same, none] at hdropped
  exact absurd hdropped (by decide)

end Sys2Proof.Machine
end

section
/-! SUPPORT. Channels, reference and calibration: what an output instant and a step of the sequence make of a channel (R420 to R431). -/

namespace Sys2Proof.Machine

section
variable {s t u : State} {k : Nat} {c : AdcCh} {x : CalSt}

/-! ### What the acquisition's work leaves -/

/-- From `s` to `t` only the acquisition, the samples kept for estimation, reports and what is committed have changed. -/
structure AdcOnly (s t : State) : Prop where
  eq : t = { s with
    free := t.free
    host := { s.host with
      evtStatus := t.host.evtStatus, sent := t.host.sent, pba := t.host.pba, uncommitted := t.host.uncommitted
      tabUncommitted := t.host.tabUncommitted }
    recorder := t.recorder, est := t.est, adc := t.adc }

theorem AdcOnly.refl (s : State) : AdcOnly s s := ⟨rfl⟩

theorem AdcOnly.trans (a : AdcOnly s t) (b : AdcOnly t u) : AdcOnly s u := ⟨by rw [b.eq, a.eq]⟩

theorem AdcOnly.report (a : AdcOnly s t) (e k p q r : Nat) : AdcOnly s (raise e k p q r t) :=
  a.trans ⟨by rw [(reported_raise e k p q r t).eq]⟩

theorem AdcOnly.adc (a : AdcOnly s t) (f : AdcSt → AdcSt) : AdcOnly s (onAdc f t) := a.trans ⟨rfl⟩

theorem AdcOnly.commit (a : AdcOnly s t) (p : Nat → Bool) : AdcOnly s (parCommit p t) := a.trans ⟨rfl⟩

theorem AdcOnly.draws (a : AdcOnly s t) : AdcOnly s t.drawn := a.trans ⟨rfl⟩

theorem AdcOnly.held (a : AdcOnly s t) (i j : Nat) : AdcOnly s (holdSample i j t) := by
  unfold holdSample
  split
  · exact a
  · exact a.trans ⟨rfl⟩

theorem AdcOnly.ite {p : Prop} [Decidable p] (a : AdcOnly s t) (b : AdcOnly s u) : AdcOnly s (if p then t else u) := by
  split
  · exact a
  · exact b

theorem AdcOnly.others (a : AdcOnly s t) : t.meter = s.meter ∧ t.loops = s.loops ∧ t.host.params = s.host.params ∧ t.time = s.time := by
  rw [a.eq]
  exact ⟨rfl, rfl, rfl, rfl⟩

theorem holdSample_adc (i j : Nat) (s : State) : (holdSample i j s).adc = s.adc := by
  unfold holdSample
  split <;> rfl

theorem onCh_getElem? (h : s.adc.ch[k]? = some c) (f : AdcCh → AdcCh) : (onCh k f s).adc.ch[k]? = some (f c) :=
  (getElem?_modNth_same ..).trans (by rw [h]; rfl)

theorem onCh_other {j : Nat} (hj : j ≠ k) (f : AdcCh → AdcCh) (s : State) : (onCh k f s).adc.ch[j]? = s.adc.ch[j]? :=
  getElem?_modNth_other _ _ _ _ hj

theorem adcCh_of_getElem? (h : s.adc.ch[k]? = some c) : adcCh s k = c := nth_of_getElem? h

/-- From `s` to `t` channel `k` has become `y` and the sequencer `x`, and of the acquisition nothing else but ADC_OVR and the count of
calibrations has changed. -/
structure ChIs (k : Nat) (y : AdcCh) (x : CalSt) (s t : State) : Prop where
  here : t.adc.ch[k]? = some y
  cal : t.adc.cal = x
  others : ∀ j, j ≠ k → t.adc.ch[j]? = s.adc.ch[j]?
  adc : t.adc = { s.adc with ch := t.adc.ch, cal := t.adc.cal, ovr := t.adc.ovr, calCnt := t.adc.calCnt }
  only : AdcOnly s t

theorem ChIs.of_getElem? (h : s.adc.ch[k]? = some c) : ChIs k c s.adc.cal s s := ⟨h, rfl, fun _ _ => rfl, rfl, .refl s⟩

theorem ChIs.update (a : ChIs k c x s t) (f : AdcCh → AdcCh) : ChIs k (f c) x s (onCh k f t) :=
  ⟨onCh_getElem? a.here f, a.cal, fun j hj => (onCh_other hj f t).trans (a.others j hj), by rw [onCh, onAdc_adc, a.adc], a.only.adc _⟩

theorem ChIs.sequencer (a : ChIs k c x s t) (f : CalSt → CalSt) : ChIs k c (f x) s (onCal f t) :=
  ⟨a.here, congrArg f a.cal, a.others, by rw [onCal, onAdc_adc, a.adc], a.only.adc _⟩

theorem ChIs.counted (a : ChIs k c x s t) : ChIs k c x s (onAdc (fun a => { a with calCnt := satInc 32 a.calCnt }) t) :=
  ⟨a.here, a.cal, a.others, by rw [onAdc_adc, a.adc], a.only.adc _⟩

theorem ChIs.same (a : ChIs k c x s t) (h : u.adc = t.adc) (o : AdcOnly t u) : ChIs k c x s u :=
  ⟨by rw [h]; exact a.here, by rw [h]; exact a.cal, by rw [h]; exact a.others, by rw [h]; exact a.adc, a.only.trans o⟩

theorem ChIs.report (a : ChIs k c x s t) (e i p q r : Nat) : ChIs k c x s (raise e i p q r t) := a.same (raise_adc ..) ((AdcOnly.refl t).report ..)

theorem ChIs.commit (a : ChIs k c x s t) (p : Nat → Bool) : ChIs k c x s (parCommit p t) := a.same rfl ((AdcOnly.refl t).commit p)

theorem ChIs.held (a : ChIs k c x s t) (i j : Nat) : ChIs k c x s (holdSample i j t) := a.same (holdSample_adc ..) ((AdcOnly.refl t).held ..)

theorem ChIs.draws (a : ChIs k c x s t) : ChIs k c x s t.drawn := a.same rfl (AdcOnly.refl t).draws

theorem ChIs.ite {p : Prop} [Decidable p] (a : ChIs k c x s t) (b : ChIs k c x s u) : ChIs k c x s (if p then t else u) := by
  split
  · exact a
  · exact b

theorem ChIs.rest (a : ChIs k c x s t) : t.adc.ref = s.adc.ref ∧ t.adc.wav = s.adc.wav ∧ t.meter = s.meter ∧ t.loops = s.loops ∧
    t.host.params = s.host.params := by
  obtain ⟨meter, loops, params, -⟩ := a.only.others
  rw [a.adc]
  exact ⟨rfl, rfl, meter, loops, params⟩

theorem ChIs.of_eq (a : ChIs k c x s t) (h : u = t) : ChIs k c x s u := h ▸ a

/-! ### Output instants (R421 to R423) -/

/-- The part as an output instant finds it: the channel's parameters committed, a reset recorded, the instant counted. -/
def sdCounted (k : Nat) (reset : Bool) (s : State) : State :=
  let u := parCommit (adcParams k) s
  onCh k (fun c => { c with count := min ((adcCh s k).count + 1) 18 })
    (if reset && (adcCh s k).discard == 0 then raise 0x0D17 86 k (ontLo u) 0 u else u)

theorem sdCounted_is (h : s.adc.ch[k]? = some c) (reset : Bool) : ChIs k { c with count := min (c.count + 1) 18 } s.adc.cal s (sdCounted k reset s) := by
  unfold sdCounted
  rw [adcCh_of_getElem? h]
  have a := (ChIs.of_getElem? h).commit (adcParams k)
  let counted (c' : AdcCh) : AdcCh := { c' with count := min (c.count + 1) 18 }
  dsimp only
  split
  · exact (a.report ..).update counted
  · exact a.update counted

theorem sdCounted_ovr (k : Nat) (reset : Bool) (s : State) : (sdCounted k reset s).adc.ovr = s.adc.ovr := by
  unfold sdCounted
  rw [onCh, onAdc_adc]
  dsimp only
  split
  · rw [raise_adc]
    rfl
  · rfl

/-- The instant works with the rate that it has just committed. -/
theorem sdCounted_rate (k : Nat) (reset : Bool) (hk : k < 24) (s : State) : actN (sdCounted k reset s) (adcId k 0) = parN s (adcId k 0) := by
  have own : adcParams k (adcId k 0) = true := by simp [adcParams, hk, adcId]
  have a : act (sdCounted k reset s) (adcId k 0) = act (parCommit (adcParams k) s) (adcId k 0) := by
    unfold sdCounted
    dsimp only
    split
    · show act (raise _ _ _ _ _ _) _ = _
      rw [(reported_raise ..).eq]
      rfl
    · rfl
  rw [actN, a, act_parCommit s own, parN]

theorem sdOutput_eq {raw : Int} {reset : Bool} (h : s.adc.ch[k]? = some c) (hm : meterRuns s = true) (hr : c.running = true)
    (hi : sdInstant s k = true) (hs : ¬ (c.count = 0 ∧ c.startTick = s.power.netTick)) : sdOutput k raw reset s =
      if 0 < (if reset then 18 else c.discard) then
        resultGone k (onCh k (fun c' => { c' with discard := (if reset then 18 else c.discard) - 1, afterReset := true }) (sdCounted k reset s))
      else if min (c.count + 1) 18 < 18 then resultGone k (sdCounted k reset s)
      else publishResult k raw (sdCounted k reset s) := by
  have here := adcCh_of_getElem? h
  unfold sdOutput sdCounted
  rw [here]
  exact if_neg (by simpa [hm, hr, hi] using hs)

/-! ### Published results (R420, R423) -/

/-- A channel with a published code, and whether it saturated. -/
def published (s : State) (k : Nat) (m : Int × Bool) (c : AdcCh) : AdcCh :=
  let ts := s.time.ont - groupDelay (actN s (adcId k 0))
  let fl := resultFlags s k ts m.2
  { c with
    result := m.1, seq := wrapInc 32 c.seq, ts := ts, flags := fl, afterReset := false
    step := c.step ++ [some m.1], stepFlags := Nat.lor c.stepFlags fl }

/-- A code that saturates is noted in ADC_OVR, and recorded where its event is enabled. -/
def overNoted (k : Nat) (m : Int × Bool) (s : State) : State :=
  if m.2 && !s.adc.ovr.getLsbD k then
    let u := onAdc (fun a => { a with ovr := a.ovr ||| (1#24 <<< k) }) s
    if act u (adcId k 2) = 1 then raise 0x0D11 81 k (u32 m.1) (ontLo u) u else u
  else s

/-- The code of the channel's own modulator, or of the spare that stands in for it. -/
def codeOf (s : State) (k : Nat) (raw : Int) : Int × Bool :=
  if (adcCh s k).subst then correctCode raw s.adc.cal.spareO s.adc.cal.spareG else correctCode raw (adcCh s k).offset (adcCh s k).gain

theorem publishResult_eq (k : Nat) (raw : Int) (s : State) : publishResult k raw s =
    overNoted k (codeOf s k raw) (onCh k (published s k (codeOf s k raw)) (holdSample 1 k s)) := rfl

theorem overNoted_is (m : Int × Bool) (a : ChIs k c x s t) : ChIs k c x s (overNoted k m t) := by
  have noted : ChIs k c x s (onAdc (fun a => { a with ovr := a.ovr ||| (1#24 <<< k) }) t) :=
    ⟨a.here, a.cal, a.others, by rw [onAdc_adc, a.adc], a.only.adc _⟩
  exact .ite (.ite (noted.report ..) noted) a

theorem publishResult_is {raw : Int} (a : ChIs k c x s t) :
    ChIs k (published t k (codeOf t k raw) c) x s (publishResult k raw t) := by
  rw [publishResult_eq]
  exact overNoted_is _ ((a.held 1 k).update _)

theorem overNoted_ovr (hk : k < 24) (m : Int × Bool) (s : State) (j : Nat) :
    (overNoted k m s).adc.ovr.getLsbD j = (s.adc.ovr.getLsbD j || (decide (j = k) && m.2)) := by
  have set (u : State) (p : Prop) [Decidable p] (e : State) (he : e.adc = u.adc) : (if p then e else u).adc = u.adc := by
    split
    · exact he
    · rfl
  unfold overNoted
  split
  · next h =>
    simp only [Bool.and_eq_true, Bool.not_eq_true'] at h
    dsimp only
    rw [set _ _ _ (raise_adc ..), onAdc_adc]
    have one : ((1#24 <<< k).getLsbD j) = decide (j = k) := by
      by_cases hj : j = k
      · subst hj
        simp [BitVec.getLsbD_shiftLeft, hk]
      · simp [BitVec.getLsbD_shiftLeft, hj]
        omega
    rw [BitVec.getLsbD_or, one, h.1, Bool.and_true]
  · next h =>
    by_cases hj : j = k
    · subst hj
      cases hm : m.2
      · simp
      · have : s.adc.ovr.getLsbD j = true := by simpa [hm] using h
        simp [this]
    · simp [hj]

/-- The flags of a result, bit by bit (R443). -/
theorem resultFlags_bits {ts r : Nat} {o : Bool} (h : adcCh s k = c) (hr : actN s (adcId k 0) = r) (h4 : r < 4) :
    bit (resultFlags s k ts o) 0 = true ∧ bit (resultFlags s k ts o) 1 = decide (ts < s.adc.ref.t + 5000000) ∧
    bit (resultFlags s k ts o) 2 = s.adc.ref.fault ∧ bit (resultFlags s k ts o) 3 = c.subst ∧ bit (resultFlags s k ts o) 4 = o ∧
    bit (resultFlags s k ts o) 5 = c.afterReset ∧ bit (resultFlags s k ts o) 6 = c.calFail ∧ bits (resultFlags s k ts o) 8 2 = r := by
  have h1 := b2n_le (decide (ts < s.adc.ref.t + 5000000))
  have h2 := b2n_le s.adc.ref.fault
  have h3 := b2n_le c.subst
  have h4 := b2n_le o
  have h5 := b2n_le c.afterReset
  have h6 := b2n_le c.calFail
  unfold resultFlags
  dsimp only
  rw [h, hr]
  refine ⟨bit_of_div (b := true) ?_, bit_of_div ?_, bit_of_div ?_, bit_of_div ?_, bit_of_div ?_, bit_of_div ?_, bit_of_div ?_, ?_⟩ <;>
    simp only [bits, b2n, if_true] at * <;> omega

/-! ### The calibration sequencer (R429 to R431) -/

/-- Nothing starts while a sequence runs, or where no calibration may. -/
theorem calTry_stays (h : s.adc.cal.busy = true ∨ malorWorks s = false ∨ s.power.cur ≠ .run ∨ 2 ≤ s.mgmt.shed) : calTry s = s :=
  if_pos (by rcases h with h | h | h | h <;> simp [h])

/-- The head of the round starts where it may. -/
theorem calTry_starts {q : List Nat} (hb : s.adc.cal.busy = false) (hm : malorWorks s = true) (hr : s.power.cur = .run) (hs : s.mgmt.shed < 2)
    (hq : s.adc.cal.queue = k :: q) (h : s.adc.ch[k]? = some c) (hc : c.running = true) : calTry s = onCal (fun x => { x with
      busy := true, channel := k, step := 1, again := false, queue := x.queue.filter (fun j => j != k) }) s := by
  unfold calTry
  rw [if_neg (by simp [hb, hm, hr, hs]), hq, List.filter_cons_of_pos (by rw [adcCh_of_getElem? h]; exact hc)]

theorem ChIs.tries (a : ChIs k c x s t) : ∃ x', ChIs k c x' s (calTry t) ∧ (x.queue = [] → x' = x) := by
  unfold calTry
  split
  · exact ⟨x, a, fun _ => rfl⟩
  · split
    · exact ⟨x, a, fun _ => rfl⟩
    · next h =>
      refine ⟨_, a.sequencer _, fun hq => ?_⟩
      rw [a.cal, hq] at h
      cases h

/-- G of two mean codes, where it fits its register (R430). -/
theorem calGain_eq {free : Nat} {a b d : Int} (hd : d = divRound (5 * 2 ^ 53) (6 * (b - a)).toNat) (h : 0 < b - a) (hl : d < 2 ^ 32) :
    (calGain free a b : Int) = d := by
  have nonneg : 0 ≤ d := by
    rw [hd, divRound, if_pos (by decide)]
    exact Int.ediv_nonneg (by omega) (by omega)
  have same : divRound (5 * 2 ^ 53) (6 * (b - a).toNat) = d := by
    rw [hd]
    congr 1
    omega
  have whole : (if b - a ≤ 0 then 2 ^ 32 else (divRound (5 * 2 ^ 53) (6 * (b - a).toNat)).toNat) = d.toNat := by
    rw [if_neg (by omega), same]
  unfold calGain
  dsimp only
  rw [whole, if_pos (by omega)]
  omega

theorem calStep_eq {a b : Int} (hm : meterRuns s = true) (hb : s.adc.cal.busy = true) : calStep a b s =
    match s.adc.cal.step with
    | 1 => (onCal (fun c => { c with step := 2, spareO := a, spareG := calGain s.free a b }) s).drawn
    | 2 => onCal (fun c => { c with step := 3 }) s
    | 3 => onCal (fun c => { c with step := 4 }) (onCh s.adc.cal.channel (fun x => { x with subst := true }) s)
    | 4 => (onCal (fun c => { c with step := 5, newO := a, newG := calGain s.free a b }) s).drawn
    | 5 => calJudge a s
    | _ => calOver s := if_neg (by simp [hm, hb])

/-- A difference within the limit: the new coefficients come in. -/
theorem calJudge_kept {d : Int} (h : s.adc.ch[s.adc.cal.channel]? = some c) (hd : d ≤ parN s 0x0D01) :
    ChIs s.adc.cal.channel { c with
      offset := s.adc.cal.newO, gain := s.adc.cal.newG, calFail := false, calT := s.time.ont / 1000000000, calAt := some s.time.ont
      calTemp := calSensor s } { s.adc.cal with step := 6, lastFail := false } s (calJudge d s) ∧
    (calJudge d s).adc.calCnt = satInc 32 s.adc.calCnt := by
  have limit : parN (calStamp s.adc.cal.channel s) 0x0D01 = parN s 0x0D01 := rfl
  unfold calJudge
  dsimp only
  have judged : (decide (d ≤ (parN s 0x0D01 : Int)) || s.adc.cal.again) = true := by simp [hd]
  rw [if_pos judged, limit, if_pos hd]
  refine ⟨?_, by rw [raise_adc]; rfl⟩
  have stamped := (ChIs.of_getElem? h).update (fun x => { x with calAt := some s.time.ont, calTemp := calSensor s })
  have changed := stamped.update (fun x => { x with
    offset := s.adc.cal.newO, gain := s.adc.cal.newG, calFail := false, calT := s.time.ont / 1000000000 })
  exact ((changed.sequencer (fun x => { x with step := 6, lastFail := false })).counted).report ..

/-- A difference beyond the limit that the repeat did not mend: the coefficients stay. -/
theorem calJudge_refused {d : Int} (h : s.adc.ch[s.adc.cal.channel]? = some c) (hd : (parN s 0x0D01 : Int) < d)
    (ha : s.adc.cal.again = true) :
    ChIs s.adc.cal.channel { c with calFail := true, calAt := some s.time.ont, calTemp := calSensor s }
      { s.adc.cal with step := 6, lastFail := true } s (calJudge d s) ∧ (calJudge d s).adc.calCnt = s.adc.calCnt := by
  have limit : parN (calStamp s.adc.cal.channel s) 0x0D01 = parN s 0x0D01 := rfl
  unfold calJudge
  dsimp only
  have judged : (decide (d ≤ (parN s 0x0D01 : Int)) || s.adc.cal.again) = true := by simp [ha]
  rw [if_pos judged, limit, if_neg (by omega), if_pos ha]
  refine ⟨?_, by rw [raise_adc]; rfl⟩
  have stamped := (ChIs.of_getElem? h).update (fun x => { x with calAt := some s.time.ont, calTemp := calSensor s })
  exact ((stamped.sequencer (fun x => { x with step := 6, lastFail := true })).update (fun x => { x with calFail := true })).report ..

/-- A first difference beyond the limit: steps 4 and 5 are repeated. -/
theorem calJudge_repeats {d : Int} (hd : (parN s 0x0D01 : Int) < d) (ha : s.adc.cal.again = false) :
    calJudge d s = onCal (fun c => { c with step := 4, again := true }) s := by
  unfold calJudge
  dsimp only
  have waits : ¬ (decide (d ≤ (parN s 0x0D01 : Int)) || s.adc.cal.again) = true := by
    rw [ha]
    simpa using hd
  rw [if_neg waits, if_neg (by omega), if_neg (by simp [ha])]

/-- The sequence's end gives the channel back; the next of the round may start. -/
theorem calOver_is (h : s.adc.ch[s.adc.cal.channel]? = some c) : ∃ x, ChIs s.adc.cal.channel { c with subst := false } x s (calOver s) ∧
    (s.adc.cal.queue = [] → x = { s.adc.cal with busy := false, step := 0 }) :=
  (((ChIs.of_getElem? h).update (fun x => { x with subst := false })).sequencer (fun c => { c with busy := false, step := 0 })).tries

/-- ADC_CAL_NOW puts a channel that does not wait at the head of the round. -/
def calFront (k : Nat) (s : State) : State :=
  if s.adc.cal.queue.contains k then s else calTry (onCal (fun c => { c with queue := k :: c.queue }) s)

theorem calNow_form (hk : k < 256) (s : State) : calNow (leBytes 1 k ++ zeros 3) s =
    if 23 < k then refuse s 0x0D05 else if !enabled s 13 k then refuse s 0x0D03 else done (calFront k s) [] := by
  have byte : byteField (leBytes 1 k ++ zeros 3) 0 1 = k := (byteField_front ..).trans (by omega)
  have rest : byteField (leBytes 1 k ++ zeros 3) 1 3 = 0 := rfl
  unfold calNow calFront
  dsimp only
  rw [if_neg (by rw [rest]; simp [zeros]), byte]
  split
  · rfl
  · split
    · rfl
    · split <;> rfl

theorem filter_absent {l : List Nat} (h : l.contains k = false) : l.filter (fun j => j != k) = l :=
  List.filter_eq_self.mpr fun j hj => bne_iff_ne.mpr fun e => by
    subst e
    rw [List.contains_iff_mem.mpr hj] at h
    cases h

theorem calTry_cal (s : State) : calTry s = { s with adc := { s.adc with cal := (calTry s).adc.cal } } := by
  unfold calTry
  split
  · rfl
  · split <;> rfl

theorem calFront_cal (k : Nat) (s : State) : calFront k s = { s with adc := { s.adc with cal := (calFront k s).adc.cal } } := by
  unfold calFront
  split
  · rfl
  · rw [calTry_cal]
    rfl

/-- A channel joins the round unless it waits there or is being calibrated. -/
def calJoin (k : Nat) (s : State) : State :=
  if s.adc.cal.queue.contains k || (s.adc.cal.busy && s.adc.cal.channel == k) then s else onCal (fun c => { c with queue := c.queue ++ [k] }) s

theorem calJoin_cal (k : Nat) (s : State) : calJoin k s = { s with adc := { s.adc with cal := (calJoin k s).adc.cal } } := by
  unfold calJoin
  split <;> rfl

theorem calJoin_known (h : s.adc.cal.queue.contains k = true ∨ (s.adc.cal.busy = true ∧ s.adc.cal.channel = k)) : calJoin k s = s :=
  if_pos (by
    rcases h with h | ⟨hb, hc⟩
    · rw [h, Bool.true_or]
    · simp [hb, hc])

theorem calJoin_new (hq : s.adc.cal.queue.contains k = false) (h : s.adc.cal.busy = true → s.adc.cal.channel ≠ k) :
    calJoin k s = onCal (fun c => { c with queue := c.queue ++ [k] }) s :=
  if_neg (by
    rw [hq, Bool.false_or, Bool.and_eq_true, beq_iff_eq]
    exact fun ⟨hb, hc⟩ => h hb hc)

theorem calibrationDue_eq {s : State} (hm : malorWorks s = true) (he : enabled s 13 k = true) (hk : k < 24) (h : s.adc.ch[k]? = some c)
    (hp : par s (adcId k 1) = 1) (hd : calDue s c = true) : calibrationDue k s = calTry (calJoin k s) :=
  if_neg (by rw [adcCh_of_getElem? h]; simp [hm, he, hp, hd, hk])

/-! ### The reference (R426, R427) -/

theorem refEvent_adc (s : State) : (refEvent s).adc = s.adc := raise_adc ..

theorem refSettle_eq {n : Nat} (hp : plantRuns s = true) (ho : s.adc.ref.on = true) : refSettle n s = match n with
    | 4 => onRef (fun r => { r with ok := true }) s
    | 5 => refEvent (onRef (fun r => { r with settled := true }) s)
    | 6 => if s.adc.ref.ok then onRef (fun r => { r with fault := false, faultEnd := s.time.ont }) s else s
    | _ => s := if_neg (by simp [hp, ho])

theorem refSettle_ref (n : Nat) (s : State) : ∃ r, (refSettle n s).adc = { s.adc with ref := r } := by
  unfold refSettle
  split
  · exact ⟨s.adc.ref, rfl⟩
  · split
    · exact ⟨_, rfl⟩
    · exact ⟨_, refEvent_adc _⟩
    · split
      · exact ⟨_, rfl⟩
      · exact ⟨s.adc.ref, rfl⟩
    · exact ⟨s.adc.ref, rfl⟩

theorem takenState_adc (cmd : Nat) (m : Mail) (s : State) : (takenState cmd m s).adc = s.adc := (samePanel_takenState cmd m s).adc

end

/-- Settles O48: each instant and step as its rule says. A timestamp that would lie before 0 is 0 (log 6), the grid of the instants and
a channel that was never calibrated being due are log 43's, and step 6 with the reference's settling is log 21's. -/
theorem acquisitionChannels : Obligations.AcquisitionChannels := by
  unfold Obligations.AcquisitionChannels
  refine ⟨?sample, ?settle, ?fault, ?due, ?early, ?step, ?now, ?nowRefused, ?clear⟩
  case settle =>
    intro s n hp ho
    obtain ⟨x, hx⟩ := refSettle_ref n s
    refine ⟨_, rfl, ?_, ?_, ?_, ?_, ?_, ?_⟩
    · rw [hx]
    · rw [hx]
    · rintro rfl
      rw [refSettle_eq hp ho]
      rfl
    · rintro rfl
      rw [refSettle_eq hp ho]
      exact (congrArg AdcSt.ref (refEvent_adc _)).trans rfl
    · rintro (rfl | rfl)
      · exact refSettle_eq hp ho
      · exact refSettle_eq hp ho
    · rintro rfl
      rw [refSettle_eq hp ho]
      show (if s.adc.ref.ok then _ else s : State).adc.ref = _
      split <;> rfl
  case fault =>
    intro s hp ho
    refine ⟨_, congrArg Host.Outcome.next (if_pos (by simp [hp, ho])), ?_, ?_⟩
    · exact refEvent_adc _
    · exact raise_time ..
  case due =>
    rintro s k c q hm he hk h hr rfl hp hd
    have id : adcId k 1 = 0x3801 + 0x20 * k := by unfold adcId; omega
    refine ⟨(calTry (calJoin k s)).adc.cal, congrArg Host.Outcome.next ((calibrationDue_eq hm he hk h (by rw [id]; exact hp) hd).trans ?_),
      fun hb known => ?_, fun hb hq hc => ?_, fun hb hs hq => ?_, fun hb hr' hs hq => ?_⟩
    · rw [calTry_cal]
      rw [calJoin_cal]
    · rw [calJoin_known (known.imp_right fun hc => ⟨hb, hc⟩), calTry_stays (.inl hb)]
    · rw [calJoin_new hq fun _ => hc, calTry_stays (s := onCal (fun c => { c with queue := c.queue ++ [k] }) s) (.inl hb)]
      rfl
    · rw [calJoin_new hq fun hb' => absurd (hb.symm.trans hb') (by decide),
        calTry_stays (s := onCal (fun c => { c with queue := c.queue ++ [k] }) s) (.inr (.inr hs))]
      rfl
    · rw [calJoin_new (by rw [hq]; rfl) fun hb' => absurd (hb.symm.trans hb') (by decide)]
      have head : (onCal (fun c => { c with queue := c.queue ++ [k] }) s).adc.cal.queue = k :: [] := by
        show s.adc.cal.queue ++ [k] = _
        rw [hq, List.nil_append]
      rw [calTry_starts (s := onCal (fun c => { c with queue := c.queue ++ [k] }) s) hb hm hr' hs head h hr]
      show { s.adc.cal with busy := true, channel := k, step := 1, again := false, queue := (s.adc.cal.queue ++ [k]).filter (fun j => j != k) } = _
      rw [hq]
      simp
  case early =>
    intro s k c hm h hn
    refine congrArg Host.Outcome.next (if_pos ?_)
    have here := adcCh_of_getElem? h
    rcases hn with hn | hn
    · simp [show adcId k 1 = 0x3801 + 0x20 * k by unfold adcId; omega, hn]
    · simp [here, hn]
  case step =>
    rintro s a b d k q c hm rfl hb rfl h hd
    have run := calStep_eq (a := a) (b := b) hm hb
    have start := ChIs.of_getElem? h
    have gain := calGain_eq (free := s.free) hd
    match hs : s.adc.cal.step with
    | 1 =>
      rw [hs] at run
      have turn := (start.sequencer (fun c => { c with step := 2, spareO := a, spareG := calGain s.free a b })).draws.of_eq run
      refine ⟨_, _, _, rfl, turn.cal, turn.here, turn.others, rfl, rfl, turn.only.others.2.2.1, ?_⟩
      simp [hb]
      exact fun h1 h2 => gain (by omega) (by omega)
    | 2 =>
      rw [hs] at run
      have turn := (start.sequencer (fun c => { c with step := 3 })).of_eq run
      refine ⟨_, _, _, rfl, turn.cal, turn.here, turn.others, rfl, rfl, turn.only.others.2.2.1, ?_⟩
      simp [hb]
    | 3 =>
      rw [hs] at run
      have turn := ((start.update (fun x => { x with subst := true })).sequencer (fun c => { c with step := 4 })).of_eq run
      refine ⟨_, _, _, rfl, turn.cal, turn.here, turn.others, rfl, rfl, turn.only.others.2.2.1, ?_⟩
      simp [hb]
    | 4 =>
      rw [hs] at run
      have turn := (start.sequencer (fun c => { c with step := 5, newO := a, newG := calGain s.free a b })).draws.of_eq run
      refine ⟨_, _, _, rfl, turn.cal, turn.here, turn.others, rfl, rfl, turn.only.others.2.2.1, ?_⟩
      simp [hb]
      exact fun h1 h2 => gain (by omega) (by omega)
    | 5 =>
      rw [hs] at run
      by_cases ha : a ≤ parN s 0x0D01
      · obtain ⟨judged, count⟩ := calJudge_kept h ha
        have turn := judged.of_eq run
        refine ⟨_, _, _, rfl, turn.cal, turn.here, turn.others, rfl, rfl, turn.only.others.2.2.1, ?_⟩
        rw [run]
        simp [hb, count, not_lt.mpr ha]
      · have ha := not_le.mp ha
        cases hg : s.adc.cal.again with
        | false =>
          have turn := (start.sequencer (fun c => { c with step := 4, again := true })).of_eq (run.trans (calJudge_repeats ha hg))
          refine ⟨_, _, _, rfl, turn.cal, turn.here, turn.others, rfl, rfl, turn.only.others.2.2.1, ?_⟩
          simp [hb, not_le.mpr ha]
        | true =>
          obtain ⟨judged, count⟩ := calJudge_refused h ha hg
          have turn := judged.of_eq run
          refine ⟨_, _, _, rfl, turn.cal, turn.here, turn.others, rfl, rfl, turn.only.others.2.2.1, ?_⟩
          rw [run]
          simp [hb, hg, count, not_le.mpr ha]
    | 6 =>
      rw [hs] at run
      obtain ⟨x, tried, idle⟩ := calOver_is h
      have turn := tried.of_eq run
      refine ⟨_, _, _, rfl, turn.cal, turn.here, turn.others, rfl, rfl, turn.only.others.2.2.1, ?_⟩
      simpa using idle
    | 0 =>
      rw [hs] at run
      obtain ⟨x, tried, -⟩ := calOver_is h
      have turn := tried.of_eq run
      refine ⟨_, _, _, rfl, turn.cal, turn.here, turn.others, rfl, rfl, turn.only.others.2.2.1, ?_⟩
      simp
    | n + 7 =>
      rw [hs] at run
      obtain ⟨x, tried, -⟩ := calOver_is h
      have turn := tried.of_eq run
      refine ⟨_, _, _, rfl, turn.cal, turn.here, turn.others, rfl, rfl, turn.only.others.2.2.1, ?_⟩
      simp
  case now =>
    rintro m s k q c ht hp hk he rfl h hr
    have hq := takenState_adc 0x0D12 m s
    have en := (samePanel_takenState 0x0D12 m s).enabled_eq 13 k
    have joins : calNow (leBytes 1 k ++ zeros 3) (takenState 0x0D12 m s) = done (calFront k (takenState 0x0D12 m s)) [] := by
      rw [calNow_form (by omega), if_neg (by omega), if_neg (by rw [en, he]; decide)]
    refine ⟨(calFront k (takenState 0x0D12 m s)).adc.cal, (mailOut_answers_of_payload ht hp joins).trans ?_, fun known => ?_, fun new hb => ?_,
      fun new hb hm hr' hs => ?_⟩
    · rw [← hq]
      exact congrArg (fun u => answers 0x0D12 m s u []) (calFront_cal ..)
    · rw [calFront, if_pos (by rw [hq]; exact known), hq]
    · rw [calFront, if_neg (by rw [hq, new]; decide), calTry_stays (s := onCal (fun c => { c with queue := k :: c.queue }) (takenState 0x0D12 m s))
        (.inl ((congrArg (fun a : AdcSt => a.cal.busy) hq).trans hb))]
      exact congrArg (fun a : AdcSt => { a.cal with queue := k :: a.cal.queue }) hq
    · have there : (takenState 0x0D12 m s).adc.ch[k]? = some c := by rw [hq]; exact h
      have idle : (takenState 0x0D12 m s).adc.cal.busy = false := by rw [hq]; exact hb
      have shed : (takenState 0x0D12 m s).mgmt.shed < 2 := by rw [takenState_mgmt]; exact hs
      rw [calFront, if_neg (by rw [hq, new]; decide), calTry_starts (s := onCal (fun c => { c with queue := k :: c.queue }) (takenState 0x0D12 m s))
        idle hm hr' shed rfl there hr]
      show { (takenState 0x0D12 m s).adc.cal with
        busy := true, channel := k, step := 1, again := false
        queue := (k :: (takenState 0x0D12 m s).adc.cal.queue).filter (fun j => j != k) } = _
      rw [hq, List.filter_cons_of_neg (by simp), filter_absent new]
  case nowRefused =>
    intro m s k ht hp hk h
    refine mailOut_refuses_of_payload ht hp ?_
    rw [calNow_form hk]
    by_cases hl : 23 < k
    · rw [if_pos hl, if_pos (by omega)]
    · have off : enabled (takenState 0x0D12 m s) 13 k = false :=
        ((samePanel_takenState 0x0D12 m s).enabled_eq 13 k).trans (h.resolve_left (by omega))
      have low : ¬ 24 ≤ k := by omega
      rw [if_neg hl, off, if_neg low]
      rfl
  case clear =>
    intro m s ht hp
    refine ⟨_, mailOut_answers ht (if_neg (by simp [hp])), ?_⟩
    rw [← takenState_adc 0x0D13 m s]
    rfl
  case sample =>
    rintro s k raw v reset c hm hk h hr hi hs rfl
    have run := sdOutput_eq (raw := raw) (reset := reset) h hm hr hi hs
    have counted := sdCounted_is h reset
    have ovr := sdCounted_ovr k reset s
    have rate : actN _ (adcId k 0) = parN s (0x3800 + 0x20 * k) := sdCounted_rate k reset hk s
    have here : adcCh s k = c := adcCh_of_getElem? h
    generalize sdCounted k reset s = w at run counted ovr rate
    by_cases hl : 0 < (if reset then 18 else c.discard)
    · rw [if_pos hl] at run
      have turn := ((counted.update (fun c' => { c' with discard := (if reset then 18 else c.discard) - 1, afterReset := true })).update
        (fun c => { c with step := c.step ++ [none] })).of_eq run
      obtain ⟨ref, wav, meter, loops, params⟩ := turn.rest
      refine ⟨_, _, rfl, turn.here, rfl, rfl, rfl, turn.others, ref, turn.cal, wav, meter, loops, params, fun _ => ?_, ?_, ?_, ?_, ?_⟩
      · exact ⟨rfl, rfl, rfl, rfl, rfl, by rw [run]; exact ovr⟩
      · rintro rfl
        exact ⟨rfl, rfl⟩
      · rintro rfl -
        exact ⟨rfl, rfl⟩
      · rintro rfl hd
        simp [hd] at hl
      · rintro rfl hd
        simp [hd] at hl
    · have quiet : reset = false := by
        cases reset
        · rfl
        · simp at hl
      subst quiet
      have none : c.discard = 0 := by simpa using hl
      rw [if_neg hl] at run
      by_cases hc : c.count < 17
      · rw [if_pos (by omega)] at run
        have turn := (counted.update (fun c => { c with step := c.step ++ [Option.none] })).of_eq run
        obtain ⟨ref, wav, meter, loops, params⟩ := turn.rest
        refine ⟨_, _, rfl, turn.here, rfl, rfl, rfl, turn.others, ref, turn.cal, wav, meter, loops, params, fun _ => ?_, nofun, ?_, ?_, ?_⟩
        · exact ⟨rfl, rfl, rfl, rfl, rfl, by rw [run]; exact ovr⟩
        · exact fun _ hd => absurd hd (by omega)
        · exact fun _ _ _ => ⟨none, rfl⟩
        · exact fun _ _ hc' => absurd hc (by omega)
      · rw [if_neg (by omega)] at run
        have turn := (publishResult_is (raw := raw) counted).of_eq run
        obtain ⟨ref, wav, meter, loops, params⟩ := turn.rest
        refine ⟨_, _, rfl, turn.here, rfl, rfl, rfl, turn.others, ref, turn.cal, wav, meter, loops, params, fun h => ?_, nofun, ?_, ?_,
          fun _ _ _ hsub h4 => ?_⟩
        · exact absurd h (by simp; omega)
        · exact fun _ hd => absurd hd (by omega)
        · exact fun _ _ hc' => absurd hc' hc
        · have here := adcCh_of_getElem? counted.here
          have code : codeOf w k raw = correctCode raw c.offset c.gain := by
            unfold codeOf
            rw [here, if_neg (by simp [hsub])]
          obtain ⟨f0, f1, f2, f3, f4, f5, f6, f7⟩ := resultFlags_bits (ts := w.time.ont - groupDelay (actN w (adcId k 0)))
            (o := (correctCode raw c.offset c.gain).2) here rate h4
          have sat : (correctCode raw c.offset c.gain).2 = decide (clamp (-8388607) 8388607 (shiftRound ((raw - c.offset) * c.gain) 30) ≠
              shiftRound ((raw - c.offset) * c.gain) 30) := by
            show (_ != _) = _
            rw [Bool.eq_iff_iff, bne_iff_ne, decide_eq_true_iff]
          have time : w.time = s.time := counted.only.others.2.2.2
          have sameRef : w.adc.ref = s.adc.ref := counted.rest.1
          have noted (j : Nat) : (sdOutput k raw false s).adc.ovr.getLsbD j = (s.adc.ovr.getLsbD j ||
              (decide (j = k) && (correctCode raw c.offset c.gain).2)) := by
            rw [run, publishResult_eq, code, overNoted_ovr hk]
            exact congrArg (fun o : BitVec 24 => o.getLsbD j || _)
              ((congrArg AdcSt.ovr (holdSample_adc 1 k w)).trans ovr)
          rw [code]
          rw [sat] at noted
          rw [sameRef] at f1 f2
          rw [rate, time] at f0 f1 f2 f3 f4 f5 f6 f7
          unfold published
          rw [rate, time]
          exact ⟨rfl, rfl, rfl, rfl, rfl, rfl, f0, f1, f2, f3.trans hsub, f4.trans sat, f5, f6, f7, noted⟩

end Sys2Proof.Machine
end

section
/-! SUPPORT. Fast converters and captures: what a window, a trigger and a completion make of a converter (R432 to R438). -/

namespace Sys2Proof.Machine

section
variable {s t u : State} {w : Nat} {lv : Int} {x z : WavSt} {c : Capt} {p : Bytes}

theorem onWav_getElem? (h : s.adc.wav[w]? = some x) (f : WavSt → WavSt) : (onWav w f s).adc.wav[w]? = some (f x) :=
  (getElem?_modNth_same ..).trans (by rw [h]; rfl)

theorem onWav_other {j : Nat} (hj : j ≠ w) (f : WavSt → WavSt) (s : State) : (onWav w f s).adc.wav[j]? = s.adc.wav[j]? :=
  getElem?_modNth_other _ _ _ _ hj

theorem wavOf_of_getElem? (h : s.adc.wav[w]? = some x) : wavOf s w = x := nth_of_getElem? h

/-! ### Mismatch windows (R434) -/

theorem satS_16 (v : Int) : satS 16 v = clamp (-(2 ^ 15)) (2 ^ 15 - 1) v := rfl

theorem coefStep_eq (a : Int) (g : Nat) (k a' : Int) (g' : Nat) (k' : Int) : coefStep (a, g, k) (a', g', k') =
    (clamp (-(2 ^ 15)) (2 ^ 15 - 1) (a + divRound (a' - a) 8), (clamp 0 65535 ((g : Int) + divRound ((g' : Int) - g) 8)).toNat,
      clamp (-(2 ^ 15)) (2 ^ 15 - 1) (k + divRound (k' - k) 8)) := by
  rw [coefStep, satS_16, satS_16]

/-- The coefficients of a slice move by an eighth of the difference. -/
theorem coefsStep_slice {est : List (Int × Nat × Int)} {j : Nat} {a b : Int × Nat × Int} (ha : x.coefs[j]? = some a) (hb : est[j]? = some b) :
    (coefsStep est x).coefs[j]? = some (coefStep a b) := by
  show ((x.coefs.zip est).map (fun p => coefStep p.1 p.2))[j]? = _
  rw [List.getElem?_map, (List.getElem?_zip_eq_some (z := (a, b))).mpr ⟨ha, hb⟩]
  rfl

/-- A converter after a loud window, before it may have converged. -/
def windowed (est : List (Int × Nat × Int)) (x : WavSt) : WavSt :=
  { coefsStep (est.take 4) x with hold := false, winCnt := satInc 32 x.winCnt }

/-- The second converter of a ganged pair takes the estimates of the last slices. -/
def gangStep (ganged : Bool) (est : List (Int × Nat × Int)) (x : WavSt) : WavSt := if ganged then coefsStep (est.drop 4) x else x

/-- The eighth loud window converges a converter. -/
def convergeStep (now : Bool) (ont : Nat) (x : WavSt) : WavSt := if now then { x with converged := true, convAt := ont } else x

theorem gangStep_kept (g : Bool) (est : List (Int × Nat × Int)) (x : WavSt) : ∃ l, gangStep g est x = { x with coefs := l } := by
  cases g
  · exact ⟨x.coefs, rfl⟩
  · exact ⟨_, rfl⟩

theorem modNth_unmoved {α : Type} (l : List α) (i : Nat) : modNth l i (fun a => a) = l := by
  apply List.ext_getElem?
  intro j
  rw [getElem?_modNth]
  split <;> simp

/-- The slices that a loud window concerns have moved. -/
def windowMoved (w : Nat) (est : List (Int × Nat × Int)) (x : WavSt) (s : State) : State :=
  if x.ganged then onWav 1 (coefsStep (est.drop 4)) (onWav w (windowed est) s) else onWav w (windowed est) s

/-- A loud window ends with the correction on. -/
def windowEnd (w : Nat) (est : List (Int × Nat × Int)) (x : WavSt) (s : State) : State :=
  let u := windowMoved w est x s
  if !x.converged && decide (8 ≤ x.winCnt + 1) then
    raise 0x0D16 85 w (x.winCnt + 1) (ontLo u) (onWav w (fun x => { x with converged := true, convAt := u.time.ont }) u)
  else u

theorem windowEnd_only (w : Nat) (est : List (Int × Nat × Int)) (x : WavSt) (s : State) : AdcOnly s (windowEnd w est x s) := by
  have moved : AdcOnly s (windowMoved w est x s) := .ite (((AdcOnly.refl s).adc _).adc _) ((AdcOnly.refl s).adc _)
  exact .ite ((moved.adc _).report ..) moved

theorem windowEnd_adc (w : Nat) (est : List (Int × Nat × Int)) (x : WavSt) (s : State) : (windowEnd w est x s).adc = { s.adc with
    wav := modNth (modNth (modNth s.adc.wav w (windowed est)) 1 (gangStep x.ganged est)) w
      (convergeStep (!x.converged && decide (8 ≤ x.winCnt + 1)) s.time.ont) } := by
  unfold windowEnd windowMoved
  cases hg : x.ganged
  · have still : gangStep false est = fun x => x := rfl
    rw [still, modNth_unmoved]
    cases hc : !x.converged && decide (8 ≤ x.winCnt + 1)
    · have same : convergeStep false s.time.ont = fun x => x := rfl
      rw [same, modNth_unmoved]
      rfl
    · exact raise_adc ..
  · cases hc : !x.converged && decide (8 ≤ x.winCnt + 1)
    · have same : convergeStep false s.time.ont = fun x => x := rfl
      rw [same, modNth_unmoved]
      rfl
    · exact raise_adc ..

theorem mismatchEnd_eq {loud : Bool} {est : List (Int × Nat × Int)} (hp : plantRuns s = true) (h : s.adc.wav[w]? = some x) (ho : x.on = true) :
    mismatchEnd w loud est s = if par s (0x3B01 + 0x20 * w) ≠ 1 then parCommit (adcParams (24 + w)) s
      else if !loud then onWav w (fun x => { x with hold := true }) (parCommit (adcParams (24 + w)) s)
      else windowEnd w est x (parCommit (adcParams (24 + w)) s) := by
  have own : adcParams (24 + w) (wavId w 1) = true := by simp [adcParams, wavId]
  have id : wavId w 1 = 0x3B01 + 0x20 * w := by unfold wavId; omega
  have par := act_parCommit s own
  rw [id] at par
  unfold mismatchEnd
  rw [wavOf_of_getElem? h, if_neg (by simp [hp, ho])]
  dsimp only
  rw [id, par]
  rfl

/-- What a loud window leaves of a converter. -/
theorem window_kept (est : List (Int × Nat × Int)) (g b : Bool) (ont : Nat) (x : WavSt) :
    let y := convergeStep b ont (gangStep g est (windowed est x))
    y.saved = x.saved ∧ y.cap = x.cap ∧ y.hold = false ∧ y.winCnt = satInc 32 x.winCnt ∧ y.converged = (x.converged || b) ∧
      (b = true → y.convAt = ont) ∧ y.coefs = (gangStep g est (windowed est x)).coefs := by
  obtain ⟨l, hl⟩ := gangStep_kept g est (windowed est x)
  rw [hl]
  cases b
  · exact ⟨rfl, rfl, rfl, rfl, (Bool.or_false _).symm, nofun, rfl⟩
  · exact ⟨rfl, rfl, rfl, rfl, (Bool.or_true _).symm, fun _ => rfl, rfl⟩

/-! ### The copied coefficients (R434) -/

theorem wavSave_first (h : s.adc.wav = [x, z]) : wavSave 0 s = { s with adc := { s.adc with
    wav := [if x.on then { x with saved := x.coefs } else x, if x.on && x.ganged then { z with saved := z.coefs } else z] } } := by
  have here : wavOf s 0 = x := by rw [wavOf, h]; rfl
  unfold wavSave
  rw [here]
  dsimp only
  cases ho : x.on
  · simp [← h]
  · cases hg : x.ganged
    · simp [onWav, onAdc, h, modNth, ho, hg]
    · simp [onWav, onAdc, h, modNth, ho, hg]

theorem wavSave_second (h : s.adc.wav = [x, z]) : wavSave 1 s = { s with adc := { s.adc with
    wav := [x, if z.on then { z with saved := z.coefs } else z] } } := by
  have here : wavOf s 1 = z := by rw [wavOf, h]; rfl
  unfold wavSave
  rw [here]
  dsimp only
  cases ho : z.on
  · simp [← h]
  · cases hg : z.ganged
    · simp [onWav, onAdc, h, modNth, ho, hg]
    · simp [onWav, onAdc, h, modNth, ho, hg]

/-! ### Captures (R436 to R438) -/

theorem captureFires_iff {prev cur : Int} (h : c.start = 0 ∨ c.start = 1 ∧ c.pulse ≠ none ∨ c.start = 2 ∧ prev < c.level ∧ c.level ≤ cur ∨
    c.start = 3 ∧ c.level < prev ∧ cur ≤ c.level) : captureFires c prev cur = true := by
  unfold captureFires
  rcases h with h | ⟨h, hp⟩ | ⟨h, ha, hb⟩ | ⟨h, ha, hb⟩
  · rw [h]
    rfl
  · rw [h]
    exact Option.isSome_iff_ne_none.mpr hp
  · rw [h]
    simp [ha, hb]
  · rw [h]
    simp [ha, hb]

theorem captureFires_not {prev cur : Int} (h : c.start = 1 ∧ c.pulse = none ∨ c.start = 2 ∧ ¬ (prev < c.level ∧ c.level ≤ cur) ∨
    c.start = 3 ∧ ¬ (c.level < prev ∧ cur ≤ c.level)) : captureFires c prev cur = false := by
  unfold captureFires
  rcases h with ⟨h, hp⟩ | ⟨h, hn⟩ | ⟨h, hn⟩
  · rw [h, hp]
    rfl
  · rw [h]
    simpa using hn
  · rw [h]
    simpa using hn

/-- The capture once its trigger has come. -/
def triggered (s : State) (x : WavSt) (g pos got : Nat) : Capt :=
  { x.cap with
    state := 2, preUsed := min x.cap.pre got, shortPre := decide (got < x.cap.pre), trigOnt := g
    firstOnt := divRound ((g : Int) * 1000 - (wavRaw x * (pos + min x.cap.pre got * 2 ^ x.cap.k) : Nat)) 1000
    late := x.cap.pulse == some true, steps := s.time.stepCnt }

theorem captureTrigger_fires {g pos got : Nat} {prev cur : Int} (hp : plantRuns s = true) (h : s.adc.wav[w]? = some x) (ho : x.on = true)
    (hs : x.cap.state = 1) (hf : captureFires x.cap prev cur = true) : captureTrigger w g pos got prev cur s =
      onWav w (fun y => { y with cap := triggered s x g (if x.cap.start = 0 then 0 else pos) (if x.cap.start = 0 then 0 else got) }) s := by
  unfold captureTrigger
  rw [wavOf_of_getElem? h]
  exact if_neg (by simp [hp, ho, hs, hf])

/-- The part once a capture is complete, before its event. -/
def captureDone (w : Nat) (r : CaptRec) (x : WavSt) (s : State) : State :=
  onWav w (fun y => { y with cap := { y.cap with state := 0 } })
    (onAdc (fun a => { a with capSeq := r.seq, slots := a.slots.set x.cap.slot (some r) }) s)

theorem captureComplete_done {d : List Int} {full : Bool} (hp : plantRuns s = true) (h : s.adc.wav[w]? = some x) (hs : x.cap.state = 2) :
    (captureComplete w d full s).adc = (captureDone w (captureRec s w (d.take x.cap.n) full) x s).adc ∧
      (captureComplete w d full s).host.params = s.host.params := by
  have e : captureComplete w d full s = if bit (captureRec s w (d.take x.cap.n) full).flags 0 then
      raise 0x0D15 84 (w + 256 * x.cap.slot) (captureRec s w (d.take x.cap.n) full).seq (captureRec s w (d.take x.cap.n) full).samples.length
        (captureDone w (captureRec s w (d.take x.cap.n) full) x s)
      else raise 0x0D14 83 w x.cap.slot (captureRec s w (d.take x.cap.n) full).seq
        (captureDone w (captureRec s w (d.take x.cap.n) full) x s) := by
    unfold captureComplete
    rw [wavOf_of_getElem? h]
    exact if_neg (by simp [hp, hs])
  have only : AdcOnly s (captureDone w (captureRec s w (d.take x.cap.n) full) x s) := by
    unfold captureDone onWav
    exact ((AdcOnly.refl s).adc _).adc _
  generalize captureDone w (captureRec s w (d.take x.cap.n) full) x s = u at e only ⊢
  rw [e]
  split
  · exact ⟨raise_adc .., (only.report ..).others.2.2.1⟩
  · exact ⟨raise_adc .., (only.report ..).others.2.2.1⟩

/-- The flags of a record, bit by bit (R437, R438). -/
theorem captureRec_flags {d : List Int} {full : Bool} (h : s.adc.wav[w]? = some x) :
    bit (captureRec s w d full).flags 0 = (x.cap.trunc || decide (d.length < x.cap.n)) ∧ bit (captureRec s w d full).flags 3 = full ∧
      bit (captureRec s w d full).flags 4 = x.cap.shortPre ∧ bit (captureRec s w d full).flags 5 = x.cap.late ∧
      bit (captureRec s w d full).flags 6 = (x.cap.steps != s.time.stepCnt) ∧ bit (captureRec s w d full).flags 7 = x.ganged := by
  unfold captureRec
  rw [wavOf_of_getElem? h]
  dsimp only
  generalize (!x.converged || decide (x.cap.firstOnt < (x.convAt : Int))) = unconv
  generalize (s.adc.ref.fault || decide (x.cap.firstOnt < ((max s.adc.ref.faultEnd (s.adc.ref.t + 5000000) : Nat) : Int))) = ref
  have h0 := b2n_le (x.cap.trunc || decide (d.length < x.cap.n))
  have h1 := b2n_le unconv
  have h2 := b2n_le ref
  have h3 := b2n_le full
  have h4 := b2n_le x.cap.shortPre
  have h5 := b2n_le x.cap.late
  have h6 := b2n_le (x.cap.steps != s.time.stepCnt)
  have h7 := b2n_le x.ganged
  refine ⟨bit_of_div ?_, bit_of_div ?_, bit_of_div ?_, bit_of_div ?_, bit_of_div ?_, bit_of_div ?_⟩ <;> omega

theorem nextCapSeq_ne (n : Nat) : nextCapSeq n ≠ 0xFFFFFFFF := by
  unfold nextCapSeq
  split
  · omega
  · split <;> decide

/-- A capture that ends early (R438). -/
def stoppedCapt (c : Capt) : Capt := if c.state = 1 then { c with state := 0 } else if c.state = 2 then { c with trunc := true } else c

theorem captureStop_eq (h : s.adc.wav[w]? = some x) :
    captureStop w s = { s with adc := { s.adc with wav := s.adc.wav.set w { x with cap := stoppedCapt x.cap } } } := by
  unfold captureStop stoppedCapt
  rw [wavOf_of_getElem? h]
  split
  · next e =>
    rw [if_pos e, onWav, onAdc, modNth_eq_set h]
  · next e =>
    rw [if_neg (by omega), if_pos e, onWav, onAdc, modNth_eq_set h]
  · next e1 e2 =>
    rw [if_neg e1, if_neg e2, set_getElem?_self h]

theorem waveStop_form (hw : w < 256) (s : State) : waveStop (leBytes 1 w ++ zeros 3) s =
    if 1 < w then refuse s 0x0D05 else if !enabled s 13 (24 + w) then refuse s 0x0D03 else done (captureStop w s) [] := by
  have byte : byteField (leBytes 1 w ++ zeros 3) 0 1 = w := (byteField_front ..).trans (by omega)
  have rest : byteField (leBytes 1 w ++ zeros 3) 1 3 = 0 := rfl
  unfold waveStop
  dsimp only
  rw [if_neg (by rw [rest]; simp [zeros]), byte]

/-! ### ADC_WAVE_CAPTURE (R436, R445) -/

/-- A capture that a command asks for. -/
structure WaveReq (p : Bytes) (w st tu k pre n sl : Nat) (lv : Int) : Prop where
  length : p.length = 20
  converter : byteField p 0 1 = w
  start : byteField p 1 1 = st
  unit : byteField p 2 1 = tu
  averaging : byteField p 3 1 = k
  level : byteFieldS p 4 2 = lv
  zero : byteField p 6 2 = 0
  history : byteField p 8 4 = pre
  samples : byteField p 12 4 = n
  slot : byteField p 16 1 = sl
  zeros : byteField p 17 3 = 0

theorem waveReq_bytes {w st tu k pre n sl : Nat} {lv : Int} (hw : w < 256) (hst : st < 256) (hu : tu < 256) (hk : k < 256)
    (hl : -(2 ^ 15) ≤ lv) (hl' : lv < 2 ^ 15) (hp : pre < 2 ^ 32) (hn : n < 2 ^ 32) (hs : sl < 256) :
    WaveReq (leBytes 1 w ++ leBytes 1 st ++ leBytes 1 tu ++ leBytes 1 k ++ leIntBytes 2 lv ++ Machine.zeros 2 ++ leBytes 4 pre ++ leBytes 4 n ++
      leBytes 1 sl ++ Machine.zeros 3) w st tu k pre n sl lv := by
  have len : (leIntBytes 2 lv).length = 2 := length_leBytes ..
  constructor <;> simp only [List.append_assoc, byteFieldS, leIntBytes, byteField_skip, byteField_front, byteField_zeros, length_leBytes,
      length_zeros, Nat.reduceLeDiff, Nat.reduceSub, le_refl, Nat.sub_self, List.length_append, Nat.reduceAdd]
  case zeros => rfl
  case level =>
    rw [signExtend]
    omega
  all_goals omega

theorem slotBusy_iff (hw : w < 2) (sl : Nat) (s : State) :
    slotBusy s w sl = true ↔ (wavOf s (1 - w)).cap.state ≠ 0 ∧ (wavOf s (1 - w)).cap.slot = sl := by
  have both : upTo 2 = [0, 1] := rfl
  unfold slotBusy
  rw [both]
  match w, hw with
  | 0, _ => simp
  | 1, _ => simp

/-- Why a capture is refused, or 0 (R436, R445). -/
def waveReason (s : State) (w st tu k pre n sl : Nat) (g : Bool) : Nat :=
  if 1 < w then 0x0D05 else if w = 1 ∧ g = true then 0x0D06 else if enabled s 13 (24 + w) = false then 0x0D03
  else if st ≤ 3 ∧ 8 ≤ tu ∧ tu ≤ 13 ∧ k ≤ 8 ∧ pre ≤ (if g then 126976 else 61440) ∧ pre + 1 ≤ n ∧ n ≤ 1048512 ∧ sl ≤ 3 then
    (if (wavOf s w).cap.state ≠ 0 ∨ (wavOf s (1 - w)).cap.state ≠ 0 ∧ (wavOf s (1 - w)).cap.slot = sl then 0x0D01 else 0)
  else 0x0D05

/-- A converter armed as a command asks. -/
def waveArmed (w st tu k pre n sl : Nat) (lv : Int) (s : State) : State :=
  onWav w (fun x => { x with cap := { state := 1, start := st, unit := tu, k := k, level := lv, pre := pre, n := n, slot := sl } }) s

theorem waveCapture_reason {w st tu k pre n sl : Nat} {lv : Int} {g : Bool} (q : WaveReq p w st tu k pre n sl lv) (s : State)
    (hg : g = (enabled s 13 24 && act s 0x3B00 == 1)) : waveCapture p s =
      if waveReason s w st tu k pre n sl g = 0 then done (waveArmed w st tu k pre n sl lv s) [] else refuse s (waveReason s w st tu k pre n sl g) := by
  unfold waveCapture waveReason
  dsimp only
  rw [if_neg (by rw [q.length, q.zero, q.zeros]; decide), q.converter, q.start, q.unit, q.averaging, q.level, q.history, q.samples, q.slot, ← hg]
  by_cases hw : 1 < w
  · rw [if_pos hw, if_pos hw]
    rfl
  rw [if_neg hw, if_neg hw]
  by_cases hgw : w = 1 ∧ g = true
  · rw [if_pos hgw, if_pos hgw]
    rfl
  rw [if_neg hgw, if_neg hgw]
  by_cases he : enabled s 13 (24 + w) = false
  · have off : (!enabled s 13 (24 + w)) = true := by rw [he]; rfl
    rw [if_pos off, if_pos he]
    rfl
  have on : ¬ (!enabled s 13 (24 + w)) = true := by simpa using he
  rw [if_neg on, if_neg he]
  by_cases hr : st ≤ 3 ∧ 8 ≤ tu ∧ tu ≤ 13 ∧ k ≤ 8 ∧ pre ≤ (if g then 126976 else 61440) ∧ pre + 1 ≤ n ∧ n ≤ 1048512 ∧ sl ≤ 3
  · rw [if_neg (by omega), if_pos hr]
    by_cases hb : (wavOf s w).cap.state ≠ 0 ∨ (wavOf s (1 - w)).cap.state ≠ 0 ∧ (wavOf s (1 - w)).cap.slot = sl
    · rw [if_pos (hb.imp_right (slotBusy_iff (by omega) sl s).mpr), if_pos hb]
      rfl
    · rw [if_neg (fun h => hb (h.imp_right (slotBusy_iff (by omega) sl s).mp)), if_neg hb]
      rfl
  · rw [if_pos (by omega), if_neg hr]
    rfl

end

/-- Settles O49: what each row makes of the converters and the slots. That a capture with START 0 takes the first sample after its arm, that HOLD
stands while the coefficients are frozen, and that WAV_CAP_SEQ wraps to 0 are log 43's readings. -/
theorem fastCaptures : Obligations.FastCaptures := by
  unfold Obligations.FastCaptures
  refine ⟨?window, ?save, ?trigger, ?waits, ?complete, ?arm, ?stopRefused, ?stop⟩
  case window =>
    intro s w loud est x hp hw h ho
    have run := mismatchEnd_eq (loud := loud) (est := est) hp h ho
    by_cases hon : par s (0x3B01 + 0x20 * w) = 1
    · cases loud with
      | false =>
        rw [if_neg (by simp [hon]), if_pos (by decide)] at run
        have same : (mismatchEnd w false est s).adc = { s.adc with wav := modNth s.adc.wav w (fun x => { x with hold := true }) } := by
          rw [run]
          rfl
        refine ⟨_, { x with hold := true }, rfl, ?_, ?_, rfl, rfl, ?_, fun _ j hj => ?_, fun h' => absurd hon h', fun _ _ => ⟨rfl, ?_⟩, nofun⟩
        · rw [same]
          exact onWav_getElem? h _
        · rw [same]
        · rw [run]
          rfl
        · rw [same]
          exact getElem?_modNth_other _ _ _ _ hj
        · rw [same]
      | true =>
        rw [if_neg (by simp [hon]), if_neg (by decide)] at run
        have same : (mismatchEnd w true est s).adc = { s.adc with
            wav := modNth (modNth (modNth s.adc.wav w (windowed est)) 1 (gangStep x.ganged est)) w
              (convergeStep (!x.converged && decide (8 ≤ x.winCnt + 1)) s.time.ont) } :=
          (congrArg State.adc run).trans (windowEnd_adc w est x _)
        have here : (mismatchEnd w true est s).adc.wav[w]? = some (convergeStep (!x.converged && decide (8 ≤ x.winCnt + 1)) s.time.ont
            (gangStep (x.ganged && w == 1) est (windowed est x))) := by
          rw [same]
          show (modNth _ w _)[w]? = _
          rw [getElem?_modNth_same, getElem?_modNth, getElem?_modNth_same, h]
          by_cases hw1 : w = 1
          · rw [if_pos hw1, hw1, beq_self_eq_true, Bool.and_true]
            rfl
          · rw [if_neg hw1, beq_false_of_ne hw1, Bool.and_false]
            rfl
        obtain ⟨saved, cap, hold, count, conv, at_, coefs⟩ := window_kept est (x.ganged && w == 1)
          (!x.converged && decide (8 ≤ x.winCnt + 1)) s.time.ont x
        refine ⟨_, _, rfl, here, ?_, saved, cap, ?_, fun hg j hj => ?_, fun h' => absurd hon h', nofun, fun _ _ => ⟨hold, count, ?_, ?_, ?_, ?_⟩⟩
        · rw [same]
        · rw [run]
          exact (windowEnd_only ..).others.2.2.1
        · rw [same, hg]
          show (modNth (modNth (modNth s.adc.wav w _) 1 (fun x => x)) w _)[j]? = _
          rw [modNth_unmoved, getElem?_modNth_other _ _ _ _ hj, getElem?_modNth_other _ _ _ _ hj]
        · rw [conv]
          cases x.converged
          · simp
          · rfl
        · exact fun hc hn => at_ (by simp [hc, hn])
        · intro j a g k a' g' k' hj only ha hb
          have own : (x.ganged && w == 1) = false := by
            rcases only with rfl | hg
            · exact Bool.and_false _
            · rw [hg, Bool.false_and]
          rw [own] at coefs ⊢
          rw [coefs]
          exact (coefsStep_slice ha ((List.getElem?_take_of_lt hj).trans hb)).trans (congrArg some (coefStep_eq ..))
        · intro z j a g k a' g' k' hw0 hg hz ha hb
          subst hw0
          refine ⟨gangStep x.ganged est z, ?_, ?_⟩
          · rw [same]
            show (modNth (modNth (modNth s.adc.wav 0 _) 1 _) 0 _)[1]? = _
            rw [getElem?_modNth_other _ _ _ _ (by decide), getElem?_modNth_same, getElem?_modNth_other _ _ _ _ (by decide), hz]
            rfl
          · rw [hg]
            exact (coefsStep_slice ha (List.getElem?_drop.trans hb)).trans (congrArg some (coefStep_eq ..))
    · rw [if_pos hon] at run
      have same : (mismatchEnd w loud est s).adc = s.adc := by
        rw [run]
        rfl
      refine ⟨_, x, rfl, by rw [same]; exact h, by rw [same], rfl, rfl, ?_, fun _ j _ => by rw [same], fun _ => same,
        fun h' => absurd h' hon, fun h' => absurd h' hon⟩
      rw [run]
      rfl
  case save =>
    intro s x z hm h
    refine congrArg Host.Outcome.next ((if_pos hm).trans ?_)
    rw [wavSave_first h, wavSave_second rfl]
    cases hz : z.on
    · cases hg : x.on && x.ganged
      · simp [hz]
      · simp [hz]
    · cases hg : x.on && x.ganged
      · simp [hz]
      · simp [hz]
  case trigger =>
    rintro s w g pos got p0 g0 prev cur x c hp h ho rfl hs hf rfl rfl
    have run := captureTrigger_fires (g := g) (pos := pos) (got := got) hp h ho hs (captureFires_iff hf)
    refine ⟨_, _, congrArg Host.Outcome.next run, onWav_getElem? h _, fun j hj => onWav_other hj _ s, rfl, rfl, rfl, rfl, rfl, rfl, rfl, rfl, rfl, rfl⟩
  case waits =>
    intro s w g pos got prev cur x h hn
    refine congrArg Host.Outcome.next (if_pos ?_)
    rw [wavOf_of_getElem? h, captureFires_not hn, Bool.and_false]
    rfl
  case complete =>
    rintro s w d full x c hp h rfl hs hl
    obtain ⟨same, params⟩ := captureComplete_done (d := d) (full := full) hp h hs
    obtain ⟨f0, f3, f4, f5, f6, f7⟩ := captureRec_flags (d := d.take x.cap.n) (full := full) h
    have own : wavOf s w = x := wavOf_of_getElem? h
    refine ⟨_, captureRec s w (d.take x.cap.n) full, rfl, ?_, fun j hj => ?_, ?_, fun j hj => ?_, ?_, fun hn => if_pos hn, fun hn => ?_, ?_, ?_, ?_,
      ?_, ?_, ?_, ?_, ?_, ?_, f0, f3, f4, f5, ?_, f7, params⟩
    · rw [same]
      exact List.getElem?_set_self hl
    · rw [same]
      exact List.getElem?_set_ne (Ne.symm hj)
    · rw [same]
      exact onWav_getElem? h _
    · rw [same]
      exact onWav_other hj _ _
    · rw [same]
      rfl
    · exact (if_neg (by omega)).trans (if_pos (by omega))
    · exact nextCapSeq_ne _
    · rfl
    · show 0x44 + 2 * (d.take x.cap.n).length = 0x40 + 2 * (d.take x.cap.n).length + 4
      omega
    · rw [captureRec, own]
    · rw [captureRec, own]
    · rw [captureRec, own]
    · rw [captureRec, own]
    · rfl
    · rw [captureRec, own]; rfl
    · rw [f6, Bool.eq_iff_iff, bne_iff_ne, decide_eq_true_iff]
  case arm =>
    rintro m s w st tu k pre n sl lv g ht hw hst hu hk hl hl' hpre hn hsl hp rfl
    have same := samePanel_takenState 0x0D10 m s
    have hact : act (takenState 0x0D10 m s) 0x3B00 = act s 0x3B00 := by
      rw [act, act, same.par_eq, takenState_host, ring_host_uncommitted]
    have wav (v : Nat) : wavOf (takenState 0x0D10 m s) v = wavOf s v := by rw [wavOf, wavOf, takenState_adc]
    have reason : waveReason (takenState 0x0D10 m s) w st tu k pre n sl (enabled s 13 24 && act s 0x3B00 == 1) =
        waveReason s w st tu k pre n sl (enabled s 13 24 && act s 0x3B00 == 1) := by
      unfold waveReason
      rw [same.enabled_eq, wav, wav]
    have run := waveCapture_reason (waveReq_bytes hw hst hu hk hl hl' hpre hn hsl) (takenState 0x0D10 m s)
      (g := (enabled s 13 24 && act s 0x3B00 == 1)) (by rw [same.enabled_eq, hact])
    rw [reason] at run
    refine ⟨waveReason s w st tu k pre n sl (enabled s 13 24 && act s 0x3B00 == 1), waveArmed w st tu k pre n sl lv (takenState 0x0D10 m s),
      ?_, rfl, fun x _ h => ?_, fun _ j hj => ?_, fun _ => ?_⟩
    · by_cases hr : waveReason s w st tu k pre n sl (enabled s 13 24 && act s 0x3B00 == 1) = 0
      · rw [if_pos hr] at run ⊢
        exact mailOut_answers_of_payload ht hp run
      · rw [if_neg hr] at run ⊢
        exact mailOut_refuses_of_payload ht hp run
    · exact onWav_getElem? (by rw [takenState_adc]; exact h) _
    · rw [← takenState_adc 0x0D10 m s]
      exact onWav_other hj _ _
    · rw [← takenState_adc 0x0D10 m s]
      exact ⟨rfl, rfl⟩
  case stopRefused =>
    intro m s w ht hw hp h
    have on := (samePanel_takenState 0x0D11 m s).enabled_eq 13 (24 + w)
    refine mailOut_refuses_of_payload ht hp ((waveStop_form hw _).trans ?_)
    by_cases hl : 1 < w
    · rw [if_pos hl, if_pos hl]
    · rw [if_neg hl, if_neg hl, on, h.resolve_left hl]
      rfl
  case stop =>
    intro m s w x ht hw hp he h
    have on := (samePanel_takenState 0x0D11 m s).enabled_eq 13 (24 + w)
    have there : (takenState 0x0D11 m s).adc.wav[w]? = some x := by rw [takenState_adc]; exact h
    have run : waveStop (leBytes 1 w ++ zeros 3) (takenState 0x0D11 m s) = done (captureStop w (takenState 0x0D11 m s)) [] := by
      rw [waveStop_form (by omega), if_neg (by omega), on, he]
      rfl
    have stop := captureStop_eq there
    rw [stop, takenState_adc] at run
    refine ⟨_, _, mailOut_answers_of_payload ht hp run, List.getElem?_set_self (List.getElem?_eq_some_iff.mp h).1,
      fun j hj => List.getElem?_set_ne (Ne.symm hj), fun hs => if_pos hs, fun hs => ?_, fun hs => ?_⟩
    · exact (if_neg (by omega)).trans (if_pos hs)
    · exact (if_neg (by omega)).trans (if_neg (by omega))

end Sys2Proof.Machine
end

section
/-! SUPPORT. An axis's tick, a coarse step and an encoder's edge: what becomes of the axis (R381 to R391). -/

namespace Sys2Proof.Machine

section
variable {n : Nat} {y z : AxisSt} {s t u : State}

/-! ### Moves (R381 to R383) -/

/-- What a tick makes of a moving axis: it stays on the way to its target, and ends exactly there (R382). -/
structure Moved (t : State) (n : Nat) (y z : AxisSt) : Prop where
  state : z.state = y.state
  target : z.target = y.target
  dir : z.dir = y.dir
  uncertain : z.uncertain = y.uncertain
  within : min y.pos y.target ≤ z.pos ∧ z.pos ≤ max y.pos y.target
  outcome : (z.pos = y.target ∧ z.doing = 0 ∧ z.v = 0 ∧ z.moves = wrapInc 32 y.moves ∧ (y.pend = none → z.pend = none)) ∨
    (z.pos ≠ y.target ∧ z.doing = y.doing ∧ (apN t n 5 : Int) * 65536 ≤ z.v ∧ z.moves = y.moves ∧ z.pend = y.pend)

theorem axisProfile_eq (n : Nat) (s : State) : axisProfile n s =
    let x := axisOf s n
    let left := (x.target - x.pos).natAbs * 4294967296 - x.frac
    let u := axisDecel n left s
    let m := moveSpeed x.v x.a (apN u n 5) (apN u n 6) (apN u n 7) (apN u n 8) (axisOf u n).ad left
    let sum := x.frac + min (tickDist m.1) left
    let w := axisEmit n x.dir (sum / 4294967296) (onAxis n (fun l => { l with v := m.1, a := m.2, frac := sum % 4294967296 }) u)
    if min (tickDist m.1) left = left then axisMoveEnd n w else w := rfl

/-- A move is never slower than VSTART. -/
theorem moveSpeed_vstart (v a : Int) (vstart vmax amax jmax ad rem : Nat) :
    (vstart : Int) * 65536 ≤ (moveSpeed v a vstart vmax amax jmax ad rem).1 := by
  unfold moveSpeed
  dsimp only
  exact (Int.natCast_mul vstart 65536).symm.le.trans (le_max_right ..)

theorem AxisIs.profile (a : AxisIs n y t) (hne : y.target ≠ y.pos) (hf : y.frac < 2 ^ 32) (hd : y.dir = decide (y.pos < y.target))
    (ht : -(2 ^ 31) ≤ y.target ∧ y.target < 2 ^ 31) (hp : -(2 ^ 31) ≤ y.pos ∧ y.pos < 2 ^ 31) :
    ∃ z, AxisIs n z (axisProfile n t) ∧ Moved t n y z := by
  obtain ⟨c, e, l, w, h⟩ := a.here
  rw [axisProfile_eq]
  dsimp only
  rw [axisOf_of_getElem? h]
  dsimp only
  generalize hleft : (y.target - y.pos).natAbs * 4294967296 - y.frac = left
  obtain ⟨d, m, k, b⟩ := a.decel left
  have same : apN (axisDecel n left t) n 5 = apN t n 5 := ((AxisOnly.refl t).decel left).apN_eq 5
  generalize axisDecel n left t = u at b same ⊢
  have slow := moveSpeed_vstart y.v y.a (apN u n 5) (apN u n 6) (apN u n 7) (apN u n 8) (axisOf u n).ad left
  generalize moveSpeed y.v y.a (apN u n 5) (apN u n 6) (apN u n 7) (apN u n 8) (axisOf u n).ad left = q at slow ⊢
  rw [same] at slow
  generalize hgo : min (tickDist q.1) left = go
  have le : go ≤ left := hgo ▸ min_le_right ..
  have b : AxisIs n { y with
      ad := d, amaxSeen := m, decelKept := k, v := q.1, a := q.2, frac := (y.frac + go) % 4294967296 }
      (onAxis n (fun l => { l with v := q.1, a := q.2, frac := (y.frac + go) % 4294967296 }) u) := b.update
  generalize onAxis n (fun l => { l with v := q.1, a := q.2, frac := (y.frac + go) % 4294967296 }) u = v at b ⊢
  generalize hk : (y.frac + go) / 4294967296 = j
  have far : j ≤ (y.target - y.pos).natAbs ∧ (j = (y.target - y.pos).natAbs ↔ go = left) := by omega
  obtain ⟨p, hpos, way⟩ : ∃ p, p = y.pos + (if y.dir then (j : Int) else -j) ∧
      (min y.pos y.target ≤ p ∧ p ≤ max y.pos y.target ∧ (p = y.target ↔ go = left)) := by
    refine ⟨_, rfl, ?_⟩
    rw [hd]
    by_cases up : y.pos < y.target
    · rw [if_pos (by simpa using up)]
      omega
    · rw [if_neg (by simpa using up)]
      omega
  obtain ⟨dir, i, hdir, b⟩ := b.emit y.dir hpos (by omega) (by omega)
  have hdir : dir = y.dir := hdir.elim id id
  by_cases last : go = left
  · rw [if_pos last]
    refine ⟨_, b.moveEnd, rfl, rfl, hdir, rfl, ⟨way.1, way.2.1⟩, .inl ⟨way.2.2.mpr last, rfl, rfl, rfl, fun hn => ?_⟩⟩
    show (if y.pend = _ then none else y.pend) = none
    rw [hn, ite_self]
  · rw [if_neg last]
    exact ⟨_, b, rfl, rfl, hdir, rfl, ⟨way.1, way.2.1⟩, .inr ⟨fun hh => last (way.2.2.mp hh), rfl, slow, rfl, rfl⟩⟩

theorem AxisIs.apply (a : AxisIs n y t) (f : AxisSt → AxisSt)
    (hf : ∀ c e l w, f { y with changes := c, lastEvt := e, en := l, waking := w } =
      { f y with changes := c, lastEvt := e, en := l, waking := w } := by intro _ _ _ _; rfl) : AxisIs n (f y) (onAxis n f t) :=
  a.update fun c e l w => ⟨c, e, l, w, hf c e l w⟩

theorem AxisIs.own (a : AxisIs n y t) : ∃ c e l w, axisOf t n = { y with changes := c, lastEvt := e, en := l, waking := w } := by
  obtain ⟨c, e, l, w, h⟩ := a.here
  exact ⟨c, e, l, w, axisOf_of_getElem? h⟩

/-- A waiting target starts its move where the driver is up (R381). -/
theorem AxisIs.begin (a : AxisIs n y t) {g : Int} (hne : g ≠ y.pos) (hdown : y.down = false) (hg : -(2 ^ 31) ≤ g ∧ g < 2 ^ 31)
    (hp : -(2 ^ 31) ≤ y.pos ∧ y.pos < 2 ^ 31) : ∃ z, AxisIs n z (axisBegin n g t) ∧ z.state = 2 ∧ z.target = g ∧ z.pend = none ∧
      z.dir = decide (y.pos < g) ∧ min y.pos g ≤ z.pos ∧ z.pos ≤ max y.pos g := by
  obtain ⟨c, e, l, w, own⟩ := a.own
  unfold axisBegin
  rw [own]
  dsimp only
  rw [if_neg hne, if_neg (by simp [hdown])]
  have begun := ((a.apply (fun l => { l with
      doing := 1, pend := none, target := g, dir := decide (y.pos < g), v := ap t n 5 * 65536, a := 0, frac := 0
      ad := apN t n 7, amaxSeen := apN t n 7 })).enter 2)
  obtain ⟨z, hz, moved⟩ := begun.profile hne (by show (0 : Nat) < 2 ^ 32; decide) rfl hg hp
  refine ⟨z, hz, moved.state, moved.target, ?_, moved.dir, moved.within.1, moved.within.2⟩
  rcases moved.outcome with ⟨-, -, -, -, hpend⟩ | ⟨-, -, -, -, hpend⟩
  · exact hpend rfl
  · exact hpend

/-! ### Following (R384, R385, R388) -/

/-- A following axis stays within its limits, and follows or faults. -/
structure Followed (lo hi : Int) (y z : AxisSt) : Prop where
  state : z.state = y.state ∨ z.state = faultState y.state
  low : lo ≤ z.pos
  high : z.pos ≤ hi

theorem AxisIs.followEmit (a : AxisIs n y t) (up : Bool) (k : Nat) (hlo : -(2 ^ 31) ≤ ap t n 9) (h1 : ap t n 9 ≤ y.pos)
    (h2 : y.pos ≤ ap t n 0x0A) (hhi : ap t n 0x0A < 2 ^ 31) :
    ∃ z, AxisIs n z (axisFollowEmit n up k t) ∧ Followed (ap t n 9) (ap t n 0x0A) y z := by
  obtain ⟨c, e, l, w, own⟩ := a.own
  unfold axisFollowEmit
  rw [own]
  dsimp only
  generalize hroom : (if up then ap t n 0x0A - y.pos else y.pos - ap t n 9).toNat = room
  obtain ⟨p, hpos, low, high⟩ : ∃ p, p = y.pos + (if up then ((min k room : Nat) : Int) else -((min k room : Nat) : Int)) ∧
      ap t n 9 ≤ p ∧ p ≤ ap t n 0x0A := by
    refine ⟨_, rfl, ?_⟩
    cases up
    · simp only [Bool.false_eq_true, if_false] at hroom ⊢
      omega
    · simp only [if_true] at hroom ⊢
      omega
  obtain ⟨dir, i, -, b⟩ := a.emit up hpos (by omega) (by omega)
  split
  · obtain ⟨lost, -, faulted⟩ := b.fault 1
    exact ⟨_, faulted, .inr rfl, low, high⟩
  · exact ⟨_, b, .inl rfl, low, high⟩

/-- The axis takes its speed and what it owes anew, then emits its steps. -/
def FollowsBy (n : Nat) (t u : State) : Prop := ∃ (f : AxisSt → AxisSt) (up : Bool) (k : Nat),
  u = axisFollowEmit n up k (onAxis n f t) ∧ (∀ y, (f y).state = y.state ∧ (f y).pos = y.pos) ∧
  ∀ y c e l w, f { y with changes := c, lastEvt := e, en := l, waking := w } = { f y with changes := c, lastEvt := e, en := l, waking := w }

theorem axisCoarse_follows (n : Nat) (t : State) : FollowsBy n t (axisCoarse n t) :=
  ⟨_, _, _, rfl, fun _ => ⟨rfl, rfl⟩, fun _ _ _ _ _ => rfl⟩

theorem axisGeared_follows (n : Nat) (t : State) : axisGeared n t = axisFault n 2 t ∨ FollowsBy n t (axisGeared n t) := by
  unfold axisGeared
  dsimp only
  split
  · exact .inl rfl
  · exact .inr ⟨_, _, _, rfl, fun _ => ⟨rfl, rfl⟩, fun _ _ _ _ _ => rfl⟩

theorem AxisIs.follow (a : AxisIs n y t) (hlo : -(2 ^ 31) ≤ ap t n 9) (h1 : ap t n 9 ≤ y.pos) (h2 : y.pos ≤ ap t n 0x0A)
    (hhi : ap t n 0x0A < 2 ^ 31) : ∃ z, AxisIs n z (axisFollow n t) ∧ Followed (ap t n 9) (ap t n 0x0A) y z := by
  have emitted {u : State} (h : FollowsBy n t u) : ∃ z, AxisIs n z u ∧ Followed (ap t n 9) (ap t n 0x0A) y z := by
    obtain ⟨f, up, k, rfl, keeps, apart⟩ := h
    obtain ⟨hs, hp⟩ := keeps y
    obtain ⟨z, hz, ⟨st, lo, hi⟩⟩ := (a.apply f (apart y)).followEmit up k hlo (h1.trans_eq hp.symm) (hp.le.trans h2) hhi
    exact ⟨z, hz, hs ▸ st, lo, hi⟩
  unfold axisFollow
  split
  · exact ⟨y, a.wake, .inl rfl, h1, h2⟩
  · split
    · exact emitted (axisCoarse_follows n t)
    · rcases axisGeared_follows n t with h | h
      · obtain ⟨lost, -, faulted⟩ := a.fault 2
        rw [h]
        exact ⟨_, faulted, .inr rfl, h1, h2⟩
      · exact emitted h

/-! ### What a tick decides (R387) -/

theorem axisActive_rest (hs : ap t n 0 = 0) (hd : (axisOf t n).doing = 0) (hp : (axisOf (axisEnter n 1 t) n).pend = none) :
    axisActive n t = axisEnter n 1 t := by
  unfold axisActive
  rw [if_neg (by simp [hs]), hd]
  dsimp only
  rw [hp]
  rfl

theorem axisActive_begin {g : Int} (hs : ap t n 0 = 0) (hd : (axisOf t n).doing = 0) (hp : (axisOf (axisEnter n 1 t) n).pend = some g)
    (hu : (axisOf (axisEnter n 1 t) n).uncertain = false) : axisActive n t = axisBegin n g (axisEnter n 1 t) := by
  unfold axisActive
  rw [if_neg (by simp [hs]), hd]
  dsimp only
  rw [hp]
  exact if_neg (by simp [hu])

theorem axisActive_move (hs : ap t n 0 = 0) (hd : (axisOf t n).doing = 1) : axisActive n t =
    if (axisOf (axisProfile n (axisEnter n 2 t)) n).doing = 0 then axisEnter n 1 (axisProfile n (axisEnter n 2 t))
    else axisProfile n (axisEnter n 2 t) := by
  unfold axisActive
  rw [if_neg (by simp [hs]), hd]
  rfl

theorem axisActive_search (hs : ap t n 0 = 0) (hd : (axisOf t n).doing = 3) : axisActive n t = axisHoming n (axisEnter n 4 t) := by
  unfold axisActive
  rw [if_neg (by simp [hs]), hd]
  rfl

/-- At rest an axis shows IDLE. -/
theorem AxisIs.rests (a : AxisIs n y t) (hs : ap t n 0 = 0) (hd : y.doing = 0) (hp : y.pend = none) :
    AxisIs n { y with state := 1 } (axisActive n t) := by
  obtain ⟨c, e, l, w, own⟩ := a.own
  have b := a.enter 1
  obtain ⟨c', e', l', w', own'⟩ := b.own
  rw [axisActive_rest hs (by rw [own]; exact hd) (by rw [own']; exact hp)]
  exact b

/-- A waiting target of a certain axis starts its move. -/
theorem AxisIs.starts (a : AxisIs n y t) {g : Int} (hs : ap t n 0 = 0) (hd : y.doing = 0) (hp : y.pend = some g) (hu : y.uncertain = false) :
    ∃ u, axisActive n t = axisBegin n g u ∧ AxisIs n { y with state := 1 } u := by
  obtain ⟨c, e, l, w, own⟩ := a.own
  have b := a.enter 1
  obtain ⟨c', e', l', w', own'⟩ := b.own
  exact ⟨axisEnter n 1 t, axisActive_begin hs (by rw [own]; exact hd) (by rw [own']; exact hp) (by rw [own']; exact hu), b⟩

theorem AxisIs.moves (a : AxisIs n y t) (hs : ap t n 0 = 0) (hd : y.doing = 1) (hne : y.target ≠ y.pos) (hf : y.frac < 2 ^ 32)
    (hdir : y.dir = decide (y.pos < y.target)) (ht : -(2 ^ 31) ≤ y.target ∧ y.target < 2 ^ 31) (hp : -(2 ^ 31) ≤ y.pos ∧ y.pos < 2 ^ 31) :
    ∃ z, (z.doing = 0 → AxisIs n { z with state := 1 } (axisActive n t)) ∧ (z.doing ≠ 0 → AxisIs n z (axisActive n t)) ∧
      Moved t n { y with state := 2 } z := by
  obtain ⟨c, e, l, w, own⟩ := a.own
  obtain ⟨z, hz, moved⟩ := (a.enter 2).profile hne hf hdir ht hp
  have speed := ((AxisOnly.refl t).enter (n := n) 2).apN_eq 5
  obtain ⟨c', e', l', w', own'⟩ := hz.own
  have now : (axisOf (axisProfile n (axisEnter n 2 t)) n).doing = z.doing := by rw [own']
  refine ⟨z, fun h0 => ?_, fun h0 => ?_, moved.state, moved.target, moved.dir, moved.uncertain, moved.within, ?_⟩
  · rw [axisActive_move hs (by rw [own]; exact hd), if_pos (now.trans h0)]
    exact hz.enter 1
  · rw [axisActive_move hs (by rw [own]; exact hd), if_neg (fun h => h0 (now.symm.trans h))]
    exact hz
  · rw [← speed]
    exact moved.outcome

/-- A following axis stays within its limits (R384, R385, R388). -/
theorem AxisIs.follows (a : AxisIs n y t) (hs : ap t n 0 ≠ 0) (hlo : -(2 ^ 31) ≤ ap t n 9) (h1 : ap t n 9 ≤ y.pos) (h2 : y.pos ≤ ap t n 0x0A)
    (hhi : ap t n 0x0A < 2 ^ 31) : ∃ z, AxisIs n z (axisActive n t) ∧ (z.state = 3 ∨ z.state = 8) ∧ ap t n 9 ≤ z.pos ∧ z.pos ≤ ap t n 0x0A := by
  have entered (u : State) (x : AxisSt) (hx : x.pos = y.pos) (b : AxisIs n x u) (o : AxisOnly n t u) :
      ∃ z, AxisIs n z (axisFollow n (axisEnter n 3 u)) ∧ (z.state = 3 ∨ z.state = 8) ∧ ap t n 9 ≤ z.pos ∧ z.pos ≤ ap t n 0x0A := by
    have same := (o.enter 3).ap_eq
    obtain ⟨z, hz, ⟨st, lo, hi⟩⟩ := (b.enter 3).follow (by rw [same]; exact hlo) (by rw [same]; exact h1.trans_eq hx.symm)
      (by rw [same]; exact hx.le.trans h2) (by rw [same]; exact hhi)
    rw [same] at lo hi
    exact ⟨z, hz, st, lo, hi⟩
  obtain ⟨c, e, l, w, own⟩ := a.own
  unfold axisActive
  rw [if_pos hs]
  dsimp only
  split
  · exact entered t y rfl a (.refl t)
  · refine entered _ _ ?_ (a.apply _) (AxisOnly.refl t).followStart
    rfl

/-- A search that sees its level takes the home position (R391). -/
theorem AxisIs.finds (a : AxisIs n y t) (hs : ap t n 0 = 0) (hd : y.doing = 3) (hl : b2n (bit (dinLevels t) (apN t n 0x10)) = apN t n 0x11) :
    AxisIs n { y with
      state := 1, doing := 0, v := 0, a := 0, frac := 0, pos := ap t n 0x13, uncertain := false } (axisActive n t) := by
  obtain ⟨c, e, l, w, own⟩ := a.own
  have o := (AxisOnly.refl t).enter (n := n) 4
  have pins : dinLevels (axisEnter n 4 t) = dinLevels t := by rw [dinLevels, dinLevels, o.eq]
  rw [axisActive_search hs (by rw [own]; exact hd)]
  unfold axisHoming
  rw [if_pos (by rw [pins, o.apN_eq, o.apN_eq]; exact hl), o.ap_eq]
  exact (((a.enter 4).apply (fun l => { l with
    doing := 0, v := 0, a := 0, frac := 0, pos := ap t n 0x13, uncertain := false })).enter 1).report ..

/-- An axis that faults or has lost its memory shows FAULT. -/
theorem AxisIs.decideFault (a : AxisIs n y t) (h0 : standby t = false) (h1 : holdLine t = false) (h : y.cause ≠ 0 ∨ y.memFault = true) :
    AxisIs n { y with state := 8 } (axisDecide n t) := by
  obtain ⟨c, e, l, w, own⟩ := a.own
  unfold axisDecide
  rw [own, h0, h1, if_neg (by decide), if_neg (by decide), if_pos (by rcases h with h | h <;> simp [h])]
  exact a.enter 8

/-- Without its permit an axis inhibits. -/
theorem AxisIs.decideInhibit (a : AxisIs n y t) (h0 : standby t = false) (h1 : holdLine t = false) (hc : y.cause = 0) (hm : y.memFault = false)
    (hp : y.permit = false) : ∃ z, AxisIs n z (axisDecide n t) ∧ z.state = 5 ∧ z.doing = 0 ∧ z.pos = y.pos ∧
      (y.doing ≠ 0 → y.v ≠ 0 → z.uncertain = true ∧ z.v = 0) ∧ (y.doing = 0 → z.pend = y.pend ∧ z.uncertain = y.uncertain) := by
  obtain ⟨c, e, l, w, own⟩ := a.own
  unfold axisDecide
  rw [own, h0, h1, if_neg (by decide), if_neg (by decide)]
  dsimp only
  rw [if_neg (by simp [hc, hm]), if_pos (by simp [hp])]
  by_cases hd : y.doing = 0
  · rw [if_pos hd]
    exact ⟨_, a.enter 5, rfl, hd, rfl, fun h => absurd hd h, fun _ => ⟨rfl, rfl⟩⟩
  · rw [if_neg hd]
    obtain ⟨lost, moved, -, -, b⟩ := a.halt
    exact ⟨_, b.enter 5, rfl, rfl, rfl, fun h hv => ⟨moved h hv, rfl⟩, fun h => absurd h hd⟩

/-- With its permit it does what its source gives. -/
theorem AxisIs.decideActive (a : AxisIs n y t) (h0 : standby t = false) (h1 : holdLine t = false) (hc : y.cause = 0) (hm : y.memFault = false)
    (hp : y.permit = true) : axisDecide n t = axisActive n t := by
  obtain ⟨c, e, l, w, own⟩ := a.own
  unfold axisDecide
  rw [own, h0, h1, if_neg (by decide), if_neg (by decide)]
  dsimp only
  rw [if_neg (by simp [hc, hm]), if_neg (by simp [hp])]

theorem AxisOnly.decide (a : AxisOnly n s t) (h0 : standby t = false) (h1 : holdLine t = false) : AxisOnly n s (axisDecide n t) := by
  unfold axisDecide
  rw [h0, h1, if_neg (by decide), if_neg (by decide)]
  exact .ite (a.enter 8) (.ite ((AxisOnly.ite a a.halt).enter 5) a.active)

/-! ### The tick (R378) -/

/-- The part as a tick finds it: the inputs' filters fed, the sample held, the parameters committed. -/
def axisFed (n : Nat) (d : List (Nat × Nat)) (s : State) : State := holdSample 4 n (parCommit (axisParams n) (dinFeed d s))

/-- The axis as a tick takes it. -/
def axisLatched (p : Bool) (ont time : Nat) (x : AxisSt) : AxisSt :=
  { x with permit := p, ticks := wrapInc 32 x.ticks, ts := ont, valAt := some time, handed := false }

/-- The part with the axis latched. -/
def axisTaken (n : Nat) (d : List (Nat × Nat)) (s : State) : State :=
  onAxis n (axisLatched (axisPermit (axisFed n d s) n) (ontLo (axisFed n d s)) (axisFed n d s).time.ont) (axisFed n d s)

theorem axisTick_runs {d : List (Nat × Nat)} {x : AxisSt} (hp : plantRuns s = true) (he : enabled s 11 n = true) (hs : stopping s 11 n = false)
    (h : s.axes[n]? = some x) (hk : x.parked = false) (hw : x.waitScan = false) :
    axisTick n d s = axisEvent n (axisDecide n (axisTaken n d s)) := by
  have same : axisOf (dinFeed d s) n = x := axisOf_of_getElem? h
  unfold axisTick
  rw [if_pos hp]
  dsimp only
  rw [same]
  exact if_neg (by
    show ¬ ((!(plantRuns s && enabled s 11 n)) || stopping s 11 n || x.parked || x.waitScan) = true
    simp [hp, he, hs, hk, hw])

theorem axisFed_kept (n : Nat) (d : List (Nat × Nat)) (s : State) : ∃ e, axisFed n d s = { parCommit (axisParams n) (dinFeed d s) with est := e } := by
  unfold axisFed holdSample
  split
  · exact ⟨_, rfl⟩
  · exact ⟨_, rfl⟩

/-- A tick works with the parameters that it has just committed. -/
theorem axisTaken_ap {k : Nat} (hk : k < 0x80) (d : List (Nat × Nat)) (s : State) : ap (axisTaken n d s) n k = par s (0x3000 + 0x80 * n + k) := by
  obtain ⟨e, fed⟩ := axisFed_kept n d s
  have own : axisParams n (axisId n k) = true := by
    simp [axisParams, axisId, hk]
  have committed : act (axisTaken n d s) (axisId n k) = act (parCommit (axisParams n) (dinFeed d s)) (axisId n k) := by
    rw [axisTaken, fed]
    rfl
  exact committed.trans (act_parCommit _ own)

theorem AxisIs.eq (a : AxisIs n y t) (h : t.axes[n]? = some z) : ∃ c e l w, z = { y with changes := c, lastEvt := e, en := l, waking := w } := by
  obtain ⟨c, e, l, w, hy⟩ := a.here
  exact ⟨c, e, l, w, Option.some.inj (h.symm.trans hy)⟩

theorem axisTaken_kept (n : Nat) (d : List (Nat × Nat)) (s : State) : ∃ e p o m, p = axisPermit (axisTaken n d s) n ∧
    axisTaken n d s = { parCommit (axisParams n) (dinFeed d s) with est := e, axes := modNth s.axes n (axisLatched p o m) } := by
  obtain ⟨e, fed⟩ := axisFed_kept n d s
  refine ⟨e, axisPermit (axisFed n d s) n, ontLo (axisFed n d s), (axisFed n d s).time.ont, rfl, ?_⟩
  rw [axisTaken, fed]
  rfl

/-! ### Coarse steps and encoder edges (R384 to R386) -/

theorem onAxis_getElem? {x : AxisSt} (h : s.axes[n]? = some x) (f : AxisSt → AxisSt) : (onAxis n f s).axes[n]? = some (f x) :=
  (getElem?_modNth_same ..).trans (by rw [h]; rfl)

/-- From `s` to `t` axis `n` has stayed as it was, and of the rest only other axes, reports and kept samples have changed. -/
structure AxisStays (n : Nat) (s t : State) : Prop where
  eq : t = { s with
    host := { s.host with evtStatus := t.host.evtStatus, sent := t.host.sent, pba := t.host.pba }, recorder := t.recorder
    axes := t.axes, est := t.est }
  here : t.axes[n]? = s.axes[n]?

theorem AxisStays.refl (s : State) : AxisStays n s s := ⟨rfl, rfl⟩

theorem AxisStays.trans (a : AxisStays n s t) (b : AxisStays n t u) : AxisStays n s u := ⟨by rw [b.eq, a.eq], b.here.trans a.here⟩

theorem AxisOnly.stays {m : Nat} (a : AxisOnly m s t) (h : m ≠ n) : AxisStays n s t := ⟨a.eq, a.others n (Ne.symm h)⟩

theorem AxisStays.act_eq (a : AxisStays n s t) (id : Nat) : act t id = act s id := by rw [a.eq]; rfl

theorem AxisStays.inputs (a : AxisStays n s t) : t.enc = s.enc ∧ t.pins = s.pins := by
  rw [a.eq]
  exact ⟨rfl, rfl⟩

theorem AxisOnly.inputs (a : AxisOnly n s t) : t.enc = s.enc ∧ t.pins = s.pins := by
  rw [a.eq]
  exact ⟨rfl, rfl⟩

theorem AxisOnly.coarseStep (a : AxisOnly n s t) (up : Bool) : AxisOnly n s (axisCoarseStep n up t) := by
  unfold axisCoarseStep
  exact .ite (.ite (a.update.update.update.report ..) a.update.update) a.update

theorem AxisOnly.gearSwitch (a : AxisOnly n s t) : AxisOnly n s (axisGearSwitch n t) := a.update.report ..

/-- A coarse step adds to the backlog, and beyond two steps notes it. -/
theorem axisCoarseStep_spec {x : AxisSt} (h : t.axes[n]? = some x) (up : Bool) : ∃ y, (axisCoarseStep n up t).axes[n]? = some y ∧ y.pos = x.pos ∧
    y.backlog = x.backlog + (if up then (apN t n 0x0B : Int) else -(apN t n 0x0B : Int)) ∧
    (2 * apN t n 0x0B < y.backlog.natAbs → y.interpOvr = true) := by
  have told {u : State} {z : AxisSt} (hz : u.axes[n]? = some z) (c k p q r : Nat) : (raise c k p q r u).axes[n]? = some z := by
    rw [raise_axes]
    exact hz
  unfold axisCoarseStep
  dsimp only
  generalize (if up then (apN t n 0x0B : Int) else -(apN t n 0x0B : Int)) = d
  have added := onAxis_getElem? h (fun l => { l with
    backlog := l.backlog + d, spread := l.backlog + d, spreadNs := 0, spreadOut := 0, period := coarsePeriod t n
    lastEdge := some t.power.netTick })
  split
  · split
    · exact ⟨_, told (onAxis_getElem? (onAxis_getElem? added _) _) .., rfl, rfl, fun _ => rfl⟩
    · exact ⟨_, onAxis_getElem? added _, rfl, rfl, fun _ => rfl⟩
  · next hn =>
    refine ⟨_, added, rfl, rfl, fun hh => absurd ?_ hn⟩
    rw [axisOf_of_getElem? added]
    dsimp only at hh ⊢
    omega

/-- The armed ratio takes effect with the position continuous. -/
theorem axisGearSwitch_spec {x : AxisSt} (h : t.axes[n]? = some x) : (axisGearSwitch n t).axes[n]? = some { x with
    sa := x.sa + Int.fdiv (x.num * signedDiff 32 (nth 0 t.enc (apN t n 1)) x.ma) x.den, ma := x.armPos, num := x.armNum, den := x.armDen
    armed := false } := by
  unfold axisGearSwitch gearPos
  rw [axisOf_of_getElem? h, raise_axes]
  exact onAxis_getElem? h _

/-- A round over the axes in which each due one is served: of axis `n` it shows what its own turn, if it is due, makes of it. -/
theorem round_turn {c : Nat → State → Prop} [∀ m s, Decidable (c m s)] {g : Nat → State → State} (only : ∀ m s, AxisOnly m s (g m s)) {k : Nat}
    (hn : n < k) (s : State) : ∃ u, AxisStays n s u ∧
      ((upTo k).foldl (fun s m => if c m s then g m s else s) s).enc = s.enc ∧
      ((upTo k).foldl (fun s m => if c m s then g m s else s) s).pins = s.pins ∧
      (c n u → ((upTo k).foldl (fun s m => if c m s then g m s else s) s).axes[n]? = (g n u).axes[n]?) ∧
      (¬ c n u → ((upTo k).foldl (fun s m => if c m s then g m s else s) s).axes[n]? = u.axes[n]?) := by
  have turn (m : Nat) (s : State) : AxisOnly m s (if c m s then g m s else s) := .ite (only m s) (.refl s)
  obtain ⟨u, before, after⟩ := foldl_turn (n := n) (k := k) (R := AxisStays n) (f := fun m s => if c m s then g m s else s) .refl
    (fun a b => a.trans b) (fun m s hm => (turn m s).stays hm) hn s
  obtain ⟨enc, pins⟩ := before.inputs
  obtain ⟨enc', pins'⟩ := (turn n u).inputs
  obtain ⟨enc'', pins''⟩ := after.inputs
  have here := after.here
  refine ⟨u, before, enc''.trans (enc'.trans enc), pins''.trans (pins'.trans pins), fun h => ?_, fun h => ?_⟩
  · rw [here, if_pos h]
  · rw [here, if_neg h]

/-- The step of a coarse input as one axis sees it. -/
theorem coarseStep_spec {x : AxisSt} {k : Nat} (hn : n < 16) (h : s.axes[n]? = some x) (up : Bool) : ∃ y, (coarseStep k up s).axes[n]? = some y ∧
    y.pos = x.pos ∧ (coarseStep k up s).enc = s.enc ∧ (x.doing = 2 → ap s n 0 = 1 → apN s n 1 = k →
      y.backlog = x.backlog + (if up then (apN s n 0x0B : Int) else -(apN s n 0x0B : Int)) ∧
      (2 * apN s n 0x0B < y.backlog.natAbs → y.interpOvr = true)) ∧ (x.doing ≠ 2 ∨ ap s n 0 ≠ 1 ∨ apN s n 1 ≠ k → y = x) := by
  obtain ⟨u, before, enc, -, due, rest⟩ := round_turn (n := n) (k := 16) (c := fun m s => (axisOf s m).doing = 2 ∧ ap s m 0 = 1 ∧ apN s m 1 = k)
    (g := fun m s => axisCoarseStep m up s) (fun m s => (AxisOnly.refl s).coarseStep up) hn s
  have hu : u.axes[n]? = some x := before.here.trans h
  have ap_u (j : Nat) : ap u n j = ap s n j := before.act_eq _
  have apN_u (j : Nat) : apN u n j = apN s n j := congrArg Int.toNat (ap_u j)
  rw [axisOf_of_getElem? hu, ap_u, apN_u] at due rest
  by_cases hc : x.doing = 2 ∧ ap s n 0 = 1 ∧ apN s n 1 = k
  · obtain ⟨y, hy, pos, back, ovr⟩ := axisCoarseStep_spec hu up
    rw [apN_u] at back ovr
    obtain ⟨h1, h2, h3⟩ := hc
    refine ⟨y, (due ⟨h1, h2, h3⟩).trans hy, pos, enc, fun _ _ _ => ⟨back, ovr⟩, fun hn => ?_⟩
    rcases hn with h | h | h
    · exact absurd h1 h
    · exact absurd h2 h
    · exact absurd h3 h
  · exact ⟨x, (rest hc).trans hu, rfl, enc, fun h1 h2 h3 => absurd ⟨h1, h2, h3⟩ hc, fun _ => rfl⟩

/-- The step of an encoder as one axis sees it: a ratio armed at the new count fires (R386). -/
theorem encoderStep_spec {x : AxisSt} {e m : Nat} (hn : n < 16) (h : s.axes[n]? = some x) (he : s.enc[e]? = some m) (up : Bool) :
    ∃ y, (encoderStep e up s).axes[n]? = some y ∧ y.pos = x.pos ∧ (encoderStep e up s).pins = s.pins ∧
      (encoderStep e up s).enc[e]? = some (if up then wrapInc 32 m else (m + 2 ^ 32 - 1) % 2 ^ 32) ∧
      (∀ j, j ≠ e → (encoderStep e up s).enc[j]? = s.enc[j]?) ∧
      (x.armed = true → ap s n 0 = 2 → apN s n 1 = e → (encoderStep e up s).enc[e]? = some x.armPos →
        y.armed = false ∧ y.num = x.armNum ∧ y.den = x.armDen ∧ y.ma = x.armPos ∧
        y.sa = x.sa + Int.fdiv (x.num * signedDiff 32 x.armPos x.ma) x.den) ∧
      (x.armed = false → y = x) := by
  unfold encoderStep
  dsimp only
  generalize hv : { s with enc := modNth s.enc e (fun m => if up then wrapInc 32 m else (m + 2 ^ 32 - 1) % 2 ^ 32) } = v
  have hx : v.axes[n]? = some x := by rw [← hv]; exact h
  have hpins : v.pins = s.pins := by rw [← hv]
  have hap (j : Nat) : ap v n j = ap s n j := by rw [← hv]; rfl
  have hat : v.enc[e]? = some (if up then wrapInc 32 m else (m + 2 ^ 32 - 1) % 2 ^ 32) := by
    rw [← hv]
    exact (getElem?_modNth_same ..).trans (by rw [he]; rfl)
  have hother (j : Nat) (hj : j ≠ e) : v.enc[j]? = s.enc[j]? := by
    rw [← hv]
    exact getElem?_modNth_other _ _ _ _ hj
  obtain ⟨u, before, enc, pins, due, rest⟩ := round_turn (n := n) (k := 16)
    (c := fun m s => (axisOf s m).armed ∧ ap s m 0 = 2 ∧ apN s m 1 = e ∧ (axisOf s m).armPos = nth 0 s.enc e)
    (g := axisGearSwitch) (fun m s => (AxisOnly.refl s).gearSwitch) hn v
  have hu : u.axes[n]? = some x := before.here.trans hx
  have ap_u (j : Nat) : ap u n j = ap s n j := (before.act_eq _).trans (hap j)
  have apN_u (j : Nat) : apN u n j = apN s n j := congrArg Int.toNat (ap_u j)
  have enc_u : u.enc = v.enc := before.inputs.1
  rw [axisOf_of_getElem? hu, ap_u, apN_u, enc_u] at due rest
  have fired := axisGearSwitch_spec hu
  rw [apN_u, enc_u] at fired
  rw [enc, pins]
  by_cases hc : x.armed ∧ ap s n 0 = 2 ∧ apN s n 1 = e ∧ x.armPos = nth 0 v.enc e
  · refine ⟨_, (due hc).trans fired, rfl, hpins, hat, hother, fun _ _ h3 h4 => ⟨rfl, rfl, rfl, rfl, ?_⟩, fun h => ?_⟩
    · rw [h3, nth_of_getElem? h4]
    · exact absurd hc.1 (by rw [h]; decide)
  · exact ⟨x, (rest hc).trans hu, rfl, hpins, hat, hother,
      fun h1 h2 h3 h4 => absurd ⟨h1, h2, h3, (nth_of_getElem? h4).symm⟩ hc, fun _ => rfl⟩

/-! ### The levels that the filters pass (R62) -/

/-- A sample run at the filtered level, or too short to pass, leaves that level. -/
theorem Filt.feed_holds {n k : Nat} {l : Bool} {f : Filt} (h : l = f.level ∨ f.run + k < n) : (f.feed n l k).level = f.level := by
  by_cases hl : l = f.level
  · rw [feed, if_pos hl]
  · rw [feed_short hl (h.resolve_left hl)]

/-- A coarse input that does not rise through its filter only moves that filter. -/
theorem coarseEdge_quiet {k i : Nat} {l : Bool} (up : Bool) (h : ((nth {} s.pins.step k).feed (padFilter s 15) l i).level = false ∨
    (nth {} s.pins.step k).level = true) : ∃ p, coarseEdge k l i up s = { s with pins := { s.pins with step := p } } := by
  refine ⟨_, if_neg ?_⟩
  rcases h with h | h
  · simp [h]
  · simp [h]

/-- The filters of an encoder's two inputs after a run of samples on one of them. -/
def encoderPins (e : Nat) (b l : Bool) (i : Nat) (s : State) : PinSt := { s.pins with
  encA := s.pins.encA.set e (if b then nth {} s.pins.encA e else (nth {} s.pins.encA e).feed (padFilter s 15) l i)
  encB := s.pins.encB.set e (if b then (nth {} s.pins.encB e).feed (padFilter s 15) l i else nth {} s.pins.encB e) }

/-- An encoder's input whose filtered level stays only moves its filter. -/
theorem encoderEdge_quiet {e i : Nat} {b l : Bool} (h : ((nth {} (if b then s.pins.encB else s.pins.encA) e).feed (padFilter s 15) l i).level =
    (nth {} (if b then s.pins.encB else s.pins.encA) e).level) : encoderEdge e b l i s = { s with pins := encoderPins e b l i s } := by
  cases b
  · exact if_pos ⟨h, rfl⟩
  · exact if_pos ⟨rfl, h⟩

/-- An encoder's input that changes through its filter counts, in the direction that the two levels give (R385). -/
theorem encoderEdge_counts {e i : Nat} {b l : Bool}
    (h : (nth {} (if b then s.pins.encB else s.pins.encA) e).feed (padFilter s 15) l i = { level := l, run := 0 })
    (hl : l ≠ (nth {} (if b then s.pins.encB else s.pins.encA) e).level) :
    encoderEdge e b l i s = encoderStep e (if b then (nth {} s.pins.encA e).level == l else l != (nth {} s.pins.encB e).level)
      { s with pins := encoderPins e b l i s } := by
  unfold encoderEdge encoderPins
  cases b
  · simp only [Bool.false_eq_true, if_false] at h hl ⊢
    rw [h, if_neg fun hh => hl hh.1]
  · simp only [if_true] at h hl ⊢
    rw [h, if_neg fun hh => hl hh.2]

/-- The filter that a run of samples moved, read back. -/
theorem encoderPins_moved {e i : Nat} {b l : Bool} (ha : e < s.pins.encA.length) (hb : e < s.pins.encB.length) :
    nth {} (if b then (encoderPins e b l i s).encB else (encoderPins e b l i s).encA) e =
      (nth {} (if b then s.pins.encB else s.pins.encA) e).feed (padFilter s 15) l i := by
  cases b
  · exact nth_set_same {} _ ha
  · exact nth_set_same {} _ hb

end

/-- Settles O43; the runs of samples brought with an edge are log 42's choice, the signed 32-bit master difference log 19's. -/
theorem axisTicks : Obligations.AxisTicks := by
  unfold Obligations.AxisTicks
  refine ⟨?tick, ?coarse, ?short, ?encoder, ?bounce, ?distance, ?standstill, ?powered, ?memory, ?rewritten⟩
  case tick =>
    intro s n d c x hc hp he hs h hk hw h0 h1
    have run := axisTick_runs (d := d) hp he hs h hk hw
    have hap (k : Nat) (hk : k < 0x80) : ap (axisTaken n d s) n k = c k := (axisTaken_ap hk d s).trans (hc k).symm
    obtain ⟨e, p, o, m, permit, taken⟩ := axisTaken_kept n d s
    have hpermit : p = (c 0x19 == 0 || permitBit s (32 + n)) := by
      rw [permit, axisPermit, hap _ (by decide), taken]
      rfl
    have latched : AxisIs n (axisLatched p o m x) (axisTaken n d s) := by
      refine AxisIs.of_getElem? ?_
      rw [taken]
      show (modNth s.axes n _)[n]? = _
      rw [getElem?_modNth_same, h]
      rfl
    have st : standby (axisTaken n d s) = false := by rw [taken]; exact h0
    have hl : holdLine (axisTaken n d s) = false := by rw [taken]; exact h1
    have din : dinLevels (axisTaken n d s) = dinLevels (dinFeed d s) := by rw [taken]; rfl
    have only : AxisOnly n (axisTaken n d s) (axisTick n d s) := by
      rw [run]
      exact ((AxisOnly.refl _).decide st hl).event
    have others (j : Nat) (hj : j ≠ n) : (axisTick n d s).axes[j]? = s.axes[j]? := by
      rw [only.others j hj, taken]
      exact getElem?_modNth_other _ _ _ _ hj
    have len : n < (axisTick n d s).axes.length := by
      rw [only.length, taken]
      exact (length_modNth ..).symm ▸ (List.getElem?_eq_some_iff.mp h).1
    have rest : (axisTick n d s).loops = s.loops ∧ (axisTick n d s).enc = s.enc ∧ (axisTick n d s).pins = (dinFeed d s).pins ∧
        (axisTick n d s).host.params = s.host.params := by
      rw [only.eq, taken]
      exact ⟨rfl, rfl, rfl, rfl⟩
    obtain ⟨loops, enc, pins, params⟩ := rest
    obtain ⟨y, hy⟩ : ∃ y, (axisTick n d s).axes[n]? = some y := ⟨_, List.getElem?_eq_getElem len⟩
    have ticks : y.ticks = wrapInc 32 x.ticks := by
      have := only.ticks
      rw [axisOf_of_getElem? hy] at this
      obtain ⟨_, _, _, _, own⟩ := latched.own
      rw [this, own]
      rfl
    have seen {z : AxisSt} (a : AxisIs n z (axisDecide n (axisTaken n d s))) :
        ∃ c e l w, y = { z with changes := c, lastEvt := e, en := l, waking := w } := by
      have b := a.event
      rw [← run] at b
      exact b.eq hy
    have active (hcause : x.cause = 0) (hmem : x.memFault = false) (hper : c 0x19 = 0) :
        axisDecide n (axisTaken n d s) = axisActive n (axisTaken n d s) :=
      latched.decideActive st hl hcause hmem (by
        show p = true
        rw [hpermit, hper]
        rfl)
    refine ⟨oneCycle (axisTick n d) s, y, rfl, hy, ticks, others, loops, enc, pins, params, ?fault, ?inhibit, ?rest, ?start, ?move, ?follow, ?home⟩
    case fault =>
      intro h
      obtain ⟨_, _, _, _, rfl⟩ := seen (latched.decideFault st hl h)
      exact ⟨rfl, rfl⟩
    case inhibit =>
      intro hcause hmem hper hbit
      obtain ⟨z, hz, hst, hdo, hpos, hmoved, hrest⟩ := latched.decideInhibit st hl hcause hmem (by
        show p = false
        rw [hpermit, hbit]
        simpa using hper)
      obtain ⟨_, _, _, _, rfl⟩ := seen hz
      exact ⟨hst, hdo, hpos, hmoved, hrest⟩
    case rest =>
      intro hcause hmem hper hsrc hdo hpend
      have a := latched.rests ((hap _ (by decide)).trans hsrc) hdo hpend
      rw [← active hcause hmem hper] at a
      obtain ⟨_, _, _, _, rfl⟩ := seen a
      exact ⟨rfl, rfl, rfl⟩
    case start =>
      intro g hcause hmem hper hsrc hdo hpend hne hdown hunc hg hg' hx hx'
      obtain ⟨u, hu, b⟩ := latched.starts ((hap _ (by decide)).trans hsrc) hdo hpend hunc
      obtain ⟨z, hz, hst, htarget, hp', hdir, lo, hi⟩ := b.begin hne hdown ⟨hg, hg'⟩ ⟨hx, hx'⟩
      rw [← hu, ← active hcause hmem hper] at hz
      obtain ⟨_, _, _, _, rfl⟩ := seen hz
      exact ⟨hst, htarget, hp', hdir, lo, hi⟩
    case move =>
      intro hcause hmem hper hsrc hdo hne hfrac hdir hg hg' hx hx'
      obtain ⟨z, ended, goes, moved⟩ := latched.moves ((hap _ (by decide)).trans hsrc) hdo hne hfrac hdir ⟨hg, hg'⟩ ⟨hx, hx'⟩
      rw [← active hcause hmem hper] at ended goes
      have speed : apN (axisTaken n d s) n 5 = (c 5).toNat := congrArg Int.toNat (hap _ (by decide))
      rcases moved.outcome with ⟨hpos, hz, hv, hmoves, -⟩ | ⟨hpos, hz, hv, hmoves, -⟩
      · obtain ⟨_, _, _, _, rfl⟩ := seen (ended hz)
        exact ⟨moved.target, moved.within.1, moved.within.2, ⟨fun _ => hz, fun _ => hpos⟩, fun _ => ⟨rfl, hv, hmoves⟩,
          fun h => absurd hz h, moved.uncertain⟩
      · have going : z.doing ≠ 0 := by rw [hz]; show x.doing ≠ 0; omega
        obtain ⟨_, _, _, _, rfl⟩ := seen (goes going)
        rw [speed] at hv
        exact ⟨moved.target, moved.within.1, moved.within.2, ⟨fun h => absurd h hpos, fun h => absurd h going⟩, fun h => absurd h going,
          fun _ => ⟨moved.state, hv, hmoves⟩, moved.uncertain⟩
    case follow =>
      intro hcause hmem hper hsrc hlo h1' h2' hhi
      have lo := hap 9 (by decide)
      have hi := hap 10 (by decide)
      obtain ⟨z, hz, hst, hlow, hhigh⟩ := latched.follows (by rw [hap _ (by decide)]; exact hsrc) (by rw [lo]; exact hlo) (by rw [lo]; exact h1')
        (by rw [hi]; exact h2') (by rw [hi]; exact hhi)
      rw [← active hcause hmem hper] at hz
      rw [lo] at hlow
      rw [hi] at hhigh
      obtain ⟨_, _, _, _, rfl⟩ := seen hz
      exact ⟨hst, hlow, hhigh⟩
    case home =>
      intro hcause hmem hper hsrc hdo hlevel
      have pin : apN (axisTaken n d s) n 0x10 = (c 0x10).toNat := congrArg Int.toNat (hap _ (by decide))
      have level : apN (axisTaken n d s) n 0x11 = (c 0x11).toNat := congrArg Int.toNat (hap _ (by decide))
      have a := latched.finds ((hap _ (by decide)).trans hsrc) hdo (by rw [din, pin, level]; exact hlevel)
      rw [← active hcause hmem hper] at a
      obtain ⟨_, _, _, _, rfl⟩ := seen a
      exact ⟨rfl, rfl, hap _ (by decide), rfl, rfl⟩
  case coarse =>
    intro s k n i up x hp hk hn h hf hr
    have fed := Filt.feed_passes (lv := true) (by simp [hf]) hr
    have run : exec (.coarseStepEdge k ⟨true, i, up⟩) s = .next (coarseStep k up
        { s with pins := { s.pins with step := s.pins.step.set k ((nth {} s.pins.step k).feed (padFilter s 15) true i) } }) := by
      refine congrArg Host.Outcome.next ((if_pos (by simp [hp, hk])).trans (if_pos ?_))
      rw [fed, hf]
      rfl
    obtain ⟨y, hy, pos, enc, due, rest⟩ := coarseStep_spec (s := { s with pins := { s.pins with
      step := s.pins.step.set k ((nth {} s.pins.step k).feed (padFilter s 15) true i) } }) hn h up
    exact ⟨_, y, run, hy, pos, enc, due, rest⟩
  case short =>
    intro s k i l up hp hk hq
    have quiet : ((nth {} s.pins.step k).feed (padFilter s 15) l i).level = false ∨ (nth {} s.pins.step k).level = true := by
      cases hf : (nth {} s.pins.step k).level
      · rw [Filt.feed_holds (by rw [hf] at hq ⊢; simpa using hq)]
        exact .inl hf
      · exact .inr rfl
    obtain ⟨p, hp'⟩ := coarseEdge_quiet up quiet
    exact ⟨p, congrArg Host.Outcome.next ((if_pos (by simp [hp, hk])).trans hp')⟩
  case encoder =>
    rintro s e m n i b l up x f hp he hm hlt hn h rfl hl hr rfl hA hB
    have fed := Filt.feed_passes hl hr
    have run : exec (.encoderEdge e ⟨b, l, i⟩) s = .next (encoderStep e
        (if b then (nth {} s.pins.encA e).level == l else l != (nth {} s.pins.encB e).level) { s with pins := encoderPins e b l i s }) :=
      congrArg Host.Outcome.next ((if_pos (by simp [hp, he])).trans (encoderEdge_counts fed hl))
    have moved := encoderPins_moved (s := s) (e := e) (i := i) (b := b) (l := l) (by omega) (by omega)
    generalize (if b then (nth {} s.pins.encA e).level == l else l != (nth {} s.pins.encB e).level) = up at run ⊢
    obtain ⟨y, hy, pos, pins, count, others, fires, rest⟩ := encoderStep_spec (s := { s with pins := encoderPins e b l i s }) hn h hm up
    refine ⟨_, y, run, ?_, ?_, others, hy, pos, fires, rest⟩
    · rw [pins]
      exact congrArg Filt.level (moved.trans fed)
    · rw [count]
      cases up
      · simp only [Bool.false_eq_true, if_false, Option.some.injEq]
        split
        · omega
        · omega
      · simp only [if_true, wrapInc]
  case bounce =>
    rintro s e i b l f hp he rfl hq
    exact ⟨_, congrArg Host.Outcome.next ((if_pos (by simp [hp, he])).trans (encoderEdge_quiet (Filt.feed_holds hq)))⟩
  case distance =>
    intro s n x hp h hd ht
    have own := axisOf_of_getElem? h
    have run : exec (.homingDistFault n) s = .next (axisFault n 3 s) := congrArg Host.Outcome.next (if_pos (by simp [hp, own, hd, ht]))
    obtain ⟨lost, -, a⟩ := (AxisIs.of_getElem? h).fault 3
    obtain ⟨c, e, l, w, here⟩ := a.here
    exact ⟨_, _, run, here, rfl, rfl, rfl, rfl, ((AxisOnly.refl s).fault 3).others⟩
  case standstill =>
    intro s n x hp h hs hd hdo hw
    have own := axisOf_of_getElem? h
    have run : exec (.standstillDelayExpiry n) s = .next (axisLevels n (onAxis n (fun l => { l with down := true }) s)) :=
      congrArg Host.Outcome.next (if_pos (by rcases hs with hs | hs <;> simp [hp, own, hs, hd, hdo, hw]))
    obtain ⟨c, e, l, w, here⟩ := ((AxisIs.of_getElem? h).apply (fun l => { l with down := true })).levels.here
    exact ⟨_, _, run, here, rfl, rfl, rfl, rfl, ((AxisOnly.refl s).update (f := fun l => { l with down := true })).levels.others⟩
  case powered =>
    intro s n x hp h hw
    have own := axisOf_of_getElem? h
    have run : exec (.standstillPowerupDone n) s = .next (axisLevels n (onAxis n (fun l => { l with down := false, waking := false }) s)) :=
      congrArg Host.Outcome.next (if_pos (by simp [hp, own, hw]))
    exact ⟨_, _, run, onAxis_getElem? (onAxis_getElem? h _) _, rfl, rfl, rfl, rfl, rfl,
      ((AxisOnly.refl s).update (f := fun l => { l with down := false, waking := false })).levels.others⟩
  case memory =>
    intro s n x hp hn he h
    have run : exec (.axisMemoryEcc n) s = .next (failLatch 6 (axisFault n 0 (onAxis n (fun l => { l with memFault := true })
        (onAxis n (fun l => { l with uncertain := true, rewriting := true }) s)))) := by
      refine congrArg Host.Outcome.next ((if_neg (by simp [hp]; omega)).trans ?_)
      exact congrArg (failLatch 6) (if_pos he)
    have marked := ((AxisIs.of_getElem? h).apply (fun l => { l with uncertain := true, rewriting := true })).apply
      (fun l => { l with memFault := true })
    have only := (((AxisOnly.refl (n := n) s).update (f := fun l => { l with uncertain := true, rewriting := true })).update
      (f := fun l => { l with memFault := true })).fault 0
    obtain ⟨lost, known, a⟩ := marked.fault 0
    obtain ⟨c, e, l, w, here⟩ := a.here
    generalize axisFault n 0 (onAxis n (fun l => { l with memFault := true })
        (onAxis n (fun l => { l with uncertain := true, rewriting := true }) s)) = u at run only here
    have axes : (failLatch 6 u).axes = u.axes := (sameMain (mainPart_failLatch 6 u)).axes
    have there := (congrArg (fun l : List AxisSt => l[n]?) axes).trans here
    refine ⟨_, _, run, there, rfl, rfl, known rfl, rfl, rfl, rfl, rfl, rfl, ?_, fun m hm => by rw [axes]; exact only.others m hm⟩
    cases hf : u.pair.fail
    · exact (failLatch_spec hf 6).1
    · rw [failLatch_set hf]
      exact hf
  case rewritten =>
    intro s n x hm h
    refine ⟨_, congrArg Host.Outcome.next (if_pos hm), ?_, fun m hm => getElem?_modNth_other _ _ _ _ hm⟩
    show (modNth s.axes n _)[n]? = _
    rw [getElem?_modNth_same, h]
    rfl

end Sys2Proof.Machine
end
